-- ==== Sys2Proof/Word.lean ====
section
/-!
DEFINITION. The words the spec speaks of and the shape of sparse storage.
Bit vectors hold what the spec treats as bits; counts, indexes and addresses once computed are natural numbers.
-/
namespace Sys2Proof

abbrev Byte := BitVec 8
abbrev W16 := BitVec 16
abbrev W32 := BitVec 32
abbrev W64 := BitVec 64

/-- Sparse storage: a list of (key, value) pairs. The canonical form (keys strictly rising, no value equal to the
default) is `Map.wf`; an unlisted key reads as `default`, which is the value the key's unit has at reset. -/
structure Map (α : Type) where
  cells : List (Nat × α) := []
deriving DecidableEq, Repr, Inhabited

/-- A memory of bytes: `cells` is a list of `Host.Cell`. An unlisted address reads as zero. -/
abbrev Memory := Map Byte

end Sys2Proof
end

