-- ==== Sys2Proof/Syntax.lean ====
section
/-!
DEFINITION. The commands the block takes: one constructor for each row of the opcode table. A command's operands are
what comes from outside with it: the port and the value written, the bytes a device read returned, a measured value,
the fields of a message or of an instruction word.
-/
namespace Sys2Proof

/-- The four ports that write and read registers, each with its own latches and held words (R19): host ports A and B,
the management port and the command ring. -/
inductive Port where
  | a | b | mgmt | ring
deriving DecidableEq, Repr, Inhabited

/-- Why a host port's link went down (Table 16-12). -/
inductive LinkDownCause where
  | surpriseDown | retraining | portReset
deriving DecidableEq, Repr, Inhabited

/-- How a register-access message arrives (R473, Table 16-12): whole, malformed, or with a bad PEC. -/
inductive MgmtForm where
  | ok | malformed | badPec
deriving DecidableEq, Repr, Inhabited

/-- The unit that issued a device read of host memory (R452). -/
inductive ReadUnit where
  /-- The armature loader's fetch. -/
  | image
  /-- A model package of slot k. -/
  | package (k : Nat)
  /-- The weight load at the head of the load queue. -/
  | tile
  /-- Prefix slot k. -/
  | prefixSlot (k : Nat)
  /-- The image of grammar slot g. -/
  | grammarImage (g : Nat)
  /-- A grammar state or bitset read of slot g for a sequence. -/
  | grammarState (g inst slot : Nat)
  /-- The descriptor at the head of submission ring r. -/
  | descriptor (r : Nat)
  /-- The allowed-token list of ring r's head descriptor. -/
  | tokenList (r : Nat)
  /-- A prompt chunk of a sequence. -/
  | prompt (inst slot : Nat)
  /-- The entry at the command ring's head. -/
  | command
  /-- A far-tier leg of a sequence. -/
  | farTier (inst slot : Nat)
  /-- The read-back of a record batch of ring r. -/
  | recordReadback (r : Nat)
  /-- The read-back of copied event-ring entries. -/
  | eventReadback
deriving DecidableEq, Repr, Inhabited

/-- Frames and messages of the Icpen links (17). -/
inductive IcpKind where
  | flit | ack | nak | idle | lanedrop | discovery | training | hello | authShare | authCert | authSig | authResult
  | rekey | data | plan | step | result | short | digest | time
deriving DecidableEq, Repr, Inhabited

/-- Fabric message kinds (Table 10-2). -/
inductive FabKind where
  | write | read | signal | dispatch | register | data | ack | nack | idle
deriving DecidableEq, Repr, Inhabited

/-- Work that one unit hands to another. -/
inductive WorkKind where
  | strike | planeLoad | planeSwap | move | handoff | gather | vector | softmax | result | boundary
deriving DecidableEq, Repr, Inhabited

/-- What executes an instruction: thread t of logical core n, or thread t (0–127) of pedestal p's stack engines. -/
inductive Exec where
  | core (n t : Nat)
  | engine (p t : Nat)
deriving DecidableEq, Repr, Inhabited

inductive Instr where
  /-- REGISTER_WRITE: A host, management or ring write to a register that has no row of its own acts by the register's access code (R14) -/
  | registerWrite (port : Port) (bar : Nat) (off : Nat) (size : Nat) (value : Nat)
  /-- LOW_REGISTER_READ: A read of the low register of a 64-bit pair latches the high register's value for the reading port (R19) -/
  | lowRegisterRead (port : Port) (off : Nat) (size : Nat)
  /-- MISALIGNED_READ: A misaligned read returns all ones, reads no register, latches nothing and logs event 0x6001 (R13) -/
  | misalignedRead (port : Port) (bar : Nat) (off : Nat) (size : Nat)
  /-- INPUT_VALID: VIN has stayed in range for 5 ms, so the cold dawn starts with the soft-start of the intermediate bus (R537) -/
  | inputValid 
  /-- RAILS_IN_REGULATION: Every rail is in regulation, so PWR_GOOD asserts and the fuses, straps and SLOT_ID are sampled (R565) -/
  | railsInRegulation (slotId strap : Nat)
  /-- FRIEZE_PLL_LOCK: The frieze PLL locks: device time starts, the seam hub and governor run, and ARM_FLOOR and the adopted hashes are restored (R563) -/
  | friezePllLock (identityOk : Bool)
  /-- CORE_PLL_LOCK: The core and sequencing PLLs lock at ratio 1/16, and the scratchpads and cluster memories are zeroed (R565) -/
  | corePllLock 
  /-- CAL_POOL_READ_COMPLETE: A die has read its calibration pool, and each array takes its valid record or the factory coefficients (R198) -/
  | calPoolReadComplete (die : Nat) (bad : List Nat)
  /-- DAWN_COMPLETE: The stacks are zeroed, event 0x1C02 is logged and the loader accepts LOAD (R565) -/
  | dawnComplete (us : Nat)
  /-- INPUT_OUT_OF_RANGE: VIN has stayed low or high for 1 ms, so a warning is logged and a low input limits current (R539) -/
  | inputOutOfRange (mv : Nat) (high : Bool)
  /-- INPUT_TRIP: A trip comparator fires after its filter, so the input stage opens, the rails collapse and FAULT_N asserts (R540) -/
  | inputTrip (value cause : Nat)
  /-- TRIP_RESTART: The input has been valid for 1 s after a trip, so the device restarts from dawn within its restart limit (R540) -/
  | tripRestart (now : Nat)
  /-- VIN_BELOW_20V: VIN has stayed below 20 V for 100 ms, which releases FAULT_N, THERMTRIP_N and the restart lockout (R540) -/
  | vinBelow20V 
  /-- POWER_PHASE_LOST: A buck phase trips or fails to switch, and the other phases of its rail take its current (R542) -/
  | powerPhaseLost (rail phase cause : Nat)
  /-- GOVERNOR_TICK: Every 10 µs the governor estimates demand, moves its envelope at the ramp and sets ratios, pacing and ballast (R544) -/
  | governorTick (demand load govW govE : Nat) (limit : Option Nat) (paces : List (Nat × Nat))
  /-- SHUTDOWN: PWR_CMD SHUTDOWN begins a planned shutdown: steps stop or run on, sequences are evicted and the ratios fall (R550) -/
  | shutdown (port : Port)
  /-- SHUTDOWN_RAILS_OFF: The envelope has reached 0, so PWR_GOOD deasserts, the rails switch off and the input stage opens (R550) -/
  | shutdownRailsOff 
  /-- POWER_STATE_ENTRY: An eligible domain enters the deepest state whose wake fits before its next known event (R557) -/
  | powerStateEntry (domain kind next : Nat) (paces : List Nat)
  /-- WAKE_START: A domain begins its scheduled wake ahead of its next known event, or at once on a wake trigger (R557) -/
  | wakeStart (domain : Nat) (delayed : Bool)
  /-- WAKE_COMPLETE: A domain reaches Noon after its wake, with state restored as its depth requires (R567) -/
  | wakeComplete (domain us : Nat) (identityOk : Bool)
  /-- CRYSTAL_LOCK: The crystal has run within 200 ppm for 500 ms, so the vesper domain moves to it (R562) -/
  | crystalLock 
  /-- CRYSTAL_TIMEOUT: No crystal has locked 2 s after input valid, so the vesper domain stays on the RC oscillator (R562) -/
  | crystalTimeout 
  /-- CRYSTAL_STOPPED: A crystal that has stopped is detected and the vesper domain falls back to the RC oscillator (R562) -/
  | crystalStopped 
  /-- REFERENCE_LOST: LINK_REFCLK stops, the PLLs fed from it lose lock and the vesper domain keeps device time (R564) -/
  | referenceLost 
  /-- REFERENCE_RETURN: LINK_REFCLK returns and the domains wake as from Night under the governor (R564) -/
  | referenceReturn 
  /-- DEVICE_RESET: The device reset command stops every instance, resets the registers and re-runs dawn from the core clocks (R468) -/
  | deviceReset (by_ : Port)
  /-- PERST_ASSERTION: Assertion of PERST_x_N resets that host port and invalidates the holders that use that port alone (R469) -/
  | perstAssertion (port : Nat)
  /-- HOT_RESET: A hot reset or link disable received on a port is a port reset (R469) -/
  | hotReset (port : Nat)
  /-- FUNCTION_LEVEL_RESET: A function level reset of a port acts as a port reset (R469) -/
  | functionLevelReset (port : Nat)
  /-- D3HOT_TO_D0: A port's move from D3hot to D0 is a port reset (R469) -/
  | d3hotToD0 (port : Nat)
  /-- PERST_DEASSERTION: Deassertion of PERST_x_N lets the port begin link training from the 6.0 ms dawn row (R566) -/
  | perstDeassertion (port : Nat)
  /-- PORT_LINK_UP: A host port link comes up, so queued transfers resume and reattached is set after a port reset (R470) -/
  | portLinkUp (port speed width : Nat) (msixEnable funcMask busMaster : Bool)
  /-- PORT_LINK_DOWN: A host port loses its link, so its device reads in flight fail and its transfers wait (R470) -/
  | portLinkDown (port : Nat) (cause : LinkDownCause)
  /-- COMPLETION_TIMEOUT: A device read has had no completion for 10 ms and becomes a completion error for its unit (R452) -/
  | completionTimeout (unit : ReadUnit)
  /-- ARM_LOAD: LOAD to the loader latches ARM_SRC and ARM_LEN and starts the image fetch, or fails with LENGTH (R57) -/
  | armLoad (port : Port)
  /-- ARM_SEAL: SEAL of a staged image holds admission to the affected instances, or completes BUSY (R57) -/
  | armSeal (port : Port)
  /-- ARM_DISCARD: DISCARD from the owner drops the loader's copy of the image (R57) -/
  | armDiscard (port : Port)
  /-- IMAGE_FETCH_COMPLETE: The last byte of the image is received, so the timeout stops and validation begins (R57) -/
  | imageFetchComplete (image : List Byte)
  /-- IMAGE_FETCH_ERROR: An image read returns a completion error, so the loader returns to IDLE with FETCH_ERROR (R57) -/
  | imageFetchError 
  /-- IMAGE_FETCH_TIMEOUT: The 100 ms fetch timeout expires, so the loader returns to IDLE with FETCH_ERROR (R57) -/
  | imageFetchTimeout 
  /-- VALIDATION_COMPLETE: Validation ends, either staging the image or rejecting it with the status of the first failing check (R60) -/
  | validationComplete 
  /-- SEAL_APPLY_COMPLETE: The apply phase of a seal ends: cores, plans, formats, power and ports take effect, and admission is released (R62) -/
  | sealApplyComplete 
  /-- STRIKE_LATCH: An array latches its next input vector: the slice is split into row classes, the active rows are counted and the zero test is made (R114) -/
  | strikeLatch (core pos : Nat)
  /-- STRIKE_BOUNDARY: A strike's last phase is converted: saturation flags are known, row-splits queue and sampled checks start (R75) -/
  | strikeBoundary (core pos : Nat) (conv : List (List Nat)) (overs : List (Nat × Nat))
  /-- LANE_CORRECTION_READY: A chisel lane's correction vector for the lane rows of a strike becomes ready (R115) -/
  | laneCorrectionReady (core pos : Nat)
  /-- FALLBACK_COMPLETE: The chisel path finishes a strike's fallback columns or overflow-exact rows, freeing a fallback place (R119) -/
  | fallbackComplete (core pos : Nat)
  /-- GROUP_RESULT_WRITE: An accumulation group's results are combined, scaled, rounded and written to the destination (R95) -/
  | groupResultWrite (core : Nat)
  /-- TILE_BOUNDARY: An array's tile completes: plane swaps, calibration takeovers and returns, new coefficients and clock changes take effect (R101) -/
  | tileBoundary (core pos : Nat)
  /-- PLANE_LOAD_START: A queued plane load begins writing its back plane once the plane-write path and the back plane are free (R98) -/
  | planeLoadStart (core pos : Nat)
  /-- PLANE_ROW_WRITTEN: A plane row is written and checked for parity, and is written again on failure (R99) -/
  | planeRowWritten (core pos : Nat) (parityOk : Bool)
  /-- PLANE_LOAD_COMPLETE: A back plane's load completes, its column sums become valid and its PLOAD retires (R98) -/
  | planeLoadComplete (core pos : Nat)
  /-- ARRAY_TEST_READ: A write of ARR_TEST_CTL starts a test read of one plane row, or the read is refused (R105) -/
  | arrayTestRead (core pos value : Nat)
  /-- ARRAY_TEST_READ_DONE: An accepted test read completes, filling ARR_TEST_DATA and setting done (R105) -/
  | arrayTestReadDone (core pos : Nat)
  /-- TILE_CHECK_COMPLETE: A sampled tile check completes, is compared against the strike error bound, and hands its sample record to calibration (R122) -/
  | tileCheckComplete (core pos : Nat)
  /-- GROUP_COMPARE: A primary compares a secondary's group results with its own, and a disagreement is a group mismatch (R128) -/
  | groupCompare (core : Nat)
  /-- ARBITRATION_COMPLETE: Redundancy arbitration ends by retiring the worse core or by suspending the pair (R131) -/
  | arbitrationComplete (primary : Nat) (missP missS : Nat)
  /-- LAYER_PASS_COMPLETE: A layer's pass is complete on every core of its instance, so its metric window is evaluated or restarted (R159) -/
  | layerPassComplete (inst layer : Nat)
  /-- RESET_FALLBACK: The RESET_FALLBACK command is registered for an instance's next step boundary (R164) -/
  | resetFallback (inst : Nat) (port : Port)
  /-- CAL_TURN_DUE: A calibration turn falls due and begins preparation, or is deferred while the spare array is held by a fault (R180) -/
  | calTurnDue (core : Nat)
  /-- SPARE_ARRAY_READY: The spare array's copy of the target is complete and its column sums agree, or it is copied again or retired (R173) -/
  | spareArrayReady (core : Nat) (frontOk backOk : Bool)
  /-- CAL_COMPARISON_COMPLETE: A target strike and its exact lane sums complete, yielding calibration samples (R175) -/
  | calComparisonComplete (core : Nat) (conv : List (List Nat)) (overs : List (Nat × Nat))
  /-- CAL_FIT_COMPLETE: The per-column fit completes, accepting, rejecting or leaving sparse each column (R176) -/
  | calFitComplete (core : Nat)
  /-- CAL_TURN_LIMIT: A turn reaches 2 s of Noon time, so it fits on the comparisons it has made or is abandoned (R181) -/
  | calTurnLimit (core : Nat)
  /-- CAL_PRIORITISE: PRIORITISE moves a position to the front of its core's calibration queue (R184) -/
  | calPrioritise (core pos : Nat) (port : Port)
  /-- CAL_SAVE: SAVE queues for saving every array of a core whose coefficients differ from its stored record (R195) -/
  | calSave (core : Nat) (port : Port)
  /-- HOURLY_SAVE: Every 3,600 s the arrays whose coefficients differ from their stored records are queued for saving (R195) -/
  | hourlySave 
  /-- CAL_RECORD_WRITE_COMPLETE: A calibration record write ends with its verification, and the old slot is erased or the write is retried (R195) -/
  | calRecordWriteComplete (die : Nat) (verified : Bool)
  /-- SAVE_HOLD_EXPIRY: A held save's 300 s since the array's last write pass, and the entry becomes writable (R196) -/
  | saveHoldExpiry (die core pos : Nat)
  /-- WAIT_TIMEOUT: A WAIT's timeout expires with its condition false, so the thread resumes with its predicate at 0 (R216) -/
  | waitTimeout (core thread : Nat)
  /-- THREAD_WATCHDOG: A thread's blocked or waiting count reaches CORE_WDOG.limit, so wdog is set and event 0x4401 is logged (R206) -/
  | threadWatchdog (core thread : Nat)
  /-- PARITY_FAILURE: An instruction's data fails parity, so it replays, or after the third replay the unit is retired (R220) -/
  | parityFailure (core flight path pos : Nat)
  /-- INSTRUCTION_RETIREMENT: An issued instruction retires, releasing its ranges and adding to its event counter (R211) -/
  | instructionRetirement (core flight : Nat)
  /-- COMPLETION_FAULT: A MOVE, PUSH, SEDISPATCH or SHAND ends with an error at its far end, faulting the issuing thread (R260) -/
  | completionFault (core flight : Nat) (se : Bool)
  /-- LAYER_BOUNDARY: A layer barrier closes once prior work, the mirror and the checkpoint are complete (R222) -/
  | layerBoundary (core : Nat)
  /-- NOP: NOP takes one issue slot and does nothing (R252) -/
  | nop (u : Exec) (w : Nat)
  /-- HALT: HALT stops the thread, or on a stack engine ends the thread and its dispatch (R252) -/
  | halt (u : Exec) (w : Nat)
  /-- FENCE: FENCE issues only once every earlier instruction of the thread in its scope has retired (R252) -/
  | fence (u : Exec) (w : Nat)
  /-- LAYER: A LAYER marker opens a layer barrier and starts the mirror of the named input range (R222) -/
  | layer (u : Exec) (w : Nat)
  /-- WAIT: WAIT tests an event counter and either continues or puts the thread into WAITING (R240) -/
  | wait (u : Exec) (w : Nat)
  /-- SIGNAL: SIGNAL adds an amount to an event counter of the issuing core, a named core or every core of the instance (R241) -/
  | signal (u : Exec) (w : Nat)
  /-- SREAD: SREAD writes a status value into a scalar register (R239) -/
  | sread (u : Exec) (w : Nat)
  /-- BR: BR jumps to its target (R238) -/
  | br (u : Exec) (w : Nat)
  /-- CALL: CALL saves the return address in the link register and jumps (R238) -/
  | call (u : Exec) (w : Nat)
  /-- JR: JR jumps to the address held in a register (R238) -/
  | jr (u : Exec) (w : Nat)
  /-- LOOP: LOOP decrements a register and jumps while it is non-zero (R238) -/
  | loop (u : Exec) (w : Nat)
  /-- ADD: Scalar add (R237) -/
  | add (u : Exec) (w : Nat)
  /-- SUB: Scalar subtract (R237) -/
  | sub (u : Exec) (w : Nat)
  /-- MUL: Scalar multiply, keeping the low 64 bits (R237) -/
  | mul (u : Exec) (w : Nat)
  /-- AND: Scalar bitwise AND (R237) -/
  | and (u : Exec) (w : Nat)
  /-- OR: Scalar bitwise OR (R237) -/
  | or (u : Exec) (w : Nat)
  /-- XOR: Scalar bitwise XOR (R237) -/
  | xor (u : Exec) (w : Nat)
  /-- SHL: Scalar shift left (R237) -/
  | shl (u : Exec) (w : Nat)
  /-- SHR: Scalar logical shift right (R237) -/
  | shr (u : Exec) (w : Nat)
  /-- SAR: Scalar arithmetic shift right (R237) -/
  | sar (u : Exec) (w : Nat)
  /-- MIN: Scalar signed minimum (R237) -/
  | min (u : Exec) (w : Nat)
  /-- MAX: Scalar signed maximum (R237) -/
  | max (u : Exec) (w : Nat)
  /-- MOVI: Loads a sign-extended immediate into a register (R237) -/
  | movi (u : Exec) (w : Nat)
  /-- MOVHI: Loads an immediate into the high half of a register, keeping the low half (R237) -/
  | movhi (u : Exec) (w : Nat)
  /-- CMPEQ: Compare equal into a predicate (R237) -/
  | cmpeq (u : Exec) (w : Nat)
  /-- CMPNE: Compare not equal into a predicate (R237) -/
  | cmpne (u : Exec) (w : Nat)
  /-- CMPLT: Signed compare less-than into a predicate (R237) -/
  | cmplt (u : Exec) (w : Nat)
  /-- CMPLE: Signed compare less-or-equal into a predicate (R237) -/
  | cmple (u : Exec) (w : Nat)
  /-- CMPLTU: Unsigned compare less-than into a predicate (R237) -/
  | cmpltu (u : Exec) (w : Nat)
  /-- PAND: Predicate AND (R237) -/
  | pand (u : Exec) (w : Nat)
  /-- POR: Predicate OR (R237) -/
  | por (u : Exec) (w : Nat)
  /-- PNOT: Predicate NOT (R237) -/
  | pnot (u : Exec) (w : Nat)
  /-- VADD: Vector add (R242) -/
  | vadd (u : Exec) (w : Nat)
  /-- VSUB: Vector subtract (R242) -/
  | vsub (u : Exec) (w : Nat)
  /-- VMUL: Vector multiply (R242) -/
  | vmul (u : Exec) (w : Nat)
  /-- VFMA: Vector fused multiply-add with one rounding (R242) -/
  | vfma (u : Exec) (w : Nat)
  /-- VMAX: Vector maximum (R242) -/
  | vmax (u : Exec) (w : Nat)
  /-- VMIN: Vector minimum (R242) -/
  | vmin (u : Exec) (w : Nat)
  /-- VCVT: Vector conversion to the destination type (R242) -/
  | vcvt (u : Exec) (w : Nat)
  /-- VDIV: Vector divide (R243) -/
  | vdiv (u : Exec) (w : Nat)
  /-- VRCP: Vector reciprocal (R242) -/
  | vrcp (u : Exec) (w : Nat)
  /-- VSQRT: Vector square root (R242) -/
  | vsqrt (u : Exec) (w : Nat)
  /-- VRSQRT: Vector reciprocal square root (R242) -/
  | vrsqrt (u : Exec) (w : Nat)
  /-- VEXP: Vector natural exponential (R242) -/
  | vexp (u : Exec) (w : Nat)
  /-- VEXP2: Vector base-2 exponential (R242) -/
  | vexp2 (u : Exec) (w : Nat)
  /-- VLOG: Vector natural logarithm (R242) -/
  | vlog (u : Exec) (w : Nat)
  /-- VTANH: Vector hyperbolic tangent (R242) -/
  | vtanh (u : Exec) (w : Nat)
  /-- VSIG: Vector sigmoid (R242) -/
  | vsig (u : Exec) (w : Nat)
  /-- VSILU: Vector SiLU (R242) -/
  | vsilu (u : Exec) (w : Nat)
  /-- VGELU: Vector GELU, tanh form (R242) -/
  | vgelu (u : Exec) (w : Nat)
  /-- VROPE: Vector positional rotation of element pairs (R243) -/
  | vrope (u : Exec) (w : Nat)
  /-- VSUM: Vector row sum reduction (R242) -/
  | vsum (u : Exec) (w : Nat)
  /-- VRMAX: Vector row maximum reduction (R242) -/
  | vrmax (u : Exec) (w : Nat)
  /-- VDOT: Vector row dot product reduction (R242) -/
  | vdot (u : Exec) (w : Nat)
  /-- VIADD: Saturating INT32 add (R242) -/
  | viadd (u : Exec) (w : Nat)
  /-- VISUB: Saturating INT32 subtract (R242) -/
  | visub (u : Exec) (w : Nat)
  /-- VIMUL: INT32 multiply (R242) -/
  | vimul (u : Exec) (w : Nat)
  /-- VIAND: INT32 bitwise AND (R242) -/
  | viand (u : Exec) (w : Nat)
  /-- VIOR: INT32 bitwise OR (R242) -/
  | vior (u : Exec) (w : Nat)
  /-- VIXOR: INT32 bitwise XOR (R242) -/
  | vixor (u : Exec) (w : Nat)
  /-- VISHL: INT32 shift left (R242) -/
  | vishl (u : Exec) (w : Nat)
  /-- VISAR: INT32 arithmetic shift right (R242) -/
  | visar (u : Exec) (w : Nat)
  /-- STRIKE: STRIKE sends one input vector to an accumulation group through the input stage (R245) -/
  | strike (u : Exec) (w : Nat)
  /-- GSET: GSET defines an accumulation group's members, scales, partial sum and destination (R244) -/
  | gset (u : Exec) (w : Nat)
  /-- PLOAD: PLOAD queues a load of a back plane from the weight stage or from a zero image (R246) -/
  | pload (u : Exec) (w : Nat)
  /-- PSWAP: PSWAP requests plane swaps of the positions in its mask (R246) -/
  | pswap (u : Exec) (w : Nat)
  /-- CHISEL: CHISEL sets the outlier level and the group input widths (R247) -/
  | chisel (u : Exec) (w : Nat)
  /-- MOVE: MOVE copies between a local range and a remote address (R248) -/
  | move (u : Exec) (w : Nat)
  /-- PUSH: PUSH fills the slot at a region's head (R249) -/
  | push (u : Exec) (w : Nat)
  /-- POP: POP takes the oldest filled slot of a region and returns its offset (R249) -/
  | pop (u : Exec) (w : Nat)
  /-- DROP: DROP releases the thread's oldest taken slot of a region (R249) -/
  | drop (u : Exec) (w : Nat)
  /-- SEDISPATCH: SEDISPATCH starts a stack-engine thread with a parameter block (R250) -/
  | sedispatch (u : Exec) (w : Nat)
  /-- SHAND: SHAND hands rows of logits to the sampler units (R251) -/
  | shand (u : Exec) (w : Nat)
  /-- ENGINE_THREAD_START: A waiting dispatch starts on the next free stack-engine thread (R254) -/
  | engineThreadStart (ped : Nat)
  /-- PGATHER_K: PGATHER.K reads and decodes the key half of one page (R255) -/
  | pgatherK (u : Exec) (w : Nat)
  /-- PGATHER_V: PGATHER.V reads and decodes the value half of one page (R255) -/
  | pgatherV (u : Exec) (w : Nat)
  /-- SINIT: SINIT sets every softmax state row empty (R257) -/
  | sinit (u : Exec) (w : Nat)
  /-- SSTEP: SSTEP masks and weighs the scores and updates the running maximum (R257) -/
  | sstep (u : Exec) (w : Nat)
  /-- SACC: SACC accumulates weighted values into the softmax state (R257) -/
  | sacc (u : Exec) (w : Nat)
  /-- SNORM: SNORM writes the normalised outputs and marks empty rows (R257) -/
  | snorm (u : Exec) (w : Nat)
  /-- SCOMB: SCOMB merges one softmax state into another (R257) -/
  | scomb (u : Exec) (w : Nat)
  /-- SERET: SERET copies engine window bytes to the dispatch's result range (R258) -/
  | seret (u : Exec) (w : Nat)
  /-- SCRUB_PASS_START: Every 100 ms a scratchpad or cluster-memory scrub pass starts (R280) -/
  | scrubPassStart (core : Bool) (n mem : Nat)
  /-- SCRUB_READ: A scrubber reads a block and corrects or poisons its words (R280) -/
  | scrubRead (core : Bool) (n mem : Nat) (corrected uncorrectable : List Nat)
  /-- SCRATCHPAD_RESTART: An uncorrectable scratchpad read in normal organisation restarts the core from its mirror (R282) -/
  | scratchpadRestart (core mem off : Nat)
  /-- RESTORE_COMPLETE: A restore from a mirror bank ends, and the core's threads resume (R286) -/
  | restoreComplete (core : Nat)
  /-- UNIFY: UNIFY asks a core to enter unified organisation at its next layer boundary (R287) -/
  | unify (core : Nat) (by_ : Port)
  /-- RESUME: RESUME returns a unified core to normal through a restore, or cancels a pending UNIFY (R287) -/
  | resume (core : Nat) (by_ : Port)
  /-- UNIFIED_ENTRY: A draining core with its barrier held and its weight traffic retired enters unified organisation (R287) -/
  | unifiedEntry (core : Nat)
  /-- SPM_ACC_ADDR_WRITE: A write of SPM_ACC_ADDR reads the addressed scratchpad word, or is refused (R289) -/
  | spmAccAddrWrite (core : Nat) (port : Port) (value : Nat)
  /-- SPM_ACC_DATA_HI_WRITE: A write of SPM_ACC_DATA_HI writes the held 64-bit word to the scratchpad, or is refused (R289) -/
  | spmAccDataHiWrite (core : Nat) (port : Port) (value : Nat)
  /-- TRANSIT_BLOCK_GRANT: A freed transit block is granted to a waiting core's leg (R277) -/
  | transitBlockGrant (cluster : Nat)
  /-- WRITE: A WRITE message reaches its destination, which writes it and answers ACK, or refuses it (R296) -/
  | write (msg : Nat)
  /-- READ: A READ message reaches its destination, which answers with DATA (R296) -/
  | read (msg : Nat) (far : List Byte)
  /-- FABRIC_SIGNAL: A SIGNAL message increments an event counter of the destination core (R296) -/
  | fabricSignal (msg : Nat)
  /-- DISPATCH: A DISPATCH message delivers a stack-engine dispatch, a sampler handoff or a scheduler command (R296) -/
  | dispatch (msg : Nat)
  /-- REGISTER: A REGISTER message carries a host access to a core window or block (R296) -/
  | register (port : Port) (write : Bool) (off value : Nat)
  /-- DATA: A DATA response returns read data to its requester (R296) -/
  | data (msg : Nat)
  /-- ACK: An ACK response completes a request at its requester (R296) -/
  | ack (msg : Nat)
  /-- NACK: A NACK reports a refusal, and the requester acts on its reason (R296) -/
  | nack (msg : Nat)
  /-- FABRIC_FLIT: A link receiver takes a flit, checks its parity and acknowledges it or sends NAK (R304) -/
  | fabricFlit (router net port num : Nat) (good : Bool) (kind resent age : Nat)
  /-- LINK_ACK_TIMEOUT: No acknowledgement for 256 cycles makes the sender resend from the first unacknowledged flit (R304) -/
  | linkAckTimeout (router net port resent : Nat)
  /-- LINK_LIVENESS_TIMEOUT: A receiver that takes no flit for 1,024 cycles retires the lane (R305) -/
  | linkLivenessTimeout (router net port : Nat)
  /-- IDLE_FLIT_TIMER: A lane with nothing to send sends an idle flit every 64 cycles (R305) -/
  | idleFlitTimer (router net port : Nat)
  /-- URGENCY_PROMOTION: A message whose age reaches 4,096 is made urgent (R302) -/
  | urgencyPromotion (msg : Nat)
  /-- REQUEST_TIMEOUT: A request without a response for 100 µs is resent on the other network, or fails after a second timeout (R306) -/
  | requestTimeout (msg : Nat)
  /-- DRAM_ACCESS_COMPLETE: A DRAM read passes the on-die ECC, SECDED and die-loss codes, correcting or rebuilding the block (R325) -/
  | dramAccessComplete (ped addr : Nat) (write : Bool) (onDie secded : Nat) (bad : List Nat)
  /-- DRAM_TIMEOUT: A DRAM die silent for 10 µs is retried once, and a second timeout counts as a die error (R323) -/
  | dramTimeout (ped die : Nat)
  /-- REFRESH_DUE: An all-bank refresh falls due and is issued, or postponed up to its limit (R322) -/
  | refreshDue (ped : Nat) (busy : Bool)
  /-- PATROL_PASS_START: Every 60 s a patrol scrub pass of the stack starts (R329) -/
  | patrolPassStart (ped : Nat)
  /-- FTR_BASE_WRITE: A write of FTR_BASE sets an instance's far-tier base, or is ignored while the area is in use (R331) -/
  | ftrBaseWrite (port : Port) (inst value : Nat)
  /-- FTR_CTL_WRITE: A write of FTR_CTL sets the far-tier port and valid, or is ignored while the area is in use (R331) -/
  | ftrCtlWrite (port : Port) (inst value : Nat)
  /-- SPILL_COMPLETE: A spill's read-backs complete and it is marked complete in the spill index (R333) -/
  | spillComplete (inst slot : Nat)
  /-- SPILL_RESTORE_COMPLETE: A restore of a spilled sequence completes, its entries are rewritten and its units freed (R334) -/
  | spillRestoreComplete (inst slot : Nat) (bytes : List Byte)
  /-- FAR_TIER_LEG_ERROR: A far-tier leg returns a completion error and its transfer fails (R336) -/
  | farTierLegError (inst slot port : Nat)
  /-- FAR_TIER_LINK_WAIT_TIMEOUT: A far-tier leg that has waited 50 ms for a link fails its transfer (R336) -/
  | farTierLinkWaitTimeout (inst slot port : Nat)
  /-- KV_FLUSH_COMPLETE: A full staging part is quantised into its frame, its page advances and the completing write is acknowledged (R348) -/
  | kvFlushComplete (inst slot sub : Nat)
  /-- WALKER_LINE_FETCH: A page-table line fetched for a miss or a prefetch enters the look-aside buffer (R352) -/
  | walkerLineFetch (ped : Nat)
  /-- PAGE_BUFFER_PREFETCH: The next page's half is fetched into a thread's page buffer (R356) -/
  | pageBufferPrefetch (ped thread : Nat) (value : Bool)
  /-- PFX_LOAD: LOAD of a prefix slot takes frames and starts the fetch, or fails its conditions (R366) -/
  | pfxLoad (slot : Nat) (port : Port) (inst : Nat)
  /-- PFX_UNLOAD: UNLOAD of a prefix slot frees it or starts draining it (R366) -/
  | pfxUnload (slot : Nat) (port : Port)
  /-- PREFIX_LOAD_COMPLETE: The last page of a prefix is written and the slot becomes READY (R366) -/
  | prefixLoadComplete (slot : Nat) (image : List Byte)
  /-- PREFIX_FETCH_ERROR: A prefix fetch completion error frees the frames and empties the slot (R366) -/
  | prefixFetchError (slot : Nat)
  /-- PREFIX_FETCH_TIMEOUT: The 100 ms prefix fetch timeout frees the frames and empties the slot (R366) -/
  | prefixFetchTimeout (slot : Nat)
  /-- BIND: BIND fetches a package into a model slot, or completes BUSY (R374) -/
  | bind (slot : Nat) (port : Port)
  /-- UNBIND: UNBIND empties an idle bound slot, or completes STATE or BUSY (R374) -/
  | unbind (slot : Nat) (port : Port)
  /-- LOAD: LOAD checks a set load and queues it on the device's load queue (R376) -/
  | load (slot inst : Nat) (port : Port)
  /-- UNLOAD: UNLOAD releases an idle resident set (R382) -/
  | unload (slot inst : Nat) (port : Port)
  /-- SWITCH: SWITCH makes a slot the instance's current set at a step boundary under its policy (R384) -/
  | switch (slot inst : Nat) (nextStep : Bool) (port : Port)
  /-- RELOAD: RELOAD fetches a resident set again into its own space (R382) -/
  | reload (slot inst : Nat) (port : Port)
  /-- BIND_FETCH_COMPLETE: A bind fetch ends, the package is checked, and the slot becomes BOUND or EMPTY (R373) -/
  | bindFetchComplete (slot : Nat) (error : Bool) (header : List Byte) (sections : List (List Byte))
  /-- BIND_FETCH_TIMEOUT: The 100 ms bind fetch timeout leaves the slot EMPTY (R373) -/
  | bindFetchTimeout (slot : Nat)
  /-- LOAD_QUEUE_HEAD: A load reaches the head of the queue, is checked again and takes a space, releasing an idle set if it must (R377) -/
  | loadQueueHead 
  /-- TILE_RECORD_FETCHED: A tile record arrives and is decrypted, scale-checked, digested and written, or fails the load (R377) -/
  | tileRecordFetched (error : Bool) (bytes : List Byte) (farError : Option Bool)
  /-- SET_LOAD_COMPLETE: The last record of a load is written, so the set is resident and its load digest recorded (R377) -/
  | setLoadComplete 
  /-- LOAD_TIMEOUT: A load not complete after 30 s ends TIMEOUT and frees its space (R381) -/
  | loadTimeout (slot inst : Nat)
  /-- SQ_TAIL_WRITE: A write of SQ_TAIL or its doorbell moves a submission ring's tail (R395) -/
  | sqTailWrite (ring : Nat) (port : Port) (value : Nat)
  /-- SQ_CFG_WRITE: A write of SQ_CFG enables or disables a submission ring (R396) -/
  | sqCfgWrite (ring : Nat) (port : Port) (value : Nat)
  /-- RQ_HEAD_WRITE: A write of RQ_HEAD or its doorbell frees entries of a step-record ring (R395) -/
  | rqHeadWrite (ring : Nat) (port : Port) (value : Nat)
  /-- RQ_CFG_WRITE: A write of RQ_CFG enables or disables a step-record ring (R396) -/
  | rqCfgWrite (ring : Nat) (port : Port) (value : Nat)
  /-- CMD_TAIL_WRITE: A write of CMD_TAIL or its doorbell moves the command ring's tail (R462) -/
  | cmdTailWrite (port : Port) (value : Nat)
  /-- EVR_HEAD_WRITE: A write of EVR_HEAD or its doorbell frees entries of the event ring (R467) -/
  | evrHeadWrite (port : Port) (value : Nat)
  /-- REQUEST_DESCRIPTOR: A request descriptor read at a ring head is checked and completes with a status or waits for a slot (R399) -/
  | requestDescriptor (ring : Nat) (error : Bool) (bytes : List Byte)
  /-- LIST_FETCH_COMPLETE: An allowed-token list fetched during check 8 arrives and is checked (R432) -/
  | listFetchComplete (ring : Nat) (error : Bool) (tokens : List Nat)
  /-- REQUEST_ACCEPTED: A waiting request takes the lowest free slot of its instance and becomes WAITING (R399) -/
  | requestAccepted (ring : Nat)
  /-- STEP_BOUNDARY: An instance's step ends, or one is taken while it is idle: commits, frees, allocations, selection and pending changes apply (R357) -/
  | stepBoundary (inst : Nat)
  /-- STEP_START: The governor grants a step start, and the scheduler writes the parameter block and increments EVC(0) (R411) -/
  | stepStart (inst : Nat) (delayed : Bool)
  /-- PROMPT_CHUNK_FETCH: A prefilling sequence's next chunk arrives and is checked against the vocabulary (R412) -/
  | promptChunkFetch (inst slot : Nat) (error : Bool) (tokens : List Nat)
  /-- RECORD_BATCH_WRITE: Pending step records are written to a host ring while it is enabled, has room and has a link (R419) -/
  | recordBatchWrite (ring : Nat)
  /-- RECORD_READBACK_COMPLETE: The read-back of a record batch returns, so RQ_TAIL advances and the shadow is written (R461) -/
  | recordReadbackComplete (ring : Nat)
  /-- STEP_LIMIT_EXPIRY: A step runs past SCH_STEP_LIMIT and its instance stalls (R422) -/
  | stepLimitExpiry (inst : Nat)
  /-- EVICT: EVICT completes a sequence slot EVICTED (R425) -/
  | evict (port : Port) (inst slot : Nat)
  /-- EVICT_ALL: EVICT_ALL evicts every resident slot of an instance and its draft instance (R425) -/
  | evictAll (port : Port) (inst : Nat)
  /-- HOLD: HOLD holds admission to an instance (R424) -/
  | hold (port : Port) (inst : Nat)
  /-- RELEASE: RELEASE ends a HOLD (R425) -/
  | release (port : Port) (inst : Nat)
  /-- HANDOFF_SLICE: A sampler unit takes a logits slice into its row buffer, or refuses it (R429) -/
  | handoffSlice (core flight : Nat)
  /-- SAMPLE_ROW_COMPLETE: A sampler finishes a row's passes and yields its token or verify results, making the record when the sequence is done (R433) -/
  | sampleRowComplete (inst row : Nat)
  /-- GRAMMAR_FETCH_COMPLETE: A grammar state or bitset read completes and fills the grammar cache (R442) -/
  | grammarFetchComplete (slot line : Nat) (error : Bool) (bytes : List Byte) (inst seq : Nat)
  /-- GRAMMAR_READ_TIMEOUT: A grammar read that has waited 50 ms fails (R442) -/
  | grammarReadTimeout (slot inst seq : Nat)
  /-- GRM_LOAD: LOAD of a grammar slot starts the fetch and checks of an image (R443) -/
  | grmLoad (slot : Nat) (port : Port)
  /-- GRM_UNLOAD: UNLOAD of a grammar slot empties it or starts draining it (R443) -/
  | grmUnload (slot : Nat) (port : Port)
  /-- GRAMMAR_LOAD_COMPLETE: A grammar fetch ends and its checks make the slot READY or EMPTY (R440) -/
  | grammarLoadComplete (slot : Nat) (error : Bool) (image : List Byte)
  /-- GRAMMAR_LOAD_TIMEOUT: The 100 ms grammar fetch timeout empties the slot (R440) -/
  | grammarLoadTimeout (slot : Nat)
  /-- BAR4_READ: A host read through BAR4 reads the selected stack or plan address (R454) -/
  | bar4Read (port off size : Nat)
  /-- BAR4_WRITE: A host write through BAR4 writes the selected stack or plan address (R454) -/
  | bar4Write (port off : Nat) (data : List Byte)
  /-- COMMAND_ENTRY: The device reads a command ring entry and issues its command to the owning block (R462) -/
  | commandEntry (entry : List Byte)
  /-- COMMAND_RING_NOP: The ring NOP completes OK when issued (R464) -/
  | commandRingNop (entry seq : Nat)
  /-- WAKE_HINT: WAKE_HINT sets a known event for power-state selection (R464) -/
  | wakeHint (time : Nat)
  /-- FAR_TIER: The FAR_TIER command writes an instance's far-tier base and control (R464) -/
  | farTier (inst port : Nat) (valid : Bool) (base : Nat)
  /-- IRQ_HOLD_EXPIRY: An interrupt source's hold time passes with events pending, so its MSI-X message is raised (R459) -/
  | irqHoldExpiry (source : Nat)
  /-- MSIX_PENDING_SEND: A pending MSI-X message is sent once its port has a link and the message is unmasked (R460) -/
  | msixPendingSend (port vector : Nat)
  /-- EVENT_RING_COPY: Log entries of the selected classes are copied to the event ring once it has room and a link (R467) -/
  | eventRingCopy 
  /-- SET_ENDPOINT_ID: MCTP Set Endpoint ID assigns the management endpoint ID (R472) -/
  | setEndpointId (eid : Nat)
  /-- GET_ENDPOINT_ID: MCTP Get Endpoint ID returns the endpoint ID (R472) -/
  | getEndpointId 
  /-- GET_MCTP_VERSION_SUPPORT: MCTP Get MCTP Version Support returns the versions supported (R472) -/
  | getMctpVersionSupport 
  /-- GET_MESSAGE_TYPE_SUPPORT: MCTP Get Message Type Support returns the message types supported (R472) -/
  | getMessageTypeSupport 
  /-- UNSUPPORTED_MESSAGE_TYPE: An MCTP message of an unsupported type is answered with an error completion (R472) -/
  | unsupportedMessageType (type : Nat)
  /-- READ32: A management READ32 reads one BAR0 register (R473) -/
  | read32 (requester : Nat) (form : MgmtForm) (off : Nat)
  /-- WRITE32: A management WRITE32 writes a permitted register, or completes DENIED (R473) -/
  | write32 (requester : Nat) (form : MgmtForm) (off value : Nat)
  /-- READ_BLOCK: A management READ_BLOCK reads up to 16 consecutive registers (R473) -/
  | readBlock (requester : Nat) (form : MgmtForm) (off count : Nat)
  /-- ALERT_RESPONSE: A read of the SMBus Alert Response Address returns the device address and releases SMB_ALERT_N (R474) -/
  | alertResponse 
  /-- ICPEN_FLIT: An Icpen receiver takes a flit, checking its CRC and order and acting on its ack, nak and credit (R481) -/
  | icpenFlit (n : Nat) (good nak : Bool) (type seq ack credit corrected uncorrectable : Nat)
  /-- ICPEN_ACK_TIMEOUT: When ack has not advanced for 4 µs, the sender resends from the oldest unacknowledged flit (R482) -/
  | icpenAckTimeout (n : Nat)
  /-- LINK_SILENCE_TIMEOUT: No flit for 4 ms makes the port lose its link (R487) -/
  | linkSilenceTimeout (n : Nat)
  /-- LANE_DROP: A receiver drops a failing lane and sends LANEDROP on the remaining lanes (R479) -/
  | laneDrop (n lane cause : Nat)
  /-- LANEDROP: A LANEDROP frame makes both ends stop using the named lane (R479) -/
  | lanedrop (n lane : Nat)
  /-- DISCOVERY_BURST: A training port sends a discovery burst every 1 ms (R485) -/
  | discoveryBurst (n : Nat)
  /-- TRAINING_PATTERN_DETECTED: A port detecting its partner's burst or training pattern begins to train (R485) -/
  | trainingPatternDetected (n : Nat)
  /-- TRAINING_TIMEOUT: A training attempt not finished in 50 ms fails, and after three failures a lower revision is offered (R485) -/
  | trainingTimeout (n : Nat)
  /-- TRAINING_COMPLETE: Training completes, so HELLO frames start and the port enters HELLO (R487) -/
  | trainingComplete (n rev lanes : Nat)
  /-- HELLO: A received HELLO frame starts authentication and updates time synchronisation (R486) -/
  | hello (n : Nat) (payload : List Byte)
  /-- HELLO_TIMER: Every 1 ms a trained port sends a HELLO frame (R486) -/
  | helloTimer (n : Nat)
  /-- HELLO_TIMEOUT: No peer HELLO within 10 ms returns the port to TRAINING (R487) -/
  | helloTimeout (n : Nat)
  /-- AUTH_SHARE: An AUTH_SHARE frame delivers the peer's nonce and ephemeral key (R488) -/
  | authShare (n : Nat) (payload : List Byte)
  /-- AUTH_CERT: An AUTH_CERT frame delivers the peer's certificate chain (R488) -/
  | authCert (n : Nat) (payload : List Byte)
  /-- AUTH_SIG: An AUTH_SIG frame delivers the peer's transcript signature for verification (R488) -/
  | authSig (n : Nat) (payload : List Byte)
  /-- AUTH_RESULT: The final AUTH_RESULT decides whether the port goes ACTIVE, QUARANTINE or back to TRAINING (R487) -/
  | authResult (n result : Nat)
  /-- AUTH_TIMEOUT: An exchange not done in 20 ms is refused and the port is held for 1 s (R487) -/
  | authTimeout (n : Nat)
  /-- AUTH_HOLD_EXPIRY: The 1 s hold after a refused authentication ends and the port trains again (R487) -/
  | authHoldExpiry (n : Nat)
  /-- LINK_REKEY: After 2^36 flits the ends exchange new link keys, which take effect at a flit-count boundary (R491) -/
  | linkRekey (n : Nat)
  /-- ADOPT: ADOPT stores a quarantined peer's hash and activates the port (R487) -/
  | adopt (n : Nat) (port : Port)
  /-- REJECT: REJECT takes a quarantined link down to DARK (R487) -/
  | reject (n : Nat) (port : Port)
  /-- RETRAIN: RETRAIN takes the link down and trains it again (R487) -/
  | retrain (n : Nat) (port : Port)
  /-- ICPEN_DATA_MESSAGE: A complete Icpen data message is queued by stream and delivered or reduce-added by an inbound MOVE (R495) -/
  | icpenDataMessage (n stream op fmt dec : Nat) (bytes : List Byte)
  /-- PLAN: A PLAN message announces a stage's slots and frames to the first stage (R499) -/
  | plan (n inst maxSeqs frames pfxFrames gen : Nat)
  /-- STEP: A STEP message gives a downstream stage its step tables, to apply and forward (R499) -/
  | step (n : Nat) (block : List Byte) (descs : List (Nat × List Byte × List Nat))
  /-- RESULT: A RESULT message carries committed lengths, tokens and statuses upstream (R500) -/
  | result (n : Nat) (entries : List (Nat × Nat × Nat × Nat × Bool))
  /-- SHORT: A SHORT message reports sequences a stage lacked frames for (R500) -/
  | short (n : Nat) (slots : List Nat)
  /-- DIGEST: A DIGEST frame is recorded and forwarded, and a complete round is evaluated (R501) -/
  | digest (port group inst : Nat) (complete voting : Bool) (hopsLeft interval round join modelId crc modular : Nat) (hash : BitVec 384)
  /-- DIGEST_EVALUATION_TIMEOUT: 10 s after its own frame a device evaluates a round with the frames it holds (R502) -/
  | digestEvaluationTimeout (inst : Nat)
  /-- FRONT_PLANE_READY: The spare array's copy of a failed position's front plane is ready, so it stands in and strikes resume (R510) -/
  | frontPlaneReady (core : Nat) (sumsOk : Bool)
  /-- RESERVE_CORE_TAKEOVER: A reserve core finishes loading and restoring for a retired logical core, and its threads resume (R515) -/
  | reserveCoreTakeover (core : Nat)
  /-- FATAL_COUNT_WRITE: A write of 0 to FLT_FATAL_COUNT clears the fatal record; other values are ignored (R526) -/
  | fatalCountWrite (port : Port) (value : Nat)
  /-- FIELD_TEST_START: START begins an in-field test of a core, or completes BUSY or STATE (R528) -/
  | fieldTestStart (port : Port) (parts target spacing : Nat)
  /-- FIELD_TEST_ABORT: ABORT ends a running test after its current slice (R528) -/
  | fieldTestAbort (port : Port) (target : Nat)
  /-- FIELD_TEST_SLICE_END: A test slice ends at its 400 µs limit or on completion, and the core is returned by RESUME (R530) -/
  | fieldTestSliceEnd (target : Nat) (finished failed : Bool) (pos : Nat)
  /-- CONVERSION_SLOT: A converter slice completes a 250 µs conversion slot and registers the channel value (R571) -/
  | conversionSlot (slice : Nat) (code : Int) (overload : Bool)
  /-- SLOT_TIMEOUT: A slice that has no result 260 µs into its slot is retired (R577) -/
  | slotTimeout (slice : Nat)
  /-- ROUND_END: A housekeeping round ends: channels are judged, the thermal model advances, and levels and limits are set (R590) -/
  | roundEnd (cores conversions sram frieze lanes : List Nat) (oscPpm : Int)
  /-- HKA_INJ_TRIG_WRITE: A write of HKA_INJ_TRIG triggers the selected injected conversions (R574) -/
  | hkaInjTrigWrite (port : Port) (value : Nat)
  /-- SPARE_VISIT_START: At each 2 s mark the spare slice begins an 8-round visit to the next slice (R576) -/
  | spareVisitStart 
  /-- GET_VERSION: SPDM GET_VERSION returns version 1.2 (R596) -/
  | getVersion (transport : Nat)
  /-- GET_CAPABILITIES: SPDM GET_CAPABILITIES returns the responder's capabilities (R596) -/
  | getCapabilities (transport : Nat)
  /-- NEGOTIATE_ALGORITHMS: SPDM NEGOTIATE_ALGORITHMS selects the supported algorithms (R596) -/
  | negotiateAlgorithms (transport : Nat)
  /-- GET_DIGESTS: SPDM GET_DIGESTS returns the certificate chain digest (R596) -/
  | getDigests (transport : Nat)
  /-- GET_CERTIFICATE: SPDM GET_CERTIFICATE returns portions of the device certificate chain (R595) -/
  | getCertificate (transport slot off len : Nat)
  /-- CHALLENGE: SPDM CHALLENGE returns a signed challenge response (R596) -/
  | challenge (transport slot : Nat)
  /-- GET_MEASUREMENTS: SPDM GET_MEASUREMENTS returns the measurement blocks (R598) -/
  | getMeasurements (transport operation : Nat) (signed : Bool)
  /-- KEY_EXCHANGE: SPDM KEY_EXCHANGE starts a secure session, or is refused at the session limit (R596) -/
  | keyExchange (transport : Nat)
  /-- FINISH: SPDM FINISH completes a secure session handshake (R596) -/
  | finish (transport session : Nat) (ok : Bool)
  /-- HEARTBEAT: SPDM HEARTBEAT keeps a session alive (R596) -/
  | heartbeat (transport session : Nat) (ok : Bool)
  /-- KEY_UPDATE: SPDM KEY_UPDATE updates a session's keys (R596) -/
  | keyUpdate (transport session : Nat) (ok : Bool)
  /-- END_SESSION: SPDM END_SESSION ends a secure session (R597) -/
  | endSession (transport session : Nat) (ok : Bool)
  /-- SPDM_UNSUPPORTED_REQUEST: An SPDM request outside the supported set is answered with ERROR UnsupportedRequest (R596) -/
  | spdmUnsupportedRequest (transport code : Nat)
  /-- ENROL: ENROL starts fusing owner key hashes into the first unused bank, or completes STATE or FUSES_EXHAUSTED (R600) -/
  | enrol (transport : Nat) (session : Option Nat) (count : Nat) (hashes : List (BitVec 384))
  /-- ENROL_COMPLETE: Owner enrolment fusing completes with the bank's commit fuse (R600) -/
  | enrolComplete 
  /-- OWNER_PROVE: OWNER_PROVE makes a session an owner session for a slot, or is refused (R601) -/
  | ownerProve (transport : Nat) (session : Option Nat) (slot : Nat) (key sig : List Byte)
  /-- REVOKE: REVOKE blows an owner slot's revocation fuse (R602) -/
  | revoke (transport : Nat) (session : Option Nat) (slot : Nat)
  /-- SET_WEIGHT_KEY: SET_WEIGHT_KEY fills a weight key slot and returns its check value (R603) -/
  | setWeightKey (transport : Nat) (session : Option Nat) (slot : Nat) (key : BitVec 512)
  /-- CLEAR_WEIGHT_KEY: CLEAR_WEIGHT_KEY empties one weight key slot or all of them (R604) -/
  | clearWeightKey (transport : Nat) (session : Option Nat) (slot : Nat)
  /-- DEBUG_UNLOCK: An unlock token submitted by message or by SEC_UNLOCK_CTL starts verification (R609) -/
  | debugUnlock (source : Nat) (token : List Byte)
  /-- UNLOCK_VERIFY_COMPLETE: Token verification ends, opening a scope or counting a refusal, and the nonce renews (R609) -/
  | unlockVerifyComplete 
  /-- LOCKOUT_EXPIRY: The 60 s unlock lockout ends (R609) -/
  | lockoutExpiry 
  /-- RELOCK: SEC_CMD RELOCK locks debug and closes every scope (R607) -/
  | relock 
  /-- NEW_NONCE: SEC_CMD NEW_NONCE gives SEC_NONCE a fresh random value (R609) -/
  | newNonce 
  /-- STORE_WRITE_COMPLETE: A security store record write is verified and counts as written (R610) -/
  | storeWriteComplete (record : Nat) (ok : Bool)
  /-- IDCODE: The test port IDCODE instruction returns the device identification value (R624) -/
  | idcode 
  /-- BYPASS: The test port BYPASS instruction selects the bypass register (R624) -/
  | bypass 
  /-- SAMPLE_PRELOAD: The test port SAMPLE/PRELOAD instruction samples or preloads the boundary cells (R607) -/
  | samplePreload (pins preload : Nat)
  /-- EXTEST: The test port EXTEST instruction drives the boundary when debug scope 1 is open, and acts as BYPASS otherwise (R607) -/
  | extest 
  /-- DEADLINE_PASSED: A resident sequence's deadline passes, so it completes LATE and goes to RETIRING, its record written when an entry frees (R403) -/
  | deadlinePassed (inst slot : Nat)
  /-- BACK_PLANE_READY: The copy of a failed position's back plane to the spare array completes, ending the takeover's interruption (R510) -/
  | backPlaneReady (core : Nat) (sumsOk : Bool)
  /-- CMD_CFG_WRITE: A write of CMD_CFG enables or disables the command ring, with the checks of R396 and head and tail set to 0 (R462) -/
  | cmdCfgWrite (port : Port) (value : Nat)
  /-- EVR_CFG_WRITE: A write of EVR_CFG enables or disables the event ring and selects its classes, with head and tail set to 0 (R467) -/
  | evrCfgWrite (port : Port) (value : Nat)
  /-- EVENT_RING_READBACK_COMPLETE: The read-back of copied event-ring entries returns, so EVR_TAIL advances (R467) -/
  | eventRingReadbackComplete 
  /-- D0_TO_D3HOT: A host moves a port from D0 to D3hot, after which its MSI-X messages are held and WAKE_N asserts (R624) -/
  | d0ToD3hot (port : Nat)
  /-- DOE_DISCOVERY: A DOE Discovery data object is answered with the supported data object types (R451) -/
  | doeDiscovery (index : Nat)
  /-- VIN_VALID_BEGINS: VIN enters 40.0-60.0 V, the vesper domain comes up on the RC oscillator, inrush begins and the 5 ms input-valid count starts (R565) -/
  | vinValidBegins 
  /-- INPUT_WARNING_CLEARED: The input has been back inside 40.0-60.0 V for 1 ms, so the input warning and its current limit clear (R540) -/
  | inputWarningCleared 
  /-- IEEE_1149_6_INSTRUCTIONS: An IEEE 1149.6 instruction on the test port tests the AC-coupled lanes while debug scope 1 is open, and acts as BYPASS otherwise (R624) -/
  | ieee11496Instructions 
deriving DecidableEq, Repr

end Sys2Proof
end

