-- ==== Sys2Proof/Config.lean ====
section
/-!
DEFINITION. What an implementation or a published standard fixes and the spec's text does not: constants with no body.
Nothing can be proved of a value of any of them, so a statement that uses one holds whatever the value is.
Log entry 5 lists the free values; log entry 7 the standards.
-/
namespace Sys2Proof.Config
open Sys2Proof

/-- A free value of the spec: the n-th draw of State.freeCtr (log entry 5). -/
opaque free : Nat → Nat

/-- SHA-384 (FIPS 180): a published standard whose algorithm the spec's text does not hold. -/
opaque sha384 : List Byte → BitVec 384

/-- ECDSA P-384 verification (FIPS 186) of a digest: public key x ‖ y, signature r ‖ s. -/
opaque ecdsaVerify : (key : List Byte) → (sig : List Byte) → (digest : BitVec 384) → Bool

/-- The signature that the device's identity key makes of a digest: r ‖ s (R488, R598). -/
opaque identitySign : BitVec 384 → List Byte

/-- The device certificate chain of R595. -/
opaque deviceChain : List Byte

/-- The leaf key x ‖ y of a certificate chain that verifies to the root of this hash; none for one that does not (R488). -/
opaque chainLeaf : (chain : List Byte) → (root : BitVec 384) → Option (List Byte)

/-- The three-byte check value of a weight key (R603). -/
opaque keyCheck : BitVec 512 → List Byte

/-- The fuse configuration's hash, measurement block 2 (R598). -/
opaque fuseHash : BitVec 384

/-- AES-256-XTS decryption (IEEE 1619, R378) of bytes from offset `off` of data unit `unit`: key Key1 ‖ Key2. -/
opaque xtsDecrypt : (key : BitVec 512) → (unit off : Nat) → List Byte → List Byte

/-- FP32 bits of a vector function whose result the spec only bounds (Table 5-9): operation code and operand bits. -/
opaque vecFn : (op a b : Nat) → Nat

/-- The test planes that part 7 of an in-field test leaves in a spare array (Table 18-5): plane 0 or 1 of the n-th. -/
opaque testPlane : (n plane : Nat) → List Byte

/-- Whether VIMUL saturates a product outside INT32, or keeps its low 32 bits (R242 says both; log entry 14). -/
opaque vimulSaturates : Bool

/-- Whether VISHL saturates a result outside INT32, or drops the bits shifted out (R146, R242; log entry 14). -/
opaque vishlSaturates : Bool

/-- Finwald's JEDEC manufacturer identity code, 11 bits (R624). -/
opaque jedecCode : Nat

/-- The code of the status STATE in a command's completion, by opcode, where the spec names the status and no table gives it
a code (Table 16-7: RESET_FALLBACK and FAR_TIER; log entry 5). -/
opaque ringState : (opcode : Nat) → Nat

/-- The ring kind that 0x6902 names for the command ring (false) and the event ring (true): R462 and R467 give them R396's
event, whose data the spec codes only for submission and record rings (log entry 5). -/
opaque ringKind : (event : Bool) → Nat

/-- The MCTP version entries that Get MCTP Version Support returns (R472; log entry 5). -/
opaque mctpVersions : List Nat

/-- What the front end of housekeeping channel c makes of a corrected code, in channel units (R571, R572). -/
opaque frontEnd : (c : Nat) → (code : Int) → Int

end Sys2Proof.Config
end

