-- ==== Sys2Proof/Machine/RegMap.lean ====
section
/-!
DEFINITION. The BAR0 register map: one row for each 32-bit register the spec's register tables give, with its offset,
its access code (Table 0-7), the bits a write acts on, its Reset column and, for a 64-bit pair (R19), which half it is.
The rows follow the spec's tables in offset order; `Reg.<NAME>` is a register's BAR0 offset.
-/
namespace Sys2Proof

/-- Access codes (Table 0-7). -/
inductive Access where
  | ro | rw | rws | w1c | wo | rwl
deriving DecidableEq, Repr, Inhabited

/-- Which half of a 64-bit pair a register is (R19). -/
inductive Half where
  | single | low | high
deriving DecidableEq, Repr, Inhabited

/-- One register of a register table, with the ranges of its indexes as (count, stride) pairs, widest stride first. -/
structure RegRow where
  name : String
  base : Nat
  dims : List (Nat × Nat)
  acc : Access
  /-- Bits a write acts on: the bits that no table calls reserved. -/
  mask : W32
  reset : W32
  half : Half
deriving DecidableEq, Repr, Inhabited

/-- 01_organisation.md, Table 1-6. -/
def Reg.DEV_ID : Nat := 0x0
/-- 01_organisation.md, Table 1-6. -/
def Reg.DEV_CAP0 : Nat := 0x4
/-- 01_organisation.md, Table 1-6. -/
def Reg.DEV_CAP1 : Nat := 0x8
/-- 01_organisation.md, Table 1-6. -/
def Reg.DEV_CAP2 : Nat := 0xC
/-- 01_organisation.md, Table 1-6. -/
def Reg.DEV_CAP3 : Nat := 0x10
/-- 01_organisation.md, Table 1-6. -/
def Reg.DEV_CAP4 : Nat := 0x14
/-- 01_organisation.md, Table 1-6. -/
def Reg.DEV_CAP5 : Nat := 0x18
/-- 01_organisation.md, Table 1-6. -/
def Reg.DEV_CAP6 : Nat := 0x1C
/-- 01_organisation.md, Table 1-6. -/
def Reg.DEV_CLUSTER_MAP (c : Nat) : Nat := 0x40 + c * 0x4
/-- 02_armature_image.md, Table 2-16. -/
def Reg.ARM_CTL : Nat := 0x10000
/-- 02_armature_image.md, Table 2-17. -/
def Reg.ARM_STAT : Nat := 0x10004
/-- 02_armature_image.md, Table 2-18. -/
def Reg.ARM_SRC_LO : Nat := 0x10008
/-- 02_armature_image.md, Table 2-18. -/
def Reg.ARM_SRC_HI : Nat := 0x1000C
/-- 02_armature_image.md, Table 2-18. -/
def Reg.ARM_LEN : Nat := 0x10010
/-- 02_armature_image.md, Table 2-18. -/
def Reg.ARM_ERR : Nat := 0x10014
/-- 02_armature_image.md, Table 2-18. -/
def Reg.ARM_SERIAL : Nat := 0x10018
/-- 02_armature_image.md, Table 2-18. -/
def Reg.ARM_FLOOR : Nat := 0x1001C
/-- 02_armature_image.md, Table 2-18. -/
def Reg.ARM_INSTANCES : Nat := 0x10020
/-- 02_armature_image.md, Table 2-18. -/
def Reg.ARM_HASH (k : Nat) : Nat := 0x10040 + k * 0x4
/-- 02_armature_image.md, Table 2-19. -/
def Reg.ARM_INST (i : Nat) : Nat := 0x10080 + i * 0x4
/-- 14_step_scheduler.md, Table 14-12. -/
def Reg.SCH_CTL : Nat := 0x20000
/-- 14_step_scheduler.md, Table 14-12. -/
def Reg.SCH_STAT : Nat := 0x20004
/-- 14_step_scheduler.md, Table 14-12. -/
def Reg.SCH_CMD : Nat := 0x20008
/-- 14_step_scheduler.md, Table 14-12. -/
def Reg.SCH_CMD_STAT : Nat := 0x2000C
/-- 14_step_scheduler.md, Table 14-12. -/
def Reg.SCH_STEP_LIMIT : Nat := 0x20010
/-- 14_step_scheduler.md, Table 14-12. -/
def Reg.SCH_ACCEPTED : Nat := 0x20020
/-- 14_step_scheduler.md, Table 14-12. -/
def Reg.SCH_ACCEPTED_HI : Nat := 0x20024
/-- 14_step_scheduler.md, Table 14-12. -/
def Reg.SCH_REJECTED : Nat := 0x20028
/-- 14_step_scheduler.md, Table 14-12. -/
def Reg.SCH_LATE : Nat := 0x2002C
/-- 14_step_scheduler.md, Table 14-12. -/
def Reg.SCH_EVICTED : Nat := 0x20030
/-- 14_step_scheduler.md, Table 14-12. -/
def Reg.SCH_PAUSES : Nat := 0x20034
/-- 14_step_scheduler.md, Table 14-12. -/
def Reg.SCH_SEQ_SEL (p : Nat) : Nat := 0x20080 + p * 0x4
/-- 14_step_scheduler.md, Table 14-12. -/
def Reg.SCH_SEQ_STAT : Nat := 0x20090
/-- 14_step_scheduler.md, Table 14-12. -/
def Reg.SCH_SEQ_LEN : Nat := 0x20094
/-- 14_step_scheduler.md, Table 14-12. -/
def Reg.SCH_SEQ_TAG_LO : Nat := 0x20098
/-- 14_step_scheduler.md, Table 14-12. -/
def Reg.SCH_SEQ_TAG_HI : Nat := 0x2009C
/-- 14_step_scheduler.md, Table 14-12. -/
def Reg.SCH_SEQ_EMIT : Nat := 0x200A0
/-- 14_step_scheduler.md, Table 14-14. -/
def Reg.SQ_BASE_LO (r : Nat) : Nat := 0x20100 + r * 0x20
/-- 14_step_scheduler.md, Table 14-14. -/
def Reg.SQ_BASE_HI (r : Nat) : Nat := 0x20104 + r * 0x20
/-- 14_step_scheduler.md, Table 14-14. -/
def Reg.SQ_CFG (r : Nat) : Nat := 0x20108 + r * 0x20
/-- 14_step_scheduler.md, Table 14-14. -/
def Reg.SQ_HEAD (r : Nat) : Nat := 0x2010C + r * 0x20
/-- 14_step_scheduler.md, Table 14-14. -/
def Reg.SQ_TAIL (r : Nat) : Nat := 0x20110 + r * 0x20
/-- 14_step_scheduler.md, Table 14-14. -/
def Reg.SQ_STAT (r : Nat) : Nat := 0x20114 + r * 0x20
/-- 14_step_scheduler.md, Table 14-15. -/
def Reg.RQ_BASE_LO (r : Nat) : Nat := 0x20200 + r * 0x20
/-- 14_step_scheduler.md, Table 14-15. -/
def Reg.RQ_BASE_HI (r : Nat) : Nat := 0x20204 + r * 0x20
/-- 14_step_scheduler.md, Table 14-15. -/
def Reg.RQ_CFG (r : Nat) : Nat := 0x20208 + r * 0x20
/-- 14_step_scheduler.md, Table 14-15. -/
def Reg.RQ_HEAD (r : Nat) : Nat := 0x2020C + r * 0x20
/-- 14_step_scheduler.md, Table 14-15. -/
def Reg.RQ_TAIL (r : Nat) : Nat := 0x20210 + r * 0x20
/-- 14_step_scheduler.md, Table 14-15. -/
def Reg.RQ_SHADOW_LO (r : Nat) : Nat := 0x20214 + r * 0x20
/-- 14_step_scheduler.md, Table 14-15. -/
def Reg.RQ_SHADOW_HI (r : Nat) : Nat := 0x20218 + r * 0x20
/-- 14_step_scheduler.md, Table 14-15. -/
def Reg.RQ_PENDING (r : Nat) : Nat := 0x2021C + r * 0x20
/-- 14_step_scheduler.md, Table 14-16. -/
def Reg.SCH_INST_STAT (i : Nat) : Nat := 0x20400 + i * 0x40
/-- 14_step_scheduler.md, Table 14-16. -/
def Reg.SCH_STEPS (i : Nat) : Nat := 0x20408 + i * 0x40
/-- 14_step_scheduler.md, Table 14-16. -/
def Reg.SCH_STEPS_HI (i : Nat) : Nat := 0x2040C + i * 0x40
/-- 14_step_scheduler.md, Table 14-16. -/
def Reg.SCH_STEP_NS (i : Nat) : Nat := 0x20410 + i * 0x40
/-- 14_step_scheduler.md, Table 14-16. -/
def Reg.SCH_COUNTS (i : Nat) : Nat := 0x20414 + i * 0x40
/-- 14_step_scheduler.md, Table 14-16. -/
def Reg.SCH_TOKENS (i : Nat) : Nat := 0x20418 + i * 0x40
/-- 14_step_scheduler.md, Table 14-16. -/
def Reg.SCH_TOKENS_HI (i : Nat) : Nat := 0x2041C + i * 0x40
/-- 14_step_scheduler.md, Table 14-16. -/
def Reg.SCH_DRAFT_PROP (i : Nat) : Nat := 0x20420 + i * 0x40
/-- 14_step_scheduler.md, Table 14-16. -/
def Reg.SCH_DRAFT_PROP_HI (i : Nat) : Nat := 0x20424 + i * 0x40
/-- 14_step_scheduler.md, Table 14-16. -/
def Reg.SCH_DRAFT_ACC (i : Nat) : Nat := 0x20428 + i * 0x40
/-- 14_step_scheduler.md, Table 14-16. -/
def Reg.SCH_DRAFT_ACC_HI (i : Nat) : Nat := 0x2042C + i * 0x40
/-- 14_step_scheduler.md, Table 14-16. -/
def Reg.SCH_WAITERS (i : Nat) : Nat := 0x20430 + i * 0x40
/-- 15_sampling.md, Table 15-9. -/
def Reg.SMP_STAT (s : Nat) : Nat := 0x30000 + s * 0x4
/-- 15_sampling.md, Table 15-9. -/
def Reg.SMP_CTL : Nat := 0x30010
/-- 15_sampling.md, Table 15-9. -/
def Reg.SMP_ROWS (s : Nat) : Nat := 0x30100 + s * 0x20
/-- 15_sampling.md, Table 15-9. -/
def Reg.SMP_ROWS_HI (s : Nat) : Nat := 0x30104 + s * 0x20
/-- 15_sampling.md, Table 15-9. -/
def Reg.SMP_BUSY (s : Nat) : Nat := 0x30108 + s * 0x20
/-- 15_sampling.md, Table 15-9. -/
def Reg.SMP_BUSY_HI (s : Nat) : Nat := 0x3010C + s * 0x20
/-- 15_sampling.md, Table 15-9. -/
def Reg.SMP_VERIFY (s : Nat) : Nat := 0x30110 + s * 0x20
/-- 15_sampling.md, Table 15-9. -/
def Reg.SMP_DEAD (s : Nat) : Nat := 0x30114 + s * 0x20
/-- 15_sampling.md, Table 15-9. -/
def Reg.SMP_NAN (s : Nat) : Nat := 0x30118 + s * 0x20
/-- 15_sampling.md, Table 15-9. -/
def Reg.SMP_DISCARD (s : Nat) : Nat := 0x3011C + s * 0x20
/-- 15_sampling.md, Table 15-9. -/
def Reg.GRM_CMD : Nat := 0x30800
/-- 15_sampling.md, Table 15-9. -/
def Reg.GRM_CACHE_HIT : Nat := 0x30808
/-- 15_sampling.md, Table 15-9. -/
def Reg.GRM_CACHE_HIT_HI : Nat := 0x3080C
/-- 15_sampling.md, Table 15-9. -/
def Reg.GRM_CACHE_MISS : Nat := 0x30810
/-- 15_sampling.md, Table 15-9. -/
def Reg.GRM_CACHE_MISS_HI : Nat := 0x30814
/-- 15_sampling.md, Table 15-9. -/
def Reg.GRM_READ_FAIL : Nat := 0x30818
/-- 15_sampling.md, Table 15-9. -/
def Reg.GRM_SEQ_STATE : Nat := 0x30820
/-- 15_sampling.md, Table 15-9. -/
def Reg.GRM_SRC_LO (g : Nat) : Nat := 0x31000 + g * 0x20
/-- 15_sampling.md, Table 15-9. -/
def Reg.GRM_SRC_HI (g : Nat) : Nat := 0x31004 + g * 0x20
/-- 15_sampling.md, Table 15-9. -/
def Reg.GRM_LEN_LO (g : Nat) : Nat := 0x31008 + g * 0x20
/-- 15_sampling.md, Table 15-9. -/
def Reg.GRM_LEN_HI (g : Nat) : Nat := 0x3100C + g * 0x20
/-- 15_sampling.md, Table 15-9. -/
def Reg.GRM_SLOT_CTL (g : Nat) : Nat := 0x31010 + g * 0x20
/-- 15_sampling.md, Table 15-9. -/
def Reg.GRM_STAT (g : Nat) : Nat := 0x31014 + g * 0x20
/-- 15_sampling.md, Table 15-9. -/
def Reg.GRM_REFS (g : Nat) : Nat := 0x31018 + g * 0x20
/-- 13_weights_and_models.md, Table 13-8. -/
def Reg.WLD_CMD : Nat := 0x40000
/-- 13_weights_and_models.md, Table 13-8. -/
def Reg.WLD_LOAD_Q : Nat := 0x40004
/-- 13_weights_and_models.md, Table 13-8. -/
def Reg.WLD_LOADS : Nat := 0x40010
/-- 13_weights_and_models.md, Table 13-8. -/
def Reg.WLD_RELEASES : Nat := 0x40014
/-- 13_weights_and_models.md, Table 13-8. -/
def Reg.WLD_LOAD_BYTES : Nat := 0x40018
/-- 13_weights_and_models.md, Table 13-8. -/
def Reg.WLD_LOAD_BYTES_HI : Nat := 0x4001C
/-- 13_weights_and_models.md, Table 13-8. -/
def Reg.WLD_FAR_BYTES : Nat := 0x40020
/-- 13_weights_and_models.md, Table 13-8. -/
def Reg.WLD_FAR_BYTES_HI : Nat := 0x40024
/-- 13_weights_and_models.md, Table 13-8. -/
def Reg.WLD_DIG_INCOMPLETE : Nat := 0x40028
/-- 13_weights_and_models.md, Table 13-8. -/
def Reg.WLD_SRC_LO (k : Nat) : Nat := 0x40100 + k * 0x20
/-- 13_weights_and_models.md, Table 13-8. -/
def Reg.WLD_SRC_HI (k : Nat) : Nat := 0x40104 + k * 0x20
/-- 13_weights_and_models.md, Table 13-8. -/
def Reg.WLD_LEN_LO (k : Nat) : Nat := 0x40108 + k * 0x20
/-- 13_weights_and_models.md, Table 13-8. -/
def Reg.WLD_LEN_HI (k : Nat) : Nat := 0x4010C + k * 0x20
/-- 13_weights_and_models.md, Table 13-8. -/
def Reg.WLD_SLOT_CTL (k : Nat) : Nat := 0x40110 + k * 0x20
/-- 13_weights_and_models.md, Table 13-8. -/
def Reg.WLD_SLOT_STAT (k : Nat) : Nat := 0x40114 + k * 0x20
/-- 13_weights_and_models.md, Table 13-8. -/
def Reg.WLD_MODEL_ID_LO (k : Nat) : Nat := 0x40118 + k * 0x20
/-- 13_weights_and_models.md, Table 13-8. -/
def Reg.WLD_MODEL_ID_HI (k : Nat) : Nat := 0x4011C + k * 0x20
/-- 13_weights_and_models.md, Table 13-8. -/
def Reg.WLD_PHASH (k w : Nat) : Nat := 0x40200 + k * 0x40 + w * 0x4
/-- 13_weights_and_models.md, Table 13-8. -/
def Reg.WLD_LDIG (k w : Nat) : Nat := 0x40400 + k * 0x10 + w * 0x4
/-- 13_weights_and_models.md, Table 13-8. -/
def Reg.WLD_INST_STAT (i : Nat) : Nat := 0x40800 + i * 0x20
/-- 13_weights_and_models.md, Table 13-8. -/
def Reg.WLD_INST_RES (i : Nat) : Nat := 0x40804 + i * 0x20
/-- 13_weights_and_models.md, Table 13-8. -/
def Reg.WLD_SDIG (i w : Nat) : Nat := 0x40808 + i * 0x20 + w * 0x4
/-- 13_weights_and_models.md, Table 13-8. -/
def Reg.WLD_SDIG_STEP (i : Nat) : Nat := 0x40818 + i * 0x20
/-- 05_formats_and_precision.md, Table 5-11. -/
def Reg.FMT_SEL (p : Nat) : Nat := 0x48000 + p * 0x4
/-- 05_formats_and_precision.md, Table 5-11. -/
def Reg.FMT_CTL : Nat := 0x48010
/-- 05_formats_and_precision.md, Table 5-11. -/
def Reg.FMT_STAT (i : Nat) : Nat := 0x48100 + i * 0x4
/-- 05_formats_and_precision.md, Table 5-11. -/
def Reg.FMT_L_STATE : Nat := 0x48200
/-- 05_formats_and_precision.md, Table 5-11. -/
def Reg.FMT_L_METRIC : Nat := 0x48204
/-- 05_formats_and_precision.md, Table 5-11. -/
def Reg.FMT_L_CHECK : Nat := 0x48208
/-- 05_formats_and_precision.md, Table 5-11. -/
def Reg.FMT_L_CHECK_HI : Nat := 0x4820C
/-- 05_formats_and_precision.md, Table 5-11. -/
def Reg.FMT_L_MISMATCH : Nat := 0x48210
/-- 05_formats_and_precision.md, Table 5-11. -/
def Reg.FMT_L_MISMATCH_HI : Nat := 0x48214
/-- 05_formats_and_precision.md, Table 5-11. -/
def Reg.FMT_L_CONV : Nat := 0x48218
/-- 05_formats_and_precision.md, Table 5-11. -/
def Reg.FMT_L_CONV_HI : Nat := 0x4821C
/-- 05_formats_and_precision.md, Table 5-11. -/
def Reg.FMT_L_SAT : Nat := 0x48220
/-- 05_formats_and_precision.md, Table 5-11. -/
def Reg.FMT_L_SAT_HI : Nat := 0x48224
/-- 05_formats_and_precision.md, Table 5-11. -/
def Reg.FMT_L_ZERO : Nat := 0x48228
/-- 05_formats_and_precision.md, Table 5-11. -/
def Reg.FMT_L_ZERO_HI : Nat := 0x4822C
/-- 05_formats_and_precision.md, Table 5-11. -/
def Reg.FMT_L_EVAL : Nat := 0x48230
/-- 12_attention_and_kv_cache.md, Table 12-10. -/
def Reg.KVM_FRAMES (i : Nat) : Nat := 0x50000 + i * 0x10
/-- 12_attention_and_kv_cache.md, Table 12-10. -/
def Reg.KVM_FREE (i : Nat) : Nat := 0x50004 + i * 0x10
/-- 12_attention_and_kv_cache.md, Table 12-10. -/
def Reg.KVM_PRE (i : Nat) : Nat := 0x50008 + i * 0x10
/-- 12_attention_and_kv_cache.md, Table 12-10. -/
def Reg.KVM_PFX_FREE (i : Nat) : Nat := 0x5000C + i * 0x10
/-- 12_attention_and_kv_cache.md, Table 12-10. -/
def Reg.KVM_EMPTY : Nat := 0x50100
/-- 12_attention_and_kv_cache.md, Table 12-10. -/
def Reg.KVM_EMPTY_HI : Nat := 0x50104
/-- 12_attention_and_kv_cache.md, Table 12-10. -/
def Reg.KVM_NO_FRAME : Nat := 0x50108
/-- 12_attention_and_kv_cache.md, Table 12-10. -/
def Reg.KVM_INCOMPLETE : Nat := 0x5010C
/-- 12_attention_and_kv_cache.md, Table 12-10. -/
def Reg.PFX_STAT (k : Nat) : Nat := 0x51000 + k * 0x40
/-- 12_attention_and_kv_cache.md, Table 12-10. -/
def Reg.PFX_SRC_LO (k : Nat) : Nat := 0x51008 + k * 0x40
/-- 12_attention_and_kv_cache.md, Table 12-10. -/
def Reg.PFX_SRC_HI (k : Nat) : Nat := 0x5100C + k * 0x40
/-- 12_attention_and_kv_cache.md, Table 12-10. -/
def Reg.PFX_LEN (k : Nat) : Nat := 0x51010 + k * 0x40
/-- 12_attention_and_kv_cache.md, Table 12-10. -/
def Reg.PFX_CTL (k : Nat) : Nat := 0x51014 + k * 0x40
/-- 12_attention_and_kv_cache.md, Table 12-10. -/
def Reg.PFX_REFS (k : Nat) : Nat := 0x51018 + k * 0x40
/-- 11_memory_stacks.md, Table 11-8. -/
def Reg.FTR_BASE_LO (i : Nat) : Nat := 0x5F000 + i * 0x10
/-- 11_memory_stacks.md, Table 11-8. -/
def Reg.FTR_BASE_HI (i : Nat) : Nat := 0x5F004 + i * 0x10
/-- 11_memory_stacks.md, Table 11-8. -/
def Reg.FTR_CTL (i : Nat) : Nat := 0x5F008 + i * 0x10
/-- 11_memory_stacks.md, Table 11-8. -/
def Reg.FTR_STAT (i : Nat) : Nat := 0x5F00C + i * 0x10
/-- 11_memory_stacks.md, Table 11-8. -/
def Reg.FTR_SPILLS : Nat := 0x5F100
/-- 11_memory_stacks.md, Table 11-8. -/
def Reg.FTR_RESTORES : Nat := 0x5F104
/-- 11_memory_stacks.md, Table 11-8. -/
def Reg.FTR_BYTES_OUT : Nat := 0x5F108
/-- 11_memory_stacks.md, Table 11-8. -/
def Reg.FTR_BYTES_OUT_HI : Nat := 0x5F10C
/-- 11_memory_stacks.md, Table 11-8. -/
def Reg.FTR_BYTES_IN : Nat := 0x5F110
/-- 11_memory_stacks.md, Table 11-8. -/
def Reg.FTR_BYTES_IN_HI : Nat := 0x5F114
/-- 11_memory_stacks.md, Table 11-8. -/
def Reg.FTR_ERRORS : Nat := 0x5F118
/-- 10_on_die_fabric.md, Table 10-8. -/
def Reg.FAB_STAT : Nat := 0x60000
/-- 10_on_die_fabric.md, Table 10-8. -/
def Reg.FAB_CTL : Nat := 0x60004
/-- 10_on_die_fabric.md, Table 10-8. -/
def Reg.FAB_RETIRED (k : Nat) : Nat := 0x60010 + k * 0x4
/-- 10_on_die_fabric.md, Table 10-8. -/
def Reg.FAB_SEAM (b : Nat) : Nat := 0x60020 + b * 0x4
/-- 10_on_die_fabric.md, Table 10-8. -/
def Reg.FAB_PACE : Nat := 0x60030
/-- 10_on_die_fabric.md, Table 10-8. -/
def Reg.FAB_RESENT : Nat := 0x60040
/-- 10_on_die_fabric.md, Table 10-8. -/
def Reg.FAB_DUPLICATE : Nat := 0x60044
/-- 10_on_die_fabric.md, Table 10-8. -/
def Reg.FAB_FAILED : Nat := 0x60048
/-- 10_on_die_fabric.md, Table 10-12. -/
def Reg.FAB_RT_STAT (c k : Nat) : Nat := 0x61000 + c * 0x100 + k * 0x80
/-- 10_on_die_fabric.md, Table 10-12. -/
def Reg.FAB_RT_FLITS (c k : Nat) : Nat := 0x61008 + c * 0x100 + k * 0x80
/-- 10_on_die_fabric.md, Table 10-12. -/
def Reg.FAB_RT_FLITS_HI (c k : Nat) : Nat := 0x6100C + c * 0x100 + k * 0x80
/-- 10_on_die_fabric.md, Table 10-12. -/
def Reg.FAB_RT_URGENT (c k : Nat) : Nat := 0x61010 + c * 0x100 + k * 0x80
/-- 10_on_die_fabric.md, Table 10-12. -/
def Reg.FAB_RT_REPLAY (c k : Nat) : Nat := 0x61014 + c * 0x100 + k * 0x80
/-- 10_on_die_fabric.md, Table 10-12. -/
def Reg.FAB_RT_CROSS (c k : Nat) : Nat := 0x61018 + c * 0x100 + k * 0x80
/-- 10_on_die_fabric.md, Table 10-12. -/
def Reg.FAB_RT_MAXWAIT (c k : Nat) : Nat := 0x6101C + c * 0x100 + k * 0x80
/-- 09_scratchpads.md, Table 9-17. -/
def Reg.CLM_CE (c : Nat) : Nat := 0x68000 + c * 0x20
/-- 09_scratchpads.md, Table 9-17. -/
def Reg.CLM_UE (c : Nat) : Nat := 0x68004 + c * 0x20
/-- 09_scratchpads.md, Table 9-17. -/
def Reg.CLM_POISON (c : Nat) : Nat := 0x68008 + c * 0x20
/-- 09_scratchpads.md, Table 9-17. -/
def Reg.CLM_SCRUB_PASS (c : Nat) : Nat := 0x6800C + c * 0x20
/-- 09_scratchpads.md, Table 9-17. -/
def Reg.CLM_ERR_ADDR (c : Nat) : Nat := 0x68010 + c * 0x20
/-- 09_scratchpads.md, Table 9-17. -/
def Reg.CLM_TRANSIT (c : Nat) : Nat := 0x68014 + c * 0x20
/-- 18_fault_handling.md, Table 18-6. -/
def Reg.FLT_STAT : Nat := 0x70000
/-- 18_fault_handling.md, Table 18-6. -/
def Reg.FLT_LOG_OLDEST : Nat := 0x70010
/-- 18_fault_handling.md, Table 18-6. -/
def Reg.FLT_LOG_NEXT : Nat := 0x70014
/-- 18_fault_handling.md, Table 18-6. -/
def Reg.FLT_LOG_LOST : Nat := 0x70018
/-- 18_fault_handling.md, Table 18-6. -/
def Reg.FLT_LOG_SEL (p : Nat) : Nat := 0x70020 + p * 0x4
/-- 18_fault_handling.md, Table 18-6. -/
def Reg.FLT_ARRAY_TAKEOVERS : Nat := 0x70030
/-- 18_fault_handling.md, Table 18-6. -/
def Reg.FLT_CORE_TAKEOVERS : Nat := 0x70034
/-- 18_fault_handling.md, Table 18-6. -/
def Reg.FLT_INT_MAX : Nat := 0x70038
/-- 18_fault_handling.md, Table 18-6. -/
def Reg.FLT_LOG_DATA (p k : Nat) : Nat := 0x70040 + p * 0x20 + k * 0x4
/-- 18_fault_handling.md, Table 18-6. -/
def Reg.FLT_UNBACKED (w : Nat) : Nat := 0x70080 + w * 0x4
/-- 18_fault_handling.md, Table 18-6. -/
def Reg.FLT_RESERVE (r : Nat) : Nat := 0x700A0 + r * 0x4
/-- 18_fault_handling.md, Table 18-6. -/
def Reg.FLT_TEST_CTL : Nat := 0x700C0
/-- 18_fault_handling.md, Table 18-6. -/
def Reg.FLT_TEST_SPACING : Nat := 0x700C4
/-- 18_fault_handling.md, Table 18-6. -/
def Reg.FLT_ADVISE : Nat := 0x700C8
/-- 18_fault_handling.md, Table 18-6. -/
def Reg.FLT_TEST_STAT (j : Nat) : Nat := 0x700E0 + j * 0x4
/-- 18_fault_handling.md, Table 18-6. -/
def Reg.FLT_FATAL_COUNT : Nat := 0x70100
/-- 18_fault_handling.md, Table 18-6. -/
def Reg.FLT_FATAL (j k : Nat) : Nat := 0x70200 + j * 0x20 + k * 0x4
/-- 19_power_and_clocks.md, Table 19-10. -/
def Reg.PWR_STAT : Nat := 0x80000
/-- 19_power_and_clocks.md, Table 19-10. -/
def Reg.PWR_CMD : Nat := 0x80004
/-- 19_power_and_clocks.md, Table 19-10. -/
def Reg.PWR_CTL : Nat := 0x80008
/-- 19_power_and_clocks.md, Table 19-10. -/
def Reg.PWR_MGMT_CAP : Nat := 0x8000C
/-- 19_power_and_clocks.md, Table 19-10. -/
def Reg.PWR_IN_V : Nat := 0x80010
/-- 19_power_and_clocks.md, Table 19-10. -/
def Reg.PWR_IN_I : Nat := 0x80014
/-- 19_power_and_clocks.md, Table 19-10. -/
def Reg.PWR_IN_P : Nat := 0x80018
/-- 19_power_and_clocks.md, Table 19-10. -/
def Reg.PWR_ENV : Nat := 0x8001C
/-- 19_power_and_clocks.md, Table 19-10. -/
def Reg.PWR_LIMIT : Nat := 0x80020
/-- 19_power_and_clocks.md, Table 19-10. -/
def Reg.PWR_BALLAST : Nat := 0x80024
/-- 19_power_and_clocks.md, Table 19-10. -/
def Reg.PWR_RATIO : Nat := 0x80028
/-- 19_power_and_clocks.md, Table 19-10. -/
def Reg.PWR_LIMIT_NS : Nat := 0x80040
/-- 19_power_and_clocks.md, Table 19-10. -/
def Reg.PWR_LIMIT_NS_HI : Nat := 0x80044
/-- 19_power_and_clocks.md, Table 19-10. -/
def Reg.PWR_DELAYS : Nat := 0x80048
/-- 19_power_and_clocks.md, Table 19-10. -/
def Reg.PWR_BALLAST_MJ : Nat := 0x80050
/-- 19_power_and_clocks.md, Table 19-10. -/
def Reg.PWR_BALLAST_MJ_HI : Nat := 0x80054
/-- 19_power_and_clocks.md, Table 19-10. -/
def Reg.PWR_PHASE_LOST : Nat := 0x80058
/-- 19_power_and_clocks.md, Table 19-10. -/
def Reg.PWR_DAWN_US : Nat := 0x8005C
/-- 19_power_and_clocks.md, Table 19-10. -/
def Reg.PWR_SHARE (i : Nat) : Nat := 0x80100 + i * 0x4
/-- 19_power_and_clocks.md, Table 19-10. -/
def Reg.PWR_DOM (d : Nat) : Nat := 0x80200 + d * 0x4
/-- 19_power_and_clocks.md, Table 19-10. -/
def Reg.PWR_DOM_ENTRIES (d : Nat) : Nat := 0x80280 + d * 0x4
/-- 19_power_and_clocks.md, Table 19-10. -/
def Reg.PWR_RAIL (r : Nat) : Nat := 0x80300 + r * 0x4
/-- 06_array_calibration.md, Table 6-11. -/
def Reg.CAL_STORE_STAT (d : Nat) : Nat := 0x8C000 + d * 0x4
/-- 06_array_calibration.md, Table 6-11. -/
def Reg.CAL_STORE_WRITES (d : Nat) : Nat := 0x8C010 + d * 0x4
/-- 06_array_calibration.md, Table 6-11. -/
def Reg.CAL_STORE_FAILS (d : Nat) : Nat := 0x8C018 + d * 0x4
/-- 06_array_calibration.md, Table 6-11. -/
def Reg.CAL_STORE_DISCARDS (d : Nat) : Nat := 0x8C020 + d * 0x4
/-- 06_array_calibration.md, Table 6-11. -/
def Reg.CAL_STORE_BAD (d : Nat) : Nat := 0x8C028 + d * 0x4
/-- 20_housekeeping_and_thermal.md, Table 20-8. -/
def Reg.HKA_STAT : Nat := 0x90000
/-- 20_housekeeping_and_thermal.md, Table 20-8. -/
def Reg.HKA_CTL : Nat := 0x90004
/-- 20_housekeeping_and_thermal.md, Table 20-8. -/
def Reg.HKA_ROUND_US : Nat := 0x90008
/-- 20_housekeeping_and_thermal.md, Table 20-8. -/
def Reg.HKA_BAL : Nat := 0x9000C
/-- 20_housekeeping_and_thermal.md, Table 20-8. -/
def Reg.HKA_INJ_TRIG : Nat := 0x90010
/-- 20_housekeeping_and_thermal.md, Table 20-8. -/
def Reg.HKA_ROUNDS : Nat := 0x90020
/-- 20_housekeeping_and_thermal.md, Table 20-8. -/
def Reg.HKA_ROUNDS_HI : Nat := 0x90024
/-- 20_housekeeping_and_thermal.md, Table 20-8. -/
def Reg.HKA_INJ_CONV : Nat := 0x90028
/-- 20_housekeeping_and_thermal.md, Table 20-8. -/
def Reg.HKA_VISITS : Nat := 0x9002C
/-- 20_housekeeping_and_thermal.md, Table 20-8. -/
def Reg.HKA_SLICE_OFS (k : Nat) : Nat := 0x90040 + k * 0x10
/-- 20_housekeeping_and_thermal.md, Table 20-8. -/
def Reg.HKA_SLICE_GAIN (k : Nat) : Nat := 0x90044 + k * 0x10
/-- 20_housekeeping_and_thermal.md, Table 20-8. -/
def Reg.HKA_SLICE_CROSS (k : Nat) : Nat := 0x90048 + k * 0x10
/-- 20_housekeeping_and_thermal.md, Table 20-8. -/
def Reg.HKA_SLICE_STAT (k : Nat) : Nat := 0x9004C + k * 0x10
/-- 20_housekeeping_and_thermal.md, Table 20-8. -/
def Reg.HKA_INJ (j : Nat) : Nat := 0x90100 + j * 0x4
/-- 20_housekeeping_and_thermal.md, Table 20-8. -/
def Reg.HKA_CH_RAW (c : Nat) : Nat := 0x90400 + c * 0x10
/-- 20_housekeeping_and_thermal.md, Table 20-8. -/
def Reg.HKA_CH_VAL (c : Nat) : Nat := 0x90404 + c * 0x10
/-- 20_housekeeping_and_thermal.md, Table 20-8. -/
def Reg.HKA_CH_STAT (c : Nat) : Nat := 0x90408 + c * 0x10
/-- 20_housekeeping_and_thermal.md, Table 20-10. -/
def Reg.THM_STAT : Nat := 0xA0000
/-- 20_housekeeping_and_thermal.md, Table 20-10. -/
def Reg.THM_CTL : Nat := 0xA0004
/-- 20_housekeeping_and_thermal.md, Table 20-10. -/
def Reg.THM_COOLANT : Nat := 0xA0008
/-- 20_housekeeping_and_thermal.md, Table 20-10. -/
def Reg.THM_PLATE_G : Nat := 0xA000C
/-- 20_housekeeping_and_thermal.md, Table 20-10. -/
def Reg.THM_NTC : Nat := 0xA0010
/-- 20_housekeeping_and_thermal.md, Table 20-10. -/
def Reg.THM_COOLANT_IN : Nat := 0xA0014
/-- 20_housekeeping_and_thermal.md, Table 20-10. -/
def Reg.THM_WARNINGS : Nat := 0xA0020
/-- 20_housekeeping_and_thermal.md, Table 20-10. -/
def Reg.THM_THROTTLES : Nat := 0xA0024
/-- 20_housekeeping_and_thermal.md, Table 20-10. -/
def Reg.THM_FORCINGS : Nat := 0xA0028
/-- 20_housekeeping_and_thermal.md, Table 20-10. -/
def Reg.THM_LIMIT_STEPS : Nat := 0xA002C
/-- 20_housekeeping_and_thermal.md, Table 20-10. -/
def Reg.THM_NODE (i : Nat) : Nat := 0xA0100 + i * 0x4
/-- 20_housekeeping_and_thermal.md, Table 20-10. -/
def Reg.THM_NODE_P (i : Nat) : Nat := 0xA0200 + i * 0x4
/-- 19_power_and_clocks.md, Table 19-12. -/
def Reg.CLK_STAT : Nat := 0xB0000
/-- 19_power_and_clocks.md, Table 19-12. -/
def Reg.CLK_TIME_LO : Nat := 0xB0008
/-- 19_power_and_clocks.md, Table 19-12. -/
def Reg.CLK_TIME_HI : Nat := 0xB000C
/-- 19_power_and_clocks.md, Table 19-12. -/
def Reg.CLK_OSC_PPM : Nat := 0xB0010
/-- 19_power_and_clocks.md, Table 19-12. -/
def Reg.CLK_TRIM_PPB : Nat := 0xB0014
/-- 21_security.md, Table 21-9. -/
def Reg.SEC_STAT : Nat := 0xC0000
/-- 21_security.md, Table 21-9. -/
def Reg.SEC_CMD : Nat := 0xC0004
/-- 21_security.md, Table 21-9. -/
def Reg.SEC_NONCE_LO : Nat := 0xC0008
/-- 21_security.md, Table 21-9. -/
def Reg.SEC_NONCE_HI : Nat := 0xC000C
/-- 21_security.md, Table 21-9. -/
def Reg.SEC_UNLOCK_STAT : Nat := 0xC0010
/-- 21_security.md, Table 21-9. -/
def Reg.SEC_UNLOCK_CTL : Nat := 0xC0014
/-- 21_security.md, Table 21-9. -/
def Reg.SEC_KEY_VALID_LO : Nat := 0xC0018
/-- 21_security.md, Table 21-9. -/
def Reg.SEC_KEY_VALID_HI : Nat := 0xC001C
/-- 21_security.md, Table 21-9. -/
def Reg.SEC_SESSIONS : Nat := 0xC0020
/-- 21_security.md, Table 21-9. -/
def Reg.SEC_SPDM_FAIL : Nat := 0xC0024
/-- 21_security.md, Table 21-9. -/
def Reg.SEC_UNLOCK_FAIL : Nat := 0xC0028
/-- 21_security.md, Table 21-9. -/
def Reg.SEC_UNLOCK_DATA (k : Nat) : Nat := 0xC0100 + k * 0x4
/-- 21_security.md, Table 21-9. -/
def Reg.SEC_OWNER_HASH (s k : Nat) : Nat := 0xC0200 + s * 0x40 + k * 0x4
/-- 21_security.md, Table 21-9. -/
def Reg.SEC_ROOT_HASH (k : Nat) : Nat := 0xC0300 + k * 0x4
/-- 17_icpen_links.md, Table 17-11. -/
def Reg.ICP_STAT (n : Nat) : Nat := 0xD0000 + n * 0x1000
/-- 17_icpen_links.md, Table 17-11. -/
def Reg.ICP_CTL (n : Nat) : Nat := 0xD0004 + n * 0x1000
/-- 17_icpen_links.md, Table 17-11. -/
def Reg.ICP_DELAY_ADJ (n : Nat) : Nat := 0xD0008 + n * 0x1000
/-- 17_icpen_links.md, Table 17-11. -/
def Reg.ICP_TX_FLITS (n : Nat) : Nat := 0xD0010 + n * 0x1000
/-- 17_icpen_links.md, Table 17-11. -/
def Reg.ICP_TX_FLITS_HI (n : Nat) : Nat := 0xD0014 + n * 0x1000
/-- 17_icpen_links.md, Table 17-11. -/
def Reg.ICP_RX_FLITS (n : Nat) : Nat := 0xD0018 + n * 0x1000
/-- 17_icpen_links.md, Table 17-11. -/
def Reg.ICP_RX_FLITS_HI (n : Nat) : Nat := 0xD001C + n * 0x1000
/-- 17_icpen_links.md, Table 17-11. -/
def Reg.ICP_FEC_CORR (n : Nat) : Nat := 0xD0020 + n * 0x1000
/-- 17_icpen_links.md, Table 17-11. -/
def Reg.ICP_FEC_CORR_HI (n : Nat) : Nat := 0xD0024 + n * 0x1000
/-- 17_icpen_links.md, Table 17-11. -/
def Reg.ICP_FEC_UNCORR (n : Nat) : Nat := 0xD0028 + n * 0x1000
/-- 17_icpen_links.md, Table 17-11. -/
def Reg.ICP_CRC_ERR (n : Nat) : Nat := 0xD002C + n * 0x1000
/-- 17_icpen_links.md, Table 17-11. -/
def Reg.ICP_REPLAY (n : Nat) : Nat := 0xD0030 + n * 0x1000
/-- 17_icpen_links.md, Table 17-11. -/
def Reg.ICP_LANE_DROPS (n : Nat) : Nat := 0xD0034 + n * 0x1000
/-- 17_icpen_links.md, Table 17-11. -/
def Reg.ICP_LINK_LOST (n : Nat) : Nat := 0xD0038 + n * 0x1000
/-- 17_icpen_links.md, Table 17-11. -/
def Reg.ICP_AUTH_FAIL (n : Nat) : Nat := 0xD003C + n * 0x1000
/-- 17_icpen_links.md, Table 17-11. -/
def Reg.ICP_PEER_HASH (n k : Nat) : Nat := 0xD0040 + n * 0x1000 + k * 0x4
/-- 17_icpen_links.md, Table 17-11. -/
def Reg.ICP_ADOPTED_HASH (n k : Nat) : Nat := 0xD0080 + n * 0x1000 + k * 0x4
/-- 17_icpen_links.md, Table 17-13. -/
def Reg.ICP_SYNC_STAT : Nat := 0xDC000
/-- 17_icpen_links.md, Table 17-13. -/
def Reg.ICP_GROUP : Nat := 0xDC004
/-- 17_icpen_links.md, Table 17-13. -/
def Reg.ICP_REP_RELOADS : Nat := 0xDC008
/-- 17_icpen_links.md, Table 17-13. -/
def Reg.ICP_REP_ROUNDS : Nat := 0xDC00C
/-- 17_icpen_links.md, Table 17-13. -/
def Reg.ICP_ID_HASH (k : Nat) : Nat := 0xDC040 + k * 0x4
/-- 17_icpen_links.md, Table 17-13. -/
def Reg.ICP_LEADER_HASH (k : Nat) : Nat := 0xDC080 + k * 0x4
/-- 17_icpen_links.md, Table 17-13. -/
def Reg.ICP_REP_STAT (i : Nat) : Nat := 0xDC100 + i * 0x4
/-- 16_host_interface.md, Table 16-10. -/
def Reg.HST_PORT_STAT (p : Nat) : Nat := 0xE0000 + p * 0x40
/-- 16_host_interface.md, Table 16-10. -/
def Reg.HST_PORT_EVT (p : Nat) : Nat := 0xE0004 + p * 0x40
/-- 16_host_interface.md, Table 16-10. -/
def Reg.HST_B4_SEL (p : Nat) : Nat := 0xE0008 + p * 0x40
/-- 16_host_interface.md, Table 16-10. -/
def Reg.HST_LINK_DOWN (p : Nat) : Nat := 0xE000C + p * 0x40
/-- 16_host_interface.md, Table 16-10. -/
def Reg.HST_RESETS (p : Nat) : Nat := 0xE0010 + p * 0x40
/-- 16_host_interface.md, Table 16-10. -/
def Reg.HST_AER_CE (p : Nat) : Nat := 0xE0014 + p * 0x40
/-- 16_host_interface.md, Table 16-10. -/
def Reg.HST_AER_UE (p : Nat) : Nat := 0xE0018 + p * 0x40
/-- 16_host_interface.md, Table 16-10. -/
def Reg.HST_IRQ (s : Nat) : Nat := 0xE0100 + s * 0x4
/-- 16_host_interface.md, Table 16-10. -/
def Reg.CMD_BASE_LO : Nat := 0xE0200
/-- 16_host_interface.md, Table 16-10. -/
def Reg.CMD_BASE_HI : Nat := 0xE0204
/-- 16_host_interface.md, Table 16-10. -/
def Reg.CMD_CFG : Nat := 0xE0208
/-- 16_host_interface.md, Table 16-10. -/
def Reg.CMD_HEAD : Nat := 0xE020C
/-- 16_host_interface.md, Table 16-10. -/
def Reg.CMD_TAIL : Nat := 0xE0210
/-- 16_host_interface.md, Table 16-10. -/
def Reg.CMD_STAT : Nat := 0xE0214
/-- 16_host_interface.md, Table 16-10. -/
def Reg.EVR_BASE_LO : Nat := 0xE0240
/-- 16_host_interface.md, Table 16-10. -/
def Reg.EVR_BASE_HI : Nat := 0xE0244
/-- 16_host_interface.md, Table 16-10. -/
def Reg.EVR_CFG : Nat := 0xE0248
/-- 16_host_interface.md, Table 16-10. -/
def Reg.EVR_HEAD : Nat := 0xE024C
/-- 16_host_interface.md, Table 16-10. -/
def Reg.EVR_TAIL : Nat := 0xE0250
/-- 16_host_interface.md, Table 16-10. -/
def Reg.EVR_LOST : Nat := 0xE0254
/-- 16_host_interface.md, Table 16-10. -/
def Reg.HST_RESET : Nat := 0xE0280
/-- 16_host_interface.md, Table 16-10. -/
def Reg.HST_MGMT_STAT : Nat := 0xE0300
/-- 16_host_interface.md, Table 16-10. -/
def Reg.HST_MGMT_EN : Nat := 0xE0304
/-- 16_host_interface.md, R475. -/
def Reg.MSIX_TABLE (p k : Nat) : Nat := 0xE1000 + p * 0x1000 + k * 0x4
/-- 16_host_interface.md, R475. -/
def Reg.MSIX_PBA (p k : Nat) : Nat := 0xE1800 + p * 0x1000 + k * 0x4
/-- 07_core_execution.md, Table 7-6. -/
def Reg.CORE_STAT (n : Nat) : Nat := 0x1000000 + n * 0x10000
/-- 07_core_execution.md, Table 7-6. -/
def Reg.CORE_CTL (n : Nat) : Nat := 0x1000004 + n * 0x10000
/-- 07_core_execution.md, Table 7-6. -/
def Reg.CORE_WDOG (n : Nat) : Nat := 0x1000008 + n * 0x10000
/-- 07_core_execution.md, Table 7-6. -/
def Reg.CORE_ISSUED (n : Nat) : Nat := 0x1000010 + n * 0x10000
/-- 07_core_execution.md, Table 7-6. -/
def Reg.CORE_ISSUED_HI (n : Nat) : Nat := 0x1000014 + n * 0x10000
/-- 07_core_execution.md, Table 7-6. -/
def Reg.CORE_NOREADY (n : Nat) : Nat := 0x1000018 + n * 0x10000
/-- 07_core_execution.md, Table 7-6. -/
def Reg.CORE_NOREADY_HI (n : Nat) : Nat := 0x100001C + n * 0x10000
/-- 07_core_execution.md, Table 7-6. -/
def Reg.CORE_STALL_RANGE (n : Nat) : Nat := 0x1000020 + n * 0x10000
/-- 07_core_execution.md, Table 7-6. -/
def Reg.CORE_STALL_RANGE_HI (n : Nat) : Nat := 0x1000024 + n * 0x10000
/-- 07_core_execution.md, Table 7-6. -/
def Reg.CORE_STALL_UNIT (n : Nat) : Nat := 0x1000028 + n * 0x10000
/-- 07_core_execution.md, Table 7-6. -/
def Reg.CORE_STALL_UNIT_HI (n : Nat) : Nat := 0x100002C + n * 0x10000
/-- 07_core_execution.md, Table 7-6. -/
def Reg.CORE_BARRIER (n : Nat) : Nat := 0x1000030 + n * 0x10000
/-- 07_core_execution.md, Table 7-6. -/
def Reg.CORE_BARRIER_HI (n : Nat) : Nat := 0x1000034 + n * 0x10000
/-- 07_core_execution.md, Table 7-6. -/
def Reg.CORE_LAYERS (n : Nat) : Nat := 0x1000038 + n * 0x10000
/-- 07_core_execution.md, Table 7-6. -/
def Reg.CORE_REPLAY (n : Nat) : Nat := 0x100003C + n * 0x10000
/-- 07_core_execution.md, Table 7-6. -/
def Reg.THR_STAT (n t : Nat) : Nat := 0x1001000 + n * 0x10000 + t * 0x10
/-- 07_core_execution.md, Table 7-6. -/
def Reg.THR_EXC (n t : Nat) : Nat := 0x1001004 + n * 0x10000 + t * 0x10
/-- 07_core_execution.md, Table 7-6. -/
def Reg.EVC (n e : Nat) : Nat := 0x1002000 + n * 0x10000 + e * 0x4
/-- 03_analogue_arrays.md, Table 3-6. -/
def Reg.ARR_STAT (n a : Nat) : Nat := 0x1008000 + n * 0x10000 + a * 0x200
/-- 03_analogue_arrays.md, Table 3-6. -/
def Reg.ARR_CTL (n a : Nat) : Nat := 0x1008004 + n * 0x10000 + a * 0x200
/-- 03_analogue_arrays.md, Table 3-6. -/
def Reg.ARR_STRIKE (n a : Nat) : Nat := 0x1008008 + n * 0x10000 + a * 0x200
/-- 03_analogue_arrays.md, Table 3-6. -/
def Reg.ARR_STRIKE_HI (n a : Nat) : Nat := 0x100800C + n * 0x10000 + a * 0x200
/-- 03_analogue_arrays.md, Table 3-6. -/
def Reg.ARR_CONV (n a : Nat) : Nat := 0x1008010 + n * 0x10000 + a * 0x200
/-- 03_analogue_arrays.md, Table 3-6. -/
def Reg.ARR_CONV_HI (n a : Nat) : Nat := 0x1008014 + n * 0x10000 + a * 0x200
/-- 03_analogue_arrays.md, Table 3-6. -/
def Reg.ARR_SAT (n a : Nat) : Nat := 0x1008018 + n * 0x10000 + a * 0x200
/-- 03_analogue_arrays.md, Table 3-6. -/
def Reg.ARR_SAT_HI (n a : Nat) : Nat := 0x100801C + n * 0x10000 + a * 0x200
/-- 03_analogue_arrays.md, Table 3-6. -/
def Reg.ARR_ZERO (n a : Nat) : Nat := 0x1008020 + n * 0x10000 + a * 0x200
/-- 03_analogue_arrays.md, Table 3-6. -/
def Reg.ARR_ZERO_HI (n a : Nat) : Nat := 0x1008024 + n * 0x10000 + a * 0x200
/-- 03_analogue_arrays.md, Table 3-6. -/
def Reg.ARR_SPLIT (n a : Nat) : Nat := 0x1008028 + n * 0x10000 + a * 0x200
/-- 03_analogue_arrays.md, Table 3-6. -/
def Reg.ARR_SPLIT_CHISEL (n a : Nat) : Nat := 0x100802C + n * 0x10000 + a * 0x200
/-- 03_analogue_arrays.md, Table 3-6. -/
def Reg.ARR_PLOAD_STALL (n a : Nat) : Nat := 0x1008030 + n * 0x10000 + a * 0x200
/-- 03_analogue_arrays.md, Table 3-6. -/
def Reg.ARR_PWRITE_RETRY (n a : Nat) : Nat := 0x1008034 + n * 0x10000 + a * 0x200
/-- 04_correction_path.md, Table 4-5. -/
def Reg.CHS_OUTLIER (n a : Nat) : Nat := 0x1008040 + n * 0x10000 + a * 0x200
/-- 04_correction_path.md, Table 4-5. -/
def Reg.CHS_OUTLIER_HI (n a : Nat) : Nat := 0x1008044 + n * 0x10000 + a * 0x200
/-- 04_correction_path.md, Table 4-5. -/
def Reg.CHS_OVF (n a : Nat) : Nat := 0x1008048 + n * 0x10000 + a * 0x200
/-- 04_correction_path.md, Table 4-5. -/
def Reg.CHS_OVF_ROWS (n a : Nat) : Nat := 0x100804C + n * 0x10000 + a * 0x200
/-- 04_correction_path.md, Table 4-5. -/
def Reg.CHS_OVF_EXACT (n a : Nat) : Nat := 0x1008050 + n * 0x10000 + a * 0x200
/-- 04_correction_path.md, Table 4-5. -/
def Reg.CHS_CLAMP (n a : Nat) : Nat := 0x1008054 + n * 0x10000 + a * 0x200
/-- 04_correction_path.md, Table 4-5. -/
def Reg.CHS_CHECK (n a : Nat) : Nat := 0x1008058 + n * 0x10000 + a * 0x200
/-- 04_correction_path.md, Table 4-5. -/
def Reg.CHS_MISMATCH (n a : Nat) : Nat := 0x100805C + n * 0x10000 + a * 0x200
/-- 04_correction_path.md, Table 4-5. -/
def Reg.CHS_CHECK_STALL (n a : Nat) : Nat := 0x1008060 + n * 0x10000 + a * 0x200
/-- 04_correction_path.md, Table 4-5. -/
def Reg.CHS_CHECK_ABANDON (n a : Nat) : Nat := 0x1008064 + n * 0x10000 + a * 0x200
/-- 03_analogue_arrays.md, Table 3-6. -/
def Reg.ARR_TEST_CTL (n a : Nat) : Nat := 0x1008080 + n * 0x10000 + a * 0x200
/-- 03_analogue_arrays.md, Table 3-6. -/
def Reg.ARR_TEST_STAT (n a : Nat) : Nat := 0x1008084 + n * 0x10000 + a * 0x200
/-- 03_analogue_arrays.md, Table 3-6. -/
def Reg.ARR_TEST_DATA (n a k : Nat) : Nat := 0x1008100 + n * 0x10000 + a * 0x200 + k * 0x4
/-- 06_array_calibration.md, Table 6-5. -/
def Reg.CAL_AGE (n a : Nat) : Nat := 0x1008180 + n * 0x10000 + a * 0x200
/-- 06_array_calibration.md, Table 6-5. -/
def Reg.CAL_INFO (n a : Nat) : Nat := 0x1008184 + n * 0x10000 + a * 0x200
/-- 06_array_calibration.md, Table 6-5. -/
def Reg.CAL_CMP (n a : Nat) : Nat := 0x1008188 + n * 0x10000 + a * 0x200
/-- 06_array_calibration.md, Table 6-5. -/
def Reg.CAL_CMP_HI (n a : Nat) : Nat := 0x100818C + n * 0x10000 + a * 0x200
/-- 06_array_calibration.md, Table 6-5. -/
def Reg.CAL_FITS (n a : Nat) : Nat := 0x1008190 + n * 0x10000 + a * 0x200
/-- 06_array_calibration.md, Table 6-5. -/
def Reg.CAL_REJECT (n a : Nat) : Nat := 0x1008194 + n * 0x10000 + a * 0x200
/-- 06_array_calibration.md, Table 6-5. -/
def Reg.CAL_SPARSE (n a : Nat) : Nat := 0x1008198 + n * 0x10000 + a * 0x200
/-- 06_array_calibration.md, Table 6-5. -/
def Reg.CAL_DRIFT_TRIG (n a : Nat) : Nat := 0x100819C + n * 0x10000 + a * 0x200
/-- 03_analogue_arrays.md, Table 3-11. -/
def Reg.ARR_CORE_CONV (n : Nat) : Nat := 0x1009C00 + n * 0x10000
/-- 03_analogue_arrays.md, Table 3-11. -/
def Reg.ARR_CORE_CONV_HI (n : Nat) : Nat := 0x1009C04 + n * 0x10000
/-- 03_analogue_arrays.md, Table 3-11. -/
def Reg.ARR_CORE_SAT (n : Nat) : Nat := 0x1009C08 + n * 0x10000
/-- 03_analogue_arrays.md, Table 3-11. -/
def Reg.ARR_CORE_SAT_HI (n : Nat) : Nat := 0x1009C0C + n * 0x10000
/-- 03_analogue_arrays.md, Table 3-11. -/
def Reg.ARR_CORE_ZERO (n : Nat) : Nat := 0x1009C10 + n * 0x10000
/-- 03_analogue_arrays.md, Table 3-11. -/
def Reg.ARR_CORE_ZERO_HI (n : Nat) : Nat := 0x1009C14 + n * 0x10000
/-- 04_correction_path.md, Table 4-6. -/
def Reg.CHS_STAT (n : Nat) : Nat := 0x100A000 + n * 0x10000
/-- 04_correction_path.md, Table 4-6. -/
def Reg.CHS_CORE_CHECK (n : Nat) : Nat := 0x100A008 + n * 0x10000
/-- 04_correction_path.md, Table 4-6. -/
def Reg.CHS_CORE_CHECK_HI (n : Nat) : Nat := 0x100A00C + n * 0x10000
/-- 04_correction_path.md, Table 4-6. -/
def Reg.CHS_CORE_MISMATCH (n : Nat) : Nat := 0x100A010 + n * 0x10000
/-- 04_correction_path.md, Table 4-6. -/
def Reg.CHS_CORE_MISMATCH_HI (n : Nat) : Nat := 0x100A014 + n * 0x10000
/-- 04_correction_path.md, Table 4-6. -/
def Reg.CHS_MM_INFO (n : Nat) : Nat := 0x100A018 + n * 0x10000
/-- 04_correction_path.md, Table 4-6. -/
def Reg.CHS_MM_RATIO (n : Nat) : Nat := 0x100A01C + n * 0x10000
/-- 04_correction_path.md, Table 4-6. -/
def Reg.RED_GROUP_CMP (n : Nat) : Nat := 0x100A020 + n * 0x10000
/-- 04_correction_path.md, Table 4-6. -/
def Reg.RED_GROUP_CMP_HI (n : Nat) : Nat := 0x100A024 + n * 0x10000
/-- 04_correction_path.md, Table 4-6. -/
def Reg.RED_LAYER_CMP (n : Nat) : Nat := 0x100A028 + n * 0x10000
/-- 04_correction_path.md, Table 4-6. -/
def Reg.RED_MISMATCH (n : Nat) : Nat := 0x100A02C + n * 0x10000
/-- 04_correction_path.md, Table 4-6. -/
def Reg.RED_REPLAY (n : Nat) : Nat := 0x100A030 + n * 0x10000
/-- 04_correction_path.md, Table 4-6. -/
def Reg.RED_ARBITRATE (n : Nat) : Nat := 0x100A034 + n * 0x10000
/-- 05_formats_and_precision.md, Table 5-10. -/
def Reg.FMT_ACC_SAT (n : Nat) : Nat := 0x100A400 + n * 0x10000
/-- 05_formats_and_precision.md, Table 5-10. -/
def Reg.FMT_VEC_SAT (n : Nat) : Nat := 0x100A404 + n * 0x10000
/-- 05_formats_and_precision.md, Table 5-10. -/
def Reg.FMT_VEC_DOMAIN (n : Nat) : Nat := 0x100A408 + n * 0x10000
/-- 05_formats_and_precision.md, Table 5-10. -/
def Reg.FMT_NAN (n : Nat) : Nat := 0x100A40C + n * 0x10000
/-- 06_array_calibration.md, Table 6-6. -/
def Reg.CAL_STAT (n : Nat) : Nat := 0x100A800 + n * 0x10000
/-- 06_array_calibration.md, Table 6-6. -/
def Reg.CAL_CTL (n : Nat) : Nat := 0x100A804 + n * 0x10000
/-- 06_array_calibration.md, Table 6-6. -/
def Reg.CAL_CMD (n : Nat) : Nat := 0x100A808 + n * 0x10000
/-- 06_array_calibration.md, Table 6-6. -/
def Reg.CAL_TURNS (n : Nat) : Nat := 0x100A80C + n * 0x10000
/-- 06_array_calibration.md, Table 6-6. -/
def Reg.CAL_DEFER (n : Nat) : Nat := 0x100A810 + n * 0x10000
/-- 06_array_calibration.md, Table 6-6. -/
def Reg.CAL_YIELD (n : Nat) : Nat := 0x100A814 + n * 0x10000
/-- 06_array_calibration.md, Table 6-6. -/
def Reg.CAL_ABANDON (n : Nat) : Nat := 0x100A818 + n * 0x10000
/-- 06_array_calibration.md, Table 6-6. -/
def Reg.CAL_TEMP (n : Nat) : Nat := 0x100A81C + n * 0x10000
/-- 06_array_calibration.md, Table 6-9. -/
def Reg.CAL_COEF (n j : Nat) : Nat := 0x100B000 + n * 0x10000 + j * 0x4
/-- 09_scratchpads.md, Table 9-12. -/
def Reg.SPM_STAT (n : Nat) : Nat := 0x100C000 + n * 0x10000
/-- 09_scratchpads.md, Table 9-12. -/
def Reg.SPM_CTL (n : Nat) : Nat := 0x100C004 + n * 0x10000
/-- 09_scratchpads.md, Table 9-12. -/
def Reg.SPM_CE (n m : Nat) : Nat := 0x100C010 + n * 0x10000 + m * 0x4
/-- 09_scratchpads.md, Table 9-12. -/
def Reg.SPM_UE (n : Nat) : Nat := 0x100C01C + n * 0x10000
/-- 09_scratchpads.md, Table 9-12. -/
def Reg.SPM_POISON (n : Nat) : Nat := 0x100C020 + n * 0x10000
/-- 09_scratchpads.md, Table 9-12. -/
def Reg.SPM_SCRUB_PASS (n : Nat) : Nat := 0x100C024 + n * 0x10000
/-- 09_scratchpads.md, Table 9-12. -/
def Reg.SPM_ERR_ADDR (n : Nat) : Nat := 0x100C028 + n * 0x10000
/-- 09_scratchpads.md, Table 9-12. -/
def Reg.SPM_MIRRORS (n : Nat) : Nat := 0x100C02C + n * 0x10000
/-- 09_scratchpads.md, Table 9-12. -/
def Reg.SPM_RESTORES (n : Nat) : Nat := 0x100C030 + n * 0x10000
/-- 09_scratchpads.md, Table 9-12. -/
def Reg.SPM_ACC_ADDR (n : Nat) : Nat := 0x100C040 + n * 0x10000
/-- 09_scratchpads.md, Table 9-12. -/
def Reg.SPM_ACC_DATA_LO (n : Nat) : Nat := 0x100C048 + n * 0x10000
/-- 09_scratchpads.md, Table 9-12. -/
def Reg.SPM_ACC_DATA_HI (n : Nat) : Nat := 0x100C04C + n * 0x10000
/-- 09_scratchpads.md, Table 9-12. -/
def Reg.REG_CFG (n q : Nat) : Nat := 0x100C100 + n * 0x10000 + q * 0x10
/-- 09_scratchpads.md, Table 9-12. -/
def Reg.REG_SLOT (n q : Nat) : Nat := 0x100C104 + n * 0x10000 + q * 0x10
/-- 09_scratchpads.md, Table 9-12. -/
def Reg.REG_STAT (n q : Nat) : Nat := 0x100C108 + n * 0x10000 + q * 0x10
/-- 11_memory_stacks.md, Table 11-5. -/
def Reg.PED_STAT (s : Nat) : Nat := 0x2000000 + s * 0x100000
/-- 11_memory_stacks.md, Table 11-5. -/
def Reg.PED_CTL (s : Nat) : Nat := 0x2000004 + s * 0x100000
/-- 11_memory_stacks.md, Table 11-5. -/
def Reg.PED_TEMP (s : Nat) : Nat := 0x2000008 + s * 0x100000
/-- 11_memory_stacks.md, Table 11-5. -/
def Reg.PED_USE (s : Nat) : Nat := 0x200000C + s * 0x100000
/-- 11_memory_stacks.md, Table 11-5. -/
def Reg.PED_PORT_RD (s : Nat) : Nat := 0x2000010 + s * 0x100000
/-- 11_memory_stacks.md, Table 11-5. -/
def Reg.PED_PORT_RD_HI (s : Nat) : Nat := 0x2000014 + s * 0x100000
/-- 11_memory_stacks.md, Table 11-5. -/
def Reg.PED_PORT_WR (s : Nat) : Nat := 0x2000018 + s * 0x100000
/-- 11_memory_stacks.md, Table 11-5. -/
def Reg.PED_PORT_WR_HI (s : Nat) : Nat := 0x200001C + s * 0x100000
/-- 11_memory_stacks.md, Table 11-5. -/
def Reg.PED_DRAM_RD (s : Nat) : Nat := 0x2000020 + s * 0x100000
/-- 11_memory_stacks.md, Table 11-5. -/
def Reg.PED_DRAM_RD_HI (s : Nat) : Nat := 0x2000024 + s * 0x100000
/-- 11_memory_stacks.md, Table 11-5. -/
def Reg.PED_DRAM_WR (s : Nat) : Nat := 0x2000028 + s * 0x100000
/-- 11_memory_stacks.md, Table 11-5. -/
def Reg.PED_DRAM_WR_HI (s : Nat) : Nat := 0x200002C + s * 0x100000
/-- 11_memory_stacks.md, Table 11-5. -/
def Reg.PED_CE_ONDIE (s : Nat) : Nat := 0x2000030 + s * 0x100000
/-- 11_memory_stacks.md, Table 11-5. -/
def Reg.PED_CE (s : Nat) : Nat := 0x2000034 + s * 0x100000
/-- 11_memory_stacks.md, Table 11-5. -/
def Reg.PED_RECON (s : Nat) : Nat := 0x2000038 + s * 0x100000
/-- 11_memory_stacks.md, Table 11-5. -/
def Reg.PED_UE (s : Nat) : Nat := 0x200003C + s * 0x100000
/-- 11_memory_stacks.md, Table 11-5. -/
def Reg.PED_RMW (s : Nat) : Nat := 0x2000040 + s * 0x100000
/-- 11_memory_stacks.md, Table 11-5. -/
def Reg.PED_SCRUB_PASS (s : Nat) : Nat := 0x2000044 + s * 0x100000
/-- 11_memory_stacks.md, Table 11-5. -/
def Reg.PED_REFRESH_DBL (s : Nat) : Nat := 0x2000048 + s * 0x100000
/-- 11_memory_stacks.md, Table 11-5. -/
def Reg.KV_NAN (s : Nat) : Nat := 0x200004C + s * 0x100000
/-- 11_memory_stacks.md, Table 11-5. -/
def Reg.PED_DIE_ERR (s d : Nat) : Nat := 0x2000080 + s * 0x100000 + d * 0x4
/-- 12_attention_and_kv_cache.md, Table 12-12. -/
def Reg.WLK_LOOKUP (s : Nat) : Nat := 0x2000100 + s * 0x100000
/-- 12_attention_and_kv_cache.md, Table 12-12. -/
def Reg.WLK_LOOKUP_HI (s : Nat) : Nat := 0x2000104 + s * 0x100000
/-- 12_attention_and_kv_cache.md, Table 12-12. -/
def Reg.WLK_MISS (s : Nat) : Nat := 0x2000108 + s * 0x100000
/-- 12_attention_and_kv_cache.md, Table 12-12. -/
def Reg.WLK_MISS_HI (s : Nat) : Nat := 0x200010C + s * 0x100000
/-- 12_attention_and_kv_cache.md, Table 12-12. -/
def Reg.WLK_PREFETCH (s : Nat) : Nat := 0x2000110 + s * 0x100000
/-- 12_attention_and_kv_cache.md, Table 12-12. -/
def Reg.WLK_UPDATE (s : Nat) : Nat := 0x2000114 + s * 0x100000
/-- 12_attention_and_kv_cache.md, Table 12-12. -/
def Reg.WLK_INVAL (s : Nat) : Nat := 0x2000118 + s * 0x100000
/-- 12_attention_and_kv_cache.md, Table 12-12. -/
def Reg.SE_DISPATCH (s : Nat) : Nat := 0x2000120 + s * 0x100000
/-- 12_attention_and_kv_cache.md, Table 12-12. -/
def Reg.SE_DISPATCH_HI (s : Nat) : Nat := 0x2000124 + s * 0x100000
/-- 12_attention_and_kv_cache.md, Table 12-12. -/
def Reg.SE_BUSY (s : Nat) : Nat := 0x2000128 + s * 0x100000
/-- 12_attention_and_kv_cache.md, Table 12-12. -/
def Reg.SE_BUSY_HI (s : Nat) : Nat := 0x200012C + s * 0x100000
/-- 12_attention_and_kv_cache.md, Table 12-12. -/
def Reg.SE_PGATHER (s : Nat) : Nat := 0x2000130 + s * 0x100000
/-- 12_attention_and_kv_cache.md, Table 12-12. -/
def Reg.SE_PGATHER_HI (s : Nat) : Nat := 0x2000134 + s * 0x100000
/-- 12_attention_and_kv_cache.md, Table 12-12. -/
def Reg.SE_BUF_HIT (s : Nat) : Nat := 0x2000138 + s * 0x100000
/-- 12_attention_and_kv_cache.md, Table 12-12. -/
def Reg.SE_BUF_HIT_HI (s : Nat) : Nat := 0x200013C + s * 0x100000
/-- 12_attention_and_kv_cache.md, Table 12-12. -/
def Reg.KV_FLUSH (s : Nat) : Nat := 0x2000140 + s * 0x100000
/-- 12_attention_and_kv_cache.md, Table 12-12. -/
def Reg.KV_FLUSH_HI (s : Nat) : Nat := 0x2000144 + s * 0x100000
/-- 12_attention_and_kv_cache.md, Table 12-12. -/
def Reg.KV_FLUSH_DEFER (s : Nat) : Nat := 0x2000148 + s * 0x100000
/-- 12_attention_and_kv_cache.md, Table 12-12. -/
def Reg.KV_UNWRITTEN (s : Nat) : Nat := 0x200014C + s * 0x100000
/-- 12_attention_and_kv_cache.md, Table 12-12. -/
def Reg.KV_WRITE_NACK (s : Nat) : Nat := 0x2000150 + s * 0x100000
/-- 12_attention_and_kv_cache.md, Table 12-12. -/
def Reg.SE_STAT (s : Nat) : Nat := 0x2000154 + s * 0x100000

/-- Register rows from offset 0x0 on. -/
def regRows0 : List RegRow := [
  ⟨"DEV_ID", 0x0, [], .ro, 0x0, 0x0, .single⟩,
  ⟨"DEV_CAP0", 0x4, [], .ro, 0x0, 0x0, .single⟩,
  ⟨"DEV_CAP1", 0x8, [], .ro, 0x0, 0x0, .single⟩,
  ⟨"DEV_CAP2", 0xC, [], .ro, 0x0, 0x0, .single⟩,
  ⟨"DEV_CAP3", 0x10, [], .ro, 0x0, 0x0, .single⟩,
  ⟨"DEV_CAP4", 0x14, [], .ro, 0x0, 0x0, .single⟩,
  ⟨"DEV_CAP5", 0x18, [], .ro, 0x0, 0x0, .single⟩,
  ⟨"DEV_CAP6", 0x1C, [], .ro, 0x0, 0x0, .single⟩,
  ⟨"DEV_CLUSTER_MAP", 0x40, [(16, 0x4)], .ro, 0x0, 0x0, .single⟩,
  ⟨"ARM_CTL", 0x10000, [], .wo, 0xF, 0x0, .single⟩,
  ⟨"ARM_STAT", 0x10004, [], .ro, 0x0, 0x0, .single⟩,
  ⟨"ARM_SRC_LO", 0x10008, [], .rw, 0xFFFFFFFF, 0x0, .low⟩,
  ⟨"ARM_SRC_HI", 0x1000C, [], .rw, 0xFFFFFFFF, 0x0, .high⟩,
  ⟨"ARM_LEN", 0x10010, [], .rw, 0x1FFFFFF, 0x0, .single⟩,
  ⟨"ARM_ERR", 0x10014, [], .ro, 0x0, 0x0, .single⟩,
  ⟨"ARM_SERIAL", 0x10018, [], .ro, 0x0, 0x0, .single⟩,
  ⟨"ARM_FLOOR", 0x1001C, [], .ro, 0x0, 0x0, .single⟩,
  ⟨"ARM_INSTANCES", 0x10020, [], .ro, 0x0, 0x0, .single⟩,
  ⟨"ARM_HASH", 0x10040, [(12, 0x4)], .ro, 0x0, 0x0, .single⟩,
  ⟨"ARM_INST", 0x10080, [(16, 0x4)], .ro, 0x0, 0x0, .single⟩,
  ⟨"SCH_CTL", 0x20000, [], .rw, 0x1, 0x1, .single⟩,
  ⟨"SCH_STAT", 0x20004, [], .ro, 0x0, 0x0, .single⟩,
  ⟨"SCH_CMD", 0x20008, [], .wo, 0xFFFF00F, 0x0, .single⟩,
  ⟨"SCH_CMD_STAT", 0x2000C, [], .ro, 0x0, 0x0, .single⟩,
  ⟨"SCH_STEP_LIMIT", 0x20010, [], .rw, 0xFFFFFFFF, 0x7A120, .single⟩,
  ⟨"SCH_ACCEPTED", 0x20020, [], .rw, 0xFFFFFFFF, 0x0, .low⟩,
  ⟨"SCH_ACCEPTED_HI", 0x20024, [], .rw, 0xFFFFFFFF, 0x0, .high⟩,
  ⟨"SCH_REJECTED", 0x20028, [], .rw, 0xFFFFFFFF, 0x0, .single⟩,
  ⟨"SCH_LATE", 0x2002C, [], .rw, 0xFFFFFFFF, 0x0, .single⟩,
  ⟨"SCH_EVICTED", 0x20030, [], .rw, 0xFFFFFFFF, 0x0, .single⟩,
  ⟨"SCH_PAUSES", 0x20034, [], .rw, 0xFFFFFFFF, 0x0, .single⟩,
  ⟨"SCH_SEQ_SEL", 0x20080, [(2, 0x4)], .rw, 0xF0FFF, 0x0, .single⟩,
  ⟨"SCH_SEQ_STAT", 0x20090, [], .ro, 0x0, 0x0, .single⟩,
  ⟨"SCH_SEQ_LEN", 0x20094, [], .ro, 0x0, 0x0, .single⟩,
  ⟨"SCH_SEQ_TAG_LO", 0x20098, [], .ro, 0x0, 0x0, .low⟩,
  ⟨"SCH_SEQ_TAG_HI", 0x2009C, [], .ro, 0x0, 0x0, .high⟩,
  ⟨"SCH_SEQ_EMIT", 0x200A0, [], .ro, 0x0, 0x0, .single⟩,
  ⟨"SQ_BASE_LO", 0x20100, [(4, 0x20)], .rw, 0xFFFFFFFF, 0x0, .low⟩,
  ⟨"SQ_BASE_HI", 0x20104, [(4, 0x20)], .rw, 0xFFFFFFFF, 0x0, .high⟩,
  ⟨"SQ_CFG", 0x20108, [(4, 0x20)], .rw, 0x8000011F, 0x0, .single⟩,
  ⟨"SQ_HEAD", 0x2010C, [(4, 0x20)], .ro, 0x0, 0x0, .single⟩,
  ⟨"SQ_TAIL", 0x20110, [(4, 0x20)], .rw, 0xFFFFFFFF, 0x0, .single⟩,
  ⟨"SQ_STAT", 0x20114, [(4, 0x20)], .ro, 0x0, 0x0, .single⟩,
  ⟨"RQ_BASE_LO", 0x20200, [(4, 0x20)], .rw, 0xFFFFFFFF, 0x0, .low⟩,
  ⟨"RQ_BASE_HI", 0x20204, [(4, 0x20)], .rw, 0xFFFFFFFF, 0x0, .high⟩]

/-- Register rows from offset 0x20208 on. -/
def regRows1 : List RegRow := [
  ⟨"RQ_CFG", 0x20208, [(4, 0x20)], .rw, 0x8000031F, 0x0, .single⟩,
  ⟨"RQ_HEAD", 0x2020C, [(4, 0x20)], .rw, 0xFFFFFFFF, 0x0, .single⟩,
  ⟨"RQ_TAIL", 0x20210, [(4, 0x20)], .ro, 0x0, 0x0, .single⟩,
  ⟨"RQ_SHADOW_LO", 0x20214, [(4, 0x20)], .rw, 0xFFFFFFFF, 0x0, .low⟩,
  ⟨"RQ_SHADOW_HI", 0x20218, [(4, 0x20)], .rw, 0xFFFFFFFF, 0x0, .high⟩,
  ⟨"RQ_PENDING", 0x2021C, [(4, 0x20)], .ro, 0x0, 0x0, .single⟩,
  ⟨"SCH_INST_STAT", 0x20400, [(16, 0x40)], .ro, 0x0, 0x0, .single⟩,
  ⟨"SCH_STEPS", 0x20408, [(16, 0x40)], .rw, 0xFFFFFFFF, 0x0, .low⟩,
  ⟨"SCH_STEPS_HI", 0x2040C, [(16, 0x40)], .rw, 0xFFFFFFFF, 0x0, .high⟩,
  ⟨"SCH_STEP_NS", 0x20410, [(16, 0x40)], .ro, 0x0, 0x0, .single⟩,
  ⟨"SCH_COUNTS", 0x20414, [(16, 0x40)], .ro, 0x0, 0x0, .single⟩,
  ⟨"SCH_TOKENS", 0x20418, [(16, 0x40)], .rw, 0xFFFFFFFF, 0x0, .low⟩,
  ⟨"SCH_TOKENS_HI", 0x2041C, [(16, 0x40)], .rw, 0xFFFFFFFF, 0x0, .high⟩,
  ⟨"SCH_DRAFT_PROP", 0x20420, [(16, 0x40)], .rw, 0xFFFFFFFF, 0x0, .low⟩,
  ⟨"SCH_DRAFT_PROP_HI", 0x20424, [(16, 0x40)], .rw, 0xFFFFFFFF, 0x0, .high⟩,
  ⟨"SCH_DRAFT_ACC", 0x20428, [(16, 0x40)], .rw, 0xFFFFFFFF, 0x0, .low⟩,
  ⟨"SCH_DRAFT_ACC_HI", 0x2042C, [(16, 0x40)], .rw, 0xFFFFFFFF, 0x0, .high⟩,
  ⟨"SCH_WAITERS", 0x20430, [(16, 0x40)], .ro, 0x0, 0x0, .single⟩,
  ⟨"SMP_STAT", 0x30000, [(4, 0x4)], .ro, 0x0, 0x0, .single⟩,
  ⟨"SMP_CTL", 0x30010, [], .rw, 0x1, 0x0, .single⟩,
  ⟨"SMP_ROWS", 0x30100, [(4, 0x20)], .rw, 0xFFFFFFFF, 0x0, .low⟩,
  ⟨"SMP_ROWS_HI", 0x30104, [(4, 0x20)], .rw, 0xFFFFFFFF, 0x0, .high⟩,
  ⟨"SMP_BUSY", 0x30108, [(4, 0x20)], .rw, 0xFFFFFFFF, 0x0, .low⟩,
  ⟨"SMP_BUSY_HI", 0x3010C, [(4, 0x20)], .rw, 0xFFFFFFFF, 0x0, .high⟩,
  ⟨"SMP_VERIFY", 0x30110, [(4, 0x20)], .rw, 0xFFFFFFFF, 0x0, .single⟩,
  ⟨"SMP_DEAD", 0x30114, [(4, 0x20)], .rw, 0xFFFFFFFF, 0x0, .single⟩,
  ⟨"SMP_NAN", 0x30118, [(4, 0x20)], .rw, 0xFFFFFFFF, 0x0, .single⟩,
  ⟨"SMP_DISCARD", 0x3011C, [(4, 0x20)], .rw, 0xFFFFFFFF, 0x0, .single⟩,
  ⟨"GRM_CMD", 0x30800, [], .wo, 0x3F0F, 0x0, .single⟩,
  ⟨"GRM_CACHE_HIT", 0x30808, [], .rw, 0xFFFFFFFF, 0x0, .low⟩,
  ⟨"GRM_CACHE_HIT_HI", 0x3080C, [], .rw, 0xFFFFFFFF, 0x0, .high⟩,
  ⟨"GRM_CACHE_MISS", 0x30810, [], .rw, 0xFFFFFFFF, 0x0, .low⟩,
  ⟨"GRM_CACHE_MISS_HI", 0x30814, [], .rw, 0xFFFFFFFF, 0x0, .high⟩,
  ⟨"GRM_READ_FAIL", 0x30818, [], .rw, 0xFFFFFFFF, 0x0, .single⟩,
  ⟨"GRM_SEQ_STATE", 0x30820, [], .ro, 0x0, 0x0, .single⟩,
  ⟨"GRM_SRC_LO", 0x31000, [(64, 0x20)], .rw, 0xFFFFFFFF, 0x0, .low⟩,
  ⟨"GRM_SRC_HI", 0x31004, [(64, 0x20)], .rw, 0xFFFFFFFF, 0x0, .high⟩,
  ⟨"GRM_LEN_LO", 0x31008, [(64, 0x20)], .rw, 0xFFFFFFFF, 0x0, .low⟩,
  ⟨"GRM_LEN_HI", 0x3100C, [(64, 0x20)], .rw, 0xFFFFFFFF, 0x0, .high⟩,
  ⟨"GRM_SLOT_CTL", 0x31010, [(64, 0x20)], .rw, 0x3, 0x0, .single⟩,
  ⟨"GRM_STAT", 0x31014, [(64, 0x20)], .ro, 0x0, 0x0, .single⟩,
  ⟨"GRM_REFS", 0x31018, [(64, 0x20)], .ro, 0x0, 0x0, .single⟩,
  ⟨"WLD_CMD", 0x40000, [], .wo, 0x1F7F, 0x0, .single⟩,
  ⟨"WLD_LOAD_Q", 0x40004, [], .ro, 0x0, 0x0, .single⟩,
  ⟨"WLD_LOADS", 0x40010, [], .rw, 0xFFFFFFFF, 0x0, .single⟩]

/-- Register rows from offset 0x40014 on. -/
def regRows2 : List RegRow := [
  ⟨"WLD_RELEASES", 0x40014, [], .rw, 0xFFFFFFFF, 0x0, .single⟩,
  ⟨"WLD_LOAD_BYTES", 0x40018, [], .rw, 0xFFFFFFFF, 0x0, .low⟩,
  ⟨"WLD_LOAD_BYTES_HI", 0x4001C, [], .rw, 0xFFFFFFFF, 0x0, .high⟩,
  ⟨"WLD_FAR_BYTES", 0x40020, [], .rw, 0xFFFFFFFF, 0x0, .low⟩,
  ⟨"WLD_FAR_BYTES_HI", 0x40024, [], .rw, 0xFFFFFFFF, 0x0, .high⟩,
  ⟨"WLD_DIG_INCOMPLETE", 0x40028, [], .rw, 0xFFFFFFFF, 0x0, .single⟩,
  ⟨"WLD_SRC_LO", 0x40100, [(8, 0x20)], .rw, 0xFFFFFFFF, 0x0, .low⟩,
  ⟨"WLD_SRC_HI", 0x40104, [(8, 0x20)], .rw, 0xFFFFFFFF, 0x0, .high⟩,
  ⟨"WLD_LEN_LO", 0x40108, [(8, 0x20)], .rw, 0xFFFFFFFF, 0x0, .low⟩,
  ⟨"WLD_LEN_HI", 0x4010C, [(8, 0x20)], .rw, 0xFFFFFFFF, 0x0, .high⟩,
  ⟨"WLD_SLOT_CTL", 0x40110, [(8, 0x20)], .rw, 0x3, 0x0, .single⟩,
  ⟨"WLD_SLOT_STAT", 0x40114, [(8, 0x20)], .ro, 0x0, 0x0, .single⟩,
  ⟨"WLD_MODEL_ID_LO", 0x40118, [(8, 0x20)], .ro, 0x0, 0x0, .low⟩,
  ⟨"WLD_MODEL_ID_HI", 0x4011C, [(8, 0x20)], .ro, 0x0, 0x0, .high⟩,
  ⟨"WLD_PHASH", 0x40200, [(8, 0x40), (12, 0x4)], .ro, 0x0, 0x0, .single⟩,
  ⟨"WLD_LDIG", 0x40400, [(8, 0x10), (4, 0x4)], .ro, 0x0, 0x0, .single⟩,
  ⟨"WLD_INST_STAT", 0x40800, [(16, 0x20)], .ro, 0x0, 0x0, .single⟩,
  ⟨"WLD_INST_RES", 0x40804, [(16, 0x20)], .ro, 0x0, 0x0, .single⟩,
  ⟨"WLD_SDIG", 0x40808, [(16, 0x20), (4, 0x4)], .ro, 0x0, 0x0, .single⟩,
  ⟨"WLD_SDIG_STEP", 0x40818, [(16, 0x20)], .ro, 0x0, 0x0, .single⟩,
  ⟨"FMT_SEL", 0x48000, [(2, 0x4)], .rw, 0xF03FF, 0x0, .single⟩,
  ⟨"FMT_CTL", 0x48010, [], .wo, 0xFF, 0x0, .single⟩,
  ⟨"FMT_STAT", 0x48100, [(16, 0x4)], .ro, 0x0, 0x0, .single⟩,
  ⟨"FMT_L_STATE", 0x48200, [], .ro, 0x0, 0x0, .single⟩,
  ⟨"FMT_L_METRIC", 0x48204, [], .ro, 0x0, 0x0, .single⟩,
  ⟨"FMT_L_CHECK", 0x48208, [], .ro, 0x0, 0x0, .low⟩,
  ⟨"FMT_L_CHECK_HI", 0x4820C, [], .ro, 0x0, 0x0, .high⟩,
  ⟨"FMT_L_MISMATCH", 0x48210, [], .ro, 0x0, 0x0, .low⟩,
  ⟨"FMT_L_MISMATCH_HI", 0x48214, [], .ro, 0x0, 0x0, .high⟩,
  ⟨"FMT_L_CONV", 0x48218, [], .ro, 0x0, 0x0, .low⟩,
  ⟨"FMT_L_CONV_HI", 0x4821C, [], .ro, 0x0, 0x0, .high⟩,
  ⟨"FMT_L_SAT", 0x48220, [], .ro, 0x0, 0x0, .low⟩,
  ⟨"FMT_L_SAT_HI", 0x48224, [], .ro, 0x0, 0x0, .high⟩,
  ⟨"FMT_L_ZERO", 0x48228, [], .ro, 0x0, 0x0, .low⟩,
  ⟨"FMT_L_ZERO_HI", 0x4822C, [], .ro, 0x0, 0x0, .high⟩,
  ⟨"FMT_L_EVAL", 0x48230, [], .ro, 0x0, 0x0, .single⟩,
  ⟨"KVM_FRAMES", 0x50000, [(16, 0x10)], .ro, 0x0, 0x0, .single⟩,
  ⟨"KVM_FREE", 0x50004, [(16, 0x10)], .ro, 0x0, 0x0, .single⟩,
  ⟨"KVM_PRE", 0x50008, [(16, 0x10)], .ro, 0x0, 0x0, .single⟩,
  ⟨"KVM_PFX_FREE", 0x5000C, [(16, 0x10)], .ro, 0x0, 0x0, .single⟩,
  ⟨"KVM_EMPTY", 0x50100, [], .rw, 0xFFFFFFFF, 0x0, .low⟩,
  ⟨"KVM_EMPTY_HI", 0x50104, [], .rw, 0xFFFFFFFF, 0x0, .high⟩,
  ⟨"KVM_NO_FRAME", 0x50108, [], .rw, 0xFFFFFFFF, 0x0, .single⟩,
  ⟨"KVM_INCOMPLETE", 0x5010C, [], .rw, 0xFFFFFFFF, 0x0, .single⟩,
  ⟨"PFX_STAT", 0x51000, [(8, 0x40)], .ro, 0x0, 0x0, .single⟩]

/-- Register rows from offset 0x51008 on. -/
def regRows3 : List RegRow := [
  ⟨"PFX_SRC_LO", 0x51008, [(8, 0x40)], .rw, 0xFFFFFFFF, 0x0, .low⟩,
  ⟨"PFX_SRC_HI", 0x5100C, [(8, 0x40)], .rw, 0xFFFFFFFF, 0x0, .high⟩,
  ⟨"PFX_LEN", 0x51010, [(8, 0x40)], .rw, 0x7FF, 0x0, .single⟩,
  ⟨"PFX_CTL", 0x51014, [(8, 0x40)], .wo, 0xFF, 0x0, .single⟩,
  ⟨"PFX_REFS", 0x51018, [(8, 0x40)], .ro, 0x0, 0x0, .single⟩,
  ⟨"FTR_BASE_LO", 0x5F000, [(16, 0x10)], .rw, 0xFFFFFFFF, 0x0, .low⟩,
  ⟨"FTR_BASE_HI", 0x5F004, [(16, 0x10)], .rw, 0xFFFFFFFF, 0x0, .high⟩,
  ⟨"FTR_CTL", 0x5F008, [(16, 0x10)], .rw, 0x7, 0x0, .single⟩,
  ⟨"FTR_STAT", 0x5F00C, [(16, 0x10)], .ro, 0x0, 0x0, .single⟩,
  ⟨"FTR_SPILLS", 0x5F100, [], .rw, 0xFFFFFFFF, 0x0, .single⟩,
  ⟨"FTR_RESTORES", 0x5F104, [], .rw, 0xFFFFFFFF, 0x0, .single⟩,
  ⟨"FTR_BYTES_OUT", 0x5F108, [], .rw, 0xFFFFFFFF, 0x0, .low⟩,
  ⟨"FTR_BYTES_OUT_HI", 0x5F10C, [], .rw, 0xFFFFFFFF, 0x0, .high⟩,
  ⟨"FTR_BYTES_IN", 0x5F110, [], .rw, 0xFFFFFFFF, 0x0, .low⟩,
  ⟨"FTR_BYTES_IN_HI", 0x5F114, [], .rw, 0xFFFFFFFF, 0x0, .high⟩,
  ⟨"FTR_ERRORS", 0x5F118, [], .rw, 0xFFFFFFFF, 0x0, .single⟩,
  ⟨"FAB_STAT", 0x60000, [], .ro, 0x0, 0x0, .single⟩,
  ⟨"FAB_CTL", 0x60004, [], .rw, 0x1, 0x0, .single⟩,
  ⟨"FAB_RETIRED", 0x60010, [(2, 0x4)], .ro, 0x0, 0x0, .single⟩,
  ⟨"FAB_SEAM", 0x60020, [(4, 0x4)], .ro, 0x0, 0x0, .single⟩,
  ⟨"FAB_PACE", 0x60030, [], .ro, 0x0, 0x10100000, .single⟩,
  ⟨"FAB_RESENT", 0x60040, [], .rw, 0xFFFFFFFF, 0x0, .single⟩,
  ⟨"FAB_DUPLICATE", 0x60044, [], .rw, 0xFFFFFFFF, 0x0, .single⟩,
  ⟨"FAB_FAILED", 0x60048, [], .rw, 0xFFFFFFFF, 0x0, .single⟩,
  ⟨"FAB_RT_STAT", 0x61000, [(16, 0x100), (2, 0x80)], .ro, 0x0, 0x0, .single⟩,
  ⟨"FAB_RT_FLITS", 0x61008, [(16, 0x100), (2, 0x80)], .rw, 0xFFFFFFFF, 0x0, .low⟩,
  ⟨"FAB_RT_FLITS_HI", 0x6100C, [(16, 0x100), (2, 0x80)], .rw, 0xFFFFFFFF, 0x0, .high⟩,
  ⟨"FAB_RT_URGENT", 0x61010, [(16, 0x100), (2, 0x80)], .rw, 0xFFFFFFFF, 0x0, .single⟩,
  ⟨"FAB_RT_REPLAY", 0x61014, [(16, 0x100), (2, 0x80)], .rw, 0xFFFFFFFF, 0x0, .single⟩,
  ⟨"FAB_RT_CROSS", 0x61018, [(16, 0x100), (2, 0x80)], .rw, 0xFFFFFFFF, 0x0, .single⟩,
  ⟨"FAB_RT_MAXWAIT", 0x6101C, [(16, 0x100), (2, 0x80)], .rw, 0xFFFFFFFF, 0x0, .single⟩,
  ⟨"CLM_CE", 0x68000, [(16, 0x20)], .rw, 0xFFFFFFFF, 0x0, .single⟩,
  ⟨"CLM_UE", 0x68004, [(16, 0x20)], .rw, 0xFFFFFFFF, 0x0, .single⟩,
  ⟨"CLM_POISON", 0x68008, [(16, 0x20)], .rw, 0xFFFFFFFF, 0x0, .single⟩,
  ⟨"CLM_SCRUB_PASS", 0x6800C, [(16, 0x20)], .rw, 0xFFFFFFFF, 0x0, .single⟩,
  ⟨"CLM_ERR_ADDR", 0x68010, [(16, 0x20)], .ro, 0x0, 0x0, .single⟩,
  ⟨"CLM_TRANSIT", 0x68014, [(16, 0x20)], .ro, 0x0, 0x0, .single⟩,
  ⟨"FLT_STAT", 0x70000, [], .ro, 0x0, 0x0, .single⟩,
  ⟨"FLT_LOG_OLDEST", 0x70010, [], .ro, 0x0, 0x0, .single⟩,
  ⟨"FLT_LOG_NEXT", 0x70014, [], .ro, 0x0, 0x0, .single⟩,
  ⟨"FLT_LOG_LOST", 0x70018, [], .rw, 0xFFFFFFFF, 0x0, .single⟩,
  ⟨"FLT_LOG_SEL", 0x70020, [(2, 0x4)], .rw, 0xFFFFFFFF, 0x0, .single⟩,
  ⟨"FLT_ARRAY_TAKEOVERS", 0x70030, [], .rw, 0xFFFFFFFF, 0x0, .single⟩,
  ⟨"FLT_CORE_TAKEOVERS", 0x70034, [], .rw, 0xFFFFFFFF, 0x0, .single⟩,
  ⟨"FLT_INT_MAX", 0x70038, [], .rw, 0xFFFFFFFF, 0x0, .single⟩]

/-- Register rows from offset 0x70040 on. -/
def regRows4 : List RegRow := [
  ⟨"FLT_LOG_DATA", 0x70040, [(2, 0x20), (8, 0x4)], .ro, 0x0, 0x0, .single⟩,
  ⟨"FLT_UNBACKED", 0x70080, [(5, 0x4)], .ro, 0x0, 0x0, .single⟩,
  ⟨"FLT_RESERVE", 0x700A0, [(4, 0x4)], .ro, 0x0, 0x0, .single⟩,
  ⟨"FLT_TEST_CTL", 0x700C0, [], .wo, 0xFFFF00FF, 0x0, .single⟩,
  ⟨"FLT_TEST_SPACING", 0x700C4, [], .rw, 0xFF, 0x0, .single⟩,
  ⟨"FLT_ADVISE", 0x700C8, [], .rw, 0x1, 0x1, .single⟩,
  ⟨"FLT_TEST_STAT", 0x700E0, [(8, 0x4)], .ro, 0x0, 0x0, .single⟩,
  ⟨"FLT_FATAL_COUNT", 0x70100, [], .rws, 0x1F, 0x0, .single⟩,
  ⟨"FLT_FATAL", 0x70200, [(16, 0x20), (8, 0x4)], .rws, 0xFFFFFFFF, 0x0, .single⟩,
  ⟨"PWR_STAT", 0x80000, [], .ro, 0x0, 0x0, .single⟩,
  ⟨"PWR_CMD", 0x80004, [], .wo, 0xFFFF000F, 0x0, .single⟩,
  ⟨"PWR_CTL", 0x80008, [], .rw, 0x3, 0x0, .single⟩,
  ⟨"PWR_MGMT_CAP", 0x8000C, [], .rw, 0xFFFF, 0x0, .single⟩,
  ⟨"PWR_IN_V", 0x80010, [], .ro, 0x0, 0x0, .single⟩,
  ⟨"PWR_IN_I", 0x80014, [], .ro, 0x0, 0x0, .single⟩,
  ⟨"PWR_IN_P", 0x80018, [], .ro, 0x0, 0x0, .single⟩,
  ⟨"PWR_ENV", 0x8001C, [], .ro, 0x0, 0x0, .single⟩,
  ⟨"PWR_LIMIT", 0x80020, [], .ro, 0x0, 0x0, .single⟩,
  ⟨"PWR_BALLAST", 0x80024, [], .ro, 0x0, 0x0, .single⟩,
  ⟨"PWR_RATIO", 0x80028, [], .ro, 0x0, 0x10101010, .single⟩,
  ⟨"PWR_LIMIT_NS", 0x80040, [], .rw, 0xFFFFFFFF, 0x0, .low⟩,
  ⟨"PWR_LIMIT_NS_HI", 0x80044, [], .rw, 0xFFFFFFFF, 0x0, .high⟩,
  ⟨"PWR_DELAYS", 0x80048, [], .rw, 0xFFFFFFFF, 0x0, .single⟩,
  ⟨"PWR_BALLAST_MJ", 0x80050, [], .rw, 0xFFFFFFFF, 0x0, .low⟩,
  ⟨"PWR_BALLAST_MJ_HI", 0x80054, [], .rw, 0xFFFFFFFF, 0x0, .high⟩,
  ⟨"PWR_PHASE_LOST", 0x80058, [], .rw, 0xFFFFFFFF, 0x0, .single⟩,
  ⟨"PWR_DAWN_US", 0x8005C, [], .ro, 0x0, 0x0, .single⟩,
  ⟨"PWR_SHARE", 0x80100, [(16, 0x4)], .ro, 0x0, 0x0, .single⟩,
  ⟨"PWR_DOM", 0x80200, [(19, 0x4)], .ro, 0x0, 0x0, .single⟩,
  ⟨"PWR_DOM_ENTRIES", 0x80280, [(19, 0x4)], .rw, 0xFFFFFFFF, 0x0, .single⟩,
  ⟨"PWR_RAIL", 0x80300, [(11, 0x4)], .ro, 0x0, 0x0, .single⟩,
  ⟨"CAL_STORE_STAT", 0x8C000, [(2, 0x4)], .ro, 0x0, 0x0, .single⟩,
  ⟨"CAL_STORE_WRITES", 0x8C010, [(2, 0x4)], .rw, 0xFFFFFFFF, 0x0, .single⟩,
  ⟨"CAL_STORE_FAILS", 0x8C018, [(2, 0x4)], .rw, 0xFFFFFFFF, 0x0, .single⟩,
  ⟨"CAL_STORE_DISCARDS", 0x8C020, [(2, 0x4)], .ro, 0x0, 0x0, .single⟩,
  ⟨"CAL_STORE_BAD", 0x8C028, [(2, 0x4)], .ro, 0x0, 0x0, .single⟩,
  ⟨"HKA_STAT", 0x90000, [], .ro, 0x0, 0xF00000, .single⟩,
  ⟨"HKA_CTL", 0x90004, [], .rw, 0x3, 0x2, .single⟩,
  ⟨"HKA_ROUND_US", 0x90008, [], .ro, 0x0, 0x0, .single⟩,
  ⟨"HKA_BAL", 0x9000C, [], .ro, 0x0, 0x0, .single⟩,
  ⟨"HKA_INJ_TRIG", 0x90010, [], .wo, 0xFF, 0x0, .single⟩,
  ⟨"HKA_ROUNDS", 0x90020, [], .rw, 0xFFFFFFFF, 0x0, .low⟩,
  ⟨"HKA_ROUNDS_HI", 0x90024, [], .rw, 0xFFFFFFFF, 0x0, .high⟩,
  ⟨"HKA_INJ_CONV", 0x90028, [], .rw, 0xFFFFFFFF, 0x0, .single⟩,
  ⟨"HKA_VISITS", 0x9002C, [], .rw, 0xFFFFFFFF, 0x0, .single⟩]

/-- Register rows from offset 0x90040 on. -/
def regRows5 : List RegRow := [
  ⟨"HKA_SLICE_OFS", 0x90040, [(5, 0x10)], .ro, 0x0, 0x0, .single⟩,
  ⟨"HKA_SLICE_GAIN", 0x90044, [(5, 0x10)], .ro, 0x0, 0x0, .single⟩,
  ⟨"HKA_SLICE_CROSS", 0x90048, [(5, 0x10)], .ro, 0x0, 0x0, .single⟩,
  ⟨"HKA_SLICE_STAT", 0x9004C, [(5, 0x10)], .ro, 0x0, 0x0, .single⟩,
  ⟨"HKA_INJ", 0x90100, [(8, 0x4)], .rw, 0xBF0000FF, 0x0, .single⟩,
  ⟨"HKA_CH_RAW", 0x90400, [(64, 0x10)], .ro, 0x0, 0x0, .single⟩,
  ⟨"HKA_CH_VAL", 0x90404, [(64, 0x10)], .ro, 0x0, 0x0, .single⟩,
  ⟨"HKA_CH_STAT", 0x90408, [(64, 0x10)], .ro, 0x0, 0x0, .single⟩,
  ⟨"THM_STAT", 0xA0000, [], .ro, 0x0, 0x0, .single⟩,
  ⟨"THM_CTL", 0xA0004, [], .rw, 0x3F0, 0x80, .single⟩,
  ⟨"THM_COOLANT", 0xA0008, [], .rw, 0xFFFF, 0x0, .single⟩,
  ⟨"THM_PLATE_G", 0xA000C, [], .rw, 0xFFFF, 0x640, .single⟩,
  ⟨"THM_NTC", 0xA0010, [], .rw, 0xFFFFFFFF, 0xD6B03E8, .single⟩,
  ⟨"THM_COOLANT_IN", 0xA0014, [], .ro, 0x0, 0x0, .single⟩,
  ⟨"THM_WARNINGS", 0xA0020, [], .rw, 0xFFFFFFFF, 0x0, .single⟩,
  ⟨"THM_THROTTLES", 0xA0024, [], .rw, 0xFFFFFFFF, 0x0, .single⟩,
  ⟨"THM_FORCINGS", 0xA0028, [], .rw, 0xFFFFFFFF, 0x0, .single⟩,
  ⟨"THM_LIMIT_STEPS", 0xA002C, [], .rw, 0xFFFFFFFF, 0x0, .single⟩,
  ⟨"THM_NODE", 0xA0100, [(64, 0x4)], .ro, 0x0, 0x0, .single⟩,
  ⟨"THM_NODE_P", 0xA0200, [(64, 0x4)], .ro, 0x0, 0x0, .single⟩,
  ⟨"CLK_STAT", 0xB0000, [], .ro, 0x0, 0x0, .single⟩,
  ⟨"CLK_TIME_LO", 0xB0008, [], .ro, 0x0, 0x0, .low⟩,
  ⟨"CLK_TIME_HI", 0xB000C, [], .ro, 0x0, 0x0, .high⟩,
  ⟨"CLK_OSC_PPM", 0xB0010, [], .ro, 0x0, 0x0, .single⟩,
  ⟨"CLK_TRIM_PPB", 0xB0014, [], .ro, 0x0, 0x0, .single⟩,
  ⟨"SEC_STAT", 0xC0000, [], .ro, 0x0, 0x0, .single⟩,
  ⟨"SEC_CMD", 0xC0004, [], .wo, 0xF, 0x0, .single⟩,
  ⟨"SEC_NONCE_LO", 0xC0008, [], .ro, 0x0, 0x0, .low⟩,
  ⟨"SEC_NONCE_HI", 0xC000C, [], .ro, 0x0, 0x0, .high⟩,
  ⟨"SEC_UNLOCK_STAT", 0xC0010, [], .ro, 0x0, 0x0, .single⟩,
  ⟨"SEC_UNLOCK_CTL", 0xC0014, [], .wo, 0x1, 0x0, .single⟩,
  ⟨"SEC_KEY_VALID_LO", 0xC0018, [], .ro, 0x0, 0x0, .low⟩,
  ⟨"SEC_KEY_VALID_HI", 0xC001C, [], .ro, 0x0, 0x0, .high⟩,
  ⟨"SEC_SESSIONS", 0xC0020, [], .ro, 0x0, 0x0, .single⟩,
  ⟨"SEC_SPDM_FAIL", 0xC0024, [], .rw, 0xFFFFFFFF, 0x0, .single⟩,
  ⟨"SEC_UNLOCK_FAIL", 0xC0028, [], .rw, 0xFFFFFFFF, 0x0, .single⟩,
  ⟨"SEC_UNLOCK_DATA", 0xC0100, [(50, 0x4)], .wo, 0xFFFFFFFF, 0x0, .single⟩,
  ⟨"SEC_OWNER_HASH", 0xC0200, [(4, 0x40), (12, 0x4)], .ro, 0x0, 0x0, .single⟩,
  ⟨"SEC_ROOT_HASH", 0xC0300, [(12, 0x4)], .ro, 0x0, 0x0, .single⟩,
  ⟨"ICP_STAT", 0xD0000, [(12, 0x1000)], .ro, 0x0, 0x0, .single⟩,
  ⟨"ICP_CTL", 0xD0004, [(12, 0x1000)], .wo, 0xF, 0x0, .single⟩,
  ⟨"ICP_DELAY_ADJ", 0xD0008, [(12, 0x1000)], .rws, 0xFFFF, 0x0, .single⟩,
  ⟨"ICP_TX_FLITS", 0xD0010, [(12, 0x1000)], .rw, 0xFFFFFFFF, 0x0, .low⟩,
  ⟨"ICP_TX_FLITS_HI", 0xD0014, [(12, 0x1000)], .rw, 0xFFFFFFFF, 0x0, .high⟩,
  ⟨"ICP_RX_FLITS", 0xD0018, [(12, 0x1000)], .rw, 0xFFFFFFFF, 0x0, .low⟩]

/-- Register rows from offset 0xD001C on. -/
def regRows6 : List RegRow := [
  ⟨"ICP_RX_FLITS_HI", 0xD001C, [(12, 0x1000)], .rw, 0xFFFFFFFF, 0x0, .high⟩,
  ⟨"ICP_FEC_CORR", 0xD0020, [(12, 0x1000)], .rw, 0xFFFFFFFF, 0x0, .low⟩,
  ⟨"ICP_FEC_CORR_HI", 0xD0024, [(12, 0x1000)], .rw, 0xFFFFFFFF, 0x0, .high⟩,
  ⟨"ICP_FEC_UNCORR", 0xD0028, [(12, 0x1000)], .rw, 0xFFFFFFFF, 0x0, .single⟩,
  ⟨"ICP_CRC_ERR", 0xD002C, [(12, 0x1000)], .rw, 0xFFFFFFFF, 0x0, .single⟩,
  ⟨"ICP_REPLAY", 0xD0030, [(12, 0x1000)], .rw, 0xFFFFFFFF, 0x0, .single⟩,
  ⟨"ICP_LANE_DROPS", 0xD0034, [(12, 0x1000)], .rw, 0xFFFFFFFF, 0x0, .single⟩,
  ⟨"ICP_LINK_LOST", 0xD0038, [(12, 0x1000)], .rw, 0xFFFFFFFF, 0x0, .single⟩,
  ⟨"ICP_AUTH_FAIL", 0xD003C, [(12, 0x1000)], .rw, 0xFFFFFFFF, 0x0, .single⟩,
  ⟨"ICP_PEER_HASH", 0xD0040, [(12, 0x1000), (12, 0x4)], .ro, 0x0, 0x0, .single⟩,
  ⟨"ICP_ADOPTED_HASH", 0xD0080, [(12, 0x1000), (12, 0x4)], .ro, 0x0, 0x0, .single⟩,
  ⟨"ICP_SYNC_STAT", 0xDC000, [], .ro, 0x0, 0x7C000000, .single⟩,
  ⟨"ICP_GROUP", 0xDC004, [], .ro, 0x0, 0x0, .single⟩,
  ⟨"ICP_REP_RELOADS", 0xDC008, [], .rw, 0xFFFFFFFF, 0x0, .single⟩,
  ⟨"ICP_REP_ROUNDS", 0xDC00C, [], .rw, 0xFFFFFFFF, 0x0, .single⟩,
  ⟨"ICP_ID_HASH", 0xDC040, [(12, 0x4)], .ro, 0x0, 0x0, .single⟩,
  ⟨"ICP_LEADER_HASH", 0xDC080, [(12, 0x4)], .ro, 0x0, 0x0, .single⟩,
  ⟨"ICP_REP_STAT", 0xDC100, [(16, 0x4)], .ro, 0x0, 0x0, .single⟩,
  ⟨"HST_PORT_STAT", 0xE0000, [(2, 0x40)], .ro, 0x0, 0x0, .single⟩,
  ⟨"HST_PORT_EVT", 0xE0004, [(2, 0x40)], .w1c, 0x7, 0x0, .single⟩,
  ⟨"HST_B4_SEL", 0xE0008, [(2, 0x40)], .rw, 0x8F000007, 0x0, .single⟩,
  ⟨"HST_LINK_DOWN", 0xE000C, [(2, 0x40)], .rw, 0xFFFFFFFF, 0x0, .single⟩,
  ⟨"HST_RESETS", 0xE0010, [(2, 0x40)], .rw, 0xFFFFFFFF, 0x0, .single⟩,
  ⟨"HST_AER_CE", 0xE0014, [(2, 0x40)], .rw, 0xFFFFFFFF, 0x0, .single⟩,
  ⟨"HST_AER_UE", 0xE0018, [(2, 0x40)], .rw, 0xFFFFFFFF, 0x0, .single⟩,
  ⟨"HST_IRQ", 0xE0100, [(16, 0x4)], .rw, 0xFFFFFFFF, 0x0, .single⟩,
  ⟨"CMD_BASE_LO", 0xE0200, [], .rw, 0xFFFFFFFF, 0x0, .low⟩,
  ⟨"CMD_BASE_HI", 0xE0204, [], .rw, 0xFFFFFFFF, 0x0, .high⟩,
  ⟨"CMD_CFG", 0xE0208, [], .rw, 0x8000011F, 0x0, .single⟩,
  ⟨"CMD_HEAD", 0xE020C, [], .ro, 0x0, 0x0, .single⟩,
  ⟨"CMD_TAIL", 0xE0210, [], .rw, 0xFFFFFFFF, 0x0, .single⟩,
  ⟨"CMD_STAT", 0xE0214, [], .ro, 0x0, 0x0, .single⟩,
  ⟨"EVR_BASE_LO", 0xE0240, [], .rw, 0xFFFFFFFF, 0x0, .low⟩,
  ⟨"EVR_BASE_HI", 0xE0244, [], .rw, 0xFFFFFFFF, 0x0, .high⟩,
  ⟨"EVR_CFG", 0xE0248, [], .rw, 0xFFFF811F, 0x0, .single⟩,
  ⟨"EVR_HEAD", 0xE024C, [], .rw, 0xFFFFFFFF, 0x0, .single⟩,
  ⟨"EVR_TAIL", 0xE0250, [], .ro, 0x0, 0x0, .single⟩,
  ⟨"EVR_LOST", 0xE0254, [], .rw, 0xFFFFFFFF, 0x0, .single⟩,
  ⟨"HST_RESET", 0xE0280, [], .wo, 0xFFFFFFFF, 0x0, .single⟩,
  ⟨"HST_MGMT_STAT", 0xE0300, [], .w1c, 0xF, 0x0, .single⟩,
  ⟨"HST_MGMT_EN", 0xE0304, [], .rw, 0xFFFFFFFF, 0x0, .single⟩,
  ⟨"MSIX_TABLE", 0xE1000, [(2, 0x1000), (256, 0x4)], .rw, 0xFFFFFFFF, 0x0, .single⟩,
  ⟨"MSIX_PBA", 0xE1800, [(2, 0x1000), (2, 0x4)], .ro, 0x0, 0x0, .single⟩,
  ⟨"CORE_STAT", 0x1000000, [(160, 0x10000)], .ro, 0x0, 0x0, .single⟩,
  ⟨"CORE_CTL", 0x1000004, [(160, 0x10000)], .rw, 0x1, 0x0, .single⟩]

/-- Register rows from offset 0x1000008 on. -/
def regRows7 : List RegRow := [
  ⟨"CORE_WDOG", 0x1000008, [(160, 0x10000)], .rw, 0xFFFFFFFF, 0x400000, .single⟩,
  ⟨"CORE_ISSUED", 0x1000010, [(160, 0x10000)], .rw, 0xFFFFFFFF, 0x0, .low⟩,
  ⟨"CORE_ISSUED_HI", 0x1000014, [(160, 0x10000)], .rw, 0xFFFFFFFF, 0x0, .high⟩,
  ⟨"CORE_NOREADY", 0x1000018, [(160, 0x10000)], .rw, 0xFFFFFFFF, 0x0, .low⟩,
  ⟨"CORE_NOREADY_HI", 0x100001C, [(160, 0x10000)], .rw, 0xFFFFFFFF, 0x0, .high⟩,
  ⟨"CORE_STALL_RANGE", 0x1000020, [(160, 0x10000)], .rw, 0xFFFFFFFF, 0x0, .low⟩,
  ⟨"CORE_STALL_RANGE_HI", 0x1000024, [(160, 0x10000)], .rw, 0xFFFFFFFF, 0x0, .high⟩,
  ⟨"CORE_STALL_UNIT", 0x1000028, [(160, 0x10000)], .rw, 0xFFFFFFFF, 0x0, .low⟩,
  ⟨"CORE_STALL_UNIT_HI", 0x100002C, [(160, 0x10000)], .rw, 0xFFFFFFFF, 0x0, .high⟩,
  ⟨"CORE_BARRIER", 0x1000030, [(160, 0x10000)], .rw, 0xFFFFFFFF, 0x0, .low⟩,
  ⟨"CORE_BARRIER_HI", 0x1000034, [(160, 0x10000)], .rw, 0xFFFFFFFF, 0x0, .high⟩,
  ⟨"CORE_LAYERS", 0x1000038, [(160, 0x10000)], .rw, 0xFFFFFFFF, 0x0, .single⟩,
  ⟨"CORE_REPLAY", 0x100003C, [(160, 0x10000)], .rw, 0xFFFFFFFF, 0x0, .single⟩,
  ⟨"THR_STAT", 0x1001000, [(160, 0x10000), (32, 0x10)], .ro, 0x0, 0x0, .single⟩,
  ⟨"THR_EXC", 0x1001004, [(160, 0x10000), (32, 0x10)], .ro, 0x0, 0x0, .single⟩,
  ⟨"EVC", 0x1002000, [(160, 0x10000), (64, 0x4)], .ro, 0x0, 0x0, .single⟩,
  ⟨"ARR_STAT", 0x1008000, [(160, 0x10000), (13, 0x200)], .ro, 0x0, 0x0, .single⟩,
  ⟨"ARR_CTL", 0x1008004, [(160, 0x10000), (13, 0x200)], .rw, 0x1, 0x0, .single⟩,
  ⟨"ARR_STRIKE", 0x1008008, [(160, 0x10000), (13, 0x200)], .rw, 0xFFFFFFFF, 0x0, .low⟩,
  ⟨"ARR_STRIKE_HI", 0x100800C, [(160, 0x10000), (13, 0x200)], .rw, 0xFFFFFFFF, 0x0, .high⟩,
  ⟨"ARR_CONV", 0x1008010, [(160, 0x10000), (13, 0x200)], .rw, 0xFFFFFFFF, 0x0, .low⟩,
  ⟨"ARR_CONV_HI", 0x1008014, [(160, 0x10000), (13, 0x200)], .rw, 0xFFFFFFFF, 0x0, .high⟩,
  ⟨"ARR_SAT", 0x1008018, [(160, 0x10000), (13, 0x200)], .rw, 0xFFFFFFFF, 0x0, .low⟩,
  ⟨"ARR_SAT_HI", 0x100801C, [(160, 0x10000), (13, 0x200)], .rw, 0xFFFFFFFF, 0x0, .high⟩,
  ⟨"ARR_ZERO", 0x1008020, [(160, 0x10000), (13, 0x200)], .rw, 0xFFFFFFFF, 0x0, .low⟩,
  ⟨"ARR_ZERO_HI", 0x1008024, [(160, 0x10000), (13, 0x200)], .rw, 0xFFFFFFFF, 0x0, .high⟩,
  ⟨"ARR_SPLIT", 0x1008028, [(160, 0x10000), (13, 0x200)], .rw, 0xFFFFFFFF, 0x0, .single⟩,
  ⟨"ARR_SPLIT_CHISEL", 0x100802C, [(160, 0x10000), (13, 0x200)], .rw, 0xFFFFFFFF, 0x0, .single⟩,
  ⟨"ARR_PLOAD_STALL", 0x1008030, [(160, 0x10000), (13, 0x200)], .rw, 0xFFFFFFFF, 0x0, .single⟩,
  ⟨"ARR_PWRITE_RETRY", 0x1008034, [(160, 0x10000), (13, 0x200)], .rw, 0xFFFFFFFF, 0x0, .single⟩,
  ⟨"CHS_OUTLIER", 0x1008040, [(160, 0x10000), (13, 0x200)], .rw, 0xFFFFFFFF, 0x0, .low⟩,
  ⟨"CHS_OUTLIER_HI", 0x1008044, [(160, 0x10000), (13, 0x200)], .rw, 0xFFFFFFFF, 0x0, .high⟩,
  ⟨"CHS_OVF", 0x1008048, [(160, 0x10000), (13, 0x200)], .rw, 0xFFFFFFFF, 0x0, .single⟩,
  ⟨"CHS_OVF_ROWS", 0x100804C, [(160, 0x10000), (13, 0x200)], .rw, 0xFFFFFFFF, 0x0, .single⟩,
  ⟨"CHS_OVF_EXACT", 0x1008050, [(160, 0x10000), (13, 0x200)], .rw, 0xFFFFFFFF, 0x0, .single⟩,
  ⟨"CHS_CLAMP", 0x1008054, [(160, 0x10000), (13, 0x200)], .rw, 0xFFFFFFFF, 0x0, .single⟩,
  ⟨"CHS_CHECK", 0x1008058, [(160, 0x10000), (13, 0x200)], .rw, 0xFFFFFFFF, 0x0, .single⟩,
  ⟨"CHS_MISMATCH", 0x100805C, [(160, 0x10000), (13, 0x200)], .rw, 0xFFFFFFFF, 0x0, .single⟩,
  ⟨"CHS_CHECK_STALL", 0x1008060, [(160, 0x10000), (13, 0x200)], .rw, 0xFFFFFFFF, 0x0, .single⟩,
  ⟨"CHS_CHECK_ABANDON", 0x1008064, [(160, 0x10000), (13, 0x200)], .rw, 0xFFFFFFFF, 0x0, .single⟩,
  ⟨"ARR_TEST_CTL", 0x1008080, [(160, 0x10000), (13, 0x200)], .wo, 0x101FF, 0x0, .single⟩,
  ⟨"ARR_TEST_STAT", 0x1008084, [(160, 0x10000), (13, 0x200)], .ro, 0x0, 0x0, .single⟩,
  ⟨"ARR_TEST_DATA", 0x1008100, [(160, 0x10000), (13, 0x200), (32, 0x4)], .ro, 0x0, 0x0, .single⟩,
  ⟨"CAL_AGE", 0x1008180, [(160, 0x10000), (13, 0x200)], .ro, 0x0, 0x0, .single⟩,
  ⟨"CAL_INFO", 0x1008184, [(160, 0x10000), (13, 0x200)], .ro, 0x0, 0x0, .single⟩]

/-- Register rows from offset 0x1008188 on. -/
def regRows8 : List RegRow := [
  ⟨"CAL_CMP", 0x1008188, [(160, 0x10000), (13, 0x200)], .rw, 0xFFFFFFFF, 0x0, .low⟩,
  ⟨"CAL_CMP_HI", 0x100818C, [(160, 0x10000), (13, 0x200)], .rw, 0xFFFFFFFF, 0x0, .high⟩,
  ⟨"CAL_FITS", 0x1008190, [(160, 0x10000), (13, 0x200)], .rw, 0xFFFFFFFF, 0x0, .single⟩,
  ⟨"CAL_REJECT", 0x1008194, [(160, 0x10000), (13, 0x200)], .rw, 0xFFFFFFFF, 0x0, .single⟩,
  ⟨"CAL_SPARSE", 0x1008198, [(160, 0x10000), (13, 0x200)], .rw, 0xFFFFFFFF, 0x0, .single⟩,
  ⟨"CAL_DRIFT_TRIG", 0x100819C, [(160, 0x10000), (13, 0x200)], .rw, 0xFFFFFFFF, 0x0, .single⟩,
  ⟨"ARR_CORE_CONV", 0x1009C00, [(160, 0x10000)], .rw, 0xFFFFFFFF, 0x0, .low⟩,
  ⟨"ARR_CORE_CONV_HI", 0x1009C04, [(160, 0x10000)], .rw, 0xFFFFFFFF, 0x0, .high⟩,
  ⟨"ARR_CORE_SAT", 0x1009C08, [(160, 0x10000)], .rw, 0xFFFFFFFF, 0x0, .low⟩,
  ⟨"ARR_CORE_SAT_HI", 0x1009C0C, [(160, 0x10000)], .rw, 0xFFFFFFFF, 0x0, .high⟩,
  ⟨"ARR_CORE_ZERO", 0x1009C10, [(160, 0x10000)], .rw, 0xFFFFFFFF, 0x0, .low⟩,
  ⟨"ARR_CORE_ZERO_HI", 0x1009C14, [(160, 0x10000)], .rw, 0xFFFFFFFF, 0x0, .high⟩,
  ⟨"CHS_STAT", 0x100A000, [(160, 0x10000)], .ro, 0x0, 0x0, .single⟩,
  ⟨"CHS_CORE_CHECK", 0x100A008, [(160, 0x10000)], .rw, 0xFFFFFFFF, 0x0, .low⟩,
  ⟨"CHS_CORE_CHECK_HI", 0x100A00C, [(160, 0x10000)], .rw, 0xFFFFFFFF, 0x0, .high⟩,
  ⟨"CHS_CORE_MISMATCH", 0x100A010, [(160, 0x10000)], .rw, 0xFFFFFFFF, 0x0, .low⟩,
  ⟨"CHS_CORE_MISMATCH_HI", 0x100A014, [(160, 0x10000)], .rw, 0xFFFFFFFF, 0x0, .high⟩,
  ⟨"CHS_MM_INFO", 0x100A018, [(160, 0x10000)], .ro, 0x0, 0x0, .single⟩,
  ⟨"CHS_MM_RATIO", 0x100A01C, [(160, 0x10000)], .ro, 0x0, 0x0, .single⟩,
  ⟨"RED_GROUP_CMP", 0x100A020, [(160, 0x10000)], .rw, 0xFFFFFFFF, 0x0, .low⟩,
  ⟨"RED_GROUP_CMP_HI", 0x100A024, [(160, 0x10000)], .rw, 0xFFFFFFFF, 0x0, .high⟩,
  ⟨"RED_LAYER_CMP", 0x100A028, [(160, 0x10000)], .rw, 0xFFFFFFFF, 0x0, .single⟩,
  ⟨"RED_MISMATCH", 0x100A02C, [(160, 0x10000)], .rw, 0xFFFFFFFF, 0x0, .single⟩,
  ⟨"RED_REPLAY", 0x100A030, [(160, 0x10000)], .rw, 0xFFFFFFFF, 0x0, .single⟩,
  ⟨"RED_ARBITRATE", 0x100A034, [(160, 0x10000)], .rw, 0xFFFFFFFF, 0x0, .single⟩,
  ⟨"FMT_ACC_SAT", 0x100A400, [(160, 0x10000)], .rw, 0xFFFFFFFF, 0x0, .single⟩,
  ⟨"FMT_VEC_SAT", 0x100A404, [(160, 0x10000)], .rw, 0xFFFFFFFF, 0x0, .single⟩,
  ⟨"FMT_VEC_DOMAIN", 0x100A408, [(160, 0x10000)], .rw, 0xFFFFFFFF, 0x0, .single⟩,
  ⟨"FMT_NAN", 0x100A40C, [(160, 0x10000)], .rw, 0xFFFFFFFF, 0x0, .single⟩,
  ⟨"CAL_STAT", 0x100A800, [(160, 0x10000)], .ro, 0x0, 0x0, .single⟩,
  ⟨"CAL_CTL", 0x100A804, [(160, 0x10000)], .rw, 0xF, 0x0, .single⟩,
  ⟨"CAL_CMD", 0x100A808, [(160, 0x10000)], .wo, 0xFF, 0x0, .single⟩,
  ⟨"CAL_TURNS", 0x100A80C, [(160, 0x10000)], .rw, 0xFFFFFFFF, 0x0, .single⟩,
  ⟨"CAL_DEFER", 0x100A810, [(160, 0x10000)], .rw, 0xFFFFFFFF, 0x0, .single⟩,
  ⟨"CAL_YIELD", 0x100A814, [(160, 0x10000)], .rw, 0xFFFFFFFF, 0x0, .single⟩,
  ⟨"CAL_ABANDON", 0x100A818, [(160, 0x10000)], .rw, 0xFFFFFFFF, 0x0, .single⟩,
  ⟨"CAL_TEMP", 0x100A81C, [(160, 0x10000)], .ro, 0x0, 0x0, .single⟩,
  ⟨"CAL_COEF", 0x100B000, [(160, 0x10000), (256, 0x4)], .ro, 0x0, 0x0, .single⟩,
  ⟨"SPM_STAT", 0x100C000, [(160, 0x10000)], .ro, 0x0, 0x0, .single⟩,
  ⟨"SPM_CTL", 0x100C004, [(160, 0x10000)], .wo, 0xF, 0x0, .single⟩,
  ⟨"SPM_CE", 0x100C010, [(160, 0x10000), (3, 0x4)], .rw, 0xFFFFFFFF, 0x0, .single⟩,
  ⟨"SPM_UE", 0x100C01C, [(160, 0x10000)], .rw, 0xFFFFFFFF, 0x0, .single⟩,
  ⟨"SPM_POISON", 0x100C020, [(160, 0x10000)], .rw, 0xFFFFFFFF, 0x0, .single⟩,
  ⟨"SPM_SCRUB_PASS", 0x100C024, [(160, 0x10000)], .rw, 0xFFFFFFFF, 0x0, .single⟩,
  ⟨"SPM_ERR_ADDR", 0x100C028, [(160, 0x10000)], .ro, 0x0, 0x0, .single⟩]

/-- Register rows from offset 0x100C02C on. -/
def regRows9 : List RegRow := [
  ⟨"SPM_MIRRORS", 0x100C02C, [(160, 0x10000)], .rw, 0xFFFFFFFF, 0x0, .single⟩,
  ⟨"SPM_RESTORES", 0x100C030, [(160, 0x10000)], .rw, 0xFFFFFFFF, 0x0, .single⟩,
  ⟨"SPM_ACC_ADDR", 0x100C040, [(160, 0x10000)], .rw, 0x1FFFF8, 0x0, .single⟩,
  ⟨"SPM_ACC_DATA_LO", 0x100C048, [(160, 0x10000)], .rw, 0xFFFFFFFF, 0x0, .low⟩,
  ⟨"SPM_ACC_DATA_HI", 0x100C04C, [(160, 0x10000)], .rw, 0xFFFFFFFF, 0x0, .high⟩,
  ⟨"REG_CFG", 0x100C100, [(160, 0x10000), (16, 0x10)], .ro, 0x0, 0x0, .single⟩,
  ⟨"REG_SLOT", 0x100C104, [(160, 0x10000), (16, 0x10)], .ro, 0x0, 0x0, .single⟩,
  ⟨"REG_STAT", 0x100C108, [(160, 0x10000), (16, 0x10)], .ro, 0x0, 0x0, .single⟩,
  ⟨"PED_STAT", 0x2000000, [(8, 0x100000)], .ro, 0x0, 0x0, .single⟩,
  ⟨"PED_CTL", 0x2000004, [(8, 0x100000)], .rw, 0x1, 0x0, .single⟩,
  ⟨"PED_TEMP", 0x2000008, [(8, 0x100000)], .ro, 0x0, 0x0, .single⟩,
  ⟨"PED_USE", 0x200000C, [(8, 0x100000)], .ro, 0x0, 0x0, .single⟩,
  ⟨"PED_PORT_RD", 0x2000010, [(8, 0x100000)], .rw, 0xFFFFFFFF, 0x0, .low⟩,
  ⟨"PED_PORT_RD_HI", 0x2000014, [(8, 0x100000)], .rw, 0xFFFFFFFF, 0x0, .high⟩,
  ⟨"PED_PORT_WR", 0x2000018, [(8, 0x100000)], .rw, 0xFFFFFFFF, 0x0, .low⟩,
  ⟨"PED_PORT_WR_HI", 0x200001C, [(8, 0x100000)], .rw, 0xFFFFFFFF, 0x0, .high⟩,
  ⟨"PED_DRAM_RD", 0x2000020, [(8, 0x100000)], .rw, 0xFFFFFFFF, 0x0, .low⟩,
  ⟨"PED_DRAM_RD_HI", 0x2000024, [(8, 0x100000)], .rw, 0xFFFFFFFF, 0x0, .high⟩,
  ⟨"PED_DRAM_WR", 0x2000028, [(8, 0x100000)], .rw, 0xFFFFFFFF, 0x0, .low⟩,
  ⟨"PED_DRAM_WR_HI", 0x200002C, [(8, 0x100000)], .rw, 0xFFFFFFFF, 0x0, .high⟩,
  ⟨"PED_CE_ONDIE", 0x2000030, [(8, 0x100000)], .rw, 0xFFFFFFFF, 0x0, .single⟩,
  ⟨"PED_CE", 0x2000034, [(8, 0x100000)], .rw, 0xFFFFFFFF, 0x0, .single⟩,
  ⟨"PED_RECON", 0x2000038, [(8, 0x100000)], .rw, 0xFFFFFFFF, 0x0, .single⟩,
  ⟨"PED_UE", 0x200003C, [(8, 0x100000)], .rw, 0xFFFFFFFF, 0x0, .single⟩,
  ⟨"PED_RMW", 0x2000040, [(8, 0x100000)], .rw, 0xFFFFFFFF, 0x0, .single⟩,
  ⟨"PED_SCRUB_PASS", 0x2000044, [(8, 0x100000)], .rw, 0xFFFFFFFF, 0x0, .single⟩,
  ⟨"PED_REFRESH_DBL", 0x2000048, [(8, 0x100000)], .rw, 0xFFFFFFFF, 0x0, .single⟩,
  ⟨"KV_NAN", 0x200004C, [(8, 0x100000)], .rw, 0xFFFFFFFF, 0x0, .single⟩,
  ⟨"PED_DIE_ERR", 0x2000080, [(8, 0x100000), (12, 0x4)], .rw, 0xFFFFFFFF, 0x0, .single⟩,
  ⟨"WLK_LOOKUP", 0x2000100, [(8, 0x100000)], .rw, 0xFFFFFFFF, 0x0, .low⟩,
  ⟨"WLK_LOOKUP_HI", 0x2000104, [(8, 0x100000)], .rw, 0xFFFFFFFF, 0x0, .high⟩,
  ⟨"WLK_MISS", 0x2000108, [(8, 0x100000)], .rw, 0xFFFFFFFF, 0x0, .low⟩,
  ⟨"WLK_MISS_HI", 0x200010C, [(8, 0x100000)], .rw, 0xFFFFFFFF, 0x0, .high⟩,
  ⟨"WLK_PREFETCH", 0x2000110, [(8, 0x100000)], .rw, 0xFFFFFFFF, 0x0, .single⟩,
  ⟨"WLK_UPDATE", 0x2000114, [(8, 0x100000)], .rw, 0xFFFFFFFF, 0x0, .single⟩,
  ⟨"WLK_INVAL", 0x2000118, [(8, 0x100000)], .rw, 0xFFFFFFFF, 0x0, .single⟩,
  ⟨"SE_DISPATCH", 0x2000120, [(8, 0x100000)], .rw, 0xFFFFFFFF, 0x0, .low⟩,
  ⟨"SE_DISPATCH_HI", 0x2000124, [(8, 0x100000)], .rw, 0xFFFFFFFF, 0x0, .high⟩,
  ⟨"SE_BUSY", 0x2000128, [(8, 0x100000)], .rw, 0xFFFFFFFF, 0x0, .low⟩,
  ⟨"SE_BUSY_HI", 0x200012C, [(8, 0x100000)], .rw, 0xFFFFFFFF, 0x0, .high⟩,
  ⟨"SE_PGATHER", 0x2000130, [(8, 0x100000)], .rw, 0xFFFFFFFF, 0x0, .low⟩,
  ⟨"SE_PGATHER_HI", 0x2000134, [(8, 0x100000)], .rw, 0xFFFFFFFF, 0x0, .high⟩,
  ⟨"SE_BUF_HIT", 0x2000138, [(8, 0x100000)], .rw, 0xFFFFFFFF, 0x0, .low⟩,
  ⟨"SE_BUF_HIT_HI", 0x200013C, [(8, 0x100000)], .rw, 0xFFFFFFFF, 0x0, .high⟩,
  ⟨"KV_FLUSH", 0x2000140, [(8, 0x100000)], .rw, 0xFFFFFFFF, 0x0, .low⟩]

/-- Register rows from offset 0x2000144 on. -/
def regRows10 : List RegRow := [
  ⟨"KV_FLUSH_HI", 0x2000144, [(8, 0x100000)], .rw, 0xFFFFFFFF, 0x0, .high⟩,
  ⟨"KV_FLUSH_DEFER", 0x2000148, [(8, 0x100000)], .rw, 0xFFFFFFFF, 0x0, .single⟩,
  ⟨"KV_UNWRITTEN", 0x200014C, [(8, 0x100000)], .rw, 0xFFFFFFFF, 0x0, .single⟩,
  ⟨"KV_WRITE_NACK", 0x2000150, [(8, 0x100000)], .rw, 0xFFFFFFFF, 0x0, .single⟩,
  ⟨"SE_STAT", 0x2000154, [(8, 0x100000)], .ro, 0x0, 0x0, .single⟩]

/-- Every register row of the BAR0 map. -/
def regRows : List RegRow :=
  regRows0 ++ regRows1 ++ regRows2 ++ regRows3 ++ regRows4 ++ regRows5 ++ regRows6 ++ regRows7 ++ regRows8 ++ regRows9 ++ regRows10

/-- The offset left over after taking each index in turn; none where an index is out of its range. -/
def RegRow.rest : List (Nat × Nat) → Nat → Option Nat
  | [], o => some o
  | (n, st) :: ds, o => if o / st < n then RegRow.rest ds (o % st) else none

/-- Whether a BAR0 offset is this register (for some indexes in range). -/
def RegRow.covers (r : RegRow) (off : Nat) : Bool :=
  decide (r.base ≤ off) && RegRow.rest r.dims (off - r.base) == some 0

/-- The register row at a BAR0 offset; none at an unassigned address (R17). -/
def regRow? (off : Nat) : Option RegRow := regRows.find? (fun r => r.covers off)

end Sys2Proof
end

