-- ==== Sys2Proof/Machine/Sparse.lean ====
section
/-!
DEFINITION. Reading and writing sparse storage (`Map`), in its one canonical form.
-/
namespace Sys2Proof

variable {α : Type}

/-- The value a list of cells gives a key; `d` where the key is not listed. -/
def Map.find (d : α) : List (Nat × α) → Nat → α
  | [], _ => d
  | (k', v) :: m, k => if k' = k then v else Map.find d m k

/-- The cells without the key. -/
def Map.drop : List (Nat × α) → Nat → List (Nat × α)
  | [], _ => []
  | (k', v) :: m, k => if k' = k then Map.drop m k else (k', v) :: Map.drop m k

/-- The cells with the key set, kept in rising order. -/
def Map.place : List (Nat × α) → Nat → α → List (Nat × α)
  | [], k, v => [(k, v)]
  | (k', v') :: m, k, v =>
    if k < k' then (k, v) :: (k', v') :: m
    else if k' = k then (k, v) :: m
    else (k', v') :: Map.place m k v

/-- Keys strictly rising, all above `lo`. -/
def Map.rising : Option Nat → List (Nat × α) → Bool
  | _, [] => true
  | lo, (k, _) :: m => (match lo with | none => true | some l => decide (l < k)) && Map.rising (some k) m

section
variable [Inhabited α]

/-- The value at a key. -/
def Map.get (m : Map α) (k : Nat) : α := Map.find default m.cells k

/-- Set the value at a key. Writing the default removes the cell, so that equal storage is equal data. -/
def Map.put [DecidableEq α] (m : Map α) (k : Nat) (v : α) : Map α :=
  ⟨if v = default then Map.drop m.cells k else Map.place m.cells k v⟩

/-- Change the value at a key. -/
def Map.upd [DecidableEq α] (m : Map α) (k : Nat) (f : α → α) : Map α := m.put k (f (m.get k))

/-- The canonical form. -/
def Map.wf [DecidableEq α] (m : Map α) : Bool :=
  Map.rising none m.cells && m.cells.all (fun c => decide (c.2 ≠ default))

/-- Change every listed value. A value that becomes the default is removed. -/
def Map.mapVals [DecidableEq α] (m : Map α) (f : Nat → α → α) : Map α :=
  ⟨(m.cells.map (fun c => (c.1, f c.1 c.2))).filter (fun c => decide (c.2 ≠ default))⟩

/-- Keep only the cells whose key and value satisfy `p`. -/
def Map.keep (m : Map α) (p : Nat → α → Bool) : Map α := ⟨m.cells.filter (fun c => p c.1 c.2)⟩

/-- Change the values at several keys. -/
def Map.updAll [DecidableEq α] (m : Map α) (ks : List Nat) (f : Nat → α → α) : Map α :=
  ks.foldl (fun m k => m.put k (f k (m.get k))) m
end

/-- The canonical form of a memory: addresses strictly rising, no byte listed that an unlisted address reads as. -/
abbrev Memory.wf (m : Memory) : Bool := Map.wf m

/-- Bytes from an address on, lowest address first. -/
def Memory.bytes (m : Memory) (a : Nat) : Nat → List Byte
  | 0 => []
  | n + 1 => m.get a :: Memory.bytes m (a + 1) n

/-- Store bytes from an address on. -/
def Memory.store (m : Memory) (a : Nat) : List Byte → Memory
  | [] => m
  | b :: bs => Memory.store (m.put a b) (a + 1) bs

/-- Zero a range by removing its cells. -/
def Memory.clear (m : Memory) (a n : Nat) : Memory := m.keep (fun k _ => decide (k < a ∨ a + n ≤ k))

end Sys2Proof
end

