-- ==== Sys2Proof/Machine/State.lean ====
section
/-!
DEFINITION. The state of the block: plain data, holding every register, memory, queue, counter, mode and pin the spec
gives it, by chapter. A structure's default field values are its values at reset; a field marked MODEL'S OWN is the
model's, not the spec's. Each field cites the rule that names it.
-/
namespace Sys2Proof.Machine
open Sys2Proof

/-- The reasons a step stops with a fault. The spec gives every command of the table an effect in every state, so no
meaning raises one: a command that the spec says cannot occur in a state changes nothing (log entry 3). -/
inductive Fault where
  /-- Raised by no meaning. It would be safe: the model would stop where the hardware goes on. -/
  | noEffect
deriving DecidableEq, Repr

/-- The reasons a step is refused. -/
inductive Refusal where
  /-- Raised by an arm of `exec` whose command has no meaning yet; its row's mnemonic. Safe: the model stops. -/
  | notModelled (mnemonic : String)
deriving DecidableEq, Repr

/-! ### Outputs, the event log and interrupts (00, 16, 18) -/

/-- What the block puts on its ports. The spec's hosts, peers and boards see these; a later command may answer them. -/
inductive Out where
  /-- A device write of host memory on a port. -/
  | hostWrite (port addr : Nat) (data : List Byte)
  /-- A device read of host memory on a port, `len` bytes. -/
  | hostRead (port addr len : Nat)
  /-- An MSI-X message. -/
  | msix (port vector : Nat)
  /-- The data a register or window read returns to a port, `size` bytes. -/
  | readData (port : Port) (size value : Nat)
  /-- A management reply: completion code and data. -/
  | mgmt (code : Nat) (data : List Nat)
  /-- An MCTP control reply. -/
  | mctp (data : List Nat)
  /-- An SPDM response on a transport. -/
  | spdm (transport : Nat) (code : Nat) (fields : List Nat)
  /-- A frame or message sent on an Icpen port. -/
  | icpen (port : Nat) (kind : IcpKind) (fields : List Nat)
  /-- A message sent on the fabric. -/
  | fabric (kind : FabKind) (fields : List Nat)
  /-- A word shifted out of the test port. -/
  | tap (value : Nat)
  /-- Work handed to a sampler unit, a stack engine or an array by an instruction: kind and fields. -/
  | work (kind : WorkKind) (fields : List Nat)
deriving DecidableEq, Repr

/-- One event-log entry (R524, Table 18-3). -/
structure LogEntry where
  /-- Device time of registration, ns. -/
  time : Nat := 0
  /-- Event code (R20). -/
  code : Nat := 0
  /-- flags[0]: copied to the event ring. -/
  copied : Bool := false
  /-- flags[1]: copied to the fatal record. -/
  fatal : Bool := false
  /-- Log sequence number, modulo 2³². -/
  seq : Nat := 0
  /-- Bytes 16–31 (R525). -/
  data : List Byte := []
deriving DecidableEq, Repr, Inhabited

/-- The "at most once per second" limit of one event in one scope (R634). -/
structure RateLimit where
  /-- Device time of the scope's last logged entry; none since cold reset. -/
  last : Option Nat := none
  /-- Occurrences since the last logged entry. -/
  count : Nat := 0
deriving DecidableEq, Repr, Inhabited

/-- The event log, the fatal record and the rate limits (R523–R526, R634). -/
structure EventLog where
  /-- Entries held, oldest first, at most 4,096 (R523). -/
  entries : List LogEntry := []
  /-- Sequence number of the next entry, modulo 2³² (R523). -/
  next : Nat := 0
  /-- The fatal record: the first 16 class F entries (R526). -/
  fatal : List LogEntry := []
  /-- Entries lost to the event ring since the last 0x4A02 (R467). -/
  evrLostSince : Nat := 0
  /-- Rate limits, by 2³² × code + scope (R634). -/
  limits : Map RateLimit := {}
deriving DecidableEq, Repr, Inhabited

/-- One interrupt source (R459). -/
structure Irq where
  /-- Events pending. -/
  pending : Nat := 0
  /-- Device time of the first pending event, when the hold timer runs. -/
  first : Option Nat := none
deriving DecidableEq, Repr, Inhabited

/-! ### Fuses (00, 01) -/

/-- What the part's fuses hold (R1–R5, R22–R28). The part modelled at reset is CT3-160X-A1 (DESIGN CHOICE 2). -/
structure Fuses where
  /-- N, the logical core count: 160, 144 or 128. -/
  grade : Nat := 160
  /-- The S variant. -/
  reduced : Bool := false
  /-- Stepping B0 rather than A1. -/
  stepB0 : Bool := false
  /-- Logical cores of each cluster (R25): 10 in each, DESIGN CHOICE 2. -/
  clusterCount : List Nat := [10, 10, 10, 10, 10, 10, 10, 10, 10, 10, 10, 10, 10, 10, 10, 10]
  /-- The cluster of each reserve core (Table 18-8): DESIGN CHOICE 2. -/
  reserveCluster : List Nat := [0, 1, 8, 9]
  /-- The device's certificate-root and identity hashes, as SEC_ROOT_HASH and ICP_ID_HASH show them. DESIGN CHOICE 2. -/
  rootHash : BitVec 384 := 0
  idHash : BitVec 384 := 0
  /-- SLOT_ID[2:0] and STRAP[3:0] as the board sets them: DESIGN CHOICE 2. -/
  slotId : Nat := 0
  strap : Nat := 0
deriving DecidableEq, Repr, Inhabited

/-- Stacks present (Table 0-3). -/
def Fuses.stackN (f : Fuses) : Nat := if f.reduced then 6 else 8

/-- Icpen ports present (Table 0-3). -/
def Fuses.icpenPorts (f : Fuses) : Nat := if f.reduced then 8 else 12

/-- PCIe ports present (Table 0-3). -/
def Fuses.hostPorts (f : Fuses) : Nat := if f.reduced then 1 else 2

/-- Maximum sustained power, W, by grade and variant (Table 22-9). -/
def Fuses.maxPower (f : Fuses) : Nat :=
  if f.reduced then (if f.grade = 160 then 630 else if f.grade = 144 then 567 else 504)
  else (if f.grade = 160 then 700 else if f.grade = 144 then 630 else 560)

/-! ### The armature image and its loader (02) -/

/-- Loader states (Table 2-13, Table 2-17). -/
inductive LoaderState where
  | idle | loading | validating | staged | sealing
deriving DecidableEq, Repr, Inhabited

/-- The INSTANCE record of a sealed instance (Table 2-4). -/
structure InstanceRec where
  modelSlot : Nat := 0
  /-- 0x00 main, 0x01 draft, 0xFE remove. -/
  kind : Nat := 0
  draftFor : Nat := 0xFF
  seamSpan : Bool := false
  maxSeqs : Nat := 0
  maxBatch : Nat := 0
  microBatches : Nat := 1
  replicaGroup : Nat := 0
  /-- 256 where the record holds 0 (Table 2-4). -/
  prefillChunk : Nat := 256
  /-- Bit c set: logical core c belongs to the instance. -/
  coreMap : BitVec 192 := 0
deriving DecidableEq, Repr, Inhabited

/-- The ROUTE record (Table 2-5). -/
structure RouteRec where
  firstLayer : Nat := 0
  lastLayer : Nat := 0
  /-- ICPEN rather than HOST. -/
  ingressIcpen : Bool := false
  ingressPort : Nat := 0xFF
  /-- ICPEN rather than SAMPLER. -/
  egressIcpen : Bool := false
  egressPort : Nat := 0xFF
  /-- 0 BF16, 1 FP8 E4M3, 2 HB4. -/
  exchange : Nat := 0
deriving DecidableEq, Repr, Inhabited

/-- The MEMPLAN record (Table 2-6). -/
structure MemPlan where
  weightsMib : Nat := 0
  frames : Nat := 0
  farTierMib : Nat := 0
  stagingSlots : Nat := 0
  prefixFrames : Nat := 0
  kvLayers : Nat := 1
  headDim : Nat := 64
  kvHeads : Nat := 1
  /-- 0x44 K4/V4, 0x88 K8/V8. -/
  kvFormat : Nat := 0x44
  stackMask : Nat := 1
deriving DecidableEq, Repr, Inhabited

/-- One exception entry of a FORMAT record (Table 2-8). -/
structure FormatExc where
  layer : Nat := 0
  matrix : Nat := 0xFF
  code : Nat := 0x44
deriving DecidableEq, Repr, Inhabited

/-- The FORMAT record (Table 2-7). -/
structure FormatRec where
  defaultCode : Nat := 0x44
  defaultWide : Bool := false
  fallbackEnable : Bool := false
  /-- Percent; 25 where the record holds 0xFF. -/
  wideBudget : Nat := 25
  layers : Nat := 1
  exceptions : List FormatExc := []
deriving DecidableEq, Repr, Inhabited

/-- The THRESHOLD record with its defaults taken and sample_interval clamped (R52, Table 2-10). -/
structure ThresholdRec where
  tilePpm : Nat := 200
  satPpm : Nat := 1000
  digestInterval : Nat := 256
  driftBound : Nat := 16
  sampleInterval : Nat := 64
  outlierLevel : Nat := 8
  redundancy : Bool := false
deriving DecidableEq, Repr, Inhabited

/-- The device-wide POWER record with its defaults and clamps taken (R53, Table 2-11). -/
structure PowerRec where
  capW : Nat := 700
  capWestW : Nat := 350
  capEastW : Nat := 350
  rampWMs : Nat := 200
  deepest : Nat := 3
  wakeMarginUs : Nat := 10
deriving DecidableEq, Repr, Inhabited

/-- One PORTROLE entry (Table 2-12). -/
structure PortRole where
  /-- 0 DISABLED, 1 GROUP, 2 OFFBOARD. -/
  role : Nat := 0
  maxRev : Nat := 0
  encrypt : Nat := 0
  peerSlot : Nat := 0
deriving DecidableEq, Repr, Inhabited

/-- The records of one sealed instance. -/
structure SealedInst where
  inst : InstanceRec := {}
  route : Option RouteRec := none
  mem : MemPlan := {}
  fmt : FormatRec := {}
  thr : ThresholdRec := {}
  /-- Instance POWER share_w; none without a record (R54). -/
  share : Option Nat := none
deriving DecidableEq, Repr, Inhabited

/-- What a validated image puts in force when it is sealed. -/
structure StagedImage where
  isPartial : Bool := false
  /-- The partial image's instance. -/
  inst : Nat := 0xFF
  /-- The partial image holds only soft records (R66). -/
  softOnly : Bool := false
  raiseFloor : Bool := false
  serial : Nat := 0
  /-- Sealed instances after the seal, by instance. -/
  insts : Map (Option SealedInst) := {}
  power : PowerRec := {}
  ports : Map PortRole := {}
deriving DecidableEq, Repr, Inhabited

/-- The armature loader (R56–R61). -/
structure Loader where
  /-- ARM_STAT.state. -/
  state : LoaderState := .idle
  /-- The owner port while not IDLE: 0 A, 1 B (R56). -/
  owner : Nat := 0
  /-- ARM_STAT.last_status. -/
  lastStatus : Nat := 0
  /-- ARM_ERR.offset. -/
  errOff : Nat := 0
  /-- ARM_SRC latched at LOAD (R58). -/
  src : Nat := 0
  /-- ARM_LEN latched at LOAD (R58). -/
  len : Nat := 0
  /-- The internal copy of the image (R58). -/
  image : List Byte := []
  /-- The validated image, in STAGED and SEALING. -/
  staged : StagedImage := {}
  /-- A SEAL waits for the apply phase to end, for the ring command that asked for it. -/
  sealByRing : Bool := false
deriving DecidableEq, Repr, Inhabited

/-- The sealed image (R62–R64). -/
structure SealedImage where
  /-- ARM_STAT.sealed. -/
  isSealed : Bool := false
  insts : Map (Option SealedInst) := {}
  power : PowerRec := {}
  ports : Map PortRole := {}
  /-- ARM_SERIAL: image_serial of the last sealed full image. -/
  serial : Nat := 0
  /-- ARM_HASH. -/
  hash : BitVec 384 := 0
deriving DecidableEq, Repr, Inhabited

/-! ### Arrays and the chisel path (03, 04, 06) -/

/-- Gain (Q1.15) and offset (1/16 converter step) of one column (R92). The default is the factory pair: gain 1.0,
offset 0 (DESIGN CHOICE 4). -/
structure Coef where
  gain : Nat := 0x8000
  off : Int := 0
deriving DecidableEq, Repr, Inhabited

/-- One of an array's two planes (R69–R71). -/
structure Plane where
  /-- The plane image: row r at byte 128·r, column j in byte j/2 (R136). -/
  data : Memory := {}
  /-- A completed load not yet swapped in (ARR_STAT.load_done). -/
  loaded : Bool := false
  /-- The column sums and zero-column flags are valid: the load has completed (R71). -/
  sums : Bool := false
  /-- The plane is the all-zero image of R142 that the plane-load path synthesised: its pair has slice offset 0. -/
  synth : Bool := false
deriving DecidableEq, Repr, Inhabited

/-- What a conversion is of: an original, its overflow strike (R117), or a half of the row-split pair of either (R83,
R85). -/
inductive StrikeKind where
  | orig | ovf
  | half (ofOvf : Bool) (second : Bool)
deriving DecidableEq, Repr, Inhabited

/-- What the converters and the row-split make of one set of codes of a strike (R82–R85). -/
structure Conv where
  /-- Strike codes by row (R73, Table 4-3). -/
  codes : List Int := []
  /-- The boundary has been reached (R75). -/
  converted : Bool := false
  /-- Combined calibrated values by column, with 4 fraction bits (R93). -/
  vals : List Int := []
  /-- Flagged columns (R82). -/
  flagged : List Nat := []
  /-- The two halves' values, flagged columns and error bounds, once each is converted (R83). -/
  halfA : Option (List Int × List Nat × List Nat) := none
  halfB : Option (List Int × List Nat × List Nat) := none
  /-- The flagged columns' results are settled. -/
  settled : Bool := false
  /-- Error bounds by column, in 2⁻⁶⁴ ÷ 3,200,000 of a weight unit (R88, R90). -/
  bound : List Nat := []
deriving DecidableEq, Repr, Inhabited

/-- An original strike of one array, from its place in the issue queue until it is complete (R73–R87, R111–R119). -/
structure Strike where
  /-- The position the strike is for; the spare array strikes it where it stands in (R187). -/
  pos : Nat := 0
  /-- The STRIKE instruction, by its in-flight number, and the slice of its source. -/
  flight : Nat := 0
  slice : Nat := 0
  group : Nat := 0
  /-- Issued after a plane swap that is still to be taken: it belongs to the next tile (R101). -/
  afterSwap : Bool := false
  /-- Input width B. -/
  b : Nat := 4
  /-- The slice's BF16 elements within the row mask (R74). -/
  x : List Nat := []
  /-- The exponent e of s_x = 2^e (R144). -/
  sx : Int := 0
  /-- Lane rows and their residuals (R113). -/
  lane : List (Nat × Int) := []
  /-- Overflow rows and their overflow codes (R113). -/
  ovf : List (Nat × Int) := []
  /-- Overflow-exact rows and their residuals (R119). -/
  exact : List (Nat × Int) := []
  /-- The input stage has split the slice (R111–R114). -/
  split : Bool := false
  /-- T, the sum of t_i (R139). -/
  tsum : Int := 0
  /-- The original's conversion, and the overflow strike's where there is one (R117). -/
  main : Conv := {}
  overs : Option Conv := none
  /-- The lane's corrections by column (R115), once ready. -/
  corr : Option (List Int) := none
  /-- The overflow-exact rows' corrections by column (R119), once done. -/
  exactCorr : Option (List Int) := none
deriving DecidableEq, Repr, Inhabited

/-- A set of codes that an array is to drive or has driven (R76). -/
structure Drive where
  kind : StrikeKind := .orig
  flight : Nat := 0
  slice : Nat := 0
  b : Nat := 4
  codes : List Int := []
deriving DecidableEq, Repr, Inhabited

/-- A binary64 value as man · 2^exp (R176). -/
structure F64 where
  man : Int := 0
  exp : Int := 0
deriving DecidableEq, Repr, Inhabited

/-- Per-column least-squares sums of calibration samples (R176). -/
structure FitSums where
  n : Nat := 0
  x : F64 := {}
  y : F64 := {}
  xx : F64 := {}
  xy : F64 := {}
deriving DecidableEq, Repr, Inhabited

/-- A plane load waiting for, or using, the plane-write path (R98, R100). -/
structure PlaneLoad where
  /-- The PLOAD instruction, by its in-flight number. -/
  flight : Nat := 0
  /-- Its 65,536 source bytes, or none for the all-zero image (R142). -/
  src : Option Nat := none
  /-- The load restarts at the head of the path after a spare-array takeover (R510). -/
  first : Bool := false
  /-- Rows written. -/
  rows : Nat := 0
  /-- Attempts made at the row being written. -/
  attempts : Nat := 0
deriving DecidableEq, Repr, Inhabited

/-- A sampled tile check in progress (R121–R125): the codes the checked strike drove and what its converters gave. -/
structure TileCheck where
  b : Nat := 4
  codes : List Int := []
  /-- Converter codes by phase and column (R77, R78). -/
  conv : List (List Nat) := []
  /-- Calibrated phase values by phase and column, with 4 fraction bits. -/
  phases : List (List Int) := []
  vals : List Int := []
  flagged : List Nat := []
  /-- Calibration age at the strike, ms. -/
  age : Nat := 0
  /-- Column group m: columns 8m to 8m + 7. -/
  m : Nat := 0
deriving DecidableEq, Repr, Inhabited

/-- A drift window's samples of one column (R183): how many, and the sum of the residuals in converter steps. -/
structure DriftSum where
  n : Nat := 0
  sum : F64 := {}
deriving DecidableEq, Repr, Inhabited

/-- One array position of a core (R69–R106, R121, R172–R191). -/
structure Arr where
  plane0 : Plane := {}
  plane1 : Plane := {}
  /-- The physical plane in the front role. -/
  front : Nat := 0
  /-- A swap is requested and not yet taken (R101), and the PSWAPs that wait on it. -/
  swapPending : Bool := false
  /-- Loads issued to this position, the one in progress first (R100). -/
  loads : List PlaneLoad := []
  /-- The first of `loads` is being written. -/
  loading : Bool := false
  retired : Bool := false
  /-- Positions 0–11: the spare array carries this position; position 12: it stands in (Table 3-7). -/
  stand : Bool := false
  /-- 0 none, 1 calibration, 2 fault. -/
  standReason : Nat := 0
  /-- Position 12: the position stood in for. -/
  standPos : Nat := 0
  /-- Originals to issue, first first (R86). -/
  queue : List Strike := []
  /-- Re-strikes and overflow strikes to issue, ahead of `queue` (R86, R117). -/
  urgent : List Drive := []
  /-- Codes driven and not yet at their boundary (R76). -/
  driven : List Drive := []
  /-- Originals latched and not yet complete, in issue order (R86, R87). -/
  waiting : List Strike := []
  /-- Original strikes counted since the last check (R121). -/
  sampleCount : Nat := 0
  /-- The next check's column group (R121). -/
  sampleM : Nat := 0
  check : Option TileCheck := none
  /-- ARR_TEST_STAT.done and refused, and the row last read (Table 3-10). -/
  testDone : Bool := false
  testRefused : Bool := false
  testRow : List Byte := []
  /-- A test read that has been accepted and has not completed: plane and row (R105). -/
  testPending : Option (Nat × Nat) := none
  /-- Coefficients in force, by column (R92). -/
  coef : Map Coef := {}
  /-- Coefficients fitted and not yet in force, with the columns rejected and sparse (R178, R188). -/
  fitted : Option (Map Coef × Nat × Nat) := none
  /-- Device time, ns, from which CAL_AGE counts: the fit or restore of the coefficients in force (R88); 50 s earlier for
  factory coefficients (R198). -/
  calTime : Int := 0
  /-- The array has no coefficients yet: its die has still to read its pool since dawn or a wake from Midnight (R198). -/
  needsCoef : Bool := true
  /-- The coefficients are the factory's (CAL_INFO.factory). -/
  factory : Bool := true
  /-- CAL_INFO.check_only: the last fit was made in check-only mode. -/
  checkOnly : Bool := false
  /-- CAL_INFO.drift, 1/16 converter step. -/
  drift : Nat := 0
  /-- The drift window: completed checks and sums by column (R183). -/
  driftN : Nat := 0
  driftSums : Map DriftSum := {}
  /-- Calibration sums by column (R176, R188). -/
  fit : Map FitSums := {}
  /-- Checks completed since the array's last fit, in check-only mode (R188). -/
  checksSinceFit : Nat := 0
  /-- Device time of the last verified write of the array's record, ns; none since the store was blank (R196). -/
  lastSaved : Option Nat := none
deriving DecidableEq, Repr, Inhabited

/-! ### Precision control (05) -/

/-- Counts of one layer (R157). -/
structure FmtCount where
  checks : Nat := 0
  mism : Nat := 0
  conv : Nat := 0
  sat : Nat := 0
  zero : Nat := 0
deriving DecidableEq, Repr, Inhabited

/-- One layer of one instance (R157–R165, Tables 5-11 and 5-15). -/
structure FmtLayer where
  /-- Counts since the last seal affecting the instance or RESET_FALLBACK. -/
  total : FmtCount := {}
  /-- The window, and the steps it has run (R159). -/
  win : FmtCount := {}
  steps : Nat := 0
  metric : Nat := 0
  evals : Nat := 0
  /-- Wide by fallback (R161), outlier level halved (R162). -/
  wide : Bool := false
  halved : Bool := false
  /-- A registered candidate and its metric (R160). -/
  cand : Option Nat := none
  /-- The candidate was registered after every RESET_FALLBACK registered so far (R165). -/
  after : Bool := false
  /-- 0x4202 has been logged for the layer since the last seal affecting the instance (R163). -/
  told : Bool := false
deriving DecidableEq, Repr, Inhabited

/-! ### Calibration (06) -/

/-- A core's calibration turn and queue (R172–R191, Table 6-2). -/
structure Cal where
  /-- Table 6-2 state code. -/
  state : Nat := 0
  target : Nat := 0
  source : Nat := 0
  yields : Nat := 0
  comps : Nat := 0
  /-- Positions moved to the front, in order (R182). -/
  front : List Nat := []
  /-- The next position of the regular order (R182). -/
  next : Nat := 0
  /-- The earliest device time of the next turn, ns (R188). -/
  due : Nat := 0
  /-- Copies that have differed once (R173): bit 0 the front plane's, bit 1 the back plane's. -/
  again : Nat := 0
  /-- The comparison in progress: its width and codes (R175). -/
  cmp : Option (Nat × List Int) := none
  /-- CAL_STAT.mode: check-only (R188). -/
  checkOnly : Bool := false
  /-- CAL_STAT.temp_hold, and T in force, 1/16 °C (R190, R191). Reset 60.0 °C, DESIGN CHOICE 4: the reference. -/
  tempHold : Bool := false
  temp : Int := 960
deriving DecidableEq, Repr, Inhabited

/-- A record slot of a calibration store (R192–R198). -/
structure CalSlot where
  /-- The array the record is of, as `calKey`; none: erased. -/
  key : Option Nat := none
  seq : Nat := 0
  temp : Int := 0
  checkOnly : Bool := false
  coef : Map Coef := {}
  /-- Marked bad until the next dawn (R197). -/
  bad : Bool := false
deriving DecidableEq, Repr, Inhabited

/-- One power companion die's calibration store (R192–R200). -/
structure CalStore where
  slots : Map CalSlot := {}
  /-- The next slot to write, in ascending order. -/
  nextSlot : Nat := 0
  /-- The write sequence (R193). -/
  seq : Nat := 0
  /-- Arrays queued for saving, in order, with whether each is held (R195, R196). -/
  queue : List (Nat × Bool) := []
  /-- Failed slots of the write in progress (R197). -/
  fails : Nat := 0
  /-- Arrays of the hourly save still to write, and how many it has written (R195). -/
  hourly : List Nat := []
  hourlyDone : Nat := 0
  /-- Arrays whose save was dropped, to queue again at the next hourly save (R197). -/
  dropped : List Nat := []
deriving DecidableEq, Repr, Inhabited

/-! ### Cores: threads, issue, in-flight instructions (07, 08) -/

/-- Thread states (Table 7-2), with their codes in THR_STAT.state. -/
inductive ThrState where
  | free | runnable | blocked | waiting | halted | faulted
deriving DecidableEq, Repr, Inhabited

/-- One thread context of a core or of a stack engine (R202, R253). -/
structure Thread where
  state : ThrState := .free
  /-- 13-bit program counter. -/
  pc : Nat := 0
  /-- s0–s15. -/
  s : Map W64 := {}
  /-- p0–p7; bit 0 reads 1 (R202). -/
  p : BitVec 8 := 1
  /-- Replay count of the oldest unretired instruction. -/
  replays : Nat := 0
  /-- THR_EXC: code and program counter. -/
  excCode : Nat := 0
  excPc : Nat := 0
  /-- THR_STAT.wdog (R206). -/
  wdog : Bool := false
  /-- WAITING: the counter, the value and the destination predicate awaited (R216). -/
  waitE : Nat := 0
  waitV : Nat := 0
  waitP : Nat := 0
  /-- The WAIT's timeout in core cycles; 0 none (R216). -/
  waitT : Nat := 0
deriving DecidableEq, Repr, Inhabited

/-- A declared range of a scratchpad memory (R210). -/
structure Range where
  mem : Nat := 0
  first : Nat := 0
  last : Nat := 0
deriving DecidableEq, Repr, Inhabited

/-- A resolved operand: a descriptor with its effective base (R231–R235). -/
structure Opnd where
  mem : Nat := 0
  base : Nat := 0
  count : Nat := 1
  rows : Nat := 1
  /-- Row stride in bytes. -/
  stride : Nat := 0
  transpose : Bool := false
  /-- 0 BF16, 1 FP32, 2 INT32, 3 BYTE. -/
  type : Nat := 0
deriving DecidableEq, Repr, Inhabited

/-- What an in-flight instruction is doing. -/
inductive FlightKind where
  | vector
  /-- A STRIKE on a group, with k slices. -/
  | strike (group k : Nat)
  | plane (pos : Nat)
  /-- A PSWAP with the positions still to swap. -/
  | swap (mask : Nat)
  /-- A MOVE: the local operand, the remote address and the direction (inbound). -/
  | move (l : Opnd) (remote : Nat) (inbound : Bool)
  /-- A PUSH into region q's slot, from a remote address or a local operand. -/
  | push (q slot : Nat) (remote : Option Nat) (l : Opnd)
  /-- A POP holding region q's slot. -/
  | pop (q slot : Nat)
  /-- A stack-engine dispatch on a pedestal: entry, parameter operand and result operand. -/
  | dispatch (ped entry : Nat) (param result : Opnd)
  /-- A sampler handoff: batch row, vocabulary index and the logits operand. -/
  | handoff (row vocab : Nat) (o : Opnd)
deriving DecidableEq, Repr, Inhabited

/-- An issued instruction that has not retired (R211). -/
structure Flight where
  id : Nat := 0
  thread : Nat := 0
  pc : Nat := 0
  kind : FlightKind := .vector
  reads : List Range := []
  writes : List Range := []
  /-- The counter that its retirement adds 1 to, when cen is set. -/
  evc : Option Nat := none
  /-- Replays made, and the data path of the last (R220, Table 7-4). -/
  replays : Nat := 0
  path : Nat := 0
  /-- A transfer whose data has moved and been acknowledged. -/
  acked : Bool := false
  /-- Transit blocks still wanted and held (R277). -/
  want : Nat := 0
  blocks : Nat := 0
deriving DecidableEq, Repr, Inhabited

/-- An accumulation group as GSET defined it (R244). -/
structure Group where
  defined : Bool := false
  mask : Nat := 0
  wide : Bool := false
  psum : Bool := false
  scale : Nat := 0
  psumDesc : Nat := 0
  dst : Nat := 0
deriving DecidableEq, Repr, Inhabited

/-- What the results of a STRIKE need when its group completes (R245). -/
structure StrikeJob where
  flight : Nat := 0
  mask : Nat := 0
  wide : Bool := false
  scale : Opnd := {}
  psum : Option Opnd := none
  dst : Opnd := {}
  /-- Delivered slices: position, fixed-point values, exponent of s_x, o·T, and error bounds by column. -/
  got : List (Nat × List Int × Int × Int × List Nat) := []
  /-- The originals as they were queued, kept for a replay (R220). -/
  kept : List Strike := []
deriving DecidableEq, Repr, Inhabited

/-- A group's result kept for the comparison of a redundancy pair (R128). -/
structure GroupOut where
  dst : Opnd := {}
  vals : List Nat := []
  /-- The bounds b by element, FP32 bits. -/
  bounds : List Nat := []
deriving DecidableEq, Repr, Inhabited

/-- Organisation states of a core's scratchpads (09, R287). -/
inductive OrgState where
  | free | normal | draining | unified | restoring
deriving DecidableEq, Repr, Inhabited

/-- A circular region's slot (09, R272). -/
inductive SlotState where
  | empty | filling | filled | taken | released
deriving DecidableEq, Repr, Inhabited

/-- A circular region of a core (09, R270–R273). -/
structure Region where
  configured : Bool := false
  mem : Nat := 0
  base : Nat := 0
  slotBytes : Nat := 0
  slots : Nat := 0
  head : Nat := 0
  take : Nat := 0
  tail : Nat := 0
  state : Map SlotState := {}
  /-- The thread that holds each taken slot. -/
  owner : Map Nat := {}
deriving DecidableEq, Repr, Inhabited

/-- A transfer record (Table 9-9). -/
structure Xfer where
  /-- The in-flight number of the transfer, while it is in flight. -/
  flight : Nat := 0
  /-- A PLOAD rather than a MOVE. -/
  isLoad : Bool := false
  done : Bool := false
  /-- A PLOAD with zero set. -/
  zero : Bool := false
  pos : Nat := 0
  l : Opnd := {}
  remote : Nat := 0
  /-- The thread that issued it. -/
  thread : Nat := 0
deriving DecidableEq, Repr, Inhabited

/-- One mirror bank: the input image and the checkpoint of a layer boundary (07 R223; 09). -/
structure Mirror where
  complete : Bool := false
  seq : Nat := 0
  layer : Nat := 0
  step : Nat := 0
  /-- The input range mirrored and its bytes. -/
  range : Opnd := {}
  input : List Byte := []
  threads : Map Thread := {}
  evc : Map W32 := {}
  level : Nat := 8
  widths : List Nat := [1, 1, 1, 1, 1, 1, 1, 1]
  regions : Map Region := {}
  /-- The transfer list (R284). -/
  xfers : List Xfer := []
  /-- The mirror area the bank is in: 16 · cluster + physical position (R276). -/
  home : Nat := 0
deriving DecidableEq, Repr, Inhabited

/-- A redundancy pair's replay state (R130, R131). -/
inductive RedState where
  | clean | replay | arbitrate
deriving DecidableEq, Repr, Inhabited

/-- One cluster's memory (09, R274–R282). -/
structure Cluster where
  mem : Memory := {}
  /-- Words whose read is uncorrectable or poisoned, by word number. -/
  poison : Map Bool := {}
  /-- Transit blocks held by core position (R277), and positions waiting for one. -/
  transit : Map Nat := {}
  transitWait : List Nat := []
  /-- The transit arbiter's last winner (R31, R277): after reset the final port. -/
  transitLast : Nat := 10
  /-- CLM_ERR_ADDR's word. -/
  errAddr : Nat := 0
  scrubPos : Nat := 0
  /-- A scrub pass is running (R280). -/
  scrubbing : Bool := false
deriving DecidableEq, Repr, Inhabited

/-- One logical core (07, 08, 09, 04). -/
structure Core where
  threads : Map Thread := {}
  /-- Instructions of the program loaded (R203): 64-bit words by index. -/
  program : Map W64 := {}
  progLen : Nat := 0
  /-- Entry points by thread (R204). -/
  entries : Map (Option Nat) := {}
  /-- Descriptor store: 128-bit descriptors by index, and how many (R231). -/
  descs : Map (BitVec 128) := {}
  descLen : Nat := 0
  /-- EVC(0)–EVC(63), modulo 2³² (R215). -/
  evc : Map W32 := {}
  flights : List Flight := []
  nextFlight : Nat := 0
  jobs : List StrikeJob := []
  groups : Map Group := {}
  /-- Chisel configuration in force (R225, R247): L as written, and width codes by group: 0 A2, 1 A4, 2 A8. -/
  level : Nat := 8
  widths : List Nat := [1, 1, 1, 1, 1, 1, 1, 1]
  /-- The most recent MOVEs into the weight stage, oldest first, at most 16 (R284). -/
  recentMoves : List Xfer := []
  /-- CORE_STAT.layer. -/
  layer : Nat := 0
  /-- A layer barrier is open, for a marker naming a layer and its input range (R222). -/
  barrier : Option (Nat × Opnd) := none
  /-- The barrier is held open past the layer boundary (R287, Table 9-10). -/
  held : Bool := false
  /-- PLOADs not complete at the marker of the open barrier (R284). -/
  marked : List Xfer := []
  /-- CORE_STAT.replaying. -/
  replaying : Bool := false
  /-- Arbiter's last winner (R209); none since reset. -/
  lastIssue : Nat := 31
  /-- Scratchpads in the unified byte layout (Table 9-2), and words whose read is poisoned or uncorrectable. -/
  spm : Memory := {}
  poison : Map Bool := {}
  org : OrgState := .free
  /-- UNIFY is pending for the next layer boundary (R287). -/
  unifyPending : Bool := false
  testHold : Bool := false
  accRefused : Bool := false
  unifyCancelled : Bool := false
  restarted : Bool := false
  /-- SPM_ERR_ADDR's word: valid, kind, memory and address as Table 9-14 packs them. -/
  errAddr : Nat := 0
  regions : Map Region := {}
  mirror0 : Mirror := {}
  mirror1 : Mirror := {}
  /-- The bank of the latest complete pair. -/
  mirrorBank : Nat := 0
  /-- A restart has been made since the last layer boundary (R282). -/
  restartedOnce : Bool := false
  /-- Scrub position of memories 0–2, and which passes run (R280). -/
  scrubPos : Map Nat := {}
  scrubbing : Map Bool := {}
  /-- Redundancy (R127–R131): CHS_STAT's paired, primary, partner and suspended. -/
  paired : Bool := false
  primary : Bool := false
  partner : Nat := 0xFF
  suspended : Bool := false
  red : RedState := .clean
  /-- CHS_MM_INFO and CHS_MM_RATIO. -/
  mmInfo : Nat := 0
  mmRatio : Nat := 0
  /-- Group results of the pass not yet compared (R128). -/
  redOut : List GroupOut := []
  /-- First mismatch kind of the pass: none, group or layer (R129–R131). -/
  redKind : Option Bool := none
  /-- The instance the core belongs to (CORE_STAT.instance, mode). -/
  inst : Option Nat := none
  /-- The core is retired and its takeover has not ended (R513, R515). -/
  retired : Bool := false
  /-- The outbound ledger by thread: signals and remote transfers since the latest complete pair (R517). -/
  ledSig : Map Nat := {}
  ledMov : Map Nat := {}
  /-- Ledgered signals and transfers still to be skipped after a restore (R517). -/
  skipSig : Map Nat := {}
  skipMov : Map Nat := {}
deriving DecidableEq, Repr, Inhabited

/-! ### Stack-engine threads (08) -/

/-- A dispatch to a stack engine (R250, R254). -/
structure Dispatch where
  core : Nat := 0
  thread : Nat := 0
  flight : Nat := 0
  entry : Nat := 0
  /-- The parameter block. -/
  param : List Byte := []
  /-- The result operand in the dispatching core's scratchpads. -/
  result : Opnd := {}
deriving DecidableEq, Repr, Inhabited

/-- One stack-engine thread (R253, R254): busy while it runs a dispatch. -/
structure EngThread where
  ctx : Thread := {}
  /-- Its 32 KiB window of the engine store. -/
  window : Memory := {}
  busy : Bool := false
  job : Dispatch := {}
  /-- The page buffer's key and value entries: instance, slot, sub-block and page (R356). -/
  bufK : Option (Nat × Nat × Nat × Nat) := none
  bufV : Option (Nat × Nat × Nat × Nat) := none
  /-- Fetches into the two entries in progress. -/
  nextK : Option (Nat × Nat × Nat × Nat) := none
  nextV : Option (Nat × Nat × Nat × Nat) := none
deriving DecidableEq, Repr, Inhabited

/-- Rows of logits handed to the sampler units by a SHAND and not yet all taken (R251). -/
structure Handoff where
  core : Nat := 0
  flight : Nat := 0
  /-- Batch row of the first logits row. -/
  row : Nat := 0
  /-- Vocabulary index of each row's first element. -/
  vocab : Nat := 0
  o : Opnd := {}
  /-- Rows taken by samplers. -/
  taken : Nat := 0
deriving DecidableEq, Repr, Inhabited

/-! ### The fabric (10) -/

/-- What a fabric request carries (Table 10-5). A transfer's messages travel together in this model (log entry 16). -/
inductive MsgBody where
  /-- The outbound data of a core's MOVE, PUSH or mirror traffic. -/
  | write (core flight : Nat)
  /-- The read of an inbound MOVE or PUSH. -/
  | read (core flight : Nat)
  /-- An increment of a destination core's counter (R215). -/
  | signal (core thread dest e amount : Nat)
  /-- A stack-engine dispatch or a sampler handoff of a core. -/
  | dispatch (core flight : Nat)
deriving DecidableEq, Repr, Inhabited

/-- The response a destination has given. -/
inductive MsgResp where
  | ack
  | data (bytes : List Byte)
  /-- Refused; the requester sends again at once. -/
  | nackRetry
  /-- Refused; the operation completes REMOTE_FAULT. -/
  | nackFault
deriving DecidableEq, Repr, Inhabited

/-- A fabric request, from injection to its response (R296–R306). -/
structure FabMsg where
  id : Nat := 0
  body : MsgBody := .signal 0 0 0 0 0
  src : Nat := 0
  dst : Nat := 0
  /-- Network 0 or 1 (R298). -/
  net : Nat := 0
  urgent : Bool := false
  /-- It has been sent once more on the other network (R306). -/
  resent : Bool := false
  resp : Option MsgResp := none
  /-- A read of an Icpen stream that has reached its port and waits for a message (R495). -/
  waits : Bool := false
deriving DecidableEq, Repr, Inhabited

/-- One direction of a link lane at its receiver (R304, R305). -/
structure Lane where
  /-- The next flit number, modulo 128. -/
  expect : Nat := 0
  /-- Consecutive failed attempts of that flit. -/
  fails : Nat := 0
  retired : Bool := false
deriving DecidableEq, Repr, Inhabited

/-! ### Pedestals and stacks (08, 11, 12) -/

/-- One pedestal die with its stack (08, R253–R254; 11; 12). -/
structure Ped where
  /-- The stack-engine program loaded (R253): words, length, entries and descriptors. -/
  program : Map W64 := {}
  progLen : Nat := 0
  entries : Map (Option Nat) := {}
  descs : Map (BitVec 128) := {}
  descLen : Nat := 0
  /-- Dispatches waiting for a thread, in arrival order (R254). -/
  waiting : List Dispatch := []
  /-- The last thread started (R254): after reset the final port. -/
  lastStarted : Nat := 127
  /-- The stack by stack address: user region and metadata region (Table 11-2). -/
  mem : Memory := {}
  /-- Poisoned 64-byte data blocks, by block number (R327, R328). -/
  poison : Map Bool := {}
  /-- PED_STAT.state: 0 initialising, 1 READY, 2 DEGRADED, 3 FAILED (Table 11-6). -/
  state : Nat := 0
  refreshDouble : Bool := false
  selfRefresh : Bool := false
  /-- The rate is doubled because the stack's node is forced (R330). -/
  forced : Bool := false
  /-- PED_TEMP: modelled DRAM temperature in force for refresh, 1/16 °C. -/
  temp : Int := 0
  /-- Refreshes postponed (R322). -/
  postponed : Nat := 0
  /-- Retired dies, in order of retirement (R326, R327). -/
  lost : List Nat := []
  /-- Device times of each die's errors in the last second (R326). -/
  dieErrs : Map (List Nat) := {}
  /-- Consecutive timeouts of each die (R326), and whether its access is being retried (R323). -/
  dieTimeouts : Map Nat := {}
  retrying : Map Bool := {}
  /-- Device times of REMOTE_FAULT completions in the last second (R521). -/
  faultTimes : List Nat := []
  /-- Plan map: each instance's granules as (first, count) runs; 20,480 and above are the layout reserve (R319). -/
  plan : Map (List (Nat × Nat)) := {}
  /-- Look-aside lines, most recently used first, as instance, slot and line packed (R352). -/
  lab : List Nat := []
  /-- Lines being fetched (R352). -/
  fetching : List Nat := []
  /-- A patrol pass is running (R329). -/
  patrol : Bool := false
deriving DecidableEq, Repr, Inhabited

/-! ### Key-value cache, prefixes, far tier (11, 12) -/

/-- State of a sequence slot in the pedestals (Table 12-4). -/
inductive KvState where
  | free | active | paused | spilled
deriving DecidableEq, Repr, Inhabited

/-- Sequence fields of Table 12-4; every pedestal of the instance holds the same (R345). -/
structure KvSeq where
  state : KvState := .free
  pfx : Nat := 0xF
  p : Nat := 0
  b : Nat := 0
  l0 : Nat := 0
  l : Nat := 0
  firm : Nat := 0
deriving DecidableEq, Repr, Inhabited

/-- State of a staging part (Table 12-4). -/
structure Part where
  stg : Nat := 0
  mask : BitVec 32 := 0
deriving DecidableEq, Repr, Inhabited

/-- An instance's frame pools (R344, R357): frames in use and those allocated in action 4 of the current step and not yet
flushed as (slot, page, frame), and prefix frames in use. -/
structure KvPool where
  /-- The slot and page that hold each frame. -/
  used : Map (Option (Nat × Nat)) := {}
  pre : List (Nat × Nat × Nat) := []
  pfxUsed : Map Bool := {}
deriving DecidableEq, Repr, Inhabited

/-- Prefix slot states (Table 12-8). -/
inductive PfxState where
  | empty | loading | ready | draining
deriving DecidableEq, Repr, Inhabited

/-- A learned-prefix slot (R363–R366, Table 12-11). -/
structure Prefix where
  state : PfxState := .empty
  lastStatus : Nat := 0
  inst : Nat := 0
  owner : Nat := 0
  len : Nat := 0
  frames : List Nat := []
  refs : Nat := 0
deriving DecidableEq, Repr, Inhabited

/-- Phases of a spill (R333–R335). -/
inductive SpillPhase where
  | none | spilling | done | restoring
deriving DecidableEq, Repr, Inhabited

/-- A sequence's entry of the spill index (R332). -/
structure Spill where
  phase : SpillPhase := .none
  /-- Spill units, frames first in page order, staging units last. -/
  units : List Nat := []
  /-- Own pages spilled, and staged tokens. -/
  pages : Nat := 0
  staged : Nat := 0
  /-- The frames of a completed spill have been freed (R333). -/
  freed : Bool := false
  /-- Frames a restore has taken. -/
  frames : List Nat := []
  /-- A restore has failed and is tried again at the next boundary (R336). -/
  again : Bool := false
deriving DecidableEq, Repr, Inhabited

/-! ### Weights and models (13) -/

/-- A tile-table entry (Table 13-4). -/
structure TileEnt where
  kind : Nat := 1
  far : Bool := false
  pos : Nat := 0
  /-- In units of 64 B. -/
  off : Nat := 0
  mat : Nat := 0
  rb : Nat := 0
  cb : Nat := 0
deriving DecidableEq, Repr, Inhabited

/-- A matrix entry (Table 13-3). -/
structure MatEnt where
  rows : Nat := 0
  cols : Nat := 0
  format : Nat := 4
  /-- Normalisation-adjacent (R51). -/
  norm : Bool := false
  first : Nat := 0
deriving DecidableEq, Repr, Inhabited

/-- A layer entry with its matrices (Table 13-3). -/
structure LayerEnt where
  narrowPc : Nat := 0
  widePc : Nat := 0xFFFF
  mats : List MatEnt := []
deriving DecidableEq, Repr, Inhabited

/-- What a bound slot's table holds of its package (R370–R373). -/
structure Package where
  modelId : Nat := 0
  keySlot : Nat := 0xFF
  vocab : Nat := 0
  kvLayers : Nat := 0
  kvHeads : Nat := 0
  headDim : Nat := 0
  cores : Nat := 0
  stackN : Nat := 0
  setStack : Nat := 0
  setFar : Nat := 0
  canonLen : Nat := 0
  layers : List LayerEnt := []
  tiles : List TileEnt := []
  /-- Sections 1–7 as bytes. -/
  prog : List Byte := []
  descs : List Byte := []
  regions : List Byte := []
  entries : List Byte := []
  seProg : List Byte := []
  seDescs : List Byte := []
  seEntries : List Byte := []
  /-- Offset of section 9. -/
  dataOff : Nat := 0
  /-- The program hash (R373). -/
  phash : BitVec 384 := 0
deriving DecidableEq, Repr, Inhabited

/-- A FWD-128 value or partial value (R389): CRC and modular parts. -/
structure Fwd where
  c : Nat := 0
  m : Nat := 0
deriving DecidableEq, Repr, Inhabited

/-- A model slot (R374, Table 13-10). -/
structure WSlot where
  /-- 0 EMPTY, 1 BINDING, 2 BOUND. -/
  state : Nat := 0
  pkg : Package := {}
  lastStatus : Nat := 0
  lastInst : Nat := 0
  /-- WLD_LDIG. -/
  ldig : Fwd := {}
  /-- Source address and length taken by BIND. -/
  src : Nat := 0
  len : Nat := 0
  /-- The port the package is read over has been reset since the BIND: reads of it fail (Table 16-8). -/
  stale : Bool := false
deriving DecidableEq, Repr, Inhabited

/-- A resident set of an instance (R375–R382). -/
structure WSet where
  slot : Nat := 0
  space : Nat := 0
  damaged : Bool := false
  /-- Device time it last stopped being current or draining, or its load's completion (R377). -/
  stamp : Nat := 0
  /-- Records that have contributed to the step digest of the current step, and the digest so far (R391). -/
  seen : Map Bool := {}
  dig : Fwd := {}
deriving DecidableEq, Repr, Inhabited

/-- An instance's shape (R375). -/
structure Shape where
  phash : BitVec 384 := 0
  s : Nat := 0
  f : Nat := 0
  nsp : Nat := 0
deriving DecidableEq, Repr, Inhabited

/-- A switch that awaits its boundary or its target's load (R384). -/
structure WSwitch where
  slot : Nat := 0
  /-- NEXT_STEP rather than NEW_SEQUENCES. -/
  nextStep : Bool := false
deriving DecidableEq, Repr, Inhabited

/-- An instance's weights (Table 13-11). -/
structure WInst where
  shape : Option Shape := none
  sets : List WSet := []
  current : Nat := 0
  draining : Option Nat := none
  pending : Option WSwitch := none
  lastStatus : Nat := 0
  /-- An automatic load has failed: requests start none (R379). -/
  autoFailed : Bool := false
  sdig : Fwd := {}
  sdigStep : Nat := 0
deriving DecidableEq, Repr, Inhabited

/-- A load or reload, queued or running (R376–R382). -/
structure WLoad where
  slot : Nat := 0
  inst : Nat := 0
  /-- 0 command, 1 request, 2 seal, 3 reload (Table 13-12). -/
  cause : Nat := 0
  /-- The space it writes, once it has reached the head and runs. -/
  space : Option Nat := none
  /-- Records written. -/
  next : Nat := 0
  dig : Fwd := {}
  /-- The high slice of the pair being fetched. -/
  high : List Byte := []
  /-- The scales of each column block met so far, by 65,536·matrix + column block (R372). -/
  scales : Map (List Byte) := {}
deriving DecidableEq, Repr, Inhabited

/-! ### Requests, sequences, steps and rings (14, 15) -/

/-- A request descriptor (Tables 14-2 and 15-2). -/
structure Desc where
  tag : Nat := 0
  inst : Nat := 0
  priority : Nat := 0
  ring : Nat := 0
  draft : Bool := false
  pfx : Option Nat := none
  draftLen : Nat := 0
  promptAddr : Nat := 0
  promptLen : Nat := 0
  maxNew : Nat := 0
  deadline : Option Nat := none
  seed : Nat := 0
  eos : Nat := 0
  stops : List Nat := []
  /-- FP32 bits. -/
  temperature : Nat := 0
  topP : Nat := 0
  topK : Nat := 0
  mask : Nat := 0
  grammar : Nat := 0
  startState : Nat := 0
  listAddr : Nat := 0
  listLen : Nat := 0
  /-- The submission ring's host port. -/
  port : Nat := 0
deriving DecidableEq, Repr, Inhabited

/-- Sequence slot states (Table 14-4). -/
inductive SeqState where
  | free | waiting | active | paused | spilling | spilled | restoring | retiring
deriving DecidableEq, Repr, Inhabited

/-- The next prompt chunk of a sequence (R412). -/
inductive Chunk where
  | none | fetching | ready (tokens : List Nat) | failed
deriving DecidableEq, Repr, Inhabited

/-- A proposed draft token with its stored pairs (token, q as FP32 bits) (R445). -/
structure Proposal where
  token : Nat := 0
  pairs : List (Nat × Nat) := []
deriving DecidableEq, Repr, Inhabited

/-- What a sampled row of the step in progress has yielded (R433, R446). -/
structure RowResult where
  done : Bool := false
  dead : Bool := false
  /-- The drawn token e_j. -/
  token : Nat := 0
  /-- pd(j), FP32 bits. -/
  pd : Nat := 0
deriving DecidableEq, Repr, Inhabited

/-- A sequence slot (R400, R403). -/
structure Seq where
  state : SeqState := .free
  /-- The descriptor's 128 bytes, as the sequence table keeps them (R400). -/
  raw : List Byte := []
  /-- The model slot whose set the sequence uses (R385, R386). -/
  wslot : Nat := 0
  desc : Desc := {}
  /-- The allowed-token list (R432). -/
  list : List Nat := []
  accepted : Nat := 0
  /-- Start of aging: acceptance, or when it last left ACTIVE (R404). -/
  since : Nat := 0
  effective : Nat := 0
  /-- Own base B and prefix length P (R340). -/
  p : Nat := 0
  b : Nat := 0
  /-- Committed length. -/
  len : Nat := 0
  emitted : Nat := 0
  lastToken : Nat := 0
  promptDone : Nat := 0
  chunk : Chunk := .none
  draftSlot : Option Nat := none
  kCur : Nat := 0
  plainLeft : Nat := 0
  /-- A reserved entry of the record ring's pending queue is held (R420). -/
  entry : Bool := false
  lastStatus : Nat := 0
  gState : Nat := 0
  spillRefused : Bool := false
  /-- A status due to the sequence: EVICTED, EXPELLED, LATE and so on, with whether its record is written. -/
  due : Option Nat := none
  /-- The sequence is in the step in progress, and its record has been made. -/
  inStep : Bool := false
  recorded : Bool := false
  /-- Verify length of the step, drafts and row results by j. -/
  k : Nat := 0
  drafts : List Proposal := []
  rows : Map RowResult := {}
  nan : Bool := false
  /-- A grammar read of its step has failed (R442). -/
  gFail : Bool := false
  /-- Tokens emitted by the step, to commit at the boundary. -/
  out : List Nat := []
  /-- Drafts accepted by the step (R415). -/
  acc : Nat := 0
  /-- Committed tokens the draft instance does not hold yet (R414). -/
  draftLag : List Nat := []
  /-- A first stage's sequence whose last step's RESULT has not been applied (R500). -/
  awaits : Bool := false
deriving DecidableEq, Repr, Inhabited

/-- A sequence entry of a step (Table 14-8). -/
structure StepEnt where
  slot : Nat := 0
  /-- 0 decode, 1 prefill chunk, 2 verify. -/
  kind : Nat := 0
  sub : Nat := 0
  mb : Nat := 0
  k : Nat := 0
  l0 : Nat := 0
  row : Nat := 0
  rows : Nat := 0
deriving DecidableEq, Repr, Inhabited

/-- A row entry of a step (Table 14-9). -/
structure StepRow where
  token : Nat := 0
  pos : Nat := 0
  entry : Nat := 0
  sample : Bool := false
  firm : Bool := true
  j : Nat := 0
deriving DecidableEq, Repr, Inhabited

/-- An instance's run-time state (14, 08 Table 8-8, Table 14-17). -/
structure InstRun where
  /-- SCH_INST_STAT.state: 0 idle, 1 stepping, 2 at a boundary, 3 stalled. -/
  state : Nat := 0
  heldCmd : Bool := false
  expelled : Bool := false
  /-- An expulsion to apply at the next step boundary (R423). -/
  expelDue : Bool := false
  stallCause : Nat := 0
  draftMax : Nat := 0
  subBatches : Nat := 0
  /-- Steps begun since the last seal affecting the instance (SREAD source 2). -/
  stepsSeal : Nat := 0
  /-- Byte offset in own cluster memory of the current step's parameter block (SREAD source 5). -/
  paramOff : Nat := 0
  started : Nat := 0
  lastNs : Nat := 0
  /-- The step selected or in progress. -/
  ents : List StepEnt := []
  rows : List StepRow := []
  /-- The model slots whose sets the step streams, draining set first (R383, R386). -/
  stepSets : List Nat := []
  /-- Sequences in the last step. -/
  lastSeqs : Nat := 0
  /-- A draft step's number within its main step, from 1; 0 otherwise (R414). -/
  draftStep : Nat := 0
  /-- Cores that have taken the closing layer boundary of the step (R418). -/
  closed : Map Bool := {}
  /-- The step has ended and its boundary is due. -/
  ended : Bool := false
  /-- PLAN announcements: stage's instance, generation, max_seqs, KVM_FRAMES (R499). -/
  plans : List (Nat × Nat × Nat × Nat) := []
  /-- STEP messages to apply: parameter block, and slot, descriptor and list of each sequence admitted (R499). -/
  stepIn : List (List Byte × List (Nat × List Byte × List Nat)) := []
  /-- RESULT entries to apply: slot, committed length, last token, status, terminal (R500). -/
  resultIn : List (Nat × Nat × Nat × Nat × Bool) := []
  /-- Slots reported in SHORT, to pause at the next boundary (R500). -/
  shortIn : List Nat := []
  /-- Slots admitted at the boundary, for STEP (R499), and RESULT entries still to send (R500). -/
  admitted : List Nat := []
  resultOut : List (Nat × Nat × Nat × Nat × Bool) := []
  /-- Slots of the step for which the stage lacked frames (R500). -/
  short : List Nat := []
deriving DecidableEq, Repr, Inhabited

/-- A submission ring's head (R397, R399). -/
structure SubRing where
  /-- The descriptor at the head, fetched, and the check it has passed up to: none before the fetch. -/
  desc : Option Desc := none
  reading : Bool := false
  /-- The checks are done; it waits for a slot. -/
  ready : Bool := false
  /-- The head waits for its allowed-token list, which is then `list`. -/
  listWait : Bool := false
  list : List Nat := []
  raw : List Byte := []
  /-- Check 1 of R399, and the part of check 8 that the descriptor's bytes alone decide, hold. -/
  shape : Bool := false
  sampling : Bool := false
  fetchError : Bool := false
deriving DecidableEq, Repr, Inhabited

/-- A step-record ring (R419, R420): records as their 32 bytes. -/
structure RecRing where
  /-- Records not yet written to the host. -/
  queue : List (List Byte) := []
  /-- Records written whose read-back has not returned, and the tail they lead to. -/
  inFlight : Nat := 0
  blocked : Nat := 0
  /-- LATE records due without an entry (R420). -/
  owed : List (List Byte) := []
deriving DecidableEq, Repr, Inhabited

/-! ### Samplers and grammars (15) -/

/-- A row in a sampler's row buffer: slices received as (first index, FP32 bits) (R429). -/
structure SmpRow where
  slices : List (Nat × List Nat) := []
deriving DecidableEq, Repr, Inhabited

/-- Grammar slot states (Table 15-7). -/
inductive GrmState where
  | empty | loading | ready | draining
deriving DecidableEq, Repr, Inhabited

/-- A grammar slot (R439–R443). -/
structure Grammar where
  state : GrmState := .empty
  lastStatus : Nat := 0
  owner : Nat := 0
  vocab : Nat := 0
  states : Nat := 0
  bitsets : Nat := 0
  bitsetOff : Nat := 0
  /-- State records as (bitset, first transition, count, default), and transitions as (first, last, next). -/
  table : List (Nat × Nat × Nat × Nat) := []
  trans : List (Nat × Nat × Nat) := []
  refs : Nat := 0
deriving DecidableEq, Repr, Inhabited

/-- A line of the grammar cache (R442): slot, image line and its bytes. -/
structure GrmLine where
  slot : Nat := 0
  line : Nat := 0
  bytes : List Byte := []
deriving DecidableEq, Repr, Inhabited

/-! ### Host ports, the command ring and the management port (16) -/

/-- One PCIe port (R451, R460, R469–R471, Table 16-10). -/
structure HostPort where
  /-- HST_PORT_STAT.link_up. -/
  linkUp : Bool := false
  /-- 1–6 for 2.5–64 GT/s. -/
  speed : Nat := 0
  width : Nat := 0
  /-- Configuration space: MSI-X enable (R460). -/
  msixEnable : Bool := false
  /-- Configuration space: MSI-X function mask (R460). -/
  funcMask : Bool := false
  /-- Configuration space: bus master enable. -/
  busMaster : Bool := false
  /-- 0 D0, 3 D3hot. -/
  dState : Nat := 0
  /-- Pending-bit array (R460). -/
  pba : BitVec 64 := 0
  /-- The port has been reset and has not come up since: its next link-up sets reattached (R469). -/
  resetSince : Bool := false
  /-- PERST_x_N is deasserted, so that the port may train from the 6.0 ms dawn row (R566). -/
  training : Bool := false
deriving DecidableEq, Repr, Inhabited

/-- A ring command in progress (R462, R466). -/
structure RingCmd where
  /-- Entry index in the ring. -/
  entry : Nat := 0
  /-- The host's seq. -/
  seq : Nat := 0
  opcode : Nat := 0
  /-- The slot, instance or core that the completion is waited on. -/
  key : Nat := 0
  /-- Its completion is still to be written: the ring has not been disabled since (R466). -/
  written : Bool := true
deriving DecidableEq, Repr, Inhabited

/-- The command ring (R462). Head and tail are registers. -/
structure CmdRing where
  /-- Commands in progress, at most 64 (R462). -/
  inProgress : List RingCmd := []
  /-- A read of the entry at the head is in progress. -/
  reading : Bool := false
  /-- CMD_STAT.fetch_error. -/
  fetchError : Bool := false
deriving DecidableEq, Repr, Inhabited

/-! ### Icpen ports (17) -/

/-- A complete data message (Table 17-4): op, format, decoded length, encoded bytes, and the flits it holds. -/
structure IcpMsg where
  op : Nat := 0
  fmt : Nat := 0
  dec : Nat := 0
  bytes : List Byte := []
  flits : Nat := 0
deriving DecidableEq, Repr, Inhabited

/-- Data messages of a stream waiting for an inbound MOVE, oldest first (R495). -/
structure IcpQueue where
  msgs : List IcpMsg := []
deriving DecidableEq, Repr, Inhabited

/-- Port states, with their codes in ICP_STAT.state (Table 17-7). -/
inductive IcpState where
  | dark | training | hello | auth | quarantine | active | degraded
deriving DecidableEq, Repr, Inhabited

/-- A message or frame waiting to send: flits left, whether they are DATA flits, and the fabric request that ends when
the last is sent (R482–R484). -/
structure IcpTx where
  flits : Nat := 0
  data : Bool := false
  msg : Option Nat := none
deriving DecidableEq, Repr, Inhabited

/-- An Icpen port (17). -/
structure IcpPort where
  state : IcpState := .dark
  /-- Link revision; 0 untrained. -/
  rev : Nat := 0
  /-- Bit l: lane l in use. -/
  lanes : Nat := 0
  encrypted : Bool := false
  /-- A route failed R493. -/
  routesBad : Bool := false
  peerSlot : Nat := 0
  peerGen : Nat := 0
  peerPort : Nat := 0
  peerRole : Nat := 0
  peerMaxRev : Nat := 0
  /-- HELLO features byte of the peer. -/
  peerFeatures : Nat := 0
  /-- Last refusal or quarantine (Table 17-12). -/
  cause : Nat := 0
  peerHash : BitVec 384 := 0
  /-- The adopted hash in force; restored at dawn (R490). -/
  adopted : BitVec 384 := 0
  /-- The revision offered, and failed attempts at it (R485). -/
  offer : Nat := 3
  fails : Nat := 0
  /-- A partner's burst or training pattern has been detected: the port is training with it. -/
  attempt : Bool := false
  /-- DARK by REJECT, until RETRAIN or a seal changing the entry. -/
  rejected : Bool := false
  /-- The 1 s hold after a refused authentication. -/
  hold : Bool := false
  /-- The identity hash of the peer for which 0x4B02 has been logged. -/
  told : Option (BitVec 384) := none
  /-- Next numbered flit expected, modulo 4,096; nak is set in the next flit sent, once per gap (R481). -/
  rxNext : Nat := 0
  nak : Bool := false
  gap : Bool := false
  /-- Next number to send, and unacknowledged flits with how often each has been sent (R482). -/
  txNext : Nat := 0
  replay : List (Nat × Nat) := []
  /-- Credits held, receive-buffer flits freed and not yet reported, and data flits held (R483). -/
  credits : Nat := 0
  freed : Nat := 0
  held : Nat := 0
  /-- Messages and frames waiting to send, the one being sent first (R484). -/
  waiting : List IcpTx := []
  /-- HELLO frames sent, t_tx and reception time of the last received (Table 17-5). -/
  helloCount : Nat := 0
  lastTx : Nat := 0
  lastRx : Nat := 0
  /-- Payloads of the HELLO frames that began authentication, own and the peer's (R488). -/
  ownHello : List Byte := []
  peerHello : List Byte := []
  /-- Payloads of the authentication frames, own and the peer's (R488). -/
  ownShare : List Byte := []
  peerShare : List Byte := []
  peerCert : List Byte := []
  /-- AUTH_SIG has been sent. -/
  signed : Bool := false
  /-- Results: 0 accepted or a cause (Table 17-12). -/
  ownResult : Option Nat := none
  peerResult : Option Nat := none
  /-- Numbered flits sent and received since the keys took effect, link-key changes made, and the counts at which a
  change under way takes effect (R491). -/
  keyTx : Nat := 0
  keyRx : Nat := 0
  epoch : Nat := 0
  switchTx : Option Nat := none
  switchRx : Option Nat := none
  /-- Time synchronisation fields of the peer's last HELLO: leader's hash, hops, locked (R496). -/
  leaderHash : BitVec 384 := 0
  hops : Nat := 0
  peerLocked : Bool := false
deriving DecidableEq, Repr, Inhabited

/-- Time synchronisation (R496–R498, Table 17-14). -/
structure IcpSync where
  locked : Bool := false
  leader : Bool := true
  source : Nat := 0xF
  hops : Nat := 0
  /-- Last offset, ns. -/
  offset : Int := 0
  /-- Consecutive offsets inside and outside the bounds of R498. -/
  inside : Nat := 0
  outside : Nat := 0
deriving DecidableEq, Repr, Inhabited

/-- A DIGEST frame (Table 17-9). -/
structure Digest where
  group : Nat := 0
  inst : Nat := 0
  complete : Bool := false
  voting : Bool := false
  hopsLeft : Nat := 3
  interval : Nat := 0
  round : Nat := 0
  join : Nat := 0
  modelId : Nat := 0
  digest : Fwd := {}
  hash : BitVec 384 := 0
  /-- The revision of the link it came by; 3 for the device's own. -/
  rev : Nat := 3
deriving DecidableEq, Repr, Inhabited

/-- An instance's replica voting (R501–R503, ICP_REP_STAT). -/
structure Replica where
  /-- The round of the first own frame since the last seal (R501). -/
  join : Option Nat := none
  /-- The newest own round, not yet evaluated. -/
  awaiting : Option Nat := none
  /-- Members expelled by this device, with the join they had: hash, instance, join (R503). -/
  out : List (BitVec 384 × Nat × Nat) := []
  expelled : Bool := false
  voted : Bool := false
  members : Nat := 0
  voters : Nat := 0
  /-- 0 none, 1 agreement, 2 other expelled, 3 reload, 4 own expulsion, 5 no vote, 6 refused. -/
  result : Nat := 0
  round : Nat := 0
deriving DecidableEq, Repr, Inhabited

/-! ### Takeovers and in-field tests (18) -/

/-- A reserve core (Table 18-8). -/
structure Reserve where
  available : Bool := true
  /-- The logical core it serves. -/
  core : Option Nat := none
  testedBad : Bool := false
deriving DecidableEq, Repr, Inhabited

/-- A reserve-core takeover in progress (R515). -/
structure Takeover where
  core : Nat := 0
  reserve : Nat := 0
  /-- 0 data path, 1 scratchpad, 2 redundancy, 3 array, 4 field test. -/
  cause : Nat := 0
  /-- Device time of the decision, ns. -/
  decided : Nat := 0
deriving DecidableEq, Repr, Inhabited

/-- A spare-array takeover in progress (R510). -/
structure ArrTakeover where
  core : Nat := 0
  pos : Nat := 0
  /-- 0 plane write parity, 1 chisel lane, 2 calibration fit, 3 field test. -/
  cause : Nat := 0
  decided : Nat := 0
  /-- The front plane has been copied and strikes have resumed. -/
  front : Bool := false
  /-- A copy of the front plane, or of the back plane, has differed once. -/
  again : Bool := false
deriving DecidableEq, Repr, Inhabited

/-- In-field test slot j (R528–R532). -/
structure FieldTest where
  /-- 0x00 PASS, 0x01 FAIL, 0x02 RUNNING, 0x03 ABORTED, 0x06 NOT_RUN. -/
  status : Nat := 0
  target : Nat := 0
  /-- Parts remaining. -/
  parts : Nat := 0
  failing : Nat := 0
  slices : Nat := 0
  spacing : Nat := 0
  /-- Slices of the first remaining part already run. -/
  partSlices : Nat := 0
  /-- A slice is running: the test logic has asked for or holds the core. -/
  inSlice : Bool := false
  /-- Step boundaries still to pass before the next slice. -/
  wait : Nat := 0
  abort : Bool := false
deriving DecidableEq, Repr, Inhabited

/-- What a core's advisories are decided from (R533). -/
structure Advice where
  /-- Device time of the last advisory, ns. -/
  last : Option Nat := none
  /-- Tile checks and mismatches since the previous advisory. -/
  checks : Nat := 0
  mism : Nat := 0
  /-- The last second in which 0x2401 was logged for the core, and how many consecutive seconds run up to it. -/
  second : Nat := 0
  run : Nat := 0
deriving DecidableEq, Repr, Inhabited

/-! ### Power, clocks and the dawn sequence (19) -/

/-- A power domain (R552, Table 19-11): 0–15 clusters, 16 West, 17 East, 18 frieze. -/
structure Domain where
  /-- 0 Noon, 1 Dusk, 2 Night, 3 Midnight. -/
  state : Nat := 0
  waking : Bool := false
  /-- Its entry or wake waits on the governor. -/
  paced : Bool := false
  /-- The kind of its next known event (Table 19-11), and the device time of it. -/
  nextKind : Nat := 0
  nextAt : Nat := 0
  /-- Device time it entered its state. -/
  since : Nat := 0
deriving DecidableEq, Repr, Inhabited

/-- Power (R536–R551, Tables 19-10 and 19-11). -/
structure Pwr where
  /-- How far the dawn sequence has come: 0 no input, 1 VIN valid, 2 input valid, 3 rails in regulation, 4 frieze PLL
  locked, 5 core PLLs locked, 6 dawn complete (Table 19-8). -/
  dawn : Nat := 0
  /-- 0 cold, 1 device reset (Table 19-13). -/
  dawnKind : Nat := 0
  /-- The port that asked for the device reset under way: 0x1A03 is logged after its dawn (R468). -/
  resetBy : Option Nat := none
  /-- PWR_DAWN_US. -/
  dawnUs : Nat := 0
  /-- The PWR_GOOD, FAULT_N and THERMTRIP_N balls are asserted (R621). -/
  pwrGood : Bool := false
  faultN : Bool := false
  thermtripN : Bool := false
  /-- A trip since the last dawn: its cause and measured value, held in the vesper domain (R540). -/
  trip : Option (Nat × Nat) := none
  /-- Vesper times, ms, of the restarts made (R540), and the wait for VIN to stay below 20 V after too many. -/
  restarts : List Nat := []
  lockout : Bool := false
  /-- Shut down: the input stage stays open until VIN stays below 20 V (R550). -/
  off : Bool := false
  /-- PWR_STAT.input_warning, and the current limit of a low input (R539). -/
  warning : Bool := false
  lowInput : Bool := false
  /-- Phases lost, by rail 0–10 (R542). -/
  lost : Map Nat := {}
  /-- PWR_STAT.shutting_down, and the instances whose step runs on (R551). -/
  shutting : Bool := false
  runOn : List Nat := []
  /-- The governor's envelope E in 1/100 W, demand D and load L in W (R544, R545). -/
  env : Nat := 0
  demand : Nat := 0
  load : Nat := 0
  /-- Ballast power, W, and the energy reservoir, µJ (R546). Reset: full, 1,200 mJ (DESIGN CHOICE 4). -/
  ballast : Nat := 0
  reservoir : Nat := 1200000
  /-- Ballast energy dissipated beyond the whole mJ that PWR_BALLAST_MJ counts, µJ. -/
  ballastUj : Nat := 0
  /-- PWR_RATIO: the governor's and the thermal limit of West and East. -/
  govW : Nat := 16
  govE : Nat := 16
  thermW : Nat := 16
  thermE : Nat := 16
  /-- The ratio in force in each half (R104, R561; FAB_PACE). -/
  ratioW : Nat := 16
  ratioE : Nat := 16
  /-- PWR_SHARE.share pacing, in sixteenths, by instance (R547). -/
  sharePace : Map Nat := {}
  /-- PWR_IN_V (mV), PWR_IN_I (mA) and PWR_IN_P (1/16 W). -/
  inV : Nat := 0
  inI : Nat := 0
  inP : Nat := 0
  /-- The device time of a WAKE_HINT to come (R556). -/
  hint : Option Nat := none
deriving DecidableEq, Repr, Inhabited

/-- Clocks (R560–R564, Table 19-12). -/
structure Clk where
  /-- CLK_STAT.osc: 0 crystal, 1 RC. -/
  rc : Bool := false
  /-- CLK_STAT: frieze, and West and East core and sequencing PLLs locked. -/
  frieze : Bool := false
  west : Bool := false
  east : Bool := false
  /-- CLK_STAT.reference lost, and the device time of the loss. -/
  refLost : Bool := false
  lostAt : Nat := 0
  /-- The domain stays on the RC oscillator: no crystal came in time, or it stopped (R562). -/
  stays : Bool := false
  /-- CLK_OSC_PPM, 1/16 ppm. -/
  oscPpm : Int := 0
deriving DecidableEq, Repr, Inhabited

/-! ### Housekeeping conversion and the thermal model (20) -/

/-- A converter slice (R571, R576–R578, Table 20-8). -/
structure Slice where
  /-- o_k, codes, and g_k − 1 in 2⁻²⁰: fused; 0 at reset, DESIGN CHOICE 2. -/
  ofs : Int := 0
  gain : Int := 0
  /-- d of the last visit, 2⁻²⁰. -/
  cross : Int := 0
  retired : Bool := false
  cause : Nat := 0
  /-- Regular entries converted in the round, and slots added to it. -/
  done : Nat := 0
  extra : Nat := 0
  /-- The injected entry that the running slot converts. -/
  inj : Option Nat := none
  /-- The arbiter's last winner among injected entries (R31): after reset the final port. -/
  injLast : Nat := 7
deriving DecidableEq, Repr, Inhabited

/-- A channel (R572, R579, Table 20-8). -/
structure Chan where
  raw : Int := 0
  val : Int := 0
  broken : Bool := false
  /-- 0 none, 1 stale, 2 out of range, 3 balance. -/
  cause : Nat := 0
  slice : Nat := 0
  /-- Consecutive valid rounds, 0–8. -/
  valid : Nat := 0
  /-- This round's regular value and corrected code, and rounds since the last regular conversion. -/
  reg : Option (Int × Int) := none
  missed : Nat := 0
  /-- The last valid value (R581). -/
  last : Int := 0
deriving DecidableEq, Repr, Inhabited

/-- The housekeeping converter (R571–R580). -/
structure Hka where
  slices : Map Slice := {}
  chans : Map Chan := {}
  /-- HKA_STAT.spare_role, spare_for and visit_round. -/
  role : Nat := 0
  spareFor : Nat := 0xF
  visitRound : Nat := 0
  /-- The slice of the next visit (R576). -/
  visitNext : Nat := 0
  /-- The visited slice's pattern slot in the round, its zero and reference sums, the shared codes of the round by slot,
  and the pairs (its raw code, the partner's corrected code) so far. -/
  patSlot : Nat := 0
  zeros : Int := 0
  refs : Int := 0
  shared : List (Nat × Int) := []
  pairs : List (Int × Int) := []
  /-- The identification pass: the spare's values of the round by slot, and the channels that differ (R580). -/
  passVals : List (Nat × Int) := []
  differ : List Nat := []
  /-- HKA_INJ(j) as latched for the round; entries pending, converted in the round, and held for the next (R574). -/
  injCfg : Map Nat := {}
  pend : Nat := 0
  conv : Nat := 0
  held : Nat := 0
  /-- HKA_ROUND_US and HKA_BAL. -/
  roundUs : Nat := 0
  bal : Nat := 0
  balFail : Bool := false
  /-- Consecutive rounds with B above and at or below 0.15; forcing is device-wide (R580). -/
  balOver : Nat := 0
  balUnder : Nat := 0
  balWide : Bool := false
deriving DecidableEq, Repr, Inhabited

/-- A thermal node (R582–R588, Table 20-12). -/
structure TNode where
  /-- Temperature, °C, FP32 bits (R584). -/
  t : Nat := 0
  level : Nat := 0
  forced : Bool := false
  /-- Power of the last round, 10⁻⁸ W. -/
  p : Int := 0
deriving DecidableEq, Repr, Inhabited

/-- The thermal model (R581–R589). -/
structure Thm where
  nodes : Map TNode := {}
  /-- The first round after dawn has ended (R586). -/
  started : Bool := false
  /-- Every node takes the coolant value at the first round: a wake after more than 60 s in Midnight (R586). -/
  restart : Bool := false
  /-- The coolant source of the round, value in force (1/16 °C), whether it is missing, and when THM_COOLANT was last
  written (R585). -/
  source : Nat := 0
  coolant : Int := 0
  missing : Bool := false
  wroteAt : Option Nat := none
  /-- The shutdown count and its confirmation, latched in the vesper domain (R589). -/
  count : Nat := 0
  shutdown : Bool := false
deriving DecidableEq, Repr, Inhabited

/-! ### Security (21) -/

/-- A fuse bank of owner enrolment (R600). -/
structure OwnerBank where
  /-- Owner key hashes by slot, and which slots' valid fuses are blown. -/
  hashes : Map (BitVec 384) := {}
  valid : Nat := 0
  commit : Bool := false
  /-- Some slot fuse is blown. -/
  blown : Bool := false
deriving DecidableEq, Repr, Inhabited

/-- An ENROL in progress (R600). -/
structure Enrol where
  bank : Nat := 0
  hashes : List (BitVec 384) := []
  transport : Nat := 0
deriving DecidableEq, Repr, Inhabited

/-- An SPDM secure session (R596, R597, R601). -/
structure Session where
  /-- 0 none, 1 handshake, 2 secure. -/
  phase : Nat := 0
  /-- 0 DOE A, 1 DOE B, 2 MCTP. -/
  transport : Nat := 0
  /-- The owner slot the session is proven with. -/
  owner : Option Nat := none
  /-- TH1, the transcript hash that an owner proof signs (R601). -/
  th1 : BitVec 384 := 0
  /-- Key updates made in the session. -/
  keys : Nat := 0
deriving DecidableEq, Repr, Inhabited

/-- A security store record: two copies, each with its sequence, value and validity (R610). -/
structure StoreRec where
  seqA : Nat := 0
  seqB : Nat := 0
  valA : Nat := 0
  valB : Nat := 0
  okA : Bool := true
  okB : Bool := true
deriving DecidableEq, Repr, Inhabited

/-- The security block (21, Tables 21-9 to 21-11). -/
structure Sec where
  /-- SEC_STAT.identity: 0 pending, 1 ready, 2 fault. -/
  identity : Nat := 0
  /-- Debug is locked, and the scopes open meanwhile (R607). -/
  locked : Bool := false
  scopes : Nat := 0
  /-- A seal has been made since cold reset (R607). -/
  sealedSince : Bool := false
  /-- Owner fuse banks 0 and 1, and revoked slots (R600, R602). Reset: not enrolled, DESIGN CHOICE 4. -/
  banks : Map OwnerBank := {}
  revoked : Nat := 0
  enrol : Option Enrol := none
  /-- Secure sessions, by index 0–3. -/
  sessions : Map Session := {}
  /-- SEC_NONCE (R609). -/
  nonce : Nat := 0
  /-- A token being verified, with its transport: 0 register A, 1 register B, 2 management, 3 DOE A, 4 DOE B, 5 MCTP. -/
  verifying : Option (List Byte × Nat) := none
  /-- SEC_UNLOCK_STAT.last_status and refusals. -/
  unlockStatus : Nat := 0
  refusals : Nat := 0
  /-- Device time at which the lockout ends (R609). -/
  lockout : Option Nat := none
  /-- The security store's records: 0 the certificate chain, 1 ARM_FLOOR, 2 + n the adopted hash of port n (R610).
  Reset: valid, the floor and the hashes 0, DESIGN CHOICE 4. -/
  store : Map StoreRec := {}
  /-- Record writes in progress, in order: record and value (R610). -/
  writes : List (Nat × Nat) := []
deriving DecidableEq, Repr, Inhabited


/-! ### The whole state -/

/-- The state of the block. -/
structure State where
  /-- Device time, ns (R11, R563): a 64-bit count. Reset 0: not running before the frieze PLL locks (R563). -/
  time : Nat := 0
  /-- Device time runs (R563). Reset false: it starts at the 6.0 ms dawn row (R565). -/
  timeRuns : Bool := false
  /-- MODEL'S OWN: how many free values have been drawn (the spec leaves those values open). Reset 0, DESIGN CHOICE 5. -/
  freeCtr : Nat := 0
  /-- MODEL'S OWN: what the block has put on its ports, oldest first. Reset [], DESIGN CHOICE 6. -/
  out : List Out := []
  /-- The stored 32-bit registers, by BAR0 offset (R13, R26): every counter, configuration, command-source and W1C
  register of the register tables. A register not listed holds its Reset column value (`resetOf`). -/
  regs : Map (Option W32) := {}
  /-- High words latched for a reading port, by 2³² × port + BAR0 offset of the high register (R19). Reset: none. -/
  latchHi : Map (Option W32) := {}
  /-- Low words held for a writing port, by 2³² × port + BAR0 offset of the low register (R19). Reset: none. -/
  heldLow : Map (Option W32) := {}
  /-- RWL registers are locked (R14, R62). Reset false. -/
  rwlLocked : Bool := false
  /-- The event log, the fatal record and the rate limits (R523–R526, R634). Reset: empty. -/
  log : EventLog := {}
  /-- Interrupt sources 0–15 (R459). Reset: nothing pending. -/
  irq : Map Irq := {}
  /-- The part's fuses (R1–R5, R24–R28). Reset: CT3-160X-A1, DESIGN CHOICE 2. -/
  fuses : Fuses := {}
  /-- The armature loader (R56–R61). Reset: IDLE, last_status 0 (Table 2-17). -/
  arm : Loader := {}
  /-- The sealed image (R62–R64). Reset: nothing sealed (R64); ARM_SERIAL and ARM_HASH 0 before a seal (R16). -/
  img : SealedImage := {}
  /-- ARM_FLOOR as the register shows it, restored from non-volatile memory at dawn (R64). Reset 0 (Table 2-18). -/
  armFloor : Nat := 0
  /-- Admission held by a SEAL in progress, by instance (R62). Reset false. -/
  heldSeal : Map Bool := {}
  /-- Array positions 0–12 of logical core n, by 16·n + position (R69–R106). Reset: planes zero, plane 0 in front. -/
  arrays : Map Arr := {}
  /-- Layers of instances, by 1024·instance + layer (R157–R165). Reset: counts 0, narrow as sealed. -/
  fmts : Map FmtLayer := {}
  /-- RESET_FALLBACKs registered for an instance's next step boundary, with the port that wrote each (R164). Reset: none. -/
  fmtResets : Map (List Nat) := {}
  /-- Calibration of logical core n (R172–R191). Reset: IDLE. -/
  cals : Map Cal := {}
  /-- Calibration stores of dies 0 and 1 (R192–R200). Reset: blank, DESIGN CHOICE 4. -/
  calStores : Map CalStore := {}
  /-- SAVE ring commands in progress: their key and the arrays still to write (R196). Reset: none. -/
  calSaves : List (Nat × List Nat) := []
  /-- Logical cores 0 to N − 1 (07, 08, 09). Reset: every thread FREE, organisation FREE, scratchpads zero. -/
  cores : Map Core := {}
  /-- Cluster memories 0–15 (09, R274). Reset: zero (R281). -/
  clusters : Map Cluster := {}
  /-- Threads of the stack engines, by 128·pedestal + thread (08, R253, R254). Reset: free, windows zero. -/
  engines : Map EngThread := {}
  /-- Sampler handoffs in progress, in issue order (R251). Reset: none. -/
  handoffs : List Handoff := []
  /-- Fabric requests without a response taken (R296–R306). Reset: none. -/
  msgs : List FabMsg := []
  /-- The next request's tag. Reset 0. -/
  nextMsg : Nat := 0
  /-- Link lanes, by 64·router + 32·network + input port (R304, R307). Reset: in service. -/
  lanes : Map Lane := {}
  /-- Router slices retired, by 2·router + network (R308). Reset: none. -/
  slices : Map Bool := {}
  /-- Router pairs found unreachable, by 16·source + destination (R309). Reset: none. -/
  unreachable : Map Bool := {}
  /-- Instances paced (R312, FAB_PACE.paced). Reset: none. -/
  paced : Map Bool := {}
  /-- Pedestals and stacks 0–7 (08, 11, 12). Reset: not ready, user memory and metadata zero (R565). -/
  peds : Map Ped := {}
  /-- Sequence state in the pedestals, by 4096·instance + slot (R345). Reset: free. -/
  kvSeqs : Map KvSeq := {}
  /-- Part state, by 2²⁰·(4096·instance + slot) + sub-block index (R345). Reset: page 0, no rows. -/
  parts : Map Part := {}
  /-- Frame pools by instance (R357). Reset: all free. -/
  kvPools : Map KvPool := {}
  /-- Prefix slots 0–7 (R366). Reset: EMPTY. -/
  prefixes : Map Prefix := {}
  /-- The spill index, by 4096·instance + slot (R332). Reset: none. -/
  spills : Map Spill := {}
  /-- Sequence-steps marked EMPTY_ATTENTION in the current step, by 4096·instance + slot (R361). Reset: none. -/
  emptyMarks : Map Bool := {}
  /-- Parts whose flush is in progress, with the request whose acknowledgement waits (R348), by part key. Reset: none. -/
  flushing : Map (Option Nat) := {}
  /-- Sequences with a part that became full without a frame (R350), by 4096·instance + slot. Reset: none. -/
  noFrame : Map Bool := {}
  /-- Model slots 0–7 (R374). Reset: EMPTY. -/
  wslots : Map WSlot := {}
  /-- Weights of instances 0–15 (R375–R391). Reset: no shape, no set; the current slot is set at a seal. -/
  winsts : Map WInst := {}
  /-- The device's load queue, the running load first (R376, R377). Reset: empty. -/
  wloads : List WLoad := []
  /-- Instances 0–15 as they run (14). Reset: idle. -/
  insts : Map InstRun := {}
  /-- Sequence slots, by 4096·instance + slot (R400, R403). Reset: FREE. -/
  seqs : Map Seq := {}
  /-- Submission rings 0–3 (R395–R399). Reset: nothing fetched. -/
  subRings : Map SubRing := {}
  /-- Step-record rings 0–3 (R419, R420). Reset: empty. -/
  recRings : Map RecRing := {}
  /-- Last winner among the submission rings (R397): after reset the final port. -/
  subLast : Nat := 3
  /-- SCH_CMD_STAT: last status and command. Reset 0. -/
  schStatus : Nat := 0
  schCmd : Nat := 0
  /-- Rows in the samplers' row buffers, by 4096·instance + batch row (R429). Reset: none. -/
  smpRows : Map SmpRow := {}
  /-- Grammar slots 0–63 (R443). Reset: EMPTY. -/
  grammars : Map Grammar := {}
  /-- The grammar cache, most recently used first, at most 1,024 lines (R442). Reset: empty. -/
  grmCache : List GrmLine := []
  /-- PCIe ports A (0) and B (1) (R451–R471). Reset: link down, D0. -/
  ports : Map HostPort := {}
  /-- The command ring's commands in progress and fetch_error (R462–R466). Reset: none. -/
  cmd : CmdRing := {}
  /-- Event-ring entries written and not yet read back (R467). Reset 0. -/
  evrInFlight : Nat := 0
  /-- HST_MGMT_STAT.eid, the MCTP endpoint ID (R472). Reset 0. -/
  mgmtEid : Nat := 0
  /-- Causes whose alert has been answered at the Alert Response Address (R474). Reset 0. -/
  araMask : W32 := 0
  /-- Far-tier areas that a reset of their port has invalidated: FTR_CTL(i).valid clears once no spilled sequence of
  instance i remains (Table 16-8). Reset: none. -/
  ftrStale : Map Bool := {}
  /-- Complete inbound data messages, by 2¹⁶·port + stream (R495). Reset: none. -/
  icpIn : Map IcpQueue := {}
  /-- Icpen ports 0–11 (R477–R494). Reset: DARK (Table 17-12). -/
  icps : Map IcpPort := {}
  /-- Time synchronisation (R496–R498). Reset: a leader without a source (Table 17-14). -/
  sync : IcpSync := {}
  /-- Replica voting of instances 0–15 (R501–R503). Reset: none. -/
  replicas : Map Replica := {}
  /-- DIGEST frames seen and sent, of every group, of the last rounds (R501). Reset: none. -/
  digests : List Digest := []
  /-- Reserve cores 0–3 (R514, Table 18-8). Reset: available. -/
  reserves : Map Reserve := {}
  /-- Reserve-core takeovers in progress (R515). Reset: none. -/
  takeovers : List Takeover := []
  /-- Spare-array takeovers in progress (R510). Reset: none. -/
  arrTakeovers : List ArrTakeover := []
  /-- Unbacked logical cores (FLT_UNBACKED, R514). Reset: none. -/
  unbacked : Map Bool := {}
  /-- In-field test slots 0–7 (R528). Reset: status 0. -/
  tests : Map FieldTest := {}
  /-- Advisory conditions of each logical core (R533). Reset: none. -/
  advice : Map Advice := {}
  /-- Power domains 0–18 (R552). Reset: Noon (Table 19-11). -/
  domains : Map Domain := {}
  /-- Power (R536–R551). Reset: no input yet (R565), ratios 16 (Table 19-10). -/
  pwr : Pwr := {}
  /-- Clocks (R560–R564). Reset 0 (Table 19-12). -/
  clk : Clk := {}
  /-- The housekeeping converter (R571–R580). Reset: Tables 20-8 and 20-9. -/
  hka : Hka := {}
  /-- The thermal model (R581–R589). Reset: Tables 20-10 to 20-12. -/
  thm : Thm := {}
  /-- Weight key slots 0–63: Key1 ‖ Key2 (R603). Reset: empty. -/
  weightKeys : Map (Option (BitVec 512)) := {}
  /-- The security block (R593–R611). Reset: identity pending, debug open, not enrolled (Table 21-10). -/
  sec : Sec := {}
  /-- The test port's instruction: 0 IDCODE, 1 BYPASS, 2 SAMPLE/PRELOAD, 3 EXTEST, 4 IEEE 1149.6 (R607, R624). Reset:
  IDCODE, the state an IEEE 1149.1 reset leaves (PRESUMED, log entry 7). -/
  tapIr : Nat := 0
  /-- The boundary cells as preloaded (R624). Reset 0, DESIGN CHOICE 4. -/
  tapCells : Nat := 0
  /-- The commands that are waiting, first in, first out. Reset: none. -/
  pending : List Instr := []
deriving DecidableEq, Repr

/-- The block right after reset: a part at cold reset, before input valid (R15), every field at its reset value. -/
def State.reset : State := {}

end Sys2Proof.Machine
end

