-- ==== Sys2Proof/Machine/Ops.lean ====
section
/-!
DEFINITION. The operations every family shares: registers and counters (00), the event log (18), interrupts (16),
completions of ring commands (16) and free values.
-/
namespace Sys2Proof.Machine
open Sys2Proof

/-- The outcome of one command. -/
abbrev Out' := Host.Outcome State Fault Refusal

/-- Send something on one of the block's ports. -/
def State.emit (s : State) (o : Out) : State := { s with out := s.out ++ [o] }

/-- Draw a free value: the counter moves on, so that no two draws are the same application. -/
def State.draw (s : State) : State := { s with freeCtr := s.freeCtr + 1 }

/-- What a step does with no command waiting: device time, where it runs, counts on by 1 ns (R563, log entry 8). -/
def State.tick (s : State) : State := { s with time := if s.timeRuns then (s.time + 1) % 2 ^ 64 else s.time }

/-! ### Registers and counters -/

/-- The Reset column value of the register at an offset (R16); 0 at an unassigned address (R17). HKA_INJ(j) resets to
Table 20-4. The vector control word of an MSI-X vector resets to 1, masked: R475 takes the table's layout from the PCIe
specification, and its reset value with it (PRESUMED, log entry 54). -/
def resetOf (off : Nat) : W32 :=
  if 0xE1000 ≤ off ∧ off < 0xE3000 ∧ off % 0x1000 < 0x400 then (if off % 16 = 12 then 1 else 0)
  else if off = Reg.HKA_INJ 0 then 0x81000005
  else if off = Reg.HKA_INJ 1 then 0x80000001
  else if off = Reg.HKA_INJ 2 then 0x8B000002
  else if off = Reg.HKA_INJ 3 then 0x8D000002
  else match regRow? off with
  | some r => r.reset
  | none => 0

/-- The stored value of a register. -/
def State.reg (s : State) (off : Nat) : W32 := (s.regs.get off).getD (resetOf off)

/-- Store a register's value. -/
def State.setReg (s : State) (off : Nat) (v : W32) : State := { s with regs := s.regs.put off (some v) }

/-- A stored register as a number. -/
def State.regN (s : State) (off : Nat) : Nat := (s.reg off).toNat

/-- Store a number, cut to 32 bits, in a register. -/
def State.setRegN (s : State) (off v : Nat) : State := s.setReg off (BitVec.ofNat 32 v)

/-- Bits [hi:lo] of a stored register. -/
def State.regF (s : State) (off hi lo : Nat) : Nat := bits (s.regN off) hi lo

/-- The 64-bit value of a register pair whose low register is at `off` (R19). -/
def State.reg64 (s : State) (off : Nat) : Nat := s.regN off + 2 ^ 32 * s.regN (off + 4)

/-- Store a 64-bit pair. -/
def State.setReg64 (s : State) (off v : Nat) : State :=
  (s.setRegN off v).setRegN (off + 4) (v / 2 ^ 32)

/-- Add to a 32-bit counter, which stops at its largest value. -/
def State.countBy (s : State) (off n : Nat) : State := s.setRegN off (satAdd 32 (s.regN off) n)

/-- Add one to a 32-bit counter. -/
def State.count (s : State) (off : Nat) : State := s.countBy off 1

/-- Add to a 64-bit counter, which stops at its largest value. -/
def State.count64By (s : State) (off n : Nat) : State := s.setReg64 off (satAdd 64 (s.reg64 off) n)

/-- Add one to a 64-bit counter. -/
def State.count64 (s : State) (off : Nat) : State := s.count64By off 1

/-- Set bits of a register (a W1C register's causes, R18). -/
def State.setBits (s : State) (off m : Nat) : State := s.setReg off (s.reg off ||| BitVec.ofNat 32 m)

/-- Keep the larger of a register's value and a measurement. -/
def State.regMax (s : State) (off v : Nat) : State := s.setRegN off (max (s.regN off) v)

/-! ### Interrupts (R459, R460) -/

/-- An MSI-X message is raised: written when its port has a link, MSI-X is enabled and neither the function nor the
vector is masked; otherwise its pending bit is set (R460). -/
def State.deliverMsix (s : State) (p v : Nat) : State :=
  let hp := s.ports.get p
  if hp.linkUp && hp.msixEnable && !hp.funcMask && hp.dState == 0
      && !bit (s.regN (Reg.MSIX_TABLE p (4 * v + 3))) 0 then
    s.emit (.msix p v)
  else { s with ports := s.ports.put p { hp with pba := hp.pba ||| BitVec.ofNat 64 (2 ^ v) } }

/-- A source's message is raised on the port and vector of its map, and its pending count restarts (R459). -/
def State.raiseIrq (s : State) (src : Nat) : State :=
  let m := s.regN (Reg.HST_IRQ src)
  { s with irq := s.irq.put src {} }.deliverMsix (bits m 30 30) (bits m 29 24)

/-- `n` events of an interrupt source (R459). -/
def State.irqEvents (s : State) (src n : Nat) : State :=
  let m := s.regN (Reg.HST_IRQ src)
  if n = 0 || !bit m 31 then s else
  let q := s.irq.get src
  let q' : Irq := { pending := q.pending + n
                    first := if bits m 23 12 = 0 then none else some (q.first.getD s.time) }
  let s := { s with irq := s.irq.put src q' }
  if max 1 (bits m 11 0) ≤ q'.pending then s.raiseIrq src else s

/-! ### The event log (R523–R526) -/

/-- Entry data fields as (size in bytes, value) pairs, packed in order of decreasing size into 16 bytes (R525). -/
def packData (fs : List (Nat × Nat)) : List Byte :=
  let pick := fun (n : Nat) => (fs.filter (fun f => f.1 == n)).flatMap (fun f => leBytes n f.2)
  ((pick 8 ++ pick 4 ++ pick 2 ++ pick 1) ++ List.replicate 16 0).take 16

/-- The 32 bytes of a log entry (Table 18-3). -/
def LogEntry.bytes (e : LogEntry) : List Byte :=
  leBytes 8 e.time ++ leBytes 2 e.code ++ leBytes 1 (b2n e.copied + 2 * b2n e.fatal) ++ [0] ++ leBytes 4 e.seq ++
    ((e.data ++ List.replicate 16 0).take 16)

/-- The class digit of an event code (R20). -/
def eventClass (code : Nat) : Nat := bits code 15 12

/-- The event ring is to receive an entry of this class (R467). -/
def State.evrWants (s : State) (cls : Nat) : Bool :=
  bit (s.regN Reg.EVR_CFG) 15 && bit (s.regN Reg.EVR_CFG) (16 + cls)

/-- A cause bit of HST_MGMT_STAT is set by hardware. A cause that was clear is newly set, so an answered alert is
asserted again (R474). -/
def State.mgmtCause (s : State) (i : Nat) : State :=
  let was := bit (s.regN Reg.HST_MGMT_STAT) i
  let s := s.setBits Reg.HST_MGMT_STAT (2 ^ i)
  if was then s else { s with araMask := s.araMask &&& ~~~(BitVec.ofNat 32 (2 ^ i)) }

/-- An entry joins the log, replacing the oldest when the log is full; `room`: it joins the fatal record too. -/
def EventLog.add (l : EventLog) (e : LogEntry) (room : Bool) : EventLog :=
  { l with
    entries := (if 4096 ≤ l.entries.length then l.entries.drop 1 else l.entries) ++ [e]
    next := (l.next + 1) % 2 ^ 32
    fatal := if room then l.fatal ++ [e] else l.fatal }

/-- The words that a write has put over entry k of the fatal record go (R526). -/
def State.clearFatal (s : State) (k : Nat) : State :=
  { s with regs := s.regs.keep (fun off _ => off / 0x20 != Reg.FLT_FATAL k 0 / 0x20) }

/-- An entry has left the log before it was copied to the event ring (R467). -/
def State.loseCopy (s : State) : State :=
  let s := s.count Reg.EVR_LOST
  { s with log := { s.log with evrLostSince := satAdd 32 s.log.evrLostSince 1 } }

/-- The next entry pushes out one that the event ring still wants. -/
def State.losesCopy (s : State) : Bool :=
  decide (4096 ≤ s.log.entries.length) && (match s.log.entries with
    | o :: _ => !o.copied && s.evrWants (eventClass o.code)
    | [] => false)

/-- One entry is written to the log, replacing the oldest when the log is full (R523). The first 16 entries of class F join
the fatal record (R526). -/
def State.pushEntry (s : State) (code : Nat) (fs : List (Nat × Nat)) : State :=
  let room := eventClass code == 0xF && decide (s.log.fatal.length < 16)
  let e : LogEntry := { time := s.time, code := code, copied := false, fatal := room, seq := s.log.next
                        data := packData fs }
  let t : State := { s with log := s.log.add e room }
  let t := if room then t.clearFatal s.log.fatal.length else t
  let t := if 4096 ≤ s.log.entries.length then t.count Reg.FLT_LOG_LOST else t
  if s.losesCopy then t.loseCopy else t

/-- The causes and interrupts that an event's class raises (Table 16-5, Table 16-11). -/
def State.classEffects (s : State) (code : Nat) : State :=
  match eventClass code with
  | 0xF => (s.mgmtCause 0).irqEvents 10 1
  | 4 => (s.mgmtCause 1).irqEvents 10 1
  | 7 => (s.mgmtCause 1).irqEvents 10 1
  | 8 => (s.mgmtCause 2).irqEvents 11 1
  | _ => s

/-- Key of a rate limit's scope (R634). -/
def limitKey (code scope : Nat) : Nat := 2 ^ 32 * code + scope

/-- Whether an occurrence is logged under a limit of `span` ns (R634). -/
def State.limitOpen (s : State) (code scope span : Nat) : Bool :=
  match (s.log.limits.get (limitKey code scope)).last with
  | none => true
  | some t => decide (t + span ≤ s.time)

/-- Record that an entry of a limited event has been logged (R634). -/
def State.limitLogged (s : State) (code scope : Nat) : State :=
  { s with log := { s.log with limits := s.log.limits.put (limitKey code scope) { last := some s.time, count := 0 } } }

/-- Record `k` occurrences that are not logged (R634). -/
def State.limitHeld (s : State) (code scope k : Nat) : State :=
  let ls := s.log.limits.upd (limitKey code scope) (fun l => { l with count := l.count + k })
  { s with log := { s.log with limits := ls } }

/-- 0x4A02 EVENT_RING_LOST, at most once per second (R467). -/
def State.noteEvrLost (s : State) : State :=
  if s.log.evrLostSince = 0 then s else
  if s.limitOpen 0x4A02 0 (10 ^ 9) then
    let n := s.log.evrLostSince
    let t : State := { s with log := { s.log with evrLostSince := 0 } }
    ((t.limitLogged 0x4A02 0).pushEntry 0x4A02 [(4, n)]).classEffects 0x4A02
  else s

/-- Log an event (R523): its entry is written, and what its class raises follows. An entry that the event ring loses by it
is an occurrence of 0x4A02. -/
def State.logEvent (s : State) (code : Nat) (fs : List (Nat × Nat)) : State :=
  let t := (s.pushEntry code fs).classEffects code
  if t.log.evrLostSince = s.log.evrLostSince then t else t.noteEvrLost

/-- Log an event at most once per `span` ns of device time and scope (R634), on `k` occurrences. The entry's data is
given the count of occurrences since the last entry, these included. -/
def State.logLimitedFor (s : State) (span code scope k : Nat) (fs : Nat → List (Nat × Nat)) : State :=
  let n := (s.log.limits.get (limitKey code scope)).count + k
  if s.limitOpen code scope span then (s.limitLogged code scope).logEvent code (fs (min n (2 ^ 32 - 1)))
  else s.limitHeld code scope k

/-- Log an event at most once per scope per second of device time (R634). -/
def State.logLimited (s : State) (code scope : Nat) (fs : Nat → List (Nat × Nat)) : State :=
  s.logLimitedFor (10 ^ 9) code scope 1 fs

/-! ### Completions of ring commands (R464, R466) -/

/-- Write a completion into a command entry: bytes 0x30–0x3F, in one write (R464, Table 16-6). -/
def State.writeCompletion (s : State) (entry seq status : Nat) : State :=
  let base := s.reg64 Reg.CMD_BASE_LO / 4096 * 4096
  let s := s.emit (.hostWrite (s.regF Reg.CMD_CFG 8 8) (base + 64 * entry + 0x30)
    (leBytes 4 seq ++ leBytes 1 status ++ [1, 0, 0] ++ leBytes 8 s.time))
  s.irqEvents 8 1

/-- The in-progress ring commands of an opcode and key complete with a status. A command whose ring was disabled
meanwhile still ends, but its completion is not written (R466). -/
def State.finish (s : State) (opcode key status : Nat) : State :=
  let done := s.cmd.inProgress.filter (fun c => c.opcode == opcode && c.key == key)
  let s := { s with cmd := { s.cmd with
    inProgress := s.cmd.inProgress.filter (fun c => !(c.opcode == opcode && c.key == key)) } }
  done.foldl (fun s c => if c.written then s.writeCompletion c.entry c.seq status else s) s

end Sys2Proof.Machine

namespace Sys2Proof

/-- Whether a port is one of the two host ports. -/
def Port.isHost : Port → Bool
  | .a => true
  | .b => true
  | _ => false

/-- A port's number in R31's port order and in event data: A 0, B 1, management 2, command ring 3. -/
def Port.num : Port → Nat
  | .a => 0
  | .b => 1
  | .mgmt => 2
  | .ring => 3

end Sys2Proof

namespace Sys2Proof.Machine
open Sys2Proof

/-- The host port a command acts as: the command ring acts as the port named in CMD_CFG.port (R56, R464). -/
def State.actsAs (s : State) : Port → Nat
  | .a => 0
  | .b => 1
  | .mgmt => 0
  | .ring => s.regF Reg.CMD_CFG 8 8

end Sys2Proof.Machine
end

