-- ==== Sys2Proof/Machine/Image.lean ====
section
/-!
DEFINITION. Parsing and checking an armature image (02, R38–R55, R60, R637): the thirteen checks of Table 2-14 in order.
Each check answers the offset of the first failing field, or none.
-/
namespace Sys2Proof.Machine
open Sys2Proof

/-- The first failing field of a list of (passes, offset) tests. -/
def firstBad : List (Bool × Nat) → Option Nat
  | [] => none
  | (ok, o) :: r => if ok then firstBad r else some o

/-- A byte, half-word or word of the image. -/
def imgF (im : List Byte) (o n : Nat) : Nat := leField im o n

/-- Bytes [a, b) are zero; the first that is not. -/
def firstNonzero (im : List Byte) (a b : Nat) : Option Nat :=
  ((List.range (b - a)).map (a + ·)).find? (fun k => imgF im k 1 != 0)

/-- Check 1: the header (Table 2-1, R39). -/
def checkHeader (im : List Byte) (len : Nat) : Option Nat :=
  let flags := imgF im 0x0E 2
  let part := bit flags 0
  let pi := imgF im 0x18 1
  firstBad [
    (decide (256 ≤ im.length), 0),
    (imgF im 0 4 == 0x494D5241, 0x000),
    (imgF im 4 2 == 1, 0x004),
    (imgF im 6 2 == 256, 0x006),
    (imgF im 8 4 == len, 0x008),
    (decide (flags < 4), 0x00E),
    (!(part && bit flags 1), 0x00E),
    (decide (imgF im 0x15 1 < 8), 0x015),
    (decide (imgF im 0x16 1 < 4), 0x016),
    (decide (imgF im 0x17 1 < 4), 0x017),
    (if part then decide (pi ≤ 15) else pi == 0xFF, 0x018),
    ((firstNonzero im 0x1A 0x20).isNone, (firstNonzero im 0x1A 0x20).getD 0x1A),
    ((firstNonzero im 0xE0 0x100).isNone, (firstNonzero im 0xE0 0x100).getD 0xE0)]

/-- The bit of grade_mask for a logical core count (Table 2-1). -/
def gradeBit (grade : Nat) : Nat := if grade = 128 then 0 else if grade = 144 then 1 else 2

/-- Check 2: the masks match DEV_ID. -/
def checkTarget (im : List Byte) (f : Fuses) : Option Nat :=
  firstBad [
    (imgF im 0x14 1 == 3, 0x014),
    (bit (imgF im 0x15 1) (gradeBit f.grade), 0x015),
    (bit (imgF im 0x16 1) (b2n f.reduced), 0x016),
    (bit (imgF im 0x17 1) (b2n f.stepB0), 0x017)]

/-- The digest that the signature covers: bytes 0x080 to 0x0DF replaced by zeros (R40). -/
def signedDigest (im : List Byte) : BitVec 384 :=
  Config.sha384 (im.take 0x80 ++ List.replicate 96 0 ++ im.drop 0xE0)

/-- A record of the image with the offset at which it stands. -/
structure ImgRec where
  off : Nat
  type : Nat
  inst : Nat
  len : Nat
deriving DecidableEq, Repr

/-- The fixed length of a record type (Table 2-3), or FORMAT's length from its exception count (R49). -/
def recLen (im : List Byte) (o type : Nat) : Option Nat :=
  match type with
  | 1 => some 48
  | 2 => some 24
  | 3 => some 32
  | 4 => some ((16 + 4 * imgF im (o + 14) 2 + 7) / 8 * 8)
  | 5 => some 32
  | 6 => some 24
  | 7 => some 56
  | _ => none

/-- Reserved byte ranges of a record, by offset within it (Tables 2-2, 2-4 to 2-12): INSTANCE's reserved core_map bits
160–191 are bytes 44–47 (log entry 11). -/
def recReserved (im : List Byte) (o type inst : Nat) : List (Nat × Nat) :=
  match type with
  | 1 => [(5, 8), (20, 24), (44, 48)]
  | 2 => [(5, 8), (17, 24)]
  | 3 => [(5, 8), (31, 32)]
  | 4 => [(5, 8), (11, 12), (16 + 4 * imgF im (o + 14) 2, (16 + 4 * imgF im (o + 14) 2 + 7) / 8 * 8)]
  | 5 => [(5, 8), (25, 32)]
  | 6 => if inst = 0xFF then [(5, 8), (17, 18), (20, 24)] else [(5, 8), (10, 24)]
  | _ => [(5, 8)]

/-- The walk of check 7 (R637 stage 1): the records in image order, or the offset of the first failing field. -/
def walkRecords (im : List Byte) : Nat → Nat → Except Nat (List ImgRec)
  | 0, _ => .ok []
  | fuel + 1, o =>
    if im.length ≤ o then .ok [] else
    if im.length < o + 8 then .error (o + 2) else
    let type := imgF im o 1
    let inst := imgF im (o + 1) 1
    let len := imgF im (o + 2) 2
    match recLen im o type with
    | none => .error o
    | some want =>
      if im.length < o + len ∨ len ≠ want then .error (o + 2)
      else if imgF im (o + 4) 1 ≠ 1 then .error (o + 4)
      else match (recReserved im o type inst).findSome? (fun r => firstNonzero im (o + r.1) (o + r.2)) with
        | some k => .error k
        | none =>
          match walkRecords im fuel (o + len) with
          | .ok rs => .ok ({ off := o, type := type, inst := inst, len := len } :: rs)
          | .error e => .error e

/-- Whether an instance field is allowed for a record type (Table 2-3). -/
def instAllowed (type inst : Nat) : Bool :=
  match type with
  | 6 => inst == 0xFF || decide (inst ≤ 15)
  | 7 => inst == 0xFF
  | _ => decide (inst ≤ 15)

/-- The first record of a type and instance. -/
def findRec (rs : List ImgRec) (type inst : Nat) : Option ImgRec :=
  rs.find? (fun r => r.type == type && r.inst == inst)

/-- Duplicates: the offset of the later record of the first pair (R637). -/
def dupRec : List ImgRec → List ImgRec → Option Nat
  | _, [] => none
  | seen, r :: rs => if (findRec seen r.type r.inst).isSome then some r.off else dupRec (r :: seen) rs

/-- The full record set of one instance (R42, R66, R637 stage 3); `none` when complete. -/
def completeSet (im : List Byte) (rs : List ImgRec) (i : Nat) : Option Nat :=
  match findRec rs 1 i with
  | none => (rs.find? (fun r => r.inst == i)).map (·.off)
  | some ir =>
    let draft := imgF im (ir.off + 9) 1 == 1
    let route := findRec rs 2 i
    if draft && route.isSome then route.map (·.off)
    else if (findRec rs 3 i).isNone || (findRec rs 4 i).isNone || (!draft && route.isNone) then some ir.off
    else none

/-- The first failure, in record order, of a test on each record. -/
def firstRec (rs : List ImgRec) (t : ImgRec → Option Nat) : Option Nat := rs.findSome? t

/-- Whether a record type is hard (Table 2-3). -/
def hardType (t : Nat) : Bool := t != 5 && t != 6

/-- Check 7, stage 3: presence and duplicates. -/
def checkPresence (im : List Byte) (rs : List ImgRec) (part : Bool) (pi : Nat) : Option Nat :=
  if part && rs.isEmpty then some 0 else
  let own := if part then rs.filter (fun r => r.inst == pi) else rs
  match own.findSome? (fun r => if instAllowed r.type r.inst then none else some (r.off + 1)) with
  | some o => some o
  | none =>
    match dupRec [] own with
    | some o => some o
    | none =>
      if part then
        match findRec own 1 pi with
        | some ir =>
          if imgF im (ir.off + 9) 1 = 0xFE then (own.find? (fun r => r != ir)).map (·.off)
          else completeSet im own pi
        | none => if own.any (fun r => hardType r.type) then completeSet im own pi else none
      else (List.range 16).findSome? (fun i => if own.any (fun r => r.inst == i) then completeSet im own i else none)

/-- Format codes that are valid (Table 2-9). -/
def validCode (c : Nat) : Bool := [0x22, 0x24, 0x32, 0x34, 0x42, 0x44, 0x88].contains c

/-- Check 8 on one record: every field within its range. -/
def checkRange (im : List Byte) (part : Bool) (r : ImgRec) : Option Nat :=
  let f := fun (o n : Nat) => imgF im (r.off + o) n
  let at_ := fun (l : List (Bool × Nat)) => (firstBad l).map (r.off + ·)
  match r.type with
  | 1 =>
    if part && f 9 1 == 0xFE then none else
    at_ [(decide (f 8 1 ≤ 7), 8), (decide (f 9 1 ≤ 1), 9),
      (if f 9 1 = 0 then f 10 1 == 0xFF else decide (f 10 1 ≤ 15), 10),
      (decide (f 11 1 < 2), 11),
      (decide (1 ≤ f 12 2 ∧ f 12 2 ≤ 4096), 12),
      (decide (1 ≤ f 14 2 ∧ f 14 2 ≤ min (f 12 2) 2048), 14),
      (decide (1 ≤ f 16 1 ∧ f 16 1 ≤ 8), 16),
      (decide (f 18 2 ≤ 256), 18)]
  | 2 =>
    at_ [(decide (f 8 2 ≤ f 10 2), 10),
      (decide (f 12 1 ≤ 1), 12), (if f 12 1 = 1 then decide (f 13 1 ≤ 11) else f 13 1 == 0xFF, 13),
      (decide (f 14 1 ≤ 1), 14), (if f 14 1 = 1 then decide (f 15 1 ≤ 11) else f 15 1 == 0xFF, 15),
      (decide (f 16 1 ≤ 2), 16)]
  | 3 =>
    at_ [(decide (1 ≤ f 24 2 ∧ f 24 2 ≤ 1024), 24),
      ([64, 128, 256].contains (f 26 2), 26),
      (decide (1 ≤ f 28 1 ∧ f 28 1 ≤ 64), 28),
      ([0x44, 0x88].contains (f 29 1), 29),
      (decide (1 ≤ f 30 1), 30)]
  | 4 =>
    at_ ([(validCode (f 8 1), 8), (decide (f 9 1 < 4), 9),
      (decide (f 10 1 ≤ 100) || f 10 1 == 0xFF, 10),
      (decide (1 ≤ f 12 2 ∧ f 12 2 ≤ 1024), 12), (decide (f 14 2 ≤ 4096), 14)] ++
      (List.range (f 14 2)).flatMap (fun j =>
        [(decide (f (16 + 4 * j) 2 < f 12 2), 16 + 4 * j),
         (decide (f (18 + 4 * j) 1 ≤ 15) || f (18 + 4 * j) 1 == 0xFF, 18 + 4 * j),
         (validCode (f (19 + 4 * j) 1), 19 + 4 * j)]))
  | 5 =>
    at_ [(decide (f 8 4 ≤ 1000000), 8), (decide (f 12 4 ≤ 1000000), 12),
      (f 16 4 == 0 || decide (16 ≤ f 16 4 ∧ f 16 4 ≤ 65536), 16),
      (decide (f 20 2 ≤ 4096), 20), (decide (f 23 1 ≤ 8), 23), (decide (f 24 1 ≤ 1), 24)]
  | 6 => if r.inst = 0xFF then at_ [(decide (f 16 1 ≤ 3), 16)] else none
  | _ =>
    at_ ((List.range 12).flatMap (fun n =>
      let o := 8 + 4 * n
      [(decide (f o 1 ≤ 2), o),
       (f o 1 == 0 || decide (1 ≤ f (o + 1) 1 ∧ f (o + 1) 1 ≤ 3), o + 1),
       (f o 1 == 0 || decide (f (o + 2) 1 ≤ 1), o + 2),
       (f o 1 == 0 || decide (f (o + 3) 1 ≤ 7) || f (o + 3) 1 == 0xFF, o + 3)]))

/-- Check 9 on one record: what it names is present. -/
def checkCapability (im : List Byte) (fu : Fuses) (part : Bool) (r : ImgRec) : Option Nat :=
  let f := fun (o n : Nat) => imgF im (r.off + o) n
  let at_ := fun (l : List (Bool × Nat)) => (firstBad l).map (r.off + ·)
  match r.type with
  | 1 =>
    if part && f 9 1 == 0xFE then none else
    at_ ((List.range 160).map (fun c => (!(bit (f (24 + c / 8) 1) (c % 8)) || decide (c < fu.grade), 24 + c / 8)))
  | 3 =>
    at_ [(f 22 2 == 0 || !fu.reduced, 22),
      ((List.range 8).all (fun s => !bit (f 30 1) s || decide (s < fu.stackN)), 30)]
  | 7 =>
    at_ ((List.range 12).flatMap (fun n =>
      let o := 8 + 4 * n
      [(f o 1 == 0 || decide (n < fu.icpenPorts), o), (f o 1 == 0 || f (o + 2) 1 == 0 || !fu.reduced, o + 2)]))
  | _ => none

/-! ### The records as data -/

def parseInstance (im : List Byte) (o : Nat) : InstanceRec :=
  { modelSlot := imgF im (o + 8) 1
    kind := imgF im (o + 9) 1
    draftFor := imgF im (o + 10) 1
    seamSpan := bit (imgF im (o + 11) 1) 0
    maxSeqs := imgF im (o + 12) 2
    maxBatch := imgF im (o + 14) 2
    microBatches := imgF im (o + 16) 1
    replicaGroup := imgF im (o + 17) 1
    prefillChunk := if imgF im (o + 18) 2 = 0 then 256 else imgF im (o + 18) 2
    coreMap := BitVec.ofNat 192 (imgF im (o + 24) 24) }

def parseRoute (im : List Byte) (o : Nat) : RouteRec :=
  { firstLayer := imgF im (o + 8) 2
    lastLayer := imgF im (o + 10) 2
    ingressIcpen := imgF im (o + 12) 1 == 1
    ingressPort := imgF im (o + 13) 1
    egressIcpen := imgF im (o + 14) 1 == 1
    egressPort := imgF im (o + 15) 1
    exchange := imgF im (o + 16) 1 }

def parseMemPlan (im : List Byte) (o : Nat) : MemPlan :=
  { weightsMib := imgF im (o + 8) 4
    frames := imgF im (o + 12) 4
    farTierMib := imgF im (o + 16) 4
    stagingSlots := imgF im (o + 20) 2
    prefixFrames := imgF im (o + 22) 2
    kvLayers := imgF im (o + 24) 2
    headDim := imgF im (o + 26) 2
    kvHeads := imgF im (o + 28) 1
    kvFormat := imgF im (o + 29) 1
    stackMask := imgF im (o + 30) 1 }

def parseFormat (im : List Byte) (o : Nat) : FormatRec :=
  { defaultCode := imgF im (o + 8) 1
    defaultWide := bit (imgF im (o + 9) 1) 0
    fallbackEnable := bit (imgF im (o + 9) 1) 1
    wideBudget := if imgF im (o + 10) 1 = 0xFF then 25 else imgF im (o + 10) 1
    layers := imgF im (o + 12) 2
    exceptions := (List.range (imgF im (o + 14) 2)).map (fun j =>
      { layer := imgF im (o + 16 + 4 * j) 2, matrix := imgF im (o + 18 + 4 * j) 1
        code := imgF im (o + 19 + 4 * j) 1 }) }

/-- A field that takes its default where it holds 0. -/
def orDefault (v d : Nat) : Nat := if v = 0 then d else v

/-- R52: defaults taken, sample_interval clamped to 64. -/
def parseThreshold (im : List Byte) (o : Nat) : ThresholdRec :=
  { tilePpm := orDefault (imgF im (o + 8) 4) 200
    satPpm := orDefault (imgF im (o + 12) 4) 1000
    digestInterval := orDefault (imgF im (o + 16) 4) 256
    driftBound := orDefault (imgF im (o + 20) 2) 16
    sampleInterval := min 64 (orDefault (imgF im (o + 22) 1) 64)
    outlierLevel := orDefault (imgF im (o + 23) 1) 8
    redundancy := imgF im (o + 24) 1 == 1 }

/-- R53: defaults taken, caps clamped to the part's maximum, the ramp to 200 W/ms. -/
def powerRec (top cap west east ramp deepest margin : Nat) : PowerRec :=
  let c := min top (orDefault cap top)
  { capW := c
    capWestW := min top (orDefault west (c / 2))
    capEastW := min top (orDefault east (c - c / 2))
    rampWMs := min 200 (orDefault ramp 200)
    deepest := orDefault deepest 3
    wakeMarginUs := orDefault margin 10 }

def parsePower (im : List Byte) (top o : Nat) : PowerRec :=
  powerRec top (imgF im (o + 8) 2) (imgF im (o + 10) 2) (imgF im (o + 12) 2) (imgF im (o + 14) 2)
    (imgF im (o + 16) 1) (imgF im (o + 18) 2)

def parsePorts (im : List Byte) (o : Nat) : Map PortRole :=
  (List.range 12).foldl (fun m n => m.put n
    { role := imgF im (o + 8 + 4 * n) 1, maxRev := imgF im (o + 9 + 4 * n) 1
      encrypt := imgF im (o + 10 + 4 * n) 1, peerSlot := imgF im (o + 11 + 4 * n) 1 }) {}

/-- The records of an instance as the image gives them, soft records omitted taking their defaults. -/
def parseInst (im : List Byte) (rs : List ImgRec) (i : Nat) : SealedInst :=
  let off := fun (t : Nat) => (findRec rs t i).map (·.off)
  { inst := ((off 1).map (parseInstance im)).getD {}
    route := (off 2).map (parseRoute im)
    mem := ((off 3).map (parseMemPlan im)).getD {}
    fmt := ((off 4).map (parseFormat im)).getD {}
    thr := ((off 5).map (parseThreshold im)).getD {}
    share := (off 6).map (fun o => imgF im (o + 8) 2) }

/-- The instances that would be sealed, with the partial image's instance replaced (R60, R65, R66). -/
def stage (im : List Byte) (rs : List ImgRec) (cur : SealedImage) (top : Nat) : StagedImage :=
  let flags := imgF im 0x0E 2
  let part := bit flags 0
  let pi := imgF im 0x18 1
  let serial := imgF im 0x10 4
  if part then
    let own := rs.filter (fun r => r.inst == pi)
    let soft := own.all (fun r => !hardType r.type)
    let removed := match findRec own 1 pi with
      | some ir => imgF im (ir.off + 9) 1 == 0xFE
      | none => false
    let new : Option SealedInst :=
      if removed then none
      else if soft then (cur.insts.get pi).map (fun o =>
        let n := parseInst im own pi
        { o with thr := if (findRec own 5 pi).isSome then n.thr else o.thr
                 share := if (findRec own 6 pi).isSome then n.share else o.share })
      else some (parseInst im own pi)
    { isPartial := true, inst := pi, softOnly := soft && !removed, raiseFloor := false, serial := serial
      insts := cur.insts.put pi new, power := cur.power, ports := cur.ports }
  else
    { isPartial := false, inst := 0xFF, softOnly := false, raiseFloor := bit flags 1, serial := serial
      insts := (List.range 16).foldl (fun m i =>
        if (findRec rs 1 i).isSome then m.put i (some (parseInst im rs i)) else m) {}
      power := match findRec rs 6 0xFF with
        | some r => parsePower im top r.off
        | none => powerRec top 0 0 0 0 0 0
      ports := match findRec rs 7 0xFF with
        | some r => parsePorts im r.off
        | none => {} }

/-- Instances present in a set of sealed instances. -/
def present (m : Map (Option SealedInst)) : List (Nat × SealedInst) :=
  (List.range 16).filterMap (fun i => (m.get i).map (fun x => (i, x)))

/-- Check 10: conflicts after the seal (R46, R47, R55, R65, R66). -/
def checkConflict (im : List Byte) (rs : List ImgRec) (cur : SealedImage) (st : StagedImage) : Option Nat :=
  let own := if st.isPartial then rs.filter (fun r => r.inst == st.inst) else rs
  let insts := present st.insts
  let softBad := st.softOnly && (cur.insts.get st.inst).isNone
  let coreBad : Option Nat := own.findSome? (fun r =>
    if r.type != 1 then none else
    if imgF im (r.off + 9) 1 = 0xFE then none else
    (List.range 160).findSome? (fun c =>
      if bit (imgF im (r.off + 24 + c / 8) 1) (c % 8)
        && insts.any (fun p => (decide (p.1 < r.inst) || (st.isPartial && p.1 != r.inst)) && p.2.inst.coreMap.getLsbD c)
      then some (r.off + 24 + c / 8) else none))
  let draftBad : Option Nat := insts.findSome? (fun p =>
    if p.2.inst.kind = 1 ∧ !(insts.any (fun q => q.1 == p.2.inst.draftFor && q.2.inst.kind == 0)) then
      match findRec own 1 p.1 with
      | some r => some (r.off + 10)
      | none => ((own.find? (fun r => r.type == 1)).map (·.off + 9)).orElse (fun _ => some 0)
    else none)
  let routeBad : Option Nat := own.findSome? (fun r =>
    if r.type != 2 then none else
    let bad := fun (o : Nat) => imgF im (r.off + o) 1 == 1 && (st.ports.get (imgF im (r.off + o + 1) 1)).role == 0
    if bad 12 then some (r.off + 13) else if bad 14 then some (r.off + 15) else none)
  let groups := (List.range 12).filter (fun n => (st.ports.get n).role == 1)
  let groupBad : Option Nat := match findRec own 7 0xFF with
    | some r => (groups[7]?).map (fun n => r.off + 8 + 4 * n)
    | none => none
  let seqBad := decide (4096 < (insts.map (fun p => p.2.inst.maxSeqs)).sum)
  let stagBad : Option Nat := own.findSome? (fun r =>
    if r.type != 3 then none else
    match st.insts.get r.inst with
    | some x => if x.mem.stagingSlots = x.inst.maxSeqs then none else some (r.off + 20)
    | none => none)
  if softBad then some 0x018 else
  coreBad.orElse (fun _ => draftBad.orElse (fun _ => routeBad.orElse (fun _ => groupBad.orElse (fun _ =>
    if seqBad then some 0 else stagBad))))

/-- The half of a logical core: 0 West, 1 East (R25). -/
def halfOf (grade c : Nat) : Nat := if c < grade / 2 then 0 else 1

/-- Whether a core map holds cores of both halves. -/
def spansSeam (grade : Nat) (m : BitVec 192) : Bool :=
  (List.range grade).any (fun c => m.getLsbD c && halfOf grade c == 0) &&
  (List.range grade).any (fun c => m.getLsbD c && halfOf grade c == 1)

/-- Check 11: the seam rule (R44). -/
def checkSeam (grade : Nat) (rs : List ImgRec) (st : StagedImage) : Option Nat :=
  rs.findSome? (fun r =>
    if r.type != 1 || (st.isPartial && r.inst != st.inst) then none else
    match st.insts.get r.inst with
    | some x => if spansSeam grade x.inst.coreMap && !x.inst.seamSpan then some (r.off + 11) else none
    | none => none)

/-- Bytes of one KV page frame (R48). -/
def frameBytes (m : MemPlan) : Nat :=
  m.kvLayers * m.kvHeads * ((if m.kvFormat = 0x88 then m.headDim * 32 else m.headDim * 16) + 64)

/-- Bytes of one staging slot (R48). -/
def stagingBytes (m : MemPlan) : Nat := 16 * m.kvLayers * m.kvHeads * m.headDim * 2 * 2

/-- Stacks of a stack mask, in ascending order. -/
def maskStacks (m : Nat) : List Nat := (List.range 8).filter (fun s => bit m s)

/-- What one instance reserves on each of its stacks (R48). -/
def planUse (m : MemPlan) : Nat :=
  let n := (maskStacks m.stackMask).length
  let spread := m.weightsMib * 2 ^ 20 + (m.frames + m.prefixFrames) * frameBytes m + m.stagingSlots * stagingBytes m
  (spread + (n - 1)) / max 1 n + m.stagingSlots * 65536

/-- What every instance together reserves on a stack (R48). -/
def stackUse (insts : Map (Option SealedInst)) (s : Nat) : Nat :=
  ((present insts).map (fun p => if bit p.2.mem.stackMask s then planUse p.2.mem else 0)).sum

/-- Check 12: stack reservations; the offset is R637's. -/
def checkMemory (im : List Byte) (rs : List ImgRec) (st : StagedImage) : Option Nat :=
  match (List.range 8).find? (fun s => decide (40960 * 2 ^ 20 < stackUse st.insts s)) with
  | none => none
  | some s =>
    match rs.find? (fun r => r.type == 3 && (!st.isPartial || r.inst == st.inst) && bit (imgF im (r.off + 30) 1) s) with
    | some r => some (r.off + 30)
    | none => some 0

/-- Check 13: a partial image's records all carry its own instance (R65). -/
def checkScope (rs : List ImgRec) (part : Bool) (pi : Nat) : Option Nat :=
  if part then (rs.find? (fun r => r.inst != pi)).map (·.off + 1) else none

/-- The thirteen checks of Table 2-14, in order: the staged image, or the status and offset of the first failure. -/
def validateImage (im : List Byte) (len : Nat) (fu : Fuses) (owners : List (Nat × BitVec 384)) (floor : Nat)
    (cur : SealedImage) : Except (Nat × Nat) StagedImage :=
  let flags := imgF im 0x0E 2
  let part := bit flags 0
  let pi := imgF im 0x18 1
  let slot := imgF im 0x19 1
  let key := sliceBytes im 0x20 96
  let fail := fun (st : Nat) (o : Option Nat) => (o.map (fun x => (st, x)))
  match (fail 0x03 (checkHeader im len)).orElse (fun _ => fail 0x04 (checkTarget im fu)) with
  | some e => .error e
  | none =>
    if owners.isEmpty then .error (0x05, 0)
    else if !(owners.any (fun h => h.1 == slot && h.2 == Config.sha384 key)) then
      .error (0x06, if owners.any (fun h => h.1 == slot) then 0x020 else 0x019)
    else if !Config.ecdsaVerify key (sliceBytes im 0x80 96) (signedDigest im) then .error (0x07, 0x080)
    else if imgF im 0x10 4 < floor then .error (0x08, 0x010)
    else match walkRecords im (im.length / 8) 0x100 with
      | .error o => .error (0x09, o)
      | .ok rs =>
        if rs.length ≠ imgF im 0x0C 2 then .error (0x09, 0x00C) else
        let own := if part then rs.filter (fun r => r.inst == pi) else rs
        let st := stage im rs cur fu.maxPower
        match (fail 0x09 (checkPresence im rs part pi)).orElse (fun _ =>
          (fail 0x0A (firstRec own (checkRange im part))).orElse (fun _ =>
          (fail 0x0B (firstRec own (checkCapability im fu part))).orElse (fun _ =>
          (fail 0x0C (checkConflict im rs cur st)).orElse (fun _ =>
          (fail 0x0D (checkSeam fu.grade own st)).orElse (fun _ =>
          (fail 0x0E (checkMemory im rs st)).orElse (fun _ =>
          fail 0x0F (checkScope rs part pi))))))) with
        | some e => .error e
        | none => .ok st

end Sys2Proof.Machine
end

