-- ==== Sys2Proof/Machine/Plan.lean ====
section
/-!
DEFINITION. Where things lie: clusters and fabric nodes (01, 10), stack memory and instance plans (11, R316–R320), and
the key-value structures of a plan (12, R342, R343).
-/
namespace Sys2Proof.Machine
open Sys2Proof

/-! ### Clusters and nodes -/

/-- The cluster of the k-th core, clusters taking consecutive numbers (R25). -/
def clusterIn : List Nat → Nat → Nat → Nat × Nat
  | [], c, k => (c, k)
  | n :: r, c, k => if k < n then (c, k) else clusterIn r (c + 1) (k - n)

/-- The reserve core that serves a logical core. -/
def State.reserveOf (s : State) (n : Nat) : Option Nat :=
  (List.range 4).find? (fun r => (s.reserves.get r).core == some n)

/-- Cluster and physical position of a logical core; a reserve core's position is the cluster's last (log entry 2). -/
def State.place (s : State) (n : Nat) : Nat × Nat :=
  match s.reserveOf n with
  | some r => ((s.fuses.reserveCluster[r]?).getD 0, 10)
  | none => clusterIn s.fuses.clusterCount 0 n

def State.clusterOf (s : State) (n : Nat) : Nat := (s.place n).1

/-- Router index of a cluster (R293): 4 × row + column. -/
def routerOf (c : Nat) : Nat := if c < 8 then 4 * (c / 2) + c % 2 else 4 * ((c - 8) / 2) + 2 + c % 2

/-- Node number of a logical core (Table 10-2, R295). -/
def State.coreNode (s : State) (n : Nat) : Nat := 32 * routerOf (s.place n).1 + 4 + (s.place n).2

/-! ### Pedestals and stack addresses -/

def State.updPed (s : State) (p : Nat) (f : Ped → Ped) : State := { s with peds := s.peds.upd p f }

/-- Add to a pedestal's counter, unless PED_CTL.freeze holds it (R337, R368). -/
def State.pedCount (s : State) (p off k : Nat) (wide : Bool) : State :=
  if bit (s.regN (Reg.PED_CTL p)) 0 then s else if wide then s.count64By off k else s.countBy off k

/-- Stack address of a granule: user granules, then the layout reserve (R319, Table 11-3). -/
def granuleAddr (g : Nat) : Nat := if g < 20480 then g * 2 ^ 21 else 0xA01000000 + (g - 20480) * 2 ^ 21

/-- The k-th granule of runs. -/
def runAt : List (Nat × Nat) → Nat → Nat
  | [], _ => 0
  | (g, n) :: r, k => if k < n then g + k else runAt r (k - n)

/-- Stack address of a plan address (R319). -/
def Ped.stackAddr (p : Ped) (inst pa : Nat) : Nat :=
  granuleAddr (runAt (p.plan.get inst) (pa / 2 ^ 21)) + pa % 2 ^ 21

/-- Granules a list of runs holds. -/
def runTotal (rs : List (Nat × Nat)) : Nat := (rs.map (·.2)).sum

/-- Insert a run in ascending order. -/
def insertRun (r : Nat × Nat) : List (Nat × Nat) → List (Nat × Nat)
  | [] => [r]
  | x :: t => if r.1 < x.1 then r :: x :: t else x :: insertRun r t

/-- Grant `need` granules in ascending order from those not in the ascending runs `used`, from granule `g` on. -/
def grantRuns : List (Nat × Nat) → Nat → Nat → List (Nat × Nat)
  | _, _, 0 => []
  | [], g, need => [(g, need)]
  | (u, n) :: r, g, need =>
    if g < u then (if need ≤ u - g then [(g, need)] else (g, u - g) :: grantRuns r (u + n) (need - (u - g)))
    else grantRuns r (max g (u + n)) need

/-- All granted runs of a pedestal, ascending. -/
def Ped.usedRuns (p : Ped) : List (Nat × Nat) := p.plan.cells.foldl (fun acc c => c.2.foldl (fun a r => insertRun r a) acc) []

/-- Bytes at a stack address; a FAILED pedestal's reads are poison (R327). -/
def Ped.poisoned (p : Ped) (a n : Nat) : Bool :=
  p.state == 3 || (List.range (n / 64 + 2)).any (fun k => decide (64 * (a / 64 + k) < a + n) && p.poison.get (a / 64 + k))

/-- Read bytes of a plan that lie in consecutive plan addresses. -/
def Ped.planRead (p : Ped) (inst pa n : Nat) : List Byte := (List.range n).map (fun k => p.mem.get (p.stackAddr inst (pa + k)))

/-- Whether any byte of a plan range reads as poison. -/
def Ped.planPoisoned (p : Ped) (inst pa n : Nat) : Bool :=
  p.state == 3 || (List.range n).any (fun k => p.poison.get (p.stackAddr inst (pa + k) / 64))

/-- Write one byte; a write to a poisoned block replaces the poison (R328). -/
def Ped.writeByte (p : Ped) (a : Nat) (b : Byte) : Ped := { p with mem := p.mem.put a b, poison := p.poison.put (a / 64) false }

/-- Write bytes at consecutive plan addresses. -/
def Ped.planWrite (p : Ped) (inst pa : Nat) (bs : List Byte) : Ped :=
  bs.zipIdx.foldl (fun p x => p.writeByte (p.stackAddr inst (pa + x.2)) x.1) p

/-! ### Plans (R319, R342, R343) -/

def align4k (x : Nat) : Nat := (x + 4095) / 4096 * 4096

/-- The number of (layer, KV head) pairs S. -/
def MemPlan.subs (m : MemPlan) : Nat := m.kvLayers * m.kvHeads

/-- Stacks of the mask, n. -/
def MemPlan.stackList (m : MemPlan) : List Nat := maskStacks m.stackMask

/-- The stack and local index of sub-block j (R342). -/
def MemPlan.stackOf (m : MemPlan) (j : Nat) : Nat × Nat :=
  let n := max 1 m.stackList.length
  ((m.stackList[j % n]?).getD 0, j / n)

/-- A stack's place in the mask. -/
def MemPlan.placeOf (m : MemPlan) (st : Nat) : Nat := (m.stackList.findIdx? (· == st)).getD 0

/-- c_s: sub-blocks of a frame on a stack (R342). -/
def MemPlan.cs (m : MemPlan) (st : Nat) : Nat :=
  let n := max 1 m.stackList.length
  let i := m.placeOf st
  if i < m.subs then (m.subs - i + n - 1) / n else 0

/-- Data bytes of a sub-block (Table 5-5). -/
def MemPlan.subBytes (m : MemPlan) : Nat := if m.kvFormat = 0x88 then 32 * m.headDim else 16 * m.headDim

/-- The region bases of R343 and the plan's end. -/
structure Bases where
  w : Nat := 0
  kd : Nat := 0
  km : Nat := 0
  pd : Nat := 0
  pm : Nat := 0
  st : Nat := 0
  stop : Nat := 0
deriving DecidableEq, Repr, Inhabited

def MemPlan.bases (m : MemPlan) (stk : Nat) : Bases :=
  let n := max 1 m.stackList.length
  let c := m.cs stk
  let w := align4k (m.stagingSlots * 65536)
  let kd := w + align4k ((m.weightsMib * 2 ^ 20 + n - 1) / n)
  let km := kd + align4k (m.frames * c * m.subBytes)
  let pd := km + align4k (m.frames * c * 64)
  let pm := pd + align4k (m.prefixFrames * c * m.subBytes)
  let st := pm + align4k (m.prefixFrames * c * 64)
  { w := w, kd := kd, km := km, pd := pd, pm := pm, st := st, stop := st + m.stagingSlots * c * (64 * m.headDim) }

/-- Granules of a plan on a stack (R319). -/
def MemPlan.granules (m : MemPlan) (stk : Nat) : Nat := ((m.bases stk).stop + 2 ^ 21 - 1) / 2 ^ 21

/-- The MEMPLAN in force for an instance. -/
def State.planOf (s : State) (i : Nat) : MemPlan :=
  match s.img.insts.get i with
  | some x => x.mem
  | none => { stackMask := 0 }

/-- Whether an instance is sealed. -/
def State.hasInst (s : State) (i : Nat) : Bool := (s.img.insts.get i).isSome

/-- Data and metadata plan addresses of sub-block k of a KV frame, or of a prefix frame (Table 12-2). -/
def MemPlan.frameAddr (m : MemPlan) (stk : Nat) (pfx : Bool) (f k : Nat) : Nat × Nat :=
  let b := m.bases stk
  let i := f * m.cs stk + k
  if pfx then (b.pd + i * m.subBytes, b.pm + 64 * i) else (b.kd + i * m.subBytes, b.km + 64 * i)

/-- Plan address of staging part k of sequence slot q (Table 12-2). -/
def MemPlan.partAddr (m : MemPlan) (stk q k : Nat) : Nat := (m.bases stk).st + (q * m.cs stk + k) * (64 * m.headDim)

/-- Key of a sequence slot. -/
def seqKey (i q : Nat) : Nat := 4096 * i + q

/-- Key of a part. -/
def partKey (i q j : Nat) : Nat := 2 ^ 20 * seqKey i q + j

/-- A page-table entry as every stack of the plan holds it (R344, Table 12-3). -/
def State.pte (s : State) (i q pg : Nat) : Nat :=
  let m := s.planOf i
  let st := (m.stackList.head?).getD 0
  leNat ((s.peds.get st).planRead i (65536 * q + 4 * pg) 4)

/-- Kind and frame of an entry. -/
def pteKind (e : Nat) : Nat := bits e 31 30
def pteFrame (e : Nat) : Nat := bits e 27 0

/-- Tag of a look-aside line (R352). -/
def lineTag (i q line : Nat) : Nat := 2 ^ 16 * seqKey i q + line

/-- Write a page-table entry on every stack of the plan, updating walkers that hold its line (R353). -/
def State.writePte (s : State) (i q pg e : Nat) : State :=
  (s.planOf i).stackList.foldl (fun s st =>
    let s := s.updPed st (fun p => p.planWrite i (65536 * q + 4 * pg) (leBytes 4 e))
    if (s.peds.get st).lab.contains (lineTag i q (pg / 16)) then s.pedCount st (Reg.WLK_UPDATE st) 1 false else s) s

end Sys2Proof.Machine
end

