-- ==== Sys2Proof/Machine/Seqs.lean ====
section
/-!
DEFINITION. What sequences, step records and instances share (12, R357; 14, R401, R417–R422; 15, R447): records and
their pending queues, freeing a slot, and stalling an instance.
-/
namespace Sys2Proof.Machine
open Sys2Proof

def State.updSeq (s : State) (i q : Nat) (f : Seq → Seq) : State := { s with seqs := s.seqs.upd (seqKey i q) f }
def State.seq (s : State) (i q : Nat) : Seq := s.seqs.get (seqKey i q)
def State.updInst (s : State) (i : Nat) (f : InstRun → InstRun) : State := { s with insts := s.insts.upd i f }
def State.updRec (s : State) (r : Nat) (f : RecRing → RecRing) : State := { s with recRings := s.recRings.upd r f }

/-- Slots of an instance that are not FREE, in ascending order. -/
def State.slotsOf (s : State) (i : Nat) : List Nat :=
  (s.seqs.cells.filter (fun c => c.1 / 4096 == i && c.2.state != .free)).map (fun c => c.1 % 4096)

/-- Resident sequences: those not FREE and not RETIRING. -/
def State.residents (s : State) (i : Nat) : List Nat := (s.slotsOf i).filter (fun q => (s.seq i q).state != .retiring)

/-- Whether an instance has resident sequences (R62). -/
def State.residentIn (s : State) (i : Nat) : Bool := !(s.residents i).isEmpty

/-- The draft instance of a main instance (R413): the lowest sealed one that names it. -/
def State.draftOf (s : State) (i : Nat) : Option Nat :=
  (List.range 16).find? (fun d => match s.img.insts.get d with
    | some x => x.inst.kind == 1 && x.inst.draftFor == i
    | none => false)

/-- A draft instance's main instance, or the instance itself. -/
def State.mainOf (s : State) (i : Nat) : Nat :=
  match s.img.insts.get i with
  | some x => if x.inst.kind = 1 then x.inst.draftFor else i
  | none => i

/-- Whether an instance is a draft instance. -/
def State.isDraft (s : State) (i : Nat) : Bool :=
  match s.img.insts.get i with
  | some x => x.inst.kind == 1
  | none => false

/-! ### Step records (R417–R420, R447) -/

/-- The 32 bytes of a step record (Table 15-8). -/
def recordBytes (tag status : Nat) (tokens : List Nat) (flags step : Nat) : List Byte :=
  leBytes 8 tag ++ [BitVec.ofNat 8 (status % 16 + 16 * tokens.length), BitVec.ofNat 8 flags] ++
    leBytes 22 (tokens.foldr (fun t acc => acc * 2 ^ 18 + t % 2 ^ 18) 0 + step % 2 ^ 14 * 2 ^ 162)

/-- Sequences of every instance that hold a reserved entry of a ring's queue. -/
def State.heldEntries (s : State) (r : Nat) : Nat :=
  (s.seqs.cells.filter (fun c => c.2.entry && c.2.desc.ring == r)).length

/-- Whether a ring's pending queue has a free entry: 4,096 in all (R420). -/
def State.entryFree (s : State) (r : Nat) : Bool :=
  decide ((s.recRings.get r).queue.length + s.heldEntries r < 4096)

/-- Write a record into a ring's queue in an entry already held. -/
def State.queueRecord (s : State) (r : Nat) (bytes : List Byte) : State :=
  s.updRec r (fun x => { x with queue := x.queue ++ [bytes] })

/-- A sequence's record: it uses the sequence's entry, or waits until an entry frees (R420); `more` takes a new entry. -/
def State.record (s : State) (i q status : Nat) (tokens : List Nat) (flags : Nat) (more : Bool) : State :=
  let x := s.seq i q
  let b := recordBytes x.desc.tag status tokens flags (s.insts.get i).stepsSeal
  let s := s.updSeq i q (fun y => { y with lastStatus := status, recorded := true })
  if x.entry then
    let s := (s.updSeq i q (fun y => { y with entry := false })).queueRecord x.desc.ring b
    if more && s.entryFree x.desc.ring then s.updSeq i q (fun y => { y with entry := true }) else s
  else s.updRec x.desc.ring (fun y => { y with owed := y.owed ++ [b] })

/-- Free entries serve the records that wait for one, and then the sequences without one, in slot order (R420). -/
def State.serveEntries (s : State) (r : Nat) : State :=
  let s := (s.recRings.get r).owed.foldl (fun s b =>
    if s.entryFree r then
      s.updRec r (fun x => { x with queue := x.queue ++ [b], owed := x.owed.drop 1 })
    else s) s
  s.seqs.cells.foldl (fun s c =>
    if !c.2.entry && c.2.state != .free && c.2.state != .retiring && c.2.desc.ring == r && !s.isDraft (c.1 / 4096)
        && s.entryFree r then
      { s with seqs := s.seqs.upd c.1 (fun y => { y with entry := true }) }
    else s) s

/-- EVICTED completions (R401, R425): SCH_EVICTED and 0x5902 with its cause. -/
def State.evictedEvent (s : State) (i q cause : Nat) : State :=
  (s.count Reg.SCH_EVICTED).logLimited 0x5902 i (fun n => [(1, i), (2, q), (1, cause), (4, n)])

/-- LATE completions (R416): SCH_LATE and 0x5904. -/
def State.lateEvent (s : State) (i : Nat) : State :=
  (s.count Reg.SCH_LATE).logLimited 0x5904 i (fun n => [(1, i), (4, n)])

/-! ### Freeing a slot (R357 action 2, R363, R432) -/

/-- Invalidate the look-aside lines of a slot on every stack of its plan (R353). -/
def State.dropLines (s : State) (i q : Nat) : State :=
  (s.planOf i).stackList.foldl (fun s st =>
    let mine := fun (t : Nat) => t / 2 ^ 16 == seqKey i q
    let k := ((s.peds.get st).lab.filter mine).length
    let s := s.updPed st (fun p => { p with lab := p.lab.filter (fun t => !mine t), fetching := p.fetching.filter (fun t => !mine t) })
    if k = 0 then s else s.pedCount st (Reg.WLK_INVAL st) k false) s

/-- The frames a slot holds, as (page, frame), in page order. -/
def State.framesOf (s : State) (i q : Nat) : List (Nat × Nat) :=
  (((s.kvPools.get i).used.cells.filterMap (fun c => match c.2 with
    | some (q', p) => if q' = q then some (p, c.1) else none
    | none => none)).mergeSort (fun a b => decide (a.1 ≤ b.1)))

/-- Return a slot's frames to the free list and clear its entries on every stack. -/
def State.freeFrames (s : State) (i q : Nat) : State :=
  let fs := s.framesOf i q
  let s := fs.foldl (fun s f => s.writePte i q f.1 0) s
  let s := { s with kvPools := s.kvPools.upd i (fun p => { p with
    used := p.used.keep (fun _ v => match v with | some (q', _) => q' != q | none => false)
    pre := p.pre.filter (fun x => x.1 != q) }) }
  s.dropLines i q

/-- The slot's prefix mapping ends (R363). -/
def State.unmapPrefix (s : State) (i q : Nat) : State :=
  let k := (s.kvSeqs.get (seqKey i q)).pfx
  if k = 0xF then s else
  let s := (List.range ((s.kvSeqs.get (seqKey i q)).b / 16)).foldl (fun s pg => s.writePte i q pg 0) s
  { s with prefixes := s.prefixes.upd k (fun x => { x with refs := x.refs - 1 }) }

/-- A slot's parts and key-value state return to FREE. -/
def State.clearKv (s : State) (i q : Nat) : State :=
  { s with kvSeqs := s.kvSeqs.put (seqKey i q) {}
           parts := s.parts.keep (fun k _ => k / 2 ^ 20 != seqKey i q)
           noFrame := s.noFrame.put (seqKey i q) false
           emptyMarks := s.emptyMarks.put (seqKey i q) false
           flushing := s.flushing.keep (fun k _ => k / 2 ^ 20 != seqKey i q)
           spills := s.spills.put (seqKey i q) {} }

/-- One slot of one instance becomes FREE. -/
def State.freeOne (s : State) (i q : Nat) : State :=
  let s := ((s.unmapPrefix i q).freeFrames i q).clearKv i q
  { s with seqs := s.seqs.put (seqKey i q) {} }

/-- A sequence's frames are freed and its slot, and its draft slot, become FREE (R357 action 2, R363, R432). -/
def State.freeSeq (s : State) (i q : Nat) : State :=
  let x := s.seq i q
  let s := if x.desc.mask = 3 then
    { s with grammars := s.grammars.upd x.desc.grammar (fun g => { g with refs := g.refs - 1 }) } else s
  let s := match x.draftSlot, s.draftOf i with
    | some dq, some d => s.freeOne d dq
    | _, _ => s
  (s.freeOne i q).serveEntries x.desc.ring

/-! ### Stalls (R422) -/

/-- An instance stalls: every resident sequence of it and of its draft completes EVICTED at once, its frames are freed, and
its draft steps are over. `who` is a logical core or a pedestal. -/
def State.stall (s : State) (i cause who : Nat) : State :=
  let s := (s.residents i).foldl (fun s q =>
    if s.isDraft i then s.freeOne i q
    else ((s.record i q 0x06 [] 0 false).evictedEvent i q 1).freeSeq i q) s
  let s := if s.isDraft i then { s with seqs := s.seqs.mapVals (fun k x =>
      if k / 4096 = s.mainOf i ∧ x.draftSlot.isSome then { x with draftSlot := none, desc := { x.desc with draft := false } } else x) }
    else s
  let ds : List Nat := match s.draftOf i with
    | some d => s.slotsOf d
    | none => []
  let s := ds.foldl (fun (s : State) q => s.freeOne ((s.draftOf i).getD 16) q) s
  let step := (s.insts.get i).stepsSeal
  let s := match s.draftOf i with
    | some d => s.updInst d (fun x => if x.draftStep = 0 then x else
        { x with draftStep := 0, state := if x.state = 3 then 3 else 0, ents := [], rows := [], ended := false })
    | none => s
  let s := s.updInst i (fun x => { x with state := 3, stallCause := cause, ents := [], rows := [], ended := false })
  let s := { s with smpRows := s.smpRows.keep (fun k _ => k / 4096 != i) }
  s.logEvent 0x4901 [(1, i), (1, cause), (1, who), (8, step)]

/-- An instance stalls unless it is not sealed, is stalled already, or its step's last record is registered (R422). -/
def State.stallIf (s : State) (i cause who : Nat) : State :=
  if s.hasInst i && (s.insts.get i).state != 3 && !(s.insts.get i).ended then s.stall i cause who else s

/-- A core thread has become FAULTED, or a dispatch of the core has completed SE_FAULT: its instance stalls (R422). -/
def State.faultStall (s : State) (n cause who : Nat) : State :=
  match (s.cores.get n).inst with
  | some i => s.stallIf i cause who
  | none => s

end Sys2Proof.Machine
end

