-- ==== Sys2Proof/Machine/Store.lean ====
section
/-!
DEFINITION. What the security block keeps and others read (21, R600, R602, R607, R610): the owner slots, the debug scopes
and the security store.
-/
namespace Sys2Proof.Machine
open Sys2Proof

/-! ### Owner slots (R600, R602) -/

/-- The fuse bank that holds the committed enrolment. -/
def State.ownerBank (s : State) : Option Nat := (List.range 2).find? (fun b => (s.sec.banks.get b).commit)

/-- A bank is spent: its commit fuse is unblown and some slot fuse is blown (R600). -/
def OwnerBank.spent (b : OwnerBank) : Bool := !b.commit && b.blown

/-- SEC_STAT.enrol: 0 not enrolled, 1 enrolled, 2 fuses exhausted. -/
def State.enrolState (s : State) : Nat :=
  if s.ownerBank.isSome then 1
  else if (s.sec.banks.get 0).spent && (s.sec.banks.get 1).spent then 2 else 0

/-- Slots with a valid fuse in the committed bank. -/
def State.ownerValid (s : State) : List Nat :=
  match s.ownerBank with
  | some b => (List.range 4).filter (fun k => bit (s.sec.banks.get b).valid k)
  | none => []

/-- The hash of an owner slot; 0 when no bank is committed. -/
def State.ownerHash (s : State) (k : Nat) : BitVec 384 :=
  match s.ownerBank with
  | some b => (s.sec.banks.get b).hashes.get k
  | none => 0

/-- Valid, unrevoked slots with their key hashes. -/
def State.ownerKeys (s : State) : List (Nat × BitVec 384) :=
  (s.ownerValid.filter (fun k => !bit s.sec.revoked k)).map (fun k => (k, s.ownerHash k))

/-! ### Debug (R607) -/

/-- Debug is open, or its scope has been granted while it is locked. -/
def State.debugOpen (s : State) (scope : Nat) : Bool := !s.sec.locked || bit s.sec.scopes scope

/-! ### The security store (R610) -/

/-- Records: 0 the certificate chain, 1 ARM_FLOOR, 2 + n the adopted hash of port n. -/
def storeAdopted (n : Nat) : Nat := 2 + n

/-- The copy in force: the valid one with the higher sequence. -/
def StoreRec.value (r : StoreRec) : Option Nat :=
  match r.okA, r.okB with
  | true, true => some (if r.seqA < r.seqB then r.valB else r.valA)
  | true, false => some r.valA
  | false, true => some r.valB
  | false, false => none

def State.storeValue (s : State) (r : Nat) : Option Nat := (s.sec.store.get r).value

/-- A write replaces the copy with the lower sequence; a copy that is not valid is replaced first. -/
def StoreRec.write (r : StoreRec) (v : Nat) : StoreRec :=
  let n := max r.seqA r.seqB + 1
  if !r.okA || (r.okB && decide (r.seqA ≤ r.seqB)) then { r with seqA := n, valA := v, okA := true }
  else { r with seqB := n, valB := v, okB := true }

/-- Begin a record's write. -/
def State.storeWrite (s : State) (r v : Nat) : State := { s with sec := { s.sec with writes := s.sec.writes ++ [(r, v)] } }

/-- The oldest write of a record is verified and counts as written (R610). A write that fails its verification is made
again (log entry 43). -/
def State.storeWritten (s : State) (r : Nat) (ok : Bool) : State :=
  match s.sec.writes.find? (fun w => w.1 == r) with
  | some (_, v) =>
    if ok then { s with sec := { s.sec with
      store := s.sec.store.upd r (fun x => x.write v), writes := s.sec.writes.erase (r, v) } }
    else s
  | none => s

/-- STORE_WRITE_COMPLETE: a security store record's write is verified (R610). -/
def execStoreWriteComplete (record : Nat) (ok : Bool) (s : State) : Out' := .next (s.storeWritten record ok)

end Sys2Proof.Machine
end

