-- ==== Sys2Proof/Machine/Armature.lean ====
section
/-!
DEFINITION. The armature loader (02, R56–R61): its commands, its fetch and its validation. A shared operation answers the
new state and, where the command completes at once, its status (Table 2-15).
-/
namespace Sys2Proof.Machine
open Sys2Proof

/-- The loader returns to IDLE or reaches STAGED: the ring ARM_LOAD that waits for it completes (Table 16-7). -/
def State.armFinish (s : State) : State := s.finish 0x01 0 s.arm.lastStatus

/-- The loader drops its copy and returns to IDLE. -/
def State.armIdle (s : State) : State :=
  { s with arm := { s.arm with state := .idle, image := [], staged := {} } }

/-- A command from a port that is not the owner while the loader is not IDLE is ignored (R56). -/
def State.armForeign (s : State) (port : Port) : Bool :=
  s.arm.state != .idle && s.arm.owner != s.actsAs port

def State.armNotOwner (s : State) (port : Port) (cmd : Nat) : State × Option Nat :=
  (s.logEvent 0x6F04 [(1, cmd), (1, s.actsAs port)], some 0xF3)

/-- A command not valid in the current state sets last_status to STATE and changes nothing else (R56). -/
def State.armBadState (s : State) : State × Option Nat :=
  ({ s with arm := { s.arm with lastStatus := 0x11 } }, some 0x11)

/-- ARM_LEN is valid: a multiple of 8 in 256 B–16 MiB (Table 2-13). -/
def armLenOk (len : Nat) : Bool := len % 8 == 0 && decide (256 ≤ len ∧ len ≤ 2 ^ 24)

/-- LOAD (R56–R58, Table 2-13). -/
def State.armLoad (s : State) (port : Port) : State × Option Nat :=
  if s.armForeign port then s.armNotOwner port 1
  else if s.arm.state ≠ .idle ∨ s.pwr.dawn < 6 then s.armBadState
  else
    let len := s.regN Reg.ARM_LEN
    let src := s.reg64 Reg.ARM_SRC_LO / 8 * 8
    if armLenOk len then
      let s := { s with arm := { s.arm with
        state := .loading, owner := s.actsAs port, src := src, len := len, errOff := 0, image := [], staged := {} } }
      (s.emit (.hostRead (s.actsAs port) src len), none)
    else
      let s := { s with arm := { s.arm with lastStatus := 0x01, errOff := 0 } }
      (s.logEvent 0x6F01 [(1, 0x01), (4, 0)], some 0x01)

/-- DISCARD (Table 2-13). -/
def State.armDiscard (s : State) (port : Port) : State × Option Nat :=
  if s.armForeign port then s.armNotOwner port 3
  else match s.arm.state with
    | .idle => s.armBadState
    | .sealing => s.armBadState
    | _ =>
      let s := { s with arm := { s.arm with lastStatus := 0x12 } }.armIdle
      (s.armFinish, some 0x12)

/-- The instances that a seal of the staged image affects (R62). -/
def State.armAffected (s : State) : List Nat :=
  if s.arm.staged.isPartial then [s.arm.staged.inst]
  else (List.range 16).filter (fun i => (s.img.insts.get i).isSome || (s.arm.staged.insts.get i).isSome)

/-- SEAL (R62, R66, Table 2-13). -/
def State.armSeal (s : State) (port : Port) : State × Option Nat :=
  if s.armForeign port then s.armNotOwner port 2
  else if s.arm.state ≠ .staged then s.armBadState
  else
    let aff := s.armAffected
    let soft := s.arm.staged.softOnly
    if !soft && aff.any (fun i => s.residentIn i) then
      ({ s with arm := { s.arm with lastStatus := 0x10 } }, some 0x10)
    else
      let held := if soft then s.heldSeal else s.heldSeal.updAll aff (fun _ _ => true)
      ({ s with arm := { s.arm with state := .sealing }, heldSeal := held }, none)

/-- A fetch that fails (Table 2-13, R60). -/
def State.armFetchFail (s : State) : State :=
  if s.arm.state = .loading then
    let s := { s with arm := { s.arm with lastStatus := 0x02, errOff := 0 } }.armIdle
    (s.logEvent 0x6F01 [(1, 0x02), (4, 0)]).armFinish
  else s

/-- The owner port's link is lost before SEALING (Table 2-13, R58). -/
def State.armLinkLost (s : State) (p : Nat) : State :=
  if s.arm.owner = p ∧ s.arm.state ≠ .idle ∧ s.arm.state ≠ .sealing then
    (s.armIdle.logEvent 0x6F03 [(1, p)]).armFinish
  else s

/-- The last byte of the image is received (Table 2-13). The copy is what every check runs on (R58). -/
def State.armFetched (s : State) (image : List Byte) : State :=
  if s.arm.state = .loading ∧ image.length = s.arm.len then
    { s with arm := { s.arm with state := .validating, image := image } }
  else s

/-- The event of a failed check (R60). -/
def State.armRejectEvent (s : State) (st off : Nat) : State :=
  let keySlot := imgF s.arm.image 0x19 1
  let serial := imgF s.arm.image 0x10 4
  if st = 0x05 then s.logEvent 0x7F01 [(1, 0), (1, keySlot)]
  else if st = 0x06 then s.logEvent 0x7F01 [(1, 1), (1, keySlot)]
  else if st = 0x07 then s.logEvent 0x7F01 [(1, 2), (1, keySlot)]
  else if st = 0x08 then s.logEvent 0x7F02 [(4, serial), (4, s.armFloor)]
  else s.logEvent 0x6F01 [(1, st), (4, off)]

/-- Validation ends (R60, Table 2-13): the image is staged, or rejected with the first failing check's status. -/
def State.armValidated (s : State) : State :=
  if s.arm.state ≠ .validating then s else
  match validateImage s.arm.image s.arm.len s.fuses s.ownerKeys s.armFloor s.img with
  | .ok st =>
    let s := { s with arm := { s.arm with state := .staged, lastStatus := 0x00, staged := st } }
    (s.logEvent 0x1F01 [(4, st.serial)]).armFinish
  | .error (st, off) =>
    let s := s.armRejectEvent st off
    { s with arm := { s.arm with lastStatus := st, errOff := off } }.armIdle.armFinish

/-- LOAD (R57). -/
def execArmLoad (port : Port) (s : State) : Out' := .next (s.armLoad port).1

/-- SEAL (R57, R62). -/
def execArmSeal (port : Port) (s : State) : Out' := .next (s.armSeal port).1

/-- DISCARD (R57). -/
def execArmDiscard (port : Port) (s : State) : Out' := .next (s.armDiscard port).1

/-- The last byte of the image is received (R57). -/
def execImageFetchComplete (image : List Byte) (s : State) : Out' := .next (s.armFetched image)

/-- An image read returns a completion error (R57). -/
def execImageFetchError (s : State) : Out' := .next s.armFetchFail

/-- The 100 ms fetch timeout expires (R57). -/
def execImageFetchTimeout (s : State) : Out' := .next s.armFetchFail

/-- Validation ends (R60). -/
def execValidationComplete (s : State) : Out' := .next s.armValidated

end Sys2Proof.Machine
end

