-- ==== Sys2Proof/Machine/Fabric.lean ====
section
/-!
DEFINITION. The fabric (10): routes, injection, link protection, retirement, and the commands of its links and timers.
-/
namespace Sys2Proof.Machine
open Sys2Proof

/-- Add to a fabric counter, unless FAB_CTL.freeze holds it (R314). -/
def State.fabCount (s : State) (off k : Nat) (wide : Bool) : State :=
  if bit (s.regN Reg.FAB_CTL) 0 then s else if wide then s.count64By off k else s.countBy off k

/-! ### Nodes, links and routes (R293, R295, R298) -/

def nodeRouter (n : Nat) : Nat := n / 32
def nodePort (n : Nat) : Nat := n % 32

/-- A stack port's node (Table 10-3). -/
def stackNode (st : Nat) : Nat := if st < 4 then 32 * (4 * st) + 19 else 32 * (4 * (st - 4) + 3) + 19

/-- A cluster memory's node: its first port. -/
def clusterNode (c : Nat) : Nat := 32 * routerOf c + 15

/-- An Icpen port's node (Table 10-3, in the order listed for the router). -/
def icpenNode (p : Nat) : Nat :=
  ([0 * 32 + 20, 1 * 32 + 20, 12 * 32 + 20, 13 * 32 + 19, 4 * 32 + 20, 8 * 32 + 20,
    3 * 32 + 20, 2 * 32 + 20, 15 * 32 + 20, 14 * 32 + 19, 7 * 32 + 20, 11 * 32 + 20][p]?).getD 0

/-- A sampler unit's node. -/
def samplerNode (u : Nat) : Nat := ([13 * 32 + 20, 12 * 32 + 21, 14 * 32 + 20, 15 * 32 + 21][u]?).getD 0

/-- A PCIe port's node, where far-tier traffic goes. -/
def hostNode (p : Nat) : Nat := if p = 0 then 1 * 32 + 19 else 2 * 32 + 19

/-- The routers a message passes, row first then column (R298), with `fuel` steps. -/
def routeFrom : Nat → Nat → Nat → List Nat
  | 0, r, _ => [r]
  | n + 1, r, d =>
    if r = d then [r]
    else if r % 4 < d % 4 then r :: routeFrom n (r + 1) d
    else if d % 4 < r % 4 then r :: routeFrom n (r - 1) d
    else if r < d then r :: routeFrom n (r + 4) d
    else r :: routeFrom n (r - 4) d

def routeOf (a b : Nat) : List Nat := routeFrom 6 a b

/-- The input port at which router `b` receives from its neighbour `a`: 0 north, 1 east, 2 south, 3 west. -/
def inPort (a b : Nat) : Nat :=
  if a + 4 = b then 0 else if a = b + 1 then 1 else if a = b + 4 then 2 else 3

/-- The router at the far end of a link port of a router, when the port has a link. -/
def neighbour (r p : Nat) : Option Nat :=
  match p with
  | 0 => if 4 ≤ r then some (r - 4) else none
  | 1 => if r % 4 < 3 then some (r + 1) else none
  | 2 => if r < 12 then some (r + 4) else none
  | 3 => if r % 4 ≠ 0 then some (r - 1) else none
  | _ => none

def laneKey (r net p : Nat) : Nat := 64 * r + 32 * net + p

/-- Pairs of consecutive routers of a route. -/
def hops : List Nat → List (Nat × Nat)
  | a :: b :: r => (a, b) :: hops (b :: r)
  | _ => []

/-- Whether a network's route between two routers passes a retired slice. -/
def State.routeSlice (s : State) (net a b : Nat) : Bool := (routeOf a b).any (fun r => s.slices.get (2 * r + net))

/-- Whether a network's route between two routers passes a retired element (R309). -/
def State.routeBad (s : State) (net a b : Nat) : Bool :=
  s.routeSlice net a b || (hops (routeOf a b)).any (fun h => (s.lanes.get (laneKey h.2 net (inPort h.1 h.2))).retired)

/-- The network of a source and destination (R298). -/
def netOf (src dst : Nat) : Nat :=
  let g := fun (n : Nat) => nodeRouter n / 4 + nodeRouter n % 4 + nodePort n
  (g src + g dst) % 2

/-! ### Injection (R296, R298, R308, R309) -/

/-- A request is injected. On a pair whose routes on both networks pass a retired element it is not: the second result
is false and the operation completes REMOTE_FAULT (R309). -/
def State.inject (s : State) (body : MsgBody) (src dst : Nat) : State × Bool :=
  let a := nodeRouter src
  let b := nodeRouter dst
  if s.routeBad 0 a b && s.routeBad 1 a b then
    let s := s.fabCount Reg.FAB_FAILED 1 false
    if s.unreachable.get (16 * a + b) then (s, false)
    else (({ s with unreachable := s.unreachable.put (16 * a + b) true }).logEvent 0x4602 [(1, a), (1, b)], false)
  else
    let net := netOf src dst
    let net := if s.routeSlice net a b then 1 - net else net
    let m : FabMsg := { id := s.nextMsg, body := body, src := src, dst := dst, net := net }
    ({ s with msgs := s.msgs ++ [m], nextMsg := s.nextMsg + 1 }, true)

/-- A request that has no response yet. -/
def State.msg (s : State) (id : Nat) : Option FabMsg := s.msgs.find? (fun m => m.id == id)

def State.updMsg (s : State) (id : Nat) (f : FabMsg → FabMsg) : State :=
  { s with msgs := s.msgs.map (fun m => if m.id == id then f m else m) }

def State.dropMsg (s : State) (id : Nat) : State := { s with msgs := s.msgs.filter (fun m => m.id != id) }

/-- A destination answers a request; the answer is sent (R296). -/
def State.respond (s : State) (id : Nat) (r : MsgResp) : State :=
  let k : FabKind := match r with
    | .ack => .ack
    | .data _ => .data
    | .nackRetry => .nack
    | .nackFault => .nack
  (s.updMsg id (fun m => { m with resp := some r })).emit (.fabric k [id])

/-- A copy of a request that has been delivered already is a duplicate: dropped, and its response sent again (R300). -/
def State.duplicate (s : State) (m : FabMsg) (r : MsgResp) : State :=
  (s.fabCount Reg.FAB_DUPLICATE 1 false).respond m.id r

/-! ### Lanes and slices (R304–R309) -/

/-- The lane is marked retired at both ends; a router whose every lane of a network is retired loses its slice there. -/
def State.retireSlice (s : State) (r net cause : Nat) : State :=
  if s.slices.get (2 * r + net) then s else
  let s := { s with slices := s.slices.put (2 * r + net) true }
  let lost := s.msgs.filter (fun m => m.net == net && m.resp.isNone && (routeOf (nodeRouter m.src) (nodeRouter m.dst)).contains r)
  let s := lost.foldl (fun s m =>
    (s.fabCount Reg.FAB_RESENT 1 false).updMsg m.id (fun x => { x with net := 1 - net })) s
  s.logEvent 0x3602 [(1, r), (1, net), (1, cause)]

def State.allLanesRetired (s : State) (r net : Nat) : Bool :=
  (List.range 4).all (fun p => (neighbour r p).isNone || (s.lanes.get (laneKey r net p)).retired)

/-- Retire a lane: the receiver at router r, network net, port p (R307). Cause 0 replay limit, 1 liveness. -/
def State.retireLane (s : State) (r net p cause : Nat) : State :=
  match neighbour r p with
  | none => s
  | some o =>
    if (s.lanes.get (laneKey r net p)).retired then s else
    let mark := fun (x : Lane) => { x with retired := true }
    let s := { s with lanes := (s.lanes.upd (laneKey r net p) mark).upd (laneKey o net (inPort r o)) mark }
    let s := s.logEvent 0x3601 [(1, r), (1, net), (1, p), (1, cause)]
    let s := if s.allLanesRetired r net then s.retireSlice r net 0 else s
    if s.allLanesRetired o net then s.retireSlice o net 0 else s

/-- Resends of the slice that sends towards router r's port p (R304). -/
def State.resends (s : State) (r net p k : Nat) : State :=
  match neighbour r p with
  | none => s
  | some o =>
    let s := s.fabCount (Reg.FAB_RT_REPLAY o net) k false
    s.logLimitedFor (10 ^ 9) 0x2601 (2 * o + net) k (fun n => [(1, o), (1, net), (1, inPort r o), (4, n)])

/-- A kind value that Table 10-5 does not list is a parity failure (R296). -/
def kindKnown (k : Nat) : Bool := k ≤ 4 || k == 8 || k == 9 || k == 0xA

/-- A receiver takes a flit (R304): in order and good, it is forwarded; otherwise it is refused with NAK, and the sender
resends `resent` flits. -/
def State.flit (s : State) (r net p num : Nat) (good : Bool) (kind resent age : Nat) : State :=
  let l := s.lanes.get (laneKey r net p)
  if (neighbour r p).isNone || l.retired || s.slices.get (2 * r + net) then s
  else if good && kindKnown kind then
    if num % 128 = l.expect then
      let s := { s with lanes := s.lanes.put (laneKey r net p) { l with expect := (l.expect + 1) % 128, fails := 0 } }
      let s := s.fabCount (Reg.FAB_RT_FLITS r net) 1 true
      let s := if bit (s.regN Reg.FAB_CTL) 0 then s else s.regMax (Reg.FAB_RT_MAXWAIT r net) (min age 8191)
      s.emit (.fabric .ack [r, net, p, l.expect])
    else s
  else
    let s := { s with lanes := s.lanes.put (laneKey r net p) { l with fails := l.fails + 1 } }
    let s := s.emit (.fabric .nack [r, net, p, l.expect])
    if 8 ≤ l.fails + 1 then s.retireLane r net p 0 else s.resends r net p (max 1 resent)

/-- FABRIC_FLIT (R304). -/
def execFabricFlit (router net port num : Nat) (good : Bool) (kind resent age : Nat) (s : State) : Out' :=
  .next (s.flit router net port num good kind resent age)

/-- No acknowledgement for 256 cycles: the sender at `router` resends from its first unacknowledged flit (R304). -/
def execLinkAckTimeout (router net port resent : Nat) (s : State) : Out' :=
  .next (match neighbour router port with
    | none => s
    | some o => if (s.lanes.get (laneKey router net port)).retired then s else s.resends o net (inPort router o) (max 1 resent))

/-- Whether a half is gated or waking (R305, R313): its domain is not in Noon. The halves are domains 16 and 17. -/
def State.halfGated (s : State) (half : Nat) : Bool := (s.domains.get (16 + half)).state != 0 || (s.domains.get (16 + half)).waking

/-- A receiver has taken no flit for 1,024 cycles (R305): its lane is retired, unless the far side is gated or waking. -/
def execLinkLivenessTimeout (router net port : Nat) (s : State) : Out' :=
  .next (match neighbour router port with
    | none => s
    | some o => if s.halfGated (if o % 4 < 2 then 0 else 1) then s else s.retireLane router net port 1)

/-- A lane with nothing to send carries an idle flit (R305). -/
def execIdleFlitTimer (router net port : Nat) (s : State) : Out' :=
  .next (match neighbour router port with
    | none => s
    | some _ => if (s.lanes.get (laneKey router net port)).retired then s else s.emit (.fabric .idle [router, net, port]))

/-- A message's age reaches 4,096: it becomes urgent, counted in the slice where it waits (R302). It is taken to wait at
its source's router (log entry 16). -/
def execUrgencyPromotion (msg : Nat) (s : State) : Out' :=
  .next (match s.msg msg with
    | some m => if m.urgent then s
      else (s.updMsg msg (fun x => { x with urgent := true })).fabCount (Reg.FAB_RT_URGENT (nodeRouter m.src) m.net) 1 false
    | none => s)

end Sys2Proof.Machine
end

