-- ==== Sys2Proof/Machine/Fp.lean ====
section
/-!
DEFINITION. BF16 and FP32 (05, R146, R147): exact values as sign, magnitude and power of two, and one rounding to a
destination format, to nearest with ties to even. Subnormal operands read as zero of the same sign and subnormal
results are written so; a result beyond the largest finite value is clamped to it; no operation makes an infinity.
-/
namespace Sys2Proof

/-- An exact value: NaN, or (−1)^neg · mag · 2^exp. An infinite operand is taken as the largest finite value of its
format with its sign (R145, log entry 13). -/
inductive Fp where
  | nan
  | fin (neg : Bool) (mag : Nat) (exp : Int)
deriving DecidableEq, Repr, Inhabited

/-- A format: fraction bits; both formats have 8 exponent bits with bias 127 (Table 5-3). -/
inductive FFmt where
  | bf16 | fp32
deriving DecidableEq, Repr, Inhabited

def FFmt.frac : FFmt → Nat
  | .bf16 => 7
  | .fp32 => 23

/-- Bytes of an element. -/
def FFmt.size : FFmt → Nat
  | .bf16 => 2
  | .fp32 => 4

/-- The canonical NaN (Table 5-3). -/
def FFmt.nanBits : FFmt → Nat
  | .bf16 => 0x7FC0
  | .fp32 => 0x7FC00000

/-- The largest finite value's bits (Table 5-3). -/
def FFmt.maxBits : FFmt → Nat
  | .bf16 => 0x7F7F
  | .fp32 => 0x7F7FFFFF

/-- Bits to the exact value. -/
def FFmt.dec (f : FFmt) (x : Nat) : Fp :=
  let p := f.frac
  let neg := bit x (p + 8)
  let e := bits x (p + 7) p
  let m := x % 2 ^ p
  if e = 255 then (if m = 0 then .fin neg (2 ^ (p + 1) - 1) (127 - p) else .nan)
  else if e = 0 then .fin neg 0 0
  else .fin neg (2 ^ p + m) ((e : Int) - 127 - p)

/-- How many bits a magnitude has. -/
def bitLen (n : Nat) : Nat := if n = 0 then 0 else n.log2 + 1

/-- A magnitude shifted right with rounding to nearest, ties to even. -/
def shiftRne (m s : Nat) : Nat :=
  if s = 0 then m else
  let q := m / 2 ^ s
  let r := m % 2 ^ s
  let h := 2 ^ (s - 1)
  if r < h then q else if h < r then q + 1 else if q % 2 = 0 then q else q + 1

/-- A rounded result: its bits, and whether it was clamped. -/
structure Rounded where
  bits : Nat := 0
  sat : Bool := false
deriving DecidableEq, Repr, Inhabited

/-- Round an exact value once to a format (R146, R147). -/
def FFmt.enc (f : FFmt) : Fp → Rounded
  | .nan => { bits := f.nanBits }
  | .fin neg m e =>
    let p := f.frac
    let s := if neg then 2 ^ (p + 8) else 0
    if m = 0 then { bits := s } else
    let l := bitLen m
    let m1 := if l ≤ p + 1 then m * 2 ^ (p + 1 - l) else shiftRne m (l - (p + 1))
    let e1 : Int := e + ((l : Int) - (p + 1))
    let (m2, e2) : Nat × Int := if m1 = 2 ^ (p + 1) then (2 ^ p, e1 + 1) else (m1, e1)
    let be : Int := e2 + p + 127
    if be ≤ 0 then { bits := s }
    else if 254 < be then { bits := s + f.maxBits, sat := true }
    else { bits := s + be.toNat * 2 ^ p + (m2 - 2 ^ p) }

/-- Whether a value is zero. -/
def Fp.isZero : Fp → Bool
  | .nan => false
  | .fin _ m _ => m == 0

def Fp.isNan : Fp → Bool
  | .nan => true
  | _ => false

/-- An integer as an exact value. -/
def Fp.ofInt (i : Int) : Fp := .fin (decide (i < 0)) i.natAbs 0

def Fp.neg : Fp → Fp
  | .nan => .nan
  | .fin n m e => .fin (!n) m e

/-- Exact product. -/
def Fp.mul : Fp → Fp → Fp
  | .fin n m e, .fin n' m' e' => .fin (n != n') (m * m') (e + e')
  | _, _ => .nan

/-- The signed mantissas of two values at their smaller exponent. -/
def alignFp (n : Bool) (m : Nat) (e : Int) (lo : Int) : Int :=
  let v : Int := (m * 2 ^ (e - lo).toNat : Nat)
  if n then -v else v

/-- Exact sum. A zero sum of zeros keeps a common sign; any other zero sum is +0. -/
def Fp.add : Fp → Fp → Fp
  | .fin n m e, .fin n' m' e' =>
    if m = 0 ∧ m' = 0 then .fin (n && n') 0 0
    else
      let lo := min e e'
      let v := alignFp n m e lo + alignFp n' m' e' lo
      .fin (decide (v < 0)) v.natAbs lo
  | _, _ => .nan

def Fp.sub (a b : Fp) : Fp := a.add b.neg

/-- a < b on values that are not NaN; zeros are equal. -/
def Fp.lt : Fp → Fp → Bool
  | .fin n m e, .fin n' m' e' =>
    let lo := min e e'
    decide (alignFp n m e lo < alignFp n' m' e' lo)
  | _, _ => false

/-- Magnitude of a value. -/
def Fp.abs : Fp → Fp
  | .nan => .nan
  | .fin _ m e => .fin false m e

/-- The larger of two values. Where both are zeros of different sign the spec names neither: the sign is free. -/
def Fp.max (a b : Fp) : Fp :=
  if a.isNan || b.isNan then .nan
  else if a.isZero && b.isZero && a != b then .fin (Config.free 0 % 2 == 1) 0 0
  else if a.lt b then b else a

def Fp.min (a b : Fp) : Fp :=
  if a.isNan || b.isNan then .nan
  else if a.isZero && b.isZero && a != b then .fin (Config.free 1 % 2 == 1) 0 0
  else if b.lt a then b else a

/-- Round a value to the nearest integer, ties to even; NaN has none. -/
def Fp.toInt : Fp → Option Int
  | .nan => none
  | .fin n m e =>
    let v := if 0 ≤ e then m * 2 ^ e.toNat else shiftRne m (-e).toNat
    some (if n then -(v : Int) else v)

/-- A value rounded to FP32 and read back: an intermediate of a sum (R167). -/
def Fp.r32 (a : Fp) : Fp := FFmt.fp32.dec (FFmt.fp32.enc a).bits

/-- The pairwise tree of R167: adjacent terms in pairs, a last odd term passing unchanged. -/
def pairLevel (add : Fp → Fp → Fp) : List Fp → List Fp
  | a :: b :: r => add a b :: pairLevel add r
  | l => l

def pairTree (add : Fp → Fp → Fp) : Nat → List Fp → Fp
  | _, [] => .fin false 0 0
  | _, [a] => a
  | 0, a :: _ => a
  | n + 1, l => pairTree add n (pairLevel add l)

/-- The sum of terms in FP32, in the pairwise tree (R167). -/
def sumTree (l : List Fp) : Fp := pairTree (fun a b => (a.add b).r32) 64 l

/-- The largest value of a list. -/
def maxList : List Fp → Fp
  | [] => .fin false 0 0
  | a :: r => r.foldl Fp.max a

/-- An exact quotient to 64 significant bits with a sticky bit: enough for one correct rounding to FP32. -/
def Fp.quot : Fp → Fp → Fp
  | .fin n m e, .fin n' m' e' =>
    if m' = 0 then .nan else
    let k := 64 + bitLen m'
    let q := m * 2 ^ k / m'
    let st := if m * 2 ^ k % m' = 0 then 0 else 1
    .fin (n != n') (2 * q + st) (e - e' - k - 1)
  | _, _ => .nan

/-- A square root to over 64 significant bits with a sticky bit. -/
def Fp.root : Fp → Fp
  | .fin false m e =>
    let k : Nat := 140 + (if (e % 2 = 0) then 0 else 1)
    let v := m * 2 ^ k
    let r := Nat.sqrt v
    let st := if r * r = v then 0 else 1
    .fin false (2 * r + st) ((e - k) / 2 - 1)
  | _ => .nan

/-- A correctly rounded FP32 value moved by at most one unit in the last place, as a free value says: the result of an
operation whose bound is 1 ulp_FP32 (Table 5-9). -/
def Fp.within1 (x : Fp) (n : Nat) : Fp :=
  let b := (FFmt.fp32.enc x).bits
  if x.isNan || x.isZero then x
  else FFmt.fp32.dec (if n % 3 = 0 then b else if n % 3 = 1 then b + 1 else b - 1)

/-- A free FP32 value, kept finite (R147). -/
def freeFp (n : Nat) : Fp := FFmt.fp32.dec (n % 2 * 2 ^ 31 + n / 2 % 0x7F800000)

end Sys2Proof
end

