-- ==== Sys2Proof/Machine/Exchange.lean ====
section
/-!
DEFINITION. The activation exchange formats of the Icpen links (05, R153–R155): BF16, FP8 E4M3 blocks and HB4 blocks.
-/
namespace Sys2Proof

/-- The smallest e with c · 2^k · 2^e ≥ v for c = 7/4, clamped to −126 to +127; 0 for a zero v (R154, R155). -/
def blockExp (k : Int) : Fp → Int
  | .nan => 0
  | .fin _ m x =>
    if m = 0 then 0 else
    let l := bitLen m
    let top : Int := (l : Int) - 1 + x
    clampInt (-126) 127 (if 4 * m ≤ 7 * 2 ^ (l - 1) then top - k else top - k + 1)

/-- A power of two as BF16 bits. -/
def pow2Bf16 (e : Int) : Nat := (e + 127).toNat * 128

def scaleDown (v : Fp) (e : Int) : Fp :=
  match v with
  | .nan => .nan
  | .fin n m x => .fin n m (x - e)

/-- A value in E4M3, rounded to nearest even (R154). -/
def toE4M3 : Fp → Nat
  | .nan => 0x7F
  | .fin n m x =>
    let s := if n then 0x80 else 0
    if m = 0 then s else
    let q : Int := max (-9) ((bitLen m : Int) - 1 + x - 3)
    let r := if q ≤ x then m * 2 ^ (x - q).toNat else shiftRne m (q - x).toNat
    s + ((q + 9).toNat * 8 + r) % 128

def ofE4M3 (c : Nat) : Fp :=
  let e := bits c 6 3
  let m := bits c 2 0
  if c % 128 = 127 then .nan
  else if e = 0 then .fin (bit c 7) m (-9)
  else .fin (bit c 7) (8 + m) ((e : Int) - 10)

/-- Magnitudes of BF16 elements, NaN as 0. -/
def mags (xs : List Nat) : List Fp := xs.map (fun x => let v := (FFmt.bf16.dec x).abs; if v.isNan then .fin false 0 0 else v)

def maxFp (vs : List Fp) : Fp := vs.foldl (fun m v => if m.lt v then v else m) (.fin false 0 0)

def encodeFp8 (xs : List Nat) : List Byte :=
  let e := blockExp 8 (maxFp (mags xs))
  leBytes 8 (pow2Bf16 e) ++ xs.map (fun x => BitVec.ofNat 8 (toE4M3 (scaleDown (FFmt.bf16.dec x) e)))

def decodeFp8 (bs : List Byte) : List Nat :=
  let s := FFmt.bf16.dec (leField bs 0 2)
  (bs.drop 8).map (fun b => (FFmt.bf16.enc ((ofE4M3 b.toNat).mul s)).bits)

/-- Two codes to a byte, even index low. -/
def nibbles : List Int → List Byte
  | a :: b :: r => BitVec.ofNat 8 (unsigned 4 a + 16 * unsigned 4 b) :: nibbles r
  | [a] => [BitVec.ofNat 8 (unsigned 4 a)]
  | [] => []

/-- The index of the largest magnitude, lowest on ties. -/
def largestAt (vs : List Fp) : Nat :=
  (vs.zipIdx.foldl (fun (b : Fp × Nat) (v : Fp × Nat) => if b.1.lt v.1 then v else b) (.fin false 0 0, 0)).2

def encodeHb4 (xs : List Nat) : List Byte :=
  if xs.any (fun x => (FFmt.bf16.dec x).isNan) then
    leBytes 2 (pow2Bf16 0) ++ leBytes 2 0x7FC0 ++ List.replicate 36 0
  else
    let vs := mags xs
    let k := largestAt vs
    let e := blockExp 2 (maxFp (vs.eraseIdx k))
    let codes := xs.zipIdx.map (fun (x : Nat × Nat) =>
      if x.2 = k then 0 else ((scaleDown (FFmt.bf16.dec x.1) e).toInt).getD 0)
    leBytes 2 (pow2Bf16 e) ++ leBytes 2 ((xs[k]?).getD 0) ++ leBytes 4 k ++ nibbles codes

def decodeHb4 (bs : List Byte) : List Nat :=
  let s := FFmt.bf16.dec (leField bs 0 2)
  let ex := leField bs 2 2
  let k := bits (leField bs 4 1) 5 0
  if (FFmt.bf16.dec ex).isNan then List.replicate 64 0x7FC0 else
  (List.range 64).map (fun i =>
    if i = k then ex else
    let b := leField bs (8 + i / 2) 1
    (FFmt.bf16.enc ((Fp.ofInt (signed 4 (if i % 2 = 0 then b % 16 else b / 16))).mul s)).bits)

/-- Blocks of `n` elements, the last padded with zeros (R153). -/
def blocksOf (n : Nat) : Nat → List Nat → List (List Nat)
  | 0, _ => []
  | f + 1, xs => if xs.isEmpty then [] else (xs.take n ++ List.replicate (n - xs.length) 0) :: blocksOf n f (xs.drop n)

/-- Encode BF16 elements in exchange format 0, 1 or 2 (Table 5-7). -/
def encodeExchange (fmt : Nat) (xs : List Nat) : List Byte :=
  match fmt with
  | 1 => (blocksOf 128 xs.length xs).flatMap encodeFp8
  | 2 => (blocksOf 64 xs.length xs).flatMap encodeHb4
  | _ => xs.flatMap (leBytes 2)

/-- Pieces of `n` bytes. -/
def piecesOf (n : Nat) : Nat → List Byte → List (List Byte)
  | 0, _ => []
  | f + 1, bs => if bs.isEmpty then [] else bs.take n :: piecesOf n f (bs.drop n)

/-- BF16 elements of little-endian bytes. -/
def bf16Of : List Byte → List Nat
  | a :: b :: r => (a.toNat + 256 * b.toNat) :: bf16Of r
  | _ => []

/-- Decode to BF16 elements, the padding dropped by the decoded length `dec` in bytes (R153). -/
def decodeExchange (fmt dec : Nat) (bs : List Byte) : List Nat :=
  (match fmt with
    | 1 => (piecesOf 136 bs.length bs).flatMap decodeFp8
    | 2 => (piecesOf 40 bs.length bs).flatMap decodeHb4
    | _ => bf16Of bs).take (dec / 2)

end Sys2Proof
end

