-- ==== Sys2Proof/Machine/Icpen.lean ====
section
/-!
DEFINITION. Sending and receiving on the Icpen ports (17, R480–R484, R493–R495): numbered flits, credits, data messages
and what the MOVEs that use them see.
-/
namespace Sys2Proof.Machine
open Sys2Proof

def State.icp (s : State) (n : Nat) : IcpPort := s.icps.get n
def State.updIcp (s : State) (n : Nat) (f : IcpPort → IcpPort) : State := { s with icps := s.icps.upd n f }

/-- The port is ACTIVE or DEGRADED. -/
def IcpPort.up (p : IcpPort) : Bool := p.state == .active || p.state == .degraded

/-- Payload bytes of a flit: 240, or 224 encrypted (Table 17-2). -/
def IcpPort.payload (p : IcpPort) : Nat := if p.encrypted then 224 else 240

/-- Flits of `len` payload bytes. -/
def IcpPort.flitsOf (p : IcpPort) (len : Nat) : Nat := max 1 ((len + p.payload - 1) / p.payload)

/-- A count of flits since the keys took effect, where a change of keys may fall (R491). -/
def keyAdvance (count k : Nat) (switch : Option Nat) : Nat × Option Nat :=
  match switch with
  | some at_ => if at_ ≤ count + k then (count + k - at_, none) else (count + k, switch)
  | none => (count + k, none)

/-- Send `k` numbered flits (R482). -/
def IcpPort.sendFlits (p : IcpPort) (k : Nat) (data : Bool) : IcpPort :=
  let (c, sw) := keyAdvance p.keyTx k p.switchTx
  { p with
    replay := p.replay ++ (List.range k).map (fun j => ((p.txNext + j) % 4096, 1))
    txNext := (p.txNext + k) % 4096
    credits := if data then p.credits - k else p.credits
    keyTx := c, switchTx := sw, nak := if k = 0 then p.nak else false, freed := if k = 0 then p.freed else 0 }

/-- Send as much of what waits as the replay buffer and the credits allow: the port, flits sent, and the fabric requests
whose messages are sent. -/
def IcpPort.pump (p : IcpPort) : List IcpTx → IcpPort × Nat × List Nat
  | [] => ({ p with waiting := [] }, 0, [])
  | t :: r =>
    let room := 1024 - p.replay.length
    let k := min t.flits (if t.data then min room p.credits else room)
    let p' := p.sendFlits k t.data
    if k = t.flits then
      let (q, n, ms) := IcpPort.pump p' r
      (q, n + k, t.msg.toList ++ ms)
    else ({ p' with waiting := { t with flits := t.flits - k } :: r }, k, [])

/-- A port sends what it can. -/
def State.icpPump (s : State) (n : Nat) : State :=
  let (p, k, ms) := (s.icp n).pump (s.icp n).waiting
  let s := { s with icps := s.icps.put n p }.count64By (Reg.ICP_TX_FLITS n) k
  ms.foldl (fun s id => s.respond id .ack) s

/-- Queue a frame: frames go ahead of data messages that wait (R483). -/
def State.icpFrame (s : State) (n : Nat) (kind : IcpKind) (fields : List Nat) (flits : Nat) : State :=
  let s := s.emit (.icpen n kind fields)
  let t : IcpTx := { flits := flits }
  let q := fun (w : List IcpTx) => w.takeWhile (fun t => !t.data) ++ [t] ++ w.dropWhile (fun t => !t.data)
  (s.updIcp n (fun p => { p with waiting := q p.waiting })).icpPump n

/-- Queue a data message (R484). -/
def State.icpMessage (s : State) (n stream op fmt dec : Nat) (bytes : List Byte) (msg : Option Nat) : State :=
  let s := s.emit (.icpen n .data ([stream, op, fmt, dec] ++ bytes.map (·.toNat)))
  let t : IcpTx := { flits := (s.icp n).flitsOf (8 + bytes.length), data := true, msg := msg }
  (s.updIcp n (fun p => { p with waiting := p.waiting ++ [t] })).icpPump n

/-! ### Routes (R493) -/

/-- Exchange format and route of an instance, where it names the port. -/
def State.routeOn (s : State) (i n : Nat) : Option RouteRec :=
  match s.img.insts.get i with
  | some x => x.route.bind (fun r =>
      if (r.ingressIcpen ∧ r.ingressPort = n) ∨ (r.egressIcpen ∧ r.egressPort = n) then some r else none)
  | none => none

/-- An instance's route over a port fails the check of R493. -/
def State.routeFails (s : State) (i n : Nat) : Bool :=
  let p := s.icp n
  match s.routeOn i n with
  | none => false
  | some r => (r.exchange == 1 && (decide (p.peerGen < 2) || decide (p.rev < 2))) ||
      (r.exchange == 2 && (decide (p.peerGen < 3) || decide (p.rev < 3)))

/-- Check every route that names a port (R493). -/
def State.checkRoutes (s : State) (n : Nat) : State :=
  let bad := (List.range 16).filter (fun i => s.routeFails i n)
  let s := s.updIcp n (fun p => { p with routesBad := !bad.isEmpty })
  bad.foldl (fun s i =>
    let x := ((s.routeOn i n).map (·.exchange)).getD 0
    s.logEvent 0x4B03 [(1, i), (1, n), (1, x), (1, (s.icp n).rev)]) s

/-! ### MOVEs over a stream (R494, R495) -/

/-- An outbound MOVE of `bytes`, of operand type `type`, to a port's stream (R494). -/
def State.icpWrite (s : State) (m i type a : Nat) (bytes : List Byte) : State :=
  let n := bits a 59 56
  let op := bits a 55 54
  let stream := bits a 15 0
  if !(s.icp n).up || s.routeFails i n || (op == 1 && type != 0) || (op == 2 && type != 1) then s.respond m .nackFault
  else
    let x := match s.img.insts.get i with
      | some y => (y.route.map (·.exchange)).getD 0
      | none => 0
    let fmt := if type = 0 then x else 3
    let enc := if type = 0 then encodeExchange x (bf16Of bytes) else bytes
    s.icpMessage n stream op fmt bytes.length enc (some m)

/-- A message's decoded bytes. -/
def IcpMsg.plain (x : IcpMsg) : List Byte :=
  if x.fmt = 3 then x.bytes.take x.dec else (decodeExchange x.fmt x.dec x.bytes).flatMap (leBytes 2)

/-- Sums of elements of a format, each rounded once to it (R156, R495). -/
def addElems (f : FFmt) (size : Nat) : Nat → List Byte → List Byte → List Byte
  | 0, _, _ => []
  | k + 1, a, b =>
    if a.isEmpty then [] else
    leBytes size (f.enc ((f.dec (leNat (a.take size))).add (f.dec (leNat (b.take size))))).bits ++
      addElems f size k (a.drop size) (b.drop size)

/-- What an inbound MOVE into a range of this type, holding `old`, gets of a message (R495): none for REMOTE_FAULT. -/
def IcpMsg.into (x : IcpMsg) (type : Nat) (old : List Byte) : Option (List Byte) :=
  let d := x.plain
  if x.dec ≠ old.length ∨ d.length ≠ old.length then none
  else match x.op with
    | 0 => some d
    | 1 => if type = 0 then some (addElems .bf16 2 d.length old d) else none
    | 2 => if type = 1 then some (addElems .fp32 4 d.length old d) else none
    | _ => none

def streamKey (n stream : Nat) : Nat := 2 ^ 16 * n + stream

/-- An inbound MOVE's read reaches its port: it takes the oldest message of its stream, or waits (R495). -/
def State.icpRead (s : State) (m type a : Nat) (old : List Byte) : State :=
  let n := bits a 59 56
  let key := streamKey n (bits a 15 0)
  match (s.icpIn.get key).msgs with
  | x :: r =>
    let s := { s with icpIn := s.icpIn.put key { msgs := r } }
    let s := s.updIcp n (fun p => { p with freed := p.freed + x.flits, held := p.held - x.flits })
    s.respond m (match x.into type old with
      | some bs => .data bs
      | none => .nackFault)
  | [] => if (s.icp n).up then s.updMsg m (fun y => { y with waits := true }) else s.respond m .nackFault

/-- A port's messages queued or partly sent are discarded, and the MOVEs that send or await one complete REMOTE_FAULT
(R487). `waits` are the reads that wait at the port. -/
def State.icpDiscard (s : State) (n : Nat) (waits : List Nat) : State :=
  let ids := (s.icp n).waiting.filterMap (·.msg) ++ waits
  let s := s.updIcp n (fun p => { p with waiting := [], replay := [], txNext := 0, rxNext := 0, nak := false, gap := false
                                         credits := 0, freed := 0 })
  ids.foldl (fun s id => s.respond id .nackFault) s

end Sys2Proof.Machine
end

