-- ==== Sys2Proof/Machine/Cores.lean ====
section
/-!
DEFINITION. What the instructions of cores and stack engines share (07, 08): contexts, operands, the checks of R259 in
ascending code order, issue (R208–R212), retirement and faults.
-/
namespace Sys2Proof.Machine
open Sys2Proof

/-! ### Cores, threads and their registers -/

/-- Change one core. -/
def State.updCore (s : State) (n : Nat) (f : Core → Core) : State := { s with cores := s.cores.upd n f }

/-- The logical cores of a sealed instance, in ascending order (R204). -/
def State.instCores (s : State) (i : Nat) : List Nat :=
  match s.img.insts.get i with
  | some x => (List.range s.fuses.grade).filter (fun c => x.inst.coreMap.getLsbD c)
  | none => []

/-- A core's index in its instance (R204). -/
def State.coreIndex (s : State) (i n : Nat) : Nat := ((s.instCores i).findIdx? (· == n)).getD 0

/-- Add to a core's counters of Table 7-6, unless CORE_CTL.freeze holds them (R226). -/
def State.coreCount (s : State) (n off k : Nat) (wide : Bool) : State :=
  if bit (s.regN (Reg.CORE_CTL n)) 0 then s else if wide then s.count64By off k else s.countBy off k

/-- Key of a stack-engine thread. -/
def engKey (p t : Nat) : Nat := 128 * p + t

/-- The context an instruction executes in. -/
def State.ctx (s : State) : Exec → Thread
  | .core n t => (s.cores.get n).threads.get t
  | .engine p t => (s.engines.get (engKey p t)).ctx

/-- Change the context an instruction executes in. -/
def State.updCtx (s : State) (u : Exec) (f : Thread → Thread) : State :=
  match u with
  | .core n t => s.updCore n (fun c => { c with threads := c.threads.upd t f })
  | .engine p t => { s with engines := s.engines.upd (engKey p t) (fun e => { e with ctx := f e.ctx }) }

/-- Scalar register r. -/
def State.sreg (s : State) (u : Exec) (r : Nat) : W64 := (s.ctx u).s.get r

/-- Write scalar register r. -/
def State.setS (s : State) (u : Exec) (r : Nat) (v : W64) : State :=
  s.updCtx u (fun t => { t with s := t.s.put r v })

/-- Predicate p; p0 reads 1 (R202). -/
def Thread.pred (t : Thread) (p : Nat) : Bool := p == 0 || t.p.getLsbD p

/-- Write predicate p; a write of p0 is ignored (R202). -/
def State.setP (s : State) (u : Exec) (p : Nat) (v : Bool) : State :=
  if p = 0 then s else
  s.updCtx u (fun t => { t with p := (t.p &&& ~~~(BitVec.ofNat 8 (2 ^ p))) ||| (if v then BitVec.ofNat 8 (2 ^ p) else 0) })

/-- Set the program counter (13 bits). -/
def State.setPc (s : State) (u : Exec) (pc : Nat) : State := s.updCtx u (fun t => { t with pc := pc % 8192 })

/-- Instructions in the program a unit runs. -/
def State.progLenOf (s : State) : Exec → Nat
  | .core n _ => (s.cores.get n).progLen
  | .engine p _ => (s.peds.get p).progLen

/-- The memory a unit's operands lie in: the core's scratchpads in the unified layout, or the thread's window. -/
def State.opMem (s : State) : Exec → Memory
  | .core n _ => (s.cores.get n).spm
  | .engine p t => (s.engines.get (engKey p t)).window

/-- Put a unit's operand memory back. -/
def State.setOpMem (s : State) (u : Exec) (m : Memory) : State :=
  match u with
  | .core n _ => s.updCore n (fun c => { c with spm := m })
  | .engine p t => { s with engines := s.engines.upd (engKey p t) (fun e => { e with window := m }) }

/-! ### Operands (R231–R236) -/

/-- Unified byte offset of a core memory's first byte (Table 9-2). -/
def memBase (mem : Nat) : Nat := if mem = 1 then 0x40000 else if mem = 2 then 0x100000 else 0

/-- Bytes of a core memory (Table 9-1). -/
def memSize (mem : Nat) : Nat :=
  if mem = 0 then 0x40000 else if mem = 1 then 0xC0000 else if mem = 2 then 0x80000 else 0x180000

/-- Element size by type (Table 8-4). -/
def typeSize (t : Nat) : Nat := if t = 0 then 2 else if t = 3 then 1 else 4

/-- Bytes an operand's elements take, packed. -/
def Opnd.bytes (o : Opnd) : Nat := o.count * o.rows * typeSize o.type

/-- Elements of an operand. -/
def Opnd.elems (o : Opnd) : Nat := o.count * o.rows

/-- The last byte of an operand (R233). -/
def Opnd.extent (o : Opnd) : Nat := o.base + (o.rows - 1) * o.stride + o.count * typeSize o.type - 1

/-- The declared range of an operand (R210). -/
def Opnd.range (o : Opnd) : Range := { mem := o.mem, first := o.base, last := o.extent }

/-- Address of element k of an operand in its own memory: row by row, in ascending count order; with transpose, each
16 × 16 block transposed in place (R233, R269). -/
def Opnd.addr (o : Opnd) (k : Nat) : Nat :=
  let r := k / max 1 o.count
  let c := k % max 1 o.count
  let (r, c) := if o.transpose then (16 * (r / 16) + c % 16, 16 * (c / 16) + r % 16) else (r, c)
  o.base + r * o.stride + c * typeSize o.type

/-- Element k of an operand, as bits. -/
def memElem (m : Memory) (o : Opnd) (k : Nat) : Nat := leNat (m.bytes (memBase o.mem + o.addr k) (typeSize o.type))

/-- All elements of an operand, in order. -/
def memElems (m : Memory) (o : Opnd) : List Nat := (List.range o.elems).map (memElem m o)

/-- Write the elements of a destination, in order. -/
def memSetElems (m : Memory) (o : Opnd) : Nat → List Nat → Memory
  | _, [] => m
  | k, v :: vs => memSetElems (m.store (memBase o.mem + o.addr k) (leBytes (typeSize o.type) v)) o (k + 1) vs

/-- The bytes of an operand's elements, in order. -/
def memOpndBytes (m : Memory) (o : Opnd) : List Byte :=
  (List.range o.elems).flatMap (fun k => m.bytes (memBase o.mem + o.addr k) (typeSize o.type))

/-- Store bytes over an operand's elements, in order. -/
def memSetOpndBytes (m : Memory) (o : Opnd) (bs : List Byte) : Memory :=
  let sz := typeSize o.type
  (List.range o.elems).foldl (fun m k => m.store (memBase o.mem + o.addr k) (sliceBytes bs (k * sz) sz)) m

/-- A resolved operand with the exceptions its use raises: MODE, DESCRIPTOR, RANGE_BOUNDS (R234, R259). -/
structure Resolved where
  o : Opnd := {}
  mode : Bool := false
  desc : Bool := false
  bounds : Bool := false
deriving DecidableEq, Repr, Inhabited

/-- Resolve descriptor bits with an offset added to its base. `dst` marks a destination. -/
def resolveBits (d : Nat) (off : Int) (dst engine unified : Bool) : Resolved :=
  let mem := bits d 22 21
  let tr := bit d 23
  let ty := bits d 25 24
  let cnt := bits d 47 32
  let rows := bits d 63 48
  let st := bits d 79 64
  let sz := typeSize ty
  let sb := if st = 0 then cnt * sz else 2 * st
  let base : Int := (bits d 20 0 : Nat) + off
  let o : Opnd := { mem := mem, base := base.toNat, count := cnt, rows := rows, stride := sb, transpose := tr, type := ty }
  let size := if engine then 0x8000 else memSize mem
  { o := o
    mode := !engine && (if unified then mem != 3 else mem == 3)
    desc := cnt == 0 || rows == 0 || bits d 31 26 != 0 || d / 2 ^ 80 != 0 || (engine && mem != 0) || decide (32768 < st)
      || ((dst || tr) && st != 0 && decide (sb < cnt * sz))
      || (tr && (dst || ty != 0 || cnt % 16 != 0 || rows % 16 != 0))
    bounds := decide (base < 0) || base % (sz : Int) != 0 || decide (size ≤ o.extent) }

/-- Resolve descriptor `i` of a unit with a byte offset. -/
def State.resolveAt (s : State) (u : Exec) (i : Nat) (off : Int) (dst : Bool) : Resolved :=
  match u with
  | .core n _ =>
    let c := s.cores.get n
    if c.descLen ≤ i then { desc := true }
    else resolveBits (c.descs.get i).toNat off dst false (c.org == .unified || c.org == .free)
  | .engine p _ =>
    let d := s.peds.get p
    if d.descLen ≤ i then { desc := true } else resolveBits (d.descs.get i).toNat off dst true false

/-- Resolve a 13-bit operand field (Table 8-3). -/
def State.resolve (s : State) (u : Exec) (f : Nat) (dst : Bool) : Resolved :=
  s.resolveAt u (bits f 12 5) (if bit f 4 then (s.sreg u (bits f 3 0)).toInt else 0) dst

/-- The operand exceptions of several operands, in code order (R259). -/
def opndChecks (rs : List Resolved) : List (Nat × Bool) :=
  [(0x05, rs.any (·.mode)), (0x06, rs.any (·.desc)), (0x07, rs.any (·.bounds))]

/-! ### Exceptions (R259–R261) -/

/-- The first failing check: its exception code (R259). -/
def firstExc (l : List (Nat × Bool)) : Option Nat := (l.find? (·.2)).map (·.1)

/-- A core thread raises an exception: FAULTED, THR_EXC and event 0x6401 (R205, R259). -/
def State.coreExc (s : State) (n t code pc : Nat) : State :=
  let s := s.updCtx (.core n t) (fun th => { th with state := .faulted, excCode := code, excPc := pc })
  (s.logEvent 0x6401 [(1, n), (1, t), (2, pc), (1, code)]).faultStall n 1 n

/-- A completion fault of an in-flight instruction: it leaves the range tables, its counter does not change, and its
thread becomes FAULTED (R260). -/
def State.flightFault (s : State) (n id code : Nat) : State :=
  match (s.cores.get n).flights.find? (·.id == id) with
  | none => s
  | some f =>
    let s := s.updCore n (fun c => { c with flights := c.flights.filter (·.id != id) })
    s.coreExc n f.thread code f.pc

/-- An engine thread raises an exception: it stops, event 0x6701 is logged and its dispatch completes with SE_FAULT
(R261). -/
def State.engineExc (s : State) (p t code : Nat) : State :=
  let e := s.engines.get (engKey p t)
  let s := { s with engines := s.engines.put (engKey p t) { e with
    busy := false, ctx := { e.ctx with state := .faulted, excCode := code, excPc := e.ctx.pc } } }
  let s := s.logEvent 0x6701 [(1, p), (1, t / 8), (1, t % 8), (2, e.ctx.pc), (1, code), (1, e.job.core)]
  (s.faultStall e.job.core 2 p).flightFault e.job.core e.job.flight 0x11

def State.raiseExc (s : State) (u : Exec) (code : Nat) : State :=
  match u with
  | .core n t => s.coreExc n t code (s.ctx u).pc
  | .engine p t => s.engineExc p t code

/-! ### The range check and retirement (R210–R212) -/

def Range.overlaps (a b : Range) : Bool :=
  a.mem == b.mem && decide (a.first ≤ b.last) && decide (b.first ≤ a.last)

/-- Condition 4 of R208: the instruction's ranges against the ranges in flight. -/
def rangesClear (fl : List Flight) (reads writes : List Range) : Bool :=
  reads.all (fun r => fl.all (fun f => f.writes.all (fun w => !r.overlaps w))) &&
  writes.all (fun w => fl.all (fun f => f.writes.all (fun x => !w.overlaps x) && f.reads.all (fun x => !w.overlaps x)))

/-- Entries in use: 64 read and 32 write entries (R211). -/
def tablesFit (fl : List Flight) (reads writes : List Range) : Bool :=
  decide ((fl.map (·.reads.length)).sum + reads.length ≤ 64) &&
  decide ((fl.map (·.writes.length)).sum + writes.length ≤ 32)

/-- An instruction retires: its ranges leave the tables and its counter adds 1 (R211, R215). -/
def State.retire (s : State) (n id : Nat) : State :=
  match (s.cores.get n).flights.find? (·.id == id) with
  | none => s
  | some f => s.updCore n (fun c => { c with
      flights := c.flights.filter (·.id != id)
      evc := match f.evc with
        | some e => c.evc.upd e (· + 1)
        | none => c.evc })

/-! ### Issue (R207–R209, R229) -/

/-- What an instruction brings to issue. -/
structure IssueReq where
  /-- The instruction exists on stack engines (R230). -/
  engineOk : Bool := false
  /-- The instruction exists on cores (R230). -/
  coreOk : Bool := true
  /-- Its reserved bits are 0 and its field values in range (RESERVED_FIELD otherwise). -/
  fieldsOk : Bool := true
  /-- Later exceptions, in ascending code order; true fails. -/
  checks : List (Nat × Bool) := []
  reads : List Range := []
  writes : List Range := []
  /-- The unit it goes to has a free entry (condition 5). -/
  unitFree : Bool := true
deriving DecidableEq, Repr, Inhabited

/-- The instruction exists on the unit that executes it (R230). -/
def IssueReq.existsOn (r : IssueReq) : Exec → Bool
  | .core _ _ => r.coreOk
  | .engine _ _ => r.engineOk

/-- A thread may take its next instruction: RUNNABLE or BLOCKED. -/
def Thread.canIssue (t : Thread) : Bool := t.state == .runnable || t.state == .blocked

/-- The unit may issue: a core's thread that is RUNNABLE or BLOCKED; an engine's thread that is busy. -/
def State.issuable (s : State) (u : Exec) : Bool :=
  match u with
  | .core _ _ => (s.ctx u).canIssue
  | .engine p t => (s.engines.get (engKey p t)).busy && (s.ctx u).canIssue

/-- The guard: p(gpred) XOR gneg (R229). Body words carry gneg in bit 53 and gpred in bits [52:50]. -/
def State.guardOn (s : State) (u : Exec) (w : Nat) : Bool := (s.ctx u).pred (bits w 52 50) != bit w 53

/-- A thread whose next instruction fails a readiness condition is BLOCKED, and its stall is counted (R205, R226). -/
def State.block (s : State) (u : Exec) (range unit_ : Bool) : State :=
  let s := s.updCtx u (fun t => { t with state := .blocked })
  match u with
  | .core n _ =>
    if range then s.coreCount n (Reg.CORE_STALL_RANGE n) 1 true
    else if unit_ then s.coreCount n (Reg.CORE_STALL_UNIT n) 1 true else s
  | .engine _ _ => s

/-- No thread of the unit's core issues: a layer barrier is open (R222), the core is retired (R515) or restoring (R286),
or it is the idle secondary of a suspended pair (R131). -/
def State.barrierOpen (s : State) : Exec → Bool
  | .core n _ =>
    let c := s.cores.get n
    c.barrier.isSome || c.retired || c.org == .restoring || (c.paired && c.suspended && !c.primary)
  | .engine _ _ => false

/-- The in-flight instructions a unit's ranges are checked against; engines keep no range tables (R254). -/
def State.flightsOf (s : State) : Exec → List Flight
  | .core n _ => (s.cores.get n).flights
  | .engine _ _ => []

/-! ### Advisories (R533) -/

def State.updAdvice (s : State) (n : Nat) (f : Advice → Advice) : State := { s with advice := s.advice.upd n f }

/-- A condition of R533 holds for a core: 0 parity replays, 1 tile metric, 2 rejected column. -/
def State.advise (s : State) (n trigger : Nat) : State :=
  let a := s.advice.get n
  let open_ := match a.last with
    | none => true
    | some t => decide (t + 60 * 10 ^ 9 ≤ s.time)
  if bit (s.regN Reg.FLT_ADVISE) 0 && open_ then
    (s.updAdvice n (fun a => { a with last := some s.time, checks := 0, mism := 0 })).logEvent 0x1002 [(1, n), (1, trigger)]
  else s

/-- Replays that have succeeded are logged (R220), and a core that logs them in each of 3 consecutive seconds is advised
(R533). -/
def State.parityLogged (s : State) (n path k : Nat) : State :=
  if k = 0 then s else
  let logged := s.limitOpen 0x2401 n (10 ^ 9)
  let s := s.logLimitedFor (10 ^ 9) 0x2401 n k (fun c => [(1, n), (1, path), (4, c)])
  if !logged then s else
  let sec := s.time / 10 ^ 9
  let s := s.updAdvice n (fun a => { a with
    second := sec, run := if a.run = 0 then 1 else if sec = a.second then a.run else if sec = a.second + 1 then a.run + 1 else 1 })
  if 3 ≤ (s.advice.get n).run then s.advise n 0 else s

/-- The instruction issues: the issue slot is taken, the watchdog clears and the program counter moves on. -/
def State.take (s : State) (u : Exec) : State :=
  let k := (s.ctx u).replays
  let s := s.updCtx u (fun t => { t with state := .runnable, wdog := false, pc := (t.pc + 1) % 8192, replays := 0 })
  match u with
  | .core n t => ((s.parityLogged n 0 k).updCore n (fun c => { c with lastIssue := t })).coreCount n (Reg.CORE_ISSUED n) 1 true
  | .engine _ _ => s

/-- Issue an instruction: the checks of R259 in code order, the guard (R229), the readiness conditions (R208), and then
its effect `eff` on the state in which it has taken its slot. -/
def issue (s : State) (u : Exec) (w : Nat) (r : IssueReq) (eff : State → State) : State :=
  if !s.issuable u then s
  else if s.barrierOpen u then s.block u false false
  else if s.progLenOf u ≤ (s.ctx u).pc then s.raiseExc u 0x01
  else if !r.existsOn u then s.raiseExc u 0x02
  else if !r.fieldsOk then s.raiseExc u 0x03
  else if !s.guardOn u w then s.take u
  else match firstExc r.checks with
    | some c => s.raiseExc u c
    | none =>
      if !rangesClear (s.flightsOf u) r.reads r.writes then s.block u true false
      else if !r.unitFree || !tablesFit (s.flightsOf u) r.reads r.writes then s.block u false true
      else eff (s.take u)

/-- Enter an issued instruction in the core's in-flight list; engines retire each instruction before the next (R254). -/
def State.enter (s : State) (n t : Nat) (kind : FlightKind) (reads writes : List Range) (evc : Option Nat) : State :=
  let pc := ((s.cores.get n).threads.get t).pc
  s.updCore n (fun c => { c with
    flights := c.flights ++ [{ id := c.nextFlight, thread := t, pc := (pc + 8191) % 8192, kind := kind
                               reads := reads, writes := writes, evc := evc }]
    nextFlight := c.nextFlight + 1 })

/-! ### Unit queues (Table 7-1, condition 5 of R208) -/

/-- The instructions of the vector unit's, plane-write path's, move engine's, stack-engine port's and sampler port's
queues; a PUSH moves its data through the move engine (R272). -/
def FlightKind.isVector : FlightKind → Bool
  | .vector => true
  | _ => false
def FlightKind.isLoad : FlightKind → Bool
  | .plane _ => true
  | _ => false
def FlightKind.isMove : FlightKind → Bool
  | .move _ _ _ => true
  | .push _ _ _ _ => true
  | _ => false
def FlightKind.isDispatch : FlightKind → Bool
  | .dispatch _ _ _ _ => true
  | _ => false
def FlightKind.isHandoff : FlightKind → Bool
  | .handoff _ _ _ => true
  | _ => false

/-- A unit's queue of `size` entries has a free one: an instruction holds its entry until it retires (log entry 101). Stack
engines have no queues (R254). -/
def State.queueFree (s : State) (u : Exec) (size : Nat) (p : FlightKind → Bool) : Bool :=
  match u with
  | .core n _ => decide (((s.cores.get n).flights.filter (fun f => p f.kind)).length < size)
  | .engine _ _ => true

/-- The counter an engine instruction names, when its count enable is set; EVC(0) and EVC(1) raise COUNTER (R241). -/
def evcOf (cen : Bool) (e : Nat) : Option Nat := if cen then some e else none

def evcBad (cen : Bool) (e : Nat) : Bool := cen && decide (e < 2)

/-- Bits [hi:lo] of a body are zero. -/
def zeroBits (w hi lo : Nat) : Bool := bits w hi lo == 0

/-- A waiting thread whose condition has become true resumes with its predicate at 1 (R205, R216). -/
def waitTrue (ctr : W32) (v : Nat) : Bool := decide ((ctr.toNat + 2 ^ 32 - v % 2 ^ 32) % 2 ^ 32 < 2 ^ 31)

def State.wake (s : State) (n : Nat) : State :=
  let c := s.cores.get n
  (List.range 32).foldl (fun s t =>
    let th := c.threads.get t
    if th.state == .waiting && waitTrue (c.evc.get th.waitE) th.waitV then
      (s.updCtx (.core n t) (fun x => { x with state := .runnable })).setP (.core n t) th.waitP true
    else s) s

/-- Add to an event counter of a core, and wake the threads it satisfies (R215–R217). -/
def State.addEvc (s : State) (n e k : Nat) : State :=
  (s.updCore n (fun c => { c with evc := c.evc.upd e (· + BitVec.ofNat 32 k) })).wake n

/-- An instruction retires and the waits its counter satisfies end. -/
def State.retireWake (s : State) (n id : Nat) : State :=
  match (s.cores.get n).flights.find? (·.id == id) with
  | none => s
  | some f =>
    let s := (s.retire n id).parityLogged n f.path f.replays
    (s.updCore n (fun c => { c with replaying := c.flights.any (fun x => x.replays != 0) })).wake n

/-- Format counters and their events (R147, R148): 0x2202 for clamps, 0x4203 for NaN operands, each at most once per
core per second. -/
def State.fmtClamps (s : State) (n off k : Nat) (vector : Bool) : State :=
  if k = 0 then s else
  (s.countBy off k).logLimitedFor (10 ^ 9) 0x2202 n k (fun c => [(1, n), (1, b2n vector), (4, c)])

def State.fmtNans (s : State) (n k : Nat) (vector : Bool) : State :=
  if k = 0 then s else
  (s.countBy (Reg.FMT_NAN n) k).logLimitedFor (10 ^ 9) 0x4203 n k (fun c => [(1, n), (1, b2n vector), (4, c)])

end Sys2Proof.Machine
end

