-- ==== Sys2Proof/Machine/Kv.lean ====
section
/-!
DEFINITION. The key-value cache in the pedestals: staged rows, flushes, quantisation and page reads (05, R149–R152; 12,
R340–R356), with the commands KV_FLUSH_COMPLETE, WALKER_LINE_FETCH and PAGE_BUFFER_PREFETCH.
-/
namespace Sys2Proof.Machine
open Sys2Proof

/-! ### Quantisation (R151) -/

/-- Largest magnitude of BF16 elements, NaN taken as 0. -/
def maxMag (xs : List Nat) : Fp :=
  xs.foldl (fun m x => let v := (FFmt.bf16.dec x).abs; if v.isNan then m else if m.lt v then v else m) (.fin false 0 0)

/-- Round a non-negative FP32 value toward +∞ to BF16: its bits. -/
def roundUpBf16 (v : Fp) : Nat :=
  let b := (FFmt.fp32.enc v).bits
  (b + 0xFFFF) / 2 ^ 16

/-- floor(log2 v) of a positive value. -/
def floorLog2 : Fp → Int
  | .nan => 0
  | .fin _ m e => (bitLen m : Int) - 1 + e

/-- The exponent of a group or token: min(cap, floor(log2(qmax · base / m))), cap where base or m is 0 (R151). -/
def scaleExp (cap qmax : Nat) (base m : Fp) : Nat :=
  if base.isZero || m.isZero then cap
  else min cap (floorLog2 ((((Fp.ofInt qmax).mul base).r32).quot m).r32).toNat

/-- A code: clamp(round_even(x / (base · 2^−e)), −qmax, qmax). -/
def codeOf (qmax : Nat) (base : Fp) (e : Nat) (x : Nat) : Int :=
  let v := FFmt.bf16.dec x
  if v.isNan || base.isZero then 0
  else match (v.quot (base.mul (.fin false 1 (-(e : Int))))).r32.toInt with
    | some i => clampInt (-(qmax : Int)) qmax i
    | none => 0

/-- Pack codes as bytes (K8/V8) or nibbles, even index low (R149). -/
def packCodes (wide : Bool) : List Int → List Byte
  | a :: b :: r =>
    if wide then BitVec.ofInt 8 a :: BitVec.ofInt 8 b :: packCodes wide r
    else BitVec.ofNat 8 (unsigned 4 a + 16 * unsigned 4 b) :: packCodes wide r
  | [a] => [if wide then BitVec.ofInt 8 a else BitVec.ofNat 8 (unsigned 4 a)]
  | [] => []

/-- Pack fields of `w` bits from bit 0 into `n` bytes. -/
def packBits (w n : Nat) (vs : List Nat) : List Byte := leBytes n (vs.foldr (fun v acc => acc * 2 ^ w + v % 2 ^ w) 0)

/-- A quantised sub-block: data part, metadata part (R149–R151). `k` and `v` hold 16 rows of d BF16 elements. -/
def quantise (d : Nat) (wide : Bool) (k v : List Nat) : List Byte × List Byte :=
  let qmax := if wide then 127 else 7
  let gsz := if d = 256 then 2 else 1
  let gs := d / gsz
  let ka := k.toArray
  let va := v.toArray
  let kAt := fun t c => ka.getD (t * d + c) 0
  let vAt := fun t c => va.getD (t * d + c) 0
  let rows := List.range 16
  let cols := List.range d
  let mk := (List.range gs).map (fun g => maxMag (rows.flatMap (fun t => (List.range gsz).map (fun c => kAt t (g * gsz + c)))))
  let kbB := roundUpBf16 (mk.foldl (fun m x => let y := (x.quot (Fp.ofInt qmax)).r32; if m.lt y then y else m) (.fin false 0 0))
  let kb := FFmt.bf16.dec kbB
  let ek := (mk.map (scaleExp 7 qmax kb)).toArray
  let mv := rows.map (fun t => maxMag (cols.map (vAt t)))
  let vbB := roundUpBf16 (mv.foldl (fun m x => let y := (x.quot (Fp.ofInt qmax)).r32; if m.lt y then y else m) (.fin false 0 0))
  let vb := FFmt.bf16.dec vbB
  let ev := (mv.map (scaleExp 63 qmax vb)).toArray
  let kc := rows.flatMap (fun t => cols.map (fun c => codeOf qmax kb (ek.getD (c / gsz) 0) (kAt t c)))
  let vc := rows.flatMap (fun t => cols.map (fun c => codeOf qmax vb (ev.getD t 0) (vAt t c)))
  (packCodes wide kc ++ packCodes wide vc,
   leBytes 2 kbB ++ leBytes 2 vbB ++ packBits 3 48 (ek.toList ++ List.replicate (128 - gs) 0) ++ packBits 6 12 ev.toList)

/-- Element (t, c) of a flushed half, in FP32 (R152). -/
def decodeKv (d : Nat) (wide value : Bool) (data meta_ : Array Byte) (t c : Nat) : Fp :=
  let i := t * d + c
  let off := if value then (if wide then 16 * d else 8 * d) else 0
  let code : Int := if wide then (data.getD (off + i) 0).toInt
    else signed 4 (bits (data.getD (off + i / 2) 0).toNat (4 * (i % 2) + 3) (4 * (i % 2)))
  let at_ := fun (o n : Nat) => leNat ((List.range n).map (fun k => meta_.getD (o + k) 0))
  let base := FFmt.bf16.dec (at_ (if value then 2 else 0) 2)
  let g := if d = 256 then c / 2 else c
  let e := if value then bits (at_ 52 12) (6 * t + 5) (6 * t) else bits (at_ 4 48) (3 * g + 2) (3 * g)
  ((Fp.ofInt code).mul (base.mul (.fin false 1 (-(e : Int))))).r32

/-- BF16 elements of bytes. -/
def bf16s : List Byte → List Nat
  | a :: b :: r => (a.toNat + 256 * b.toNat) :: bf16s r
  | _ => []

/-- NaN elements among BF16 bits. -/
def nanCount (xs : List Nat) : Nat := (xs.filter (fun x => (FFmt.bf16.dec x).isNan)).length

/-- Quantise 16 key rows and 16 value rows of sub-block j into a frame (R151, R348, R365). -/
def State.writeSub (s : State) (i j : Nat) (pfx : Bool) (f : Nat) (k v : List Nat) : State :=
  let m := s.planOf i
  let (st, kk) := m.stackOf j
  let (da, ma) := m.frameAddr st pfx f kk
  let (db, mb) := quantise m.headDim (m.kvFormat == 0x88) k v
  let s := s.updPed st (fun p => (p.planWrite i da db).planWrite i ma mb)
  let z := nanCount k + nanCount v
  if z = 0 then s else s.pedCount st (Reg.KV_NAN st) z false

/-! ### Staging (R346–R350) -/

/-- Rows [a, b) of a half as mask bits: key rows in [15:0], value rows in [31:16]. -/
def rowBits (value : Bool) (a n : Nat) : Nat := (2 ^ n - 1) * 2 ^ (a + if value then 16 else 0)

/-- The frame a page maps to, when its entry is of kind 1. -/
def State.kvFrame (s : State) (i q pg : Nat) : Option Nat :=
  let e := s.pte i q pg
  if pteKind e = 1 then some (pteFrame e) else none

/-- A full part flushes into frame f (R348 steps 1–4). -/
def State.flushInto (s : State) (i q j f : Nat) : State :=
  let m := s.planOf i
  let (st, k) := m.stackOf j
  let key := partKey i q j
  let pt := s.parts.get key
  let rows := bf16s ((s.peds.get st).planRead i (m.partAddr st q k) (64 * m.headDim))
  let n := 16 * m.headDim
  let s := s.writeSub i j false f (rows.take n) (rows.drop n)
  let s := s.pedCount st (Reg.KV_FLUSH st) 1 true
  { s with parts := s.parts.put key { stg := pt.stg + 1, mask := 0 } }

/-- A part has become full while its page has no frame (R350). -/
def State.flushNoFrame (s : State) (i q j : Nat) : State :=
  let (st, _) := (s.planOf i).stackOf j
  let s := s.count Reg.KVM_NO_FRAME
  let s := s.logEvent 0x4704 [(1, st), (1, i), (2, q), (2, (s.parts.get (partKey i q j)).stg)]
  { s with noFrame := s.noFrame.put (seqKey i q) true }

/-- The mask of a part holds all 32 rows and its page is firm (R348). -/
def State.partFull (s : State) (i q j : Nat) : Bool :=
  let pt := s.parts.get (partKey i q j)
  pt.mask == 0xFFFFFFFF && decide (16 * pt.stg + 15 < (s.kvSeqs.get (seqKey i q)).firm)

/-- What a stack-port write does. -/
inductive WriteRes where
  /-- Written. -/
  | done
  /-- Written, and the part's flush is in progress: acknowledged when it completes. -/
  | flush (key : Nat)
  /-- Held in the stack-port queue until the part's flush completes (Table 12-5). -/
  | held
  /-- Refused: it completes REMOTE_FAULT. -/
  | refused
deriving DecidableEq, Repr, Inhabited

/-- A refused key-value write (R344): cause 0 region, 1 row. -/
def State.kvRefuse (s : State) (st pa node cause : Nat) : State × WriteRes :=
  ((s.pedCount st (Reg.KV_WRITE_NACK st) 1 false).logEvent 0x6704 [(1, st), (8, pa), (2, node), (1, cause)], .refused)

/-- A stack-port write into a staging part (R346, R348, R350). -/
def State.stageWrite (s : State) (st i pa : Nat) (bs : List Byte) (node : Nat) : State × WriteRes :=
  let m := s.planOf i
  let o := pa - (m.bases st).st
  let part := o / (64 * m.headDim)
  let r := o % (64 * m.headDim)
  let value := decide (32 * m.headDim ≤ r)
  let ro := r % (32 * m.headDim)
  let row := 2 * m.headDim
  let q := part / max 1 (m.cs st)
  let j := part % max 1 (m.cs st) * max 1 m.stackList.length + m.placeOf st
  let key := partKey i q j
  let pt := s.parts.get key
  let sq := s.kvSeqs.get (seqKey i q)
  let n := bs.length / max 1 row
  let t := ro / max 1 row
  if (s.flushing.get key).isSome then (s, .held)
  else if bs.isEmpty || bs.length % max 1 row != 0 || ro % max 1 row != 0 || decide (16 < t + n) || sq.state != .active
      || s.noFrame.get (seqKey i q) || decide (16 * pt.stg + t < sq.l0) || decide (sq.l < 16 * pt.stg + t + n) then
    s.kvRefuse st pa node 1
  else
    let s := s.updPed st (fun p => p.planWrite i pa bs)
    let s := { s with parts := s.parts.put key { pt with mask := pt.mask ||| BitVec.ofNat 32 (rowBits value t n) } }
    if s.partFull i q j then
      match s.kvFrame i q pt.stg with
      | some _ => (s, .flush key)
      | none => (s.flushNoFrame i q j, .done)
    else (s, .done)

/-- A stack-port write from a core to a plan address (R344, R382). -/
def State.stackWrite (s : State) (st i pa : Nat) (bs : List Byte) (node : Nat) : State × WriteRes :=
  let b := (s.planOf i).bases st
  if pa < b.w then s.kvRefuse st pa node 0
  else if pa < b.kd then (s.logEvent 0x6803 [(1, st), (8, pa), (2, node)], .refused)
  else if pa < b.st then s.kvRefuse st pa node 0
  else s.stageWrite st i pa bs node

/-- The flush of a part completes and the completing write is acknowledged (R348, Table 12-5). -/
def State.flushDone (s : State) (i q j : Nat) : State :=
  let key := partKey i q j
  match s.flushing.get key with
  | none => s
  | some id =>
    let s := match s.kvFrame i q (s.parts.get key).stg with
      | some f => s.flushInto i q j f
      | none => s
    let s := { s with flushing := s.flushing.put key none
                      msgs := s.msgs.map (fun x : FabMsg => if x.id = id then { x with resp := some .ack } else x) }
    s.emit (.fabric .ack [id])

/-- KV_FLUSH_COMPLETE (R348). -/
def execKvFlushComplete (inst slot sub : Nat) (s : State) : Out' := .next (s.flushDone inst slot sub)

/-! ### The page walker and page reads (R352–R356) -/

/-- A lookup of a line: hits and misses, and the prefetch of the next line (R352). `v` is the valid limit. -/
def State.walk (s : State) (st i q pg v : Nat) : State :=
  let line := pg / 16
  let tag := lineTag i q line
  let s := s.pedCount st (Reg.WLK_LOOKUP st) 1 true
  let p := s.peds.get st
  let s := if p.lab.contains tag then s.updPed st (fun p => { p with lab := tag :: p.lab.erase tag })
    else
      let s := s.pedCount st (Reg.WLK_MISS st) 1 true
      s.updPed st (fun p => if p.fetching.contains tag then p else { p with fetching := p.fetching ++ [tag] })
  let nx := lineTag i q (line + 1)
  let p := s.peds.get st
  if 256 * (line + 1) < v && !p.lab.contains nx && !p.fetching.contains nx then
    (s.pedCount st (Reg.WLK_PREFETCH st) 1 false).updPed st (fun p => { p with fetching := p.fetching ++ [nx] })
  else s

/-- A fetched line enters the look-aside buffer, replacing the least recently used (R352). -/
def execWalkerLineFetch (ped : Nat) (s : State) : Out' :=
  .next (match (s.peds.get ped).fetching with
    | [] => s
    | t :: r => s.updPed ped (fun p => { p with fetching := r, lab := (t :: p.lab.erase t).take 256 }))

/-- A prefetched half enters the thread's page buffer (R356). -/
def execPageBufferPrefetch (ped thread : Nat) (value : Bool) (s : State) : Out' :=
  .next { s with engines := s.engines.upd (engKey ped thread) (fun e =>
    if value then (if e.nextV.isSome then { e with bufV := e.nextV, nextV := none } else e)
    else (if e.nextK.isSome then { e with bufK := e.nextK, nextK := none } else e)) }

/-- Where a PGATHER finds its rows (R354). -/
inductive PageSrc where
  /-- No valid row: nothing is read. -/
  | empty
  | frame (pfx : Bool) (f : Nat)
  | staging
  /-- Beyond stg: every valid row is unwritten. -/
  | beyond
  /-- ADDRESS. -/
  | bad
deriving DecidableEq, Repr, Inhabited

/-- A page of a sequence as a PGATHER sees it: source and valid rows (R354). -/
def State.pageSrc (s : State) (i q j pg : Nat) : PageSrc × Nat :=
  let sq := s.kvSeqs.get (seqKey i q)
  let v := if pg < sq.b / 16 then sq.p else sq.l
  let cnt := min 16 (v - 16 * pg)
  let pt := s.parts.get (partKey i q j)
  let e := s.pte i q pg
  (if sq.state != .active then .bad
   else if cnt = 0 then .empty
   else if pg < sq.b / 16 then (if pteKind e = 2 then .frame true (pteFrame e) else .bad)
   else if pg < pt.stg then (if pteKind e = 1 then .frame false (pteFrame e) else .bad)
   else if pg = pt.stg then .staging
   else .beyond, cnt)

/-- The 16 rows of d FP32 elements that a page read gives, its unwritten rows and its NaN elements (R354, R355). -/
def State.pageRows (s : State) (i q j pg : Nat) (value : Bool) : List Nat × Nat × Nat :=
  let m := s.planOf i
  let d := m.headDim
  let (st, k) := m.stackOf j
  let ped := s.peds.get st
  let (src, cnt) := s.pageSrc i q j pg
  let enc := fun (v : Fp) => (FFmt.fp32.enc v).bits
  match src with
  | .frame pfx f =>
    let (da, ma) := m.frameAddr st pfx f k
    let data := (ped.planRead i da m.subBytes).toArray
    let md := (ped.planRead i ma 64).toArray
    ((List.range 16).flatMap (fun t => (List.range d).map (fun c =>
      if t < cnt then enc (decodeKv d (m.kvFormat == 0x88) value data md t c) else 0)), 0, 0)
  | .staging =>
    let pt := s.parts.get (partKey i q j)
    let base := m.partAddr st q k + (if value then 32 * d else 0)
    let has := fun t => pt.mask.getLsbD (t + if value then 16 else 0)
    let rows := (List.range 16).flatMap (fun t => if t < cnt && has t then bf16s (ped.planRead i (base + 2 * d * t) (2 * d))
      else List.replicate d 0)
    (rows.map (fun x => let v := FFmt.bf16.dec x; if v.isNan then 0 else enc v),
     ((List.range cnt).filter (fun t => !has t)).length, nanCount rows)
  | .beyond => (List.replicate (16 * d) 0, cnt, 0)
  | _ => (List.replicate (16 * d) 0, 0, 0)

/-- Whether a page read meets poison (R328). -/
def State.pagePoisoned (s : State) (i q j pg : Nat) : Bool :=
  let m := s.planOf i
  let (st, k) := m.stackOf j
  let ped := s.peds.get st
  match (s.pageSrc i q j pg).1 with
  | .frame pfx f =>
    let (da, ma) := m.frameAddr st pfx f k
    ped.planPoisoned i da m.subBytes || ped.planPoisoned i ma 64
  | .staging => ped.planPoisoned i (m.partAddr st q k) (64 * m.headDim)
  | _ => false

/-- The page buffer and the counters after a page read (R355, R356). -/
def State.pageEffects (s : State) (st t i q j pg : Nat) (value : Bool) (unwritten nans : Nat) : State :=
  let key := engKey st t
  let e := s.engines.get key
  let me := (i, q, j, pg)
  let hit := (if value then e.bufV else e.bufK) == some me
  let sq := s.kvSeqs.get (seqKey i q)
  let v := if pg < sq.b / 16 then sq.p else sq.l
  let s := s.pedCount st (Reg.SE_PGATHER st) 1 true
  let s := if unwritten = 0 then s else
    let s := s.pedCount st (Reg.KV_UNWRITTEN st) unwritten false
    s.logLimited 0x4706 st (fun _ => [(1, st), (2, q), (2, j / max 1 (s.planOf i).kvHeads), (1, j % max 1 (s.planOf i).kvHeads), (2, pg)])
  let s := if nans = 0 then s else s.pedCount st (Reg.KV_NAN st) nans false
  match (s.pageSrc i q j pg).1 with
  | .frame _ _ =>
    let s := if hit then s.pedCount st (Reg.SE_BUF_HIT st) 1 true else s.walk st i q pg v
    if pg + 1 < (s.parts.get (partKey i q j)).stg && decide (16 * (pg + 1) < v) then
      let nx := some (i, q, j, pg + 1)
      { s with engines := s.engines.upd key (fun e => if value then { e with nextV := nx } else { e with nextK := nx }) }
    else s
  | _ => s

/-- PGATHER.K and PGATHER.V (R255, R354–R356). -/
def pgatherOp (value : Bool) (u : Exec) (w : Nat) (s : State) : State :=
  match u with
  | .core _ _ => issue s u w { coreOk := false } id
  | .engine p t =>
    let dst := s.resolve u (bits w 37 25) true
    let i := ((s.cores.get (s.engines.get (engKey p t)).job.core).inst).getD 16
    let m := s.planOf i
    let q := bits (s.sreg u (bits w 49 46)).toNat 11 0
    let pos := (s.sreg u (bits w 45 42)).toNat
    let lh := (s.sreg u (bits w 41 38)).toNat
    let l := bits lh 25 16
    let h := bits lh 5 0
    let j := l * m.kvHeads + h
    let pg := pos / 16
    let (src, cnt) := s.pageSrc i q j pg
    let held := decide (l < m.kvLayers ∧ h < m.kvHeads) && (m.stackOf j).1 == p
    let maxSeqs := ((s.img.insts.get i).map (·.inst.maxSeqs)).getD 0
    issue s u w
      { engineOk := true
        fieldsOk := zeroBits w 20 0
        checks := opndChecks [dst] ++ [(0x08, dst.o.type != 1), (0x09, dst.o.rows != 16 || dst.o.count != m.headDim),
          (0x0D, !held || decide (maxSeqs ≤ q) || src == .bad), (0x10, s.pagePoisoned i q j pg)] }
      (fun s' =>
        let (rows, un, nans) := s.pageRows i q j pg value
        let s' := s'.setOpMem u (memSetElems (s.opMem u) dst.o 0 rows)
        let s' := s'.setS u (bits w 24 21) (BitVec.ofNat 64 cnt)
        s'.pageEffects p t i q j pg value un nans)

/-- PGATHER.K (R255). -/
def execPgatherK (u : Exec) (w : Nat) (s : State) : Out' := .next (pgatherOp false u w s)

/-- PGATHER.V (R255). -/
def execPgatherV (u : Exec) (w : Nat) (s : State) : Out' := .next (pgatherOp true u w s)

end Sys2Proof.Machine
end

