-- ==== Sys2Proof/Machine/Package.lean ====
section
/-!
DEFINITION. Model packages: the checks of BIND in the order of R373, the geometry and checks of a load (R375, R376), and
FWD-128 by pieces (R388, R389).
-/
namespace Sys2Proof.Machine
open Sys2Proof

/-! ### Statuses (Table 13-7) -/

def wOk : Nat := 0x00
def wBusy : Nat := 0x01
def wState : Nat := 0x02
def wHeader : Nat := 0x03
def wTarget : Nat := 0x04
def wVocab : Nat := 0x05
def wProgram : Nat := 0x06
def wTable : Nat := 0x07
def wFetch : Nat := 0x08
def wNotSealed : Nat := 0x09
def wShape : Nat := 0x0A
def wFormat : Nat := 0x0B
def wNoCapacity : Nat := 0x0C
def wFarTier : Nat := 0x0D
def wKeyMissing : Nat := 0x0E
def wScale : Nat := 0x0F
def wTimeout : Nat := 0x10
def wReplaced : Nat := 0x11

/-- Bytes of a tile record, and of its plane image (R372). -/
def recordLen : Nat := 66048
def planeLen : Nat := 65536

/-- All bytes of a range are 0. -/
def zeroRange (bs : List Byte) (o n : Nat) : Bool := (sliceBytes bs o n).all (· == 0)

/-! ### Checks 1–3 and 4 (R370, R373) -/

/-- Check 1: the header. -/
def pkgHeaderOk (h : List Byte) (len : Nat) : Bool :=
  h.length == 256 && decide (256 ≤ len) && leField h 8 8 == len && leField h 0 4 == 0x4B504D48 && leField h 4 2 == 1
    && leField h 6 2 == 256 && zeroRange h 0x23 1 && zeroRange h 0x29 7 && zeroRange h 0x44 4 && zeroRange h 0x50 16
    && (decide (leField h 0x19 1 ≤ 63) || leField h 0x19 1 == 0xFF)
    && decide (1 ≤ leField h 0x1A 2 ∧ leField h 0x1A 2 ≤ 1024) && decide (1 ≤ leField h 0x20 2 ∧ leField h 0x20 2 ≤ 1024)
    && decide (1 ≤ leField h 0x22 1 ∧ leField h 0x22 1 ≤ 64) && [64, 128, 256].contains (leField h 0x24 2)
    && decide (1 ≤ leField h 0x26 2 ∧ leField h 0x26 2 ≤ 160) && decide (1 ≤ leField h 0x28 1 ∧ leField h 0x28 1 ≤ 8)

/-- Offset and length of section s. -/
def pkgSec (h : List Byte) (s : Nat) : Nat × Nat := (leField h (0x60 + 16 * s) 8, leField h (0x68 + 16 * s) 8)

/-- Check 4: the sections. -/
def pkgSectionsOk (h : List Byte) (len : Nat) : Bool :=
  let ss := (List.range 10).map (pkgSec h)
  let apart := fun (a b : Nat × Nat) => a.2 == 0 || b.2 == 0 || decide (a.1 + a.2 ≤ b.1) || decide (b.1 + b.2 ≤ a.1)
  ss.all (fun x => x.1 % 8 == 0 && decide (256 ≤ x.1 ∧ x.1 + x.2 ≤ len))
    && (List.range 10).all (fun i => (List.range i).all (fun j => apart (pkgSec h i) (pkgSec h j)))
    && decide (((ss.take 9).map (·.2)).sum ≤ 32 * 2 ^ 20)
    && (pkgSec h 8).2 == 16 * leField h 0x40 4 && (pkgSec h 9).2 == recordLen * leField h 0x40 4

/-! ### Check 5: the tables (R371, R372) -/

/-- A matrix entry; none where a field is out of range or a reserved bit is set. -/
def parseMat (e : List Byte) : Option MatEnt :=
  let rows := leField e 0 4
  let cols := leField e 4 4
  let f := leField e 8 1
  let fl := leField e 9 1
  if decide (1 ≤ rows ∧ rows ≤ 2 ^ 20) && decide (1 ≤ cols ∧ cols ≤ 2 ^ 20) && [2, 3, 4, 8].contains f && decide (fl ≤ 1)
      && zeroRange e 10 2 then
    some { rows := rows, cols := cols, format := f, norm := fl == 1, first := leField e 12 4 }
  else none

/-- The matrices of one layer from the matrix entries left, and what remains. -/
def takeMats : Nat → List Byte → Option (List MatEnt × List Byte)
  | 0, bs => some ([], bs)
  | n + 1, bs => if bs.length < 16 then none else
    match parseMat bs, takeMats n (bs.drop 16) with
    | some m, some r => some (m :: r.1, r.2)
    | _, _ => none

/-- The layer table: every layer with its matrices. -/
def parseLayers : Nat → List Byte → List Byte → Option (List LayerEnt)
  | 0, _, rest => if rest.isEmpty then some [] else none
  | n + 1, es, rest =>
    let k := leField es 4 1
    if k < 1 ∨ 16 < k then none
    else if !zeroRange es 5 11 then none
    else match takeMats k rest with
      | none => none
      | some r => (parseLayers n (es.drop 16) r.2).map (fun ls =>
          { narrowPc := leField es 0 2, widePc := leField es 2 2, mats := r.1 } :: ls)

/-- A tile-table entry. -/
def parseTile (stackN : Nat) (e : List Byte) : Option TileEnt :=
  if zeroRange e 3 1 && decide (leField e 1 1 ≤ 1) && decide (leField e 2 1 < stackN) then
    some { kind := leField e 0 1, far := leField e 1 1 == 1, pos := leField e 2 1, off := leField e 4 4, mat := leField e 8 4
           rb := leField e 12 2, cb := leField e 14 2 }
  else none

def parseTiles (stackN : Nat) : Nat → List Byte → Option (List TileEnt)
  | 0, _ => some []
  | n + 1, bs => match parseTile stackN (bs.take 16), parseTiles stackN n (bs.drop 16) with
    | some t, some r => some (t :: r)
    | _, _ => none

def ceilDiv (a b : Nat) : Nat := (a + b - 1) / b

/-- Records per block. -/
def MatEnt.per (m : MatEnt) : Nat := if m.format = 8 then 2 else 1

/-- Records of a matrix. -/
def MatEnt.records (m : MatEnt) : Nat := m.per * ceilDiv m.rows 512 * ceilDiv m.cols 256

/-- The record that the canonical order puts k-th in matrix g (R372). -/
def tileOk (g : Nat) (m : MatEnt) (k : Nat) (t : TileEnt) : Bool :=
  let ncb := ceilDiv m.cols 256
  let blk := k / m.per
  t.mat == g && t.rb == blk / ncb && t.cb == blk % ncb && t.kind == (if m.format = 8 then 2 + k % 2 else 1)

/-- The low slice of a pair follows its high slice (R372). -/
def pairOk (hi lo : TileEnt) : Bool :=
  hi.far == lo.far && hi.pos == lo.pos && lo.off == hi.off + recordLen / 64

/-- The records of one matrix are its full count in canonical order. -/
def matTilesOk (ts : List TileEnt) (g : Nat) (m : MatEnt) : Bool :=
  let mine := (ts.drop m.first).take m.records
  mine.length == m.records && mine.zipIdx.all (fun x => tileOk g m x.2 x.1 &&
    (x.1.kind != 3 || pairOk ((mine[x.2 - 1]?).getD {}) x.1))

/-- Matrices in layer-table order. -/
def Package.mats (p : Package) : List MatEnt := p.layers.flatMap (·.mats)

/-- No two records of one space overlap, and each ends within its set's bytes. -/
def placesOk (ts : List TileEnt) (setStack setFar : Nat) : Bool :=
  ts.all (fun t => decide (64 * t.off + recordLen ≤ (if t.far then setFar else setStack)))
    && (let key := fun (t : TileEnt) => if t.far then 8 else t.pos
        (List.range 9).all (fun k =>
          let offs := ((ts.filter (fun t => key t == k)).map (·.off)).mergeSort (fun a b => decide (a ≤ b))
          (offs.zip (offs.drop 1)).all (fun x => decide (x.1 + recordLen / 64 ≤ x.2))))

/-- N of the canonical stream (R388). -/
def canonLen (ms : List MatEnt) : Nat := (ms.map (fun m => 2 * m.cols + m.rows * m.cols)).sum

/-- Check 5 on the parsed tables. -/
def pkgTablesOk (p : Package) : Bool :=
  p.mats.zipIdx.all (fun x => matTilesOk p.tiles x.2 x.1)
    && (p.mats.map MatEnt.records).sum == p.tiles.length
    && p.tiles.all (fun t => decide (t.mat < p.mats.length))
    && placesOk p.tiles p.setStack p.setFar && p.canonLen == canonLen p.mats

/-! ### Check 6: the programs (R203, R231, R253, R270) -/

/-- A program counter of an entry table lies within its program, or is 0xFFFF. -/
def entriesOk (tab : List Byte) (n : Nat) : Bool :=
  (List.range (tab.length / 2)).all (fun k => leField tab (2 * k) 2 == 0xFFFF || decide (leField tab (2 * k) 2 < n))

/-- Bytes of memories 0–2 that regions may lie in (R270). -/
def regionMemSize (m : Nat) : Nat := if m = 0 then 0x40000 else if m = 1 then 0xC0000 else 0x80000

/-- A region entry obeys R270. -/
def regionOk (e : List Byte) : Bool :=
  let w0 := leField e 0 4
  let w1 := leField e 4 4
  let slots := leField e 8 2
  let base := bits w0 20 0
  let mem := bits w0 22 21
  let sb := bits w1 20 0
  slots == 0 || (decide (slots ≤ 256) && mem != 3 && base % 8 == 0 && sb % 8 == 0 && decide (8 ≤ sb)
    && decide (base + slots * sb ≤ regionMemSize mem) && w0 / 2 ^ 23 == 0 && w1 / 2 ^ 21 == 0 && zeroRange e 10 6)

def pkgProgramsOk (p : Package) : Bool :=
  let n1 := p.prog.length / 8
  let n5 := p.seProg.length / 8
  p.prog.length % 8 == 0 && decide (n1 ≤ 8192) && p.seProg.length % 8 == 0 && decide (n5 ≤ 4096)
    && p.descs.length % 16 == 0 && decide (p.descs.length ≤ 4096) && p.seDescs.length % 16 == 0 && decide (p.seDescs.length ≤ 4096)
    && p.regions.length % 16 == 0 && decide (p.regions.length ≤ 256)
    && p.entries.length % 2 == 0 && decide (p.entries.length ≤ 64) && p.seEntries.length % 2 == 0 && decide (p.seEntries.length ≤ 128)
    && entriesOk p.entries n1 && entriesOk p.seEntries n5
    && p.layers.all (fun l => decide (l.narrowPc < n1) && (decide (l.widePc < n1) || l.widePc == 0xFFFF))
    && (List.range (p.regions.length / 16)).all (fun q => regionOk (p.regions.drop (16 * q)))

/-- The checks of R373 on a fetched header and sections 0–8: the slot's table, or the status of the first failure. -/
def checkPackage (h : List Byte) (secs : List (List Byte)) (len maxVocab : Nat) : Except Nat Package :=
  let sec := fun (s : Nat) => (secs[s]?).getD []
  if !pkgHeaderOk h len then .error wHeader
  else if leField h 0x18 1 ≠ 3 then .error wTarget
  else if leField h 0x1C 4 = 0 ∨ maxVocab < leField h 0x1C 4 then .error wVocab
  else if !pkgSectionsOk h len || !(List.range 9).all (fun s => (sec s).length == (pkgSec h s).2) then .error wTable
  else
    let nl := leField h 0x1A 2
    let s0 := sec 0
    if s0.length < 16 * nl then .error wTable else
    match parseLayers nl (s0.take (16 * nl)) (s0.drop (16 * nl)), parseTiles (leField h 0x28 1) (leField h 0x40 4) (sec 8) with
    | some ls, some ts =>
      let p : Package :=
        { modelId := leField h 0x10 8, keySlot := leField h 0x19 1, vocab := leField h 0x1C 4, kvLayers := leField h 0x20 2
          kvHeads := leField h 0x22 1, headDim := leField h 0x24 2, cores := leField h 0x26 2, stackN := leField h 0x28 1
          setStack := leField h 0x30 8, setFar := leField h 0x38 8, canonLen := leField h 0x48 8, layers := ls, tiles := ts
          prog := sec 1, descs := sec 2, regions := sec 3, entries := sec 4, seProg := sec 5, seDescs := sec 6
          seEntries := sec 7, dataOff := (pkgSec h 9).1
          phash := Config.sha384 (sliceBytes h 0x1A 46 ++ (secs.take 9).flatten) }
      if !pkgTablesOk p then .error wTable
      else if !pkgProgramsOk p then .error wProgram
      else .ok p
    | _, _ => .error wTable

/-! ### FWD-128 by pieces (R388, R389) -/

def fwdP : Nat := 2 ^ 61 - 1
def fwdR : Nat := 2 ^ 32 + 1

/-- b^e mod p, with `fuel` bits of e. -/
def powMod (p : Nat) : Nat → Nat → Nat → Nat
  | 0, _, _ => 1 % p
  | fuel + 1, b, e => let h := powMod p fuel (b * b % p) (e / 2)
    if e % 2 = 1 then b * h % p else h

/-- Multiply by x modulo the polynomial of CRC-64/ECMA-182. -/
def crcX (a : Nat) : Nat := let d := 2 * a; if d < 2 ^ 64 then d else Nat.xor (d - 2 ^ 64) 0x42F0E1EBA9EA3693

/-- Product of two polynomials modulo it, by the bits of b from bit 63 down. -/
def crcMul (a b : Nat) : Nat :=
  (List.range 64).foldl (fun acc k => let s := crcX acc; if bit b (63 - k) then Nat.xor s a else s) 0

/-- x^e modulo it. -/
def crcPow : Nat → Nat → Nat → Nat
  | 0, _, _ => 1
  | fuel + 1, b, e => let h := crcPow fuel (crcMul b b) (e / 2); if e % 2 = 1 then crcMul b h else h

/-- One byte through the CRC. -/
def crcByte (c b : Nat) : Nat := (List.range 8).foldl (fun c _ => crcX c) (Nat.xor c (b * 2 ^ 56))

/-- The contribution of a run of bytes at position `pos` of a stream of n bytes: CRC and modular parts. The CRC is linear,
and the sum before the last step of R389 is linear in the bytes. -/
def fwdPiece (n pos : Nat) (bs : List Byte) : Fwd :=
  let c := bs.foldl (fun c b => crcByte c b.toNat) 0
  let words := ceilDiv n 8
  let m := bs.zipIdx.foldl (fun acc x =>
    let i := pos + x.2
    (acc + x.1.toNat * 256 ^ (i % 8) * powMod fwdP 64 fwdR (words - 1 - i / 8)) % fwdP) 0
  { c := crcMul c (crcPow 64 2 (8 * (n - pos - bs.length))), m := m }

def Fwd.add (a b : Fwd) : Fwd := { c := Nat.xor a.c b.c, m := (a.m + b.m) % fwdP }

/-- The digest of a whole stream from the sum of its pieces: m := (a·r + N) mod p. -/
def Fwd.close (a : Fwd) (n : Nat) : Fwd := { c := a.c, m := (a.m * fwdR + n) % fwdP }

/-- The 16-byte form: m, then c (R389). -/
def Fwd.bytes (a : Fwd) : List Byte := leBytes 8 a.m ++ leBytes 8 a.c

/-- Position of matrix g's first byte in the canonical stream (R388). -/
def matPos (ms : List MatEnt) (g : Nat) : Nat := canonLen (ms.take g)

/-- The weight of column j in row r of a plane image (R136). -/
def imgWeight (plane : List Byte) (r j : Nat) : Int :=
  let b := ((plane[128 * r + j / 2]?).getD 0).toNat
  signed 4 (if j % 2 = 0 then b % 16 else b / 16)

/-- What the rows of one block hold: cell values, or w of a wide pair (R138, R388). -/
def blockWeight (hi lo : List Byte) (wide : Bool) (r j : Nat) : Byte :=
  if wide then BitVec.ofInt 8 (16 * imgWeight hi r j + imgWeight lo r j + 8) else BitVec.ofInt 8 (imgWeight hi r j)

/-- The contribution of one block, from its record or pair record (R388, R391): the scales where the block is of row block
0, and each row's weights within the matrix. -/
def blockFwd (p : Package) (g rb cb : Nat) (hi lo : List Byte) : Fwd :=
  let ms := p.mats
  let m := (ms[g]?).getD {}
  let n := p.canonLen
  let base := matPos ms g
  let cols := min 256 (m.cols - 256 * cb)
  let rows := min 512 (m.rows - 512 * rb)
  let wide := m.format == 8
  let sc := if rb = 0 then fwdPiece n (base + 512 * cb) (sliceBytes hi planeLen (2 * cols)) else {}
  (List.range rows).foldl (fun acc r =>
    acc.add (fwdPiece n (base + 2 * m.cols + (512 * rb + r) * m.cols + 256 * cb)
      ((List.range cols).map (blockWeight hi lo wide r)))) sc

/-! ### The geometry of sets (R375) -/

/-- S and F: bytes of a space on each stack and in the far tier. -/
def Package.spaceS (p : Package) : Nat := ceilDiv p.setStack 4096 * 4096
def Package.spaceF (p : Package) : Nat := ceilDiv p.setFar (2 ^ 21) * 2 ^ 21

/-- n_sp of a package under a plan. -/
def Package.spaces (p : Package) (m : MemPlan) : Nat :=
  let rw := ceilDiv (m.weightsMib * 2 ^ 20) (max 1 m.stackList.length)
  let a := if p.spaceS = 0 then 8 else min 8 (rw / p.spaceS)
  if p.spaceF = 0 then a else min a (m.farTierMib * 2 ^ 20 / p.spaceF)

/-! ### Format codes (R50, R51) -/

/-- The sealed format code of matrix `mi` of layer `li`: the default, wide where default_wide makes it so, and the last
exception that names it. -/
def FormatRec.codeOf (f : FormatRec) (li mi : Nat) (norm : Bool) : Nat :=
  let wide := f.defaultWide && (li == 0 || li + 1 == f.layers || norm)
  f.exceptions.foldl (fun c e => if e.layer = li ∧ (e.matrix = 0xFF ∨ e.matrix = mi) then e.code else c)
    (if wide then 0x88 else f.defaultCode)

/-- Weight nibble of a format code (Table 2-9). -/
def weightNibble (code : Nat) : Nat := code / 16 % 16

/-- Check 4 of R376: matrix formats match their codes, and exceptions name layers and matrices that exist. -/
def loadFormatOk (p : Package) (f : FormatRec) : Bool :=
  f.exceptions.all (fun e => match p.layers[e.layer]? with
    | none => false
    | some l => e.matrix == 0xFF || decide (e.matrix < l.mats.length)) &&
  p.layers.zipIdx.all (fun l => l.1.mats.zipIdx.all (fun m => m.1.format == weightNibble (f.codeOf l.2 m.2 m.1.norm)))

/-- Check 3 of R376 for an instance without a shape. -/
def loadShapeOk (p : Package) (x : SealedInst) (coreCount : Nat) : Bool :=
  p.cores == (if x.thr.redundancy then coreCount / 2 else coreCount)
    && p.stackN == x.mem.stackList.length && p.kvLayers == x.mem.kvLayers && p.kvHeads == x.mem.kvHeads
    && p.headDim == x.mem.headDim
    && (match x.route with
      | some r => if x.inst.kind = 1 then x.fmt.layers == p.layers.length else decide (r.lastLayer < p.layers.length)
      | none => x.fmt.layers == p.layers.length)

end Sys2Proof.Machine
end

