-- ==== Sys2Proof/Machine/Sets.lean ====
section
/-!
DEFINITION. Sets of weights as reads meet them (13, R378, R382, R383, R391): where a set lies, its damage and reload, its
step digest, and the decryption of far records.
-/
namespace Sys2Proof.Machine
open Sys2Proof

def State.updWSlot (s : State) (k : Nat) (f : WSlot → WSlot) : State := { s with wslots := s.wslots.upd k f }
def State.updWInst (s : State) (i : Nat) (f : WInst → WInst) : State := { s with winsts := s.winsts.upd i f }

/-- The resident set of a slot in an instance. -/
def WInst.setOf (w : WInst) (k : Nat) : Option WSet := w.sets.find? (·.slot == k)

/-- Change the set of a slot. -/
def WInst.updSet (w : WInst) (k : Nat) (f : WSet → WSet) : WInst :=
  { w with sets := w.sets.map (fun x => if x.slot = k then f x else x) }

/-- A reload of the set of slot k is queued or running. -/
def State.reloading (s : State) (i k : Nat) : Bool := s.wloads.any (fun l => l.cause == 3 && l.inst == i && l.slot == k)

/-- A reload of the instance is running: the scheduler begins no step (R382). -/
def State.reloadRuns (s : State) (i : Nat) : Bool := s.wloads.any (fun l => l.cause == 3 && l.inst == i && l.space.isSome)

/-- A reload enters the load queue at its head: after the running load (R382). -/
def State.queueReload (s : State) (i k : Nat) : State :=
  if s.reloading i k then s else
  let l : WLoad := { slot := k, inst := i, cause := 3 }
  { s with wloads := match s.wloads with
      | x :: r => if x.space.isSome then x :: l :: r else l :: x :: r
      | [] => [l] }

/-- A weight read has completed REMOTE_FAULT: its set is damaged and fetched again (R382). `cause` is 0 poison, 1 far
tier, 2 key. -/
def State.weightReadFailed (s : State) (i k core port cause : Nat) : State :=
  let s := s.updWInst i (fun w => w.updSet k (fun x => { x with damaged := true }))
  (s.logEvent 0x4801 [(1, i), (1, k), (1, core), (1, port), (1, cause)]).queueReload i k

/-- The set whose space holds a plan address of an instance's weights region, and the offset in it (R375). -/
def State.setAtPlan (s : State) (i stk pa : Nat) : Option (WSet × Nat) :=
  let w := s.winsts.get i
  let b := (s.planOf i).bases stk
  match w.shape with
  | none => none
  | some sh =>
    if sh.s = 0 ∨ pa < b.w ∨ b.kd ≤ pa then none
    else (w.sets.find? (fun x => x.space == (pa - b.w) / sh.s)).map (fun x => (x, (pa - b.w) % sh.s))

/-- The set whose space holds a far-tier offset of an instance, and the offset in it. -/
def State.setAtFar (s : State) (i off : Nat) : Option (WSet × Nat) :=
  let w := s.winsts.get i
  match w.shape with
  | none => none
  | some sh => if sh.f = 0 then none
    else (w.sets.find? (fun x => x.space == off / sh.f)).map (fun x => (x, off % sh.f))

/-- Whether a plan address lies in an instance's weights region. -/
def State.inWeights (s : State) (i stk pa : Nat) : Bool :=
  let b := (s.planOf i).bases stk
  decide (b.w ≤ pa ∧ pa < b.kd)

/-- Records of a package's tile table with their numbers. -/
def Package.numbered (p : Package) : List (TileEnt × Nat) := p.tiles.zipIdx

/-- A read of one place of a set contributes every record and pair record that it reads whole and that has not
contributed in this step (R391). `off` is the first byte's offset in the set. -/
def WSet.tapped (x : WSet) (p : Package) (far : Bool) (pos off : Nat) (bs : List Byte) : WSet :=
  let inside := fun (t : TileEnt) (n : Nat) => t.far == far && (far || t.pos == pos)
    && decide (off ≤ 64 * t.off ∧ 64 * t.off + n ≤ off + bs.length)
  p.numbered.foldl (fun (x : WSet) t =>
    let wide := t.1.kind == 2
    if t.1.kind == 3 || x.seen.get t.2 || !inside t.1 (if wide then 2 * recordLen else recordLen) then x
    else
      let at_ := bs.drop (64 * t.1.off - off)
      let d := blockFwd p t.1.mat t.1.rb t.1.cb (at_.take recordLen) (at_.drop recordLen)
      let seen := x.seen.put t.2 true
      { x with dig := x.dig.add d, seen := if wide then seen.put (t.2 + 1) true else seen }) x

/-- Bytes of a far record area decrypted record by record (R378). -/
def Package.decrypt (p : Package) (key : BitVec 512) (off : Nat) (bs : List Byte) : List Byte :=
  p.numbered.foldl (fun bs t =>
    let a := max off (64 * t.1.off)
    let b := min (off + bs.length) (64 * t.1.off + recordLen)
    if !t.1.far || b ≤ a then bs
    else bs.take (a - off) ++ Config.xtsDecrypt key t.2 (a - 64 * t.1.off) ((bs.drop (a - off)).take (b - a)) ++ bs.drop (b - off)) bs

/-- A whole tile record decrypted (R378). -/
def Package.decryptRecord (_p : Package) (key : BitVec 512) (i : Nat) (bs : List Byte) : List Byte := Config.xtsDecrypt key i 0 bs

/-- A stack read in a weights region: the digest tap (R391). -/
def State.tapStack (s : State) (i stk pa : Nat) (bs : List Byte) : State :=
  match s.setAtPlan i stk pa with
  | none => s
  | some (x, off) =>
    let p := (s.wslots.get x.slot).pkg
    s.updWInst i (fun w => w.updSet x.slot (fun y => y.tapped p false ((s.planOf i).placeOf stk) off bs))

/-- What a far-tier read yields (R378, R382, R391). -/
inductive FarRead where
  | plain (bs : List Byte)
  | noKey (slot : Nat)
deriving DecidableEq, Repr

/-- A far-tier read in a set's space is decrypted and tapped; elsewhere its bytes pass unchanged. -/
def State.farWeights (s : State) (i off : Nat) (bs : List Byte) : State × FarRead :=
  match s.setAtFar i off with
  | none => (s, .plain bs)
  | some (x, o) =>
    let p := (s.wslots.get x.slot).pkg
    let go := fun (bs : List Byte) =>
      ((s.count64By Reg.WLD_FAR_BYTES bs.length).updWInst i (fun w => w.updSet x.slot (fun y => y.tapped p true 0 o bs)), FarRead.plain bs)
    if p.keySlot = 0xFF then go bs
    else match s.weightKeys.get p.keySlot with
      | none => (s, .noKey x.slot)
      | some k => go (p.decrypt k o bs)

/-- The stack port whose decryptor serves a far read of a set (R378). -/
def State.farDecryptor (s : State) (i off : Nat) : Nat :=
  match s.setAtFar i off with
  | none => 0
  | some (x, o) =>
    let t := (s.wslots.get x.slot).pkg.tiles.find? (fun t => t.far && decide (64 * t.off ≤ o ∧ o < 64 * t.off + recordLen))
    (((s.planOf i).stackList)[(t.map (·.pos)).getD 0]?).getD 0

end Sys2Proof.Machine
end

