-- ==== Sys2Proof/Machine/Transfers.lean ====
section
/-!
DEFINITION. Remote addresses (08, R236), transfers over the fabric (10, R296–R306), transit blocks (09, R277) and the
commands WRITE, READ, FABRIC_SIGNAL, DISPATCH, DATA, ACK, NACK, REQUEST_TIMEOUT and TRANSIT_BLOCK_GRANT. A transfer's
messages travel together, as one request (log entry 16).
-/
namespace Sys2Proof.Machine
open Sys2Proof

def State.updCluster (s : State) (c : Nat) (f : Cluster → Cluster) : State := { s with clusters := s.clusters.upd c f }

/-! ### Remote addresses (R236, R275) -/

def rSpace (a : Nat) : Nat := bits a 63 60

/-- The cluster a space-0 or space-1 address names. -/
def State.rCluster (s : State) (n a : Nat) : Nat := if rSpace a = 0 then s.clusterOf n else bits a 59 56

/-- The peer core a space-3 address names. -/
def State.rPeer (s : State) (n a : Nat) : Option Nat :=
  match (s.cores.get n).inst with
  | some i => (s.instCores i)[bits a 55 48]?
  | none => none

/-- The checks of a remote address for a transfer of `len` bytes (R236, R275), in code order. -/
def State.remoteChecks (s : State) (n a len : Nat) (outbound : Bool) : List (Nat × Bool) :=
  let i := ((s.cores.get n).inst).getD 16
  let m := s.planOf i
  let (addr, target, unsup) : Bool × Bool × Bool :=
    match rSpace a with
    | 0 => (decide ((if outbound then 0x224000 else 0x234000) < bits a 21 0 + len), false, false)
    | 1 => (decide ((if outbound then 0x224000 else 0x234000) < bits a 21 0 + len), false, false)
    | 2 =>
      let st := bits a 58 56
      if s.fuses.stackN ≤ st then (false, false, true)
      else (!m.stackList.contains st || decide ((m.bases st).stop < bits a 35 0 + len), false, false)
    | 3 => (decide (memSize (bits a 47 46) < bits a 20 0 + len), (s.rPeer n a).isNone || s.rPeer n a == some n, false)
    | 4 =>
      let p := bits a 59 56
      let role := (s.img.ports.get p).role
      (bits a 55 54 == 3 || (!outbound && bits a 55 54 != 0) || decide (0xFF00 ≤ bits a 15 0)
        || (decide (p < s.fuses.icpenPorts) && role != 1 && role != 2), false, decide (s.fuses.icpenPorts ≤ p))
    | 5 => (decide (m.farTierMib * 2 ^ 20 < bits a 39 0 + len), false, false)
    | _ => (true, false, false)
  [(0x0D, addr), (0x0E, target), (0x0F, unsup)]

/-- The node a remote address leads to. -/
def State.remoteNode (s : State) (n a : Nat) : Nat :=
  match rSpace a with
  | 2 => stackNode (bits a 58 56)
  | 3 => s.coreNode ((s.rPeer n a).getD 0)
  | 4 => icpenNode (bits a 59 56)
  | 5 => hostNode 0
  | _ => clusterNode (s.rCluster n a)

/-! ### Flights and their data -/

def State.flight (s : State) (n id : Nat) : Option Flight := (s.cores.get n).flights.find? (·.id == id)

def State.updFlight (s : State) (n id : Nat) (f : Flight → Flight) : State :=
  s.updCore n (fun c => { c with flights := c.flights.map (fun x => if x.id == id then f x else x) })

/-- The operand of a region's slot: its bytes, packed. -/
def Region.slotOpnd (r : Region) (slot : Nat) : Opnd :=
  { mem := r.mem, base := r.base + slot * r.slotBytes, count := r.slotBytes, rows := 1, stride := r.slotBytes, type := 3 }

/-- The local operand and the remote address of a transfer. -/
def State.xferEnds (s : State) (n : Nat) (f : Flight) : Option (Opnd × Nat) :=
  match f.kind with
  | .move l r _ => some (l, r)
  | .push q slot (some r) _ => some (((s.cores.get n).regions.get q).slotOpnd slot, r)
  | _ => none

/-- Whether a core's transfer passes the transit area: spaces 0x2 and 0x5 in normal organisation (R264). -/
def State.usesTransit (s : State) (n a : Nat) : Bool :=
  (rSpace a == 2 || rSpace a == 5) && (s.cores.get n).org != .unified && (s.cores.get n).org != .free

/-- A transfer's legs of 4 KiB ask for blocks: as many as fit are held at once (R277). A core holds at most 8, and the
area holds 64. -/
def State.askBlocks (s : State) (n id len : Nat) : State :=
  let c := s.clusterOf n
  let pos := (s.place n).2
  let cl := s.clusters.get c
  let inUse := (cl.transit.cells.map (·.2)).sum
  let want := min 8 ((len + 4095) / 4096)
  let now := if cl.transitWait.isEmpty then min want (min (8 - cl.transit.get pos) (64 - inUse)) else 0
  let s := s.updCluster c (fun x => { x with
    transit := x.transit.upd pos (· + now)
    transitWait := x.transitWait ++ List.replicate (want - now) pos })
  s.updFlight n id (fun f => { f with want := want - now, blocks := now })

/-- A transfer's last leg is written: its blocks are released (R277). -/
def State.freeBlocks (s : State) (n : Nat) (f : Flight) : State :=
  let pos := (s.place n).2
  s.updCluster (s.clusterOf n) (fun x => { x with
    transit := x.transit.upd pos (· - f.blocks)
    transitWait := (List.range f.want).foldl (fun l _ => l.erase pos) x.transitWait })

/-- Release a block to a waiting core, in R31's order over core positions (R277). -/
def State.grantBlock (s : State) (c : Nat) : State :=
  let cl := s.clusters.get c
  let inUse := (cl.transit.cells.map (·.2)).sum
  if 64 ≤ inUse then s else
  match roundRobin 11 cl.transitLast (fun p => cl.transitWait.contains p && decide (cl.transit.get p < 8)) with
  | none => s
  | some p =>
    let s := s.updCluster c (fun x => { x with
      transit := x.transit.upd p (· + 1), transitWait := x.transitWait.erase p, transitLast := p })
    let wants := fun (f : Flight) => decide (0 < f.want)
    let here := fun n => s.place n == (c, p) && (s.cores.get n).flights.any wants
    match (List.range s.fuses.grade).find? here with
    | none => s
    | some n => s.updCore n (fun x =>
        let k := (x.flights.findIdx? wants).getD 0
        { x with flights := x.flights.modify k (fun f => { f with want := f.want - 1, blocks := f.blocks + 1 }) })

/-- TRANSIT_BLOCK_GRANT (R277). -/
def execTransitBlockGrant (cluster : Nat) (s : State) : Out' := .next (s.grantBlock cluster)

/-! ### Loss of a pedestal (R521, R327) -/

/-- A pedestal is set FAILED: the instances whose stack_mask holds the stack stall (R521). -/
def State.pedFail (s : State) (st d1 d2 : Nat) : State :=
  if (s.peds.get st).state = 3 then s else
  let s := s.updPed st (fun p => { p with state := 3 })
  let s := s.logEvent 0x4702 [(1, st), (1, d1), (1, d2)]
  (List.range 16).foldl (fun s i => if (s.planOf i).stackList.contains st then s.stallIf i 2 st else s) s

/-- A stack-port request completes REMOTE_FAULT: the sixteenth within 1 s fails the pedestal (R521). -/
def State.stackFault (s : State) (st : Nat) : State :=
  let ts := ((s.peds.get st).faultTimes.filter (fun t => decide (s.time < t + 10 ^ 9))) ++ [s.time]
  let s := s.updPed st (fun p => { p with faultTimes := ts })
  if 16 ≤ ts.length then s.pedFail st 0xF 0xF else s

/-- The stack whose port a request of an instruction goes to: a transfer of space 0x2, or a stack-engine dispatch. -/
def FlightKind.stackPort : FlightKind → Option Nat
  | .move _ a _ => if rSpace a = 2 then some (bits a 58 56) else none
  | .push _ _ (some a) _ => if rSpace a = 2 then some (bits a 58 56) else none
  | .dispatch ped _ _ _ => some ped
  | _ => none

/-- A transfer or other request completes REMOTE_FAULT (R260): its blocks are released and its thread faults. One of a
stack port counts towards the pedestal's loss (R521). -/
def State.remoteFault (s : State) (n id : Nat) : State :=
  match s.flight n id with
  | none => s
  | some f =>
    let s := match f.kind.stackPort with
      | some st => s.stackFault st
      | none => s
    (s.freeBlocks n f).flightFault n id 0x10

/-! ### Requests at their destination -/

/-- Bytes of a core's scratchpad memory written by a peer. -/
def State.writeSpm (s : State) (n mem off : Nat) (bs : List Byte) : State :=
  s.updCore n (fun c => { c with
    spm := c.spm.store (memBase mem + off) bs
    poison := (List.range bs.length).foldl (fun p k => p.put ((memBase mem + off + k) / 8) false) c.poison })

/-- Bytes of a cluster memory written, replacing poison (R279). -/
def State.writeCluster (s : State) (c off : Nat) (bs : List Byte) : State :=
  s.updCluster c (fun x => { x with
    mem := x.mem.store off bs
    poison := (List.range bs.length).foldl (fun p k => p.put ((off + k) / 8) false) x.poison })

/-- The first uncorrectable word of a cluster memory range. -/
def Cluster.badWord (x : Cluster) (off len : Nat) : Option Nat :=
  (x.poison.cells.find? (fun c => decide (off / 8 ≤ c.1 ∧ 8 * c.1 < off + len))).map (·.1)

/-- The far-tier host port and bus address of an instance's offset (R331). A transfer over "both" starts with the first
port whose link is up. -/
def State.farPort (s : State) (i : Nat) : Option Nat :=
  let c := s.regN (Reg.FTR_CTL i)
  let up := fun p => (s.ports.get p).linkUp
  if !bit c 0 then none
  else if bits c 2 1 = 2 then (List.range s.fuses.hostPorts).find? up
  else
    let p := if bits c 2 1 = 1 then 1 else 0
    if up p then some p else none

def State.farAddr (s : State) (i off : Nat) : Nat := s.reg64 (Reg.FTR_BASE_LO i) / 2 ^ 21 * 2 ^ 21 + off

/-- A WRITE reaches its destination (R296): written and answered ACK, held, or refused. -/
def State.deliverWrite (s : State) (m : FabMsg) (n : Nat) (f : Flight) (l : Opnd) (a : Nat) : State :=
  let bs := memOpndBytes (s.cores.get n).spm l
  let i := ((s.cores.get n).inst).getD 16
  if s.usesTransit n a && f.blocks == 0 then s else
  match rSpace a with
  | 2 =>
    let st := bits a 58 56
    let (s, r) := s.stackWrite st i (bits a 35 0) bs m.src
    match r with
    | .done => (s.pedCount st (Reg.PED_PORT_WR st) bs.length true).respond m.id .ack
    | .flush key => { (s.pedCount st (Reg.PED_PORT_WR st) bs.length true) with flushing := s.flushing.put key (some m.id) }
    | .held => s
    | .refused => s.respond m.id .nackFault
  | 3 => match s.rPeer n a with
    | none => s.respond m.id .nackFault
    | some p => if (s.cores.get p).retired then s.respond m.id .nackRetry
      else (s.writeSpm p (bits a 47 46) (bits a 20 0) bs).respond m.id .ack
  | 4 => s.icpWrite m.id i l.type a bs
  | 5 => match s.farPort i with
    | some p => ((s.emit (.hostWrite p (s.farAddr i (bits a 39 0)) bs)).count64By Reg.FTR_BYTES_OUT bs.length).respond m.id .ack
    | none => if bit (s.regN (Reg.FTR_CTL i)) 0 then s else s.respond m.id .nackFault
  | _ => (s.writeCluster (s.rCluster n a) (bits a 21 0) bs).respond m.id .ack

/-- A READ reaches its destination, which answers with DATA (R296), or is refused. `far` is what a far-tier read
returned. -/
def State.deliverRead (s : State) (m : FabMsg) (n : Nat) (f : Flight) (l : Opnd) (a : Nat) (far : List Byte) : State :=
  let len := l.bytes
  let i := ((s.cores.get n).inst).getD 16
  if s.usesTransit n a && f.blocks == 0 then s else
  match rSpace a with
  | 2 =>
    let st := bits a 58 56
    let p := s.peds.get st
    if p.planPoisoned i (bits a 35 0) len then
      let s := match s.setAtPlan i st (bits a 35 0) with
        | some x => s.weightReadFailed i x.1.slot n st 0
        | none => s
      s.respond m.id .nackFault
    else
      let bs := p.planRead i (bits a 35 0) len
      let s := s.tapStack i st (bits a 35 0) bs
      (s.pedCount st (Reg.PED_PORT_RD st) len true).respond m.id (.data bs)
  | 3 => match s.rPeer n a with
    | none => s.respond m.id .nackFault
    | some p => if (s.cores.get p).retired then s.respond m.id .nackRetry
      else s.respond m.id (.data ((s.cores.get p).spm.bytes (memBase (bits a 47 46) + bits a 20 0) len))
  | 4 => s.icpRead m.id l.type a (memOpndBytes (s.cores.get n).spm l)
  | 5 => match s.farPort i with
    | some p =>
      let off := bits a 39 0
      if far.length = len then
        let s := s.count64By Reg.FTR_BYTES_IN len
        match s.farWeights i off far with
        | (s, .plain bs) => s.respond m.id (.data bs)
        | (s, .noKey k) => (s.weightReadFailed i k n (s.farDecryptor i off) 2).respond m.id .nackFault
      else
        let s := (s.count Reg.FTR_ERRORS).logEvent 0x6702 [(1, i), (1, p), (1, 0)]
        let s := match s.setAtFar i off with
          | some x => s.weightReadFailed i x.1.slot n (s.farDecryptor i off) 1
          | none => s
        s.respond m.id .nackFault
    | none => if bit (s.regN (Reg.FTR_CTL i)) 0 then s else s.respond m.id .nackFault
  | _ =>
    let c := s.rCluster n a
    let x := s.clusters.get c
    match x.badWord (bits a 21 0) len with
    | some w =>
      let s := (s.count (Reg.CLM_UE c)).updCluster c (fun y => { y with errAddr := 2 * 2 ^ 30 + 8 * w })
      (s.logEvent 0x4502 [(1, c), (4, 8 * w), (1, n)]).respond m.id .nackFault
    | none => s.respond m.id (.data (x.mem.bytes (bits a 21 0) len))

/-- WRITE (R296). A copy of a request already answered is a duplicate (R300). -/
def execWrite (msg : Nat) (s : State) : Out' :=
  .next (match s.msg msg with
    | none => s
    | some m => match m.body, m.resp with
      | .write _ _, some r => s.duplicate m r
      | .write n id, none => match s.flight n id with
        | some f => match s.xferEnds n f with
          | some (l, a) => s.deliverWrite m n f l a
          | none => s
        | none => s.dropMsg msg
      | _, _ => s)

/-- READ (R296). -/
def execRead (msg : Nat) (far : List Byte) (s : State) : Out' :=
  .next (match s.msg msg with
    | none => s
    | some m => match m.body, m.resp with
      | .read _ _, some r => s.duplicate m r
      | .read n id, none => match s.flight n id with
        | some f => match s.xferEnds n f with
          | some (l, a) => s.deliverRead m n f l a far
          | none => s
        | none => s.dropMsg msg
      | _, _ => s)

/-- An increment from outside a core, also added to the checkpoint of its latest complete pair (R224). -/
def State.outerEvc (s : State) (n e k : Nat) : State :=
  let bump := fun (m : Mirror) => if m.complete then { m with evc := m.evc.upd e (· + BitVec.ofNat 32 k) } else m
  (s.updCore n (fun c => if c.mirrorBank = 0 then { c with mirror0 := bump c.mirror0 }
    else { c with mirror1 := bump c.mirror1 })).addEvc n e k

/-- A MOVE to a core's scratchpads or to a cluster memory (R218). -/
def State.movesTo (s : State) (n d : Nat) : FlightKind → Bool
  | .move _ a _ => rSpace a ≤ 1 || (rSpace a == 3 && s.rPeer n a == some d)
  | _ => false

/-- FABRIC_SIGNAL (R296): delivered only after every earlier WRITE of the same thread is acknowledged (R218, R300). -/
def execFabricSignal (msg : Nat) (s : State) : Out' :=
  .next (match s.msg msg with
    | none => s
    | some m => match m.body, m.resp with
      | .signal _ _ _ _ _, some r => s.duplicate m r
      | .signal n t d e k, none =>
        let earlier := s.msgs.any (fun x => decide (x.id < m.id) && match x.body with
          | .write n' id => n' == n && x.resp != some .ack && ((s.flight n' id).any (fun f =>
              f.thread == t && s.movesTo n d f.kind))
          | _ => false)
        if earlier then s
        else if (s.cores.get d).retired then s.respond msg .nackRetry
        else (s.outerEvc d e k).respond msg .ack
      | _, _ => s)

/-- DISPATCH (R296): a stack-engine dispatch joins its pedestal's queue (R254), a handoff its samplers' (R251). -/
def execDispatch (msg : Nat) (s : State) : Out' :=
  .next (match s.msg msg with
    | none => s
    | some m => match m.body, m.resp with
      | .dispatch _ _, some r => s.duplicate m r
      | .dispatch n id, none => match s.flight n id with
        | some f => match f.kind with
          | .dispatch p e param result =>
            let job : Dispatch := { core := n, thread := f.thread, flight := id, entry := e
                                    param := memOpndBytes (s.cores.get n).spm param, result := result }
            (s.updPed p (fun x => { x with waiting := x.waiting ++ [job] })).respond msg .ack
          | .handoff row vocab o =>
            let h : Handoff := { core := n, flight := id, row := row, vocab := vocab, o := o }
            ({ s with handoffs := s.handoffs ++ [h] }).respond msg .ack
          | _ => s
        | none => s.dropMsg msg
      | _, _ => s)

/-- DATA returns a read's bytes to its requester, which writes them (R296). -/
def execData (msg : Nat) (s : State) : Out' :=
  .next (match s.msg msg with
    | none => s
    | some m => match m.body, m.resp with
      | .read n id, some (.data bs) =>
        let s := s.dropMsg msg
        match s.flight n id with
        | some f => match s.xferEnds n f with
          | some (l, _) =>
            let s := s.updCore n (fun c => { c with spm := memSetOpndBytes c.spm l bs })
            (s.freeBlocks n f).updFlight n id (fun x => { x with acked := true, want := 0, blocks := 0 })
          | none => s
        | none => s
      | _, _ => s)

/-- ACK completes a request at its requester (R296). -/
def execAck (msg : Nat) (s : State) : Out' :=
  .next (match s.msg msg with
    | none => s
    | some m => match m.body, m.resp with
      | .write n id, some .ack =>
        let s := s.dropMsg msg
        match s.flight n id with
        | some f => (s.freeBlocks n f).updFlight n id (fun x => { x with acked := true, want := 0, blocks := 0 })
        | none => s
      | _, some .ack => s.dropMsg msg
      | _, _ => s)

/-- NACK: the requester sends the request again at once, or the operation completes REMOTE_FAULT (R296, R344, R515). -/
def execNack (msg : Nat) (s : State) : Out' :=
  .next (match s.msg msg with
    | none => s
    | some m => match m.resp with
      | some .nackRetry =>
        let dst := match m.body with
          | .signal _ _ d _ _ => s.coreNode d
          | _ => m.dst
        s.updMsg msg (fun x => { x with resp := none, dst := dst })
      | some .nackFault =>
        let s := s.dropMsg msg
        match m.body with
        | .write n id => s.remoteFault n id
        | .read n id => s.remoteFault n id
        | .dispatch n id => s.remoteFault n id
        | .signal _ _ _ _ _ => s
      | _ => s)

/-- REQUEST_TIMEOUT (R306): sent once more on the other network, and failed at the second timeout. A response that is
registered wins. -/
def execRequestTimeout (msg : Nat) (s : State) : Out' :=
  .next (match s.msg msg with
    | none => s
    | some m =>
      if m.resp.isSome then s
      else if !m.resent then
        let s := (s.fabCount Reg.FAB_RESENT 1 false).updMsg msg (fun x => { x with resent := true, net := 1 - m.net })
        s.logEvent 0x2602 [(2, m.src), (2, m.dst), (4, msg % 2 ^ 24)]
      else
        let s := ((s.fabCount Reg.FAB_FAILED 1 false).dropMsg msg).logEvent 0x4601 [(2, m.src), (2, m.dst), (4, msg % 2 ^ 24)]
        match m.body with
        | .write n id => s.remoteFault n id
        | .read n id => s.remoteFault n id
        | .dispatch n id => s.remoteFault n id
        | .signal _ _ _ _ _ => s)

end Sys2Proof.Machine
end

