-- ==== Sys2Proof/Machine/IsaScalar.lean ====
section
/-!
DEFINITION. Scalar, branch, status, event-counter and control instructions (08, R237–R241, R247, R252). `w` holds an
instruction's bits [53:0]: the guard and the body; class and op are the command's.
-/
namespace Sys2Proof.Machine
open Sys2Proof

/-! ### Scalar (R237, Tables 8-6 and 8-7) -/

/-- The second operand: imm32 sign-extended when imm is set, otherwise sb. -/
def State.op2 (s : State) (u : Exec) (w : Nat) : W64 :=
  if bit w 37 then (BitVec.ofNat 32 (bits w 31 0)).signExtend 64 else s.sreg u (bits w 41 38)

/-- A scalar op that writes sd. -/
def scalarOp (u : Exec) (w : Nat) (s : State) (f : W64 → W64 → W64) : State :=
  issue s u w { engineOk := true, fieldsOk := zeroBits w 36 32 }
    (fun t => t.setS u (bits w 49 46) (f (s.sreg u (bits w 45 42)) (s.op2 u w)))

/-- A compare that writes pd; d must be 0. -/
def compareOp (u : Exec) (w : Nat) (s : State) (f : W64 → W64 → Bool) : State :=
  issue s u w { engineOk := true, fieldsOk := zeroBits w 49 46 && zeroBits w 33 32 }
    (fun t => t.setP u (bits w 36 34) (f (s.sreg u (bits w 45 42)) (s.op2 u w)))

/-- A predicate op on pa and pb; d and bits [45] and [41] must be 0. -/
def predOp (u : Exec) (w : Nat) (s : State) (one : Bool) (f : Bool → Bool → Bool) : State :=
  issue s u w { engineOk := true
                fieldsOk := zeroBits w 49 45 && zeroBits w 41 41 && zeroBits w 33 32 && (!one || zeroBits w 40 38) }
    (fun t => t.setP u (bits w 36 34) (f ((s.ctx u).pred (bits w 44 42)) ((s.ctx u).pred (bits w 40 38))))

/-- ADD: sd := sa + op2, modulo 2⁶⁴ (R237). -/
def execAdd (u : Exec) (w : Nat) (s : State) : Out' := .next (scalarOp u w s (fun a b => a + b))

/-- SUB: sd := sa − op2 (R237). -/
def execSub (u : Exec) (w : Nat) (s : State) : Out' := .next (scalarOp u w s (fun a b => a - b))

/-- MUL: the low 64 bits of sa × op2 (R237). -/
def execMul (u : Exec) (w : Nat) (s : State) : Out' := .next (scalarOp u w s (fun a b => a * b))

/-- AND (R237). -/
def execAnd (u : Exec) (w : Nat) (s : State) : Out' := .next (scalarOp u w s (fun a b => a &&& b))

/-- OR (R237). -/
def execOr (u : Exec) (w : Nat) (s : State) : Out' := .next (scalarOp u w s (fun a b => a ||| b))

/-- XOR (R237). -/
def execXor (u : Exec) (w : Nat) (s : State) : Out' := .next (scalarOp u w s (fun a b => a ^^^ b))

/-- SHL: shift left by bits [5:0] (R237). -/
def execShl (u : Exec) (w : Nat) (s : State) : Out' := .next (scalarOp u w s (fun a b => a <<< (b.toNat % 64)))

/-- SHR: shift right, zero fill (R237). -/
def execShr (u : Exec) (w : Nat) (s : State) : Out' := .next (scalarOp u w s (fun a b => a >>> (b.toNat % 64)))

/-- SAR: shift right, sign fill (R237). -/
def execSar (u : Exec) (w : Nat) (s : State) : Out' := .next (scalarOp u w s (fun a b => a.sshiftRight (b.toNat % 64)))

/-- MIN: signed minimum (R237). -/
def execMin (u : Exec) (w : Nat) (s : State) : Out' := .next (scalarOp u w s (fun a b => if a.slt b then a else b))

/-- MAX: signed maximum (R237). -/
def execMax (u : Exec) (w : Nat) (s : State) : Out' := .next (scalarOp u w s (fun a b => if a.slt b then b else a))

/-- MOVI and MOVHI hold a = b = 0 and imm = 1. -/
def moviFields (w : Nat) : Bool := zeroBits w 36 32 && zeroBits w 45 38 && bit w 37

/-- MOVI: sd := imm32 sign-extended (R237). -/
def execMovi (u : Exec) (w : Nat) (s : State) : Out' :=
  .next (issue s u w { engineOk := true, fieldsOk := moviFields w }
    (fun t => t.setS u (bits w 49 46) ((BitVec.ofNat 32 (bits w 31 0)).signExtend 64)))

/-- MOVHI: sd[63:32] := imm32, sd[31:0] kept (R237). -/
def execMovhi (u : Exec) (w : Nat) (s : State) : Out' :=
  .next (issue s u w { engineOk := true, fieldsOk := moviFields w }
    (fun t => t.setS u (bits w 49 46)
      (BitVec.ofNat 64 ((s.sreg u (bits w 49 46)).toNat % 2 ^ 32 + 2 ^ 32 * bits w 31 0))))

/-- CMPEQ (R237). -/
def execCmpeq (u : Exec) (w : Nat) (s : State) : Out' := .next (compareOp u w s (fun a b => a == b))

/-- CMPNE (R237). -/
def execCmpne (u : Exec) (w : Nat) (s : State) : Out' := .next (compareOp u w s (fun a b => a != b))

/-- CMPLT, signed (R237). -/
def execCmplt (u : Exec) (w : Nat) (s : State) : Out' := .next (compareOp u w s (fun a b => a.slt b))

/-- CMPLE, signed (R237). -/
def execCmple (u : Exec) (w : Nat) (s : State) : Out' := .next (compareOp u w s (fun a b => a.sle b))

/-- CMPLTU, unsigned (R237). -/
def execCmpltu (u : Exec) (w : Nat) (s : State) : Out' := .next (compareOp u w s (fun a b => a.ult b))

/-- PAND (R237). -/
def execPand (u : Exec) (w : Nat) (s : State) : Out' := .next (predOp u w s false (fun a b => a && b))

/-- POR (R237). -/
def execPor (u : Exec) (w : Nat) (s : State) : Out' := .next (predOp u w s false (fun a b => a || b))

/-- PNOT (R237). -/
def execPnot (u : Exec) (w : Nat) (s : State) : Out' := .next (predOp u w s true (fun a _ => !a))

/-! ### Branch (R238) -/

/-- Bits [28:0] of a branch body are unassigned. -/
def branchReq (w : Nat) : IssueReq := { engineOk := true, fieldsOk := zeroBits w 28 0 }

/-- BR: jump to target (R238). -/
def execBr (u : Exec) (w : Nat) (s : State) : Out' :=
  .next (issue s u w (branchReq w) (fun t => t.setPc u (bits w 49 37)))

/-- CALL: s(link) := program counter + 1, then jump (R238). -/
def execCall (u : Exec) (w : Nat) (s : State) : Out' :=
  .next (issue s u w (branchReq w)
    (fun t => (t.setS u (bits w 32 29) (BitVec.ofNat 64 ((s.ctx u).pc + 1))).setPc u (bits w 49 37)))

/-- JR: jump to bits [12:0] of sa (R238). -/
def execJr (u : Exec) (w : Nat) (s : State) : Out' :=
  .next (issue s u w (branchReq w) (fun t => t.setPc u (s.sreg u (bits w 36 33)).toNat))

/-- LOOP: sa := sa − 1, and jump when the new sa is not 0 (R238). -/
def execLoop (u : Exec) (w : Nat) (s : State) : Out' :=
  .next (issue s u w (branchReq w) (fun t =>
    let v := s.sreg u (bits w 36 33) - 1
    let t := t.setS u (bits w 36 33) v
    if v = 0 then t else t.setPc u (bits w 49 37)))

/-! ### Status (R239, Table 8-8) -/

/-- The instance a unit works for. -/
def State.instOf (s : State) : Exec → Option Nat
  | .core n _ => (s.cores.get n).inst
  | .engine p t => (s.cores.get (s.engines.get (engKey p t)).job.core).inst

/-- The value of an SREAD source; none where the source is reserved for the unit (log entry 15). -/
def State.statusValue (s : State) (u : Exec) (src e : Nat) : Option Nat :=
  match src with
  | 1 => some s.time
  | 2 => some (((s.instOf u).map (fun i => (s.insts.get i).stepsSeal)).getD 0)
  | _ =>
    match u with
    | .engine _ _ => none
    | .core n _ =>
      match src with
      | 0 => some ((s.cores.get n).evc.get e).toNat
      | 3 => some n
      | 4 => some (s.cores.get n).layer
      | 5 => some (((s.instOf u).map (fun i => (s.insts.get i).paramOff)).getD 0)
      | _ => none

/-- SREAD: sd := the selected status value (R239). -/
def execSread (u : Exec) (w : Nat) (s : State) : Out' :=
  let v := s.statusValue u (bits w 45 42) (bits w 41 36)
  .next (issue s u w { engineOk := true, fieldsOk := zeroBits w 35 0 && v.isSome }
    (fun t => t.setS u (bits w 49 46) (BitVec.ofNat 64 (v.getD 0))))

/-! ### Event counters (R240, R241) -/

/-- The value a WAIT names (R240). -/
def State.waitValue (s : State) (u : Exec) (w : Nat) : Nat :=
  let r : Nat := if bit w 43 then (s.sreg u (bits w 42 39)).toNat % 2 ^ 32 else 0
  unsigned 32 ((r : Int) + signed 12 (bits w 38 27))

/-- WAIT: continue with pd := 1 when the condition holds, otherwise WAITING (R216, R240, Table 7-2). -/
def execWait (u : Exec) (w : Nat) (s : State) : Out' :=
  .next (issue s u w {} (fun t =>
    match u with
    | .engine _ _ => t
    | .core n _ =>
      let v := s.waitValue u w
      if waitTrue ((s.cores.get n).evc.get (bits w 49 44)) v then t.setP u (bits w 2 0) true
      else t.updCtx u (fun th => { th with
        state := .waiting, waitE := bits w 49 44, waitV := v, waitP := bits w 2 0, waitT := bits w 26 3 })))

/-- Cores a SIGNAL selects (R241); none where the index lies outside the instance. -/
def State.signalTargets (s : State) (n kind idx : Nat) : Option (List Nat) :=
  match kind with
  | 0 => some [n]
  | 1 => match (s.cores.get n).inst with
    | some i => ((s.instCores i)[idx]?).map (fun c => [c])
    | none => none
  | _ => match (s.cores.get n).inst with
    | some i => some (s.instCores i)
    | none => some [n]

/-- Deliver a SIGNAL: to the issuing core at once, to another core as a SIGNAL message (R218, R241). -/
def State.sendSignal (s : State) (n t e amount : Nat) (cs : List Nat) : State :=
  if amount = 0 then s else
  cs.foldl (fun s c => if c = n then s.addEvc n e amount
    else (s.inject (.signal n t c e amount) (s.coreNode n) (s.coreNode c)).1) s

/-- A SIGNAL of kind 1 or 2 counts in the outbound ledger, and a ledgered one after a restore is skipped: it acts on the
issuing core alone (R517). -/
def State.ledgerSignal (s : State) (n t kind e amount : Nat) (cs : List Nat) : State :=
  if kind = 0 then s.sendSignal n t e amount cs
  else if 0 < (s.cores.get n).skipSig.get t then
    (s.updCore n (fun c => { c with skipSig := c.skipSig.upd t (· - 1) })).sendSignal n t e amount (if kind = 2 then [n] else [])
  else (s.updCore n (fun c => { c with ledSig := c.ledSig.upd t (· + 1) })).sendSignal n t e amount cs

/-- SIGNAL: add amount to EVC(e) of the selected cores (R241). -/
def execSignal (u : Exec) (w : Nat) (s : State) : Out' :=
  match u with
  | .engine _ _ => .next (issue s u w {} id)
  | .core n th =>
    let ts := s.signalTargets n (bits w 43 42) (s.sreg u (bits w 41 38)).toNat
    .next (issue s u w { fieldsOk := zeroBits w 29 0 && bits w 43 42 != 3
                         checks := [(0x04, decide (bits w 49 44 < 2)), (0x0E, ts.isNone)] }
      (fun t => t.ledgerSignal n th (bits w 43 42) (bits w 49 44) (bits w 37 30) (ts.getD [])))

/-! ### Control (R252) and chisel configuration (R247) -/

/-- NOP: one issue slot (R252). -/
def execNop (u : Exec) (w : Nat) (s : State) : Out' :=
  .next (issue s u w { engineOk := true, fieldsOk := zeroBits w 49 0 } id)

/-- An engine thread ends and its dispatch retires (R250, R258). -/
def State.endDispatch (s : State) (p t : Nat) : State :=
  let e := s.engines.get (engKey p t)
  let s := { s with engines := s.engines.put (engKey p t) { e with busy := false, ctx := { e.ctx with state := .halted } } }
  s.retireWake e.job.core e.job.flight

/-- HALT: the thread is HALTED; on a stack engine the thread and its dispatch end (R252, R258). -/
def execHalt (u : Exec) (w : Nat) (s : State) : Out' :=
  .next (issue s u w { engineOk := true, fieldsOk := zeroBits w 49 0 } (fun t =>
    match u with
    | .core _ _ => t.updCtx u (fun th => { th with state := .halted })
    | .engine p th => t.endDispatch p th))

/-- What a FENCE scope waits for (Table 8-18). -/
def fenceHolds (scope : Nat) (f : Flight) : Bool :=
  (bit scope 0 && !f.writes.isEmpty) ||
  (bit scope 1 && (match f.kind with | .move _ _ inb => !inb | .push _ _ r _ => r.isSome | _ => false)) ||
  (bit scope 2 && (match f.kind with | .dispatch _ _ _ _ => true | .handoff _ _ _ => true | _ => false)) ||
  (bit scope 3 && (match f.kind with | .plane _ => true | .swap _ => true | _ => false))

/-- FENCE: issues only when every earlier instruction of the thread in its scope has retired (R252). -/
def execFence (u : Exec) (w : Nat) (s : State) : Out' :=
  let thr := match u with
    | .core _ t => t
    | .engine _ t => t
  .next (issue s u w { fieldsOk := zeroBits w 49 4 && bits w 3 0 != 0
                       unitFree := (s.flightsOf u).all (fun f => f.thread != thr || !fenceHolds (bits w 3 0) f) } id)

/-- The layer a LAYER marker names (R252). -/
def State.layerNamed (s : State) (u : Exec) (w : Nat) : Nat :=
  ((if bit w 36 then (s.sreg u (bits w 35 32)).toNat else 0) + bits w 31 22) % 1024

/-- PLOADs of a core whose back plane is not complete, as transfer records in issue order (R284, Table 9-9). -/
def State.unfinishedLoads (s : State) (n : Nat) : List Xfer :=
  let fl := (s.cores.get n).flights
  let ls := (List.range 13).flatMap (fun p => (s.arrays.get (16 * n + p)).loads)
  (fl.filterMap (fun f => match f.kind, ls.find? (fun l => l.flight == f.id) with
    | .plane pos, some l =>
      let src : Opnd := { base := l.src.getD 0, count := 65536, type := 3 }
      some { flight := f.id, isLoad := true, zero := l.src.isNone, pos := pos, l := src, thread := f.thread }
    | _, _ => none))

/-- LAYER: open the layer barrier; the mirror of the named input range and the checkpoint begin (R222, R223, R252). -/
def execLayer (u : Exec) (w : Nat) (s : State) : Out' :=
  match u with
  | .engine _ _ => .next (issue s u w {} id)
  | .core n _ =>
    let r := s.resolve u (bits w 49 37) false
    .next (issue s u w { fieldsOk := zeroBits w 21 0
                         checks := opndChecks [r] ++ [(0x09, decide (65536 < r.o.bytes))] }
      (fun t => t.updCore n (fun c => { c with barrier := some (s.layerNamed u w, r.o), marked := s.unfinishedLoads n })))

/-- Width codes of a CHISEL body, by group (R247). -/
def chiselWidths (w : Nat) : List Nat := (List.range 8).map (fun g => bits w (31 + 2 * g) (30 + 2 * g))

/-- CHISEL: the outlier level and the group input widths for strikes latched from now on (R225, R247). -/
def execChisel (u : Exec) (w : Nat) (s : State) : Out' :=
  match u with
  | .engine _ _ => .next (issue s u w {} id)
  | .core n _ =>
    let l := bits w 49 46
    .next (issue s u w { fieldsOk := zeroBits w 29 0 && decide (1 ≤ l ∧ l ≤ 8) && (chiselWidths w).all (· != 3) }
      (fun t => t.updCore n (fun c => { c with level := l, widths := chiselWidths w })))

end Sys2Proof.Machine
end

