-- ==== Sys2Proof/Machine/Transc.lean ====
section
/-!
DEFINITION. The bounded functions of Table 5-9: an evaluation in fixed point with 128 fraction bits, whose own error is
far below one part of any bound, and the free deviation that the bound allows (log entry 5).
-/
namespace Sys2Proof

/-- A fixed-point number with 128 fraction bits, rounded down. -/
def fxOf : Fp → Int
  | .nan => 0
  | .fin n m e =>
    let v : Int := if 0 ≤ e + 128 then (m * 2 ^ (e + 128).toNat : Nat) else (m / 2 ^ (-(e + 128)).toNat : Nat)
    if n then -v else v

def fxTo (x : Int) : Fp := .fin (decide (x < 0)) x.natAbs (-128)

def fxOne : Int := 2 ^ 128

def fxMul (a b : Int) : Int := a * b / 2 ^ 128

def fxDiv (a b : Int) : Int := a * 2 ^ 128 / b

/-- ln 2. -/
def fxLn2 : Int := 235865763225513294137944142764154484399

/-- √(2/π). -/
def fxRoot2Pi : Int := 271506046879672464325182014351570923903

/-- Σ r^i / i! from the term after `t`, `i`. -/
def fxExpTerms (r : Int) : Nat → Nat → Int → Int
  | 0, _, _ => 0
  | n + 1, i, t => let t' := fxMul t r / (i : Int); t' + fxExpTerms r n (i + 1) t'

/-- eˣ as an exact value, for |x| below 2¹⁰. -/
def fxExp (x : Int) : Fp :=
  let k := x / fxLn2
  let r := x % fxLn2
  .fin false (fxOne + fxExpTerms r 40 1 fxOne).natAbs (k - 128)

/-- Σ z^(2i+1) / (2i + 1). -/
def fxAtanhTerms (z2 : Int) : Nat → Nat → Int → Int
  | 0, _, _ => 0
  | n + 1, i, t => t / (2 * i + 1 : Int) + fxAtanhTerms z2 n (i + 1) (fxMul t z2)

/-- ln of m · 2^e, m > 0. -/
def fxLog (m : Nat) (e : Int) : Int :=
  let l := bitLen m
  let y : Int := if l ≤ 129 then (m * 2 ^ (129 - l) : Nat) else (m / 2 ^ (l - 129) : Nat)
  let z := fxDiv (y - fxOne) (y + fxOne)
  2 * fxAtanhTerms (fxMul z z) 45 0 z + (e + (l : Int) - 1) * fxLn2

/-- 1 / (1 + e⁻ˣ), fixed point. -/
def fxSig (x : Int) : Int := fxDiv fxOne (fxOne + fxOf (fxExp (-(clampInt (-(80 * fxOne)) (80 * fxOne) x))))

/-- tanh x = 2 · sig(2x) − 1. -/
def fxTanh (x : Int) : Int := 2 * fxSig (2 * x) - fxOne

/-- The tanh form of GELU: x / 2 · (1 + tanh(√(2/π) · (x + 0.044715 x³))). -/
def fxGelu (x : Int) : Int :=
  let x3 := fxMul (fxMul x x) x
  fxMul x (fxOne + fxTanh (clampInt (-(64 * fxOne)) (64 * fxOne)
    (fxMul fxRoot2Pi (x + x3 * 44715 / 1000000)))) / 2

/-- One unit in the last place of FP32 at a value's magnitude. -/
def ulp32 : Fp → Fp
  | .nan => .nan
  | .fin _ m e => .fin false 1 (max (-149) (e + (bitLen m : Int) - 24))

/-- An exact value moved by at most `bound`, as the free value n says: every FP32 value within the bound is some n's. -/
def Fp.near (x bound : Fp) (n : Nat) : Fp :=
  let k : Int := (n % (2 ^ 201 + 1) : Nat) - 2 ^ 200
  x.add ((Fp.fin (decide (k < 0)) k.natAbs (-200)).mul bound)

/-- k · ulp_FP32(x). -/
def ulps (k : Nat) (x : Fp) : Fp := (Fp.ofInt k).mul (ulp32 x)

end Sys2Proof
end

