-- ==== Sys2Proof/Machine/IsaVector.lean ====
section
/-!
DEFINITION. Vector instructions (08, R242, R243, Tables 8-9 to 8-11) with the arithmetic of R146 and R147 and the
bounds of Table 5-9. The destination is written as the instruction issues; its ranges stay held until it retires, so no
other instruction can see the difference (R210, R211).
-/
namespace Sys2Proof.Machine
open Sys2Proof

/-- One destination element and what it counts (Table 5-4). -/
structure VElem where
  bits : Nat := 0
  sat : Bool := false
  dom : Bool := false
  nan : Bool := false
deriving DecidableEq, Repr, Inhabited

/-- The exact value of an element of a type: 0 BF16, 1 FP32, 2 INT32. -/
def typeVal (ty x : Nat) : Fp :=
  if ty = 0 then FFmt.bf16.dec x else if ty = 2 then Fp.ofInt (signed 32 x) else FFmt.fp32.dec x

/-- A floating result rounded once to a BF16 or FP32 destination, clamped and counted (R146, R147). -/
def vRound (ty : Nat) (v : Fp) : VElem :=
  let r := (if ty = 0 then FFmt.bf16 else FFmt.fp32).enc v
  { bits := r.bits, sat := r.sat, nan := v.isNan }

/-- The largest finite value of a destination type with a sign, counted as a domain case (Table 5-4). -/
def vLargest (ty : Nat) (neg : Bool) : VElem :=
  let f := if ty = 0 then FFmt.bf16 else FFmt.fp32
  { bits := f.maxBits + (if neg then 2 ^ (f.frac + 8) else 0), dom := true }

/-- +0, counted as a domain case. -/
def vZeroDom : VElem := { dom := true }

def fpNegative : Fp → Bool
  | .nan => false
  | .fin n m _ => n && m != 0

def fpSign : Fp → Bool
  | .nan => false
  | .fin n _ _ => n

/-- An INT32 result, saturated (R146, R147). -/
def vInt (i : Int) : VElem :=
  let c := clampInt (-(2 ^ 31)) (2 ^ 31 - 1) i
  { bits := unsigned 32 c, sat := c != i }

/-- A conversion (VCVT). A NaN converted to INT32 has no stated result: a free value (log entry 5). -/
def vCvt (tyA tyD a : Nat) : VElem :=
  let v := typeVal tyA a
  if tyD = 2 then
    (if tyA = 2 then { bits := a } else
    match v.toInt with
    | some i => vInt i
    | none => { bits := Config.vecFn 0x06 a 0 % 2 ^ 32, nan := true })
  else vRound tyD v

/-- a / b with the special cases of Table 5-4. -/
def vDiv (ty n : Nat) (a b : Fp) : VElem :=
  if a.isNan || b.isNan then vRound ty .nan
  else if b.isZero then (if a.isZero then vZeroDom else vLargest ty (fpSign a))
  else
    let q := a.quot b
    vRound ty (q.near (ulps 1 q) n)

/-- 1 / √a with the special cases of Table 5-4. -/
def vRsqrt (ty n : Nat) (a : Fp) : VElem :=
  if a.isNan then vRound ty .nan
  else if a.isZero then vLargest ty false
  else if fpNegative a then vZeroDom
  else
    let q := (Fp.ofInt 1).quot a.root
    vRound ty (q.near (ulps 1 q) n)

/-- √a with the special cases of Table 5-4. -/
def vSqrt (ty n : Nat) (a : Fp) : VElem :=
  if a.isNan then vRound ty .nan
  else if fpNegative a then vZeroDom
  else if a.isZero then vRound ty a
  else
    let q := a.root
    vRound ty (q.near (ulps 1 q) n)

/-- eˣ: exp(0) is 1 (R257); a result beyond the largest finite value is clamped (Table 5-4). -/
def fpExp (n : Nat) (x : Fp) : Fp :=
  if x.isNan then .nan
  else if x.isZero then Fp.ofInt 1
  else if (Fp.ofInt 1000).lt x then .fin false 1 1000
  else if x.lt (Fp.ofInt (-1000)) then .fin false 0 0
  else
    let e := fxExp (fxOf x)
    e.near (ulps 2 e) n

/-- The largest of 4 ulp_FP32 and 2⁻²² (Table 5-9). -/
def gateBound (x : Fp) : Fp := Fp.max (ulps 4 x) (.fin false 1 (-22))

/-- The element function of a one-source floating op other than the reciprocals. -/
def vFn (op ty a : Nat) (x : Fp) : VElem :=
  let n := Config.vecFn op a 0
  if x.isNan then vRound ty .nan else
  match op with
  | 0x0C => vRound ty (fpExp n x)
  | 0x0D => vRound ty (if (Fp.ofInt 1000).lt x then .fin false 1 1000 else if x.lt (Fp.ofInt (-1000)) then .fin false 0 0
      else let e := fxExp (fxMul (fxOf x) fxLn2); e.near (ulps 2 e) n)
  | 0x0E => match x with
    | .fin false m e => if m = 0 then vLargest ty true else let l := fxTo (fxLog m e); vRound ty (l.near (ulps 2 l) n)
    | _ => vLargest ty true
  | 0x10 => let t := fxTo (fxTanh (clampInt (-(64 * fxOne)) (64 * fxOne) (fxOf x))); vRound ty (t.near (gateBound t) n)
  | 0x11 => let t := fxTo (fxSig (fxOf x)); vRound ty (t.near (gateBound t) n)
  | 0x12 => let t := fxTo (fxMul (fxOf x) (fxSig (fxOf x))); vRound ty (t.near (gateBound t) n)
  | _ => let t := fxTo (fxGelu (fxOf x)); vRound ty (t.near (gateBound t) n)

/-- INT32 operations (R146, R242). VIMUL's and VISHL's saturation are log entry 14. -/
def vIntOp (op a b : Nat) : VElem :=
  let x := signed 32 a
  let y := signed 32 b
  match op with
  | 0x20 => vInt (x + y)
  | 0x21 => vInt (x - y)
  | 0x22 => if Config.vimulSaturates then vInt (x * y) else { bits := unsigned 32 (x * y) }
  | 0x23 => { bits := a &&& b }
  | 0x24 => { bits := a ||| b }
  | 0x25 => { bits := a ^^^ b }
  | 0x26 => if Config.vishlSaturates then vInt (x * 2 ^ (b % 32)) else { bits := unsigned 32 (x * 2 ^ (b % 32)) }
  | _ => { bits := unsigned 32 (x / 2 ^ (b % 32)) }

/-- One destination element of an elementwise op: the operands' and the destination's types and bits; d is the
destination's old element. -/
def vElem (op tyA tyB tyD a b d : Nat) : VElem :=
  if 0x20 ≤ op then vIntOp op a b else
  let x := typeVal tyA a
  let y := typeVal tyB b
  match op with
  | 0x00 => vRound tyD (x.add y)
  | 0x01 => vRound tyD (x.sub y)
  | 0x02 => vRound tyD (x.mul y)
  | 0x03 => vRound tyD ((x.mul y).add (typeVal tyD d))
  | 0x04 => vRound tyD (Fp.max x y)
  | 0x05 => vRound tyD (Fp.min x y)
  | 0x06 => vCvt tyA tyD a
  | 0x07 => vDiv tyD (Config.vecFn op a b) x y
  | 0x08 => vDiv tyD (Config.vecFn op a 0) (Fp.ofInt 1) x
  | 0x09 => vSqrt tyD (Config.vecFn op a 0) x
  | 0x0A => vRsqrt tyD (Config.vecFn op a 0) x
  | _ => vFn op tyD a x

/-- Which ops take two sources. -/
def twoSource (op : Nat) : Bool := op ≤ 5 || op == 7 || op == 0x14 || op == 0x1A || decide (0x20 ≤ op)

/-- The reductions. -/
def isReduction (op : Nat) : Bool := op == 0x18 || op == 0x19 || op == 0x1A

/-- Ops a stack engine has (Table 8-11). -/
def engineVec (op : Nat) : Bool := op ≤ 6 || [0x08, 0x0C, 0x18, 0x19, 0x1A, 0x20].contains op

/-- Operand types of Table 8-10. -/
def vTypes (op : Nat) (a b d : Opnd) : Bool :=
  let okF := fun (o : Opnd) => decide (o.type ≤ 1)
  if op = 6 then decide (a.type ≤ 2 ∧ d.type ≤ 2)
  else if 0x20 ≤ op then a.type == 2 && b.type == 2 && d.type == 2
  else okF a && okF d && (!twoSource op || okF b)

/-- A source's element for destination element k of a shape rows × count (R235); none where the shape does not match. -/
def srcForm (o : Opnd) (count rows : Nat) (rowb : Bool) : Option (Nat → Nat) :=
  if rowb then (if o.elems = rows then some (fun k => k / max 1 count) else none)
  else if o.elems = count * rows then some id
  else if o.elems = 1 then some (fun _ => 0)
  else if o.elems = count ∧ o.rows = 1 then some (fun k => k % max 1 count)
  else none

/-- The shapes of an instruction: how each source is indexed (R235, R243). A reduction's shape is its source's. -/
def vShape (op : Nat) (a b d : Opnd) (rowb : Bool) : Option ((Nat → Nat) × (Nat → Nat)) :=
  if isReduction op then
    if d.elems = a.rows then (if op = 0x1A then (srcForm b a.count a.rows rowb).map (fun g => (id, g)) else some (id, id))
    else none
  else if op = 0x14 ∧ d.count % 2 ≠ 0 then none
  else match srcForm a d.count d.rows false with
    | none => none
    | some f => if twoSource op then (srcForm b d.count d.rows rowb).map (fun g => (f, g)) else some (f, id)

/-- The elements of VROPE's pair i (Table 8-11, within the bound of Table 5-9). -/
def vRope (tyA tyB tyD i a0 a1 b0 b1 : Nat) : VElem :=
  let x0 := typeVal tyA a0
  let x1 := typeVal tyA a1
  let c := typeVal tyB b0
  let s := typeVal tyB b1
  let v := if i % 2 = 0 then (x0.mul c).sub (x1.mul s) else (x0.mul s).add (x1.mul c)
  let bound := (x0.abs.add x1.abs).mul (.fin false 1 (-22))
  vRound tyD (v.near bound (Config.vecFn 0x14 (a0 * 2 ^ 32 + a1) ((b0 * 2 ^ 32 + b1) * 2 + i % 2)))

/-- The destination elements of an instruction. -/
def vResults (m : Memory) (op : Nat) (a b d : Opnd) (f g : Nat → Nat) : List VElem :=
  let ea := fun k => memElem m a (f k)
  let eb := fun k => memElem m b (g k)
  if isReduction op then
    (List.range a.rows).map (fun r =>
      let terms := (List.range a.count).map (fun c =>
        let k := r * a.count + c
        let x := typeVal a.type (ea k)
        if op = 0x1A then x.mul (typeVal b.type (eb k)) else x)
      vRound d.type (if op = 0x19 then maxList terms else sumTree terms))
  else if op = 0x14 then
    (List.range d.elems).map (fun k =>
      let p := k / 2 * 2
      vRope a.type b.type d.type k (ea p) (ea (p + 1)) (eb p) (eb (p + 1)))
  else (List.range d.elems).map (fun k => vElem op a.type b.type d.type (ea k) (if twoSource op then eb k else 0)
    (if op = 3 then memElem m d k else 0))

/-- Add a core instruction's counts (Table 5-4, R148). -/
def State.vCounts (s : State) (u : Exec) (rs : List VElem) : State :=
  match u with
  | .engine _ _ => s
  | .core n _ =>
    let cnt := fun (p : VElem → Bool) => (rs.filter p).length
    let s := s.fmtClamps n (Reg.FMT_VEC_SAT n) (cnt (·.sat)) true
    let s := s.fmtClamps n (Reg.FMT_VEC_DOMAIN n) (cnt (·.dom)) true
    s.fmtNans n (cnt (·.nan)) true

/-- A vector instruction of op `op` (R242). -/
def vectorOp (op : Nat) (u : Exec) (w : Nat) (s : State) : State :=
  let a := s.resolve u (bits w 49 37) false
  let b := s.resolve u (bits w 36 24) false
  let d := s.resolve u (bits w 23 11) true
  let two := twoSource op
  let os := if two then [a, b, d] else [a, d]
  let sh := vShape op a.o b.o d.o (bit w 10)
  issue s u w
    { engineOk := engineVec op
      fieldsOk := zeroBits w 9 0 && (two || zeroBits w 36 24)
      checks := opndChecks os ++ [(0x08, !vTypes op a.o b.o d.o), (0x09, sh.isNone)]
      reads := (if two then [a.o.range, b.o.range] else [a.o.range]) ++ (if op = 3 then [d.o.range] else [])
      writes := [d.o.range]
      unitFree := s.queueFree u 4 FlightKind.isVector }
    (fun t =>
      let (f, g) := sh.getD (id, id)
      let m := s.opMem u
      let rs := vResults m op a.o b.o d.o f g
      let t := t.setOpMem u (memSetElems m d.o 0 (rs.map (·.bits)))
      let t := t.vCounts u rs
      match u with
      | .core n th => t.enter n th .vector ((if two then [a.o.range, b.o.range] else [a.o.range])) [d.o.range] none
      | .engine _ _ => t)

/-- VADD: a + b (Table 8-11). -/
def execVadd (u : Exec) (w : Nat) (s : State) : Out' := .next (vectorOp 0x00 u w s)

/-- VSUB: a − b (Table 8-11). -/
def execVsub (u : Exec) (w : Nat) (s : State) : Out' := .next (vectorOp 0x01 u w s)

/-- VMUL: a × b (Table 8-11). -/
def execVmul (u : Exec) (w : Nat) (s : State) : Out' := .next (vectorOp 0x02 u w s)

/-- VFMA: a × b + d, one rounding (Table 8-11). -/
def execVfma (u : Exec) (w : Nat) (s : State) : Out' := .next (vectorOp 0x03 u w s)

/-- VMAX: max(a, b) (Table 8-11). -/
def execVmax (u : Exec) (w : Nat) (s : State) : Out' := .next (vectorOp 0x04 u w s)

/-- VMIN: min(a, b) (Table 8-11). -/
def execVmin (u : Exec) (w : Nat) (s : State) : Out' := .next (vectorOp 0x05 u w s)

/-- VCVT: conversion, to INT32 to nearest even and saturating (Table 8-11). -/
def execVcvt (u : Exec) (w : Nat) (s : State) : Out' := .next (vectorOp 0x06 u w s)

/-- VDIV: a / b (Table 8-11). -/
def execVdiv (u : Exec) (w : Nat) (s : State) : Out' := .next (vectorOp 0x07 u w s)

/-- VRCP: 1 / a (Table 8-11). -/
def execVrcp (u : Exec) (w : Nat) (s : State) : Out' := .next (vectorOp 0x08 u w s)

/-- VSQRT: √a (Table 8-11). -/
def execVsqrt (u : Exec) (w : Nat) (s : State) : Out' := .next (vectorOp 0x09 u w s)

/-- VRSQRT: 1 / √a (Table 8-11). -/
def execVrsqrt (u : Exec) (w : Nat) (s : State) : Out' := .next (vectorOp 0x0A u w s)

/-- VEXP: eᵃ (Table 8-11). -/
def execVexp (u : Exec) (w : Nat) (s : State) : Out' := .next (vectorOp 0x0C u w s)

/-- VEXP2: 2ᵃ (Table 8-11). -/
def execVexp2 (u : Exec) (w : Nat) (s : State) : Out' := .next (vectorOp 0x0D u w s)

/-- VLOG: ln a (Table 8-11). -/
def execVlog (u : Exec) (w : Nat) (s : State) : Out' := .next (vectorOp 0x0E u w s)

/-- VTANH: tanh a (Table 8-11). -/
def execVtanh (u : Exec) (w : Nat) (s : State) : Out' := .next (vectorOp 0x10 u w s)

/-- VSIG: 1 / (1 + e⁻ᵃ) (Table 8-11). -/
def execVsig (u : Exec) (w : Nat) (s : State) : Out' := .next (vectorOp 0x11 u w s)

/-- VSILU: a / (1 + e⁻ᵃ) (Table 8-11). -/
def execVsilu (u : Exec) (w : Nat) (s : State) : Out' := .next (vectorOp 0x12 u w s)

/-- VGELU: GELU of a, tanh form (Table 8-11). -/
def execVgelu (u : Exec) (w : Nat) (s : State) : Out' := .next (vectorOp 0x13 u w s)

/-- VROPE: rotation of pairs (Table 8-11). -/
def execVrope (u : Exec) (w : Nat) (s : State) : Out' := .next (vectorOp 0x14 u w s)

/-- VSUM: sum of each row (Table 8-11). -/
def execVsum (u : Exec) (w : Nat) (s : State) : Out' := .next (vectorOp 0x18 u w s)

/-- VRMAX: largest element of each row (Table 8-11). -/
def execVrmax (u : Exec) (w : Nat) (s : State) : Out' := .next (vectorOp 0x19 u w s)

/-- VDOT: dot product of each row (Table 8-11). -/
def execVdot (u : Exec) (w : Nat) (s : State) : Out' := .next (vectorOp 0x1A u w s)

/-- VIADD: a + b, saturating (Table 8-11). -/
def execViadd (u : Exec) (w : Nat) (s : State) : Out' := .next (vectorOp 0x20 u w s)

/-- VISUB: a − b, saturating (Table 8-11). -/
def execVisub (u : Exec) (w : Nat) (s : State) : Out' := .next (vectorOp 0x21 u w s)

/-- VIMUL: product (Table 8-11). -/
def execVimul (u : Exec) (w : Nat) (s : State) : Out' := .next (vectorOp 0x22 u w s)

/-- VIAND: bitwise and (Table 8-11). -/
def execViand (u : Exec) (w : Nat) (s : State) : Out' := .next (vectorOp 0x23 u w s)

/-- VIOR: bitwise or (Table 8-11). -/
def execVior (u : Exec) (w : Nat) (s : State) : Out' := .next (vectorOp 0x24 u w s)

/-- VIXOR: bitwise exclusive or (Table 8-11). -/
def execVixor (u : Exec) (w : Nat) (s : State) : Out' := .next (vectorOp 0x25 u w s)

/-- VISHL: left shift by bits [4:0] of b (Table 8-11). -/
def execVishl (u : Exec) (w : Nat) (s : State) : Out' := .next (vectorOp 0x26 u w s)

/-- VISAR: arithmetic right shift by bits [4:0] of b (Table 8-11). -/
def execVisar (u : Exec) (w : Nat) (s : State) : Out' := .next (vectorOp 0x27 u w s)

end Sys2Proof.Machine
end

