-- ==== Sys2Proof/Machine/IsaEngine.lean ====
section
/-!
DEFINITION. Engine instructions of a core: strike, plane, move, region, dispatch and handoff (08, R244–R251); and the
softmax and return instructions of a stack engine with ENGINE_THREAD_START (R254, R256–R258).
-/
namespace Sys2Proof.Machine
open Sys2Proof

/-! ### Strikes (R244, R245) -/

def arrKey (n pos : Nat) : Nat := 16 * n + pos
def State.arr (s : State) (n pos : Nat) : Arr := s.arrays.get (arrKey n pos)
def State.updArr (s : State) (n pos : Nat) (f : Arr → Arr) : State := { s with arrays := s.arrays.upd (arrKey n pos) f }

/-- The array that works for a position: the spare array where it stands in or takes over (R187, R510). -/
def State.arrFor (s : State) (n pos : Nat) : Nat :=
  if (s.arr n pos).stand || s.arrTakeovers.any (fun t => t.core == n && t.pos == pos) then 12 else pos

/-- The input stage's queue of 8 STRIKEs has a free entry (Table 7-1): the first STRIKE with a strike that does not fit in
its array's queue of 4 is in the input stage, and so are those issued after it (log entry 101). -/
def State.strikeFree (s : State) (n : Nat) : Bool :=
  let waits := fun (j : StrikeJob) => (List.range 13).any (fun a => ((s.arr n a).queue.drop 4).any (·.flight == j.flight))
  decide (((s.cores.get n).jobs.dropWhile (fun j => !waits j)).length < 8)

/-- GSET (R244): defines a group for the STRIKEs issued after it. -/
def execGset (u : Exec) (w : Nat) (s : State) : Out' :=
  match u with
  | .engine _ _ => .next (issue s u w {} id)
  | .core n _ =>
    let g : Group := { defined := true, mask := bits w 46 35, wide := bit w 34, psum := bit w 33, scale := bits w 32 25
                       psumDesc := bits w 24 17, dst := bits w 16 9 }
    .next (issue s u w { fieldsOk := zeroBits w 8 0, unitFree := s.strikeFree n } (fun t => t.updCore n (fun c => { c with groups := c.groups.put (bits w 49 47) g })))

/-- Member positions of a mask, ascending. -/
def maskPositions (mask : Nat) : List Nat := (List.range 12).filter (fun p => bit mask p)

/-- A mask of whole pairs 2k, 2k + 1 (R138). -/
def pairMask (mask : Nat) : Bool := (List.range 6).all (fun k => bit mask (2 * k) == bit mask (2 * k + 1))

/-- A 256-element descriptor of one of some types. -/
def is256 (o : Opnd) (types : List Nat) : Bool := o.elems == 256 && types.contains o.type

/-- The group is set, valid, and its width is the one CHISEL set (R244, R245). -/
def groupOk (g : Group) (width : Nat) (scale psum dst : Opnd) : Bool :=
  g.defined && g.mask != 0 && (!g.wide || pairMask g.mask) && is256 scale [0] && is256 dst [0, 1]
    && (!g.psum || is256 psum [0, 1]) && (if g.wide then width == 2 else decide (width < 2))

/-- Cut a vector into slices of 512 elements. -/
def slices512 : Nat → List Nat → List (List Nat)
  | 0, _ => []
  | k + 1, xs => xs.take 512 :: slices512 k (xs.drop 512)

/-- A value as an offset: s(reg) when the flag is set, else 0. -/
def State.regOff (s : State) (u : Exec) (on : Bool) (r : Nat) : Int := if on then (s.sreg u r).toInt else 0

/-- Queue one slice's strikes at its members (R245). -/
def State.queueSlice (s : State) (n flight g b slice : Nat) (ps : List Nat) (x : List Nat) : State :=
  ps.foldl (fun s p =>
    let k : Strike := { pos := p, flight := flight, slice := slice, group := g, b := b, x := x }
    let s := s.updCore n (fun c => { c with
      jobs := c.jobs.map (fun j => if j.flight == flight then { j with kept := j.kept ++ [k] } else j) })
    s.updArr n (s.arrFor n p) (fun a => { a with queue := a.queue ++ [{ k with afterSwap := a.swapPending }] })) s

/-- STRIKE (R245): every slice goes to its member or pair, in ascending position. -/
def execStrike (u : Exec) (w : Nat) (s : State) : Out' :=
  match u with
  | .engine _ _ => .next (issue s u w {} id)
  | .core n t =>
    let gi := bits w 49 47
    let c := s.cores.get n
    let g := c.groups.get gi
    let src := s.resolve u (bits w 46 34) false
    let dst := s.resolveAt u g.dst (s.regOff u (bit w 33) (bits w 32 29)) true
    let psum := s.resolveAt u g.psumDesc (s.regOff u (bit w 28) (bits w 27 24)) false
    let scale := s.resolveAt u g.scale 0 false
    let ops := if g.defined then (if g.psum then [src, scale, psum, dst] else [src, scale, dst]) else [src]
    let width := (c.widths[gi]?).getD 1
    let ps := maskPositions g.mask
    let k := if g.wide then ps.length / 2 else ps.length
    let ok := groupOk g width scale.o psum.o dst.o
    let cen := bit w 17
    let rd := if g.psum then [src.o.range, scale.o.range, psum.o.range] else [src.o.range, scale.o.range]
    .next (issue s u w
      { fieldsOk := zeroBits w 16 0
        checks := (0x04, evcBad cen (bits w 23 18)) :: opndChecks ops ++
          [(0x08, src.o.type != 0), (0x09, ok && (decide (src.o.elems ≤ 512 * (k - 1)) || decide (512 * k < src.o.elems))), (0x0A, !ok)]
        reads := rd, writes := [dst.o.range], unitFree := s.strikeFree n }
      (fun s' =>
        let id := c.nextFlight
        let s' := s'.enter n t (.strike gi k) rd [dst.o.range] (evcOf cen (bits w 23 18))
        let job : StrikeJob := { flight := id, mask := g.mask, wide := g.wide, scale := scale.o
                                 psum := if g.psum then some psum.o else none, dst := dst.o }
        let s' := s'.updCore n (fun c => { c with jobs := c.jobs ++ [job] })
        let b := if width = 0 then 2 else if width = 1 then 4 else 8
        (slices512 k (memElems c.spm src.o)).zipIdx.foldl (fun s' x =>
          let members := if g.wide then (ps.drop (2 * x.2)).take 2 else (ps.drop x.2).take 1
          s'.queueSlice n id gi b x.2 members x.1) s'))

/-! ### Planes (R246) -/

/-- PLOAD (R246). -/
def execPload (u : Exec) (w : Nat) (s : State) : Out' :=
  match u with
  | .engine _ _ => .next (issue s u w {} id)
  | .core n t =>
    let pos := bits w 49 46
    let zero := bit w 32
    let src := s.resolve u (bits w 45 33) false
    let o := src.o
    let bad := o.mem != 0 || o.type != 3 || o.transpose || o.bytes != 65536 || (decide (1 < o.rows) && o.stride != o.count)
    let cen := bit w 25
    let rd := if zero then [] else [o.range]
    .next (issue s u w
      { fieldsOk := zeroBits w 24 0 && decide (pos < 12) && (!zero || bits w 45 33 == 0)
        checks := (0x04, evcBad cen (bits w 31 26)) :: (if zero then [] else opndChecks [src] ++ [(0x0B, bad)])
        reads := rd, unitFree := s.queueFree u 16 FlightKind.isLoad }
      (fun s' =>
        let id := (s.cores.get n).nextFlight
        let s' := s'.enter n t (.plane pos) rd [] (evcOf cen (bits w 31 26))
        s'.updArr n (s'.arrFor n pos) (fun a => { a with
          loads := a.loads ++ [{ flight := id, src := if zero then none else some o.base }] })))

/-- PSWAP (R246): a request merges with one already pending. -/
def execPswap (u : Exec) (w : Nat) (s : State) : Out' :=
  match u with
  | .engine _ _ => .next (issue s u w {} id)
  | .core n t =>
    let mask := bits w 49 38
    let cen := bit w 31
    .next (issue s u w { fieldsOk := zeroBits w 30 0, checks := [(0x04, evcBad cen (bits w 37 32))] }
      (fun s' =>
        let id := (s.cores.get n).nextFlight
        let s' := s'.enter n t (.swap mask) [] [] (evcOf cen (bits w 37 32))
        let s' := (maskPositions mask).foldl (fun s' p => s'.updArr n (s'.arrFor n p) (fun a => { a with swapPending := true })) s'
        if mask = 0 then s'.retireWake n id else s'))

/-! ### Moves (R248) -/

/-- The range an operand holds as a source or as a destination. -/
def rw (inbound : Bool) (o : Opnd) : List Range × List Range := if inbound then ([], [o.range]) else ([o.range], [])

/-- A transfer is sent as a request to its remote address; where no route is left it completes REMOTE_FAULT (R309). -/
def State.sendXfer (s : State) (n id a len : Nat) (inbound : Bool) : State :=
  let s := if s.usesTransit n a then s.askBlocks n id len else s
  let (s, ok) := s.inject (if inbound then .read n id else .write n id) (s.coreNode n) (s.remoteNode n a)
  if ok then s else s.remoteFault n id

/-- A thread's ledgered transfer is skipped after a restore: it retires at issue without acting (R517). -/
def Core.skips (c : Core) (t : Nat) : Bool := decide (0 < c.skipMov.get t)

/-- MOVE (R248). -/
def execMove (u : Exec) (w : Nat) (s : State) : Out' :=
  match u with
  | .engine _ _ => .next (issue s u w {} id)
  | .core n t =>
    let inb := bit w 32
    let l := s.resolve u (bits w 49 37) inb
    let a := (s.sreg u (bits w 36 33)).toNat
    let cen := bit w 25
    let (rd, wr) := rw inb l.o
    .next (issue s u w
      { fieldsOk := zeroBits w 24 0
        checks := (0x04, evcBad cen (bits w 31 26)) :: opndChecks [l] ++ s.remoteChecks n a l.o.bytes (!inb)
        reads := rd, writes := wr, unitFree := s.queueFree u 16 FlightKind.isMove }
      (fun s' =>
        let id := (s.cores.get n).nextFlight
        let s' := s'.enter n t (.move l.o a inb) rd wr (evcOf cen (bits w 31 26))
        if !inb && (s.cores.get n).skips t then
          (s'.updCore n (fun c => { c with skipMov := c.skipMov.upd t (· - 1) })).retireWake n id
        else
          let x : Xfer := { flight := id, l := l.o, remote := a, thread := t }
          let s' := if inb && l.o.mem == 0 then s'.updCore n (fun c => { c with
            recentMoves := (c.recentMoves ++ [x]).drop ((c.recentMoves.length + 1) - 16) }) else s'
          s'.sendXfer n id a l.o.bytes inb))

/-! ### Circular regions (R249, R270–R272) -/

def State.updRegion (s : State) (n q : Nat) (f : Region → Region) : State := s.updCore n (fun c => { c with regions := c.regions.upd q f })

/-- Next slot index (R271). -/
def Region.nextSlot (r : Region) (p : Nat) : Nat := (p + 1) % max 1 r.slots

/-- PUSH (R249): fills the slot at the head. -/
def execPush (u : Exec) (w : Nat) (s : State) : Out' :=
  match u with
  | .engine _ _ => .next (issue s u w {} id)
  | .core n t =>
    let q := bits w 49 46
    let loc := bit w 45
    let r := (s.cores.get n).regions.get q
    let a := (s.sreg u (bits w 44 41)).toNat
    let l := s.resolve u (bits w 40 28) false
    let cen := bit w 21
    let slot := r.slotOpnd r.head
    let rd := if loc then [l.o.range] else []
    .next (issue s u w
      { fieldsOk := zeroBits w 20 0
        checks := (0x04, evcBad cen (bits w 27 22)) :: (if loc then opndChecks [l] else []) ++
          [(0x0C, !r.configured || (loc && l.o.bytes != r.slotBytes))] ++
          (if loc then [] else s.remoteChecks n a r.slotBytes false)
        reads := rd, writes := [slot.range]
        unitFree := r.state.get r.head == .empty && s.queueFree u 16 FlightKind.isMove }
      (fun s' =>
        let id := (s.cores.get n).nextFlight
        let s' := s'.enter n t (.push q r.head (if loc then none else some a) l.o) rd [slot.range] (evcOf cen (bits w 27 22))
        let s' := s'.updRegion n q (fun r => { r with state := r.state.put r.head .filling, head := r.nextSlot r.head })
        if loc then s' else s'.sendXfer n id a r.slotBytes true))

/-- POP (R249): takes the oldest filled slot; sd := its offset from the region's base. -/
def execPop (u : Exec) (w : Nat) (s : State) : Out' :=
  match u with
  | .engine _ _ => .next (issue s u w {} id)
  | .core n t =>
    let q := bits w 49 46
    let r := (s.cores.get n).regions.get q
    let slot := r.slotOpnd r.take
    .next (issue s u w
      { fieldsOk := zeroBits w 41 0, checks := [(0x0C, !r.configured)], reads := [slot.range]
        unitFree := r.state.get r.take == .filled }
      (fun s' =>
        let s' := s'.enter n t (.pop q r.take) [slot.range] [] none
        let s' := s'.updRegion n q (fun r => { r with
          state := r.state.put r.take .taken, owner := r.owner.put r.take (t + 1), take := r.nextSlot r.take })
        s'.setS u (bits w 45 42) (BitVec.ofNat 64 (r.take * r.slotBytes))))

/-- Tail advances over every RELEASED slot in ring order; each becomes FREE (Table 9-4). -/
def Region.advance : Nat → Region → Region
  | 0, r => r
  | k + 1, r => if r.state.get r.tail = .released then
      Region.advance k { r with state := r.state.put r.tail .empty, tail := r.nextSlot r.tail } else r

/-- DROP (R249): releases the oldest slot of q that the thread holds; its POP retires. -/
def execDrop (u : Exec) (w : Nat) (s : State) : Out' :=
  match u with
  | .engine _ _ => .next (issue s u w {} id)
  | .core n t =>
    let q := bits w 49 46
    let mine := fun (f : Flight) => f.thread == t && (match f.kind with | .pop q' _ => q' == q | _ => false)
    let held := (s.cores.get n).flights.find? mine
    .next (issue s u w { fieldsOk := zeroBits w 45 0, checks := [(0x0C, held.isNone)] }
      (fun s' =>
        match held with
        | none => s'
        | some f =>
          let slot := match f.kind with | .pop _ k => k | _ => 0
          let s' := s'.updRegion n q (fun r => Region.advance r.slots { r with
            state := r.state.put slot .released, owner := r.owner.put slot 0 })
          s'.retireWake n f.id))

/-! ### Dispatch and handoff (R250, R251) -/

/-- SEDISPATCH (R250). -/
def execSedispatch (u : Exec) (w : Nat) (s : State) : Out' :=
  match u with
  | .engine _ _ => .next (issue s u w {} id)
  | .core n t =>
    let ped := if bit w 49 then (s.sreg u (bits w 48 45)).toNat % 8 else bits w 47 45
    let here := decide (ped < s.fuses.stackN)
    let e := bits w 44 39
    let param := s.resolve u (bits w 38 26) false
    let result := s.resolve u (bits w 25 13) true
    let cen := bit w 6
    .next (issue s u w
      { fieldsOk := zeroBits w 5 0 && (bit w 49 || !bit w 48) && (!here || ((s.peds.get ped).entries.get e).isSome)
        checks := (0x04, evcBad cen (bits w 12 7)) :: opndChecks [param, result] ++
          [(0x09, decide (4096 < param.o.bytes)), (0x0F, !here)]
        reads := [param.o.range], writes := [result.o.range], unitFree := s.queueFree u 8 FlightKind.isDispatch }
      (fun s' =>
        let id := (s.cores.get n).nextFlight
        let s' := s'.enter n t (.dispatch ped e param.o result.o) [param.o.range] [result.o.range] (evcOf cen (bits w 12 7))
        let (s', ok) := s'.inject (.dispatch n id) (s'.coreNode n) (stackNode ped)
        if ok then s' else s'.remoteFault n id))

/-- SHAND (R251). -/
def execShand (u : Exec) (w : Nat) (s : State) : Out' :=
  match u with
  | .engine _ _ => .next (issue s u w {} id)
  | .core n t =>
    let o := s.resolve u (bits w 49 37) false
    let row := (s.sreg u (bits w 36 33)).toNat
    let vocab := (s.sreg u (bits w 32 29)).toNat
    let cen := bit w 22
    .next (issue s u w
      { fieldsOk := zeroBits w 21 0
        checks := (0x04, evcBad cen (bits w 28 23)) :: opndChecks [o] ++ [(0x08, decide (1 < o.o.type))]
        reads := [o.o.range], unitFree := s.queueFree u 4 FlightKind.isHandoff }
      (fun s' =>
        let id := (s.cores.get n).nextFlight
        let s' := s'.enter n t (.handoff row vocab o.o) [o.o.range] [] (evcOf cen (bits w 28 23))
        let (s', ok) := s'.inject (.dispatch n id) (s'.coreNode n) (samplerNode 0)
        if ok then s' else s'.remoteFault n id))

/-! ### Softmax (R256, R257, Tables 8-20 and 8-21) -/

/-- A state operand's head dimension d; 0 where its shape is wrong (R256). -/
def stateDim (o : Opnd) : Nat := if [68, 132, 260].contains o.count then o.count - 4 else 0

/-- An FP32 element at row r, column k. -/
def f32At (m : Memory) (o : Opnd) (r k : Nat) : Fp := FFmt.fp32.dec (memElem m o (r * o.count + k))

def bitsAt (m : Memory) (o : Opnd) (r k : Nat) : Nat := memElem m o (r * o.count + k)

/-- A softmax row: m, l, c, flags and o, as bits (Table 8-20). -/
structure SoftRow where
  m : Nat := 0
  l : Nat := 0
  c : Nat := 0
  flags : Nat := 0
  o : List Nat := []
deriving DecidableEq, Repr, Inhabited

def softRow (mem : Memory) (st : Opnd) (r : Nat) : SoftRow :=
  { m := bitsAt mem st r 0, l := bitsAt mem st r 1, c := bitsAt mem st r 2, flags := bitsAt mem st r 3
    o := (List.range (stateDim st)).map (fun k => bitsAt mem st r (4 + k)) }

def SoftRow.empty (x : SoftRow) : Bool := bit x.flags 0

/-- Write the rows of a state operand. -/
def putSoft (mem : Memory) (st : Opnd) (rows : List SoftRow) : Memory :=
  memSetElems mem st 0 (rows.flatMap (fun x => x.m :: x.l :: x.c :: x.flags :: x.o))

def f32 (b : Nat) : Fp := FFmt.fp32.dec b
def b32 (v : Fp) : Nat := (FFmt.fp32.enc v).bits

/-- e^(a − b), within the bound of a softmax weight (Table 5-9), `n` the free deviation. -/
def expDiff (n : Nat) (a b : Fp) : Nat :=
  let d := a.sub b
  if d.isNan then FFmt.fp32.nanBits
  else if d.isZero then 0x3F800000
  else
    let e := fpExp n d
    b32 (e.near (e.mul (.fin false 1 (-21))) n)

/-- A sum of products taken in ascending token order in FP32, within the bound of an attention output (Table 5-9). -/
def boundedSum (n : Nat) (ts : List Fp) : Nat :=
  let v := ts.foldl Fp.add (.fin false 0 0)
  let mag : Fp := ts.foldl (fun (a t : Fp) => a.add t.abs) (.fin false 0 0)
  b32 (v.near (mag.mul (.fin false 20 (-23))) n)

/-- SINIT: every row empty (R257). -/
def sinit (u : Exec) (w : Nat) (s : State) : State :=
  let st := s.resolve u (bits w 49 37) true
  issue s u w
    { engineOk := true, coreOk := false, fieldsOk := zeroBits w 36 0
      checks := opndChecks [st] ++ [(0x08, st.o.type != 1), (0x09, stateDim st.o == 0)] }
    (fun t => t.setOpMem u (putSoft (s.opMem u) st.o (List.replicate st.o.rows
      { flags := 1, o := List.replicate (stateDim st.o) 0 })))

/-- One row of SSTEP: the weights and the new state (R257). -/
def sstepRow (n : Nat) (x : SoftRow) (scores : List Nat) (lo hi : Nat) : List Nat × SoftRow :=
  let u := scores.zipIdx.filter (fun p => decide (lo ≤ p.2 ∧ p.2 ≤ hi))
  match u with
  | [] => (scores.map (fun _ => 0), { x with c := 0x3F800000 })
  | _ =>
    let mb := maxList (u.map (fun p => f32 p.1))
    let mnew := if x.empty then mb else Fp.max (f32 x.m) mb
    let c := if x.empty then 0 else expDiff (Config.free (n + 1)) (f32 x.m) mnew
    (scores.zipIdx.map (fun p => if lo ≤ p.2 ∧ p.2 ≤ hi then expDiff (Config.free (n + 2 + p.2)) (f32 p.1) mnew else 0),
     { x with m := b32 mnew, c := c, flags := x.flags &&& 0xFFFFFFFE })

/-- SSTEP (R257). -/
def sstep (u : Exec) (w : Nat) (s : State) : State :=
  let sc := s.resolve u (bits w 49 37) true
  let st := s.resolve u (bits w 36 24) true
  let wi := s.resolve u (bits w 23 11) false
  let wreg := bit w 10
  let d := stateDim st.o
  issue s u w
    { engineOk := true, coreOk := false, fieldsOk := zeroBits w 5 0
      checks := opndChecks (if wreg then [sc, st] else [sc, st, wi]) ++
        [(0x08, sc.o.type != 1 || st.o.type != 1 || (!wreg && wi.o.type != 2)),
         (0x09, d == 0 || sc.o.rows != st.o.rows || decide (16 < sc.o.count) || (!wreg && wi.o.elems != st.o.rows))] }
    (fun t =>
      let m := s.opMem u
      let base := 2 ^ 20 * s.freeCtr
      let rs := (List.range st.o.rows).map (fun r =>
        let win := if wreg then (s.sreg u (bits w 9 6)).toNat else memElem m wi.o r
        sstepRow (base + 32 * r) (softRow m st.o r) ((List.range sc.o.count).map (bitsAt m sc.o r)) (bits win 4 0) (bits win 12 8))
      let m := memSetElems m sc.o 0 (rs.flatMap (·.1))
      (t.setOpMem u (putSoft m st.o (rs.map (·.2)))).draw)

/-- SACC: o := c·o + Σ p·v, l := c·l + Σ p, c := 1 (R257). -/
def sacc (u : Exec) (w : Nat) (s : State) : State :=
  let p := s.resolve u (bits w 49 37) false
  let v := s.resolve u (bits w 36 24) false
  let st := s.resolve u (bits w 23 11) true
  let d := stateDim st.o
  issue s u w
    { engineOk := true, coreOk := false, fieldsOk := zeroBits w 10 0
      checks := opndChecks [p, v, st] ++ [(0x08, p.o.type != 1 || v.o.type != 1 || st.o.type != 1),
        (0x09, d == 0 || p.o.rows != st.o.rows || v.o.rows != p.o.count || v.o.count != d || decide (16 < p.o.count))] }
    (fun t =>
      let m := s.opMem u
      let base := 2 ^ 20 * s.freeCtr
      let rs := (List.range st.o.rows).map (fun r =>
        let x := softRow m st.o r
        let ws := (List.range p.o.count).map (fun k => f32 (bitsAt m p.o r k))
        let c := f32 x.c
        let o := x.o.zipIdx.map (fun y => boundedSum (Config.free (base + 512 * r + y.2 + 1))
          (c.mul (f32 y.1) :: ws.zipIdx.map (fun z => z.1.mul (f32 (bitsAt m v.o z.2 y.2)))))
        { x with o := o, l := boundedSum (Config.free (base + 512 * r)) (c.mul (f32 x.l) :: ws), c := 0x3F800000 })
      (t.setOpMem u (putSoft m st.o rs)).draw)

/-- SNORM writes o / l, or 0 for an empty row, and marks EMPTY_ATTENTION for the dispatch's sequence (R257, R361). -/
def snorm (u : Exec) (w : Nat) (s : State) : State :=
  let st := s.resolve u (bits w 49 37) false
  let out := s.resolve u (bits w 36 24) true
  let d := stateDim st.o
  issue s u w
    { engineOk := true, coreOk := false, fieldsOk := zeroBits w 20 0
      checks := opndChecks [st, out] ++ [(0x08, st.o.type != 1 || decide (1 < out.o.type)),
        (0x09, d == 0 || out.o.rows != st.o.rows || out.o.count != d)] }
    (fun t =>
      let m := s.opMem u
      let base := 2 ^ 20 * s.freeCtr
      let rows := (List.range st.o.rows).map (softRow m st.o)
      let vals := rows.zipIdx.flatMap (fun x => x.1.o.zipIdx.map (fun y =>
        if x.1.empty then 0
        else (vDiv out.o.type (Config.free (base + 512 * x.2 + y.2)) (f32 y.1) (f32 x.1.l)).bits))
      let anyEmpty := rows.any (·.empty)
      let t := (t.setOpMem u (memSetElems m out.o 0 vals)).draw
      let t := t.setP u (bits w 23 21) anyEmpty
      match u with
      | .core _ _ => t
      | .engine p th =>
        if !anyEmpty then t else
        match (t.cores.get (t.engines.get (engKey p th)).job.core).inst with
        | none => t
        | some i =>
          let q := leField (t.engines.get (engKey p th)).job.param 0 2 % 4096
          if t.emptyMarks.get (seqKey i q) then t
          else { t.count64 Reg.KVM_EMPTY with emptyMarks := t.emptyMarks.put (seqKey i q) true })

/-- One row of SCOMB (R257). -/
def scombRow (n : Nat) (a b : SoftRow) : SoftRow :=
  if b.empty then a
  else if a.empty then { b with c := 0x3F800000 }
  else
    let m := Fp.max (f32 a.m) (f32 b.m)
    let ea := f32 (expDiff (Config.free n) (f32 a.m) m)
    let eb := f32 (expDiff (Config.free (n + 1)) (f32 b.m) m)
    let mix := fun k (x y : Nat) => boundedSum (Config.free (n + k)) [ea.mul (f32 x), eb.mul (f32 y)]
    { a with m := b32 m, l := mix 2 a.l b.l, c := 0x3F800000
             o := ((a.o.zip b.o).zipIdx).map (fun p => mix (3 + p.2) p.1.1 p.1.2) }

/-- SCOMB: state B is merged into state A (R257). -/
def scomb (u : Exec) (w : Nat) (s : State) : State :=
  let a := s.resolve u (bits w 49 37) true
  let b := s.resolve u (bits w 36 24) false
  issue s u w
    { engineOk := true, coreOk := false, fieldsOk := zeroBits w 23 0
      checks := opndChecks [a, b] ++ [(0x08, a.o.type != 1 || b.o.type != 1),
        (0x09, stateDim a.o == 0 || b.o.count != a.o.count || b.o.rows != a.o.rows)] }
    (fun t =>
      let m := s.opMem u
      let base := 2 ^ 20 * s.freeCtr
      let rs := (List.range a.o.rows).map (fun r => scombRow (base + 512 * r) (softRow m a.o r) (softRow m b.o r))
      (t.setOpMem u (putSoft m a.o rs)).draw)

/-- SINIT (R257). -/
def execSinit (u : Exec) (w : Nat) (s : State) : Out' := .next (sinit u w s)

/-- SSTEP (R257). -/
def execSstep (u : Exec) (w : Nat) (s : State) : Out' := .next (sstep u w s)

/-- SACC (R257). -/
def execSacc (u : Exec) (w : Nat) (s : State) : Out' := .next (sacc u w s)

/-- SNORM (R257). -/
def execSnorm (u : Exec) (w : Nat) (s : State) : Out' := .next (snorm u w s)

/-- SCOMB (R257). -/
def execScomb (u : Exec) (w : Nat) (s : State) : Out' := .next (scomb u w s)

/-- SERET: a range of the window is written into the dispatch's result range (R258). -/
def execSeret (u : Exec) (w : Nat) (s : State) : Out' :=
  match u with
  | .core _ _ => .next (issue s u w { coreOk := false } id)
  | .engine p t =>
    let l := s.resolve u (bits w 49 37) false
    let off := if bit w 36 then (s.sreg u (bits w 35 32)).toNat else 0
    let job := (s.engines.get (engKey p t)).job
    .next (issue s u w
      { engineOk := true, fieldsOk := zeroBits w 31 0
        checks := [(0x05, l.mode), (0x06, l.desc), (0x07, l.bounds || decide (job.result.bytes < off + l.o.bytes))] }
      (fun s' =>
        let bs := memOpndBytes (s.opMem u) l.o
        let old := memOpndBytes (s.cores.get job.core).spm job.result
        let new := old.take off ++ bs ++ old.drop (off + bs.length)
        if (s.cores.get job.core).flights.any (·.id == job.flight) then
          s'.updCore job.core (fun c => { c with spm := memSetOpndBytes c.spm job.result new }) else s'))

/-- The first waiting dispatch of a pedestal starts on the first free thread after the last one started (R254). -/
def execEngineThreadStart (ped : Nat) (s : State) : Out' :=
  .next (match (s.peds.get ped).waiting with
    | [] => s
    | job :: rest =>
      match roundRobin 128 (s.peds.get ped).lastStarted (fun t => !(s.engines.get (engKey ped t)).busy) with
      | none => s
      | some t =>
        let pc := ((s.peds.get ped).entries.get job.entry).getD 0
        let regs : Map W64 := [job.param.length, ped, t / 8, t % 8, job.core].zipIdx.foldl
          (fun m x => m.put x.2 (BitVec.ofNat 64 x.1)) {}
        let s := s.updPed ped (fun p => { p with waiting := rest, lastStarted := t })
        let s := { s with engines := s.engines.upd (engKey ped t) (fun e => { e with
          busy := true, job := job, window := e.window.store 0 job.param
          ctx := { state := .runnable, pc := pc, s := regs } }) }
        s.pedCount ped (Reg.SE_DISPATCH ped) 1 true)

end Sys2Proof.Machine
end

