-- ==== Sys2Proof/Machine/Faults.lean ====
section
/-!
DEFINITION. Retiring an array position or a core and what follows at once (18, R506–R517; 06, R186–R188), and the
advisories of R533.
-/
namespace Sys2Proof.Machine
open Sys2Proof

/-! ### In-field tests: their end (R528–R532) -/

def State.updTest (s : State) (j : Nat) (f : FieldTest → FieldTest) : State := { s with tests := s.tests.upd j f }

/-- The slot of a running test of a target. -/
def State.testOf (s : State) (target : Nat) : Option Nat :=
  (List.range 8).find? (fun j => (s.tests.get j).status == 2 && (s.tests.get j).target == target)

/-- A test ends with a status: a test that has not failed logs 0x1001. -/
def State.endTest (s : State) (j status : Nat) : State :=
  let t := s.tests.get j
  let s := s.updTest j (fun t => { t with status := status, inSlice := false, abort := false, parts := 0 })
  let s := if status = 1 then s else s.logEvent 0x1001 [(1, t.target), (1, status), (1, t.slices)]
  s.finish 0x48 j status

/-- A takeover of a target for a cause other than its test aborts the test (R532). -/
def State.abortTest (s : State) (target : Nat) : State :=
  match s.testOf target with
  | some j => s.endTest j 3
  | none => s

/-! ### Cores (R513–R515) -/

/-- Outbound transfers active in the move engine: the first four moves in flight, where outbound (Table 7-1). -/
def Core.activeOut (c : Core) : List Flight :=
  ((c.flights.filter (fun f => match f.kind with | .move _ _ _ => true | _ => false)).take 4).filter
    (fun f => match f.kind with | .move _ _ inb => !inb | _ => false)

/-- Work that arrays of a core have not completed is discarded. -/
def State.dropStrikes (s : State) (n : Nat) : State :=
  (List.range 13).foldl (fun (s : State) a => s.updArr n a (fun (x : Arr) =>
    { x with queue := [], urgent := [], driven := [], waiting := [], loads := [], loading := false, swapPending := false
             check := none })) s

/-- Messages queued for a node are refused with NACK and are sent again at once (R515 step 3). -/
def State.nackNode (s : State) (node : Nat) : State :=
  { s with msgs := s.msgs.map (fun m => if m.dst == node && m.resp.isNone then { m with resp := some .nackRetry } else m) }

/-- The reserve core a takeover takes: available, in the logical core's half, lower number first (R514). -/
def State.freeReserve (s : State) (n : Nat) : Option Nat :=
  let h := halfOf s.fuses.grade n
  ([2 * h, 2 * h + 1]).find? (fun r => (s.reserves.get r).available && (s.reserves.get r).core.isNone)

/-- A reserve core that fails while it serves a logical core is retired (R520). -/
def State.loseReserve (s : State) (n : Nat) : State :=
  match s.reserveOf n with
  | some r => { s with reserves := s.reserves.upd r (fun x => { x with core := none, available := false }) }
  | none => s

/-- A core is retired and a takeover starts, or the logical core becomes unbacked (R513–R515). `cause` is 0x3402's:
0 data path, 1 scratchpad, 2 redundancy, 3 array, 4 field test. -/
def State.coreRetire (s : State) (n cause path pc t : Nat) : State :=
  let s := s.logEvent 0x3401 [(1, n), (1, path), (2, pc), (1, t)]
  let s := if cause = 4 then s else s.abortTest n
  let node := s.coreNode n
  let s := s.loseReserve n
  let s := s.updCore n (fun (c : Core) => { c with
    retired := true, replaying := false, barrier := none, jobs := [], redOut := []
    flights := if cause = 0 && path = 4 then [] else c.activeOut })
  let s := { s.dropStrikes n with handoffs := s.handoffs.filter (fun h => h.core != n) }
  let s := { s with takeovers := s.takeovers.filter (fun x => x.core != n)
                    arrTakeovers := s.arrTakeovers.filter (fun x => x.core != n)
                    cals := s.cals.upd n (fun c => { c with state := 0, cmp := none }) }
  match s.freeReserve n with
  | some r =>
    let s := s.abortTest (0xF0 + r)
    let s := { s with reserves := s.reserves.upd r (fun x => { x with available := false, core := some n })
                      takeovers := s.takeovers ++ [({ core := n, reserve := r, cause := cause, decided := s.time } : Takeover)] }
    s.nackNode node
  | none =>
    let s := s.updCore n (fun (c : Core) => { c with
      threads := (List.range 32).foldl (fun (m : Map Thread) t => m.upd t (fun th => { th with state := .faulted })) c.threads })
    let s := { s with unbacked := s.unbacked.put n true }
    (s.logEvent 0x4402 [(1, n), (1, halfOf s.fuses.grade n)]).faultStall n 1 n

/-! ### Arrays (R509–R512) -/

def State.updCal (s : State) (n : Nat) (f : Cal → Cal) : State := { s with cals := s.cals.upd n f }

/-- Check-only mode begins (R188): 0 the spare array stands in for a fault, 1 it is retired. -/
def State.enterCheckOnly (s : State) (n cause : Nat) : State :=
  if (s.cals.get n).checkOnly then s
  else (s.updCal n (fun c => { c with checkOnly := true })).logEvent 0x4301 [(1, n), (1, cause)]

/-- A strike that is to be struck again from the codes the input stage keeps (R510). -/
def Strike.again (x : Strike) : Strike :=
  { x with main := { codes := x.main.codes }, overs := none, corr := none, exactCorr := none }

/-- The originals an array has not completed, in their original issue order. -/
def Arr.pendingStrikes (a : Arr) : List Strike := a.waiting.map Strike.again ++ a.queue

/-- An array gives up its strike work. -/
def Arr.idle (a : Arr) : Arr := { a with queue := [], urgent := [], driven := [], waiting := [], check := none }

/-- The spare array stops standing in for p, and p resumes the work (R178, R186). -/
def State.endStand (s : State) (n p : Nat) : State :=
  let a := s.arr n 12
  let s := s.updArr n p (fun x => { x with
    stand := false, standReason := 0, queue := a.pendingStrikes, loads := a.loads, loading := a.loading, swapPending := a.swapPending })
  s.updArr n 12 (fun x => { x.idle with stand := false, standReason := 0, standPos := 0, loads := [], loading := false, swapPending := false })

/-- The turn in progress ends without a fit (R181): 0 fault, 1 turn limit, 2 Midnight, 3 warm reset. -/
def State.abandonTurn (s : State) (n cause : Nat) : State :=
  let c := s.cals.get n
  ((s.updCal n (fun c => { c with state := 0, yields := 0, comps := 0, cmp := none, again := 0 })).count (Reg.CAL_ABANDON n)).logEvent
    0x2305 [(1, n), (1, c.target), (1, cause)]

/-- A fault takeover needs the spare array: other calibration work yields at the same boundary (R186). -/
def State.yieldSpare (s : State) (n : Nat) : State :=
  let c := s.cals.get n
  if c.state = 0 then s else
  let sp := s.arr n 12
  let s := if sp.stand && sp.standReason == 1 then s.endStand n sp.standPos else s
  let s := s.updArr n c.target (fun a => { a with fitted := none })
  s.abandonTurn n 0

/-- A spare-array takeover ends: its interruption is measured and logged (R508, R512). -/
def State.endArrTakeover (s : State) (n : Nat) : State :=
  match s.arrTakeovers.find? (·.core == n) with
  | none => s
  | some t =>
    let us := (s.time - t.decided) / 1000
    let s := { s with arrTakeovers := s.arrTakeovers.filter (fun x => x.core != n) }
    (s.regMax Reg.FLT_INT_MAX us).logEvent 0x3103 [(1, n), (1, t.pos), (1, t.cause), (4, us)]

/-- An array is retired and the spare array takes over, or the core is (R509–R511). `cause` is 0 plane write parity,
1 chisel lane, 2 calibration fit, 3 field test, 4 preparation copy. -/
def State.arrayRetire (s : State) (n a cause : Nat) : State :=
  let s := s.logEvent 0x3101 [(1, n), (1, a), (1, cause)]
  let s := s.updArr n a (fun x => { x with retired := true })
  let sp := s.arr n 12
  if a = 12 then
    let s := { s with cals := s.cals.upd n (fun c => { c with front := c.front.filter (· != 12) }) }
    if sp.stand && sp.standReason == 2 then s.coreRetire n 3 9 0 0
    else (s.yieldSpare n).enterCheckOnly n 1
  else
    let s := { s with cals := s.cals.upd n (fun c => { c with front := c.front.filter (· != a) }) }
    if sp.stand && sp.standReason == 1 && sp.standPos == a then
      let s := s.updArr n 12 (fun x => { x with standReason := 2 })
      let s := s.updArr n a (fun x => { x with standReason := 2, fitted := none })
      let s := s.updCal n (fun c => { c with state := 0, yields := 0, comps := 0, cmp := none })
      let s := (s.count Reg.FLT_ARRAY_TAKEOVERS).logEvent 0x3103 [(1, n), (1, a), (1, cause), (4, 0)]
      s.enterCheckOnly n 0
    else if sp.retired || (sp.stand && sp.standReason == 2) || s.arrTakeovers.any (·.core == n) then s.coreRetire n 3 9 0 0
    else
      let s := s.yieldSpare n
      let x := s.arr n a
      let s := s.updArr n 12 (fun (y : Arr) => { y with
        loads := x.loads.map (fun (l : PlaneLoad) => { l with rows := 0, attempts := 0, first := true })
        loading := false, swapPending := x.swapPending, queue := x.pendingStrikes })
      let s := s.updArr n a (fun y => { y.idle with loads := [], loading := false, swapPending := false })
      let s := { s with arrTakeovers := s.arrTakeovers ++ [({ core := n, pos := a, cause := cause, decided := s.time } : ArrTakeover)] }
      (s.count Reg.FLT_ARRAY_TAKEOVERS).enterCheckOnly n 0

/-- The copy of a failed position's front plane to the spare array is ready (R510): `sumsOk` says whether the column sums
agree. They may differ once; the second time the fault becomes the core's (R511). -/
def execFrontPlaneReady (core : Nat) (sumsOk : Bool) (s : State) : Out' :=
  match s.arrTakeovers.find? (·.core == core) with
  | none => .next s
  | some t =>
    if t.front then .next s
    else if !sumsOk then
      if t.again then .next (s.coreRetire core 3 9 0 0)
      else .next { s with arrTakeovers := s.arrTakeovers.map (fun x => if x.core == core then { x with again := true } else x) }
    else
      let x := s.arr core t.pos
      let fp := if x.front = 0 then x.plane0 else x.plane1
      let s := s.updArr core 12 (fun y =>
        let y := if y.front = 0 then { y with plane0 := { fp with loaded := false } } else { y with plane1 := { fp with loaded := false } }
        { y with stand := true, standReason := 2, standPos := t.pos })
      let s := s.updArr core t.pos (fun y => { y.idle with stand := true, standReason := 2 })
      .next { s with arrTakeovers := s.arrTakeovers.map (fun x => if x.core == core then { x with front := true, again := false } else x) }

/-- The copy of a failed position's back plane to the spare array completes, which ends the interruption (R510). A load
that has restarted on the spare array ends it instead. -/
def execBackPlaneReady (core : Nat) (sumsOk : Bool) (s : State) : Out' :=
  match s.arrTakeovers.find? (·.core == core) with
  | none => .next s
  | some t =>
    let sp := s.arr core 12
    if !t.front || sp.loads.any (·.first) then .next s
    else if !sumsOk then
      if t.again then .next (s.coreRetire core 3 9 0 0)
      else .next { s with arrTakeovers := s.arrTakeovers.map (fun x => if x.core == core then { x with again := true } else x) }
    else
      let x := s.arr core t.pos
      let bp := if x.front = 0 then x.plane1 else x.plane0
      let s := s.updArr core 12 (fun y => if y.front = 0 then { y with plane1 := bp } else { y with plane0 := bp })
      .next (s.endArrTakeover core)

end Sys2Proof.Machine
end

