-- ==== Sys2Proof/Machine/Chisel.lean ====
section
/-!
DEFINITION. The arithmetic of a strike: splitting a slice (04, R111–R113; 05, R144), converting and calibrating a phase
(03, R77, R78, R92, R93), the error bound (R88), exact sums, and the least-squares fit (06, R176, R177).
-/
namespace Sys2Proof.Machine
open Sys2Proof

/-! ### Plane contents (R71, R136) -/

/-- The front plane and the back plane. -/
def Arr.frontPlane (a : Arr) : Plane := if a.front = 0 then a.plane0 else a.plane1
def Arr.backPlane (a : Arr) : Plane := if a.front = 0 then a.plane1 else a.plane0
def Arr.setBack (a : Arr) (p : Plane) : Arr := if a.front = 0 then { a with plane1 := p } else { a with plane0 := p }
def Arr.setFront (a : Arr) (p : Plane) : Arr := if a.front = 0 then { a with plane0 := p } else { a with plane1 := p }

/-- The weight of column j in row r (R136). -/
def Plane.weight (p : Plane) (r j : Nat) : Int :=
  let b := (p.data.get (128 * r + j / 2)).toNat
  signed 4 (if j % 2 = 0 then b % 16 else b / 16)

/-- The zero-column flag: valid once a load has completed, set when every weight of the column is 0 (R71). -/
def Plane.zeroCol (p : Plane) (j : Nat) : Bool :=
  p.sums && p.data.cells.all (fun c => c.1 % 128 != j / 2 ||
    (if j % 2 = 0 then c.2.toNat % 16 else c.2.toNat / 16) == 0)

/-- Columns of the plane with the zero-column flag set. -/
def Plane.zeroCols (p : Plane) : List Nat := (List.range 256).filter p.zeroCol

/-- Σ v · w over rows with values, for column j. -/
def Plane.dot (p : Plane) (rows : List (Nat × Int)) (j : Nat) : Int :=
  rows.foldl (fun acc r => acc + r.2 * p.weight r.1 j) 0

/-! ### Splitting the input (R111–R113, R139, R144, R145) -/

/-- The smallest e with 2^e ≥ a, for a > 0. -/
def ceilLog2 : Fp → Int
  | .nan => 0
  | .fin _ m e => if m = 0 then 0 else e + (if 2 ^ m.log2 = m then (m.log2 : Int) else m.log2 + 1)

/-- The exponent of s_x (R144). The squares, their sum (pairwise tree), the quotient and the root are rounded to FP32. -/
def sliceScale (b : Nat) (x : List Nat) : Int :=
  let vs := (x.map FFmt.bf16.dec).filter (fun v => !v.isNan)
  let m := maxList (vs.map Fp.abs)
  if m.isZero then 0 else
  let rho := ((sumTree (vs.map (fun v => (v.mul v).r32))).quot (Fp.ofInt x.length)).r32.root.r32
  let a := if b = 8 then (m.quot (Fp.ofInt 127)).r32
    else if b = 4 then (((Fp.fin false 5 (-1)).mul rho).r32.quot (Fp.ofInt 7)).r32
    else rho
  if a.isZero then -126 else clampInt (-126) 127 (ceilLog2 a)

/-- x / 2^e rounded to an integer; a NaN gives 0 (R111, R145). -/
def quantInt (e : Int) (x : Nat) : Int :=
  ((FFmt.bf16.dec x).mul (Fp.fin false 1 (-e))).toInt.getD 0

/-- The clip range of Table 4-2. -/
def clipRange (b level : Nat) : Int × Int :=
  if b = 2 then (-(min level 2 : Nat), (min level 1 : Nat))
  else if b = 4 then (-(min level 8 : Nat), (min level 7 : Nat))
  else (-128, 127)

/-- Insert a row in order of falling |r|, then rising row. -/
def insertOutlier (y : Nat × Int × Int) : List (Nat × Int × Int) → List (Nat × Int × Int)
  | [] => [y]
  | z :: r => if z.2.2.natAbs < y.2.2.natAbs || (z.2.2.natAbs == y.2.2.natAbs && decide (y.1 < z.1)) then y :: z :: r
    else z :: insertOutlier y r

/-- A strike with its slice split into the classes of Table 4-3, the number of clamped and of NaN elements. -/
def Strike.splitSlice (k : Strike) (level : Nat) : Strike × Nat × Nat :=
  let e := sliceScale k.b k.x
  let raw := k.x.map (quantInt e)
  let t := raw.map (clampInt (-32768) 32767)
  let clamped := (raw.filter (fun v => decide (v < -32768 ∨ 32767 < v))).length
  let nans := (k.x.filter (fun v => (FFmt.bf16.dec v).isNan)).length
  let cr := clipRange k.b level
  let rows : List (Nat × Int) := t.zipIdx.map (fun v => (v.2, v.1))
  let outs : List (Nat × Int × Int) :=
    ((rows.filter (fun r => decide (r.2 < cr.1 ∨ cr.2 < r.2))).map (fun r => (r.1, r.2, r.2 - clampInt cr.1 cr.2 r.2))).foldl
      (fun acc y => insertOutlier y acc) []
  let lane := outs.take 16
  let h : Int := 2 ^ (k.b - 1)
  let code := fun (v : Int) => (v + h) / (2 ^ k.b : Int)
  let isOvf := fun (y : Nat × Int × Int) => decide (-h ≤ code y.2.1) && decide (code y.2.1 ≤ h - 1)
  let ovf := ((outs.drop 16).filter isOvf).map (fun y => (y.1, code y.2.1))
  let exact := ((outs.drop 16).filter (fun y => !isOvf y)).map (fun y => (y.1, y.2.2))
  let clippedRow := fun (r : Nat) => lane.any (fun y => y.1 == r) || exact.any (fun y => y.1 == r)
  let codes := rows.map (fun r =>
    if clippedRow r.1 then clampInt cr.1 cr.2 r.2
    else match ovf.find? (fun o => o.1 == r.1) with
      | some o => r.2 - 2 ^ k.b * o.2
      | none => r.2)
  ({ k with sx := e, split := true, tsum := t.foldl (· + ·) 0
            lane := (lane.map (fun y => (y.1, y.2.2))), ovf := ovf, exact := exact
            main := { codes := codes ++ List.replicate (512 - codes.length) 0 } }, clamped, nans)

/-- The codes of the overflow strike: o_i on overflow rows, 0 elsewhere (R117). -/
def Strike.ovfCodes (k : Strike) : List Int :=
  (List.range 512).map (fun r => match k.ovf.find? (fun o => o.1 == r) with
    | some o => o.2
    | none => 0)

/-! ### Conversion and calibration (R73–R81, R92, R93) -/

/-- n_b: rows whose code has bit b set (R74). -/
def activeRows (b w : Nat) (codes : List Int) : Nat := (codes.filter (fun c => bit (unsigned w c) b)).length

/-- ⌊|v|·√n⌋ with v's sign, doubled, with a sticky half where the product is not an integer. -/
def surd2 (v : Int) (n : Nat) : Int :=
  let sq := v.natAbs * v.natAbs * n
  let r := Nat.sqrt sq
  let d : Int := if r * r = sq then 2 * (r : Int) else 2 * (r : Int) + 1
  if v < 0 then -d else d

/-- v_b in 1/16 weight unit for converter code c with n rows active: to the nearest integer in exact mode, to the nearest
1/16 in approximate mode, ties to even (R77, R78, R92). -/
def phaseVal (n c : Nat) (k : Coef) : Int :=
  if n = 0 then 0
  else if n ≤ 68 then 16 * divRne (k.gain * (16 * ((c : Int) - 8 * n) - k.off)) (2 ^ 19)
  else
    let b : Int := -24576 + 24 * (2 * (c : Int) + 1) - 3 * k.off
    divRne (2 * (-256 * (n : Int) * k.gain) + surd2 (k.gain * b) n) (2 ^ 21)

/-- Phases combined by R73: +2^b, the last −2^(B−1). -/
def combine (w : Nat) (vs : List Int) : Int :=
  vs.zipIdx.foldl (fun acc v => if v.2 + 1 = w then acc - 2 ^ v.2 * v.1 else acc + 2 ^ v.2 * v.1) 0

/-- One unit of the scale error bounds are held in: 1 ÷ (3,200,000 · 2⁶⁴) weight unit. -/
def boundUnit : Nat := 3200000 * 2 ^ 64

/-- e_b(n, a) with a in ms (R88): 0 or 1 in exact mode; q/2 + 6σ + ρ·a·q + 1/32 in approximate mode. -/
def phaseBound (n age : Nat) : Nat :=
  if n = 0 then 0
  else if n ≤ 68 then
    (if age < 50000 ∧ 36000000 * n < (50000 - age) * (50000 - age) then 0 else boundUnit)
  else Nat.sqrt ((342000 + 3 * age) * (342000 + 3 * age) * n * 2 ^ 128) + 100000 * 2 ^ 64

/-- E of R88 at a strike's active-row counts. -/
def strikeBound (w : Nat) (codes : List Int) (age : Nat) : Nat :=
  ((List.range w).map (fun b => 2 ^ b * phaseBound (activeRows b w codes) age)).sum

/-- What the converters make of driven codes: phase values, combined values, flagged columns and bounds by column. -/
structure Converted where
  phases : List (List Int) := []
  vals : List Int := []
  flagged : List Nat := []
  bound : List Nat := []
deriving DecidableEq, Repr, Inhabited

/-- Convert every column of every phase from the converter codes and the over-range comparators (R77–R82, R92, R93). -/
def convert (p : Plane) (coef : Map Coef) (w : Nat) (codes : List Int) (age : Nat) (conv : List (List Nat))
    (overs : List (Nat × Nat)) : Converted :=
  let z := p.zeroCols
  let ns := (List.range w).map (fun b => activeRows b w codes)
  let phases := ns.zipIdx.map (fun nb =>
    (List.range 256).map (fun j => if z.contains j then 0 else phaseVal nb.1 (((conv[nb.2]?).getD [])[j]?.getD 0) (coef.get j)))
  let vals := (List.range 256).map (fun j => combine w (phases.map (fun ph => (ph[j]?).getD 0)))
  let full := ns.any (· == 512)
  let flagged := (List.range 256).filter (fun j => !z.contains j &&
    (full || overs.any (fun o => o.2 == j && decide (69 ≤ (ns[o.1]?).getD 0))))
  let e := strikeBound w codes age
  { phases := phases, vals := vals, flagged := flagged
    bound := (List.range 256).map (fun j => if z.contains j then 0 else e) }

/-- Column conversions of a strike: one per column and phase with n_b > 0, zero columns excluded (Table 3-6). -/
def convCount (p : Plane) (w : Nat) (codes : List Int) : Nat :=
  (256 - p.zeroCols.length) * ((List.range w).filter (fun b => decide (0 < activeRows b w codes))).length

/-- Rows with codes that are not 0. -/
def rowsOf (codes : List Int) : List (Nat × Int) := (codes.zipIdx.map (fun c => (c.2, c.1))).filter (fun r => r.2 != 0)

/-- Exact phase sum S_b of column j (R73). -/
def phaseSum (p : Plane) (w b : Nat) (codes : List Int) (j : Nat) : Int :=
  p.dot ((rowsOf codes).filterMap (fun r => if bit (unsigned w r.2) b then some (r.1, 1) else none)) j

/-- The halves of a row-split (R83): the first ⌈m/2⌉ rows with a non-zero code, and the rest. -/
def halves (codes : List Int) : List Int × List Int :=
  let rows := (rowsOf codes).map (·.1)
  let a := rows.take ((rows.length + 1) / 2)
  let pick := fun (first : Bool) => codes.zipIdx.map (fun c => if a.contains c.2 == first then c.1 else 0)
  (pick true, pick false)

/-- The flagged columns' results from the two halves and, for columns flagged in a half, the exact sums (R83, R84, R90).
Answers the settled conversion and how many columns the chisel path computed. -/
def Conv.settle (c : Conv) (p : Plane) : Conv × Nat :=
  match c.halfA, c.halfB with
  | some (va, fa, ba), some (vb, fb, bb) =>
    let bad := fun (j : Nat) => fa.contains j || fb.contains j
    let vals := c.vals.zipIdx.map (fun v => if !c.flagged.contains v.2 then v.1
      else if bad v.2 then 16 * p.dot (rowsOf c.codes) v.2
      else (va[v.2]?).getD 0 + (vb[v.2]?).getD 0)
    let bound := c.bound.zipIdx.map (fun v => if !c.flagged.contains v.2 then v.1
      else if bad v.2 then 0 else (ba[v.2]?).getD 0 + (bb[v.2]?).getD 0)
    ({ c with vals := vals, bound := bound, settled := true }, (c.flagged.filter bad).length)
  | _, _ => (c, 0)

/-- A conversion waits for the fallback: both halves are converted and some flagged column is flagged in a half (R84). -/
def Conv.needsFallback (c : Conv) : Bool :=
  !c.settled && (match c.halfA, c.halfB with
    | some (_, fa, _), some (_, fb, _) => c.flagged.any (fun j => fa.contains j || fb.contains j)
    | _, _ => false)

/-! ### Binary64 sums and the fit (R176, R177, R183) -/

/-- Round man · 2^exp to 53 bits, ties to even. -/
def F64.round (man exp : Int) : F64 :=
  let l := bitLen man.natAbs
  if l ≤ 53 then { man := man, exp := exp }
  else
    let m := shiftRne man.natAbs (l - 53)
    { man := if man < 0 then -(m : Int) else m, exp := exp + (l - 53 : Nat) }

/-- (A + B√n) / D rounded to binary64. -/
def F64.surd (a b : Int) (n d : Nat) : F64 :=
  let v : Int := 2 * a * 2 ^ 160 + surd2 (b * 2 ^ 160) n
  let q : Int := v / (d : Int)
  F64.round (2 * q + (if v % (2 * d : Nat) = 0 then 0 else 1)) (-162)

def F64.add (x y : F64) : F64 :=
  let lo := min x.exp y.exp
  F64.round (x.man * 2 ^ (x.exp - lo).toNat + y.man * 2 ^ (y.exp - lo).toNat) lo

def F64.mul (x y : F64) : F64 := F64.round (x.man * y.man) (x.exp + y.exp)

/-- The value times 2²⁰⁰, as an integer. -/
def F64.fx (x : F64) : Int :=
  if 0 ≤ x.exp + 200 then x.man * 2 ^ (x.exp + 200).toNat else x.man / 2 ^ (-(x.exp + 200)).toNat

/-- x = u/q and y = S/q of one sample, in converter steps (R176). -/
def samplePair (n c : Nat) (sum : Int) : F64 × F64 :=
  if n ≤ 68 then ({ man := (c : Int) - 8 * n }, { man := sum })
  else (F64.surd (6 * c - 3069) (-32) n 6, F64.surd 0 (32 * sum) n (3 * n))

/-- (v − S)/q of one sample, with v in 1/16 weight unit (R183). -/
def sampleResidual (n : Nat) (v sum : Int) : F64 :=
  if n ≤ 68 then F64.round (v - 16 * sum) (-4) else F64.surd 0 (2 * (v - 16 * sum)) n (3 * n)

def FitSums.add (f : FitSums) (s : F64 × F64) : FitSums :=
  { n := f.n + 1, x := f.x.add s.1, y := f.y.add s.2, xx := f.xx.add (s.1.mul s.1), xy := f.xy.add (s.1.mul s.2) }

/-- What the fit makes of a column (R177). -/
inductive FitResult where
  | sparse
  | rejected
  | accepted (c : Coef)
deriving DecidableEq, Repr

/-- The least-squares fit of one column (R176, R177). -/
def FitSums.solve (f : FitSums) : FitResult :=
  let sc : Int := 2 ^ 200
  let n : Int := f.n
  let x := f.x.fx
  let y := f.y.fx
  let den := n * f.xx.fx * sc - x * x
  let num := n * f.xy.fx * sc - x * y
  if f.n < 512 ∨ den < 4 * n * n * (sc * sc) then .sparse else
  let g := divRne (num * 2 ^ 15) den.toNat
  if g < 0x7000 ∨ 0x9000 < g then .rejected else
  let o := divRne (-16 * (y * den - num * x)) (n * num * sc).toNat
  if 2047 < o.natAbs then .rejected else .accepted { gain := g.toNat, off := o }

/-- Fit every column: the coefficients after it, columns rejected and columns sparse. A zero column's sums are empty, so
it is sparse. -/
def fitAll (sums : Map FitSums) (old : Map Coef) : Map Coef × Nat × Nat :=
  (List.range 256).foldl (fun acc j => match (sums.get j).solve with
    | .sparse => (acc.1, acc.2.1, acc.2.2 + 1)
    | .rejected => (acc.1, acc.2.1 + 1, acc.2.2)
    | .accepted c => (acc.1.put j c, acc.2.1, acc.2.2)) (old, 0, 0)

end Sys2Proof.Machine
end

