-- ==== Sys2Proof/Machine/Arrays.lean ====
section
/-!
DEFINITION. What happens in an array: latches, strike boundaries, lane corrections, fallback, group results, plane loads,
tile checks and test reads (03, 04), the per-layer counts of R157 and redundancy (04, R127–R132).
-/
namespace Sys2Proof.Machine
open Sys2Proof

/-! ### Counters -/

/-- Add to an array's counter, unless ARR_CTL.freeze holds it (R106, R133). -/
def State.arrCount (s : State) (n a off k : Nat) (wide : Bool) : State :=
  if k = 0 || bit (s.regN (Reg.ARR_CTL n a)) 0 then s else if wide then s.count64By off k else s.countBy off k

/-- Add to a 64-bit array counter and to its core's aggregate (Tables 3-11, 4-6). -/
def State.arrBoth (s : State) (n a off core k : Nat) (wide : Bool) : State :=
  (s.arrCount n a off k wide).arrCount n a core k true

/-- The THRESHOLD record in force for a core's instance; the defaults of Table 2-10 in no instance. -/
def State.thrOf (s : State) (n : Nat) : ThresholdRec :=
  match (s.cores.get n).inst with
  | some i => match s.img.insts.get i with
    | some x => x.thr
    | none => {}
  | none => {}

/-- Key of the layer a core runs (R157). -/
def State.layerKey (s : State) (n : Nat) : Option Nat :=
  (s.cores.get n).inst.map (fun i => 1024 * i + (s.cores.get n).layer)

/-- The outlier level in force on a core: halved when precision control has halved its layer (R162, R225). -/
def State.levelOf (s : State) (n : Nat) : Nat :=
  let l := (s.cores.get n).level
  match s.layerKey n with
  | some k => if (s.fmts.get k).halved then max 1 (l / 2) else l
  | none => l

def FmtCount.add (a b : FmtCount) : FmtCount :=
  { checks := a.checks + b.checks, mism := a.mism + b.mism, conv := a.conv + b.conv, sat := a.sat + b.sat, zero := a.zero + b.zero }

/-- Counts of the layer a core runs (R157). ARR_CTL.freeze does not stop them. -/
def State.fmtAdd (s : State) (n : Nat) (c : FmtCount) : State :=
  match s.layerKey n with
  | some k => { s with fmts := s.fmts.upd k (fun f => { f with total := f.total.add c, win := f.win.add c }) }
  | none => s

/-- Calibration age of an array's coefficients, ms (R88). -/
def State.calAge (s : State) (n a : Nat) : Nat := min (2 ^ 32 - 1) (((s.time : Int) - (s.arr n a).calTime) / 1000000).toNat

/-! ### Completion and delivery (R86, R87) -/

/-- A strike is complete (R87). -/
def Strike.complete (k : Strike) : Bool :=
  k.main.settled && (match k.overs with | some o => o.settled | none => true) && (k.lane.isEmpty || k.corr.isSome)
    && (k.exact.isEmpty || k.exactCorr.isSome)

/-- The fixed-point value of each column, with corrections and the overflow strike added (R93, R117). -/
def Strike.result (k : Strike) : List Int :=
  k.main.vals.zipIdx.map (fun v =>
    v.1 + (match k.overs with | some o => 2 ^ k.b * (o.vals[v.2]?).getD 0 | none => 0)
      + 16 * (((k.corr.getD [])[v.2]?).getD 0 + ((k.exactCorr.getD [])[v.2]?).getD 0))

/-- The error bound of each column: E_orig + 2^B · E_ovf (R120). -/
def Strike.bounds (k : Strike) : List Nat :=
  k.main.bound.zipIdx.map (fun v => v.1 + (match k.overs with | some o => 2 ^ k.b * (o.bound[v.2]?).getD 0 | none => 0))

/-- Complete strikes at the head of an array's order reach the accumulator (R86). -/
def State.deliver : Nat → State → Nat → Nat → State
  | 0, s, _, _ => s
  | fuel + 1, s, n, a =>
    let x := s.arr n a
    match x.waiting with
    | [] => s
    | k :: rest =>
      if !k.complete then s else
      let o : Int := if x.frontPlane.synth then 0 else 8 * k.tsum
      let s := s.updArr n a (fun x => { x with waiting := rest })
      let s := s.updCore n (fun c => { c with jobs := c.jobs.map (fun j =>
        if j.flight == k.flight then { j with got := j.got ++ [(k.pos, k.result, k.sx, o, k.bounds)] } else j) })
      State.deliver fuel s n a

def State.deliverAll (s : State) (n a : Nat) : State := State.deliver (s.arr n a).waiting.length s n a

/-- Change the original that a drive belongs to. -/
def State.updStrike (s : State) (n a flight slice : Nat) (f : Strike → Strike) : State :=
  s.updArr n a (fun x => { x with waiting := x.waiting.map (fun k => if k.flight == flight && k.slice == slice then f k else k) })

/-! ### Latching (R80, R114, R117, R121, R124) -/

/-- A strike waits for the fallback: overflow-exact rows not done, or columns flagged in a half (R84, R119). -/
def Strike.awaits (k : Strike) : Bool :=
  (!k.exact.isEmpty && k.exactCorr.isNone) || k.main.needsFallback || (match k.overs with | some o => o.needsFallback | none => false)

def Arr.awaiting (x : Arr) : Nat := (x.waiting.filter Strike.awaits).length

/-- A requested swap can be taken: the back plane's load is complete (R100, R101). -/
def Arr.swapReady (x : Arr) : Bool := !x.loading && (x.loads.isEmpty || x.backPlane.loaded)

/-- The array issues strikes: in service, not held by a swap that waits for its load (R102) or that comes before the next
strike, with room for another input vector (R76) and no third strike awaiting the fallback (R84). -/
def State.arrIssues (s : State) (n a : Nat) : Bool :=
  let x := s.arr n a
  !x.retired && (if a = 12 then x.stand else !x.stand) && !(x.swapPending && !x.swapReady) &&
    !(x.swapPending && x.urgent.isEmpty && x.queue.head?.any (·.afterSwap)) && decide (x.driven.length < 2)
    && decide (x.awaiting ≤ 2) && !(s.cores.get n).retired

/-- A conversion of an all-zero input: exactly 0 in every column (R80). -/
def Conv.zero (codes : List Int) : Conv :=
  { codes := codes, converted := true, settled := true, vals := List.replicate 256 0, bound := List.replicate 256 0 }

def allZero (codes : List Int) : Bool := codes.all (· == 0)

/-- A sampled check at interval `i` falls due at the next original's boundary while one is in progress (R121, R124): the
originals already driven count first. -/
def Arr.dueAhead (x : Arr) (i : Nat) : Bool :=
  let r := (x.driven.filter (·.kind == .orig)).foldl
    (fun (r : Nat × Bool) _ => if i ≤ r.1 + 1 then (0, true) else (r.1 + 1, r.2)) (x.sampleCount, x.check.isSome)
  r.2 && decide (i ≤ r.1 + 1)

/-- A target takes the codes of the next original strike (R175). -/
def State.takeComparison (s : State) (n a b : Nat) (codes : List Int) : State :=
  let c := s.cals.get n
  let live := if c.state = 3 then a == 12 && (s.arr n 12).standReason == 1
    else c.state == 4 && c.target == 12 && a == s.arrFor n c.source
  if live && c.cmp.isNone then s.updCal n (fun c => { c with cmp := some (b, codes) }) else s

/-- A re-strike or an overflow strike is latched. -/
def State.latchUrgent (s : State) (n a : Nat) (d : Drive) (rest : List Drive) : State :=
  let s := s.updArr n a (fun x => { x with urgent := rest })
  if allZero d.codes then
    let z := Conv.zero d.codes
    let s := s.arrBoth n a (Reg.ARR_ZERO n a) (Reg.ARR_CORE_ZERO n) 1 true
    let s := s.fmtAdd n { zero := 1 }
    let s := s.updStrike n a d.flight d.slice (fun k => match d.kind with
      | .orig => k
      | .ovf => { k with overs := some z }
      | .half false true => { k with main := { k.main with halfB := some (z.vals, [], z.bound) } }
      | .half false false => { k with main := { k.main with halfA := some (z.vals, [], z.bound) } }
      | .half true true => { k with overs := k.overs.map (fun o => { o with halfB := some (z.vals, [], z.bound) }) }
      | .half true false => { k with overs := k.overs.map (fun o => { o with halfA := some (z.vals, [], z.bound) }) })
    s.deliverAll n a
  else
    let s := s.updArr n a (fun x => { x with driven := x.driven ++ [d] })
    let s := s.arrCount n a (Reg.ARR_STRIKE n a) 1 true
    match d.kind with
    | .ovf => (s.arrCount n a (Reg.CHS_OVF n a) 1 false).arrCount n a (Reg.CHS_OVF_ROWS n a) (rowsOf d.codes).length false
    | _ => s

/-- An original is latched: its slice is split and the zero test made (R80, R111–R114, R117). -/
def State.latchOrig (s : State) (n a : Nat) (k : Strike) (rest : List Strike) : State :=
  let sp : Strike × Nat × Nat := if k.split then (k, 0, 0) else k.splitSlice (s.levelOf n)
  let k := sp.1
  let x := s.arr n a
  let zero := allZero k.main.codes
  let interval := (s.thrOf n).sampleInterval
  if 2 < x.awaiting || (x.awaiting == 2 && !k.exact.isEmpty) then s
  else if !zero && x.dueAhead interval then
    s.arrCount n a (Reg.CHS_CHECK_STALL n a) 1 false
  else
    let s := s.fmtNans n sp.2.2 false
    let s := if sp.2.1 = 0 then s else
      (s.arrCount n a (Reg.CHS_CLAMP n a) sp.2.1 false).logLimitedFor (10 ^ 9) 0x2104 n sp.2.1 (fun c => [(1, n), (4, c)])
    let s := s.arrCount n a (Reg.CHS_OUTLIER n a) (k.lane.length + k.exact.length) true
    let s := s.arrCount n a (Reg.CHS_OVF_EXACT n a) k.exact.length false
    let o : Drive := { kind := .ovf, flight := k.flight, slice := k.slice, b := k.b, codes := k.ovfCodes }
    let k := if k.ovf.isEmpty then k else { k with overs := some { codes := o.codes } }
    let k := if zero then { k with main := Conv.zero k.main.codes } else k
    let d : Drive := { flight := k.flight, slice := k.slice, b := k.b, codes := k.main.codes }
    let s := s.updArr n a (fun x => { x with
      queue := rest, waiting := x.waiting ++ [k], urgent := if k.ovf.isEmpty then x.urgent else x.urgent ++ [o]
      driven := if zero then x.driven else x.driven ++ [d] })
    if zero then
      ((s.arrBoth n a (Reg.ARR_ZERO n a) (Reg.ARR_CORE_ZERO n) 1 true).fmtAdd n { zero := 1 }).deliverAll n a
    else (s.arrCount n a (Reg.ARR_STRIKE n a) 1 true).takeComparison n a k.b k.main.codes

/-- STRIKE_LATCH (R114): the array latches its next input vector. -/
def execStrikeLatch (core pos : Nat) (s : State) : Out' :=
  if !s.arrIssues core pos then .next s else
  match (s.arr core pos).urgent, (s.arr core pos).queue with
  | d :: rest, _ => .next (s.latchUrgent core pos d rest)
  | [], k :: rest => .next (s.latchOrig core pos k rest)
  | [], [] => .next s

/-! ### Strike boundaries (R75, R82–R86, R121) -/

/-- A conversion ends: its values are settled, or a row-split pair is due (R83). -/
def Conv.finish (c : Conv) (v : Converted) : Conv :=
  { c with converted := true, vals := v.vals, flagged := v.flagged, bound := v.bound, settled := v.flagged.isEmpty }

/-- A row-split pair enters the issue queue at its head; an overflow strike of the same original keeps its place (R86). -/
def queuePair (u : List Drive) (a b : Drive) : List Drive :=
  match u with
  | d :: r => if d.kind == .ovf && d.flight == a.flight && d.slice == a.slice then d :: a :: b :: r else a :: b :: u
  | [] => [a, b]

/-- After a half: both halves settle the columns, unless some need the fallback (R84). -/
def Conv.trySettle (c : Conv) (p : Plane) : Conv :=
  if c.settled || c.halfA.isNone || c.halfB.isNone || c.needsFallback then c else (c.settle p).1

/-- A sampled check starts at an original's boundary when it falls due (R121). -/
def State.sampleStrike (s : State) (n a : Nat) (d : Drive) (conv : List (List Nat)) (v : Converted) : State :=
  let x := s.arr n a
  if (s.thrOf n).sampleInterval ≤ x.sampleCount + 1 then
    s.updArr n a (fun x => { x with
      sampleCount := 0, sampleM := (x.sampleM + 1) % 32
      check := some { b := d.b, codes := d.codes, conv := conv, phases := v.phases, vals := v.vals, flagged := v.flagged
                      age := s.calAge n a, m := x.sampleM } })
  else s.updArr n a (fun x => { x with sampleCount := x.sampleCount + 1 })

/-- STRIKE_BOUNDARY (R75): the last phase of the oldest driven strike is converted. `conv` holds the converter codes by
phase and column, `overs` the (phase, column) pairs whose range comparators fired. -/
def execStrikeBoundary (core pos : Nat) (conv : List (List Nat)) (overs : List (Nat × Nat)) (s : State) : Out' :=
  let x := s.arr core pos
  match x.driven with
  | [] => .next s
  | d :: rest =>
    let p := x.frontPlane
    let v := convert p x.coef d.b d.codes (s.calAge core pos) conv overs
    let convs := convCount p d.b d.codes
    let s := s.updArr core pos (fun x => { x with driven := rest })
    let s := s.arrBoth core pos (Reg.ARR_CONV core pos) (Reg.ARR_CORE_CONV core) convs true
    let s := s.arrBoth core pos (Reg.ARR_SAT core pos) (Reg.ARR_CORE_SAT core) v.flagged.length true
    let s := s.fmtAdd core { conv := convs, sat := v.flagged.length }
    let split := fun (s : State) (ofOvf : Bool) =>
      if v.flagged.isEmpty then s else
      let h := halves d.codes
      let mk := fun (second : Bool) (cs : List Int) =>
        ({ kind := .half ofOvf second, flight := d.flight, slice := d.slice, b := d.b, codes := cs } : Drive)
      (s.updArr core pos (fun x => { x with urgent := queuePair x.urgent (mk false h.1) (mk true h.2) })).arrCount core pos
        (Reg.ARR_SPLIT core pos) 1 false
    let res := some (v.vals, v.flagged, v.bound)
    let s := match d.kind with
      | .orig =>
        let s := s.updStrike core pos d.flight d.slice (fun k => { k with main := k.main.finish v })
        (split s false).sampleStrike core pos d conv v
      | .ovf => split (s.updStrike core pos d.flight d.slice (fun k => { k with overs := k.overs.map (fun (o : Conv) => o.finish v) })) true
      | .half false second => s.updStrike core pos d.flight d.slice (fun k =>
          { k with main := (if second then { k.main with halfB := res } else { k.main with halfA := res }).trySettle p })
      | .half true second => s.updStrike core pos d.flight d.slice (fun k =>
          { k with overs := k.overs.map (fun (o : Conv) =>
              Conv.trySettle (if second then { o with halfB := res } else { o with halfA := res }) p) })
    .next (s.deliverAll core pos)

/-- LANE_CORRECTION_READY (R115): the lane's corrections of the first strike that waits for them. -/
def execLaneCorrectionReady (core pos : Nat) (s : State) : Out' :=
  let x := s.arr core pos
  match x.waiting.find? (fun k => !k.lane.isEmpty && k.corr.isNone) with
  | none => .next s
  | some k =>
    let c := (List.range 256).map (x.frontPlane.dot k.lane)
    .next ((s.updStrike core pos k.flight k.slice (fun k => { k with corr := some c })).deliverAll core pos)

/-- FALLBACK_COMPLETE (R84, R119): the work of the first strike that waits for the fallback is done. -/
def execFallbackComplete (core pos : Nat) (s : State) : Out' :=
  let x := s.arr core pos
  match x.waiting.find? Strike.awaits with
  | none => .next s
  | some k =>
    let p := x.frontPlane
    let k1 := if !k.exact.isEmpty && k.exactCorr.isNone then
      { k with exactCorr := some ((List.range 256).map (p.dot k.exact)) } else k
    let m := if k.main.needsFallback then k.main.settle p else (k.main, 0)
    let o : Option Conv × Nat := match k.overs with
      | some o => if o.needsFallback then (some (o.settle p).1, (o.settle p).2) else (some o, 0)
      | none => (none, 0)
    let s := s.updStrike core pos k.flight k.slice (fun _ => { k1 with main := m.1, overs := o.1 })
    let s := s.arrCount core pos (Reg.ARR_SPLIT_CHISEL core pos) (m.2 + o.2) false
    .next (s.deliverAll core pos)

/-! ### Group results (R91–R95, R139) and redundancy (R127–R131) -/

/-- A fixed-point value with 4 fraction bits times 2^e. -/
def fixedFp (v e : Int) : Fp := .fin (decide (v < 0)) v.natAbs (e - 4)

/-- One FP32 rounding, with whether it clamped. -/
def stepR (v : Fp) (sat : Bool) : Fp × Bool :=
  let r := FFmt.fp32.enc v
  (FFmt.fp32.dec r.bits, sat || r.sat)

/-- The members of a group as (fixed-point values, exponent of s_x), pairs combined (R93, R139), in ascending position. -/
def StrikeJob.members (j : StrikeJob) : List (List Int × Int) :=
  let at_ := fun (p : Nat) => j.got.find? (fun g => g.1 == p)
  (maskPositions j.mask).filterMap (fun p =>
    if !j.wide then (at_ p).map (fun g => (g.2.1, g.2.2.1))
    else if p % 2 = 1 then none
    else match at_ p, at_ (p + 1) with
      | some h, some l => some (h.2.1.zipIdx.map (fun v => 16 * v.1 + (l.2.1[v.2]?).getD 0 + 16 * h.2.2.2.1), h.2.2.1)
      | _, _ => none)

/-- One element of a group's result: its bits and whether it was clamped (R94). -/
def groupElem (ms : List (List Int × Int)) (sw : Nat) (psum : Option Fp) (dstTy j : Nat) : Nat × Bool :=
  let acc := ms.foldl (fun (acc : Option Fp × Bool) m =>
    let v := stepR (fixedFp ((m.1[j]?).getD 0) m.2) acc.2
    match acc.1 with
    | none => (some v.1, v.2)
    | some a => let r := stepR (a.add v.1) v.2; (some r.1, r.2)) ((none : Option Fp), false)
  let y := stepR ((acc.1.getD (.fin false 0 0)).mul (FFmt.bf16.dec sw)) acc.2
  let y := match psum with
    | some p => stepR (y.1.add p) y.2
    | none => y
  let r := (if dstTy = 0 then FFmt.bf16 else FFmt.fp32).enc y.1
  (r.bits, r.sat || y.2)

/-- An FP32 value rounded up from a non-negative rational num / den. -/
def roundUp32 (num den : Nat) (e : Int) : Nat :=
  if num = 0 then 0 else
  let q := num * 2 ^ 64 / den + 1
  let b := (FFmt.fp32.enc (.fin false q (e - 64))).bits
  let v := FFmt.fp32.dec b
  if v.lt (.fin false q (e - 64)) then b + 1 else b

/-- b of R128: |s_w| · Σ |s_x| · (E_orig + 2^B · E_ovf), rounded up. -/
def groupBound (j : StrikeJob) (sw k : Nat) : Nat :=
  match (FFmt.bf16.dec sw).abs with
  | .nan => 0
  | .fin _ m e =>
    let sum := j.got.foldl (fun (acc : Nat) g => acc + (g.2.2.2.2[k]?).getD 0 * 2 ^ (g.2.2.1 + 126).toNat) 0
    roundUp32 (m * sum) boundUnit (e - 126)

/-- GROUP_RESULT_WRITE (R95): the first group with every member's result is combined and written; its STRIKE retires. -/
def execGroupResultWrite (core : Nat) (s : State) : Out' :=
  let c := s.cores.get core
  match c.jobs.find? (fun j => j.got.length == (maskPositions j.mask).length) with
  | none => .next s
  | some j =>
    let ms := j.members
    let sw := memElems c.spm j.scale
    let ps : Option (List Nat × Nat) := j.psum.map (fun o => (memElems c.spm o, o.type))
    let els := (List.range 256).map (fun k =>
      groupElem ms ((sw[k]?).getD 0) (ps.map (fun p => typeVal p.2 ((p.1[k]?).getD 0))) j.dst.type k)
    let out : GroupOut := { dst := j.dst, vals := els.map (·.1)
                            bounds := (List.range 256).map (fun k => groupBound j ((sw[k]?).getD 0) k) }
    let s := s.updCore core (fun c => { c with
      spm := memSetElems c.spm j.dst 0 out.vals
      jobs := c.jobs.filter (fun x => x.flight != j.flight)
      redOut := if c.paired && !c.suspended then c.redOut ++ [out] else c.redOut })
    let s := s.fmtClamps core (Reg.FMT_ACC_SAT core) (els.filter (·.2)).length false
    .next (s.retireWake core j.flight)

/-- Whether y_P and y_S agree: |y_P − y_S| ≤ b_P + b_S + u, u one unit in the last place of the destination format at the
larger magnitude (R128). Two NaNs agree. -/
def elemAgrees (ty yp ys bp bs : Nat) : Bool :=
  let f := if ty = 0 then FFmt.bf16 else FFmt.fp32
  let p := f.dec yp
  let q := f.dec ys
  if p.isNan || q.isNan then p.isNan && q.isNan else
  let big := p.abs.max q.abs
  let u : Fp := match big with
    | .nan => .fin false 0 0
    | .fin _ m e => if m = 0 then .fin false 1 (-126 - f.frac) else .fin false 1 (e + (bitLen m : Int) - 1 - f.frac)
  let lim := ((FFmt.fp32.dec bp).add (FFmt.fp32.dec bs)).add u
  !(lim.lt (p.sub q).abs)

/-- GROUP_COMPARE (R128): the primary compares the pair's next group results. -/
def execGroupCompare (core : Nat) (s : State) : Out' :=
  let c := s.cores.get core
  let d := s.cores.get c.partner
  if !c.paired || !c.primary || c.suspended then .next s else
  match c.redOut, d.redOut with
  | p :: pr, q :: qr =>
    let s := (s.updCore core (fun c => { c with redOut := pr })).updCore c.partner (fun d => { d with redOut := qr })
    let s := s.count64 (Reg.RED_GROUP_CMP core)
    let ok := (List.range 256).all (fun k => elemAgrees p.dst.type ((p.vals[k]?).getD 0) ((q.vals[k]?).getD 0)
      ((p.bounds[k]?).getD 0) ((q.bounds[k]?).getD 0))
    if ok then .next (s.updCore c.partner (fun d => { d with spm := memSetElems d.spm q.dst 0 p.vals }))
    else
      let s := s.count (Reg.RED_MISMATCH core)
      if c.red = .replay then
        let s := s.count (Reg.RED_ARBITRATE core)
        .next ((s.updCore core (fun c => { c with red := .arbitrate })).updCore c.partner (fun d => { d with red := .arbitrate }))
      else .next (s.updCore core (fun c => { c with redKind := some (c.redKind.getD false) }))
  | _, _ => .next s

/-- A pair whose mismatch stays unresolved: 0x4101, and redundancy is suspended on both cores (R131). -/
def State.unresolved (s : State) (p : Nat) (layerKind : Bool) : State :=
  let c := s.cores.get p
  let s := s.logEvent 0x4101 [(1, c.inst.getD 0), (1, p), (2, c.layer), (1, b2n layerKind)]
  let f := fun (c : Core) => { c with suspended := true, red := .clean, redKind := none, redOut := [] }
  (s.updCore p f).updCore c.partner f

/-- ARBITRATION_COMPLETE (R131): each core has checked every column of the arbitration strikes. -/
def execArbitrationComplete (primary missP missS : Nat) (s : State) : Out' :=
  let c := s.cores.get primary
  if !c.paired || !c.primary || c.red ≠ .arbitrate then .next s else
  if missP = missS then .next (s.unresolved primary false)
  else
    let bad := if missS < missP then primary else c.partner
    let good := if missS < missP then c.partner else primary
    let f := fun (c : Core) => { c with red := .clean, redKind := none, redOut := [] }
    let s := (s.updCore primary f).updCore c.partner f
    let s := s.logEvent 0x3102 [(1, c.inst.getD 0), (1, bad), (1, good), (2, max missP missS), (2, min missP missS)]
    .next (s.coreRetire bad 2 8 0 0)

/-! ### Plane loads (R98–R100, R142, R246) -/

/-- The array that a load or swap of array `a` acts on as well: the calibration target of its position, or the spare
array while it is prepared as a copy (R98, R173, R174). -/
def State.partnerArr (s : State) (n a : Nat) : Option Nat :=
  let c := s.cals.get n
  let sp := s.arr n 12
  if c.state = 0 then none
  else if a = 12 then (if sp.stand && sp.standReason == 1 then some sp.standPos else none)
  else if sp.stand then none
  else if c.target == 12 then (if a == c.source then some 12 else none)
  else if a == c.target then some 12 else none

/-- Loads of a core not yet complete, as (array, load). -/
def State.coreLoads (s : State) (n : Nat) : List (Nat × PlaneLoad) :=
  (List.range 13).flatMap (fun a => (s.arr n a).loads.map (fun l => (a, l)))

/-- The load that the plane-write path takes next: restarts of a takeover first, then in issue order (R98, R100, R510). -/
def State.nextLoad (s : State) (n : Nat) : Option (Nat × PlaneLoad) :=
  (s.coreLoads n).foldl (fun best l => match best with
    | none => some l
    | some b => if (l.2.first && !b.2.first) || (l.2.first == b.2.first && decide (l.2.flight < b.2.flight)) then some l else best) none

/-- Change the back plane of an array and of its partner. -/
def State.updBack (s : State) (n a : Nat) (f : Plane → Plane) : State :=
  let s := s.updArr n a (fun x => x.setBack (f x.backPlane))
  match s.partnerArr n a with
  | some b => s.updArr n b (fun x => x.setBack (f x.backPlane))
  | none => s

/-- PLANE_LOAD_START (R98): the plane-write path takes the next load in issue order. -/
def execPlaneLoadStart (core pos : Nat) (s : State) : Out' :=
  if (List.range 13).any (fun a => (s.arr core a).loading) || (s.cores.get core).retired then .next s else
  match s.nextLoad core with
  | none => .next s
  | some l =>
    if l.1 ≠ pos then .next s else
    let s := s.updArr core pos (fun x => { x with
      loads := l.2 :: x.loads.filter (fun y => y.flight != l.2.flight), loading := true })
    .next (s.updBack core pos (fun p => { p with loaded := false, sums := false, synth := l.2.src.isNone }))

/-- PLANE_ROW_WRITTEN (R99): a row is written and checked for parity; a fourth failure retires the array. -/
def execPlaneRowWritten (core pos : Nat) (parityOk : Bool) (s : State) : Out' :=
  let x := s.arr core pos
  match x.loading, x.loads with
  | true, l :: r =>
    if 512 ≤ l.rows then .next s
    else if parityOk then
      let bytes := match l.src with
        | some a => (s.cores.get core).spm.bytes (a + 128 * l.rows) 128
        | none => List.replicate 128 0
      let s := s.updBack core pos (fun p => { p with data := p.data.store (128 * l.rows) bytes })
      .next (s.updArr core pos (fun x => { x with loads := { l with rows := l.rows + 1, attempts := 0 } :: r }))
    else if l.attempts < 3 then
      let s := s.updArr core pos (fun x => { x with loads := { l with attempts := l.attempts + 1 } :: r })
      let s := s.arrCount core pos (Reg.ARR_PWRITE_RETRY core pos) 1 false
      .next (s.logEvent 0x2101 [(1, core), (1, pos), (2, l.rows), (1, l.attempts + 1)])
    else .next (s.arrayRetire core pos 0)
  | _, _ => .next s

/-- A recorded transfer of either mirror bank has completed: its done bit is set, and the saved counter includes its
increment (R284, R516). -/
def State.xferDone (s : State) (n flight : Nat) (evc : Option Nat) : State :=
  let f := fun (m : Mirror) =>
    if m.xfers.any (fun x => x.flight == flight && !x.done) then
      { m with xfers := m.xfers.map (fun x => if x.flight == flight then { x with done := true } else x)
               evc := match evc with | some e => m.evc.upd e (· + 1) | none => m.evc }
    else m
  s.updCore n (fun c => { c with mirror0 := f c.mirror0, mirror1 := f c.mirror1 })

/-- The counter an in-flight instruction names. -/
def State.flightEvc (s : State) (n id : Nat) : Option Nat :=
  match (s.cores.get n).flights.find? (·.id == id) with
  | some f => f.evc
  | none => none

/-- PLANE_LOAD_COMPLETE (R71, R98): the back plane is complete and the PLOAD retires. -/
def execPlaneLoadComplete (core pos : Nat) (s : State) : Out' :=
  let x := s.arr core pos
  match x.loading, x.loads with
  | true, l :: r =>
    if l.rows < 512 then .next s else
    let s := s.updBack core pos (fun p => { p with loaded := true, sums := true })
    let s := s.updArr core pos (fun x => { x with loads := r, loading := false })
    let s := s.xferDone core l.flight (s.flightEvc core l.flight)
    let s := s.retireWake core l.flight
    if l.first && pos == 12 && s.arrTakeovers.any (fun t => t.core == core && t.front) && !(r.any (·.first)) then
      .next (s.endArrTakeover core)
    else .next s
  | _, _ => .next s

/-! ### Tile checks (R122, R123, R126) -/

/-- One column of a completed check: the difference from the exact value in 1/16 unit, its bound and its ratio in 1/256. -/
def checkColumn (c : TileCheck) (p : Plane) (e j : Nat) : Bool × Nat :=
  let exact := 16 * p.dot (rowsOf c.codes) j
  let d := (exact - (c.vals[j]?).getD 0).natAbs
  let mism := decide (16 * e < d * boundUnit)
  (mism, if e = 0 then 0xFFFF else min 0xFFFF (d * boundUnit * 16 / e))

/-- Columns a check includes: in its group, neither zero nor flagged (R122). -/
def checkColumns (c : TileCheck) (p : Plane) : List Nat :=
  ((List.range 8).map (fun k => 8 * c.m + k)).filter (fun j => !p.zeroCol j && !c.flagged.contains j)

/-- The drift window takes a completed check's record; a full window answers D (R183). -/
def Arr.drifted (x : Arr) (c : TileCheck) : Arr × Option Nat :=
  let p := x.frontPlane
  let sums := (checkColumns c p).foldl (fun (m : Map DriftSum) j =>
    (List.range c.b).foldl (fun (m : Map DriftSum) b =>
      let n := activeRows b c.b c.codes
      if n = 0 then m else
      let r := sampleResidual n ((((c.phases[b]?).getD [])[j]?).getD 0) (phaseSum p c.b b c.codes j)
      m.upd j (fun d => { n := d.n + 1, sum := d.sum.add r })) m) x.driftSums
  if x.driftN + 1 < 1024 then ({ x with driftN := x.driftN + 1, driftSums := sums }, none)
  else
    let ds := sums.cells.map (fun k => if k.2.n < 16 then 0 else 16 * k.2.sum.fx.natAbs / (k.2.n * 2 ^ 200))
    let d := ds.foldl max 0
    ({ x with driftN := 0, driftSums := {}, drift := min 0xFFFF d }, some d)

/-- The check-only samples of a completed check (R188). -/
def Arr.sampled (x : Arr) (c : TileCheck) : Arr :=
  let p := x.frontPlane
  let fit := (checkColumns c p).foldl (fun (m : Map FitSums) j =>
    (List.range c.b).foldl (fun (m : Map FitSums) b =>
      let n := activeRows b c.b c.codes
      if n = 0 then m else
      m.upd j (fun f => f.add (samplePair n ((((c.conv[b]?).getD [])[j]?).getD 0) (phaseSum p c.b b c.codes j)))) m) x.fit
  { x with fit := fit, checksSinceFit := x.checksSinceFit + 1 }

/-- A position moves to the front of its core's queue, unless it is there or is the current target (R182). -/
def State.toFront (s : State) (n a : Nat) : State :=
  let c := s.cals.get n
  if (s.arr n a).retired || c.front.contains a || (c.state != 0 && c.target == a) then s
  else s.updCal n (fun c => { c with front := c.front ++ [a] })

/-- An array in check-only mode fits on its own checks; what it accepts waits for its next tile boundary (R188). -/
def State.checkOnlyFit (s : State) (n a : Nat) : State :=
  let x := s.arr n a
  let r := fitAll x.fit x.coef
  let s := s.updArr n a (fun x => { x with fitted := some r, fit := {}, checksSinceFit := 0, checkOnly := true })
  let s := s.arrCount n a (Reg.CAL_FITS n a) 1 false
  let s := (s.arrCount n a (Reg.CAL_REJECT n a) r.2.1 false).arrCount n a (Reg.CAL_SPARSE n a) r.2.2 false
  let s := if 0 < r.2.1 then s.advise n 2 else s
  if 8 < r.2.1 then s.arrayRetire n a 2 else s

/-- TILE_CHECK_COMPLETE (R122, R123, R183, R184, R533). -/
def execTileCheckComplete (core pos : Nat) (s : State) : Out' :=
  let x := s.arr core pos
  match x.check with
  | none => .next s
  | some c =>
    let p := x.frontPlane
    let e := strikeBound c.b c.codes c.age
    let rs := (checkColumns c p).map (fun j => (j, checkColumn c p e j))
    let mism := rs.any (fun r => r.2.1)
    let worst : Nat × Nat := rs.foldl (fun b r => if r.2.1 && (decide (b.2 < r.2.2) || b.1 == 256) then (r.1, r.2.2) else b) (256, 0)
    let s := s.updArr core pos (fun x => { x with check := none })
    let s := s.arrBoth core pos (Reg.CHS_CHECK core pos) (Reg.CHS_CORE_CHECK core) 1 false
    let s := s.fmtAdd core { checks := 1, mism := b2n mism }
    let s := s.updAdvice core (fun a => { a with checks := a.checks + 1, mism := a.mism + b2n mism })
    let s := if !mism then s else
      let s := s.arrBoth core pos (Reg.CHS_MISMATCH core pos) (Reg.CHS_CORE_MISMATCH core) 1 false
      let s := s.updCore core (fun k => { k with mmInfo := fld pos 16 4 + fld worst.1 8 8, mmRatio := worst.2 })
      s.logLimited 0x2103 (16 * core + pos) (fun _ => [(1, core), (1, pos), (1, worst.1), (2, worst.2)])
    let a := s.advice.get core
    let s := if 65536 ≤ a.checks ∧ 4 * (s.thrOf core).tilePpm < a.mism * 1000000 / max 1 a.checks then s.advise core 1 else s
    let dr := (s.arr core pos).drifted c
    let s := s.updArr core pos (fun _ => dr.1)
    let s := match dr.2 with
      | none => s
      | some d =>
        if (s.thrOf core).driftBound < d then
          let s := (s.toFront core pos).arrCount core pos (Reg.CAL_DRIFT_TRIG core pos) 1 false
          s.logLimited 0x2301 (16 * core + pos) (fun _ => [(1, core), (1, pos), (2, min 0xFFFF d)])
        else s
    if !(s.cals.get core).checkOnly then .next s else
    let s := s.updArr core pos (fun x => x.sampled c)
    .next (if 8192 ≤ (s.arr core pos).checksSinceFit then s.checkOnlyFit core pos else s)

/-! ### Test reads (R105) -/

/-- A read is accepted: unified mode or a retired array, no calibration target, debug open or scope 2 granted (R105). -/
def State.testReadOk (s : State) (n a : Nat) (debugOk : Bool) : Bool :=
  let c := s.cores.get n
  let sp := s.arr n 12
  (c.org == .unified || c.org == .free || (s.arr n a).retired) && debugOk
    && !(sp.stand && sp.standReason == 1 && (a == 12 || sp.standPos == a))

/-- ARRAY_TEST_READ_DONE (R105): an accepted read completes with the row's bytes, and sets done. -/
def execArrayTestReadDone (core pos : Nat) (s : State) : Out' :=
  let x := s.arr core pos
  match x.testPending with
  | none => .next s
  | some (pl, r) =>
    let p := if pl = 0 then x.plane0 else x.plane1
    .next (s.updArr core pos (fun x => { x with testPending := none, testDone := true, testRow := p.data.bytes (128 * r) 128 }))

end Sys2Proof.Machine
end

