-- ==== Sys2Proof/Machine/Weights.lean ====
section
/-!
DEFINITION. Model slots, loads and the weight switch (13, R373–R386, R391–R393), and the programs a first set loads
(07, R203, R204; R380).
-/
namespace Sys2Proof.Machine
open Sys2Proof

/-! ### Completion of weight commands (R392) -/

/-- A command's ring opcode and the key its completion waits on (Table 16-7). -/
def wldOpcode (cmd : Nat) : Nat := 0x0F + cmd
def wldKey (cmd k i : Nat) : Nat := if cmd = 5 then i else if cmd ≤ 2 then k else 16 * k + i

/-- A weight command's status is shown, and a failing one logs 0x6801 (R392). -/
def State.wldStatus (s : State) (cmd k i status : Nat) : State :=
  let s := if cmd = 5 then s.updWInst i (fun w => { w with lastStatus := status })
    else s.updWSlot k (fun x => { x with lastStatus := status, lastInst := i })
  if status = 0 then s else s.logEvent 0x6801 [(1, cmd), (1, k), (1, i), (1, status)]

/-- A command that completes at once. -/
def State.wldNow (s : State) (cmd k i status : Nat) : State × Option Nat := (s.wldStatus cmd k i status, some status)

/-- A command in progress completes; so does the ring command that waits on it. -/
def State.wldDone (s : State) (cmd k i status : Nat) : State :=
  (s.wldStatus cmd k i status).finish (wldOpcode cmd) (wldKey cmd k i) status

/-! ### Slots (R373, R374) -/

/-- A set of slot k is resident in some instance. -/
def State.slotResident (s : State) (k : Nat) : Bool := (List.range 16).any (fun i => ((s.winsts.get i).setOf k).isSome)

/-- A load of slot k is queued or running. -/
def State.slotLoading (s : State) (k : Nat) : Bool := s.wloads.any (·.slot == k)

/-- The port a slot's reads use: under "both", the first whose link is up (Table 13-8). -/
def State.slotPort (s : State) (k : Nat) : Option Nat :=
  let c := s.regF (Reg.WLD_SLOT_CTL k) 1 0
  let up := fun (p : Nat) => decide (p < s.fuses.hostPorts) && (s.ports.get p).linkUp
  if c = 2 then (List.range 2).find? up else
  let p := if c = 1 then 1 else 0
  if up p then some p else none

/-- A read of a slot's package. -/
def State.readPackage (s : State) (k off len : Nat) : State :=
  match s.slotPort k with
  | some p => s.emit (.hostRead p ((s.wslots.get k).src + off) len)
  | none => s

/-- BIND (R374). -/
def State.wldBind (s : State) (k : Nat) : State × Option Nat :=
  let x := s.wslots.get k
  if x.state = 1 || s.slotResident k || s.slotLoading k then s.wldNow 1 k 0 wBusy
  else
    let s := s.updWSlot k (fun x => { x with
      state := 1, pkg := {}, src := s.reg64 (Reg.WLD_SRC_LO k) / 8 * 8, len := s.reg64 (Reg.WLD_LEN_LO k), stale := false })
    let s := { s with winsts := s.winsts.mapVals (fun _ w => if w.current = k then { w with autoFailed := false } else w) }
    (s.readPackage k 0 256, none)

/-- UNBIND (R374). -/
def State.wldUnbind (s : State) (k : Nat) : State × Option Nat :=
  let x := s.wslots.get k
  let current := (List.range 16).any (fun i => s.hasInst i && (s.winsts.get i).current == k)
  if x.state = 0 then s.wldNow 2 k 0 wState
  else if x.state = 1 || s.slotResident k || s.slotLoading k || current then s.wldNow 2 k 0 wBusy
  else (s.updWSlot k (fun x => { x with state := 0, pkg := {} })).wldNow 2 k 0 wOk

/-- A bind ends without a package. -/
def State.bindFailed (s : State) (k status : Nat) : State :=
  (s.updWSlot k (fun x => { x with state := 0, pkg := {} })).wldDone 1 k 0 status

/-- DEV_CAP5.max_vocab (Table 1-11). -/
def devMaxVocab : Nat := 262144

/-- BIND_FETCH_COMPLETE (R373): `header` is the package's first 256 bytes and `sections` its sections 0–8. -/
def execBindFetchComplete (slot : Nat) (error : Bool) (header : List Byte) (sections : List (List Byte)) (s : State) : Out' :=
  let x := s.wslots.get slot
  if x.state ≠ 1 then .next s
  else if error then .next (s.bindFailed slot wFetch)
  else match checkPackage header sections x.len devMaxVocab with
    | .error st => .next (s.bindFailed slot st)
    | .ok p =>
      let s := s.updWSlot slot (fun x => { x with state := 2, pkg := p })
      let s := s.logEvent 0x1801 [(1, slot), (4, p.modelId % 2 ^ 32), (1, s.regF (Reg.WLD_SLOT_CTL slot) 1 0)]
      .next (s.wldDone 1 slot 0 wOk)

/-- BIND_FETCH_TIMEOUT (R373): it ends as a fetch error does (log entry 102). -/
def execBindFetchTimeout (slot : Nat) (s : State) : Out' :=
  .next (if (s.wslots.get slot).state = 1 then s.bindFailed slot wFetch else s)

/-! ### Loads (R375–R381) -/

/-- Check 3 of R376. -/
def State.loadShape (s : State) (p : Package) (i : Nat) : Bool :=
  match (s.winsts.get i).shape, s.img.insts.get i with
  | some sh, _ => sh.phash == p.phash
  | none, some x => loadShapeOk p x (s.instCores i).length
  | none, none => false

/-- n_sp as check 5 of R376 takes it. -/
def State.loadSpaces (s : State) (p : Package) (i : Nat) : Nat :=
  match (s.winsts.get i).shape with
  | some sh => sh.nsp
  | none => p.spaces (s.planOf i)

/-- Checks 3–6 of R376. -/
def State.loadChecks (s : State) (k i : Nat) : Option Nat :=
  let p := (s.wslots.get k).pkg
  let fmt := ((s.img.insts.get i).getD {}).fmt
  if !s.loadShape p i then some wShape
  else if !loadFormatOk p fmt then some wFormat
  else if s.loadSpaces p i = 0 then some wNoCapacity
  else if p.spaceF ≠ 0 ∧ !bit (s.regN (Reg.FTR_CTL i)) 0 then some wFarTier
  else if p.keySlot ≠ 0xFF ∧ (s.weightKeys.get p.keySlot).isNone then some wKeyMissing
  else none

/-- A check that fails for want of a key logs 0x7801 (R376). -/
def State.keyMissing (s : State) (k st : Nat) : State :=
  if st = wKeyMissing then s.logEvent 0x7801 [(1, k), (1, (s.wslots.get k).pkg.keySlot)] else s

/-- A load or reload of slot k in instance i is queued or running. -/
def State.loadOf (s : State) (k i : Nat) : Option WLoad := s.wloads.find? (fun l => l.slot == k && l.inst == i)

/-- How an attempt to start a load ends. -/
inductive LoadStart where
  | queued | resident | failed (status : Nat)
deriving DecidableEq, Repr

/-- R376, in order. -/
def State.startLoad (s : State) (k i cause : Nat) : State × LoadStart :=
  if (s.wslots.get k).state ≠ 2 then (s, .failed wState)
  else if !s.hasInst i then (s, .failed wNotSealed)
  else if (s.loadOf k i).isSome then (s, .failed wBusy)
  else if ((s.winsts.get i).setOf k).isSome then (s, .resident)
  else match s.loadChecks k i with
    | some st => (s.keyMissing k st, .failed st)
    | none =>
      if 16 ≤ s.wloads.length then (s, .failed wBusy)
      else ({ s with wloads := s.wloads ++ [{ slot := k, inst := i, cause := cause }] }, .queued)

/-- LOAD (R376). -/
def State.wldLoad (s : State) (k i : Nat) : State × Option Nat :=
  match s.startLoad k i 0 with
  | (s, .queued) => (s, none)
  | (s, .resident) => s.wldNow 3 k i wOk
  | (s, .failed st) => s.wldNow 3 k i st

/-- A set is idle (R377). One that is being reloaded is not (log entry 40). -/
def State.setIdle (s : State) (i k : Nat) : Bool :=
  let w := s.winsts.get i
  (w.setOf k).isSome && w.current != k && w.draining != some k && w.pending.all (·.slot != k) && !s.reloading i k

/-- A set is released (R375, R377, R382): `cause` 0 eviction, 1 UNLOAD, 2 seal. -/
def State.releaseSet (s : State) (i k cause : Nat) : State :=
  match (s.winsts.get i).setOf k with
  | none => s
  | some x =>
    let s := s.updWInst i (fun w => { w with sets := w.sets.filter (·.slot != k) })
    (s.count Reg.WLD_RELEASES).logEvent 0x1803 [(1, k), (1, i), (1, x.space), (1, cause)]

/-- Spaces of an instance that its sets and running loads use. -/
def State.spacesUsed (s : State) (i : Nat) : List Nat :=
  (s.winsts.get i).sets.map (·.space) ++ (s.wloads.filter (·.inst == i)).filterMap (·.space)

/-- The least recently used idle set: by recency, then by space (R377). -/
def State.lruIdle (s : State) (i : Nat) : Option WSet :=
  let better := fun (a b : WSet) => a.stamp < b.stamp || (a.stamp == b.stamp && a.space < b.space)
  ((s.winsts.get i).sets.filter (fun x => s.setIdle i x.slot)).foldl (fun acc x => match acc with
    | none => some x
    | some y => if better x y then some x else some y) none

/-- The pending switch of an instance ends (R384). -/
def State.endSwitch (s : State) (i status : Nat) : State :=
  match (s.winsts.get i).pending with
  | none => s
  | some p => (s.updWInst i (fun w => { w with pending := none })).wldDone 5 p.slot i status

/-- A load ends without its set (R377, R379, R381, R382). A reload leaves its set resident and damaged. -/
def State.loadFailed (s : State) (l : WLoad) (status : Nat) : State :=
  let s := { s with wloads := s.wloads.filter (fun x => !(x.slot == l.slot && x.inst == l.inst && x.cause == l.cause)) }
  if l.cause = 3 then s.wldDone 6 l.slot l.inst status else
  let s := if (s.winsts.get l.inst).pending.any (·.slot == l.slot) then s.endSwitch l.inst status else s
  let s := if l.cause = 1 ∨ l.cause = 2 then s.updWInst l.inst (fun w => { w with autoFailed := true }) else s
  s.wldDone 3 l.slot l.inst status

/-- Put the head of the load queue in a space; its first record is fetched. -/
def State.headRuns (s : State) (l : WLoad) (q : Nat) : State :=
  let s := { s with wloads := { l with space := some q } :: s.wloads.drop 1 }
  s.readPackage l.slot (s.wslots.get l.slot).pkg.dataOff recordLen

/-- LOAD_QUEUE_HEAD (R377): the head of the queue is checked again and takes a space. -/
def State.loadHead (s : State) : State :=
  match s.wloads with
  | [] => s
  | l :: _ =>
    if l.space.isSome then s else
    let p := (s.wslots.get l.slot).pkg
    if l.cause = 3 then
      match (s.winsts.get l.inst).setOf l.slot with
      | none => s.loadFailed l wState
      | some x =>
        if (s.wslots.get l.slot).stale then s.loadFailed l wFetch
        else match s.loadChecks l.slot l.inst with
          | some st => (s.keyMissing l.slot st).loadFailed l st
          | none => s.headRuns l x.space
    else if (s.wslots.get l.slot).state ≠ 2 then s.loadFailed l wState
    else if !s.hasInst l.inst then s.loadFailed l wNotSealed
    else match s.loadChecks l.slot l.inst with
      | some st => (s.keyMissing l.slot st).loadFailed l st
      | none =>
        let used := s.spacesUsed l.inst
        match firstBelow (s.loadSpaces p l.inst) (fun q => !used.contains q) with
        | some q => s.headRuns l q
        | none => match s.lruIdle l.inst with
          | some x => (s.releaseSet l.inst x.slot 0).headRuns l x.space
          | none => s

def execLoadQueueHead (s : State) : Out' := .next s.loadHead

/-- The scales of a record within its matrix's columns are finite and beyond them zero, and equal those met before in the
column block (R372, R377). -/
def scalesOk (m : MatEnt) (cb : Nat) (sc : List Byte) (before : List Byte) : Bool :=
  (List.range 256).all (fun j =>
    let v := leField sc (2 * j) 2
    if 256 * cb + j < m.cols then bits v 14 7 != 255 else v % 0x8000 == 0) && (before.isEmpty || before == sc)

/-- The far-tier write of a record fails (R377): `cause` 0 completion error, 1 no link for 50 ms. -/
def State.loadFarFailed (s : State) (l : WLoad) (cause : Nat) : State :=
  let p := if bits (s.regN (Reg.FTR_CTL l.inst)) 2 1 = 1 then 1 else 0
  (((s.count Reg.FTR_ERRORS).logEvent 0x6702 [(1, l.inst), (1, p), (1, cause)])).loadFailed l wFarTier

/-- A checked record is written to its place (R377, R378). A far record needs a port to go by. -/
def State.placeRecord (s : State) (l : WLoad) (t : TileEnt) (raw plain : List Byte) : Option State :=
  let sh := (s.winsts.get l.inst).shape.getD
    { s := (s.wslots.get l.slot).pkg.spaceS, f := (s.wslots.get l.slot).pkg.spaceF }
  let q := l.space.getD 0
  if t.far then
    (s.farPort l.inst).map (fun port =>
      (s.emit (.hostWrite port (s.farAddr l.inst (q * sh.f + 64 * t.off)) raw)).count64By Reg.FTR_BYTES_OUT recordLen)
  else
    let m := s.planOf l.inst
    let stk := (m.stackList[t.pos]?).getD 0
    some (s.updPed stk (fun p => p.planWrite l.inst ((m.bases stk).w + q * sh.s + 64 * t.off) plain))

/-- TILE_RECORD_FETCHED (R377, R378, R381, R391): the fetched record is decrypted, checked and written. `farError` is what
becomes of a far record's write: none, or a failure whose flag says that it waited 50 ms for a link. -/
def execTileRecordFetched (error : Bool) (bytes : List Byte) (farError : Option Bool) (s : State) : Out' :=
  match s.wloads with
  | [] => .next s
  | l :: rest =>
    let x := s.wslots.get l.slot
    let p := x.pkg
    match p.tiles[l.next]?, l.space with
    | some t, some _ =>
      if error || x.stale then .next (s.loadFailed l wFetch)
      else if bytes.length ≠ recordLen then .next s
      else match (if p.keySlot = 0xFF then some bytes
          else (s.weightKeys.get p.keySlot).map (fun k => p.decryptRecord k l.next bytes)) with
        | none => .next ((s.keyMissing l.slot wKeyMissing).loadFailed l wKeyMissing)
        | some plain =>
          let m := (p.mats[t.mat]?).getD {}
          let sc := plain.drop planeLen
          let key := 65536 * t.mat + t.cb
          let s := s.count64By Reg.WLD_LOAD_BYTES recordLen
          if !scalesOk m t.cb sc (l.scales.get key) then .next (s.loadFailed l wScale)
          else match t.far, farError with
            | true, some waited => .next (s.loadFarFailed l (if waited then 1 else 0))
            | _, _ => match s.placeRecord l t bytes plain with
              | none => .next s
              | some s =>
                let d := if t.kind = 1 then blockFwd p t.mat t.rb t.cb plain []
                  else if t.kind = 3 then blockFwd p t.mat t.rb t.cb l.high plain else {}
                let l := { l with
                  next := l.next + 1, dig := l.dig.add d, scales := l.scales.put key sc
                  high := if t.kind = 2 then plain else [] }
                let s := { s with wloads := l :: rest }
                .next (if l.next < p.tiles.length then s.readPackage l.slot (p.dataOff + recordLen * l.next) recordLen else s)
    | _, _ => .next s

/-! ### Programs (R203, R204, R253, R270, R380) -/

/-- A package's program as words, its entry table and its descriptors. -/
def progWords (bs : List Byte) : Map W64 :=
  (List.range (bs.length / 8)).foldl (fun m k => m.put k (BitVec.ofNat 64 (leField bs (8 * k) 8))) {}
def entryTable (bs : List Byte) : Map (Option Nat) :=
  (List.range (bs.length / 2)).foldl (fun m k =>
    let e := leField bs (2 * k) 2
    if e = 0xFFFF then m else m.put k (some e)) {}
def descTable (bs : List Byte) : Map (BitVec 128) :=
  (List.range (bs.length / 16)).foldl (fun m k => m.put k (BitVec.ofNat 128 (leField bs (16 * k) 16))) {}

/-- The region table (R270, Table 9-3). -/
def regionTable (bs : List Byte) : Map Region :=
  (List.range (bs.length / 16)).foldl (fun m q =>
    let w0 := leField bs (16 * q) 4
    let slots := leField bs (16 * q + 8) 2
    if slots = 0 then m else
    m.put q { configured := true, mem := bits w0 22 21, base := bits w0 20 0, slots := slots
              slotBytes := bits (leField bs (16 * q + 4) 4) 20 0 }) {}

/-- Index of a core in its instance and their number, as its threads hold them: of the pair under redundancy (R204). None
for the idle core of an odd redundancy instance. -/
def State.coreRank (s : State) (i n : Nat) : Option (Nat × Nat) :=
  let x := s.coreIndex i n
  let c := (s.instCores i).length
  if ((s.img.insts.get i).getD {}).thr.redundancy then (if x / 2 < c / 2 then some (x / 2, c / 2) else none) else some (x, c)

/-- A starting thread's context (R204). -/
def startContext (entry : Option Nat) (idx t i cnt : Nat) : Thread :=
  match entry with
  | none => {}
  | some pc =>
    let regs := [idx, t, i, cnt].zipIdx.foldl (fun (m : Map W64) x => m.put x.2 (BitVec.ofNat 64 x.1)) {}
    { state := .runnable, pc := pc, s := regs }

/-- A core's threads start anew and its counters return to 0 (R204, Table 7-2). What was in flight is discarded. -/
def State.startThreads (s : State) (n i : Nat) : State :=
  let rank := s.coreRank i n
  s.updCore n (fun c => { c with
    threads := (List.range 32).foldl (fun m t => m.put t (match rank with
      | some (idx, cnt) => startContext (c.entries.get t) idx t i cnt
      | none => {})) {}
    evc := {}, flights := [], jobs := [], groups := {}, barrier := none, replaying := false
    regions := c.regions.mapVals (fun _ r => { r with head := 0, take := 0, tail := 0, state := {}, owner := {} }) })

/-- A core's program buffer, descriptor store and region table are loaded (R203, R231, R270). -/
def State.loadCore (s : State) (n : Nat) (p : Package) : State :=
  s.updCore n (fun c => { c with
    program := progWords p.prog, progLen := p.prog.length / 8, entries := entryTable p.entries
    descs := descTable p.descs, descLen := p.descs.length / 16, regions := regionTable p.regions })

/-- Programs of the stack engines of an instance's stacks are loaded (R253, R380). -/
def State.loadEngines (s : State) (i : Nat) (p : Package) : State :=
  (s.planOf i).stackList.foldl (fun s st => s.updPed st (fun x => { x with
    program := progWords p.seProg, progLen := p.seProg.length / 8, entries := entryTable p.seEntries
    descs := descTable p.seDescs, descLen := p.seDescs.length / 16 })) s

/-- Programs of an instance are loaded and its threads start (R380); strikes and loads under way on its arrays end. -/
def State.loadPrograms (s : State) (i : Nat) (p : Package) : State :=
  let s := (s.instCores i).foldl (fun s n =>
    if (s.unbacked.get n) then s else ((s.loadCore n p).dropStrikes n).startThreads n i) s
  s.loadEngines i p

/-- SET_LOAD_COMPLETE (R377, R379, R380, R382): the last record of the running load has been written. -/
def execSetLoadComplete (s : State) : Out' :=
  match s.wloads with
  | [] => .next s
  | l :: rest =>
    let p := (s.wslots.get l.slot).pkg
    match l.space with
    | none => .next s
    | some q =>
      if l.next < p.tiles.length then .next s else
      let reload := decide (l.cause = 3)
      let w := s.winsts.get l.inst
      let first := w.shape.isNone
      let s := { s with wloads := rest }
      let s := s.updWSlot l.slot (fun x => { x with ldig := l.dig.close p.canonLen })
      let s := s.updWInst l.inst (fun w =>
        if reload then w.updSet l.slot (fun x => { x with damaged := false, seen := {}, dig := {} })
        else { w with
          sets := w.sets ++ [{ slot := l.slot, space := q, stamp := s.time }]
          shape := some (w.shape.getD { phash := p.phash, s := p.spaceS, f := p.spaceF, nsp := p.spaces (s.planOf l.inst) }) })
      let s := (s.count Reg.WLD_LOADS).logEvent 0x1802 [(1, l.slot), (1, l.inst), (1, q), (1, l.cause)]
      let s := if l.slot = w.current then s.updWInst l.inst (fun w => { w with autoFailed := false }) else s
      let s := if first || (reload && l.slot == w.current) then s.loadPrograms l.inst p else s
      .next (s.wldDone (if reload then 6 else 3) l.slot l.inst wOk)

/-- LOAD_TIMEOUT (R381). -/
def execLoadTimeout (slot inst : Nat) (s : State) : Out' :=
  .next (match s.loadOf slot inst with
    | some l => s.loadFailed l wTimeout
    | none => s)

/-! ### UNLOAD, RELOAD (R382) -/

def State.wldUnload (s : State) (k i : Nat) : State × Option Nat :=
  if ((s.winsts.get i).setOf k).isNone then
    s.wldNow 4 k i (if (s.winsts.get i).pending.any (·.slot == k) then wBusy else wState)
  else if s.setIdle i k then (s.releaseSet i k 1).wldNow 4 k i wOk
  else s.wldNow 4 k i wBusy

def State.wldReload (s : State) (k i : Nat) : State × Option Nat :=
  if ((s.winsts.get i).setOf k).isNone then s.wldNow 6 k i wState
  else if s.reloading i k then s.wldNow 6 k i wBusy
  else (s.queueReload i k, none)

/-! ### The switch (R384–R387) -/

/-- A SWITCH becomes pending, in place of one already pending (R384). -/
def State.pendSwitch (s : State) (i k : Nat) (nextStep : Bool) : State × Option Nat :=
  ((s.endSwitch i wReplaced).updWInst i (fun w => { w with pending := some { slot := k, nextStep := nextStep } }), none)

/-- SWITCH (R384, R386, Table 13-5). -/
def State.wldSwitch (s : State) (k i : Nat) (nextStep : Bool) : State × Option Nat :=
  if !s.hasInst i then s.wldNow 5 k i wNotSealed else
  let s := s.updWInst i (fun w => { w with autoFailed := false })
  let w := s.winsts.get i
  if w.draining.isSome && !nextStep then s.wldNow 5 k i wBusy
  else if k = w.current ∧ w.pending.isNone ∧ w.draining.isNone then s.wldNow 5 k i wOk
  else if !nextStep && (match w.shape with | some sh => decide (sh.nsp < 2) | none => false) then s.wldNow 5 k i wNoCapacity
  else if (w.setOf k).isSome || (s.loadOf k i).isSome then s.pendSwitch i k nextStep
  else match s.startLoad k i 0 with
    | (s, .failed st) => s.wldNow 5 k i st
    | (s, _) => s.pendSwitch i k nextStep

/-- Draining ends: the set becomes idle (R385, R386). -/
def State.endDrain (s : State) (i : Nat) : State :=
  match (s.winsts.get i).draining with
  | none => s
  | some k =>
    let s := s.updWInst i (fun w => { (w.updSet k (fun x => { x with stamp := s.time })) with draining := none })
    s.logEvent 0x1805 [(1, i), (1, k)]

/-- A sequence of the instance uses the set of slot k. -/
def State.usesSet (s : State) (i k : Nat) : Bool :=
  (s.residents i).any (fun q => (s.seq i q).state != .waiting && (s.seq i q).wslot == k)

/-- Step digests of the step that has ended (R391): a set whose every record has contributed has one. -/
def State.stepDigests (s : State) (i : Nat) : State :=
  let s := (s.insts.get i).stepSets.foldl (fun s k =>
    match (s.winsts.get i).setOf k with
    | none => s
    | some x =>
      let p := (s.wslots.get k).pkg
      let missing := (p.tiles.zipIdx.filter (fun t => !x.seen.get t.2)).length
      let s := if missing = 0 then
          if (s.winsts.get i).current = k then s.updWInst i (fun w => { w with
            sdig := x.dig.close p.canonLen, sdigStep := (s.insts.get i).stepsSeal % 2 ^ 32 }) else s
        else (s.count Reg.WLD_DIG_INCOMPLETE).logLimited 0x4802 i (fun _ => [(1, i), (1, k), (4, missing)])
      s.updWInst i (fun w => w.updSet k (fun x => { x with seen := {}, dig := {} }))) s
  s.updInst i (fun x => { x with stepSets := [] })

/-- The pending switch takes effect at a boundary, once its target is resident (R384–R386). -/
def State.switchTakes (s : State) (i : Nat) : State :=
  let w := s.winsts.get i
  match w.pending with
  | none => s
  | some p =>
    if (w.setOf p.slot).isNone then s else
    let old := w.current
    let s := if p.nextStep then
        let s := s.endDrain i
        { s with seqs := s.seqs.mapVals (fun k x => if k / 4096 = i ∧ x.state ≠ .free then { x with wslot := p.slot } else x) }
      else s
    let s := s.updWInst i (fun w =>
      let w := { w with current := p.slot }
      if old = p.slot then w
      else if p.nextStep || !s.usesSet i old || (w.setOf old).isNone then w.updSet old (fun x => { x with stamp := s.time })
      else { w with draining := some old })
    let s := if old = p.slot then s
      else
        let s := s.logEvent 0x1804 [(1, i), (1, old), (1, p.slot), (1, b2n p.nextStep)]
        if !p.nextStep && (w.setOf old).isSome && (s.winsts.get i).draining.isNone then s.logEvent 0x1805 [(1, i), (1, old)] else s
    s.endSwitch i wOk

/-- What a step boundary does to an instance's weights (R384–R386, R391). -/
def State.weightBoundary (s : State) (i : Nat) : State :=
  let s := s.stepDigests i
  let s := match (s.winsts.get i).draining with
    | some k => if s.usesSet i k then s else s.endDrain i
    | none => s
  s.switchTakes i

/-! ### Automatic loads and seals (R375, R379) -/

/-- An automatic load of the current set is started, or has failed (R379): cause 1 request, 2 seal. -/
def State.autoLoad (s : State) (i cause : Nat) : State :=
  let k := (s.winsts.get i).current
  match s.startLoad k i cause with
  | (s, .failed st) => (s.updWInst i (fun w => { w with autoFailed := true })).wldStatus 3 k i st
  | (s, _) => s

/-- A seal clears an instance's shape and sets (R375). -/
def State.weightsDropped (s : State) (i slot : Nat) : State :=
  let s := (s.wloads.filter (·.inst == i)).foldl (fun s l => s.loadFailed l wState) s
  let s := ((s.winsts.get i).sets.map (·.slot)).foldl (fun s k => s.releaseSet i k 2) s
  let s := s.endSwitch i wState
  s.updWInst i (fun w => { w with shape := none, sets := [], current := slot, draining := none, autoFailed := false })

/-- What a request finds of its instance's weights (R379, check 2 of R399). -/
inductive Demand where
  | ready | wait | unavailable
deriving DecidableEq, Repr

/-- A request for an instance reaches the step scheduler (R379). -/
def State.demand (s : State) (i : Nat) : State × Demand :=
  let w := s.winsts.get i
  if (w.setOf w.current).isSome then (s, .ready)
  else if (s.loadOf w.current i).isSome then (s, .wait)
  else if (s.wslots.get w.current).state ≠ 2 ∨ w.autoFailed then (s, .unavailable)
  else
    let s := s.autoLoad i 1
    if (s.winsts.get i).autoFailed then (s, .unavailable) else (s, .wait)

/-! ### The commands (Table 13-9) -/

def execBind (slot : Nat) (port : Port) (s : State) : Out' := let _ := port; .next (s.wldBind slot).1
def execUnbind (slot : Nat) (port : Port) (s : State) : Out' := let _ := port; .next (s.wldUnbind slot).1
def execLoad (slot inst : Nat) (port : Port) (s : State) : Out' := let _ := port; .next (s.wldLoad slot inst).1
def execUnload (slot inst : Nat) (port : Port) (s : State) : Out' := let _ := port; .next (s.wldUnload slot inst).1
def execSwitch (slot inst : Nat) (nextStep : Bool) (port : Port) (s : State) : Out' :=
  let _ := port; .next (s.wldSwitch slot inst nextStep).1
def execReload (slot inst : Nat) (port : Port) (s : State) : Out' := let _ := port; .next (s.wldReload slot inst).1

end Sys2Proof.Machine
end

