-- ==== Sys2Proof/Machine/Formats.lean ====
section
/-!
DEFINITION. Precision control (05, R157–R165): the metric of a layer, its window, wide fallback and halving at a step
boundary, and RESET_FALLBACK.
-/
namespace Sys2Proof.Machine
open Sys2Proof

/-- Key of a layer of an instance. -/
def fmtKey (i l : Nat) : Nat := 1024 * i + l

/-- The instance uses the saturation metric (R158). -/
def State.satMetric (s : State) (i : Nat) : Bool :=
  match s.img.insts.get (s.mainOf i) with
  | some x => x.inst.replicaGroup != 0 || (match x.route with
      | some r => r.ingressIcpen || r.egressIcpen
      | none => false)
  | none => false

/-- The package of an instance's current slot. -/
def State.currentPkg (s : State) (i : Nat) : Package := (s.wslots.get (s.winsts.get i).current).pkg

/-- The sealed format codes of a layer's matrices, in order (R50, R51). -/
def State.layerCodes (s : State) (i l : Nat) : List Nat :=
  match s.img.insts.get i, (s.currentPkg i).layers[l]? with
  | some x, some e => e.mats.zipIdx.map (fun m => x.fmt.codeOf l m.2 m.1.norm)
  | _, _ => []

/-- The layer is eligible for fallback (R160). -/
def State.fmtEligible (s : State) (i l : Nat) : Bool :=
  match s.img.insts.get i, (s.currentPkg i).layers[l]? with
  | some x, some e => x.fmt.fallbackEnable && (s.layerCodes i l).any (· != 0x88) && e.widePc != 0xFFFF
  | _, _ => false

/-- Every matrix of the layer is sealed wide. -/
def State.sealedWide (s : State) (i l : Nat) : Bool := !(s.layerCodes i l).isEmpty && (s.layerCodes i l).all (· == 0x88)

/-- Layers that an instance runs (R161). -/
def State.layersRun (s : State) (i : Nat) : Nat :=
  match s.img.insts.get i with
  | some x => match x.route with
    | some r => r.lastLayer + 1 - r.firstLayer
    | none => x.fmt.layers
  | none => 0

/-- The budget B (R161). -/
def State.wideBudget (s : State) (i : Nat) : Nat :=
  match s.img.insts.get i with
  | some x => x.fmt.wideBudget * s.layersRun i / 100
  | none => 0

/-- The layers of an instance with their records. -/
def State.fmtLayers (s : State) (i : Nat) : List (Nat × FmtLayer) :=
  (s.fmts.cells.filter (fun c => c.1 / 1024 == i)).map (fun c => (c.1 % 1024, c.2))

/-- F: layers wide by fallback. -/
def State.wideCount (s : State) (i : Nat) : Nat := ((s.fmtLayers i).filter (fun l => l.2.wide)).length

def State.updFmt (s : State) (i l : Nat) (f : FmtLayer → FmtLayer) : State := { s with fmts := s.fmts.upd (fmtKey i l) f }

/-- A window is evaluated: its metric is recorded and what exceeds its threshold follows (R159, R160, R163). -/
def State.evaluate (s : State) (i l metric : Nat) : State :=
  let x := (s.img.insts.get i).getD {}
  let s := s.updFmt i l (fun f => { f with metric := metric, evals := satAdd 32 f.evals 1, win := {}, steps := 0 })
  let f := s.fmts.get (fmtKey i l)
  let overs := decide ((if s.satMetric i then x.thr.satPpm else x.thr.tilePpm) < metric)
  if s.fmtEligible i l then
    if f.wide then s
    else s.updFmt i l (fun f => { f with cand := if overs then some metric else none, after := overs })
  else if overs && !f.told then
    (s.updFmt i l (fun f => { f with told := true })).logEvent 0x4202
      [(1, i), (2, l), (4, metric), (1, if x.fmt.fallbackEnable then 1 else 0)]
  else s

/-- LAYER_PASS_COMPLETE (R159): the layer's pass for a step is complete on every core of the instance. -/
def execLayerPassComplete (inst layer : Nat) (s : State) : Out' :=
  if !s.hasInst inst || s.sealedWide inst layer then .next s else
  let s := s.updFmt inst layer (fun f => { f with steps := f.steps + 1 })
  let f := s.fmts.get (fmtKey inst layer)
  let w := f.win
  let sat := s.satMetric inst
  let n := if sat then w.conv else w.checks
  let full := decide ((if sat then 16777216 else 65536) ≤ n)
  let enough := decide ((if sat then 65536 else 1024) ≤ n)
  let metric := if sat then w.sat * 10 ^ 6 / n else w.mism * 10 ^ 6 / n
  .next (if (full || (decide (1024 ≤ f.steps) && enough)) && decide (0 < w.conv) then s.evaluate inst layer metric
    else if 1024 ≤ f.steps then s.updFmt inst layer (fun f => { f with win := {}, steps := 0 })
    else s)

/-- RESET_FALLBACK is registered (R164): it discards candidates registered before it (R165). -/
def State.resetFallback (s : State) (i : Nat) (port : Port) : State × Option Nat :=
  if s.hasInst i then
    ({ s with fmtResets := s.fmtResets.upd i (fun l => l ++ [port.num])
              fmts := s.fmts.mapVals (fun k f => if k / 1024 = i then { f with after := false } else f) }, none)
  else (s.logEvent 0x6201 [(4, 1 + 16 * i), (1, port.num)], some (Config.ringState 0x28))

/-- RESET_FALLBACK (R164). -/
def execResetFallback (inst : Nat) (port : Port) (s : State) : Out' := .next (s.resetFallback inst port).1

/-- Precision control at a seal that affects an instance (R164, R165): every layer returns to its sealed format. -/
def State.fmtSealed (s : State) (i : Nat) : State :=
  { s with fmts := s.fmts.keep (fun k _ => k / 1024 != i), fmtResets := s.fmtResets.put i [] }.finish 0x28 i 0

/-- Candidates ranked by metric, lower layer first on ties (R161). -/
def State.candidates (s : State) (i : Nat) : List (Nat × Nat) :=
  ((s.fmtLayers i).filterMap (fun l => l.2.cand.map (fun m => (l.1, m)))).mergeSort
    (fun a b => decide (b.2 < a.2) || (a.2 == b.2 && decide (a.1 ≤ b.1)))

/-- A registered RESET_FALLBACK takes effect at a step boundary (R164, R165). -/
def State.fmtReset (s : State) (i : Nat) : State :=
  let ps := s.fmtResets.get i
  if ps.isEmpty then s else
  let s := { s with
    fmts := s.fmts.mapVals (fun k f => if k / 1024 = i then
      { metric := f.metric, told := f.told, cand := if f.after then f.cand else none } else f)
    fmtResets := s.fmtResets.put i [] }
  let s := ps.foldl (fun s p => s.logEvent 0x1201 [(1, i), (1, p)]) s
  s.finish 0x28 i 0

/-- Precision control at a step boundary (R161, R162, R165). A refused candidate is registered again only by a later
evaluation that exceeds its threshold. -/
def State.fmtBoundary (s : State) (i : Nat) : State :=
  let s := s.fmtReset i
  let cs := s.candidates i
  let b := s.wideBudget i
  let room := b - s.wideCount i
  let s := (cs.take room).foldl (fun s c =>
    let s := s.updFmt i c.1 (fun f => { f with wide := true, cand := none })
    s.logEvent 0x2201 [(1, i), (2, c.1), (4, c.2), (2, s.wideCount i)]) s
  let refused := cs.drop room
  if refused.isEmpty then s else
  let s := refused.foldl (fun s c => s.updFmt i c.1 (fun f => { f with halved := true, cand := none })) s
  s.logEvent 0x4201 [(1, i), (2, refused.length), (2, b)]

end Sys2Proof.Machine
end

