-- ==== Sys2Proof/Machine/Hka.lean ====
section
/-!
DEFINITION. The housekeeping converter (20, R571–R578): conversion slots, injected conversions, visits of the spare slice
and retirement of slices.
-/
namespace Sys2Proof.Machine
open Sys2Proof

def State.updSlice (s : State) (k : Nat) (f : Slice → Slice) : State :=
  { s with hka := { s.hka with slices := s.hka.slices.upd k f } }
def State.updChan (s : State) (c : Nat) (f : Chan → Chan) : State :=
  { s with hka := { s.hka with chans := s.hka.chans.upd c f } }

/-- A counter of the HKA or THM block, unless HKA_CTL.freeze holds it (R591). -/
def State.hkaCount (s : State) (off k : Nat) : State := if bit (s.regN Reg.HKA_CTL) 0 then s else s.countBy off k

/-! ### Injected entries (R574) -/

/-- HKA_INJ(j) in force for the round. -/
def State.injReg (s : State) (j : Nat) : Nat :=
  let v := s.hka.injCfg.get j
  if v = 0 then (resetOf (Reg.HKA_INJ j)).toNat else v - 1

/-- HKA_INJ(j) as stored takes effect at a round's start. -/
def State.latchInj (s : State) : State :=
  { s with hka := { s.hka with injCfg := (List.range 8).foldl (fun (m : Map Nat) j => m.put j (s.regN (Reg.HKA_INJ j) + 1)) {} } }

/-- The slice that an entry's channel is converted on. -/
def State.injSlice (s : State) (j : Nat) : Nat := bits (s.injReg j) 29 24 % 4

/-- The injected entry that a slice's next slot takes: pending entries are served in turn (R31, R574). -/
def State.nextInj (s : State) (k : Nat) : Option Nat :=
  roundRobin 8 (s.hka.slices.get k).injLast (fun j => bit s.hka.pend j && s.injSlice j == k)

/-- A slice's next slot begins: it takes a pending injected entry, or goes on with its regular ones. -/
def State.beginSlot (s : State) (k : Nat) : State :=
  match s.nextInj k with
  | some j =>
    let s := s.updSlice k (fun x => { x with inj := some j, injLast := j, extra := x.extra + 1 })
    { s with hka := { s.hka with pend := s.hka.pend - 2 ^ j } }
  | none => s.updSlice k (fun x => { x with inj := none })

/-- An entry is triggered: it merges with a pending one, and waits for the next round if it has converted in this one. -/
def State.injTrigger (s : State) (j : Nat) : State :=
  let h := s.hka
  let k := s.injSlice j
  if bit h.pend j || (h.slices.get k).inj == some j then s
  else if bit h.conv j then { s with hka := { h with held := h.held ||| 2 ^ j } }
  else
    let s := { s with hka := { h with pend := h.pend + 2 ^ j } }
    if (h.slices.get k).done = 16 ∧ (h.slices.get k).inj.isNone then s.beginSlot k else s

/-- A trigger source fires: 0 input warning, 1 phase loss, 2 step-start grant, 3 ballast reservoir (R574). -/
def State.injSource (s : State) (src : Nat) : State :=
  (List.range 8).foldl (fun (s : State) j => if bit (s.injReg j) 31 && bit (s.injReg j) src then s.injTrigger j else s) s

/-- HKA_INJ_TRIG: source 4 of the entries selected. -/
def State.injWrite (s : State) (v : Nat) : State :=
  (List.range 8).foldl (fun (s : State) j =>
    if bit v j && bit (s.injReg j) 31 && bit (s.injReg j) 4 then s.injTrigger j else s) s

def execHkaInjTrigWrite (port : Port) (value : Nat) (s : State) : Out' := let _ := port; .next (s.injWrite value)

/-! ### Values (R571, R572, R585) -/

/-- A code corrected by a slice's offset and gain, rounded to a 20-bit code. -/
def Slice.correct (x : Slice) (code : Int) : Int :=
  clampInt (-(2 ^ 19)) (2 ^ 19 - 1) (divRne ((code - x.ofs) * (2 ^ 20 + x.gain)) (2 ^ 20))

/-- The coolant temperature in 1/256 °C from the thermistor voltage and its excitation, in any one unit (R585); far out of
range where the divider gives no resistance. -/
def ntcTemp (v50 v51 : Int) (beta r25 : Nat) : Int :=
  if v50 ≤ 0 then 10 ^ 6
  else if v51 ≤ v50 then -(10 ^ 6)
  else
    -- R / R25, with R25 in units of 10 Ω
    let num : Int := 10000 * v50
    let den : Int := (v51 - v50) * (10 * max 1 r25)
    let ln := fxDiv (fxLog num.natAbs 0 - fxLog den.natAbs 0) ((max 1 beta : Nat) * fxOne)
    let inv := fxOne * 20 / 5963 + ln
    if inv ≤ 0 then 10 ^ 6 else divRne (fxDiv fxOne inv * 256 - 69926 * fxOne - 2 * fxOne / 5) (2 ^ 128)

/-- A channel's value in channel units: what its front end makes of a corrected code (log entry 5); the coolant by R585; 0
for the zero inputs. -/
def State.chanValue (s : State) (c : Nat) (code : Int) : Int :=
  if 52 ≤ c then 0
  else if c = 50 then
    ntcTemp (Config.frontEnd 50 code) (s.hka.chans.get 51).val (s.regF Reg.THM_NTC 31 16) (s.regF Reg.THM_NTC 15 0)
  else Config.frontEnd c code

/-! ### Retiring a slice (R577, R578) -/

/-- A visit or pass is over: the spare is idle. -/
def State.spareIdle (s : State) : State :=
  { s with hka := { s.hka with role := 0, spareFor := 0xF, visitRound := 0, zeros := 0, refs := 0, shared := [], pairs := []
                               patSlot := 0, passVals := [] } }

/-- Slice k is retired: cause 1 timeout, 2 overload, 3 zero, 4 offset, 5 gain, 6 cross (Table 20-8). An idle or visiting
spare takes its entries permanently. -/
def State.retireConverter (s : State) (k cause : Nat) : State :=
  if (s.hka.slices.get k).retired then s else
  let s := s.updSlice k (fun x => { x with retired := true, cause := cause })
  let role := s.hka.role
  let takes := decide (k < 4) && (role == 0 || role == 1)
  let s := s.logEvent 0x3D01 [(1, k), (1, cause - 1), (1, b2n (!takes))]
  if k = 4 then
    let s := s.spareIdle
    { s with hka := { s.hka with role := 4 } }
  else if takes then
    let s := s.spareIdle
    let s := s.updSlice k (fun x => { x with extra := x.extra + 1 })
    { s with hka := { s.hka with role := 3, spareFor := k } }
  else s

/-! ### CONVERSION_SLOT (R571, R574, R576) -/

/-- The converter of slice k's entries: the spare while it visits k or stands in for it. -/
def State.converterOf (s : State) (k : Nat) : Nat :=
  if (s.hka.role = 1 ∨ s.hka.role = 3) ∧ s.hka.spareFor = k then 4 else k

/-- The slice whose entries a converter converts. -/
def State.entriesOf (s : State) (x : Nat) : Option Nat := (List.range 4).find? (fun k => s.converterOf k == x)

/-- A channel's result is registered, with its converter. -/
def State.register (s : State) (c x : Nat) (code : Int) (regular : Bool) : State :=
  let r := (s.hka.slices.get x).correct code
  let v := s.chanValue c r
  s.updChan c (fun y => { y with raw := r, val := v, slice := x, reg := if regular then some (v, r) else y.reg })

/-- Converter x completes a slot of slice k's entries: a running injected entry, or the next regular one. -/
def State.convertEntry (s : State) (k x : Nat) (code : Int) (overload : Bool) : State :=
  let sl := s.hka.slices.get k
  match sl.inj with
  | some j =>
    let s := s.register (bits (s.injReg j) 29 24) x code false
    let s := (s.hkaCount Reg.HKA_INJ_CONV 1).updSlice k (fun y => { y with inj := none })
    let s := { s with hka := { s.hka with conv := s.hka.conv ||| 2 ^ j } }
    s.beginSlot k
  | none =>
    if 16 ≤ sl.done then s else
    let c := 4 * sl.done + k
    let s := (s.register c x code true).updSlice k (fun y => { y with done := y.done + 1 })
    let r := (s.hka.chans.get c).raw
    let s := if c < 52 then s
      else if overload then s.retireConverter x 2
      else if r < -256 ∨ 256 < r then s.retireConverter x 3
      else s
    s.beginSlot k

/-- A slot of the visited slice's pattern: zero input, reference, or the channel shared with its partner (R576). -/
def State.convertPattern (s : State) (x : Nat) (code : Int) (overload : Bool) : State :=
  let p := s.hka.patSlot
  if 16 ≤ p then s else
  let s := { s with hka := { s.hka with
    patSlot := p + 1
    zeros := if p < 5 then s.hka.zeros + code else s.hka.zeros
    refs := if 5 ≤ p ∧ p < 10 then s.hka.refs + code else s.hka.refs
    shared := if 10 ≤ p then s.hka.shared ++ [(p, code)] else s.hka.shared } }
  if overload ∧ p < 10 then s.retireConverter x 2 else s

/-- CONVERSION_SLOT: converter 0–4 completes a slot with a raw code. -/
def execConversionSlot (slice : Nat) (code : Int) (overload : Bool) (s : State) : Out' :=
  .next (
    let h := s.hka
    if s.pwr.dawn < 4 ∨ s.clk.refLost ∨ (s.domains.get 18).state = 3 then s
    else if h.role = 1 ∧ h.spareFor = slice then s.convertPattern slice code overload
    else if (h.slices.get slice).retired then s
    else match s.entriesOf slice with
      | some k => s.convertEntry k slice code overload
      | none =>
        if slice = 4 ∧ h.role = 2 ∧ h.passVals.length < 13 then
          let p := h.passVals.length
          let c := 4 * p + h.visitRound
          let v := s.chanValue c ((h.slices.get 4).correct code)
          { s with hka := { h with passVals := h.passVals ++ [(c, v)] } }
        else s)

/-- SLOT_TIMEOUT: a slice has no result 260 µs into its slot. -/
def execSlotTimeout (slice : Nat) (s : State) : Out' :=
  .next (if 4 < slice ∨ s.pwr.dawn < 4 ∨ s.clk.refLost then s else s.retireConverter slice 1)

/-! ### Visits (R576) -/

/-- The round has begun and no slot of it is complete. -/
def State.roundStart (s : State) : Bool := (List.range 4).all (fun k => (s.hka.slices.get k).done == 0)

/-- SPARE_VISIT_START: at a round boundary the spare begins an 8-round visit to the next slice not retired. -/
def execSpareVisitStart (s : State) : Out' :=
  .next (
    let h := s.hka
    if !bit (s.regN Reg.HKA_CTL) 1 ∨ h.role ≠ 0 ∨ !s.roundStart ∨ (h.slices.get 4).retired ∨ s.pwr.dawn < 4 then s else
    match ((List.range 5).map (fun j => (h.visitNext + j) % 5)).find? (fun k => !(h.slices.get k).retired) with
    | none => s
    | some k =>
      let s := s.spareIdle
      { s with hka := { s.hka with role := 1, spareFor := k, visitNext := (k + 1) % 5 } })

/-- The partner of a visited slice, which converts its shared channels too. -/
def visitPartner (k : Nat) : Nat := if k = 4 then 0 else (k + 1) % 4

/-- At a round's end a visit takes the pairs of its shared channels, and ends after its eighth round: the new coefficients
are accepted, or the slice is retired. -/
def State.visitRoundEnd (s : State) : State :=
  let h := s.hka
  if h.role ≠ 1 then s else
  let k := h.spareFor
  let more := h.shared.filterMap (fun (p : Nat × Int) =>
    ((h.chans.get (4 * p.1 + visitPartner k)).reg).map (fun r => (p.2, r.2)))
  let s := { s with hka := { h with pairs := h.pairs ++ more, shared := [], patSlot := 0, visitRound := h.visitRound + 1 } }
  if s.hka.visitRound < 8 then s else
  let z := divRne h.zeros 40
  let span := h.refs - h.zeros
  let g : Int := if span ≤ 0 then 2 ^ 20 else divRne (419430 * 40 * 2 ^ 20) span.toNat - 2 ^ 20
  let new : Slice := { ofs := z, gain := g }
  let diff := (s.hka.pairs.map (fun (p : Int × Int) => new.correct p.1 - p.2)).sum
  let d := divRne (2 * diff) (max 1 s.hka.pairs.length)
  let s := (s.updSlice k (fun x => { x with cross := d })).spareIdle
  if 2048 < z.natAbs then s.retireConverter k 4
  else if 5242 < g.natAbs then s.retireConverter k 5
  else if 1048 < d.natAbs then s.retireConverter k 6
  else (s.updSlice k (fun x => { x with ofs := z, gain := g })).hkaCount Reg.HKA_VISITS 1

end Sys2Proof.Machine
end

