-- ==== Sys2Proof/Machine/Replica.lean ====
section
/-!
DEFINITION. Replica groups (17, R501–R503): DIGEST frames, members, votes, and the commands DIGEST and
DIGEST_EVALUATION_TIMEOUT.
-/
namespace Sys2Proof.Machine
open Sys2Proof

/-- A frame's fields as sent (Table 17-9). -/
def Digest.fields (d : Digest) : List Nat :=
  [d.group, d.inst, b2n d.complete + 2 * b2n d.voting + 4 * d.hopsLeft, d.interval, d.round, d.join, d.modelId,
   d.digest.c, d.digest.m, d.hash.toNat]

/-- Two frames are of the same sender and round. -/
def Digest.same (a b : Digest) : Bool := a.group == b.group && a.inst == b.inst && a.hash == b.hash && a.round == b.round

/-- Ports that carry DIGEST frames: ACTIVE or DEGRADED, above rev 1 (R501). -/
def State.digestPorts (s : State) : List Nat := (List.range 12).filter (fun n => (s.icp n).up && decide (2 ≤ (s.icp n).rev))

/-- Send a frame on every port that carries them, but for one. -/
def State.flood (s : State) (d : Digest) (skip : Option Nat) : State :=
  (s.digestPorts.filter (fun n => skip != some n)).foldl (fun s n => s.icpFrame n .digest d.fields 1) s

/-- Keep a frame; older rounds of its sender are dropped. -/
def State.keepDigest (s : State) (d : Digest) : State :=
  let old := fun (x : Digest) => x.group == d.group && x.inst == d.inst && x.hash == d.hash && decide (x.round + 16 < d.round)
  { s with digests := s.digests.filter (fun x => !old x) ++ [d] }

/-- An instance's THRESHOLD.digest_interval and replica group. -/
def State.replicaOf (s : State) (i : Nat) : Nat × Nat :=
  match s.img.insts.get i with
  | some x => (x.inst.replicaGroup, x.thr.digestInterval)
  | none => (0, 0)

/-- The newest frame of each sender heard within the last 4 rounds, but for members expelled with the same join. -/
def State.heard (s : State) (i g r : Nat) : List Digest :=
  let out := (s.replicas.get i).out
  let xs := s.digests.filter (fun d => d.group == g && decide (d.round ≤ r ∧ r < d.round + 4) &&
    !out.any (fun o => o.1 == d.hash && o.2.1 == d.inst && o.2.2 == d.join))
  xs.foldl (fun (acc : List Digest) d =>
    if acc.any (fun x => x.hash == d.hash && x.inst == d.inst && decide (d.round ≤ x.round)) then acc
    else d :: acc.filter (fun x => !(x.hash == d.hash && x.inst == d.inst))) []

/-- Order by join, identity hash and instance (R502). -/
def Digest.before (a b : Digest) : Bool :=
  decide (a.join < b.join) || (a.join == b.join && (decide (a.hash.toNat < b.hash.toNat) ||
    (a.hash == b.hash && decide (a.inst ≤ b.inst))))

/-- Members, ranked: the first 16 (R502). -/
def State.memberList (s : State) (i g r : Nat) : List Digest := (s.heard i g r).mergeSort Digest.before

/-- A member's frame of round r, when it votes (R502). -/
def State.voteOf (s : State) (g n r : Nat) (m : Digest) : Option Digest :=
  s.digests.find? (fun d => d.group == g && d.hash == m.hash && d.inst == m.inst && d.round == r && d.complete
    && d.interval == n && decide (2 ≤ d.rev))

/-- Both or all members reload the current set (R503). -/
def State.voteReload (s : State) (i g r v : Nat) : State :=
  let s := (s.count Reg.ICP_REP_RELOADS).logEvent 0x4B05 [(1, i), (1, g), (8, r), (1, v)]
  (s.wldReload (s.winsts.get i).current i).1

/-- The outcome of a round among the voters of the own model (R503). -/
def State.voteOutcome (s : State) (i g r : Nat) (own : Digest) (vs : List Digest) : State :=
  let v := vs.length
  let set := fun (s : State) (x : Nat) => { s with replicas := s.replicas.upd i (fun y => { y with result := x }) }
  let holders := fun (d : Digest) => (vs.filter (fun x => x.digest == d.digest)).length
  if v ≤ 1 then set s 5
  else if v = 2 then
    if holders own = 2 then set s 1 else set (s.voteReload i g r v) 3
  else match vs.find? (fun d => decide (v < 2 * holders d)) with
    | none => set (s.voteReload i g r v) 3
    | some m =>
      if own.digest ≠ m.digest then
        let s := { s with replicas := s.replicas.upd i (fun y => { y with expelled := true, result := 4 }) }
        (s.updInst i (fun x => { x with expelDue := true })).logEvent 0x4B07 [(1, i), (1, g), (8, r), (1, v)]
      else
        let bad := vs.filter (fun d => d.digest != m.digest)
        if bad.isEmpty then set s 1
        else
          let s := bad.foldl (fun (s : State) d => s.logEvent 0x4B06 [(1, i), (1, g), (8, r), (4, d.hash.toNat % 2 ^ 32)]) s
          { s with replicas := s.replicas.upd i (fun y => { y with
            result := 2, out := y.out ++ bad.map (fun d => (d.hash, d.inst, d.join)) }) }

/-- Evaluate the own newest round (R502), whether or not every member's frame is here. -/
def State.evaluateRound (s : State) (i : Nat) : State :=
  let (g, n) := s.replicaOf i
  match (s.replicas.get i).awaiting with
  | none => s
  | some r =>
    let s := { s with replicas := s.replicas.upd i (fun y => { y with awaiting := none }) }
    let all := s.memberList i g r
    let ms := all.take 16
    let me := fun (d : Digest) => d.hash == s.fuses.idHash && d.inst == i
    match ms.find? me, all.find? me with
    | none, some _ => { s with replicas := s.replicas.upd i (fun y => { y with result := 6, voted := false }) }
    | none, none => s
    | some own, _ => match s.voteOf g n r own with
      | none => s
      | some own =>
        let vs := ms.filterMap (s.voteOf g n r)
        let s := s.count Reg.ICP_REP_ROUNDS
        let s := { s with replicas := s.replicas.upd i (fun y => { y with
          voted := true, members := ms.length, voters := vs.length, round := r }) }
        s.voteOutcome i g r own (vs.filter (fun d => d.modelId == own.modelId))

/-- Evaluate once every member's frame of the round is here (R502). -/
def State.tryRound (s : State) (i : Nat) : State :=
  let (g, _) := s.replicaOf i
  match (s.replicas.get i).awaiting with
  | none => s
  | some r =>
    let ms := (s.memberList i g r).take 16
    if ms.all (fun m => s.digests.any (fun d => d.group == g && d.hash == m.hash && d.inst == m.inst && d.round == r)) then
      s.evaluateRound i
    else s

/-- At a step boundary where the step number is a multiple of the interval, the member sends its frame (R501). -/
def State.sendDigest (s : State) (i : Nat) : State :=
  let (g, n) := s.replicaOf i
  let step := (s.insts.get i).stepsSeal
  if g = 0 ∨ n = 0 ∨ step = 0 ∨ step % n ≠ 0 ∨ (s.replicas.get i).expelled then s else
  let w := s.winsts.get i
  let r := step / n
  let join := (s.replicas.get i).join.getD r
  let done := w.sdigStep == step % 2 ^ 32
  let d : Digest := { group := g, inst := i, complete := done, voting := done && (s.replicas.get i).result != 6, hopsLeft := 3, interval := n, round := r
                      join := join, modelId := (s.wslots.get w.current).pkg.modelId
                      digest := if done then w.sdig else {}, hash := s.fuses.idHash }
  let s := { s with replicas := s.replicas.upd i (fun y => { y with join := some join, awaiting := some r }) }
  ((s.keepDigest d).flood d none).tryRound i

/-- A frame arrives on a port (R501). -/
def State.takeDigest (s : State) (port : Nat) (d : Digest) : State :=
  if !(s.icp port).up || s.digests.any (fun x => x.same d) then s else
  let s := s.keepDigest { d with rev := (s.icp port).rev }
  let s := if d.hopsLeft ≤ 1 then s else s.flood { d with hopsLeft := d.hopsLeft - 1 } (some port)
  (List.range 16).foldl (fun s i => if (s.replicaOf i).1 = d.group ∧ d.group ≠ 0 then s.tryRound i else s) s

/-- DIGEST (R501). -/
def execDigest (port group inst : Nat) (complete voting : Bool) (hopsLeft interval round join modelId crc modular : Nat)
    (hash : BitVec 384) (s : State) : Out' :=
  .next (s.takeDigest port { group := group, inst := inst, complete := complete, voting := voting, hopsLeft := hopsLeft
                             interval := interval, round := round, join := join, modelId := modelId
                             digest := { c := crc, m := modular }, hash := hash })

/-- DIGEST_EVALUATION_TIMEOUT: 10 s after its own frame, the device evaluates the round with what it has (R502). -/
def execDigestEvaluationTimeout (inst : Nat) (s : State) : Out' := .next (s.evaluateRound inst)

/-- A seal affecting an instance starts its replica state afresh (R501, R503). -/
def State.replicaSealed (s : State) (i : Nat) : State := { s with replicas := s.replicas.put i {} }

end Sys2Proof.Machine
end

