-- ==== Sys2Proof/Machine/Steps.lean ====
section
/-!
DEFINITION. The end of a step (14, R415, R418; 15, R436, R446): random variates, what a sequence's rows come to, its
step record, and when the step ends. The cores' layer boundaries and the samplers' rows both lead here.
-/
namespace Sys2Proof.Machine
open Sys2Proof

/-! ### Random variates (R436) -/

def mix64 (z : Nat) : Nat :=
  let z := ((z ^^^ z / 2 ^ 30) * 0xBF58476D1CE4E5B9) % 2 ^ 64
  let z := ((z ^^^ z / 2 ^ 27) * 0x94D049BB133111EB) % 2 ^ 64
  z ^^^ z / 2 ^ 31

/-- u in units of 2⁻²⁴. -/
def variate24 (seed tag pos stream : Nat) : Nat :=
  let key := mix64 (seed ^^^ mix64 (tag ^^^ 0x9E3779B97F4A7C15))
  mix64 ((key + 4 * pos + stream) % 2 ^ 64) / 2 ^ 40

def variate (seed tag pos stream : Nat) : Fp := .fin false (variate24 seed tag pos stream) (-24)

/-! ### Pipelines (R418) -/

def State.routeOf (s : State) (i : Nat) : Option RouteRec :=
  match s.img.insts.get i with
  | some x => x.route
  | none => none

/-- The instance's ROUTE egress is ICPEN. -/
def State.egressIcpen (s : State) (i : Nat) : Bool := (s.routeOf i).any (·.egressIcpen)
def State.ingressIcpen (s : State) (i : Nat) : Bool := (s.routeOf i).any (·.ingressIcpen)

/-- The layer that an instance's end-of-step marker names (R418, R430). -/
def State.endMarker (s : State) (i : Nat) : Nat :=
  match s.img.insts.get i with
  | some x => (match x.route with
      | some r => (r.lastLayer + 1) % 1024
      | none => x.fmt.layers % 1024)
  | none => 1024

/-- Logical cores of a sealed instance. -/
def State.coresOf (s : State) (i : Nat) : List Nat :=
  match s.img.insts.get i with
  | some x => (List.range 192).filter (fun n => x.inst.coreMap.getLsbD n)
  | none => []

/-- Every core of the instance has taken the closing layer boundary of the step. The secondary of a suspended pair runs
nothing (R130) and is not waited for. -/
def State.allClosed (s : State) (i : Nat) : Bool :=
  (s.coresOf i).all (fun n => (s.insts.get i).closed.get n || ((s.cores.get n).suspended && !(s.cores.get n).primary))

/-! ### What a sequence's rows come to (R415, R446) -/

/-- The rule of R446, from the tests still to make: tokens, dead end, drafts accepted. A row that has yielded nothing
(a grammar read failed, R442) ends it. -/
def combineGo (x : Seq) (l0 k : Nat) : Nat → List Nat → List Nat × Bool × Nat
  | 0, acc =>
    let r := x.rows.get k
    if !r.done then (acc, false, acc.length)
    else if r.dead then (acc, true, acc.length)
    else (acc ++ [r.token], false, acc.length)
  | n + 1, acc =>
    let j := k - n
    let r := x.rows.get (j - 1)
    let d := (x.drafts[j - 1]?).getD {}
    let qd := FFmt.fp32.dec (((d.pairs.find? (fun p => p.1 == d.token)).map (·.2)).getD 0)
    let u := variate x.desc.seed x.desc.tag (l0 + j) 0
    if !r.done then (acc, false, acc.length)
    else if r.dead then (acc, true, acc.length)
    else if ((u.mul qd).r32).lt (FFmt.fp32.dec r.pd) then combineGo x l0 k n (acc ++ [d.token])
    else (acc ++ [r.token], false, acc.length)

/-- A sequence's tokens of a step. -/
def combineRows (x : Seq) (e : StepEnt) : List Nat × Bool × Nat := combineGo x e.l0 e.k e.k []

/-- Tokens up to and including the first eos or stop token, with its status (R402). -/
def cutTokens (d : Desc) : List Nat → List Nat × Nat
  | [] => ([], 0)
  | t :: r =>
    if t = d.eos then ([t], 1)
    else if d.stops.contains t then ([t], 3)
    else
      let (ts, st) := cutTokens d r
      (t :: ts, st)

/-- The draft length after a verify (R415). -/
def nextDraft (x : Seq) (k a : Nat) : Nat :=
  if k ≠ 0 ∧ a = 0 then x.kCur / 2
  else if k ≠ 0 ∧ a = k then min x.desc.draftLen (x.kCur + 1)
  else x.kCur

/-- k_cur and the plain steps left after a step (R415). -/
def draftAfter (x : Seq) (kind k a : Nat) : Seq :=
  if kind = 2 then
    let kc := nextDraft x k a
    { x with kCur := kc, plainLeft := if kc = 0 then 16 else x.plainLeft }
  else if kind = 0 ∧ x.draftSlot.isSome ∧ x.kCur = 0 ∧ x.plainLeft ≠ 0 then
    { x with plainLeft := x.plainLeft - 1, kCur := if x.plainLeft = 1 then 1 else 0 }
  else x

/-- The status of a step record (R402). -/
def recordStatus (expelled : Bool) (now : Nat) (x : Seq) (dead : Bool) (cut : Nat) (kept lc : Nat) : Nat :=
  if expelled then 0x0B
  else if x.due == some 0x06 || x.gFail then 0x06
  else if dead then 0x08
  else if cut ≠ 0 then cut
  else if (kept ≠ 0 && decide (x.desc.maxNew ≤ x.emitted + kept)) || decide (262144 ≤ lc) then 0x02
  else if x.due == some 0x04 || x.desc.deadline.any (fun d => decide (d < now)) then 0x04
  else 0

/-- A counter of a sampler unit, unless SMP_CTL.freeze holds it (R449). -/
def State.smpCount (s : State) (off : Nat) : State := if bit (s.regN Reg.SMP_CTL) 0 then s else s.count off
def State.smpCount64 (s : State) (off k : Nat) : State := if bit (s.regN Reg.SMP_CTL) 0 then s else s.count64By off k

/-- The step record of one entry of a main instance's step is registered (R417, R447, R448). -/
def State.seqRecord (s : State) (i e : Nat) (ent : StepEnt) : State :=
  let q := ent.slot
  let x := s.seq i q
  let run := s.insts.get i
  if x.recorded || !x.inStep then s else
  let sampled := run.rows.any (fun r => r.entry == e && r.sample)
  let (toks, dead, a) := if sampled then combineRows x ent else ([], false, 0)
  let (kept, cut) := cutTokens x.desc toks
  let lc := if ent.kind = 2 then ent.l0 + 1 + a else ent.l0 + ent.rows
  let st := recordStatus (run.expelled || run.expelDue) s.time x dead cut kept.length lc
  let flags := b2n (s.emptyMarks.get (seqKey i q)) +
    (if sampled then 2 * b2n (ent.kind == 2) + 4 * b2n (decide (kept.length < toks.length)) + 8 * b2n x.nan else 0)
  let s := s.count64By (Reg.SCH_TOKENS i) kept.length
  let s := if ent.kind = 2 then
      ((s.count64By (Reg.SCH_DRAFT_PROP i) ent.k).count64By (Reg.SCH_DRAFT_ACC i) a).smpCount (Reg.SMP_VERIFY (e % 4))
    else s
  let s := s.updSeq i q (fun y => { (draftAfter y ent.kind ent.k a) with out := kept, acc := a, due := none, gFail := false })
  let s := if st = 0x04 then s.lateEvent i else s
  let s := if st = 0x06 && x.gFail && x.due != some 0x06 then s.count Reg.SCH_EVICTED else s
  let s := s.record i q st kept flags (st == 0)
  if st = 0 then s else s.updSeq i q (fun y => { y with state := .retiring })

/-- Whether an entry's sampled rows have all yielded. -/
def State.entDone (s : State) (i e : Nat) (ent : StepEnt) : Bool :=
  ((s.insts.get i).rows.filter (fun r => r.entry == e && r.sample)).all (fun r => ((s.seq i ent.slot).rows.get r.j).done)

/-- Whether an entry has sampled rows. -/
def State.entSampled (s : State) (i e : Nat) : Bool := (s.insts.get i).rows.any (fun r => r.entry == e && r.sample)

/-- Records that are ready are registered, and the step ends (R418, R430). -/
def State.stepCheck (s : State) (i : Nat) : State :=
  let run := s.insts.get i
  if run.state ≠ 1 ∨ run.ended then s else
  let closed := s.allClosed i
  if s.isDraft i then
    s.updInst i (fun r => { r with ended := r.ents.zipIdx.all (fun (ent, e) =>
      (s.seq i ent.slot).state == .retiring || (s.entDone i e ent && (closed || s.entSampled i e))) })
  else if s.egressIcpen i then s.updInst i (fun r => { r with ended := closed })
  else
    let s := run.ents.zipIdx.foldl (fun (s : State) (p : StepEnt × Nat) =>
      if (s.seq i p.1.slot).gFail || (s.entDone i p.2 p.1 && (closed || s.entSampled i p.2)) then s.seqRecord i p.2 p.1
      else s) s
    s.updInst i (fun r => { r with ended := r.ents.all (fun ent => !(s.seq i ent.slot).inStep || (s.seq i ent.slot).recorded) })

/-- A core has taken a layer boundary: the closing one of its instance's step counts towards the step's end (R418). -/
def State.coreClosed (s : State) (n layer : Nat) : State :=
  match (s.cores.get n).inst with
  | none => s
  | some i =>
    if layer = s.endMarker i ∧ (s.insts.get i).state = 1 then
      (s.updInst i (fun r => { r with closed := r.closed.put n true })).stepCheck i
    else s

end Sys2Proof.Machine
end

