-- ==== Sys2Proof/Machine/Grammar.lean ====
section
/-!
DEFINITION. The grammar automaton unit (15, R439–R444) and its commands GRM_LOAD, GRM_UNLOAD, GRAMMAR_LOAD_COMPLETE,
GRAMMAR_LOAD_TIMEOUT, GRAMMAR_FETCH_COMPLETE and GRAMMAR_READ_TIMEOUT.
-/
namespace Sys2Proof.Machine
open Sys2Proof

def State.updGrm (s : State) (g : Nat) (f : Grammar → Grammar) : State := { s with grammars := s.grammars.upd g f }

/-- The part has the grammar automaton unit: DEV_CAP0.grammar (R443). -/
def State.hasGrammar (s : State) : Bool := !s.fuses.reduced

/-- Bytes of a bitset (R439). -/
def bitsetSize (vocab : Nat) : Nat := (ceilDiv vocab 8 + 63) / 64 * 64

/-! ### Loading (R440, R443) -/

def grmHeaderOk (im : List Byte) (len : Nat) : Bool :=
  leField im 0 4 == 0x4D524748 && leField im 4 2 == 1 && leField im 6 2 == 64 && leField im 8 8 == len &&
    zeroRange im 0x30 16

/-- Two ranges of bytes, as (offset, length), do not overlap. -/
def apart (a b : Nat × Nat) : Bool := a.2 == 0 || b.2 == 0 || decide (a.1 + a.2 ≤ b.1) || decide (b.1 + b.2 ≤ a.1)

def grmRangesOk (im : List Byte) (len : Nat) : Bool :=
  let f := leField im
  let v := f 0x10 4
  let st := f 0x14 4
  let bn := f 0x18 4
  let tn := f 0x1C 4
  let a := (64, 16 * st)
  let b := (f 0x20 8, 8 * tn)
  let c := (f 0x28 8, bn * bitsetSize v)
  decide (1 ≤ v ∧ v ≤ 262144 ∧ 1 ≤ st ∧ st ≤ 65536 ∧ 1 ≤ bn ∧ bn ≤ 65536 ∧ tn ≤ 4194304 ∧ 16 * st + 8 * tn ≤ 2 ^ 26) &&
    b.1 % 64 == 0 && c.1 % 64 == 0 && apart a b && apart a c && apart b c &&
    [((0, 64) : Nat × Nat), a, b, c].all (fun r => decide (r.1 + r.2 ≤ len)) &&
    [a, b, c].all (fun r => r.2 == 0 || decide (64 ≤ r.1))

/-- State records: bitset, first transition, count, default. -/
def grmStates (im : Array Byte) (n : Nat) : List (Nat × Nat × Nat × Nat) :=
  let at_ := fun (o k : Nat) => leNat ((List.range k).map (fun j => im.getD (o + j) 0))
  (List.range n).map (fun k => let o := 64 + 16 * k; (at_ o 4, at_ (o + 4) 4, at_ (o + 8) 2, at_ (o + 10) 2))

def grmTrans (im : Array Byte) (off n : Nat) : List (Nat × Nat × Nat) :=
  (List.range n).map (fun k =>
    let w := leNat ((List.range 8).map (fun j => im.getD (off + 8 * k + j) 0))
    (bits w 17 0, bits w 35 18, bits w 51 36))

/-- A state's transitions: ascending by first, without overlap, in range (Table 15-6). -/
def transOk (vocab states : Nat) : List (Nat × Nat × Nat) → Bool
  | [] => true
  | [(a, b, n)] => decide (a ≤ b ∧ b < vocab ∧ n < states)
  | (a, b, n) :: (c, d, m) :: r => decide (a ≤ b ∧ b < c ∧ n < states) && transOk vocab states ((c, d, m) :: r)

def grmTablesOk (vocab bitsets : Nat) (ss : List (Nat × Nat × Nat × Nat)) (ts : List (Nat × Nat × Nat)) : Bool :=
  ss.all (fun (b, f, n, d) => decide (b < bitsets ∧ d < ss.length ∧ f + n ≤ ts.length) &&
    transOk vocab ss.length ((ts.drop f).take n))

/-- The slot becomes EMPTY, and its cache lines are dropped. -/
def State.grmEmpty (s : State) (g : Nat) : State :=
  { s.updGrm g (fun x => { lastStatus := x.lastStatus, owner := x.owner, refs := x.refs }) with
    grmCache := s.grmCache.filter (fun l => l.slot != g) }

/-- A load ends in failure (Table 15-7). -/
def State.grmFail (s : State) (g status : Nat) : State :=
  let s := (s.grmEmpty g).updGrm g (fun x => { x with lastStatus := status })
  (s.logEvent 0x6905 [(1, g), (1, status)]).finish 0x38 g status

/-- LOAD of a grammar slot (R443). -/
def State.grmLoad (s : State) (g : Nat) (port : Port) : State × Option Nat :=
  if !s.hasGrammar then (s, some 0)
  else if (s.grammars.get g).state ≠ .empty then (s.updGrm g (fun x => { x with lastStatus := 1 }), some 1)
  else
    let p := if s.regF (Reg.GRM_SLOT_CTL g) 1 0 = 1 then 1 else 0
    let s := s.updGrm g (fun x => { x with state := .loading, owner := s.actsAs port })
    (s.emit (.hostRead p (s.reg64 (Reg.GRM_SRC_LO g) / 64 * 64) (s.reg64 (Reg.GRM_LEN_LO g))), none)

/-- 0x1902: cause 0 UNLOAD, 1 drained. -/
def State.grmUnloaded (s : State) (g cause : Nat) : State := (s.grmEmpty g).logEvent 0x1902 [(1, g), (1, cause)]

/-- UNLOAD of a grammar slot (R443). -/
def State.grmUnload (s : State) (g : Nat) : State × Option Nat :=
  if !s.hasGrammar then (s, some 0) else
  match (s.grammars.get g).state with
  | .ready =>
    if (s.grammars.get g).refs = 0 then (s.grmUnloaded g 0, some 0)
    else (s.updGrm g (fun x => { x with state := .draining }), some 0)
  | .draining => (s, some 0)
  | _ => (s.updGrm g (fun x => { x with lastStatus := 2 }), some 2)

/-- A fetched image is checked (R440). -/
def State.grmCheck (s : State) (g : Nat) (image : List Byte) : State :=
  let len := s.reg64 (Reg.GRM_LEN_LO g)
  let f := leField image
  if !grmHeaderOk image len then s.grmFail g 3
  else if !grmRangesOk image len then s.grmFail g 4
  else
    let im := image.toArray
    let ss := grmStates im (f 0x14 4)
    let ts := grmTrans im (f 0x20 8) (f 0x1C 4)
    if !grmTablesOk (f 0x10 4) (f 0x18 4) ss ts then s.grmFail g 5
    else
      let s := s.updGrm g (fun x => { x with
        state := .ready, lastStatus := 0, vocab := f 0x10 4, states := f 0x14 4, bitsets := f 0x18 4
        bitsetOff := f 0x28 8, table := ss, trans := ts })
      (s.logEvent 0x1901 [(1, g), (4, f 0x14 4), (1, (s.grammars.get g).owner)]).finish 0x38 g 0

/-- GRAMMAR_LOAD_COMPLETE: the fetch ends, with its image or a completion error. -/
def execGrammarLoadComplete (slot : Nat) (error : Bool) (image : List Byte) (s : State) : Out' :=
  .next (if (s.grammars.get slot).state ≠ .loading then s
    else if error then s.grmFail slot 6 else s.grmCheck slot image)

def State.grmTimeout (s : State) (g : Nat) : State := if (s.grammars.get g).state = .loading then s.grmFail g 6 else s

def execGrammarLoadTimeout (slot : Nat) (s : State) : Out' := .next (s.grmTimeout slot)
def execGrmLoad (slot : Nat) (port : Port) (s : State) : Out' := .next (s.grmLoad slot port).1
def execGrmUnload (slot : Nat) (port : Port) (s : State) : Out' := let _ := port; .next (s.grmUnload slot).1

/-- Draining slots without references become EMPTY at a step boundary (Table 15-7). -/
def State.grmBoundary (s : State) : State :=
  (List.range 64).foldl (fun s g =>
    if (s.grammars.get g).state = .draining ∧ (s.grammars.get g).refs = 0 then s.grmUnloaded g 1 else s) s

/-- The commanding port of grammar loads in progress has lost its link (Table 15-7). -/
def State.grmLinkLost (s : State) (p : Nat) : State :=
  (List.range 64).foldl (fun s g => if (s.grammars.get g).owner = p then s.grmTimeout g else s) s

/-! ### States and bitsets (R441, R442) -/

/-- next(s, x) (R441). -/
def Grammar.next (g : Grammar) (st tok : Nat) : Nat :=
  let r := (g.table[st]?).getD (0, 0, 0, 0)
  match ((g.trans.drop r.2.1).take r.2.2.1).find? (fun t => decide (t.1 ≤ tok ∧ tok ≤ t.2.1)) with
  | some t => t.2.2
  | none => r.2.2.2

/-- The state after tokens. -/
def Grammar.run (g : Grammar) (st : Nat) (toks : List Nat) : Nat := toks.foldl g.next st

def State.grmLine (s : State) (g line : Nat) : Option (List Byte) :=
  (s.grmCache.find? (fun l => l.slot == g && l.line == line)).map (·.bytes)

/-- Bytes of an image held in the cache. -/
def State.grmBytes (s : State) (g off n : Nat) : Option (List Byte) :=
  let a := off / 4096
  let b := (off + n - 1) / 4096
  ((List.range (b + 1 - a)).mapM (fun k => s.grmLine g (a + k))).map (fun ls => sliceBytes ls.flatten (off % 4096) n)

/-- The bitset index that a state's record names, once its line is held. -/
def State.grmRecord (s : State) (g st : Nat) : Option Nat := (s.grmBytes g (64 + 16 * st) 16).map (fun bs => leField bs 0 4)

/-- Lines a state needs that are not held: its record's, then its bitset's. -/
def State.grmMissing (s : State) (g st : Nat) : List Nat :=
  let x := s.grammars.get g
  match s.grmRecord g st with
  | none => [(64 + 16 * st) / 4096]
  | some b =>
    if x.bitsets ≤ b then [] else
    let off := x.bitsetOff + b * bitsetSize x.vocab
    let lo := off / 4096
    ((List.range ((off + bitsetSize x.vocab - 1) / 4096 + 1 - lo)).map (lo + ·)).filter (fun l => (s.grmLine g l).isNone)

/-- The port of a grammar read: with "both", legs alternate over the ports whose links are up (R442). -/
def State.grmPort (s : State) (g leg : Nat) : Nat :=
  let c := s.regF (Reg.GRM_SLOT_CTL g) 1 0
  let ups := (List.range s.fuses.hostPorts).filter (fun p => (s.ports.get p).linkUp)
  if c = 2 then (ups[leg % max 1 ups.length]?).getD 0 else if c = 1 then 1 else 0

/-- Read the lines that a state needs (R442). -/
def State.grmFetch (s : State) (g st : Nat) : State :=
  let base := s.reg64 (Reg.GRM_SRC_LO g) / 64 * 64
  (s.grmMissing g st).foldl (fun s l => s.emit (.hostRead (s.grmPort g l) (base + 4096 * l) 4096)) s

/-- A state's allowed set as a bitset of bytes: none while a line is missing; an index out of range is a dead end. -/
inductive Allowed where
  | wait
  | fault (index : Nat)
  | set (bytes : List Byte)
deriving DecidableEq, Repr

def State.grmAllowed (s : State) (g st : Nat) : Allowed :=
  let x := s.grammars.get g
  if x.states ≤ st then .fault st else
  match s.grmRecord g st with
  | none => .wait
  | some b =>
    if x.bitsets ≤ b then .fault b else
    match s.grmBytes g (x.bitsetOff + b * bitsetSize x.vocab) (bitsetSize x.vocab) with
    | none => .wait
    | some bs => .set bs

/-- A grammar read of a sequence fails (R442): cause 0 completion error, 1 no link. -/
def State.grmReadFailed (s : State) (g i q cause : Nat) : State :=
  let s := (s.smpCount Reg.GRM_READ_FAIL).logEvent 0x4902 [(1, g), (1, i), (2, q), (1, s.grmPort g 0), (1, cause)]
  (s.updSeq i q (fun x => if x.state = .free ∨ x.state = .retiring then x else { x with gFail := true })).stepCheck (s.mainOf i)

/-- GRAMMAR_FETCH_COMPLETE: a line enters the cache, replacing the least recently used, or its read fails. -/
def execGrammarFetchComplete (slot line : Nat) (error : Bool) (bytes : List Byte) (inst seq : Nat) (s : State) : Out' :=
  .next (
    if (s.grammars.get slot).state = .empty ∨ (s.grammars.get slot).state = .loading then s
    else if error then s.grmReadFailed slot inst seq 0
    else
      let l : GrmLine := { slot := slot, line := line, bytes := (bytes ++ List.replicate 4096 0).take 4096 }
      let rest := s.grmCache.filter (fun x => !(x.slot == slot && x.line == line))
      let s : State := ({ s with grmCache := (l :: rest).take 1024 } : State).smpCount64 Reg.GRM_CACHE_MISS 1
      let x : Seq := s.seq inst seq
      if x.state ≠ .free ∧ x.desc.mask = 3 ∧ x.desc.grammar = slot then s.grmFetch slot x.gState else s)

def execGrammarReadTimeout (slot inst seq : Nat) (s : State) : Out' := .next (s.grmReadFailed slot inst seq 1)

end Sys2Proof.Machine
end

