-- ==== Sys2Proof/Machine/Prefix.lean ====
section
/-!
DEFINITION. Learned prefixes (12, R363–R367) and their commands PFX_LOAD, PFX_UNLOAD, PREFIX_LOAD_COMPLETE,
PREFIX_FETCH_ERROR and PREFIX_FETCH_TIMEOUT.
-/
namespace Sys2Proof.Machine
open Sys2Proof

def State.updPfx (s : State) (k : Nat) (f : Prefix → Prefix) : State := { s with prefixes := s.prefixes.upd k f }

/-- The part has prefix slots: DEV_CAP1.prefix_slots is not 0 (R364). -/
def State.hasPrefixes (s : State) : Bool := !s.fuses.reduced

/-- Bytes of a prefix image (R365). -/
def prefixBytes (m : MemPlan) (p : Nat) : Nat := m.subs * p * 4 * m.headDim

/-- The lowest free prefix frames of an instance (log entry 17). -/
def State.freePfxFrames (s : State) (i n : Nat) : List Nat :=
  ((List.range (s.planOf i).prefixFrames).filter (fun f => !(s.kvPools.get i).pfxUsed.get f)).take n

/-- A prefix slot's frames return to the instance's prefix-frame pool and the slot becomes EMPTY. -/
def State.pfxEmpty (s : State) (k : Nat) : State :=
  let x := s.prefixes.get k
  let s := { s with kvPools := s.kvPools.upd x.inst (fun p => { p with
    pfxUsed := x.frames.foldl (fun u f => u.put f false) p.pfxUsed }) }
  s.updPfx k (fun x => { x with state := .empty, frames := [] })

/-- A failed load of a prefix (R366, Table 12-8). -/
def State.pfxFail (s : State) (k i status : Nat) : State :=
  ((s.updPfx k (fun x => { x with lastStatus := status })).logEvent 0x6706 [(1, k), (1, i), (1, status)])

/-- LOAD of a prefix slot from a port (R366). The status is none while the fetch runs. -/
def State.pfxLoad (s : State) (k : Nat) (port : Port) (i : Nat) : State × Option Nat :=
  if !s.hasPrefixes then (s, some 0) else
  let p := s.regF (Reg.PFX_LEN k) 10 0
  if (s.prefixes.get k).state ≠ .empty then (s.updPfx k (fun x => { x with lastStatus := 1 }), some 1)
  else if !s.hasInst i then (s.pfxFail k i 5, some 5)
  else if p = 0 ∨ 1024 < p then (s.pfxFail k i 2, some 2)
  else
    let n := (p + 15) / 16
    let fs := s.freePfxFrames i n
    if fs.length < n then (s.pfxFail k i 3, some 3)
    else
      let s := { s with kvPools := s.kvPools.upd i (fun q => { q with
        pfxUsed := fs.foldl (fun u f => u.put f true) q.pfxUsed }) }
      let s := s.updPfx k (fun x => { x with
        state := .loading, inst := i, owner := s.actsAs port, len := p, frames := fs, refs := 0 })
      (s.emit (.hostRead (s.actsAs port) (s.reg64 (Reg.PFX_SRC_LO k) / 8 * 8) (prefixBytes (s.planOf i) p)), none)

/-- 0x1702 PREFIX_UNLOADED: cause 0 UNLOAD, 1 seal. -/
def State.pfxUnloaded (s : State) (k cause : Nat) : State :=
  let i := (s.prefixes.get k).inst
  (s.pfxEmpty k).logEvent 0x1702 [(1, k), (1, i), (1, cause)]

/-- UNLOAD of a prefix slot (R366). -/
def State.pfxUnload (s : State) (k : Nat) : State × Option Nat :=
  if !s.hasPrefixes then (s, some 0) else
  match (s.prefixes.get k).state with
  | .ready =>
    if (s.prefixes.get k).refs = 0 then (s.pfxUnloaded k 0, some 0)
    else (s.updPfx k (fun x => { x with state := .draining }), some 0)
  | .draining => (s, some 0)
  | _ => (s.updPfx k (fun x => { x with lastStatus := 6 }), some 6)

/-- A load in progress fails: completion error, timeout, or the commanding port's link lost (R366). -/
def State.pfxFetchFailed (s : State) (k : Nat) : State :=
  if (s.prefixes.get k).state ≠ .loading then s else
  let i := (s.prefixes.get k).inst
  ((s.pfxEmpty k).pfxFail k i 4).finish 0x30 k 4

/-- Rows 16·pg to 16·pg + 15 of a half of sub-block j of a prefix image, rows beyond P zero (R365). -/
def prefixRows (im : Array Byte) (d p j pg : Nat) (value : Bool) : List Nat :=
  let base := j * p * 4 * d + if value then 2 * p * d else 0
  (List.range 16).flatMap (fun t => (List.range d).map (fun c =>
    let x := 16 * pg + t
    if x < p then
      let o := base + (x * d + c) * 2
      (im.getD o 0).toNat + 256 * (im.getD (o + 1) 0).toNat
    else 0))

/-- The last page of a prefix is written (R365, R366). -/
def State.pfxLoaded (s : State) (k : Nat) (image : List Byte) : State :=
  let x := s.prefixes.get k
  let m := s.planOf x.inst
  if x.state ≠ .loading ∨ image.length ≠ prefixBytes m x.len then s else
  let im := image.toArray
  let s := x.frames.zipIdx.foldl (fun s (fp : Nat × Nat) =>
    (List.range m.subs).foldl (fun s j =>
      s.writeSub x.inst j true fp.1 (prefixRows im m.headDim x.len j fp.2 false) (prefixRows im m.headDim x.len j fp.2 true)) s) s
  let s := s.updPfx k (fun x => { x with state := .ready, lastStatus := 0 })
  (s.logEvent 0x1701 [(1, k), (1, x.inst), (2, x.len)]).finish 0x30 k 0

/-- A draining slot that no sequence maps becomes EMPTY at a step boundary (Table 12-8). -/
def State.pfxBoundary (s : State) (i : Nat) : State :=
  (List.range 8).foldl (fun s k =>
    let x := s.prefixes.get k
    if x.state = .draining ∧ x.refs = 0 ∧ x.inst = i then s.pfxUnloaded k 0 else s) s

/-- A seal removes an instance or changes its MEMPLAN (Table 12-8). A ring LOAD in progress ends with STATE. -/
def State.pfxSealed (s : State) (i : Nat) : State :=
  (List.range 8).foldl (fun s k =>
    let x := s.prefixes.get k
    if x.state ≠ .empty ∧ x.inst = i then (s.pfxUnloaded k 1).finish 0x30 k 6 else s) s

/-- The commanding port of prefix loads in progress has lost its link (Table 12-8). -/
def State.pfxLinkLost (s : State) (p : Nat) : State :=
  (List.range 8).foldl (fun s k =>
    if (s.prefixes.get k).state = .loading ∧ (s.prefixes.get k).owner = p then s.pfxFetchFailed k else s) s

def execPfxLoad (slot : Nat) (port : Port) (inst : Nat) (s : State) : Out' := .next (s.pfxLoad slot port inst).1
def execPfxUnload (slot : Nat) (port : Port) (s : State) : Out' := let _ := port; .next (s.pfxUnload slot).1
def execPrefixLoadComplete (slot : Nat) (image : List Byte) (s : State) : Out' := .next (s.pfxLoaded slot image)
def execPrefixFetchError (slot : Nat) (s : State) : Out' := .next (s.pfxFetchFailed slot)
def execPrefixFetchTimeout (slot : Nat) (s : State) : Out' := .next (s.pfxFetchFailed slot)

end Sys2Proof.Machine
end

