-- ==== Sys2Proof/Machine/Calib.lean ====
section
/-!
DEFINITION. Calibration turns (06, R172–R189) and the stores of coefficients (R192–R199).
-/
namespace Sys2Proof.Machine
open Sys2Proof

/-! ### The queue and turns (Table 6-2) -/

/-- An array that is in service or can be: not retired. -/
def State.arrOk (s : State) (n a : Nat) : Bool := !(s.arr n a).retired

/-- The position of the next turn, and the calibration state with it taken from its queue (R182). -/
def State.nextTurn (s : State) (n : Nat) : Option (Nat × Cal) :=
  let c := s.cals.get n
  match c.front.find? (s.arrOk n) with
  | some a => some (a, { c with front := c.front.filter (· != a) })
  | none =>
    (((List.range 13).map (fun k => (c.next + k) % 13)).find? (s.arrOk n)).map (fun a => (a, { c with next := (a + 1) % 13 }))

/-- The spare array is held by a fault stand-in, by a takeover in progress, or is retired (R188). -/
def State.spareHeld (s : State) (n : Nat) : Bool :=
  let sp := s.arr n 12
  sp.retired || (sp.stand && sp.standReason == 2) || s.arrTakeovers.any (·.core == n)

/-- CAL_TURN_DUE (R180): preparation begins for the queue's head, or the turn is deferred by 100 ms. -/
def execCalTurnDue (core : Nat) (s : State) : Out' :=
  let c := s.cals.get core
  if c.state ≠ 0 || (s.cores.get core).retired then .next s
  else if s.spareHeld core then
    .next ((s.updCal core (fun c => { c with due := s.time + 10 ^ 8 })).count (Reg.CAL_DEFER core))
  else match s.nextTurn core with
    | none => .next s
    | some (a, c') =>
      let src := if a = 12 then ((List.range 12).find? (s.arrOk core)).getD 0 else 0
      let s := s.updCal core (fun _ => { c' with
        state := 1, target := a, source := src, yields := 0, comps := 0, again := 0, cmp := none })
      .next (s.updArr core a (fun x => { x with fit := {}, fitted := none }))

/-- SPARE_ARRAY_READY (R173): the spare array holds the content of both planes by role, or a plane is copied once more. -/
def execSpareArrayReady (core : Nat) (frontOk backOk : Bool) (s : State) : Out' :=
  let c := s.cals.get core
  if c.state ≠ 1 then .next s
  else if (!frontOk && bit c.again 0) || (!backOk && bit c.again 1) then .next (s.arrayRetire core 12 4)
  else if !frontOk || !backOk then
    .next (s.updCal core (fun c => { c with
      again := (b2n (!frontOk || bit c.again 0)) + 2 * b2n (!backOk || bit c.again 1) }))
  else
    let from_ := s.arr core (if c.target = 12 then c.source else c.target)
    let s := s.updArr core 12 (fun x => (x.setFront from_.frontPlane).setBack from_.backPlane)
    .next (s.updCal core (fun c => { c with state := if c.target = 12 then 4 else 2, again := 0 }))

/-- Samples of one comparison: every column without a zero-column flag, every phase with active rows, unless over range
(R176). -/
def Arr.compared (x : Arr) (b : Nat) (codes : List Int) (conv : List (List Nat)) (overs : List (Nat × Nat)) : Arr :=
  let p := x.frontPlane
  let fit := ((List.range 256).filter (fun j => !p.zeroCol j)).foldl (fun (m : Map FitSums) j =>
    (List.range b).foldl (fun (m : Map FitSums) ph =>
      let n := activeRows ph b codes
      if n = 0 || overs.contains (ph, j) then m else
      m.upd j (fun f => f.add (samplePair n ((((conv[ph]?).getD [])[j]?).getD 0) (phaseSum p b ph codes j)))) m) x.fit
  { x with fit := fit }

/-- CAL_COMPARISON_COMPLETE (R175): the target's strike and its exact sums are complete. -/
def execCalComparisonComplete (core : Nat) (conv : List (List Nat)) (overs : List (Nat × Nat)) (s : State) : Out' :=
  let c := s.cals.get core
  match c.cmp with
  | none => .next s
  | some (b, codes) =>
    if c.state ≠ 3 && c.state ≠ 4 then .next s else
    let s := s.updArr core c.target (fun x => x.compared b codes conv overs)
    let s := s.arrCount core c.target (Reg.CAL_CMP core c.target) 1 true
    .next (s.updCal core (fun c => { c with cmp := none, comps := c.comps + 1, state := if 4096 ≤ c.comps + 1 then 5 else c.state }))

/-- CAL_TURN_LIMIT (R181): the turn fits on what it has, or is abandoned. -/
def execCalTurnLimit (core : Nat) (s : State) : Out' :=
  let c := s.cals.get core
  if c.state ≠ 3 && c.state ≠ 4 then .next s
  else if 1024 ≤ c.comps then .next (s.updCal core (fun c => { c with state := 5, cmp := none }))
  else
    let s := s.abandonTurn core 1
    .next (if c.state = 3 then s.updCal core (fun c => { c with state := 6 }) else s)

/-! ### The stores (R192–R198) -/

/-- Key of an array's stored record: by logical core, or by reserve core where one serves (R193). -/
def State.calKey (s : State) (n a : Nat) : Nat :=
  match s.reserveOf n with
  | some r => 16 * (256 + r) + a
  | none => 16 * n + a

/-- The die that stores a logical core's records (R192). -/
def State.calDie (s : State) (n : Nat) : Nat := halfOf s.fuses.grade n

def State.updStore (s : State) (d : Nat) (f : CalStore → CalStore) : State := { s with calStores := s.calStores.upd d f }

/-- The valid record of an array: the one with the highest sequence (R198). -/
def CalStore.recordOf (st : CalStore) (key : Nat) : Option CalSlot :=
  st.slots.cells.foldl (fun (best : Option CalSlot) c =>
    if c.2.key != some key then best else match best with
    | some b => if b.seq < c.2.seq then some c.2 else best
    | none => some c.2) none

/-- Coefficients differ from a record in some column by at least dg in gain or d in offset. -/
def coefDiffer (a b : Map Coef) (dg d : Nat) : Bool :=
  (List.range 256).any (fun j =>
    let x := a.get j
    let y := b.get j
    decide (dg ≤ ((x.gain : Int) - y.gain).natAbs) || decide (d ≤ (x.off - y.off).natAbs))

/-- An array is to be saved: its coefficients differ from its record, or it has none and they are not the factory's
(R195). -/
def State.calDiffers (s : State) (n a : Nat) (coef : Map Coef) (dg d : Nat) : Bool :=
  match (s.calStores.get (s.calDie n)).recordOf (s.calKey n a) with
  | some r => coefDiffer coef r.coef dg d
  | none => coefDiffer coef {} 1 1

/-- Queue an array for saving; one that is queued keeps its place. It is held for 300 s after its last write (R195, R196). -/
def State.calQueue (s : State) (n a : Nat) : State :=
  let d := s.calDie n
  let key := 16 * n + a
  let held := match (s.arr n a).lastSaved with
    | some t => decide (s.time < t + 300 * 10 ^ 9)
    | none => false
  if (s.calStores.get d).queue.any (·.1 == key) then s
  else s.updStore d (fun st => { st with queue := st.queue ++ [(key, held)] })

/-- Coefficients that a fit gave take effect (R178, R188). -/
def State.applyFit (s : State) (n a : Nat) : State :=
  match (s.arr n a).fitted with
  | none => s
  | some (coef, rej, sparse) =>
    let s := s.updArr n a (fun x => { x with coef := coef, fitted := none })
    if rej = 0 then s.updArr n a (fun x => { x with calTime := s.time, factory := false })
    else s.logLimited 0x2302 (16 * n + a) (fun _ => [(1, n), (1, a), (2, rej), (2, sparse)])

/-- CAL_FIT_COMPLETE (R176–R179, R187). -/
def execCalFitComplete (core : Nat) (s : State) : Out' :=
  let c := s.cals.get core
  if c.state ≠ 5 then .next s else
  let a := c.target
  let x := s.arr core a
  let r := fitAll x.fit x.coef
  let s := s.arrCount core a (Reg.CAL_FITS core a) 1 false
  let s := (s.arrCount core a (Reg.CAL_REJECT core a) r.2.1 false).arrCount core a (Reg.CAL_SPARSE core a) r.2.2 false
  let s := if 0 < r.2.1 then s.advise core 2 else s
  if 8 < r.2.1 then .next (s.arrayRetire core a 2)
  else
    let s := s.updArr core a (fun x => { x with fitted := some r, fit := {}, checkOnly := false })
    let s := if s.calDiffers core a r.1 16 8 then s.calQueue core a else s
    if a = 12 then
      let s := (s.applyFit core 12).count (Reg.CAL_TURNS core)
      .next (s.updCal core (fun c => { c with state := 0, comps := 0 }))
    else .next (s.updCal core (fun c => { c with state := 6 }))

/-! ### Takeover and return at a tile boundary (R174, R178, R185) -/

/-- A load to an array is in progress, or issued and waiting for nothing but its back plane (R185). -/
def State.loadDue (s : State) (n a : Nat) : Bool :=
  let x := s.arr n a
  x.loading || (!x.loads.isEmpty && !(List.range 13).any (fun b => (s.arr n b).loading))

/-- The spare array stands in for the target (R174). -/
def State.standIn (s : State) (n p : Nat) : State :=
  let x := s.arr n p
  let s := s.updArr n 12 (fun y => { y with
    stand := true, standReason := 1, standPos := p, queue := x.queue, loads := x.loads, loading := x.loading, swapPending := x.swapPending })
  s.updArr n p (fun y => { y.idle with stand := true, standReason := 1, loads := [], loading := false, swapPending := false })

/-- A check incomplete at a swap, a takeover or a return is abandoned; the next counted strike is checked with the same
column group (R125). -/
def State.abandonCheck (s : State) (n a : Nat) : State :=
  match (s.arr n a).check with
  | none => s
  | some c => (s.updArr n a (fun x => { x with check := none, sampleM := c.m, sampleCount := 64 })).arrCount n a
      (Reg.CHS_CHECK_ABANDON n a) 1 false

/-- A takeover or return that meets a load yields, at most seven times (R103, R185). -/
def State.yieldOr (s : State) (n a : Nat) (go : State → State) : State :=
  if s.loadDue n a && decide ((s.cals.get n).yields < 7) then
    (s.updCal n (fun c => { c with yields := c.yields + 1 })).count (Reg.CAL_YIELD n)
  else go (s.updCal n (fun c => { c with yields := 0 }))

/-- What calibration does at a tile boundary of array a: a takeover, a return, or new check-only coefficients. -/
def State.calBoundary (s : State) (n a : Nat) : State :=
  let c := s.cals.get n
  if c.state = 2 && a == c.target then
    s.yieldOr n a (fun s => ((s.abandonCheck n a).standIn n a).updCal n (fun c => { c with state := 3 }))
  else if c.state = 6 && a == 12 then
    s.yieldOr n a (fun s =>
      let s := (s.abandonCheck n 12).endStand n c.target
      let s := if (s.arr n c.target).fitted.isSome then (s.applyFit n c.target).count (Reg.CAL_TURNS n) else s
      s.updCal n (fun c => { c with state := 0, comps := 0 }))
  else if c.checkOnly then
    let x := s.arr n a
    match x.fitted with
    | some r =>
      let s := s.applyFit n a
      if s.calDiffers n a r.1 16 8 then s.calQueue n a else s
    | none => s
  else s

/-! ### Commands and writes of the stores -/

/-- A bad CAL_CMD: ignored, with event 0x6301 (Table 6-8). -/
def State.calBad (s : State) (value : Nat) (port : Port) : State :=
  s.logEvent 0x6301 [(4, value), (1, port.num)]

/-- PRIORITISE (R184); a position above 12 or retired is bad. Answers the ring's status. -/
def State.calPrioritise (s : State) (n a : Nat) (port : Port) : State × Option Nat :=
  if 12 < a || (s.arr n a).retired then (s.calBad (16 * a + 1) port, some 0xF1)
  else (s.toFront n a, some 0)

/-- CAL_PRIORITISE (R184). -/
def execCalPrioritise (core pos : Nat) (port : Port) (s : State) : Out' :=
  if s.fuses.grade ≤ core then .next s else .next (s.calPrioritise core pos port).1

/-- SAVE (R195): every array whose coefficients differ from its record is queued. It completes when all are written; `key`
is what a ring command's completion waits on. -/
def State.calSave (s : State) (n key : Nat) : State × Option Nat :=
  let as := (List.range 13).filter (fun a => s.calDiffers n a (s.arr n a).coef 1 1)
  let s := as.foldl (fun s a => s.calQueue n a) s
  if as.isEmpty then (s, some 0) else ({ s with calSaves := s.calSaves ++ [(key, as.map (fun a => 16 * n + a))] }, none)

/-- CAL_SAVE (R195). -/
def execCalSave (core : Nat) (port : Port) (s : State) : Out' :=
  let _ := port
  if s.fuses.grade ≤ core then .next s else .next (s.calSave core core).1

/-- The die's hourly save ends when none of its arrays remains (R195). -/
def State.hourlyEnd (s : State) (d : Nat) : State :=
  let st := s.calStores.get d
  (s.updStore d (fun st => { st with hourlyDone := 0 })).logEvent 0x1301 [(1, d), (2, st.hourlyDone)]

/-- HOURLY_SAVE (R195): arrays whose coefficients differ from their records, and dropped saves, are queued. -/
def execHourlySave (s : State) : Out' :=
  let arrs := (List.range s.fuses.grade).flatMap (fun n => (List.range 13).map (fun a => (n, a)))
  let s := [0, 1].foldl (fun (s : State) d =>
    let due := arrs.filter (fun x => s.calDie x.1 == d &&
      (s.calDiffers x.1 x.2 (s.arr x.1 x.2).coef 1 1 || (s.calStores.get d).dropped.contains (16 * x.1 + x.2)))
    let s := due.foldl (fun (s : State) x => s.calQueue x.1 x.2) s
    let s := s.updStore d (fun st => { st with hourly := due.map (fun x => 16 * x.1 + x.2), hourlyDone := 0, dropped := [] })
    if due.isEmpty then s.hourlyEnd d else s) s
  .next s

/-- An array's save has ended: the queue, the hourly save and SAVE commands move on (R195–R197). -/
def State.saveEnded (s : State) (d key : Nat) (written : Bool) : State :=
  let was := (s.calStores.get d).hourly.contains key
  let s := s.updStore d (fun st => { st with
    queue := st.queue.filter (fun q => q.1 != key), fails := 0, hourly := st.hourly.filter (· != key)
    hourlyDone := if was && written then st.hourlyDone + 1 else st.hourlyDone })
  let s := if was && (s.calStores.get d).hourly.isEmpty then s.hourlyEnd d else s
  let saves := s.calSaves.map (fun x => (x.1, x.2.filter (· != key)))
  let s := { s with calSaves := saves.filter (fun x => !x.2.isEmpty) }
  (saves.filter (fun x => x.2.isEmpty)).foldl (fun s x => s.finish 0x41 x.1 0) s

/-- A slot that a write may take: erased and not marked bad. -/
def CalStore.freeSlot (st : CalStore) : Option Nat :=
  ((List.range 1197).map (fun k => (st.nextSlot + k) % 1197)).find? (fun k => (st.slots.get k).key.isNone && !(st.slots.get k).bad)

/-- A save is dropped (R197). -/
def State.saveDropped (s : State) (d key : Nat) : State :=
  let s := (s.updStore d (fun st => { st with dropped := st.dropped ++ [key] })).count (Reg.CAL_STORE_FAILS d)
  (s.logEvent 0x4302 [(1, d), (1, key / 16), (1, key % 16)]).saveEnded d key false

/-- CAL_RECORD_WRITE_COMPLETE (R195–R197): the write of the first queued array that is not held ends with its
verification. -/
def execCalRecordWriteComplete (die : Nat) (verified : Bool) (s : State) : Out' :=
  let st := s.calStores.get die
  match st.queue.find? (fun q => !q.2) with
  | none => .next s
  | some q =>
    let n := q.1 / 16
    let a := q.1 % 16
    match st.freeSlot with
    | none => .next (s.saveDropped die q.1)
    | some k =>
      if verified then
        let key := s.calKey n a
        let x := s.arr n a
        let r : CalSlot := { key := some key, seq := st.seq + 1, temp := (s.cals.get n).temp, checkOnly := x.checkOnly, coef := x.coef }
        let s := s.updStore die (fun st => { st with
          slots := (st.slots.mapVals (fun _ v => if v.key = some key then {} else v)).put k r
          nextSlot := (k + 1) % 1197, seq := st.seq + 1 })
        let s := s.updArr n a (fun x => { x with lastSaved := some s.time })
        .next ((s.count (Reg.CAL_STORE_WRITES die)).saveEnded die q.1 true)
      else
        let s := s.updStore die (fun st => { st with
          slots := st.slots.put k { bad := true }, nextSlot := (k + 1) % 1197, fails := st.fails + 1 })
        .next (if 3 ≤ st.fails + 1 then s.saveDropped die q.1 else s)

/-- SAVE_HOLD_EXPIRY (R196): a held entry becomes writable. -/
def execSaveHoldExpiry (die core pos : Nat) (s : State) : Out' :=
  .next (s.updStore die (fun st => { st with
    queue := st.queue.map (fun q => if q.1 = 16 * core + pos then (q.1, false) else q) }))

/-- One array takes its valid record, or starts from factory coefficients (R198). -/
def State.takeRecord (s : State) (d n a : Nat) : State :=
  if !(s.arr n a).needsCoef then s else
  match (s.calStores.get d).recordOf (s.calKey n a) with
  | some r => s.updArr n a (fun x => { x with
      needsCoef := false, coef := r.coef, factory := false, checkOnly := r.checkOnly, calTime := s.time })
  | none =>
    let s := s.updArr n a (fun x => { x with
      needsCoef := false, coef := {}, factory := true, checkOnly := false, calTime := (s.time : Int) - 50 * 10 ^ 9 })
    (s.logEvent 0x2304 [(1, n), (1, a)]).toFront n a

/-- CAL_POOL_READ_COMPLETE (R198): a die has read its pool, and the slots `bad`, whose tag or check word fails, are
discarded and erased. The marks of R197 end at a dawn, not at a wake from Midnight. -/
def execCalPoolReadComplete (die : Nat) (bad : List Nat) (s : State) : Out' :=
  let bad := (bad.filter (· < 1197)).eraseDups
  let s := s.updStore die (fun st => { st with
    slots := (bad.foldl (fun (m : Map CalSlot) k => m.put k { bad := (m.get k).bad }) st.slots).mapVals
      (fun _ v => { v with bad := v.bad && s.pwr.dawn == 6 }) })
  let s := s.setRegN (Reg.CAL_STORE_DISCARDS die) bad.length
  let s := bad.foldl (fun (s : State) k => s.logEvent 0x2303 [(1, die), (2, k)]) s
  let arrs := ((List.range s.fuses.grade).filter (fun n => s.calDie n == die)).flatMap (fun n => (List.range 13).map (fun a => (n, a)))
  .next (arrs.foldl (fun (s : State) x => s.takeRecord die x.1 x.2) s)

end Sys2Proof.Machine
end

