-- ==== Sys2Proof/Machine/CoreEvents.lean ====
section
/-!
DEFINITION. What happens to a core besides issue: timeouts, retirement, replay, layer boundaries with their mirrors,
restores and reserve-core takeovers (07, R203–R224; 09, R283–R288; 04, R129–R131; 18, R513–R520).
-/
namespace Sys2Proof.Machine
open Sys2Proof

/-! ### Threads (R206, R216) -/

/-- WAIT_TIMEOUT (R216, R217): the thread continues with its predicate at 0, unless its condition is true. -/
def execWaitTimeout (core thread : Nat) (s : State) : Out' :=
  let th := (s.cores.get core).threads.get thread
  if th.state ≠ .waiting ∨ th.waitT = 0 ∨ waitTrue ((s.cores.get core).evc.get th.waitE) th.waitV then .next s
  else .next ((s.updCtx (.core core thread) (fun x => { x with state := .runnable })).setP (.core core thread) th.waitP false)

/-- Codes of THR_STAT.state (Table 7-2). -/
def ThrState.code : ThrState → Nat
  | .free => 0 | .runnable => 1 | .blocked => 2 | .waiting => 3 | .halted => 4 | .faulted => 5

/-- THREAD_WATCHDOG (R206): reported once, without changing the thread's state. -/
def execThreadWatchdog (core thread : Nat) (s : State) : Out' :=
  let th := (s.cores.get core).threads.get thread
  if (th.state ≠ .blocked ∧ th.state ≠ .waiting) ∨ th.wdog ∨ s.regN (Reg.CORE_WDOG core) = 0 then .next s
  else
    let s := s.updCtx (.core core thread) (fun x => { x with wdog := true })
    .next (s.logEvent 0x4401 [(1, core), (1, thread), (1, th.state.code), (2, th.pc), (1, if th.state = .waiting then th.waitE else 0)])

/-! ### Replay (R219–R221) -/

/-- A STRIKE replays: its strikes are struck again from what the input stage keeps, at the head of each array's issue queue
(Table 7-4). -/
def State.restrike (s : State) (n id : Nat) : State :=
  match (s.cores.get n).jobs.find? (·.flight == id) with
  | none => s
  | some j =>
    let s := (List.range 13).foldl (fun s a => s.updArr n a (fun (x : Arr) => { x with
      queue := x.queue.filter (·.flight != id), urgent := x.urgent.filter (·.flight != id)
      driven := x.driven.filter (·.flight != id), waiting := x.waiting.filter (·.flight != id) })) s
    let s := s.updCore n (fun c => { c with jobs := c.jobs.map (fun x => if x.flight == id then { x with got := [] } else x) })
    j.kept.reverse.foldl (fun s k => s.updArr n (s.arrFor n k.pos) (fun a => { a with queue := { k with afterSwap := k.afterSwap && a.swapPending } :: a.queue })) s

/-- A transfer restarts from its source (Table 7-4). -/
def State.resendXfer (s : State) (n : Nat) (f : Flight) : State :=
  match s.xferEnds n f with
  | none => s
  | some (l, a) =>
    let inb := match f.kind with | .move _ _ i => i | _ => true
    let mine := fun (m : FabMsg) => match m.body with
      | .write c x => c == n && x == f.id
      | .read c x => c == n && x == f.id
      | _ => false
    let s := { (s.freeBlocks n f) with msgs := s.msgs.filter (fun m => !mine m) }
    (s.updFlight n f.id (fun x => { x with acked := false, want := 0, blocks := 0 })).sendXfer n f.id a l.bytes inb

/-- PARITY_FAILURE (R220, Table 7-4): a replay, or after the third replay the unit's retirement. `path` counts Table 7-4's
rows from 0. For the scalar path `flight` is the thread; for a chisel lane and for a plane row `pos` is the position. -/
def execParityFailure (core flight path pos : Nat) (s : State) : Out' :=
  let n := core
  let c := s.cores.get n
  if path = 0 then
    let th := c.threads.get flight
    if !th.canIssue then .next s
    else if 3 ≤ th.replays then .next (s.coreRetire n 0 0 th.pc flight)
    else
      let s := s.updCtx (.core n flight) (fun x => { x with replays := x.replays + 1 })
      .next (s.coreCount n (Reg.CORE_REPLAY n) 1 false)
  else match s.flight n flight with
    | none => .next s
    | some f =>
      if 3 ≤ f.replays then
        .next (if path = 5 then s.arrayRetire n pos 1 else if path = 6 then s.arrayRetire n pos 0
          else s.coreRetire n 0 path f.pc f.thread)
      else
        let s := s.updFlight n flight (fun x => { x with replays := x.replays + 1, path := path })
        let s := (s.updCore n (fun c => { c with replaying := true })).coreCount n (Reg.CORE_REPLAY n) 1 false
        .next (if path = 2 ∨ path = 3 then s.restrike n flight else if path = 4 then s.resendXfer n f else s)

/-! ### Retirement (R211, R212, R215) -/

/-- INSTRUCTION_RETIREMENT (R211): a vector instruction, or a transfer whose data has moved. A local PUSH moves its data
here. An outbound transfer enters the ledger (R517). -/
def execInstructionRetirement (core flight : Nat) (s : State) : Out' :=
  match s.flight core flight with
  | none => .next s
  | some f => match f.kind with
    | .vector => .next (s.retireWake core flight)
    | .move l _ inb =>
      if !f.acked then .next s else
      let s := if inb then (if l.mem = 0 then s.xferDone core flight f.evc else s)
        else s.updCore core (fun c => { c with ledMov := c.ledMov.upd f.thread (· + 1) })
      .next (s.retireWake core flight)
    | .push q slot remote l =>
      if remote.isSome && !f.acked then .next s else
      let s := if remote.isSome then s else s.updCore core (fun c => { c with
        spm := memSetOpndBytes c.spm ((c.regions.get q).slotOpnd slot) (memOpndBytes c.spm l) })
      let s := s.updRegion core q (fun r => { r with state := r.state.put slot .filled })
      .next (s.retireWake core flight)
    | _ => .next s

/-- COMPLETION_FAULT (R260, R261): a MOVE, PUSH, SEDISPATCH or SHAND ends with an error at its far end; `se` says that the
dispatched engine thread raised an exception. -/
def execCompletionFault (core flight : Nat) (se : Bool) (s : State) : Out' :=
  match s.flight core flight with
  | none => .next s
  | some f => match f.kind, se with
    | .move _ _ _, false => .next (s.remoteFault core flight)
    | .push _ _ _ _, false => .next (s.remoteFault core flight)
    | .dispatch ped _ _ _, true => .next ((s.faultStall core 2 ped).flightFault core flight 0x11)
    | .dispatch _ _ _ _, false => .next (s.remoteFault core flight)
    | .handoff _ _ _, false => .next (s.remoteFault core flight)
    | _, _ => .next s

/-! ### Mirrors and restores (R283–R286, R516, R517) -/

/-- Bank offset of a mirror area in cluster memory (R276). -/
def mirrorBase (home bank : Nat) : Nat := 0x274000 + home % 16 * 0x24000 + bank * 0x12000

/-- The mirror area of a core's physical position (R276). -/
def State.mirrorHome (s : State) (n : Nat) : Nat := 16 * (s.place n).1 + (s.place n).2

/-- The latest complete bank (R283). -/
def Core.latest (c : Core) : Option (Mirror × Nat) :=
  match c.mirror0.complete, c.mirror1.complete with
  | true, true => some (if c.mirror0.seq < c.mirror1.seq then (c.mirror1, 1) else (c.mirror0, 0))
  | true, false => some (c.mirror0, 0)
  | false, true => some (c.mirror1, 1)
  | false, false => none

/-- A word of a bank reads uncorrectable (R286). -/
def State.bankBad (s : State) (m : Mirror) (bank : Nat) : Bool :=
  ((s.clusters.get (m.home / 16)).badWord (mirrorBase m.home bank) 0x12000).isSome

/-- The pair of a layer boundary: the input image, the checkpoint and the transfer list (R223, R283, R284). -/
def State.mirror (s : State) (n layer : Nat) (o : Opnd) : State :=
  let c := s.cores.get n
  let bank := match c.latest with | some (_, b) => 1 - b | none => 0
  let last := match c.latest with | some (m, _) => m.seq | none => 0
  let live := fun (x : Xfer) => { x with done := !c.flights.any (fun f => f.id == x.flight) }
  let m : Mirror := {
    complete := true, seq := last + 1, layer := layer, step := (s.insts.get (c.inst.getD 16)).stepsSeal, range := o
    input := memOpndBytes c.spm o, threads := c.threads, evc := c.evc, level := c.level, widths := c.widths
    regions := c.regions, xfers := c.recentMoves.map live ++ c.marked.map live, home := s.mirrorHome n }
  let s := s.updCore n (fun c => { c with
    mirror0 := if bank = 0 then m else c.mirror0, mirror1 := if bank = 0 then c.mirror1 else m, mirrorBank := bank
    ledSig := {}, ledMov := {}, restartedOnce := false, restarted := false })
  let a := mirrorBase m.home bank
  let s := s.updCluster (m.home / 16) (fun x => { x with
    poison := x.poison.keep (fun w _ => decide (8 * w < a ∨ a + 0x12000 ≤ 8 * w)) })
  s.count (Reg.SPM_MIRRORS n)

/-- Repeat a recorded MOVE or PLOAD: it holds ranges like the instruction it repeats and adds to no counter (R286). -/
def State.repeatXfer (s : State) (n : Nat) (x : Xfer) : State :=
  let id := (s.cores.get n).nextFlight
  if x.isLoad then
    let s := s.enter n x.thread (.plane x.pos) (if x.zero then [] else [x.l.range]) [] none
    s.updArr n (s.arrFor n x.pos) (fun a => { a with
      loads := a.loads ++ [{ flight := id, src := if x.zero then none else some x.l.base }] })
  else
    (s.enter n x.thread (.move x.l x.remote true) [] [x.l.range] none).sendXfer n id x.remote x.l.bytes true

/-- Every thread of a core becomes FAULTED, which stalls its instance (R286, R514). -/
def State.faultCore (s : State) (n : Nat) : State :=
  let s := s.updCore n (fun (c : Core) => { c with
    threads := (List.range 32).foldl (fun (m : Map Thread) t => m.upd t (fun th => { th with state := .faulted })) c.threads })
  s.faultStall n 1 n

/-- A restore (R286), as R516 amends it when it follows a fault. -/
def State.restore (s : State) (n : Nat) (fault : Bool) : State :=
  let c := s.cores.get n
  let miss := fun (s : State) (cause : Nat) =>
    (s.updCore n (fun c => { c with org := .normal, barrier := none, held := false })).logEvent 0x4501 [(1, n), (1, cause)] |>.faultCore n
  match c.latest with
  | none => miss s 0
  | some (b, bank) =>
    if s.bankBad b bank then miss s 1 else
    let s := if fault then s.dropStrikes n else s
    let s := s.updCore n (fun c => { c with
      spm := memSetOpndBytes {} b.range b.input, poison := {}, threads := b.threads, evc := b.evc, level := b.level
      widths := b.widths, regions := b.regions.mapVals (fun _ r => { r with owner := {} }), barrier := none, held := false
      flights := [], jobs := [], groups := if fault then {} else c.groups, layer := b.layer, replaying := false
      recentMoves := b.xfers.filter (fun x => !x.isLoad), redOut := []
      org := if c.unifyPending then .draining else .normal
      skipSig := if fault then c.ledSig else c.skipSig, skipMov := if fault then c.ledMov else c.skipMov })
    let s := (b.xfers.filter (fun x => !x.isLoad || fault || !x.done)).foldl (fun s x => s.repeatXfer n x) s
    s.wake n

/-! ### Layer boundaries (R129, R130, R222, R223, R530) -/

/-- CRC-32 as IEEE 802.3 defines it (R129). -/
def crc32 (bs : List Byte) : Nat :=
  Nat.xor 0xFFFFFFFF (bs.foldl (fun c b =>
    (List.range 8).foldl (fun c _ => if c % 2 = 1 then Nat.xor (c / 2) 0xEDB88320 else c / 2) (Nat.xor c b.toNat)) 0xFFFFFFFF)

/-- Every instruction issued before the marker has retired, except plane loads and weight-stage moves (R222). -/
def Core.quiet (c : Core) : Bool :=
  c.flights.all (fun f => match f.kind with
    | .plane _ => true
    | .move l _ inb => inb && l.mem == 0
    | _ => false)

/-- A core stands at an open barrier with everything before its marker complete. -/
def Core.atBoundary (c : Core) : Bool :=
  c.barrier.isSome && !c.held && !c.retired && (c.org == .normal || c.org == .draining) && c.quiet

/-- The part a test runs: the lowest of those remaining (R529). -/
def FieldTest.part (t : FieldTest) : Nat := (firstBelow 8 (fun i => bit t.parts i)).getD 8

/-- Part 7 waits while the spare array serves calibration (R529). -/
def State.partWaits (s : State) (n : Nat) (t : FieldTest) : Bool := t.part == 7 && (s.cals.get n).state != 0

/-- A test's next slice is due at a layer boundary of its core (R530). -/
def State.sliceDue (s : State) (n : Nat) : Option Nat :=
  match s.testOf n with
  | some j =>
    let t := s.tests.get j
    if t.wait = 0 && !t.inSlice && !t.abort && !s.partWaits n t then some j else none
  | none => none

/-- A core takes its layer boundary. The barrier closes, unless UNIFY or a test slice holds it open (Table 9-10). -/
def State.takeBoundary (s : State) (n : Nat) : State :=
  match (s.cores.get n).barrier with
  | none => s
  | some (l, o) =>
    let s := s.addEvc n 1 1
    let s := s.mirror n l o
    let slice := s.sliceDue n
    let hold := (s.cores.get n).org == .draining || slice.isSome
    let s := s.updCore n (fun c => { c with
      layer := l, barrier := if hold then c.barrier else none, held := hold, marked := [], redOut := []
      org := if hold then .draining else c.org, testHold := c.testHold || slice.isSome
      unifyPending := c.unifyPending || slice.isSome })
    let s := match slice with
      | some j => s.updTest j (fun t => { t with inSlice := true })
      | none => s
    (s.coreCount n (Reg.CORE_LAYERS n) 1 false).coreClosed n l

/-- LAYER_BOUNDARY (R222). The primary of a redundancy pair takes it for both cores once their layer outputs agree; on a
difference the pair replays the pass (R129–R131). -/
def execLayerBoundary (core : Nat) (s : State) : Out' :=
  let c := s.cores.get core
  if !c.atBoundary then .next s
  else if !c.paired || c.suspended then .next (if c.paired && !c.primary then s else s.takeBoundary core)
  else if !c.primary then .next s
  else
    let d := s.cores.get c.partner
    if !d.atBoundary || !c.redOut.isEmpty || !d.redOut.isEmpty || c.red == .arbitrate then .next s else
    let out := fun (x : Core) => match x.barrier with | some (_, o) => memOpndBytes x.spm o | none => []
    let same := crc32 (out c) == crc32 (out d)
    let s := s.count (Reg.RED_LAYER_CMP core)
    let s := if same then s else s.count (Reg.RED_MISMATCH core)
    let both := fun (s : State) => (s.takeBoundary core).takeBoundary c.partner
    let clean := fun (c : Core) => { c with red := .clean, redKind := none }
    if c.red = .replay then
      if same then
        let s := s.logEvent 0x2102 [(1, c.inst.getD 0), (1, core), (2, c.layer), (1, b2n (c.redKind.getD false))]
        .next (both ((s.updCore core clean).updCore c.partner clean))
      else .next ((s.unresolved core true).takeBoundary core)
    else if same && c.redKind.isNone then .next (both s)
    else
      let kind := some (c.redKind.getD true)
      let s := (s.count (Reg.RED_REPLAY core)).updCore core (fun c => { c with red := .replay, redKind := kind })
      let s := s.updCore c.partner (fun c => { c with red := .replay, redKind := kind })
      .next ((s.restore core true).restore c.partner true)

/-! ### Reserve-core takeovers (R515, R516) -/

/-- Every array of a reserve core as its takeover finds it: planes all-zero, coefficients of its own records (R198, R516). -/
def State.freshArrays (s : State) (n : Nat) : State :=
  let z : Plane := { sums := true, synth := true }
  let s := (List.range 13).foldl (fun s a => s.updArr n a (fun _ => ({ plane0 := z, plane1 := z } : Arr))) s
  let s := (List.range 13).foldl (fun s a => s.takeRecord (s.calDie n) n a) s
  s.updCal n (fun c => { front := List.range 13, temp := c.temp, tempHold := c.tempHold })

/-- RESERVE_CORE_TAKEOVER (R515, R519): the takeover's stages end; the reserve core carries the logical number and its
threads resume. Outbound transfers of the retired core have run to their end. -/
def execReserveCoreTakeover (core : Nat) (s : State) : Out' :=
  match s.takeovers.find? (·.core == core) with
  | none => .next s
  | some t =>
    let c := s.cores.get core
    if !c.flights.isEmpty then .next s else
    let s := { s with takeovers := s.takeovers.filter (fun x => x.core != core) }
    let us := (s.time - t.decided) / 1000
    let s := s.updCore core (fun c => { c with retired := false, testHold := false, unifyPending := false })
    let s := s.freshArrays core
    let s := match c.inst with
      | none => s.updCore core (fun c => { c with org := .free })
      | some i =>
        let s := s.loadCore core (s.currentPkg i)
        (s.count (Reg.SPM_RESTORES core)).restore core true
    let s := (s.count Reg.FLT_CORE_TAKEOVERS).regMax Reg.FLT_INT_MAX us
    .next (s.logEvent 0x3402 [(1, core), (1, t.reserve), (1, t.cause), (2, (s.cores.get core).layer), (4, us)])

end Sys2Proof.Machine
end

