-- ==== Sys2Proof/Machine/Scratchpad.lean ====
section
/-!
DEFINITION. Scratchpads and cluster memory: scrubbing, uncorrectable reads, restarts and changes of organisation (09,
R278–R288), and in-field tests (18, R528–R532).
-/
namespace Sys2Proof.Machine
open Sys2Proof

/-! ### Scrubbing (R278–R280) -/

/-- SPM_ERR_ADDR (Table 9-14) and CLM_ERR_ADDR (Table 9-17) as words: kind 1 corrected, 2 uncorrectable, 3 poisoned. -/
def spmErr (kind mem off : Nat) : Nat := kind * 2 ^ 30 + mem % 4 * 2 ^ 21 + off % 2 ^ 21
def clmErr (kind off : Nat) : Nat := kind * 2 ^ 30 + off % 2 ^ 22

/-- The scrubber's half is in Dusk, Night or Midnight: it stops (R280). -/
def State.scrubStopped (s : State) (core : Bool) (n : Nat) : Bool :=
  s.halfGated (if core then halfOf s.fuses.grade n else if n < 8 then 0 else 1)

/-- SCRUB_PASS_START (R280): a pass of a scratchpad memory's or a cluster memory's scrubber starts. -/
def execScrubPassStart (core : Bool) (n mem : Nat) (s : State) : Out' :=
  if s.scrubStopped core n then .next s
  else if core then .next (s.updCore n (fun c => { c with scrubPos := c.scrubPos.put mem 0, scrubbing := c.scrubbing.put mem true }))
  else .next (s.updCluster n (fun x => { x with scrubPos := 0, scrubbing := true }))

/-- One read of a scratchpad scrubber: 2 KiB. -/
def State.scrubCore (s : State) (n mem : Nat) (corrected uncorrectable : List Nat) : State :=
  let c := s.cores.get n
  if !c.scrubbing.get mem then s else
  let fresh := uncorrectable.filter (fun w => !c.poison.get (memBase mem / 8 + w))
  let s := corrected.foldl (fun s w => s.updCore n (fun c => { c with errAddr := spmErr 1 mem (8 * w) })) s
  let s := s.countBy (Reg.SPM_CE n mem) corrected.length
  let s := if corrected.isEmpty then s
    else s.logLimitedFor (10 ^ 9) 0x2501 n corrected.length (fun k => [(1, n), (1, mem), (4, k)])
  let s := fresh.foldl (fun s w =>
    let s := s.updCore n (fun c => { c with
      spm := c.spm.store (memBase mem + 8 * w) (List.replicate 8 0), poison := c.poison.put (memBase mem / 8 + w) true
      errAddr := spmErr 3 mem (8 * w) })
    (s.count (Reg.SPM_POISON n)).logLimited 0x3502 n (fun _ => [(1, n), (1, mem), (4, 8 * w)])) s
  let s := s.updCore n (fun c => { c with scrubPos := c.scrubPos.upd mem (· + 2048) })
  if (s.cores.get n).scrubPos.get mem < (if mem = 0 then 0x40000 else if mem = 1 then 0xC0000 else 0x80000) then s
  else
    let s := s.updCore n (fun c => { c with scrubbing := c.scrubbing.put mem false })
    let c := s.cores.get n
    if c.scrubbing.get 0 || c.scrubbing.get 1 || c.scrubbing.get 2 then s else s.count (Reg.SPM_SCRUB_PASS n)

/-- One read of a cluster memory's scrubber: 256 B. -/
def State.scrubCluster (s : State) (c : Nat) (corrected uncorrectable : List Nat) : State :=
  let x := s.clusters.get c
  if !x.scrubbing then s else
  let fresh := uncorrectable.filter (fun w => !x.poison.get w)
  let s := corrected.foldl (fun s w => s.updCluster c (fun x => { x with errAddr := clmErr 1 (8 * w) })) s
  let s := s.countBy (Reg.CLM_CE c) corrected.length
  let s := if corrected.isEmpty then s
    else s.logLimitedFor (10 ^ 9) 0x2502 c corrected.length (fun k => [(1, c), (4, k)])
  let s := fresh.foldl (fun s w =>
    let s := s.updCluster c (fun x => { x with
      mem := x.mem.store (8 * w) (List.replicate 8 0), poison := x.poison.put w true, errAddr := clmErr 3 (8 * w) })
    (s.count (Reg.CLM_POISON c)).logLimited 0x3503 c (fun _ => [(1, c), (4, 8 * w)])) s
  let s := s.updCluster c (fun x => { x with scrubPos := x.scrubPos + 256 })
  if (s.clusters.get c).scrubPos < 0x400000 then s
  else (s.updCluster c (fun x => { x with scrubbing := false })).count (Reg.CLM_SCRUB_PASS c)

/-- SCRUB_READ (R278–R280): the words of the read that were corrected, and those that are uncorrectable. -/
def execScrubRead (core : Bool) (n mem : Nat) (corrected uncorrectable : List Nat) (s : State) : Out' :=
  if s.scrubStopped core n then .next s
  else if core then .next (s.scrubCore n mem corrected uncorrectable) else .next (s.scrubCluster n corrected uncorrectable)

/-! ### Uncorrectable reads and restores (R282, R286) -/

/-- SCRATCHPAD_RESTART (R282): a scratchpad word at offset `off` of memory `mem` reads uncorrectable. -/
def execScratchpadRestart (core mem off : Nat) (s : State) : Out' :=
  let n := core
  let c := s.cores.get n
  if c.retired || c.org == .restoring then .next s else
  let s := (s.count (Reg.SPM_UE n)).updCore n (fun c => { c with errAddr := spmErr 2 mem off })
  if c.org == .free || c.org == .unified then .next s
  else if c.restartedOnce then .next (s.coreRetire n 1 7 0 0)
  else
    let s := s.logEvent 0x3501 [(1, n), (1, mem), (4, off), (2, c.layer)]
    let s := { (s.dropStrikes n) with handoffs := s.handoffs.filter (fun h => h.core != n) }
    let s := s.updCore n (fun c => { c with
      flights := [], jobs := [], redOut := [], replaying := false, restarted := true, restartedOnce := true, org := .restoring })
    .next (s.count (Reg.SPM_RESTORES n))

/-- RESTORE_COMPLETE (R286, Table 9-10): the restore's actions are done and the threads resume. -/
def execRestoreComplete (core : Nat) (s : State) : Out' :=
  let c := s.cores.get core
  if c.org ≠ .restoring ∨ c.retired then .next s
  else .next ((s.restore core c.restarted).updCore core (fun c => { c with testHold := false }))

/-! ### Changes of organisation (R287, Table 9-10) -/

/-- An SPM_CTL command that is ignored: 0x6502 (R287). -/
def State.spmBad (s : State) (n value : Nat) (port : Port) : State := s.logEvent 0x6502 [(1, n), (4, value), (1, port.num)]

/-- A pending UNIFY is cancelled: 0 RESUME, 1 seal. -/
def State.cancelUnify (s : State) (n cause : Nat) : State :=
  let s := s.updCore n (fun c => { c with
    org := .normal, unifyPending := false, unifyCancelled := true, held := false, barrier := if c.held then none else c.barrier })
  s.logEvent 0x1501 [(1, n), (1, cause)]

/-- UNIFY. While a restore runs it is kept pending (log entry 41). -/
def State.unify (s : State) (n : Nat) (port : Port) : State :=
  let c := s.cores.get n
  if c.testHold then s.spmBad n 1 port else
  match c.org with
  | .free => s.spmBad n 1 port
  | .normal => s.updCore n (fun c => { c with org := .draining, unifyPending := true, unifyCancelled := false })
  | .restoring => s.updCore n (fun c => { c with unifyPending := true, unifyCancelled := false })
  | _ => s.updCore n (fun c => { c with unifyCancelled := false })

/-- RESUME. -/
def State.resume (s : State) (n : Nat) (port : Port) : State :=
  let c := s.cores.get n
  if c.testHold then s.spmBad n 2 port else
  match c.org with
  | .draining => s.cancelUnify n 0
  | .unified => (s.updCore n (fun c => { c with org := .restoring, unifyPending := false })).count (Reg.SPM_RESTORES n)
  | _ => s.spmBad n 2 port

def execUnify (core : Nat) (by_ : Port) (s : State) : Out' := .next (s.unify core by_)
def execResume (core : Nat) (by_ : Port) (s : State) : Out' := .next (s.resume core by_)

/-- UNIFIED_ENTRY (Table 9-10): the barrier is held open and every plane load and weight-stage MOVE has retired. -/
def execUnifiedEntry (core : Nat) (s : State) : Out' :=
  let c := s.cores.get core
  if c.org == .draining && c.held && c.flights.isEmpty && !c.retired then
    .next (s.updCore core (fun c => { c with org := .unified, unifyPending := false }))
  else .next s

/-! ### In-field tests (R528–R532) -/

/-- A refused test command: 0x6003 (R528). -/
def State.testRefused (s : State) (value status : Nat) (port : Port) : State × Option Nat :=
  (s.logEvent 0x6003 [(4, value), (1, status), (1, port.num)], some status)

/-- FLT_TEST_CTL as a value (Table 18-9). -/
def testCtlWord (op parts target : Nat) : Nat := op % 256 * 2 ^ 24 + parts % 256 * 2 ^ 16 + target % 256

/-- Tests running. -/
def State.testsRunning (s : State) : Nat := ((List.range 8).filter (fun j => (s.tests.get j).status == 2)).length

/-- A target that cannot be tested: RESTORING, retired, unbacked, a reserve core in use, or no such target. -/
def State.testState (s : State) (target : Nat) : Bool :=
  if 0xF0 ≤ target then
    let r := s.reserves.get (target - 0xF0)
    decide (0xF4 ≤ target) || !r.available || r.core.isSome
  else
    let c := s.cores.get target
    decide (s.fuses.grade ≤ target) || c.org == .restoring || c.retired || s.unbacked.get target

/-- Part 7 is not run while the spare array stands in for a fault; a test with no part left ends (R529). -/
def State.trimTest (s : State) (j : Nat) : State :=
  let t := s.tests.get j
  let sp := s.arr t.target 12
  let skip := decide (t.target < 0xF0) && t.part == 7 && sp.stand && sp.standReason == 2
  let s := if skip then s.updTest j (fun t => { t with parts := 0 }) else s
  if (s.tests.get j).parts = 0 then s.endTest j 0 else s

/-- START (R528). -/
def State.testStart (s : State) (port : Port) (parts target spacing : Nat) : State × Option Nat :=
  let v := testCtlWord 1 parts target
  if (s.testOf target).isSome ∨ 8 ≤ s.testsRunning then s.testRefused v 0x04 port
  else if s.testState target then s.testRefused v 0x05 port
  else
    let j := (firstBelow 8 (fun j => (s.tests.get j).status != 2)).getD 0
    let s := s.updTest j (fun _ =>
      { status := 2, target := target, parts := if parts = 0 then 0xFF else parts, failing := 0xF, spacing := spacing % 256 })
    (s.trimTest j, none)

/-- ABORT (R528, R532). -/
def State.testAbort (s : State) (port : Port) (target : Nat) : State × Option Nat :=
  match s.testOf target with
  | none => s.testRefused (testCtlWord 2 0 target) 0x05 port
  | some j =>
    if (s.tests.get j).inSlice then (s.updTest j (fun t => { t with abort := true }), some 0) else (s.endTest j 3, some 0)

def execFieldTestStart (port : Port) (parts target spacing : Nat) (s : State) : Out' := .next (s.testStart port parts target spacing).1
def execFieldTestAbort (port : Port) (target : Nat) (s : State) : Out' := .next (s.testAbort port target).1

/-- Slices of a part (Table 18-5). -/
def partSlices (p : Nat) : Nat := ([1, 2, 1, 3, 1, 1, 1, 2][p]?).getD 1

/-- What a failed part retires (R531). -/
def State.testRetires (s : State) (target part pos : Nat) : State :=
  if 0xF0 ≤ target then
    { s with reserves := s.reserves.upd (target - 0xF0) (fun r => { r with available := false, testedBad := true }) }
  else if part = 6 then s.arrayRetire target pos 3
  else if part = 7 then s.arrayRetire target 12 3
  else s.coreRetire target 4 10 0 0

/-- The test logic returns a core by RESUME after a slice (R530). -/
def State.testResume (s : State) (n : Nat) : State :=
  if (s.cores.get n).org = .unified then
    (s.updCore n (fun c => { c with org := .restoring, unifyPending := false })).count (Reg.SPM_RESTORES n)
  else s

/-- FIELD_TEST_SLICE_END (R530, R531): a slice has run. `finished` says that the slice's work is done, `failed` that the
part has failed, at array position `pos` for part 6. -/
def execFieldTestSliceEnd (target : Nat) (finished failed : Bool) (pos : Nat) (s : State) : Out' :=
  match s.testOf target with
  | none => .next s
  | some j =>
    let t := s.tests.get j
    let onInst := decide (target < 0xF0) && (s.cores.get target).inst.isSome
    if onInst && !(t.inSlice && (s.cores.get target).org == .unified) then .next s
    else if !onInst && decide (target < 0xF0) && s.partWaits target t then .next s
    else
      let p := t.part
      let s := if p = 7 ∧ target < 0xF0 then s.updArr target 12 (fun a => { a with
          plane0 := { data := Memory.store {} 0 (Config.testPlane s.freeCtr 0) }
          plane1 := { data := Memory.store {} 0 (Config.testPlane s.freeCtr 1) } }) |>.draw else s
      let s := s.updTest j (fun t => { t with slices := min 15 (t.slices + 1) })
      if failed then
        let s := s.updTest j (fun t => { t with failing := p })
        let s := s.logEvent 0x4001 [(1, target), (1, p), (1, (s.tests.get j).slices)]
        let s := if 6 ≤ p then s.testResume target else s
        .next ((s.endTest j 1).testRetires target p pos)
      else
        let s := s.testResume target
        let done := finished && decide (partSlices p ≤ t.partSlices + 1)
        let s := s.updTest j (fun t => { t with
          inSlice := false, wait := t.spacing + 1, parts := if done then t.parts - 2 ^ p else t.parts
          partSlices := if done then 0 else if finished then t.partSlices + 1 else t.partSlices })
        .next (if t.abort then s.endTest j 3 else s.trimTest j)

/-- A step boundary brings the next slice of an instance's tests nearer (R530). -/
def State.testsBoundary (s : State) (i : Nat) : State :=
  (List.range 8).foldl (fun s j =>
    let t := s.tests.get j
    if t.status = 2 ∧ t.target < 0xF0 ∧ (s.cores.get t.target).inst = some i then
      s.updTest j (fun t => { t with wait := t.wait - 1 }) else s) s

end Sys2Proof.Machine
end

