-- ==== Sys2Proof/Machine/Stacks.lean ====
section
/-!
DEFINITION. Memory stacks: DRAM accesses and their codes, retired dies, refresh and patrol (11, R321–R330), and the far
tier's registers (R331).
-/
namespace Sys2Proof.Machine
open Sys2Proof

/-! ### Stripes (R324) -/

/-- The die of data block b: position b mod 11 of stripe b / 11, whose parity is on die k mod 12. -/
def blockDie (b : Nat) : Nat :=
  let p := b / 11 % 12
  if b % 11 < p then b % 11 else b % 11 + 1

/-- The data block of stripe k that die d holds; none for the parity die. -/
def dieBlock (k d : Nat) : Option Nat :=
  let p := k % 12
  if d = p then none else some (11 * k + if d < p then d else d - 1)

/-! ### Die errors and retirement (R323, R325–R327) -/

/-- A die is retired (R326, R327): cause 0 error rate, 1 timeouts. A second one fails the pedestal. -/
def State.dieRetire (s : State) (st d cause : Nat) : State :=
  let p := s.peds.get st
  if p.lost.contains d || p.state == 3 then s else
  let s := s.updPed st (fun p => { p with lost := p.lost ++ [d] })
  match p.lost with
  | [] => (s.updPed st (fun p => { p with state := 2 })).logEvent 0x3701 [(1, st), (1, d), (1, cause)]
  | e :: _ => s.pedFail st e d

/-- A die error is counted; 16 within 1 s retire the die (R326). -/
def State.dieError (s : State) (st d : Nat) : State :=
  let ts := ((s.peds.get st).dieErrs.get d).filter (fun t => decide (s.time < t + 10 ^ 9)) ++ [s.time]
  let s := (s.pedCount st (Reg.PED_DIE_ERR st d) 1 false).updPed st (fun p => { p with dieErrs := p.dieErrs.put d ts })
  if 16 ≤ ts.length then s.dieRetire st d 0 else s

/-- DRAM_TIMEOUT (R323): the access is retried once; a second timeout is a die error, and the fourth in a row retires the
die. -/
def execDramTimeout (ped die : Nat) (s : State) : Out' :=
  let p := s.peds.get ped
  if p.lost.contains die || p.selfRefresh then .next s
  else if !p.retrying.get die then .next (s.updPed ped (fun p => { p with retrying := p.retrying.put die true }))
  else
    let s := s.updPed ped (fun p => { p with retrying := p.retrying.put die false, dieTimeouts := p.dieTimeouts.upd die (· + 1) })
    let s := s.dieError ped die
    .next (if 4 ≤ (s.peds.get ped).dieTimeouts.get die then s.dieRetire ped die 1 else s)

/-- A read's corrections: on-die (code 0) or SECDED (code 1) (R325). -/
def State.corrected (s : State) (st code k : Nat) : State :=
  if k = 0 then s else
  (s.pedCount st (if code = 0 then Reg.PED_CE_ONDIE st else Reg.PED_CE st) k false).logLimitedFor (10 ^ 9) 0x2701 st k
    (fun n => [(1, st), (1, code), (4, n)])

/-- A read of a data block that its own die cannot give (R325, R327): rebuilt from the stripe, or returned as poison. `bad`
holds the dies of the stripe that fail. -/
def State.rebuild (s : State) (st b : Nat) (bad : List Nat) : State :=
  let d := blockDie b
  let s := s.pedCount st (Reg.PED_DRAM_RD st) 11 true
  if bad.length ≤ 1 then
    let s := s.pedCount st (Reg.PED_RECON st) 1 false
    let s := s.logLimitedFor (10 ^ 9) 0x2702 st 1 (fun n => [(1, st), (1, d), (4, n)])
    let s := if (s.peds.get st).lost.contains d then s else s.pedCount st (Reg.PED_DRAM_WR st) 1 true
    s.dieError st d
  else
    let s := s.updPed st (fun p => { p with
      poison := (bad.filterMap (dieBlock (b / 11))).foldl (fun m x => m.put x true) p.poison })
    (s.pedCount st (Reg.PED_UE st) 1 false).logEvent 0x4701 [(1, st), (8, b / 11 * 704)]

/-- DRAM_ACCESS_COMPLETE (R324–R327): an access to the data block at stack address `addr` has passed the codes. `onDie` and
`secded` count its corrections; `bad` holds the dies of its stripe whose block is uncorrectable. -/
def execDramAccessComplete (ped addr : Nat) (write : Bool) (onDie secded : Nat) (bad : List Nat) (s : State) : Out' :=
  let p := s.peds.get ped
  let b := addr / 64
  let d := blockDie b
  if p.selfRefresh then .next s
  else if write then
    let s := s.pedCount ped (Reg.PED_DRAM_RD ped) 2 true
    let s := s.pedCount ped (Reg.PED_DRAM_WR ped) 2 true
    .next (s.pedCount ped (Reg.PED_RMW ped) 1 false)
  else
    let s := s.pedCount ped (Reg.PED_DRAM_RD ped) 1 true
    let s := (s.corrected ped 0 onDie).corrected ped 1 secded
    let s := if bad.contains d then s
      else s.updPed ped (fun p => { p with dieTimeouts := p.dieTimeouts.put d 0, retrying := p.retrying.put d false })
    let fails := (List.range 12).filter (fun x => bad.contains x || p.lost.contains x)
    .next (if fails.contains d then s.rebuild ped b fails else s)

/-- REFRESH_DUE (R322): postponed by up to 8 intervals while other accesses are pending, then issued. -/
def execRefreshDue (ped : Nat) (busy : Bool) (s : State) : Out' :=
  let p := s.peds.get ped
  if p.selfRefresh then .next s
  else .next (s.updPed ped (fun p => { p with postponed := if busy && decide (p.postponed < 8) then p.postponed + 1 else 0 }))

/-- PATROL_PASS_START (R329): the previous pass, if there was one, has ended and is counted here (log entry 42). -/
def execPatrolPassStart (ped : Nat) (s : State) : Out' :=
  let p := s.peds.get ped
  if p.selfRefresh || decide (s.fuses.stackN ≤ ped) then .next s
  else
    let s := if p.patrol then s.pedCount ped (Reg.PED_SCRUB_PASS ped) 1 false else s
    .next (s.updPed ped (fun p => { p with patrol := true }))

/-- The refresh rate follows the modelled temperature of the stack's node, and is doubled while the node is forced
(R330). -/
def State.refreshRate (s : State) (st : Nat) (temp : Int) (forced : Bool) : State :=
  let p := s.peds.get st
  let dbl := forced || decide (1360 ≤ temp) || (p.refreshDouble && decide (1312 < temp))
  let s := s.updPed st (fun p => { p with temp := temp, forced := forced, refreshDouble := dbl })
  if dbl == p.refreshDouble then s
  else
    let s := if dbl then s.pedCount st (Reg.PED_REFRESH_DBL st) 1 false else s
    s.logEvent 0x8701 [(1, st), (1, b2n dbl), (1, b2n (forced || p.forced))]

/-! ### The far tier's registers (R331) -/

/-- The area of an instance holds spilled sequences or far-tier weights (R331). -/
def State.farBusy (s : State) (i : Nat) : Bool :=
  s.spills.cells.any (fun c => c.1 / 4096 == i && c.2.phase != .none) ||
    ((s.winsts.get i).shape.any (fun sh => sh.f != 0) && !(s.winsts.get i).sets.isEmpty) ||
    s.wloads.any (fun l => l.inst == i && l.space.isSome && (s.wslots.get l.slot).pkg.setFar != 0)

/-- A refused write: 0 FTR_BASE, 1 FTR_CTL (R331, Table 11-9). -/
def State.farRefused (s : State) (port : Port) (i reg : Nat) : State := s.logEvent 0x6703 [(1, i), (1, reg), (1, s.actsAs port)]

/-- A write of FTR_BASE(i), both halves. -/
def State.ftrBase (s : State) (port : Port) (i value : Nat) : State :=
  if s.farBusy i then s.farRefused port i 0 else s.setReg64 (Reg.FTR_BASE_LO i) value

/-- A write of FTR_CTL(i): clearing valid is refused while the area is in use. -/
def State.ftrCtl (s : State) (port : Port) (i value : Nat) : State :=
  if bit (s.regN (Reg.FTR_CTL i)) 0 && !bit value 0 && s.farBusy i then s.farRefused port i 1
  else s.setRegN (Reg.FTR_CTL i) (value % 8)

def execFtrBaseWrite (port : Port) (inst value : Nat) (s : State) : Out' := .next (s.ftrBase port inst value)
def execFtrCtlWrite (port : Port) (inst value : Nat) (s : State) : Out' := .next (s.ftrCtl port inst value)

end Sys2Proof.Machine
end

