-- ==== Sys2Proof/Machine/Spills.lean ====
section
/-!
DEFINITION. Spill and restore over the far tier (11, R331–R336) and their commands SPILL_COMPLETE,
SPILL_RESTORE_COMPLETE, FAR_TIER_LEG_ERROR and FAR_TIER_LINK_WAIT_TIMEOUT.
-/
namespace Sys2Proof.Machine
open Sys2Proof

/-- FTR_CTL(i).valid. -/
def State.farValid (s : State) (i : Nat) : Bool := bit (s.regN (Reg.FTR_CTL i)) 0

/-- The port of leg `k` of a far-tier transfer: over "both", legs alternate over the ports whose links are up, starting
with port A (R331). `p` is the port of the first leg. -/
def State.legPort (s : State) (i p k : Nat) : Nat :=
  let other := 1 - p
  if bits (s.regN (Reg.FTR_CTL i)) 2 1 = 2 ∧ k % 2 = 1 ∧ decide (other < s.fuses.hostPorts) ∧ (s.ports.get other).linkUp
  then other else p

/-- Bytes of a spill unit (R332). -/
def spillUnit (m : MemPlan) : Nat := align4k (frameBytes m)

/-- Offset of the spill area in the far-tier area: the next 2 MiB multiple after the far weights (R332). -/
def State.spillBase (s : State) (i : Nat) : Nat :=
  match (s.winsts.get i).shape with
  | some sh => (sh.nsp * sh.f + 2 ^ 21 - 1) / 2 ^ 21 * 2 ^ 21
  | none => 0

/-- Units of an instance's spill area. -/
def State.spillUnits (s : State) (i : Nat) : Nat :=
  let m := s.planOf i
  (m.farTierMib * 2 ^ 20 - s.spillBase i) / max 1 (spillUnit m)

/-- Units in use. -/
def State.unitsUsed (s : State) (i : Nat) : List Nat :=
  (s.spills.cells.filter (fun c => c.1 / 4096 == i)).flatMap (fun c => c.2.units)

/-- The lowest free units, first-fit (R332). -/
def State.freeUnits (s : State) (i n : Nat) : List Nat :=
  let used := s.unitsUsed i
  ((List.range (s.spillUnits i)).filter (fun u => !used.contains u)).take n

def State.updSpill (s : State) (i q : Nat) (f : Spill → Spill) : State := { s with spills := s.spills.upd (seqKey i q) f }
def State.spill (s : State) (i q : Nat) : Spill := s.spills.get (seqKey i q)

/-- A refused spill (R333): cause 0 area not valid, 1 full. -/
def State.spillRefuse (s : State) (i q cause : Nat) : State :=
  let s := s.logEvent 0x4703 [(1, i), (2, q), (1, cause)]
  s.updSeq i q (fun x => { x with state := .paused, spillRefused := true })

/-- A spill is named at a boundary for a sequence that pauses (R333 action 1). -/
def State.nameSpill (s : State) (i q : Nat) : State :=
  let m := s.planOf i
  let x := s.seq i q
  let pages := (s.framesOf i q).length
  let staged := x.len % 16
  let n := pages + (if staged = 0 then 0 else (stagingBytes m + spillUnit m - 1) / max 1 (spillUnit m))
  let us := s.freeUnits i n
  if !s.farValid i then s.spillRefuse i q 0
  else if us.length < n then s.spillRefuse i q 1
  else
    let s := s.updSpill i q (fun _ => { phase := .spilling, units := us, pages := pages, staged := staged })
    s.updSeq i q (fun x => { x with state := .spilling })

/-- Far-tier offset of a unit. -/
def State.unitOff (s : State) (i u : Nat) : Nat := s.spillBase i + u * spillUnit (s.planOf i)

/-- The bytes of a spilled frame: for each sub-block in order, its data and then its metadata (log entry 18). -/
def State.frameImage (s : State) (i f : Nat) : List Byte :=
  let m := s.planOf i
  (List.range m.subs).flatMap (fun j =>
    let (st, k) := m.stackOf j
    let (da, ma) := m.frameAddr st false f k
    (s.peds.get st).planRead i da m.subBytes ++ (s.peds.get st).planRead i ma 64)

/-- The bytes of the staged tokens: for each sub-block, the key rows and then the value rows of rows 0 to n − 1 (log
entry 18). -/
def State.stagedImage (s : State) (i q n : Nat) : List Byte :=
  let m := s.planOf i
  (List.range m.subs).flatMap (fun j =>
    let (st, k) := m.stackOf j
    let a := m.partAddr st q k
    (s.peds.get st).planRead i a (2 * m.headDim * n) ++
      (s.peds.get st).planRead i (a + 32 * m.headDim) (2 * m.headDim * n))

/-- Cut a list of bytes into pieces of `n`. -/
def cutBytes (n : Nat) : Nat → List Byte → List (List Byte)
  | 0, _ => []
  | k + 1, bs => if bs.isEmpty then [] else bs.take n :: cutBytes n k (bs.drop n)

/-- What a spill writes, with the far-tier offset of each unit (R333 actions 2 and 3). -/
def State.spillWrites (s : State) (i q : Nat) : List (Nat × List Byte) :=
  let x := s.spill i q
  let frames := (s.framesOf i q).map (fun pf => s.frameImage i pf.2)
  let staged := s.stagedImage i q x.staged
  let parts := cutBytes (spillUnit (s.planOf i)) x.units.length staged
  (x.units.zip (frames ++ parts)).map (fun (u, bs) => (s.unitOff i u, bs))

/-- The read-backs of a spill have returned (R333 actions 2 to 5). The frames are freed at the next boundary. -/
def execSpillComplete (inst slot : Nat) (s : State) : Out' :=
  .next (match (s.spill inst slot).phase, s.farPort inst with
    | .spilling, some p =>
      let ws := s.spillWrites inst slot
      let s := ws.zipIdx.foldl (fun (s : State) (w : (Nat × List Byte) × Nat) =>
        s.emit (.hostWrite (s.legPort inst p w.2) (s.farAddr inst w.1.1) w.1.2)) s
      let s := (s.count64By Reg.FTR_BYTES_OUT ((ws.map (fun w => w.2.length)).sum)).count Reg.FTR_SPILLS
      let s := s.updSpill inst slot (fun x => { x with phase := .done })
      let s := { s with kvSeqs := s.kvSeqs.upd (seqKey inst slot) (fun k => { k with state := .spilled }) }
      s.updSeq inst slot (fun x => { x with state := .spilled })
    | _, _ => s)

/-- The frames of completed spills return to the free list at the next boundary (R333 action 5, R357 action 2). -/
def State.freeSpilled (s : State) (i : Nat) : State :=
  s.spills.cells.foldl (fun (s : State) c =>
    if c.1 / 4096 = i ∧ c.2.phase = .done ∧ !c.2.freed then
      (s.freeFrames i (c.1 % 4096)).updSpill i (c.1 % 4096) (fun x => { x with freed := true })
    else s) s

/-- A spill in progress, or complete with its frames not yet freed, is cancelled: the frames are kept (R335). -/
def State.spillCancel (s : State) (i q : Nat) : State := { s with spills := s.spills.put (seqKey i q) {} }

/-- Frames an instance has free. -/
def State.freeFrameList (s : State) (i : Nat) : List Nat :=
  (List.range (s.planOf i).frames).filter (fun f => ((s.kvPools.get i).used.get f).isNone)

def State.freeFrameCount (s : State) (i : Nat) : Nat := (s.planOf i).frames - (s.kvPools.get i).used.cells.length

/-- A restore is named at a boundary: it takes its frames (R334 action 1), and its reads are issued. -/
def State.restoreReads (s : State) (i q : Nat) : State :=
  match s.farPort i with
  | none => s
  | some p =>
    let m := s.planOf i
    let x := s.spill i q
    let lens := List.replicate x.pages (frameBytes m) ++
      (cutBytes (spillUnit m) x.units.length (List.replicate (m.subs * 4 * m.headDim * x.staged) 0)).map (·.length)
    (x.units.zip lens).zipIdx.foldl (fun (s : State) (u : (Nat × Nat) × Nat) =>
      s.emit (.hostRead (s.legPort i p u.2) (s.farAddr i (s.unitOff i u.1.1)) u.1.2)) s

def State.nameRestore (s : State) (i q : Nat) : State :=
  let x := s.spill i q
  let b := (s.seq i q).b
  let fs := (s.freeFrameList i).take x.pages
  let s := { s with kvPools := s.kvPools.upd i (fun p => { p with
    used := fs.zipIdx.foldl (fun (u : Map (Option (Nat × Nat))) (fk : Nat × Nat) => u.put fk.1 (some (q, b / 16 + fk.2))) p.used }) }
  let s := s.updSpill i q (fun x => { x with phase := .restoring, frames := fs })
  (s.updSeq i q (fun x => { x with state := .restoring })).restoreReads i q

/-- Write the bytes of a frame back (R334 action 2). -/
def State.frameBack (s : State) (i f : Nat) (bs : List Byte) : State :=
  let m := s.planOf i
  let n := m.subBytes + 64
  (List.range m.subs).foldl (fun s j =>
    let (st, k) := m.stackOf j
    let (da, ma) := m.frameAddr st false f k
    let d := sliceBytes bs (n * j) m.subBytes
    let md := sliceBytes bs (n * j + m.subBytes) 64
    s.updPed st (fun p => (p.planWrite i da d).planWrite i ma md)) s

/-- Write the staged tokens back, with their part state (R334 action 2, R345). -/
def State.stagedBack (s : State) (i q n : Nat) (bs : List Byte) : State :=
  let m := s.planOf i
  let h := 2 * m.headDim * n
  (List.range m.subs).foldl (fun s j =>
    let (st, k) := m.stackOf j
    let a := m.partAddr st q k
    let d := sliceBytes bs (2 * h * j) h
    let v := sliceBytes bs (2 * h * j + h) h
    s.updPed st (fun p => (p.planWrite i a d).planWrite i (a + 32 * m.headDim) v)) s

/-- Every part of a sequence takes its staging page, and the mask of the rows staged (R345). -/
def State.partsAt (s : State) (i q b len : Nat) : State :=
  let n := len % 16
  { s with parts := (List.range (s.planOf i).subs).foldl (fun (ps : Map Part) j => ps.put (partKey i q j)
      { stg := b / 16 + (len - b) / 16, mask := BitVec.ofNat 32 (rowBits false 0 n ||| rowBits true 0 n) }) s.parts }

/-- A restore completes (R334 actions 2 to 4): frames and staged tokens are in place, the entries name the new frames,
and the units are free. `bytes` is what its reads returned, unit by unit. -/
def execSpillRestoreComplete (inst slot : Nat) (bytes : List Byte) (s : State) : Out' :=
  .next (
    let x := s.spill inst slot
    let m := s.planOf inst
    let q := s.seq inst slot
    let fb := frameBytes m
    let want := x.pages * fb + m.subs * 4 * m.headDim * x.staged
    if x.phase ≠ .restoring ∨ bytes.length ≠ want then s else
    let s := x.frames.zipIdx.foldl (fun (s : State) (fk : Nat × Nat) =>
      (s.frameBack inst fk.1 (sliceBytes bytes (fb * fk.2) fb)).writePte inst slot (q.b / 16 + fk.2)
        (2 ^ 30 + fk.1)) s
    let s := s.stagedBack inst slot x.staged (bytes.drop (x.pages * fb))
    let s := s.partsAt inst slot q.b q.len
    let s := (s.count64By Reg.FTR_BYTES_IN want).count Reg.FTR_RESTORES
    let s := s.spillCancel inst slot
    s.updSeq inst slot (fun x => { x with state := .active }))

/-- A far-tier transfer of a sequence fails (R336): cause 0 completion error, 1 no link. -/
def State.farFailed (s : State) (i q port cause : Nat) : State :=
  let fail := fun (s : State) => (s.count Reg.FTR_ERRORS).logEvent 0x6702 [(1, i), (1, port), (1, cause)]
  match (s.spill i q).phase with
  | .spilling => ((fail s).spillCancel i q).updSeq i q (fun x => { x with state := .paused })
  | .restoring => (fail s).updSpill i q (fun x => { x with again := true })
  | _ => s

/-- Restores that failed are tried again at the next boundary (R336, Table 14-4). -/
def State.retryRestores (s : State) (i : Nat) : State :=
  s.spills.cells.foldl (fun (s : State) c =>
    if c.1 / 4096 = i ∧ c.2.phase = .restoring ∧ c.2.again then
      (s.updSpill i (c.1 % 4096) (fun x => { x with again := false })).restoreReads i (c.1 % 4096)
    else s) s

/-- FTR_CTL(i).valid clears once no spilled sequence remains in an area whose port has been reset (Table 16-8). -/
def State.settleFar (s : State) (i : Nat) : State :=
  if s.ftrStale.get i && !s.spills.cells.any (fun c => c.1 / 4096 == i && c.2.phase != .none) then
    ({ s with ftrStale := s.ftrStale.put i false } : State).setRegN (Reg.FTR_CTL i) (s.regN (Reg.FTR_CTL i) / 2 * 2)
  else s

def execFarTierLegError (inst slot port : Nat) (s : State) : Out' := .next (s.farFailed inst slot port 0)
def execFarTierLinkWaitTimeout (inst slot port : Nat) (s : State) : Out' := .next (s.farFailed inst slot port 1)

end Sys2Proof.Machine
end

