-- ==== Sys2Proof/Machine/Sched.lean ====
section
/-!
DEFINITION. The step scheduler's rings, request checks and commands (14, R395–R403, R413, R416, R419–R425; 15, R432),
with their rows of the table.
-/
namespace Sys2Proof.Machine
open Sys2Proof

/-! ### Ring registers (R395, R396, R458) -/

def ringOn (cfg : Nat) : Bool := bit cfg 31
def ringSize (cfg : Nat) : Nat := 2 ^ bits cfg 4 0
def ringPort (cfg : Nat) : Nat := bits cfg 8 8

/-- A configuration that may enable a ring: n in range, base a multiple of 4 KiB, port present (R396). -/
def State.ringValid (s : State) (lo hi cfg baseOff : Nat) : Bool :=
  decide (lo ≤ bits cfg 4 0 ∧ bits cfg 4 0 ≤ hi) && s.reg64 baseOff % 4096 == 0 && decide (ringPort cfg < s.fuses.hostPorts)

/-- 0x6902: kind 0 submission, 1 record. -/
def State.ringInvalid (s : State) (kind ring : Nat) (port : Port) : State :=
  s.logEvent 0x6902 [(1, kind), (1, ring), (1, port.num)]

/-- The next descriptor is read when the ring is enabled and not empty (R397). -/
def State.sqFetch (s : State) (r : Nat) : State :=
  let cfg := s.regN (Reg.SQ_CFG r)
  let x := s.subRings.get r
  let head := s.regN (Reg.SQ_HEAD r)
  if !ringOn cfg || x.desc.isSome || x.reading || head == s.regN (Reg.SQ_TAIL r) then s
  else
    let s := { s with subRings := s.subRings.upd r (fun x => { x with reading := true }) }
    s.emit (.hostRead (ringPort cfg) (s.reg64 (Reg.SQ_BASE_LO r) / 4096 * 4096 + 128 * head) 128)

/-- A submission ring is disabled (R396, R397, R469). -/
def State.sqDisable (s : State) (r : Nat) : State :=
  let s := s.setRegN (Reg.SQ_CFG r) (s.regN (Reg.SQ_CFG r) % 2 ^ 31)
  { s with subRings := s.subRings.upd r (fun x => { fetchError := x.fetchError }) }

def State.sqCfg (s : State) (r : Nat) (port : Port) (value : Nat) : State :=
  let v := bits value 4 0 + 2 ^ 8 * bits value 8 8
  let on := bit value 31
  if ringOn (s.regN (Reg.SQ_CFG r)) then
    if on then s else (s.sqDisable r).setRegN (Reg.SQ_CFG r) v
  else if !on then s.setRegN (Reg.SQ_CFG r) v
  else if !s.ringValid 6 16 value (Reg.SQ_BASE_LO r) then (s.setRegN (Reg.SQ_CFG r) v).ringInvalid 0 r port
  else
    let s := ((s.setRegN (Reg.SQ_CFG r) (v + 2 ^ 31)).setRegN (Reg.SQ_HEAD r) 0).setRegN (Reg.SQ_TAIL r) 0
    { s with subRings := s.subRings.put r {} }

/-- A write of SQ_TAIL (R396): a tail past the head in ring order, or beyond the ring, is ignored. -/
def State.sqTail (s : State) (r : Nat) (port : Port) (value : Nat) : State :=
  let cfg := s.regN (Reg.SQ_CFG r)
  let v := value % 2 ^ 16
  if !ringOn cfg then s.setRegN (Reg.SQ_TAIL r) v else
  let n := ringSize cfg
  let head := s.regN (Reg.SQ_HEAD r)
  let old := s.regN (Reg.SQ_TAIL r)
  if n ≤ v ∨ (head + n - old - 1) % n < (v + n - old) % n then s.ringInvalid 0 r port
  else (s.setRegN (Reg.SQ_TAIL r) v).sqFetch r

def State.rqDisable (s : State) (r : Nat) : State :=
  let s := s.setRegN (Reg.RQ_CFG r) (s.regN (Reg.RQ_CFG r) % 2 ^ 31)
  s.updRec r (fun x => { x with inFlight := 0 })

def State.rqCfg (s : State) (r : Nat) (port : Port) (value : Nat) : State :=
  let v := bits value 4 0 + 2 ^ 8 * bits value 9 8
  let on := bit value 31
  if ringOn (s.regN (Reg.RQ_CFG r)) then
    if on then s else (s.rqDisable r).setRegN (Reg.RQ_CFG r) v
  else if !on then s.setRegN (Reg.RQ_CFG r) v
  else if !s.ringValid 6 16 value (Reg.RQ_BASE_LO r) then (s.setRegN (Reg.RQ_CFG r) v).ringInvalid 1 r port
  else ((s.setRegN (Reg.RQ_CFG r) (v + 2 ^ 31)).setRegN (Reg.RQ_HEAD r) 0).setRegN (Reg.RQ_TAIL r) 0

/-- A write of RQ_HEAD frees entries of the ring (R395). R396 names only the pointers of a submission ring. -/
def State.rqHead (s : State) (r value : Nat) : State := s.setRegN (Reg.RQ_HEAD r) (value % 2 ^ 16)

/-! ### Requests (R398, R399, R432) -/

/-- The fields of a descriptor (Tables 14-2 and 15-2), with the clamps it states. -/
def parseDesc (d : List Byte) (port : Nat) : Desc :=
  let f := leField d
  let fl := f 0x0C 1
  { tag := f 0 8, inst := f 9 1, priority := min 7 (f 0x0A 1), ring := f 0x0B 1
    draft := bit fl 0, pfx := if bit fl 1 then some (f 0x0D 1) else none
    draftLen := min 8 (f 0x0E 1), promptAddr := f 0x10 8, promptLen := f 0x18 4, maxNew := f 0x1C 4
    deadline := if bit fl 2 then some (f 0x20 8) else none
    seed := f 0x28 8, eos := f 0x30 4
    stops := [f 0x34 4, f 0x38 4, f 0x3C 4, f 0x40 4]
    temperature := f 0x44 4, topP := f 0x48 4, topK := f 0x4C 4, mask := f 0x50 1, grammar := f 0x51 1
    startState := f 0x52 2, listAddr := f 0x58 8, listLen := f 0x60 4, port := port }

/-- Check 1 of R399. -/
def descShapeOk (d : List Byte) : Bool :=
  let f := leField d
  f 8 1 == 1 && bits (f 0x0C 1) 7 3 == 0 && f 0x0F 1 == 0 && decide (f 0x0B 1 ≤ 3) && f 0x10 8 % 4 == 0 &&
    decide (1 ≤ f 0x18 4 ∧ f 0x18 4 ≤ 262144)

/-- The part of check 8 that the descriptor alone decides (R432). -/
def samplingOk (d : List Byte) : Bool :=
  let t := leField d 0x44 4
  let p := leField d 0x48 4
  let tv := FFmt.fp32.dec t
  let pv := FFmt.fp32.dec p
  let tOk := t % 2 ^ 31 == 0 || (!tv.isNan && t / 2 ^ 31 == 0 && !tv.lt (.fin false 1 (-8)) && !(Fp.ofInt 256).lt tv)
  let pOk := p % 2 ^ 31 == 0 || (!pv.isNan && p / 2 ^ 31 == 0 && !(Fp.ofInt 1).lt pv)
  let m := leField d 0x50 1
  tOk && pOk && decide (m ≤ 3) && zeroRange d 0x54 4 && zeroRange d 0x64 28 &&
    (!(m == 1 || m == 2) || decide (1 ≤ leField d 0x60 4 ∧ leField d 0x60 4 ≤ 1024))

/-- P and B of a request (R340). -/
def State.pfxLen (s : State) (d : Desc) : Nat :=
  match d.pfx with
  | some k => (s.prefixes.get k).len
  | none => 0

def ownBase (p : Nat) : Nat := 16 * ((p + 15) / 16)

/-- A named prefix slot is READY for the instance (R364). -/
def State.pfxUsable (s : State) (d : Desc) : Bool :=
  match d.pfx with
  | some k => (s.prefixes.get k).state == .ready && (s.prefixes.get k).inst == d.inst
  | none => true

/-- A grammar request's slot is READY, with the instance's vocabulary and a state in range (R432). -/
def State.grammarOk (s : State) (d : Desc) (vocab : Nat) : Bool :=
  let g := s.grammars.get d.grammar
  g.state == .ready && g.vocab == vocab && decide (d.startState < g.states)

/-- Strictly ascending. -/
def ascending : List Nat → Bool
  | a :: b :: r => decide (a < b) && ascending (b :: r)
  | _ => true

/-- What the checks at a ring head find. -/
inductive Offer where
  /-- It stays at the head. -/
  | wait
  /-- The allowed-token list is to be read. -/
  | list
  /-- It completes with this status. -/
  | fail (status : Nat)
  /-- The checks are done. -/
  | pass
deriving DecidableEq, Repr

/-- The model slots' vocabulary of an instance's current package. -/
def State.vocabOf (s : State) (i : Nat) : Nat := (s.wslots.get (s.winsts.get i).current).pkg.vocab

/-- Checks 2 to 8 of R399. -/
def State.checkRequest (s : State) (r : Nat) (d : Desc) (sampling : Bool) : State × Offer :=
  let i := d.inst
  let b := ownBase (s.pfxLen d)
  if s.heldSeal.get i then (s, .wait)
  else if !s.hasInst i || s.isDraft i then (s, .fail 0x09)
  else if (s.insts.get i).expelled then (s, .fail 0x0B)
  else if (s.insts.get i).state == 3 then (s, .fail 0x09)
  else match s.demand i with
    | (s, .unavailable) => (s, .fail 0x09)
    | (s, .wait) => (s, .wait)
    | (s, .ready) =>
      let x := s.subRings.get r
      (s, if s.fuses.reduced && (d.mask == 3 || d.pfx.isSome) then .fail 0x0A
        else if !s.pfxUsable d then .fail 0x09
        else if 262143 < b + d.promptLen then .fail 0x0C
        else if (s.planOf i).frames < (b + d.promptLen + 1 + 15) / 16 - b / 16 then .fail 0x07
        else if d.deadline.any (fun t => decide (t ≤ s.time)) then .fail 0x04
        else if !sampling then .fail 0x0C
        else if d.mask = 3 ∧ !s.grammarOk d (s.vocabOf i) then .fail 0x0C
        else if d.mask ≠ 1 ∧ d.mask ≠ 2 then .pass
        else if x.list.isEmpty then (if x.listWait then .wait else .list)
        else if x.list.length = d.listLen ∧ ascending x.list ∧ x.list.all (fun t => decide (t < s.vocabOf i)) then .pass
        else .fail 0x0C)

/-- The record ring that a status at a ring head goes to: r itself when record_ring is above 3 (R399). -/
def headRing (r : Nat) (d : Desc) : Nat := if d.ring ≤ 3 then d.ring else r

/-- The head advances past its descriptor, and the next is read (R397). -/
def State.sqAdvance (s : State) (r : Nat) : State :=
  let n := ringSize (s.regN (Reg.SQ_CFG r))
  let s := s.setRegN (Reg.SQ_HEAD r) ((s.regN (Reg.SQ_HEAD r) + 1) % n)
  let s := { s with subRings := s.subRings.upd r (fun x => { fetchError := x.fetchError }), subLast := r }
  (s.irqEvents (4 + r) 1).sqFetch r

/-- A request completes with a status at the ring head (R399). It stays there while the pending queue has no entry. -/
def State.reject (s : State) (r : Nat) (d : Desc) (status : Nat) : State :=
  let rr := headRing r d
  if !s.entryFree rr then s else
  let step := (s.insts.get d.inst).stepsSeal
  let s := s.queueRecord rr (recordBytes d.tag status [] 0 step)
  let s := (s.count Reg.SCH_REJECTED).logLimited 0x5901 r (fun n => [(1, r), (4, d.tag % 2 ^ 32), (1, status), (4, n)])
  let s := if status = 0x04 then s.lateEvent d.inst else s
  s.sqAdvance r

/-- The lowest free sequence slot of an instance. -/
def State.freeSlot (s : State) (i : Nat) : Option Nat :=
  match s.img.insts.get i with
  | some x => firstBelow x.inst.maxSeqs (fun q => (s.seq i q).state == .free)
  | none => none

/-- Tokens of a sequence's next chunk (R406, R412). -/
def State.chunkLen (s : State) (i : Nat) (x : Seq) : Nat :=
  match s.img.insts.get i with
  | some y => min y.inst.prefillChunk (x.desc.promptLen - x.promptDone)
  | none => 0

/-- The next chunk of a prompt is read (R412). -/
def State.fetchChunk (s : State) (i q : Nat) : State :=
  let x := s.seq i q
  let n := s.chunkLen i x
  if n = 0 then s.updSeq i q (fun y => { y with chunk := .none }) else
  (s.updSeq i q (fun y => { y with chunk := .fetching })).emit
    (.hostRead x.desc.port (x.desc.promptAddr + 4 * x.promptDone) (4 * n))

/-- A request takes the lowest free slot of its instance, and of its draft instance, and becomes WAITING (R399, R413). An
instance whose egress is ICPEN decodes plainly (R499). -/
def State.accept (s : State) (r : Nat) (d : Desc) : State :=
  let i := d.inst
  match s.freeSlot i with
  | none => s
  | some q =>
    if s.heldSeal.get i || (s.insts.get i).heldCmd || !s.entryFree d.ring then s else
    let p := s.pfxLen d
    let b := ownBase p
    let dq : Option Nat := if d.draft && !s.egressIcpen i then (s.draftOf i).bind (fun di => s.freeSlot di) else none
    let x : Seq := { state := .waiting, desc := { d with draft := dq.isSome }, raw := (s.subRings.get r).raw, list := (s.subRings.get r).list
                     accepted := s.time, since := s.time, p := p, b := b, len := b, kCur := d.draftLen
                     draftSlot := dq, entry := true, gState := d.startState, wslot := (s.winsts.get i).current }
    let s := { s with seqs := s.seqs.put (seqKey i q) x }
    let s := match dq, s.draftOf i with
      | some dq, some di =>
        { s with seqs := s.seqs.put (seqKey di dq) { x with entry := false, p := 0, draftSlot := none
                                                            wslot := (s.winsts.get di).current } }
      | _, _ => s
    let s := if d.mask = 3 then { s with grammars := s.grammars.upd d.grammar (fun g => { g with refs := g.refs + 1 }) } else s
    let s := if d.mask = 3 then s.grmFetch d.grammar d.startState else s
    ((s.count64 Reg.SCH_ACCEPTED).fetchChunk i q).sqAdvance r

/-- The checks at a ring head, and what follows when one fails. None is taken during a planned shutdown (R551). -/
def State.tryHead (s : State) (r : Nat) : State × Bool :=
  if s.pwr.shutting then (s, false) else
  match (s.subRings.get r).desc with
  | none => (s, false)
  | some d =>
    if !(s.subRings.get r).shape then (s.reject r d 0x0C, false) else
    match s.checkRequest r d (s.subRings.get r).sampling with
    | (s, .wait) => (s, false)
    | (s, .pass) => ({ s with subRings := s.subRings.upd r (fun x => { x with ready := true }) }, true)
    | (s, .fail st) => (s.reject r d st, false)
    | (s, .list) =>
      let s := { s with subRings := s.subRings.upd r (fun x => { x with listWait := true }) }
      (s.emit (.hostRead d.port d.listAddr (4 * d.listLen)), false)

/-- 0x6903: a descriptor read fails (R397). -/
def State.descError (s : State) (r : Nat) : State :=
  let port := ringPort (s.regN (Reg.SQ_CFG r))
  let s := s.sqDisable r
  let s := { s with subRings := s.subRings.upd r (fun x => { x with fetchError := true }) }
  s.logEvent 0x6903 [(1, r), (2, s.regN (Reg.SQ_HEAD r)), (1, port)]

/-- REQUEST_DESCRIPTOR: the read of the head's descriptor returns (R397, R399). -/
def execRequestDescriptor (ring : Nat) (error : Bool) (bytes : List Byte) (s : State) : Out' :=
  .next (
    if !(s.subRings.get ring).reading then s
    else if error then s.descError ring
    else
      let d := parseDesc bytes (ringPort (s.regN (Reg.SQ_CFG ring)))
      let s := { s with subRings := s.subRings.upd ring (fun x => { x with
        desc := some d, raw := bytes, reading := false, shape := descShapeOk bytes, sampling := samplingOk bytes }) }
      (s.tryHead ring).1)

/-- LIST_FETCH_COMPLETE: the allowed-token list of check 8 (R432). -/
def execListFetchComplete (ring : Nat) (error : Bool) (tokens : List Nat) (s : State) : Out' :=
  .next (match (s.subRings.get ring).desc with
    | none => s
    | some d =>
      if !(s.subRings.get ring).listWait then s
      else if error then s.reject ring d 0x0C
      else
        let s := { s with subRings := s.subRings.upd ring (fun x => { x with listWait := false, list := tokens }) }
        (s.tryHead ring).1)

/-- REQUEST_ACCEPTED: a ring head is served (R397, R399). -/
def execRequestAccepted (ring : Nat) (s : State) : Out' :=
  .next (match (s.subRings.get ring).desc with
    | none => s
    | some d => match s.tryHead ring with
      | (s, true) => s.accept ring d
      | (s, false) => s)

/-- PROMPT_CHUNK_FETCH (R412). -/
def execPromptChunkFetch (inst slot : Nat) (error : Bool) (tokens : List Nat) (s : State) : Out' :=
  .next (
    let x := s.seq inst slot
    if x.chunk ≠ .fetching then s
    else if error then s.updSeq inst slot (fun y => { y with chunk := .failed })
    else if tokens.length = s.chunkLen inst x then s.updSeq inst slot (fun y => { y with chunk := .ready tokens })
    else s)

/-! ### Record rings (R419, R420, R461) -/

/-- RECORD_BATCH_WRITE: pending records are written, and the last is read back. -/
def execRecordBatchWrite (ring : Nat) (s : State) : Out' :=
  .next (
    let cfg := s.regN (Reg.RQ_CFG ring)
    let x := s.recRings.get ring
    let n := ringSize cfg
    let tail := s.regN (Reg.RQ_TAIL ring)
    let room := (s.regN (Reg.RQ_HEAD ring) % n + n - tail - 1) % n
    let k := min room x.queue.length
    let port := ringPort cfg
    if !ringOn cfg || x.inFlight != 0 || k == 0 || !(s.ports.get port).linkUp then s else
    let base := s.reg64 (Reg.RQ_BASE_LO ring) / 4096 * 4096
    let s := (x.queue.take k).zipIdx.foldl (fun (s : State) (b : List Byte × Nat) =>
      s.emit (.hostWrite port (base + 32 * ((tail + b.2) % n)) b.1)) s
    (s.emit (.hostRead port (base + 32 * ((tail + k - 1) % n)) 32)).updRec ring (fun x => { x with inFlight := k }))

/-- RECORD_READBACK_COMPLETE: the tail advances, the shadow follows, and entries free. -/
def execRecordReadbackComplete (ring : Nat) (s : State) : Out' :=
  .next (
    let cfg := s.regN (Reg.RQ_CFG ring)
    let k := (s.recRings.get ring).inFlight
    if k = 0 then s else
    let tail := (s.regN (Reg.RQ_TAIL ring) + k) % ringSize cfg
    let s := s.setRegN (Reg.RQ_TAIL ring) tail
    let s := s.updRec ring (fun x => { x with inFlight := 0, queue := x.queue.drop k })
    let s := if bit cfg 9 then
        s.emit (.hostWrite (ringPort cfg) (s.reg64 (Reg.RQ_SHADOW_LO ring) / 4 * 4) (leBytes 4 tail))
      else s
    (s.irqEvents ring k).serveEntries ring)

/-! ### Deadlines, commands, step limit (R403, R416, R422, R424, R425) -/

/-- A sequence outside the step in progress goes to RETIRING with a terminal status, whose record is written at the next
boundary (R403); a spill or restore in progress stops (R335). In the step, its record carries the status. -/
def State.retireSoon (s : State) (i q status : Nat) : State :=
  let x := s.seq i q
  if x.inStep && !x.recorded then s.updSeq i q (fun y => { y with due := if y.due == some 0x06 then y.due else some status })
  else
    let s := if x.state = .spilling ∨ x.state = .restoring then s.updSpill i q (fun y => { y with units := [], phase := .none }) else s
    s.updSeq i q (fun y => { y with state := .retiring, due := some status })

/-- DEADLINE_PASSED: a resident sequence's deadline passes. -/
def execDeadlinePassed (inst slot : Nat) (s : State) : Out' :=
  .next (
    let x := s.seq inst slot
    if x.state = .free ∨ x.state = .retiring ∨ x.desc.deadline.isNone ∨ s.isDraft inst then s
    else
      let s := s.retireSoon inst slot 0x04
      if x.inStep && !x.recorded then s else s.lateEvent inst)

/-- SCH_CMD_STAT, and 0x6901 on a failing command (R425). -/
def State.schDone (s : State) (port : Port) (cmd i q status : Nat) : State × Option Nat :=
  let s := { s with schStatus := status, schCmd := cmd }
  (if status = 0 then s
   else s.logEvent 0x6901 [(4, i * 2 ^ 24 + q * 2 ^ 12 + cmd), (1, port.num), (1, status)], some status)

/-- One slot is evicted by command: of a main instance it is due EVICTED; a draft slot ends with its boundary. -/
def State.evictSlot (s : State) (i q : Nat) : State :=
  let s := if s.isDraft i then
      { s with seqs := (s.seqs.upd (seqKey i q) (fun x => { x with state := .retiring })).mapVals (fun k x =>
          if k / 4096 = s.mainOf i ∧ x.draftSlot = some q then { x with draftSlot := none, desc := { x.desc with draft := false } }
          else x) } |>.stepCheck i
    else s.retireSoon i q 0x06
  s.evictedEvent i q 0

def State.schEvict (s : State) (port : Port) (i q : Nat) : State × Option Nat :=
  let x := s.seq i q
  if x.state = .free ∨ x.state = .retiring then s.schDone port 1 i q 1
  else (s.evictSlot i q).schDone port 1 i q 0

def State.schEvictAll (s : State) (port : Port) (i : Nat) : State × Option Nat :=
  if !s.hasInst i then s.schDone port 2 i 0 1 else
  let s := (s.residents i).foldl (fun (s : State) q => s.evictSlot i q) s
  let s := match s.draftOf i with
    | some d => (s.residents d).foldl (fun (s : State) q => s.evictSlot d q) s
    | none => s
  s.schDone port 2 i 0 0

def State.schHold (s : State) (port : Port) (i : Nat) : State × Option Nat :=
  if !s.hasInst i then s.schDone port 3 i 0 1
  else (s.updInst i (fun x => { x with heldCmd := true })).schDone port 3 i 0 0

def State.schRelease (s : State) (port : Port) (i : Nat) : State × Option Nat :=
  if !(s.insts.get i).heldCmd then s.schDone port 4 i 0 1
  else (s.updInst i (fun x => { x with heldCmd := false })).schDone port 4 i 0 0

/-- STEP_LIMIT_EXPIRY (R422). -/
def execStepLimitExpiry (inst : Nat) (s : State) : Out' :=
  .next (if (s.insts.get inst).state = 1 ∧ s.regN Reg.SCH_STEP_LIMIT ≠ 0 then s.stallIf inst 3 0 else s)

def execSqTailWrite (ring : Nat) (port : Port) (value : Nat) (s : State) : Out' := .next (s.sqTail ring port value)
def execSqCfgWrite (ring : Nat) (port : Port) (value : Nat) (s : State) : Out' := .next (s.sqCfg ring port value)
def execRqHeadWrite (ring : Nat) (port : Port) (value : Nat) (s : State) : Out' := let _ := port; .next (s.rqHead ring value)
def execRqCfgWrite (ring : Nat) (port : Port) (value : Nat) (s : State) : Out' := .next (s.rqCfg ring port value)
def execEvict (port : Port) (inst slot : Nat) (s : State) : Out' := .next (s.schEvict port inst slot).1
def execEvictAll (port : Port) (inst : Nat) (s : State) : Out' := .next (s.schEvictAll port inst).1
def execHold (port : Port) (inst : Nat) (s : State) : Out' := .next (s.schHold port inst).1
def execRelease (port : Port) (inst : Nat) (s : State) : Out' := .next (s.schRelease port inst).1

end Sys2Proof.Machine
end

