-- ==== Sys2Proof/Machine/Shutdown.lean ====
section
/-!
DEFINITION. The planned shutdown's effect on steps and sequences (19, R550, R551).
-/
namespace Sys2Proof.Machine
open Sys2Proof

/-- Every resident sequence of an instance completes EVICTED with no token, with cause "shutdown", and a step that has
stopped leaves nothing (R551). -/
def State.shutdownEvict (s : State) (i : Nat) : State :=
  let s := (s.residents i).foldl (fun (s : State) q =>
    if s.isDraft i then s.freeOne i q
    else ((s.record i q 0x06 [] 0 false).evictedEvent i q 5).freeSeq i q) s
  let s := s.updInst i (fun x => { x with
    state := if x.state = 3 then 3 else 0, ents := [], rows := [], ended := false, draftStep := 0 })
  { s with smpRows := s.smpRows.keep (fun k _ => k / 4096 != i) }

/-- Whether the step in progress of an instance runs on at a planned shutdown: a step has completed since the last seal,
and its length less the time already spent is at most 1 ms (R551). -/
def State.runsOn (s : State) (i : Nat) : Bool :=
  let x := s.insts.get i
  !s.isDraft i && x.state == 1 && !x.ended && decide (2 ≤ x.stepsSeal ∧ x.lastNs - (s.time - x.started) ≤ 1000000)

/-- A planned shutdown starts (R550 steps 1 and 2): PWR_CMD.SHUTDOWN or a confirmed thermal shutdown. -/
def State.startShutdown (s : State) : State :=
  if s.pwr.shutting then s else
  let on := (List.range 16).filter s.runsOn
  let s := { s with pwr := { s.pwr with shutting := true, runOn := on, govW := 1, govE := 1 } }
  ((List.range 16).filter (fun i => s.hasInst i && !on.contains i)).foldl (fun (s : State) i => s.shutdownEvict i) s

end Sys2Proof.Machine
end

