-- ==== Sys2Proof/Machine/Boundary.lean ====
section
/-!
DEFINITION. The step boundary and the start of a step (12, R351, R357, R358; 14, R403–R416, R421): STEP_BOUNDARY and
STEP_START, with draft steps (R414) and pipeline stages (17, R499, R500).
-/
namespace Sys2Proof.Machine
open Sys2Proof

/-! ### Action 1: commit (R351, R358) -/

/-- Clear the mask bits of rows at or above `lc` in every part of a sequence, and flush the parts that are then full
(R351). -/
def State.commitParts (s : State) (i q lc : Nat) : State :=
  let s := { s with kvSeqs := s.kvSeqs.upd (seqKey i q) (fun k => { k with firm := lc }) }
  (List.range (s.planOf i).subs).foldl (fun (s : State) j =>
    let key := partKey i q j
    let pt := s.parts.get key
    let n := min 16 (lc - 16 * pt.stg)
    let keep := BitVec.ofNat 32 (rowBits false 0 n ||| rowBits true 0 n)
    let s := { s with parts := s.parts.put key { pt with mask := pt.mask &&& keep } }
    if s.partFull i q j then
      match s.kvFrame i q pt.stg with
      | some f =>
        let st := ((s.planOf i).stackOf j).1
        (s.flushInto i q j f).pedCount st (Reg.KV_FLUSH_DEFER st) 1 false
      | none => s.flushNoFrame i q j
    else s) s

/-- The first part that does not hold what R358 asks of a sequence of committed length `lc`. -/
def State.partBad (s : State) (i q lc : Nat) : Option Nat :=
  let n := lc % 16
  let want := BitVec.ofNat 32 (rowBits false 0 n ||| rowBits true 0 n)
  firstBelow (s.planOf i).subs (fun j =>
    let pt := s.parts.get (partKey i q j)
    pt.stg != lc / 16 || pt.mask != want)

/-- A sequence's part fails R358: KVM_INCOMPLETE and 0x4705. -/
def State.incomplete (s : State) (i q j : Nat) : State :=
  let h := max 1 (s.planOf i).kvHeads
  (s.count Reg.KVM_INCOMPLETE).logEvent 0x4705 [(1, i), (2, q), (2, j / h), (1, j % h)]

/-- A draft slot ends: its sequence goes on with plain decoding (R413). -/
def State.dropDraft (s : State) (i q : Nat) : State :=
  match (s.seq i q).draftSlot, s.draftOf i with
  | some dq, some d =>
    (s.freeOne d dq).updSeq i q (fun x => { x with draftSlot := none, desc := { x.desc with draft := false } })
  | _, _ => s

/-- The draft instance's committed length follows the main one's (R351, R414, R415). `used` are the committed input tokens
of the step. -/
def State.commitDraft (s : State) (i q l0 lc : Nat) (used : List Nat) : State :=
  match (s.seq i q).draftSlot, s.draftOf i with
  | some dq, some d =>
    let lag := (s.seq i q).draftLag
    let from_ := l0 - lag.length
    let held := min (s.seq d dq).len lc
    let s := (s.updSeq d dq (fun x => { x with len := held })).commitParts d dq held
    let s := s.updSeq i q (fun x => { x with draftLag := (lag ++ used).drop (held - from_) })
    match s.partBad d dq held with
    | some j => (s.incomplete d dq j).dropDraft i q
    | none => s
  | _, _ => s

/-- A sequence's due status, unless it is retiring already. -/
def State.dueStatus (s : State) (i q status : Nat) : State :=
  s.updSeq i q (fun x => if x.state = .free ∨ x.state = .retiring then x else { x with state := .retiring, due := some status })

/-- One sequence of the step just ended takes its committed length (R357 action 1). -/
def State.commitOne (s : State) (i e : Nat) (ent : StepEnt) : State :=
  let q := ent.slot
  let x := s.seq i q
  if !x.inStep || x.state == .free then s else
  let lc := if ent.kind = 2 then ent.l0 + 1 + x.acc else ent.l0 + ent.rows
  let used := (((s.insts.get i).rows.filter (fun r => r.entry == e)).map (·.token)).take (lc - ent.l0)
  let g := if x.desc.mask = 3 then (s.grammars.get x.desc.grammar).run x.gState x.out else x.gState
  let s := s.updSeq i q (fun y => { y with
    len := lc, emitted := y.emitted + x.out.length, lastToken := x.out.getLast?.getD y.lastToken
    promptDone := if ent.kind = 1 then y.promptDone + ent.rows else y.promptDone
    gState := g, inStep := false, drafts := [], rows := {}, out := [], acc := 0, nan := false })
  let s := (s.commitParts i q lc).commitDraft i q ent.l0 lc used
  let s := if x.desc.mask = 3 ∧ x.state ≠ .retiring then s.grmFetch x.desc.grammar g else s
  match s.partBad i q lc with
  | some j =>
    if x.state = .retiring then s
    else ((s.incomplete i q j).dueStatus i q 0x06).evictedEvent i q 3
  | none => s

/-- The commit of a first or middle stage: lengths and retirements follow the RESULTs that have arrived (R500). -/
def State.commitResults (s : State) (i : Nat) : State :=
  let rs := (s.insts.get i).resultIn
  let s := s.updInst i (fun x => { x with resultIn := [] })
  rs.foldl (fun (s : State) (q, lc, tok, _, last) =>
    let x := s.seq i q
    if x.state = .free then s else
    let s := s.updSeq i q (fun y => { y with
      len := lc, lastToken := tok, awaits := false
      emitted := if y.desc.promptLen ≤ y.promptDone then y.emitted + 1 else y.emitted
      state := if last then .retiring else y.state, due := if last then none else y.due })
    let s := s.commitParts i q lc
    match s.partBad i q lc with
    | some j => if last then s else ((s.incomplete i q j).dueStatus i q 0x06).evictedEvent i q 3
    | none => s) s

/-- A stage that is not the last: what its own step leaves until the RESULT comes (R500). -/
def State.commitStage (s : State) (i : Nat) : State :=
  (s.insts.get i).ents.foldl (fun (s : State) ent =>
    s.updSeq i ent.slot (fun y => if y.inStep then { y with
      inStep := false, recorded := true, awaits := true, promptDone := if ent.kind = 1 then y.promptDone + ent.rows else y.promptDone } else y)) s

/-- What the last stage reports of a step (R500). -/
def State.reportResults (s : State) (i : Nat) (ents : List StepEnt) : State :=
  let rs : List (Nat × Nat × Nat × Nat × Bool) := ents.map (fun e =>
    let x := s.seq i e.slot
    (e.slot, x.len, x.lastToken, x.lastStatus, x.state == .retiring))
  s.updInst i (fun x => { x with resultOut := x.resultOut ++ rs })

/-- Page buffers are emptied at every step boundary (R356). -/
def State.dropBuffers (s : State) (i : Nat) : State :=
  let mine := fun (b : Option (Nat × Nat × Nat × Nat)) => match b with
    | some (j, _) => j == i
    | none => false
  { s with engines := s.engines.mapVals (fun _ e => { e with
    bufK := if mine e.bufK then none else e.bufK, bufV := if mine e.bufV then none else e.bufV
    nextK := if mine e.nextK then none else e.nextK, nextV := if mine e.nextV then none else e.nextV }) }

/-- The step just ended is committed (R357 action 1, R418). -/
def State.commitStep (s : State) (i : Nat) : State :=
  let run := s.insts.get i
  let s := (s.count64 (Reg.SCH_STEPS i)).updInst i (fun x => { x with lastNs := min (s.time - x.started) (2 ^ 32 - 1) })
  let s := if s.egressIcpen i then s.commitStage i
    else
      let s := run.ents.zipIdx.foldl (fun (s : State) (p : StepEnt × Nat) => s.commitOne i p.2 p.1) s
      if s.ingressIcpen i then s.reportResults i run.ents else s
  s.updInst i (fun x => { x with state := 0, ended := false, ents := [], rows := [], closed := {} })

/-! ### Retirements before the next step (R364, R409, R412, R416, R423, R350) -/

/-- Rows and kind of a sequence in a step with `left` rows left (Table 14-5, R413): kind, rows, draft length. -/
def State.rowsFor (s : State) (i : Nat) (x : Seq) (left : Nat) : Nat × Nat × Nat :=
  if x.promptDone < x.desc.promptLen then (1, min left (s.chunkLen i x), 0)
  else
    let k := if x.draftSlot.isSome then min (min x.kCur (15 - x.len % 16)) (min (x.desc.maxNew - x.emitted - 1) (left - 1)) else 0
    if k = 0 then (0, 1, 0) else (2, 1 + k, k)

/-- Frames a step of rows needs (R405). -/
def needOf (l0 rows : Nat) : Nat := (l0 + rows) / 16 - l0 / 16

/-- A sequence's hold (R405). -/
def State.holdOf (s : State) (i q : Nat) : Nat := (s.framesOf i q).length

/-- The next chunk holds a token at or above the vocabulary (R412). -/
def State.chunkBad (s : State) (i : Nat) (x : Seq) : Bool :=
  match x.chunk with
  | .ready ts => ts.any (fun t => decide (s.vocabOf i ≤ t))
  | _ => false

/-- The status with which a sequence retires at a boundary before its step, if any. -/
def State.boundaryStatus (s : State) (i q : Nat) : Option Nat :=
  let x := s.seq i q
  let (_, rows, _) := s.rowsFor i x 4096
  if (s.insts.get i).expelled then some 0x0B
  else if s.noFrame.get (seqKey i q) then some 0x06
  else if x.gFail then some 0x06
  else if x.chunk = .failed then some 0x06
  else if !x.recorded && x.desc.deadline.any (fun t => decide (t ≤ s.time)) then some 0x04
  else if s.chunkBad i x then some 0x0C
  else if x.state = .waiting ∧ !s.pfxUsable x.desc then some 0x09
  else if x.state = .active ∧ (262144 < x.len + rows ∨ (s.planOf i).frames < s.holdOf i q + needOf x.len rows) then some 0x02
  else none

/-- Retire what R350, R364, R409, R412, R416 and R423 retire at a boundary. -/
def State.retireAtBoundary (s : State) (i : Nat) : State :=
  let first := (s.insts.get i).expelDue
  let s := s.updInst i (fun x => { x with expelled := x.expelled || x.expelDue, expelDue := false })
  let gone := if first then (s.seqs.cells.filter (fun c => c.1 / 4096 == i && c.2.recorded && c.2.lastStatus == 0x0B)).length else 0
  let qs := s.residents i
  let s := qs.foldl (fun (s : State) q =>
    match s.boundaryStatus i q with
    | none => s
    | some st =>
      let cause := if s.noFrame.get (seqKey i q) then 2 else 4
      let failed := (s.seq i q).gFail
      let s := s.dueStatus i q st
      if st = 0x04 then s.lateEvent i
      else if st = 0x06 then (if failed then s.count Reg.SCH_EVICTED else s.evictedEvent i q cause)
      else s) s
  if first then s.logEvent 0x5905 [(1, i), (2, gone + qs.length)] else s

/-- Terminal records due outside a step are written (R403), and the slots that retire become FREE (R357 action 2). An
instance whose egress is ICPEN writes none (R418). -/
def State.freeRetiring (s : State) (i : Nat) : State :=
  (s.slotsOf i).foldl (fun (s : State) q =>
    let x := s.seq i q
    if x.state ≠ .retiring then s else
    let s := match x.due with
      | some st => if s.egressIcpen i then s else s.record i q st [] 0 false
      | none => s
    s.freeSeq i q) s

/-- Frames pre-allocated at the previous boundary but still unflushed return to the free list (R357 action 2). -/
def State.freePre (s : State) (i : Nat) : State :=
  let pre := (s.kvPools.get i).pre
  let s := { s with kvPools := s.kvPools.upd i (fun p => { p with pre := [] }) }
  pre.foldl (fun (s : State) (q, pg, f) =>
    if pg < (s.seq i q).len / 16 then s
    else
      let s := s.writePte i q pg 0
      { s with kvPools := s.kvPools.upd i (fun p => { p with used := p.used.put f none }) }) s

/-! ### Selection (R404–R410) -/

/-- Effective priority at the boundary (R404). -/
def State.effective (s : State) (x : Seq) : Nat :=
  if x.state = .active then x.desc.priority else min 7 (x.desc.priority + (s.time - x.since) / 100000000)

/-- Slots in rank order (R404). -/
def State.rankOrder (s : State) (i : Nat) : List Nat :=
  (s.residents i).mergeSort (fun a b =>
    let x := s.seq i a
    let y := s.seq i b
    let ex := s.effective x
    let ey := s.effective y
    decide (ey < ex) || (ex == ey && (decide (x.accepted < y.accepted) || (x.accepted == y.accepted && decide (a ≤ b)))))

/-- A sequence selected for a step. -/
structure Pick where
  slot : Nat := 0
  kind : Nat := 0
  rows : Nat := 0
  k : Nat := 0
  need : Nat := 0
  /-- ACTIVE before the boundary: it may be preempted. -/
  was : Bool := false
  /-- Its place in rank order. -/
  rank : Nat := 0
deriving DecidableEq, Repr, Inhabited

/-- Selection in progress (R407). -/
structure Pass where
  batch : List Pick := []
  rows : Nat := 0
  free : Nat := 0
  /-- The waiting or spilled sequence that did not fit: its rank and what it wants. -/
  blocked : Option (Nat × Nat) := none
  paused : List Nat := []
  restore : List Nat := []
deriving DecidableEq, Repr, Inhabited

/-- The prompt rows of a sequence are at hand: a chunk that is still being read keeps its sequence out of the step. -/
def chunkReady (x : Seq) : Bool :=
  if x.promptDone < x.desc.promptLen then (match x.chunk with
    | .ready _ => true
    | _ => false)
  else true

/-- One sequence of the pass (R407). -/
def State.passOne (s : State) (i : Nat) (maxBatch admitBelow : Nat) (p : Pass) (rank q : Nat) : Pass :=
  let x := s.seq i q
  if p.batch.length = maxBatch ∨ p.rows = 4096 ∨ !x.entry ∨ x.awaits then p else
  let (kind, rows, k) := s.rowsFor i x (4096 - p.rows)
  let need := needOf x.len rows
  let pick : Pick := { slot := q, kind := kind, rows := rows, k := k, need := need, was := x.state == .active, rank := rank }
  match x.state with
  | .waiting =>
    if p.blocked.isSome || !chunkReady x || (s.insts.get i).heldCmd || s.heldSeal.get i || decide (admitBelow ≤ q) then p else
    let want := (x.b + x.desc.promptLen + 1 + 15) / 16 - x.b / 16
    if want ≤ p.free then { p with batch := p.batch ++ [pick], rows := p.rows + rows, free := p.free - need }
    else { p with blocked := some (rank, want) }
  | .spilled =>
    if p.blocked.isSome then p else
    let hold := (s.spill i q).pages
    if hold + need ≤ p.free then { p with restore := p.restore ++ [q], free := p.free - hold }
    else { p with blocked := some (rank, hold + need) }
  | .restoring => p
  | .retiring => p
  | .free => p
  | _ =>
    if !chunkReady x then p
    else if need ≤ p.free then { p with batch := p.batch ++ [pick], rows := p.rows + rows, free := p.free - need }
    else if x.state = .active then { p with paused := p.paused ++ [q] }
    else p

/-- Preemption (R408): ACTIVE sequences selected below the blocked one are paused, lowest first, until F and the holds
that their spills will free reach what it wants. -/
def State.preempt (s : State) (i : Nat) (rank want : Nat) : List Pick → Nat → Pass → Pass
  | [], _, p => p
  | c :: r, freed, p =>
    if want ≤ p.free + freed then p
    else if !c.was || decide (c.rank < rank) then s.preempt i rank want r freed p
    else s.preempt i rank want r (freed + s.holdOf i c.slot)
      { p with batch := p.batch.filter (fun b => b.slot != c.slot), rows := p.rows - c.rows
               free := p.free + c.need, paused := p.paused ++ [c.slot] }

/-- Free frames for selection: a first stage's count is limited by the least plan announced (R499). -/
def State.selectFree (s : State) (i : Nat) : Nat :=
  let own := (s.planOf i).frames
  let least := ((s.insts.get i).plans.map (fun p => p.2.2.2)).foldl min own
  s.freeFrameCount i - (own - least)

/-- Selection of the next step (R407, R408). -/
def State.selectPass (s : State) (i : Nat) : Pass :=
  let maxBatch := ((s.img.insts.get i).map (fun x => x.inst.maxBatch)).getD 0
  let least := ((s.insts.get i).plans.map (fun p => p.2.2.1)).foldl min 4096
  let order := s.rankOrder i
  let p := order.zipIdx.foldl (fun (p : Pass) (x : Nat × Nat) => s.passOne i maxBatch least p x.2 x.1) { free := s.selectFree i }
  match p.blocked with
  | some (rank, want) => if s.farValid i then s.preempt i rank want p.batch.reverse 0 p else p
  | none => p

/-- A sequence pauses (R403, R408). -/
def State.pauseSeq (s : State) (i q : Nat) : State :=
  let s := s.updSeq i q (fun x => { x with state := .paused, since := s.time, spillRefused := false })
  let s := if s.egressIcpen i then s else (s.record i q 0x05 [] 0 true).updSeq i q (fun x => { x with recorded := false })
  let f := s.freeFrameCount i
  let s := (s.count Reg.SCH_PAUSES).logLimited 0x5903 i (fun n => [(1, i), (4, n), (4, f)])
  if s.farValid i then s.nameSpill i q else s

/-- Every sequence without a reserved entry takes one where its ring's queue has one free, and the rings count those
that have none (R420). -/
def State.takeEntries (s : State) (i : Nat) : State :=
  let s := (s.residents i).foldl (fun (s : State) q =>
    let x := s.seq i q
    if !x.entry && s.entryFree x.desc.ring then s.updSeq i q (fun y => { y with entry := true }) else s) s
  (List.range 4).foldl (fun (s : State) r =>
    let n := (s.seqs.cells.filter (fun c => !c.2.entry && c.2.state != .free && c.2.state != .retiring && c.2.desc.ring == r
      && !s.isDraft (c.1 / 4096))).length
    s.updRec r (fun x => { x with blocked := n })) s

/-! ### Actions 4 and 5, and the tables of the step (R345, R357, R363, R410, R411) -/

/-- Frames for the pages that a step may complete, lowest free first (R357 action 4; log entry 17): whether every page
got one. -/
def State.allocate (s : State) (i q l0 l : Nat) : State × Bool :=
  let pages := (List.range (l / 16 - l0 / 16)).map (· + l0 / 16)
  let fs := (s.freeFrameList i).take pages.length
  let s := (pages.zip fs).foldl (fun (s : State) (pg, f) =>
    let s := s.writePte i q pg (2 ^ 30 + f)
    { s with kvPools := s.kvPools.upd i (fun p => { p with
      used := p.used.put f (some (q, pg)), pre := p.pre ++ [(q, pg, f)] }) }) s
  (s, fs.length == pages.length)

/-- A sequence is admitted: its prefix is mapped and its parts start at its own base (R345, R363). -/
def State.admitSeq (s : State) (i q : Nat) : State :=
  let x := s.seq i q
  let s := s.partsAt i q x.b x.len
  match x.desc.pfx with
  | none => s
  | some k =>
    let s := (s.prefixes.get k).frames.zipIdx.foldl (fun (s : State) (fp : Nat × Nat) => s.writePte i q fp.2 (2 ^ 31 + fp.1)) s
    { s with prefixes := s.prefixes.upd k (fun p => { p with refs := p.refs + 1 }) }

/-- The sequence state the pedestals hold for a slot while the entries `ents` run (R345). -/
def State.kvSeqFor (s : State) (i : Nat) (ents : List StepEnt) (q : Nat) : KvSeq :=
  let x := s.seq i q
  let ent := ents.find? (fun e => e.slot == q)
  let l := match ent with
    | some e => x.len + e.rows
    | none => x.len
  let firm := match ent with
    | some e => if e.kind = 2 then x.len + 1 else x.len + e.rows
    | none => x.len
  let st : KvState := match x.state with
    | .active => .active
    | .paused => .paused
    | .spilling => .paused
    | .spilled => .spilled
    | .restoring => .spilled
    | _ => .free
  { state := st, pfx := if st = .free then 0xF else (x.desc.pfx.getD 0xF), p := x.p, b := x.b, l0 := x.len, l := l, firm := firm }

/-- The sequence fields of Table 12-4 for every slot of an instance (R357 action 5). -/
def State.writeKvSeqs (s : State) (i : Nat) (ents : List StepEnt) : State :=
  (s.slotsOf i).foldl (fun (s : State) q => { s with kvSeqs := s.kvSeqs.put (seqKey i q) (s.kvSeqFor i ents q) }) s

/-- Deal sequences to micro-batches: each to the one with the fewest rows so far, the lower number on ties (R410). -/
def dealMicro (n : Nat) : List Pick → List Nat → List (Pick × Nat)
  | [], _ => []
  | p :: r, loads =>
    let m := ((List.range n).foldl (fun (b : Nat) k => if (loads[k]?).getD 0 < (loads[b]?).getD 0 then k else b) 0)
    (p, m) :: dealMicro n r (loads.modify m (· + p.rows))

/-- Entries of a sub-batch, by micro-batch and then rank (R411). -/
def subEntries (n sub : Nat) (len : Nat → Nat) (ps : List Pick) : List StepEnt :=
  let dealt := dealMicro n ps (List.replicate n 0)
  (List.range n).flatMap (fun m => (dealt.filter (fun d => d.2 == m)).map (fun d =>
    { slot := d.1.slot, kind := d.1.kind, sub := sub, mb := m, k := d.1.k, l0 := len d.1.slot, rows := d.1.rows }))

/-- Number the rows through the block (R411). -/
def numberRows : Nat → List StepEnt → List StepEnt
  | _, [] => []
  | r, e :: t => { e with row := r } :: numberRows (r + e.rows) t

/-- The rows of an entry of a main instance's step (Table 14-9, R412). -/
def State.entRows (s : State) (i e : Nat) (ent : StepEnt) : List StepRow :=
  let x := s.seq i ent.slot
  let final := x.desc.promptLen ≤ x.promptDone + ent.rows
  (List.range ent.rows).map (fun t =>
    let tok := match ent.kind with
      | 1 => (match x.chunk with
        | .ready ts => (ts[t]?).getD 0
        | _ => 0)
      | _ => if t = 0 then x.lastToken else ((x.drafts[t - 1]?).map (·.token)).getD 0
    { token := tok, pos := ent.l0 + t, entry := e
      sample := if ent.kind = 1 then final && t + 1 == ent.rows else true
      firm := ent.kind != 2 || t == 0, j := if ent.kind = 2 then t else 0 })

/-- The tables of a main instance's step are laid out from its entries. -/
def State.layStep (s : State) (i : Nat) (ents : List StepEnt) : State :=
  let ents := numberRows 0 ents
  let rows := ents.zipIdx.flatMap (fun p => s.entRows i p.2 p.1)
  (s.updInst i (fun x => { x with ents := ents, rows := rows })).writeKvSeqs i ents

/-- Prepare a picked sequence for its step: frames, admission, state. -/
def State.takePick (s : State) (i : Nat) (p : Pick) : State :=
  let q := p.slot
  let x := s.seq i q
  let s := if x.state = .spilling then s.spillCancel i q else s
  let s := s.updSeq i q (fun y => { y with state := .active, inStep := true, recorded := false, due := none, k := p.k
                                           since := s.time, drafts := [], rows := {}, out := [], acc := 0, nan := false })
  let s := if x.state = .waiting then
      let s := s.updInst i (fun r => { r with admitted := r.admitted ++ [q] })
      let s := s.admitSeq i q
      match x.draftSlot, s.draftOf i with
      | some dq, some d =>
        (s.updSeq d dq (fun y => { y with state := .active })).partsAt d dq x.b x.b
      | _, _ => s
    else s
  let (s, ok) := s.allocate i q x.len (x.len + p.rows)
  if ok then s else s.updInst i (fun r => { r with short := r.short ++ [q] })

/-! ### Draft steps (R414, R445) -/

/-- The draft rows of draft step j of a sequence: tokens, their first position, and whether the last row proposes. The
first draft step carries every committed token that the draft does not hold, at most 256 of them. -/
def State.draftTokens (s : State) (i d q dq j : Nat) : List Nat × Nat × Bool :=
  let x := s.seq i q
  let held := (s.seq d dq).len
  if j = 1 then
    let ts := x.draftLag ++ [x.lastToken]
    (ts.take 256, held, decide (ts.length ≤ 256))
  else if x.drafts.length + 1 = j then ([((x.drafts.getLast?).map (·.token)).getD 0], held, true)
  else ([], held, false)

/-- One sequence's tokens of draft step j: their frames are given, and it joins the picks (R412, R413). -/
def State.pickDraft (s : State) (i d j : Nat) (e : StepEnt) (ps : List (Pick × List Nat × Nat × Bool)) :
    State × List (Pick × List Nat × Nat × Bool) :=
  match (s.seq i e.slot).draftSlot with
  | none => (s, ps)
  | some dq =>
    let (ts, pos, prop) := s.draftTokens i d e.slot dq j
    let n := needOf pos ts.length
    if ts.isEmpty ∨ s.freeFrameCount d < n ∨ (ps.map (fun p => p.1.rows)).sum + ts.length > 4096 then (s, ps)
    else ((s.allocate d dq pos (pos + ts.length)).1, ps ++ [({ slot := dq, kind := 0, rows := ts.length }, ts, pos, prop)])

/-- Lay out draft step j of a main instance's step: none where no sequence takes part. -/
def State.layDraft (s : State) (i d j : Nat) : State × Bool :=
  let main := (s.insts.get i).ents.filter (fun e => e.kind == 2 && decide (j ≤ e.k))
  let got := main.foldl (fun (acc : State × List (Pick × List Nat × Nat × Bool)) e => acc.1.pickDraft i d j e acc.2) (s, [])
  let s := got.1
  let picks := got.2
  if picks.isEmpty then (s, false) else
  let mb := ((s.img.insts.get d).map (fun x => max 1 x.inst.microBatches)).getD 1
  let ents := numberRows 0 (subEntries mb 0 (fun q => (s.seq d q).len) (picks.map (·.1)))
  let rows := ents.zipIdx.flatMap (fun (p : StepEnt × Nat) =>
    match picks.find? (fun k => k.1.slot == p.1.slot) with
    | none => []
    | some (_, ts, pos, prop) => ts.zipIdx.map (fun (t : Nat × Nat) =>
      ({ token := t.1, pos := pos + t.2, entry := p.2, sample := prop && t.2 + 1 == ts.length, firm := j == 1, j := 0 } : StepRow)))
  let s := s.updInst d (fun x => { x with ents := ents, rows := rows, draftStep := j, state := 2
                                          stepSets := [(s.winsts.get d).current] })
  let s := ents.foldl (fun (s : State) e =>
    let l := (s.seq d e.slot).len + e.rows
    let s := { s with kvSeqs := s.kvSeqs.upd (seqKey d e.slot) (fun k => { k with
      state := .active, pfx := 0xF, p := 0, b := (s.seq d e.slot).b, l0 := (s.seq d e.slot).len, l := l
      firm := if j = 1 then l else k.firm }) }
    s.updSeq d e.slot (fun y => { y with inStep := true, recorded := false, rows := {}, len := l, state := .active })) s
  (s, true)

/-- The draft steps are over: verify lengths become the numbers of proposals made, and the main step's tables are laid out
again (R414, R445). -/
def State.endDrafts (s : State) (i d : Nat) : State :=
  let s := s.updInst d (fun x => { x with draftStep := 0, state := if x.state = 3 then 3 else 0, ents := [], rows := [] })
  let ents := (s.insts.get i).ents.map (fun e =>
    if e.kind ≠ 2 then e else
    let k := min e.k (s.seq i e.slot).drafts.length
    { e with k := k, kind := if k = 0 then 0 else 2, rows := 1 + k })
  s.layStep i ents

/-- The next draft step, or the main step's tables when there is none. -/
def State.nextDraftStep (s : State) (i d j : Nat) : State :=
  let most := ((s.insts.get i).ents.map (fun e => if e.kind = 2 then e.k else 0)).foldl max 0
  if most < j then s.endDrafts i d
  else match s.layDraft i d j with
    | (s, true) => s
    | (s, false) => s.endDrafts i d

/-- The instance can begin a step (R421). -/
def State.canBegin (s : State) (i : Nat) : Bool :=
  let w := s.winsts.get i
  bit (s.regN Reg.SCH_CTL) 0 && !s.pwr.shutting && s.hasInst i && (s.insts.get i).state != 3 && (w.setOf w.current).isSome &&
    !s.wloads.any (fun l => l.inst == i && l.cause == 3 && l.space.isSome)

/-- Start the draft steps of a selected main step, where it has verify rows and the draft instance can run. -/
def State.beginDrafts (s : State) (i : Nat) : State :=
  if !(s.insts.get i).ents.any (fun e => e.kind == 2) then s else
  match s.draftOf i with
  | some d => if s.canBegin d then s.nextDraftStep i d 1 else s.endDrafts i d
  | none => s

/-! ### Pipeline stages (R499, R500) -/

/-- Bytes of a sub-batch entry (Table 14-7). -/
def State.subBytes (s : State) (i sub slot : Nat) (ents : List StepEnt) : List Byte :=
  let es := ents.zipIdx.filter (fun p => p.1.sub == sub)
  let q := (((s.winsts.get i).setOf slot).map (·.space)).getD 0
  let sh := ((s.winsts.get i).shape).getD {}
  let m := s.planOf i
  let aw := (m.bases ((m.stackList.head?).getD 0)).w
  let first := ((es.head?).map (·.2)).getD 0
  let row := ((es.head?).map (·.1.row)).getD 0
  let rows := fun (l : List (StepEnt × Nat)) => (l.map (·.1.rows)).sum
  leBytes 1 q ++ leBytes 1 slot ++ leBytes 2 first ++ leBytes 2 es.length ++ leBytes 2 row ++ leBytes 2 (rows es) ++ leBytes 6 0 ++
    leBytes 8 (aw + q * sh.s) ++ leBytes 8 (q * sh.f) ++
    (List.range 8).flatMap (fun mb =>
      let l := es.filter (fun p => p.1.mb == mb)
      if l.isEmpty then leBytes 4 0 else leBytes 2 (((l.head?).map (·.1.row)).getD 0) ++ leBytes 2 (rows l))

/-- Bytes of a sequence entry (Table 14-8). -/
def State.entBytes (s : State) (i : Nat) (e : StepEnt) : List Byte :=
  let x := s.seq i e.slot
  leBytes 2 (fld e.slot 0 12 + fld e.kind 12 2 + fld e.sub 14 1) ++ leBytes 2 (fld e.row 0 12 + fld (if e.kind = 2 then e.k else 0) 12 4) ++
    leBytes 4 (fld e.l0 0 19 + fld e.rows 19 9 + fld e.mb 28 3) ++ leBytes 2 x.p ++ leBytes 2 x.b

/-- Bytes of a row entry (Table 14-9). -/
def StepRow.bytes (r : StepRow) : List Byte :=
  leBytes 8 (fld r.token 0 18 + fld r.pos 18 19 + fld r.entry 37 11 + fld (b2n r.sample) 48 1 + fld (b2n r.firm) 49 1 + fld r.j 50 4)

/-- The pieces of the step parameter block, by offset (Table 14-6); what no piece covers is zero. -/
def State.paramBlock (s : State) (i : Nat) : List (Nat × List Byte) :=
  let run := s.insts.get i
  let mb := ((s.img.insts.get i).map (fun x => max 1 x.inst.microBatches)).getD 1
  let subs := max 1 run.stepSets.length
  let head := leBytes 8 run.stepsSeal ++ leBytes 8 run.started ++ leBytes 1 i ++ leBytes 1 subs ++ leBytes 1 mb ++ [0] ++
    leBytes 2 run.ents.length ++ leBytes 2 run.rows.length
  [(0, head)] ++ run.stepSets.zipIdx.map (fun p => (0x40 + 0x40 * p.2, s.subBytes i p.2 p.1 run.ents)) ++
    run.ents.zipIdx.map (fun p => (0x100 + 12 * p.2, s.entBytes i p.1)) ++
    run.rows.zipIdx.map (fun p => (0x6100 + 8 * p.2, p.1.bytes))

/-- The block as bytes up to the last used row entry (Table 17-10). -/
def blockBytes (ps : List (Nat × List Byte)) (rows : Nat) : List Byte :=
  let m := ps.foldl (fun (m : Memory) (p : Nat × List Byte) => m.store p.1 p.2) {}
  m.bytes 0 (0x6100 + 8 * rows)

/-- The first stage sends STEP to its egress port before its cores begin (R499); a middle stage forwards what it
applied. -/
def State.sendStep (s : State) (i : Nat) : State :=
  match s.routeOf i with
  | some r =>
    if !r.egressIcpen then s else
    let run := s.insts.get i
    let ds := run.admitted.flatMap (fun q => ((s.seq i q).raw ++ List.replicate 128 0).take 128 ++ (s.seq i q).list.flatMap (leBytes 4))
    let bs := blockBytes (s.paramBlock i) run.rows.length ++ ds
    s.icpMessage r.egressPort 0xFF01 0 3 bs.length bs none
  | none => s

/-- The last stage sends RESULT upstream after each boundary (R500). -/
def State.sendResult (s : State) (i : Nat) : State :=
  match s.routeOf i with
  | some r =>
    let rs := (s.insts.get i).resultOut
    if !r.ingressIcpen || rs.isEmpty then s else
    let bs := rs.flatMap (fun (q, l, t, st, last) => leBytes 2 q ++ leBytes 4 l ++ leBytes 4 t ++ leBytes 1 st ++ leBytes 1 (b2n last))
    (s.icpMessage r.ingressPort 0xFF02 0 3 bs.length bs none).updInst i (fun x => { x with resultOut := [] })
  | none => s

/-- A stage reports the slots for which it lacked frames (R500). -/
def State.sendShort (s : State) (i : Nat) : State :=
  match s.routeOf i with
  | some r =>
    let qs := (s.insts.get i).short
    let s := s.updInst i (fun x => { x with short := [] })
    if !r.ingressIcpen || qs.isEmpty then s else
    let bs := qs.flatMap (leBytes 2)
    (s.icpMessage r.ingressPort 0xFF03 0 3 bs.length bs none).logEvent 0x4B08 [(1, i), (1, r.ingressPort), (2, qs.length)]
  | none => s

/-- The entries of a parameter block's bytes (Tables 14-6, 14-8). -/
def parseEnts (bs : List Byte) : List StepEnt :=
  (List.range (leField bs 0x14 2)).map (fun k =>
    let f := fun (o n : Nat) => leField bs (0x100 + 12 * k + o) n
    let a := f 0 2
    let b := f 2 2
    let c := f 4 4
    { slot := bits a 11 0, kind := bits a 13 12, sub := bits a 14 14, mb := bits c 30 28, k := bits b 15 12
      l0 := bits c 18 0, row := bits b 11 0, rows := bits c 27 19 })

/-- The rows of a parameter block's bytes (Table 14-9). -/
def parseRows (bs : List Byte) : List StepRow :=
  (List.range (leField bs 0x16 2)).map (fun k =>
    let w := leField bs (0x6100 + 8 * k) 8
    { token := bits w 17 0, pos := bits w 36 18, entry := bits w 47 37, sample := bit w 48, firm := bit w 49, j := bits w 53 50 })

/-- A sequence that a STEP admits takes its slot (R499). The last stage checks its sampling block against its own grammar
slots, and reports a failure in RESULT with the record it writes. -/
def State.stageAdmit (s : State) (i q : Nat) (desc : List Byte) (list : List Nat) (ent : Option StepEnt) : State :=
  let d := { parseDesc desc 0 with inst := i, draft := false }
  let b := ((ent.map (·.l0))).getD 0
  let x : Seq := { state := .active, raw := desc, desc := d, list := list, accepted := s.time, since := s.time
                   p := if d.pfx.isSome then (s.pfxLen d) else 0, b := b, len := b, entry := true, gState := d.startState
                   wslot := (s.winsts.get i).current }
  let s := { s with seqs := s.seqs.put (seqKey i q) x }
  let s := s.admitSeq i q
  if s.egressIcpen i then s
  else if samplingOk desc && (d.mask != 3 || s.grammarOk d (s.vocabOf i)) then
    if d.mask = 3 then
      ({ s with grammars := s.grammars.upd d.grammar (fun g => { g with refs := g.refs + 1 }) } : State).grmFetch d.grammar d.startState
    else s
  else
    let s := (s.updSeq i q (fun y => { y with desc := { y.desc with mask := 0 } })).record i q 0x0C [] 0 false
    (s.updSeq i q (fun y => { y with state := .retiring, due := none })).updInst i (fun r => { r with
      resultOut := r.resultOut ++ [(q, b, 0, 0x0C, true)] })

/-- A middle or last stage applies the oldest STEP it holds (R418, R499). -/
def State.applyStep (s : State) (i : Nat) : State :=
  match (s.insts.get i).stepIn with
  | [] => s
  | (block, descs) :: r =>
    let ents := parseEnts block
    let rows := parseRows block
    let s := s.updInst i (fun x => { x with stepIn := r, admitted := descs.map (·.1) })
    let s := descs.foldl (fun (s : State) (d : Nat × List Byte × List Nat) =>
      s.stageAdmit i d.1 d.2.1 d.2.2 (ents.find? (fun e => e.slot == d.1))) s
    let s := ents.foldl (fun (s : State) e =>
      if (s.seq i e.slot).state = .retiring then s else
      let s := s.updSeq i e.slot (fun y => { y with state := .active, inStep := true, recorded := false, due := none, len := e.l0
                                                    rows := {}, drafts := [], out := [], acc := 0, nan := false })
      let (s, ok) := s.allocate i e.slot e.l0 (e.l0 + e.rows)
      if ok then s else s.updInst i (fun x => { x with short := x.short ++ [e.slot] })) s
    let sets := [(s.winsts.get i).current]
    let s := (s.updInst i (fun x => { x with ents := ents, rows := rows, state := 2, stepSets := sets })).writeKvSeqs i ents
    s.sendShort i

/-! ### STEP_BOUNDARY -/

/-- Select the next step, and take it up to the governor's grant (R407–R414, R357 actions 4 and 5). -/
def State.selectStep (s : State) (i : Nat) : State :=
  let s := s.takeEntries i
  let eff := (s.residents i).map (fun q => (q, s.effective (s.seq i q)))
  let s := eff.foldl (fun (s : State) (q, e) => s.updSeq i q (fun x => { x with effective := e })) s
  let p := s.selectPass i
  let s := p.paused.foldl (fun (s : State) q => s.pauseSeq i q) s
  let chosen := p.batch.map (·.slot)
  let s := (s.residents i).foldl (fun (s : State) q =>
    let x := s.seq i q
    if x.state = .paused ∧ !chosen.contains q ∧ s.farValid i ∧ !x.spillRefused ∧ !p.paused.contains q then s.nameSpill i q else s) s
  let s := p.restore.foldl (fun (s : State) q => s.nameRestore i q) s
  let s := s.updInst i (fun x => { x with admitted := [], short := [] })
  let s := p.batch.foldl (fun (s : State) k => s.takePick i k) s
  if p.batch.isEmpty then (s.writeKvSeqs i []).updInst i (fun x => { x with state := 0 })
  else
    let w := s.winsts.get i
    let draining := fun (k : Pick) => w.draining == some (s.seq i k.slot).wslot
    let mb := ((s.img.insts.get i).map (fun x => max 1 x.inst.microBatches)).getD 1
    let len := fun q => (s.seq i q).len
    let a := p.batch.filter draining
    let b := p.batch.filter (fun k => !draining k)
    let sets : List Nat := (if a.isEmpty then [] else w.draining.toList) ++ (if b.isEmpty then [] else [w.current])
    let ents := subEntries mb 0 len a ++ subEntries mb (if a.isEmpty then 0 else 1) len b
    let s := s.updInst i (fun x => { x with state := 2, stepSets := sets })
    (s.layStep i ents).beginDrafts i

/-- The step that has ended is committed, and what retired with it leaves (R357, R404). -/
def State.boundaryCommit (s : State) (i : Nat) : State :=
  let ended := (s.insts.get i).ended
  let s := if ended then s.commitStep i else s
  let s := if s.egressIcpen i then s.commitResults i else s
  let s := s.retireAtBoundary i
  let s := if ended then s.sendDigest i else s
  if ended then { s with seqs := s.seqs.mapVals (fun k x =>
    if k / 4096 = i ∧ x.state ≠ .retiring then { x with recorded := false } else x) } else s

/-- Slots and frames that a retired, spilled or evicted sequence held become free (R357). -/
def State.boundaryFree (s : State) (i : Nat) : State :=
  let s := (s.freeRetiring i).settleFar i
  let s := match s.draftOf i with
    | some d => (s.freeRetiring d).freePre d
    | none => s
  (s.freeSpilled i).freePre i

/-- What other units do at a boundary: restores, weight sets, formats, tests, prefixes and grammars. -/
def State.boundaryUnits (s : State) (i : Nat) : State :=
  let s := (s.retryRestores i).weightBoundary i
  let s := ((s.fmtBoundary i).testsBoundary i).dropBuffers i
  let s := (s.pfxBoundary i).grmBoundary
  { s with emptyMarks := s.emptyMarks.keep (fun k _ => k / 4096 != i) }

/-- Sequences that a SHORT has named pause (R500). -/
def State.boundaryShort (s : State) (i : Nat) : State :=
  let shorts := (s.insts.get i).shortIn
  let s := s.updInst i (fun x => { x with shortIn := [] })
  shorts.foldl (fun (s : State) q => if (s.seq i q).state = .active then s.pauseSeq i q else s) s

/-- A planned shutdown waits for this boundary (R550). -/
def State.boundaryShutdown (s : State) (i : Nat) : State :=
  if s.pwr.shutting then
    let s : State := { s with pwr := { s.pwr with runOn := s.pwr.runOn.filter (fun j => j != i) } }
    s.shutdownEvict i
  else s

/-- What a boundary does to an instance that has no step in progress, or whose step has ended (R357, R636). -/
def State.boundary (s : State) (i : Nat) : State :=
  let s := ((s.boundaryCommit i).boundaryFree i).boundaryUnits i
  let s := ((s.sendResult i).boundaryShort i).boundaryShutdown i
  if !s.canBegin i ∨ s.isDraft i then s.writeKvSeqs i []
  else if s.ingressIcpen i then s.applyStep i
  else s.selectStep i

/-- STEP_BOUNDARY: the boundary of a step that has ended, of a draft step (R414), or of an instance that has no step in
progress (R636). -/
def execStepBoundary (inst : Nat) (s : State) : Out' :=
  .next (
    let run := s.insts.get inst
    if !s.hasInst inst then s
    else if s.isDraft inst ∧ run.draftStep ≠ 0 then
      if !run.ended then s else
      let i := s.mainOf inst
      let s := (s.count64 (Reg.SCH_STEPS inst)).updInst inst (fun x => { x with
        lastNs := min (s.time - x.started) (2 ^ 32 - 1), ended := false, closed := {}, state := 0 })
      let s := ((s.sendDigest inst).weightBoundary inst).dropBuffers inst
      s.nextDraftStep i inst (run.draftStep + 1)
    else if run.state = 1 ∧ !run.ended then s
    else if run.state = 2 then s
    else s.boundary inst)

/-! ### STEP_START (R411) -/

/-- The block is written into every cluster that holds a core of the instance, EVC(0) of its cores counts, and the next
chunks are read. -/
def State.beginStep (s : State) (i : Nat) : State :=
  let run := s.insts.get i
  let most := (run.ents.map (fun e => if e.kind = 2 then e.k else 0)).foldl max 0
  let s := s.updInst i (fun x => { x with
    state := 1, stepsSeal := x.stepsSeal + 1, started := s.time, paramOff := 0x224000, closed := {}, ended := false
    draftMax := if s.isDraft i then x.draftMax else most, subBatches := x.stepSets.length, lastSeqs := x.ents.length })
  let s := { s with smpRows := s.smpRows.keep (fun k _ => k / 4096 != i) }
  let block := s.paramBlock i
  let cores := s.coresOf i
  let clusters := (cores.map s.clusterOf).eraseDups
  let s := clusters.foldl (fun (s : State) c =>
    let x := s.clusters.get c
    let m := block.foldl (fun (m : Memory) (p : Nat × List Byte) => m.store (0x224000 + p.1) p.2) (x.mem.clear 0x224000 0xE100)
    { s with clusters := s.clusters.put c { x with mem := m } }) s
  let s := s.sendStep i
  let s := cores.foldl (fun (s : State) n => s.addEvc n 0 1) s
  run.ents.foldl (fun (s : State) e =>
    let x := s.seq i e.slot
    if e.kind ≠ 1 ∨ s.ingressIcpen i then s else
    let y := { x with promptDone := x.promptDone + e.rows }
    let n := s.chunkLen i y
    if n = 0 then s.updSeq i e.slot (fun z => { z with chunk := .none })
    else (s.updSeq i e.slot (fun z => { z with chunk := .fetching })).emit
      (.hostRead x.desc.port (x.desc.promptAddr + 4 * y.promptDone) (4 * n))) s

/-- The step parameter tables are ready: a draft instance that has stalled proposes nothing more, and otherwise the draft
steps must be over (R414, R422). -/
def State.draftsOver (s : State) (i : Nat) : Option State :=
  match s.draftOf i with
  | some d =>
    let x := s.insts.get d
    if x.draftStep = 0 then some s else if x.state = 3 then some (s.endDrafts i d) else none
  | none => some s

/-- STEP_START: the governor grants the start of a selected step, delayed or not (R548). A main step begins when its last
draft step has ended (R414), and only while the instance may begin one (R421). -/
def execStepStart (inst : Nat) (delayed : Bool) (s : State) : Out' :=
  .next (
    let run := s.insts.get inst
    if run.state != 2 || run.ents.isEmpty || !s.canBegin inst then s else
    match s.draftsOver inst with
    | none => s
    | some s =>
      let s := if delayed && !bit (s.regN Reg.PWR_CTL) 1 then s.count Reg.PWR_DELAYS else s
      (s.beginStep inst).injSource 2)

end Sys2Proof.Machine
end

