-- ==== Sys2Proof/Machine/Caps.lean ====
section
/-!
DEFINITION. The DEV block (01, R27, Tables 1-6 to 1-12): what the part's fuses say of it.
-/
namespace Sys2Proof.Machine
open Sys2Proof

/-- DEV_ID (Table 1-6). -/
def Fuses.devId (f : Fuses) : Nat :=
  fld 3 24 8 + fld f.grade 16 8 + fld (if f.reduced then 2 else 1) 8 8 + (if f.stepB0 then 2 else 1)

/-- DEV_CAP0: unit presence (Table 1-7). -/
def Fuses.cap0 (f : Fuses) : Nat :=
  fld (2 ^ f.hostPorts - 1) 28 2 + fld (2 ^ f.icpenPorts - 1) 16 12 + fld (2 ^ f.stackN - 1) 8 8 +
    fld (b2n (!f.reduced)) 3 1 + fld (b2n (!f.reduced)) 2 1

/-- DEV_CAP1: serving resources (Table 1-8). -/
def Fuses.cap1 (f : Fuses) : Nat := fld (if f.reduced then 0 else 8) 24 8 + fld 8 16 8 + fld (if f.reduced then 0 else 64) 8 8 + 4

/-- DEV_CAP2: core and step limits (Table 1-9). -/
def Fuses.cap2 (f : Fuses) : Nat := fld f.grade 16 16 + fld 8 8 8 + 16

/-- DEV_CAP0 to DEV_CAP6. -/
def Fuses.cap (f : Fuses) : Nat → Nat
  | 0 => f.cap0
  | 1 => f.cap1
  | 2 => f.cap2
  | 3 => fld 4096 16 16 + 2048
  | 4 => 0x40000
  | 5 => 0x40000
  | 6 => if f.reduced then 240 else 320
  | _ => 0

/-- DEV_CLUSTER_MAP(c) (Table 1-12). -/
def Fuses.clusterMap (f : Fuses) (c : Nat) : Nat :=
  let n := (f.clusterCount[c]?).getD 0
  if n = 0 then 0 else fld (f.clusterCount.take c).sum 8 8 + fld n 0 4

end Sys2Proof.Machine
end

