-- ==== Sys2Proof/Machine/Links.lean ====
section
/-!
DEFINITION. The Icpen ports (17, R479–R500): flits and replay, lane drops, discovery and training, HELLO frames and time
synchronisation, authentication, adoption, data and pipeline messages.
-/
namespace Sys2Proof.Machine
open Sys2Proof

/-- A hash as its 48 bytes: the first is the most significant (R489). -/
def hashBytes (h : BitVec 384) : List Byte := (leBytes 48 h.toNat).reverse

def hashOf (bs : List Byte) : BitVec 384 := BitVec.ofNat 384 (leNat (bs.take 48).reverse)

/-- The sealed PORTROLE entry of a port. -/
def State.portRole (s : State) (n : Nat) : PortRole := s.img.ports.get n

/-- The link has trained: HELLO to DEGRADED. -/
def IcpPort.trained (p : IcpPort) : Bool :=
  match p.state with
  | .dark => false
  | .training => false
  | _ => true

/-! ### Time synchronisation (R496–R498) -/

/-- The lowest hash among the group peers, with its port. -/
def State.lowestPeer (s : State) : Option (Nat × BitVec 384) :=
  let ps := (List.range 12).filter (fun n => (s.icp n).up && (s.portRole n).role == 1)
  ps.foldl (fun (acc : Option (Nat × BitVec 384)) n =>
    let h := (s.icp n).peerHash
    match acc with
    | none => some (n, h)
    | some (_, b) => if h.toNat < b.toNat then some (n, h) else acc) none

/-- The time source that the links give: a port, or none for a leader. -/
def State.sourceNow (s : State) : Option Nat :=
  match s.lowestPeer with
  | some (n, h) => if h.toNat < s.fuses.idHash.toNat then some n else none
  | none => none

/-- Entry data of a signed offset of ICP_SYNC_STAT. -/
def offsetField (o : Int) : Nat := unsigned 16 (clampInt (-32767) 32767 o)

/-- The source follows the links; a change is logged, and losing every source unlocks (R496, R498). -/
def State.resync (s : State) : State :=
  let old := s.sync.source
  match s.sourceNow with
  | some n =>
    let hops := min 7 ((s.icp n).hops + 1)
    let s := { s with sync := { s.sync with leader := false, source := n, hops := hops } }
    if old = n then s else
    ({ s with sync := { s.sync with inside := 0, outside := 0 } } : State).logEvent 0x1B03 [(1, n), (1, hops)]
  | none =>
    if old = 0xF then s else
    let o := s.sync.offset
    let s := { s with sync := { s.sync with leader := true, source := 0xF, hops := 0, locked := false, inside := 0, outside := 0 } }
    (s.logEvent 0x1B03 [(1, 0xF), (1, 0)]).logEvent 0x4B04 [(2, offsetField o), (1, old)]

/-- Bounds of locking and unlocking, ns, by link revision (R498). -/
def lockBounds (rev : Nat) : Nat × Nat := if rev = 3 then (20, 40) else if rev = 2 then (40, 80) else (100, 200)

/-- ICP_DELAY_ADJ(n), in 1/16 ns (R497). -/
def State.delayAdj (s : State) (n : Nat) : Int := signed 16 (s.regF (Reg.ICP_DELAY_ADJ n) 15 0)

/-- A follower takes an offset against its source (R497, R498). -/
def State.takeOffset (s : State) (n t1 t3 t4 : Nat) : State :=
  let o : Int := (8 * (((s.time : Int) - t1) - ((t4 : Int) - t3)) - s.delayAdj n) / 16
  let (lo, hi) := lockBounds (s.icp n).rev
  let y := s.sync
  let ins := if o.natAbs ≤ lo then y.inside + 1 else 0
  let outs := if hi < o.natAbs then y.outside + 1 else 0
  let drop := y.locked && decide (8 ≤ outs)
  let s := { s with
    sync := { y with offset := o, inside := ins, outside := outs, locked := (y.locked || decide (8 ≤ ins)) && !drop }
    time := if o < -10000 then s.time + o.natAbs else s.time }
  if drop then s.logEvent 0x4B04 [(2, offsetField o), (1, n)] else s

/-! ### Taking a link down (R487) -/

/-- The reads of MOVEs that await a message on a port. -/
def State.icpWaits (s : State) (n : Nat) : List Nat :=
  (s.msgs.filter (fun m => m.waits && match m.body with
    | .read c id => (match s.flight c id with
        | some f => (match s.xferEnds c f with
            | some (_, a) => rSpace a == 4 && bits a 59 56 == n
            | none => false)
        | none => false)
    | _ => false)).map (·.id)

/-- The link is taken down: what was queued on the port is discarded and the MOVEs that use it fail. The port offers its
own max_rev again. -/
def State.icpDown (s : State) (n : Nat) (dest : IcpState) : State :=
  let s := s.icpDiscard n (s.icpWaits n)
  let s := { s with icpIn := s.icpIn.keep (fun k _ => k / 2 ^ 16 != n) }
  let offer := (s.portRole n).maxRev
  let s := s.updIcp n (fun p => { p with
    state := dest, rev := 0, lanes := 0, encrypted := false, routesBad := false, offer := offer, fails := 0, attempt := false
    hold := false, held := 0, ownShare := [], peerShare := [], peerCert := [], ownHello := [], peerHello := []
    signed := false, ownResult := none, peerResult := none, lastTx := 0, lastRx := 0, switchTx := none, switchRx := none })
  let s := { s with insts := s.insts.mapVals (fun i x => match s.routeOf i with
    | some r => if r.egressIcpen ∧ r.egressPort = n then { x with plans := [] } else x
    | none => x) }
  s.resync

/-- The port loses its link: cause 0 silence, 1 last lane, 2 replay limit. -/
def State.linkLost (s : State) (n cause : Nat) : State :=
  ((s.count (Reg.ICP_LINK_LOST n)).logEvent 0x4B01 [(1, n), (1, cause)]).icpDown n .training

/-! ### Flits, acknowledgement and replay (R481–R483) -/

/-- Flits covered by an ack leave the replay buffer. -/
def ackFlits (ack next : Nat) (l : List (Nat × Nat)) : List (Nat × Nat) :=
  if ack = next then [] else if l.any (fun f => f.1 == ack) then l.dropWhile (fun f => f.1 != ack) else l

/-- Resend every unacknowledged flit; the port loses its link when one has been sent 17 times (R482). -/
def State.icpResend (s : State) (n : Nat) : State :=
  let l := (s.icp n).replay
  if l.isEmpty then s
  else if l.any (fun f => decide (17 ≤ f.2)) then s.linkLost n 2
  else
    let k := l.length
    let s := s.updIcp n (fun p => { p with replay := l.map (fun f => (f.1, f.2 + 1)) })
    (s.countBy (Reg.ICP_REPLAY n) k).logLimitedFor (10 ^ 9) 0x2B01 n k (fun c => [(1, n), (4, c)])

/-- A flit is discarded or comes out of order: nak is set in the next flit, once per gap (R481). -/
def IcpPort.miss (p : IcpPort) : IcpPort := if p.gap then p else { p with nak := true, gap := true }

/-- ICPEN_FLIT (R480, R481): type 0 IDLE, 1 DATA, 2 FRAME; `corrected` symbols and `uncorrectable` codewords came with it. -/
def execIcpenFlit (n : Nat) (good nak : Bool) (type seq ack credit corrected uncorrectable : Nat) (s : State) : Out' :=
  .next (
    if !(s.icp n).trained then s else
    let s := (s.count64By (Reg.ICP_FEC_CORR n) corrected).countBy (Reg.ICP_FEC_UNCORR n) uncorrectable
    if !good ∨ 2 < type then (s.count (Reg.ICP_CRC_ERR n)).updIcp n IcpPort.miss
    else
      let p := s.icp n
      let s := s.updIcp n (fun p => { p with replay := ackFlits ack p.txNext p.replay, credits := p.credits + credit })
      let s :=
        if type = 0 ∨ (type = 1 ∧ !p.up) then s
        else if seq = p.rxNext then
          let (c, sw) := keyAdvance p.keyRx 1 p.switchRx
          (s.count64 (Reg.ICP_RX_FLITS n)).updIcp n (fun p => { p with
            rxNext := (p.rxNext + 1) % 4096, gap := false, held := p.held + b2n (type == 1), keyRx := c, switchRx := sw })
        else s.updIcp n IcpPort.miss
      let s := if nak then s.icpResend n else s
      s.icpPump n)

/-- ICPEN_ACK_TIMEOUT: ack has not advanced for 4 µs (R482). -/
def execIcpenAckTimeout (n : Nat) (s : State) : Out' := .next (if (s.icp n).trained then s.icpResend n else s)

/-- LINK_SILENCE_TIMEOUT: no flit for 4 ms (R487). -/
def execLinkSilenceTimeout (n : Nat) (s : State) : Out' := .next (if (s.icp n).trained then s.linkLost n 0 else s)

/-! ### Lanes (R479) -/

/-- Both ends stop using a lane. -/
def State.dropLane (s : State) (n lane cause : Nat) : State :=
  let rest := (s.icp n).lanes - 2 ^ lane
  let s := (s.count (Reg.ICP_LANE_DROPS n)).logEvent 0x3B01 [(1, n), (1, lane), (1, cause)]
  if rest = 0 then s.linkLost n 1
  else s.updIcp n (fun p => { p with lanes := rest, state := if p.state = .active then .degraded else p.state })

/-- LANE_DROP: the receiver drops a failing lane: cause 0 lock, 1 symbol errors, 2 codewords. -/
def execLaneDrop (n lane cause : Nat) (s : State) : Out' :=
  .next (
    if !(s.icp n).trained ∨ !bit (s.icp n).lanes lane then s else
    let s := if (s.icp n).lanes = 2 ^ lane then s else s.icpFrame n .lanedrop [lane] 1
    s.dropLane n lane cause)

/-- LANEDROP: the peer has dropped a lane. Its cause does not travel with the frame: a free value. -/
def execLanedrop (n lane : Nat) (s : State) : Out' :=
  .next (if !(s.icp n).trained ∨ !bit (s.icp n).lanes lane then s else s.draw.dropLane n lane (Config.free s.freeCtr % 3))

/-! ### HELLO frames (R486) -/

/-- Features of HELLO byte 5. -/
def State.ownFeatures (s : State) (n : Nat) : Nat :=
  b2n (!s.fuses.reduced) + 2 * b2n ((s.portRole n).encrypt == 1) + 4 + 8 + 16

/-- Payload of an own HELLO frame (Table 17-5); a discovery burst's timestamps are 0 (R485). -/
def State.ownHello (s : State) (n : Nat) (burst : Bool) : List Byte :=
  let p := s.icp n
  let stamp := fun (v : Nat) => leBytes 8 (if burst then 0 else v)
  let lead := if s.sync.leader then s.fuses.idHash else (s.icp s.sync.source).leaderHash
  [1, 3, BitVec.ofNat 8 p.offer, BitVec.ofNat 8 (s.fuses.slotId % 8 + 16 * n), BitVec.ofNat 8 (s.portRole n).role,
    BitVec.ofNat 8 (s.ownFeatures n)] ++ leBytes 2 p.helloCount ++ hashBytes s.fuses.idHash ++ stamp s.time ++
    stamp p.lastTx ++ stamp p.lastRx ++ leBytes 1 (b2n s.sync.leader + 2 * s.sync.hops + 16 * b2n s.sync.locked) ++
    leBytes 7 0 ++ hashBytes lead ++ leBytes 104 0

/-- Send a HELLO frame. -/
def State.sendHello (s : State) (n : Nat) : State :=
  let bs := s.ownHello n false
  let s := s.updIcp n (fun p => { p with
    helloCount := (p.helloCount + 1) % 2 ^ 16, ownHello := if p.state = .hello then bs else p.ownHello })
  s.icpFrame n .hello (bs.map (·.toNat)) 1

/-- HELLO_TIMER: every 1 ms a trained port sends a HELLO frame. -/
def execHelloTimer (n : Nat) (s : State) : Out' := .next (if (s.icp n).trained then s.sendHello n else s)

/-- DISCOVERY_BURST: every 1 ms a port in TRAINING without a partner sends a burst (R485). -/
def execDiscoveryBurst (n : Nat) (s : State) : Out' :=
  .next (if (s.icp n).state = .training ∧ !(s.icp n).attempt ∧ !(s.icp n).hold then
    s.emit (.icpen n .discovery ((s.ownHello n true).map (·.toNat))) else s)

/-! ### Training (R485) -/

/-- TRAINING_PATTERN_DETECTED: the port begins to train. -/
def execTrainingPatternDetected (n : Nat) (s : State) : Out' :=
  .next (if (s.icp n).state = .training ∧ !(s.icp n).hold then s.updIcp n (fun p => { p with attempt := true }) else s)

/-- TRAINING_TIMEOUT: an attempt of 50 ms fails; after three the next lower revision is offered. -/
def execTrainingTimeout (n : Nat) (s : State) : Out' :=
  .next (if (s.icp n).state = .training ∧ (s.icp n).attempt then
    s.updIcp n (fun p =>
      if p.fails = 2 then { p with attempt := false, fails := 0, offer := max 1 (p.offer - 1) }
      else { p with attempt := false, fails := p.fails + 1 }) else s)

/-- TRAINING_COMPLETE: the link has trained at a revision on the lanes that locked. -/
def execTrainingComplete (n rev lanes : Nat) (s : State) : Out' :=
  .next (
    let p := s.icp n
    if p.state ≠ .training ∨ !p.attempt ∨ lanes % 16 = 0 ∨ rev = 0 ∨ p.offer < rev then s else
    let s := s.updIcp n (fun p => { p with
      state := .hello, attempt := false, fails := 0, rev := rev, lanes := lanes % 16, helloCount := 0, txNext := 0
      rxNext := 0, nak := false, gap := false, replay := [], waiting := [], credits := 0, freed := 0, held := 0 })
    s.sendHello n)

/-- HELLO_TIMEOUT: no peer HELLO within 10 ms (Table 17-7). -/
def execHelloTimeout (n : Nat) (s : State) : Out' :=
  .next (if (s.icp n).state = .hello then s.icpDown n .training else s)

/-! ### Authentication (R488, R491) -/

/-- SHA-384 of the transcript: A's frames and B's in turn, A the end of lower identity hash (R488). -/
def State.transcript (s : State) (n : Nat) : BitVec 384 :=
  let p := s.icp n
  let own := (p.ownHello, p.ownShare, 3 :: (List.replicate 7 0 ++ Config.deviceChain))
  let peer := (p.peerHello, p.peerShare, p.peerCert)
  let (a, b) := if s.fuses.idHash.toNat < p.peerHash.toNat then (own, peer) else (peer, own)
  Config.sha384 (a.1 ++ b.1 ++ a.2.1 ++ b.2.1 ++ a.2.2 ++ b.2.2)

/-- Random bytes: free values, one for each byte. -/
def State.randomBytes (s : State) (k : Nat) : List Byte :=
  (List.range k).map (fun j => BitVec.ofNat 8 (Config.free (s.freeCtr + j)))

/-- The own AUTH_SHARE payload: a fresh nonce and, at rev 3, a fresh key (Table 17-6). -/
def State.newShare (s : State) (n : Nat) : List Byte :=
  let k := if (s.icp n).rev = 3 then s.randomBytes 128 else s.randomBytes 32 ++ List.replicate 96 0
  2 :: (List.replicate 7 0 ++ k ++ List.replicate 104 0)

/-- Draw k free values. -/
def State.drawMany (s : State) (k : Nat) : State := { s with freeCtr := s.freeCtr + k }

/-- Start the exchange: AUTH_SHARE and AUTH_CERT. -/
def State.beginAuth (s : State) (n : Nat) (peerHello : List Byte) : State :=
  let share := s.newShare n
  let s := (s.drawMany 128).updIcp n (fun p => { p with
    state := .auth, peerHello := peerHello, ownShare := share, peerShare := [], peerCert := [], signed := false
    ownResult := none, peerResult := none })
  let s := s.icpFrame n .authShare (share.map (·.toNat)) 1
  s.icpFrame n .authCert (Config.deviceChain.map (·.toNat)) (max 1 (ceilDiv (8 + Config.deviceChain.length) 240))

/-- Sign the transcript once both ends' shares and chains are here. -/
def State.trySign (s : State) (n : Nat) : State :=
  let p := s.icp n
  if p.state ≠ .auth ∨ p.signed ∨ p.peerShare.isEmpty ∨ p.peerCert.isEmpty then s else
  let sig := Config.identitySign (s.transcript n)
  (s.updIcp n (fun p => { p with signed := true })).icpFrame n .authSig (sig.map (·.toNat)) 1

/-- The chain that AUTH_CERT carries, by its length field (R595). -/
def certChain (payload : List Byte) : List Byte := (payload.drop 8).take (leField payload 8 2)

/-- What the device answers to its peer's signature: 0, or the cause of refusal (R488, R491, R594). -/
def State.authVerdict (s : State) (n : Nat) (sig : List Byte) : Nat :=
  let p := s.icp n
  let mine := s.ownFeatures n
  if s.sec.identity = 2 then 3
  else match Config.chainLeaf (certChain p.peerCert) s.fuses.rootHash with
    | none => 3
    | some leaf =>
      if Config.sha384 leaf ≠ p.peerHash then 3
      else if !Config.ecdsaVerify leaf sig (s.transcript n) then 4
      else if p.rev = 3 ∧ (bit mine 1 ∨ bit p.peerFeatures 1) ∧ !(bit mine 0 && bit p.peerFeatures 0) then 5
      else 0

/-- An exchange is refused: the port is held for 1 s (Table 17-7). -/
def State.authFail (s : State) (n cause : Nat) : State :=
  let s := (s.count (Reg.ICP_AUTH_FAIL n)).logEvent 0x7B01 [(1, n), (1, cause)]
  (s.icpDown n .training).updIcp n (fun p => { p with cause := cause, hold := true })

/-- Stages announce their plans upstream (R499): the instances whose ingress is a port. -/
def State.sendPlan (s : State) (i : Nat) : State :=
  match s.img.insts.get i with
  | some x => match x.route with
    | some r =>
      if !r.ingressIcpen || !(s.icp r.ingressPort).up then s else
      let bs := leBytes 1 i ++ leBytes 2 x.inst.maxSeqs ++ leBytes 4 (s.planOf i).frames ++ leBytes 4 (s.planOf i).prefixFrames ++
        leBytes 1 3
      s.icpMessage r.ingressPort 0xFF00 0 3 bs.length bs none
    | none => s
  | none => s

/-- The port enters ACTIVE, or DEGRADED with fewer than four lanes (R487). -/
def State.icpEnter (s : State) (n : Nat) : State :=
  let p := s.icp n
  let k := popCount 4 p.lanes
  let enc := p.rev == 3 && (bit (s.ownFeatures n) 1 || bit p.peerFeatures 1)
  let s := s.updIcp n (fun p => { p with
    state := if k = 4 then .active else .degraded, credits := 4096, encrypted := enc, keyTx := 0, keyRx := 0, epoch := 0 })
  let s := s.logEvent 0x1B01 [(1, n), (1, p.rev), (1, k), (1, p.peerGen), (1, b2n enc)]
  let s := (s.checkRoutes n).resync
  (List.range 16).foldl (fun (s : State) i => match s.routeOf i with
    | some r => if r.ingressIcpen ∧ r.ingressPort = n then s.sendPlan i else s
    | none => s) s

/-- Adopt the peer: its hash is stored (R490). -/
def State.adoptPeer (s : State) (n cause : Nat) : State :=
  let h := (s.icp n).peerHash
  let s := (s.updIcp n (fun p => { p with adopted := h })).storeWrite (storeAdopted n) h.toNat
  (s.logEvent 0x1B02 [(4, h.toNat % 2 ^ 32), (1, n), (1, cause)]).icpEnter n

/-- Both ends have accepted (Table 17-7). -/
def State.authAccepted (s : State) (n : Nat) : State :=
  let p := s.icp n
  let r := s.portRole n
  if p.adopted ≠ 0 ∧ p.adopted ≠ p.peerHash then
    (s.updIcp n (fun p => { p with state := .quarantine, cause := 1 })).logEvent 0x7B02 [(4, p.peerHash.toNat % 2 ^ 32), (1, n)]
  else if r.peerSlot ≠ 0xFF ∧ r.peerSlot ≠ p.peerSlot then
    (s.updIcp n (fun p => { p with state := .quarantine, cause := 2 })).logEvent 0x7B03 [(1, n), (1, r.peerSlot), (1, p.peerSlot)]
  else if p.adopted = 0 then s.adoptPeer n 0
  else s.icpEnter n

/-- The exchange ends once both ends have answered. -/
def State.authConclude (s : State) (n : Nat) : State :=
  let p := s.icp n
  match p.ownResult, p.peerResult with
  | some a, some b => if a ≠ 0 then s.authFail n a else if b ≠ 0 then s.authFail n b else s.authAccepted n
  | _, _ => s

/-- AUTH_SHARE: the peer's nonce and ephemeral key. -/
def execAuthShare (n : Nat) (payload : List Byte) (s : State) : Out' :=
  .next (if (s.icp n).state = .auth then (s.updIcp n (fun p => { p with peerShare := payload })).trySign n else s)

/-- AUTH_CERT: the peer's certificate chain. -/
def execAuthCert (n : Nat) (payload : List Byte) (s : State) : Out' :=
  .next (if (s.icp n).state = .auth then (s.updIcp n (fun p => { p with peerCert := payload })).trySign n else s)

/-- AUTH_SIG: the peer's signature is verified and the result sent. -/
def execAuthSig (n : Nat) (payload : List Byte) (s : State) : Out' :=
  .next (
    if (s.icp n).state ≠ .auth ∨ (s.icp n).ownResult.isSome then s else
    let v := s.authVerdict n ((payload.drop 8).take 96)
    ((s.updIcp n (fun p => { p with ownResult := some v })).icpFrame n .authResult [v] 1).authConclude n)

/-- AUTH_RESULT: the peer's answer, 0 or a cause of Table 17-12. -/
def execAuthResult (n result : Nat) (s : State) : Out' :=
  .next (if (s.icp n).state = .auth then (s.updIcp n (fun p => { p with peerResult := some (result % 256) })).authConclude n else s)

/-- AUTH_TIMEOUT: the exchange is not done in 20 ms. -/
def execAuthTimeout (n : Nat) (s : State) : Out' := .next (if (s.icp n).state = .auth then s.authFail n 7 else s)

/-- AUTH_HOLD_EXPIRY: the 1 s hold ends. -/
def execAuthHoldExpiry (n : Nat) (s : State) : Out' := .next (s.updIcp n (fun p => { p with hold := false }))

/-- LINK_REKEY: after 2³⁶ flits in either direction the ends exchange new keys, which take effect at the next flit count
that is a multiple of 2²⁰ (R491). -/
def execLinkRekey (n : Nat) (s : State) : Out' :=
  .next (
    let p := s.icp n
    if !p.up ∨ !p.encrypted ∨ p.switchTx.isSome ∨ p.switchRx.isSome ∨ (p.keyTx < 2 ^ 36 ∧ p.keyRx < 2 ^ 36) then s else
    let share := s.newShare n
    let sig := Config.identitySign (Config.sha384 share)
    let s := ((s.drawMany 128).icpFrame n .authShare (share.map (·.toNat)) 1).icpFrame n .authSig (sig.map (·.toNat)) 1
    let s := s.icpFrame n .authResult [0] 1
    let up := fun (c : Nat) => (c / 2 ^ 20 + 1) * 2 ^ 20
    s.updIcp n (fun p => { p with epoch := p.epoch + 1, switchTx := some (up p.keyTx), switchRx := some (up p.keyRx) }))

/-! ### HELLO received (R486, R487, R496–R498) -/

/-- The highest revision of a generation (R492). -/
def genRev (g : Nat) : Nat := if 1 ≤ g ∧ g ≤ 3 then g else 0

/-- A HELLO frame's fields are noted. -/
def IcpPort.note (p : IcpPort) (bs : List Byte) (now : Nat) : IcpPort :=
  let f := fun (o n : Nat) => leField bs o n
  { p with
    peerGen := f 1 1, peerMaxRev := f 2 1, peerSlot := bits (f 3 1) 2 0, peerPort := bits (f 3 1) 7 4, peerRole := f 4 1
    peerFeatures := f 5 1, peerHash := hashOf (bs.drop 8), lastTx := f 56 8, lastRx := now, hops := bits (f 80 1) 3 1
    peerLocked := bit (f 80 1) 4, leaderHash := hashOf (bs.drop 88) }

/-- A HELLO frame in state HELLO: authentication starts, or the peer does not match (Table 17-7). -/
def State.greet (s : State) (n : Nat) (bs : List Byte) : State :=
  let p := s.icp n
  let common := min (min p.rev p.peerMaxRev) (genRev p.peerGen)
  if 1 ≤ common ∧ p.peerRole = (s.portRole n).role then
    (s.updIcp n (fun p => { p with rev := common })).beginAuth n bs
  else
    let s := s.updIcp n (fun p => { p with cause := 6, told := some p.peerHash })
    if p.told = some p.peerHash then s else s.logEvent 0x4B02 [(1, n), (1, p.peerGen), (1, p.peerRole)]

/-- HELLO: a HELLO frame's payload arrives. -/
def execHello (n : Nat) (payload : List Byte) (s : State) : Out' :=
  .next (
    let p := s.icp n
    if !p.trained then s
    else if p.state = .auth then s
    else
      let same := p.peerHash == hashOf (payload.drop 8)
      let s := if p.state = .hello ∨ same then s.updIcp n (fun p => p.note payload s.time) else s
      if p.state = .hello then s.greet n payload
      else if (s.icp n).up && same then
        let s := s.resync
        let t3 := leField payload 64 8
        let t4 := leField payload 72 8
        if s.sync.source = n ∧ (t3, t4) ≠ (0, 0) then s.takeOffset n (leField payload 56 8) t3 t4 else s
      else s)

/-! ### Commands of ICP_CTL (Table 17-7) -/

/-- A command that the state does not allow (Table 17-11). -/
def State.icpBad (s : State) (n v : Nat) (port : Port) : State := s.logEvent 0x6B01 [(4, v), (1, n), (1, s.actsAs port)]

/-- ADOPT of a peer quarantined for its identity. -/
def State.icpAdopt (s : State) (n : Nat) (port : Port) : State :=
  if (s.icp n).state = .quarantine ∧ (s.icp n).cause = 1 then s.adoptPeer n 1 else s.icpBad n 1 port

/-- REJECT: the port is DARK until RETRAIN or a seal changing its entry. -/
def State.icpReject (s : State) (n : Nat) (port : Port) : State :=
  if (s.icp n).state = .quarantine then (s.icpDown n .dark).updIcp n (fun p => { p with rejected := true }) else s.icpBad n 2 port

/-- RETRAIN of an active link, or of a port that REJECT made DARK. -/
def State.icpRetrain (s : State) (n : Nat) (port : Port) : State :=
  if (s.icp n).up || ((s.icp n).state == .dark && (s.icp n).rejected) then
    (s.icpDown n .training).updIcp n (fun p => { p with rejected := false })
  else s.icpBad n 3 port

def execAdopt (n : Nat) (port : Port) (s : State) : Out' := .next (s.icpAdopt n port)
def execReject (n : Nat) (port : Port) (s : State) : Out' := .next (s.icpReject n port)
def execRetrain (n : Nat) (port : Port) (s : State) : Out' := .next (s.icpRetrain n port)

/-- A seal's PORTROLE entry of a port has changed (R62 action 5). -/
def State.portSealed (s : State) (n : Nat) : State :=
  let dest : IcpState := if (s.portRole n).role = 0 then .dark else .training
  (s.icpDown n dest).updIcp n (fun p => { p with rejected := false })

/-! ### Messages (R495, R499, R500) -/

/-- The oldest read that waits for a message of a stream. -/
def State.streamWaiter (s : State) (n stream : Nat) : Option (FabMsg × Opnd × Nat × Nat) :=
  s.msgs.findSome? (fun m =>
    if !m.waits then none else
    match m.body with
    | .read c id => (s.flight c id).bind (fun f => (s.xferEnds c f).bind (fun (l, a) =>
        if rSpace a = 4 ∧ bits a 59 56 = n ∧ bits a 15 0 = stream then some (m, l, a, c) else none))
    | _ => none)

/-- ICPEN_DATA_MESSAGE: a complete message of a compiler's stream is queued, or taken by the MOVE that waits for it. -/
def execIcpenDataMessage (n stream op fmt dec : Nat) (bytes : List Byte) (s : State) : Out' :=
  .next (
    if !(s.icp n).up ∨ 0xFF00 ≤ stream then s else
    let x : IcpMsg := { op := op, fmt := fmt, dec := dec, bytes := bytes, flits := (s.icp n).flitsOf (8 + bytes.length) }
    let s := { s with icpIn := s.icpIn.upd (streamKey n stream) (fun q => { msgs := q.msgs ++ [x] }) }
    match s.streamWaiter n stream with
    | some (m, l, a, c) =>
      (s.updMsg m.id (fun y => { y with waits := false })).icpRead m.id l.type a (memOpndBytes (s.cores.get c).spm l)
    | none => s)

/-- The stages of this device whose ROUTE names a port as its ingress, or as its egress. -/
def State.stagesOn (s : State) (n : Nat) (ingress : Bool) : List Nat :=
  (List.range 16).filter (fun i => match s.routeOf i with
    | some r => if ingress then r.ingressIcpen && r.ingressPort == n else r.egressIcpen && r.egressPort == n
    | none => false)

/-- A message of the sequencers from downstream is forwarded towards the first stage. -/
def State.forwardUp (s : State) (i stream : Nat) (bs : List Byte) : State :=
  match s.routeOf i with
  | some r => if r.ingressIcpen then s.icpMessage r.ingressPort stream 0 3 bs.length bs none else s
  | none => s

/-- Flits of a message that the sequencers take are freed at once. -/
def State.takeSeqMsg (s : State) (n len : Nat) : State :=
  s.updIcp n (fun p => { p with freed := p.freed + p.flitsOf (8 + len), held := p.held - p.flitsOf (8 + len) })

/-- PLAN (R499): recorded by a first stage, forwarded by the others. -/
def execPlan (n inst maxSeqs frames pfxFrames gen : Nat) (s : State) : Out' :=
  .next (
    if !(s.icp n).up then s else
    let bs := leBytes 1 inst ++ leBytes 2 maxSeqs ++ leBytes 4 frames ++ leBytes 4 pfxFrames ++ leBytes 1 gen
    (s.stagesOn n false).foldl (fun (s : State) i =>
      if s.ingressIcpen i then s.forwardUp i 0xFF00 bs
      else s.updInst i (fun x => { x with plans := x.plans ++ [(inst, gen, maxSeqs, frames)] })) (s.takeSeqMsg n bs.length))

/-- STEP (R499): held until the stage's own boundary applies it. -/
def execStep (n : Nat) (block : List Byte) (descs : List (Nat × List Byte × List Nat)) (s : State) : Out' :=
  .next (
    if !(s.icp n).up then s else
    let len := block.length + (descs.map (fun d => 128 + 4 * d.2.2.length)).sum
    (s.stagesOn n true).foldl (fun (s : State) i =>
      s.updInst i (fun x => { x with stepIn := x.stepIn ++ [(block, descs)] })) (s.takeSeqMsg n len))

/-- Bytes of RESULT entries (Table 17-10). -/
def resultBytes (rs : List (Nat × Nat × Nat × Nat × Bool)) : List Byte :=
  rs.flatMap (fun (q, l, t, st, last) => leBytes 2 q ++ leBytes 4 l ++ leBytes 4 t ++ leBytes 1 st ++ leBytes 1 (b2n last))

/-- RESULT (R500): applied at the next boundary, and forwarded to the first stage. -/
def execResult (n : Nat) (entries : List (Nat × Nat × Nat × Nat × Bool)) (s : State) : Out' :=
  .next (
    if !(s.icp n).up then s else
    let bs := resultBytes entries
    (s.stagesOn n false).foldl (fun (s : State) i =>
      (s.updInst i (fun x => { x with resultIn := x.resultIn ++ entries })).forwardUp i 0xFF02 bs) (s.takeSeqMsg n bs.length))

/-- SHORT (R500): the first stage pauses the reported sequences at its next boundary; the others forward it. -/
def execShort (n : Nat) (slots : List Nat) (s : State) : Out' :=
  .next (
    if !(s.icp n).up then s else
    let bs := slots.flatMap (leBytes 2)
    (s.stagesOn n false).foldl (fun (s : State) i =>
      let s := s.logEvent 0x4B08 [(2, slots.length), (1, i), (1, n)]
      if s.ingressIcpen i then s.forwardUp i 0xFF03 bs
      else s.updInst i (fun x => { x with shortIn := x.shortIn ++ slots })) (s.takeSeqMsg n bs.length))

end Sys2Proof.Machine
end

