-- ==== Sys2Proof/Machine/Security.lean ====
section
/-!
DEFINITION. Security (21): the SPDM responder (R596–R598), the vendor requests (R599–R604), debug and its unlocking
(R607–R609), and the test port (R607, R624). Codes of SPDM requests, responses and errors are those of the DMTF's
published standard (PRESUMED, log entry 7). A transport is 0 DOE A, 1 DOE B, 2 MCTP.
-/
namespace Sys2Proof.Machine
open Sys2Proof

/-! ### SPDM (R596–R598) -/

/-- An SPDM ERROR response. -/
def State.spdmError (s : State) (transport code : Nat) : State := s.emit (.spdm transport 0x7F [code])

/-- A request other than the first three is answered unless the device's identity has failed (R594). -/
def State.spdmReply (s : State) (transport code : Nat) (fields : List Nat) : State :=
  if s.sec.identity = 2 then s.spdmError transport 0x05 else s.emit (.spdm transport code fields)

/-- Fresh random bytes as one free value. -/
def State.fresh (s : State) : Nat := Config.free s.freeCtr

/-- SEC_STAT (Table 21-10). -/
def State.secStat (s : State) : Nat :=
  let c := s.sec
  fld c.identity 30 2 + fld (b2n c.locked) 29 1 + fld (if c.locked then c.scopes else 0) 26 3 + fld (b2n c.lockout.isSome) 25 1 +
    fld ((s.ownerBank).getD 0) 24 1 + fld ((s.ownerValid.map (2 ^ ·)).sum) 20 4 + fld c.revoked 16 4 + fld s.enrolState 14 2

def hashWords (h : BitVec 384) : List Nat := ((leBytes 48 h.toNat).reverse).map (·.toNat)

/-- The value of a measurement block (Table 21-3). -/
def State.measure (s : State) (i : Nat) : List Nat :=
  if i = 1 then s.fuses.devId :: (List.range 7).map s.fuses.cap
  else if i = 2 then hashWords Config.fuseHash
  else if i = 3 then hashWords s.img.hash
  else if i = 4 then [s.img.serial, s.armFloor]
  else if i = 5 then (List.range 4).flatMap (fun k => hashWords (s.ownerHash k)) ++ [(s.ownerValid.map (2 ^ ·)).sum, s.sec.revoked]
  else if i = 6 then [bits s.secStat 29 25]
  else if i ≤ 14 then
    let w := s.wslots.get (i - 7)
    hashWords (if w.state = 0 then 0 else w.pkg.phash)
  else
    let w := s.wslots.get (i - 15)
    [w.ldig.c, w.ldig.m]

/-- GET_VERSION: version 1.2. -/
def execGetVersion (transport : Nat) (s : State) : Out' := .next (s.emit (.spdm transport 0x04 [0x1200]))

/-- GET_CAPABILITIES: the capabilities of Table 21-2, CTExponent 14 and the message size. -/
def execGetCapabilities (transport : Nat) (s : State) : Out' :=
  .next (s.emit (.spdm transport 0x61 [14, 0x62F6, if transport = 2 then 1024 else 4096]))

/-- NEGOTIATE_ALGORITHMS: measurement specification and hash, signature, hash, DHE, AEAD, key schedule (Table 21-2). -/
def execNegotiateAlgorithms (transport : Nat) (s : State) : Out' :=
  .next (s.emit (.spdm transport 0x63 [0x01, 0x04, 0x80, 0x02, 0x10, 0x02, 0x01]))

/-- GET_DIGESTS: slot 0's chain. -/
def execGetDigests (transport : Nat) (s : State) : Out' :=
  .next (s.spdmReply transport 0x01 (1 :: hashWords (Config.sha384 Config.deviceChain)))

/-- GET_CERTIFICATE: a portion of the chain of slot 0, with what remains (R595). -/
def execGetCertificate (transport slot off len : Nat) (s : State) : Out' :=
  .next (
    let n := Config.deviceChain.length
    if slot ≠ 0 ∨ n ≤ off then (if s.sec.identity = 2 then s.spdmError transport 0x05 else s.spdmError transport 0x01)
    else
      let k := min (min len (n - off)) ((if transport = 2 then 1024 else 4096) - 8)
      s.spdmReply transport 0x02 ([0, k, n - off - k] ++ ((Config.deviceChain.drop off).take k).map (·.toNat)))

/-- A signature over the transcript that the standard defines: its digest is not in the spec and is free. -/
def State.spdmSign (s : State) : List Nat := (Config.identitySign (BitVec.ofNat 384 s.fresh)).map (·.toNat)

/-- CHALLENGE: slot, chain digest, nonce and signature. -/
def execChallenge (transport slot : Nat) (s : State) : Out' :=
  .next (
    if s.sec.identity = 2 then s.spdmError transport 0x05
    else if slot ≠ 0 then s.spdmError transport 0x01
    else (s.draw.draw).emit (.spdm transport 0x03 (0 :: hashWords (Config.sha384 Config.deviceChain) ++ [s.fresh] ++ s.draw.spdmSign)))

/-- GET_MEASUREMENTS: operation 0 the count, 0xFF every block, else one block (R598). -/
def execGetMeasurements (transport operation : Nat) (signed : Bool) (s : State) : Out' :=
  .next (
    if s.sec.identity = 2 then s.spdmError transport 0x05
    else
      let tail := if signed then s.spdmSign else []
      let send := fun (s : State) (l : List Nat) => s.draw.emit (.spdm transport 0x60 (l ++ tail))
      if operation = 0 then send s [22]
      else if operation = 0xFF then send s ((List.range 22).flatMap (fun k => (k + 1) :: s.measure (k + 1)))
      else if operation ≤ 22 then send s (operation :: s.measure operation)
      else s.spdmError transport 0x01)

def State.updSession (s : State) (k : Nat) (f : Session → Session) : State :=
  { s with sec := { s.sec with sessions := s.sec.sessions.upd k f } }

/-- A session ends by failure: cause 0 handshake, 1 decryption, 2 owner proof (R597). -/
def State.sessionFail (s : State) (k cause : Nat) : State :=
  let t := (s.sec.sessions.get k).transport
  ((s.updSession k (fun _ => {})).count Reg.SEC_SPDM_FAIL).logEvent 0x7E01 [(1, t), (1, cause)]

/-- Sessions of a transport end without a failure (R597). -/
def State.dropSessions (s : State) (p : Session → Bool) : State :=
  { s with sec := { s.sec with sessions := s.sec.sessions.keep (fun _ x => !p x) } }

/-- KEY_EXCHANGE: a handshake begins in the lowest free session, or all four are taken (Table 21-2). -/
def execKeyExchange (transport : Nat) (s : State) : Out' :=
  .next (
    if s.sec.identity = 2 then s.spdmError transport 0x05
    else match (List.range 4).find? (fun k => (s.sec.sessions.get k).phase == 0) with
      | none => s.spdmError transport 0x0A
      | some k =>
        let th := BitVec.ofNat 384 s.fresh
        let s := s.draw.updSession k (fun _ => { phase := 1, transport := transport, th1 := th })
        s.draw.emit (.spdm transport 0x64 (k :: s.spdmSign)))

/-- A session of a transport in a phase. -/
def State.sessionIs (s : State) (transport k phase : Nat) : Bool :=
  decide (k < 4) && (s.sec.sessions.get k).phase == phase && (s.sec.sessions.get k).transport == transport

/-- A request in a session: none of that kind is answered with an error; one whose record does not decrypt ends it. -/
def State.inSession (s : State) (transport k phase cause : Nat) (ok : Bool) (f : State → State) : State :=
  if s.sec.identity = 2 then s.spdmError transport 0x05
  else if !s.sessionIs transport k phase then s.spdmError transport 0x04
  else if ok then f s else s.sessionFail k cause

/-- FINISH: the handshake completes, or its verification fails. -/
def execFinish (transport session : Nat) (ok : Bool) (s : State) : Out' :=
  .next (s.inSession transport session 1 0 ok (fun s =>
    (s.updSession session (fun x => { x with phase := 2 })).emit (.spdm transport 0x65 [session])))

/-- HEARTBEAT. -/
def execHeartbeat (transport session : Nat) (ok : Bool) (s : State) : Out' :=
  .next (s.inSession transport session 2 1 ok (fun s => s.emit (.spdm transport 0x68 [session])))

/-- KEY_UPDATE. -/
def execKeyUpdate (transport session : Nat) (ok : Bool) (s : State) : Out' :=
  .next (s.inSession transport session 2 1 ok (fun s =>
    (s.updSession session (fun x => { x with keys := x.keys + 1 })).emit (.spdm transport 0x69 [session])))

/-- END_SESSION. -/
def execEndSession (transport session : Nat) (ok : Bool) (s : State) : Out' :=
  .next (s.inSession transport session 2 1 ok (fun s =>
    (s.updSession session (fun _ => {})).emit (.spdm transport 0x6C [session])))

/-- A request outside Table 21-2 is answered UnsupportedRequest (R596). -/
def execSpdmUnsupportedRequest (transport code : Nat) (s : State) : Out' :=
  .next (if s.sec.identity = 2 then s.spdmError transport 0x05 else s.emit (.spdm transport 0x7F [0x07, code]))

/-! ### Vendor requests (R599–R604) -/

/-- A vendor response: a status of Table 21-4 and any result. -/
def State.vendor (s : State) (transport status : Nat) (more : List Nat) : State :=
  s.spdmReply transport 0x7E (status :: more)

/-- The request arrives inside a secure session of its transport (R599). -/
def State.secure (s : State) (transport : Nat) (session : Option Nat) : Bool :=
  session.any (fun k => s.sessionIs transport k 2)

/-- The owner slot that the session is proven with. -/
def State.sessionOwner (s : State) (session : Option Nat) : Option Nat := session.bind (fun k => (s.sec.sessions.get k).owner)

/-- ENROL: fusing starts in the first unused bank (R600). -/
def State.enrolStart (s : State) (transport : Nat) (session : Option Nat) (count : Nat) (hashes : List (BitVec 384)) : State :=
  if !s.secure transport session then s.vendor transport 0x09 []
  else if count = 0 ∨ 4 < count ∨ hashes.length ≠ count then s.vendor transport 0x07 []
  else if s.enrolState = 1 then s.vendor transport 0x02 []
  else if s.sec.enrol.isSome then s.vendor transport 0x01 []
  else if s.enrolState = 2 then s.vendor transport 0x06 []
  else
    let b := if (s.sec.banks.get 0).spent then 1 else 0
    let s := { s with sec := { s.sec with
      banks := s.sec.banks.upd b (fun x => { x with blown := true }), enrol := some { bank := b, hashes := hashes, transport := transport } } }
    s.spdmError transport 0x42

def execEnrol (transport : Nat) (session : Option Nat) (count : Nat) (hashes : List (BitVec 384)) (s : State) : Out' :=
  .next (s.enrolStart transport session count hashes)

/-- ENROL_COMPLETE: every hash, its valid fuse and the commit fuse are blown (R600). -/
def execEnrolComplete (s : State) : Out' :=
  .next (match s.sec.enrol with
    | none => s
    | some e =>
      let n := e.hashes.length
      let m := e.hashes.zipIdx.foldl (fun (m : Map (BitVec 384)) p => m.put p.2 p.1) {}
      let s := { s with sec := { s.sec with
        banks := s.sec.banks.upd e.bank (fun b => { b with hashes := m, valid := 2 ^ n - 1, commit := true, blown := true })
        enrol := none } }
      (s.logEvent 0x1E01 [(1, n), (1, e.bank)]).vendor e.transport 0x00 [])

/-- "CHOTRUM OWNER" (R601). -/
def ownerTag : List Byte := [0x43, 0x48, 0x4F, 0x54, 0x52, 0x55, 0x4D, 0x20, 0x4F, 0x57, 0x4E, 0x45, 0x52]

/-- "CHOTRUM DEBUG UNLOCK" (R608). -/
def unlockTag : List Byte :=
  [0x43, 0x48, 0x4F, 0x54, 0x52, 0x55, 0x4D, 0x20, 0x44, 0x45, 0x42, 0x55, 0x47, 0x20, 0x55, 0x4E, 0x4C, 0x4F, 0x43, 0x4B]

/-- The key is that of a valid, unrevoked owner slot. -/
def State.ownerKeyOk (s : State) (slot : Nat) (key : List Byte) : Bool := s.ownerKeys.any (fun k => k.1 == slot && k.2 == Config.sha384 key)

/-- OWNER_PROVE (R601). -/
def execOwnerProve (transport : Nat) (session : Option Nat) (slot : Nat) (key sig : List Byte) (s : State) : Out' :=
  .next (
    match session, s.secure transport session with
    | some k, true =>
      if 4 ≤ slot ∨ key.length ≠ 96 ∨ sig.length ≠ 96 then s.vendor transport 0x07 []
      else if !s.ownerKeyOk slot key then s.vendor transport 0x05 []
      else
        let th := ((leBytes 48 (s.sec.sessions.get k).th1.toNat).reverse)
        if Config.ecdsaVerify key sig (Config.sha384 (ownerTag ++ th)) then
          (s.updSession k (fun x => { x with owner := some slot })).vendor transport 0x00 []
        else (s.vendor transport 0x04 []).sessionFail k 2
    | _, _ => s.vendor transport 0x09 [])

/-- REVOKE (R602). -/
def execRevoke (transport : Nat) (session : Option Nat) (slot : Nat) (s : State) : Out' :=
  .next (
    if !s.secure transport session then s.vendor transport 0x09 []
    else if 4 ≤ slot then s.vendor transport 0x07 []
    else match s.sessionOwner session with
      | none => s.vendor transport 0x03 []
      | some o =>
        if o = slot then s.vendor transport 0x03 []
        else if bit s.sec.revoked slot ∨ s.ownerKeys.map (·.1) = [slot] then s.vendor transport 0x02 []
        else
          let s := { s with sec := { s.sec with
            revoked := s.sec.revoked + 2 ^ slot
            sessions := s.sec.sessions.mapVals (fun _ x => if x.owner = some slot then { x with owner := none } else x) } }
          s.vendor transport 0x00 [])

/-- A filled key slot is in use: by a load in progress, or by a resident set with far records (R603). -/
def State.keyInUse (s : State) (slot : Nat) : Bool :=
  let uses := fun (k : Nat) => (s.wslots.get k).pkg.keySlot == slot
  (s.weightKeys.get slot).isSome && (s.wloads.any (fun l => l.space.isSome && uses l.slot) ||
    s.winsts.cells.any (fun c => c.2.sets.any (fun x => uses x.slot && (s.wslots.get x.slot).pkg.tiles.any (·.far))))

/-- SET_WEIGHT_KEY (R603): the response carries the check value. -/
def execSetWeightKey (transport : Nat) (session : Option Nat) (slot : Nat) (key : BitVec 512) (s : State) : Out' :=
  .next (
    if !s.secure transport session then s.vendor transport 0x09 []
    else if 64 ≤ slot then s.vendor transport 0x07 []
    else if (s.sessionOwner session).isNone then s.vendor transport 0x03 []
    else if s.keyInUse slot then s.vendor transport 0x01 []
    else
      let s := { s with weightKeys := s.weightKeys.put slot (some key) }
      (s.logEvent 0x1E02 [(1, slot), (1, transport)]).vendor transport 0x00 ((Config.keyCheck key).map (·.toNat)))

/-- CLEAR_WEIGHT_KEY: one slot, or all for 0xFF (R604). -/
def execClearWeightKey (transport : Nat) (session : Option Nat) (slot : Nat) (s : State) : Out' :=
  .next (
    if !s.secure transport session then s.vendor transport 0x09 []
    else if 64 ≤ slot ∧ slot ≠ 0xFF then s.vendor transport 0x07 []
    else if (s.sessionOwner session).isNone then s.vendor transport 0x03 []
    else
      let s := { s with weightKeys := if slot = 0xFF then {} else s.weightKeys.put slot none }
      (s.logEvent 0x1E04 [(1, slot), (1, transport)]).vendor transport 0x00 [])

/-! ### Debug (R607–R609) -/

/-- SEC_NONCE takes a fresh random value. -/
def State.renewNonce (s : State) : State := { s.draw with sec := { s.sec with nonce := s.fresh % 2 ^ 64 } }

/-- The answer to a submission: through SEC_UNLOCK_STAT, and through the message that carried it. -/
def State.unlockAnswer (s : State) (source status : Nat) : State :=
  let s := { s with sec := { s.sec with unlockStatus := status } }
  if 3 ≤ source then s.vendor (source - 3) status [] else s

/-- DEBUG_UNLOCK: a token is submitted by message or by SEC_UNLOCK_CTL: 0 register A, 1 register B, 2 management, 3 DOE A,
4 DOE B, 5 MCTP. -/
def State.unlockSubmit (s : State) (source : Nat) (token : List Byte) : State :=
  if s.sec.identity = 2 ∧ 3 ≤ source then s.spdmError (source - 3) 0x05
  else if s.sec.verifying.isSome then s.unlockAnswer source 0x01
  else if token.length ≠ 200 then s.unlockAnswer source 0x07
  else { s with sec := { s.sec with verifying := some (token, source) } }

def execDebugUnlock (source : Nat) (token : List Byte) (s : State) : Out' := .next (s.unlockSubmit source token)

/-- The checks of a token, in order (R608, R609). -/
def State.unlockCheck (s : State) (t : List Byte) : Nat :=
  let f := leField t
  let key := sliceBytes t 8 96
  if !s.sec.locked then 0x02
  else if s.sec.lockout.isSome then 0x08
  else if f 0 2 ≠ 0x4455 ∨ f 2 1 ≠ 1 ∨ 8 ≤ f 4 1 ∨ f 5 3 ≠ 0 then 0x07
  else if !s.ownerKeyOk (f 3 1) key then 0x05
  else
    let msg := unlockTag ++ leBytes 8 s.sec.nonce ++ (leBytes 48 s.fuses.idHash.toNat).reverse ++ t.take 8
    if Config.ecdsaVerify key (sliceBytes t 104 96) (Config.sha384 msg) then 0x00 else 0x04

/-- UNLOCK_VERIFY_COMPLETE (R609). -/
def execUnlockVerifyComplete (s : State) : Out' :=
  .next (match s.sec.verifying with
    | none => s
    | some (t, source) =>
      let st := s.unlockCheck t
      let slot := leField t 3 1
      let scope := leField t 4 1
      let s := { s with sec := { s.sec with verifying := none } }
      let s :=
        if st = 0 then
          let s := { s with sec := { s.sec with scopes := s.sec.scopes ||| scope, refusals := 0 } }
          s.logEvent 0x1E03 [(1, scope), (1, slot), (1, source)]
        else
          let s := (s.count Reg.SEC_UNLOCK_FAIL).logEvent 0x7E02 [(1, st), (1, slot), (1, source)]
          let n := min 3 (s.sec.refusals + 1)
          { s with sec := { s.sec with
            refusals := n, lockout := if n = 3 ∧ s.sec.lockout.isNone then some (s.time + 60 * 10 ^ 9) else s.sec.lockout } }
      (s.renewNonce).unlockAnswer source st)

/-- LOCKOUT_EXPIRY: the 60 s lockout ends. -/
def execLockoutExpiry (s : State) : Out' := .next { s with sec := { s.sec with lockout := none, refusals := 0 } }

/-- RELOCK: debug locks, and every scope closes. -/
def State.relock (s : State) : State := { s with sec := { s.sec with locked := true, scopes := 0 } }

def execRelock (s : State) : Out' := .next s.relock
def execNewNonce (s : State) : Out' := .next s.renewNonce

/-! ### The test port (R607, R624) -/

/-- IDCODE (R624). -/
def execIdcode (s : State) : Out' :=
  .next (({ s with tapIr := 0 } : State).emit (.tap (fld (if s.fuses.stepB0 then 2 else 1) 28 4 +
    fld (if s.fuses.reduced then 0xC713 else 0xC703) 12 16 + fld Config.jedecCode 1 11 + 1)))

/-- The one-bit bypass register lies between the test port's pins. -/
def State.tapBypass (s : State) : State := ({ s with tapIr := 1 } : State).emit (.tap 0)

def execBypass (s : State) : Out' := .next s.tapBypass

/-- SAMPLE/PRELOAD: the pins are sampled, and the cells take the word shifted in. -/
def execSamplePreload (pins preload : Nat) (s : State) : Out' :=
  .next (({ s with tapIr := 2, tapCells := preload } : State).emit (.tap pins))

/-- EXTEST drives the boundary cells while debug scope 1 is open, and acts as BYPASS otherwise (Table 21-7). -/
def execExtest (s : State) : Out' := .next (if s.debugOpen 1 then { s with tapIr := 3 } else s.tapBypass)

/-- An IEEE 1149.6 instruction, likewise. -/
def execIeee11496Instructions (s : State) : Out' := .next (if s.debugOpen 1 then { s with tapIr := 4 } else s.tapBypass)

end Sys2Proof.Machine
end

