-- ==== Sys2Proof/Machine/Thermal.lean ====
section
/-!
DEFINITION. Broken measurements, the thermal model and its thresholds (20, R579–R590): the end of a housekeeping round.
-/
namespace Sys2Proof.Machine
open Sys2Proof

/-! ### Channels (Table 20-3) -/

/-- Nominal voltages, 10 µV, and rated currents, mA, of rails 0–10 (Table 19-3). -/
def railVolts : List Nat := [80000, 75000, 75000, 80000, 80000, 75000, 90000, 75000, 110000, 180000, 120000]
def railAmps : List Nat := [500, 200000, 200000, 100000, 80000, 100000, 40000, 160000, 120000, 20000, 10000]

/-- Phases fitted to rails 0–10 (Table 19-3): VDD_VESPER has two linear regulators. -/
def railPhases : List Nat := [2, 7, 7, 4, 4, 4, 2, 5, 4, 2, 2]

/-- Power domains that a rail supplies (R552, Table 19-3); none for the vesper domain's rail. -/
def railDomains (r : Nat) : List Nat :=
  if r = 0 then []
  else if r = 1 then List.range 8 ++ [16]
  else if r = 2 then (List.range 8).map (· + 8) ++ [17]
  else if r = 3 ∨ r = 4 then List.range 16
  else [18]

/-- A rail's voltage has a lower bound only while every domain it supplies is in Noon or Dusk (R572). -/
def State.railUp (s : State) (r : Nat) : Bool := (railDomains r).all (fun d => decide ((s.domains.get d).state ≤ 1))

/-- The plausibility range of a channel, in channel units (Table 20-3). -/
def State.chanRange (s : State) (c : Nat) : Int × Int :=
  if c = 0 then (0, 7000000)
  else if c = 1 then (-500, 25000)
  else if c < 6 then (if c % 2 = 0 then (0, 800000) else (-2000, 150000))
  else if c < 8 then (-1000, 100000)
  else if c < 30 then
    let r := (c - 8) / 2
    let v := (railVolts[r]?).getD 0
    let i := (railAmps[r]?).getD 0
    if c % 2 = 0 then ((if s.railUp r then (v / 2 : Nat) else 0), (3 * v / 2 : Nat)) else (-(i / 50 : Nat), (3 * i / 2 : Nat))
  else if c < 38 then (-500, 30000)
  else if c < 46 then (-500, 22500)
  else if c < 48 then (-1000, 75000)
  else if c < 50 then (-1000, 60000)
  else if c = 50 then (-2560, 23040)
  else (120000, 130000)

/-- Nodes that a rail supplies (Table 20-6). -/
def railNodes (r : Nat) : List Nat :=
  match r with
  | 0 => [51]
  | 1 => List.range 8
  | 2 => (List.range 8).map (· + 8)
  | 3 => (List.range 16).map (· + 16)
  | 4 => List.range 16
  | 5 => [48, 49, 50]
  | 6 => [48, 49]
  | 7 => (List.range 8).map (· + 32)
  | 8 => (List.range 8).map (· + 40)
  | 9 => (List.range 8).map (· + 40)
  | _ => [50]

/-- The region of a channel (Table 20-3, R581). -/
def chanRegion (c : Nat) : List Nat :=
  if c < 2 then [51, 52]
  else if c < 6 then [51 + (c - 2) / 2]
  else if c < 8 then [51 + (c - 6)]
  else if c < 30 then railNodes ((c - 8) / 2)
  else if c < 38 then [32 + (c - 30)]
  else if c < 46 then [40 + (c - 38)]
  else if c < 48 then (List.range 8).map (· + 16 + 8 * (c - 46))
  else if c < 50 then (List.range 8).map (· + 8 * (c - 48))
  else List.range 53

/-- The value of a channel that the model and the averages use: the round's regular value, or its last valid one while it
is broken or was not converted (R581). -/
def Chan.used (x : Chan) : Int := if x.broken then x.last else match x.reg with
  | some (v, _) => v
  | none => x.last

/-- A live value, broken or not (R580). -/
def Chan.live (x : Chan) : Int := match x.reg with
  | some (v, _) => v
  | none => x.last

/-! ### Step 2 of R590: staleness and range (R579) -/

/-- One channel is judged at a round end. -/
def State.judge (s : State) (c : Nat) : State :=
  let x := s.hka.chans.get c
  let (lo, hi) := s.chanRange c
  let inRange := match x.reg with
    | some (v, _) => decide (lo ≤ v ∧ v ≤ hi)
    | none => false
  let missed := if x.reg.isSome then 0 else x.missed + 1
  let stale := decide (2 ≤ missed)
  let out := x.reg.isSome && !inRange
  let valid := if inRange then min 8 (x.valid + 1) else 0
  let breaks := !x.broken && (stale || out)
  let heals := x.broken && x.cause != 3 && valid == 8
  let y : Chan := { x with
    missed := missed, valid := valid
    broken := if breaks then true else if heals then false else x.broken
    cause := if breaks then (if stale then 1 else 2) else if heals then 0 else x.cause
    last := if inRange && (!x.broken || heals) then x.live else x.last }
  let s := s.updChan c (fun _ => y)
  if breaks then s.logEvent 0x4D01 [(1, c), (1, y.cause - 1), (1, (chanRegion c).length)] else s

/-! ### Balance (R580) -/

/-- Power of a voltage and a current channel, 10⁻⁸ W. -/
def State.chanPower (s : State) (val : Chan → Int) (v i : Nat) : Int := val (s.hka.chans.get v) * val (s.hka.chans.get i)

def State.pIn (s : State) (val : Chan → Int) : Int := s.chanPower val 0 1
def State.pRails (s : State) (val : Chan → Int) : Int := ((List.range 11).map (fun r => s.chanPower val (8 + 2 * r) (9 + 2 * r))).sum
def State.pBal (s : State) (val : Chan → Int) (d : Nat) : Int := s.chanPower val (2 + 2 * d) (6 + d)

/-- P_exp, in units of 10⁻¹⁰ W. -/
def State.pExp (s : State) (val : Chan → Int) : Int :=
  (s.pRails val + s.pBal val 0 + s.pBal val 1) * 108 + 12 * 10 ^ 10

/-- A balance failure is in force: device-wide forcing, or channels broken with cause balance. -/
def State.balanced (s : State) : Bool :=
  !s.hka.balWide && !(List.range 52).any (fun c => (s.hka.chans.get c).broken && (s.hka.chans.get c).cause == 3)

/-- A channel is broken with cause balance. -/
def State.breakBalance (s : State) (c : Nat) : State :=
  if (s.hka.chans.get c).broken then s else
  (s.updChan c (fun x => { x with broken := true, cause := 3, valid := 0 })).logEvent
    0x4D01 [(1, c), (1, 2), (1, (chanRegion c).length)]

/-- A round of the identification pass ends; after the fourth, forcing narrows to the channels that differ. -/
def State.passRoundEnd (s : State) : State :=
  let h := s.hka
  if h.role ≠ 2 then s else
  let more := h.passVals.filterMap (fun (p : Nat × Int) =>
    match (h.chans.get p.1).reg with
    | some (v, _) => if (s.chanRange p.1).2 < 100 * ((p.2 - v).natAbs : Int) then some p.1 else none
    | none => none)
  let s : State := { s with hka := { h with differ := h.differ ++ more, passVals := [], visitRound := h.visitRound + 1 } }
  if s.hka.visitRound < 4 then s else
  let bad := s.hka.differ
  let s := s.spareIdle
  if bad.isEmpty then s
  else
    let s : State := { s with hka := { s.hka with balWide := false, differ := [] } }
    bad.foldl (fun (s : State) c => s.breakBalance c) s

/-- The balance check of a round. -/
def State.balance (s : State) : State :=
  let p := s.pIn Chan.live
  if p < 50 * 10 ^ 8 then { s with hka := { s.hka with bal := 0, balOver := 0, balUnder := 0, balFail := false } } else
  let dev := (100 * p - s.pExp Chan.live).natAbs
  let whole := 100 * p.toNat
  let overs := decide (15 * whole < 100 * dev)
  let h := s.hka
  let h : Hka := { h with
    bal := min 0xFFFF (dev * 1024 / whole)
    balOver := if overs then min 2 (h.balOver + 1) else 0
    balUnder := if overs then 0 else min 8 (h.balUnder + 1) }
  let s : State := { s with hka := { h with balFail := h.balOver == 2 } }
  if s.hka.balOver = 2 ∧ s.balanced then
    let s : State := { s with hka := { s.hka with balWide := true } }
    let s := s.logEvent 0x4D01 [(1, 0xFF), (1, 2), (1, 53)]
    if s.hka.role = 0 ∨ s.hka.role = 1 then
      let s := s.spareIdle
      { s with hka := { s.hka with role := 2, differ := [] } }
    else s
  else if s.hka.balUnder = 8 ∧ !s.balanced then
    { s with hka := { s.hka with
      balWide := false
      chans := s.hka.chans.mapVals (fun _ x => if x.broken ∧ x.cause = 3 then { x with broken := false, cause := 0 } else x) } }
  else s

/-! ### The coolant input (R585) -/

/-- Why the coolant input is missing: 0 stale, 1 out of range, 2 balance; none where it is present. -/
def State.coolantCause (s : State) : Option Nat :=
  if s.thm.source = 0 then
    let why := fun (c : Nat) => let x := s.hka.chans.get c; if x.broken then some (x.cause - 1) else none
    (why 50).orElse (fun _ => why 51)
  else
    let v := signed 16 (s.regF Reg.THM_COOLANT 15 0)
    if !(s.thm.wroteAt.any (fun t => decide (s.time ≤ t + 2 * 10 ^ 9))) then some 0
    else if v < -160 ∨ 1440 < v then some 1 else none

/-- The coolant input is determined. -/
def State.takeCoolant (s : State) : State :=
  match s.coolantCause with
  | none =>
    let v := if s.thm.source = 0 then divRne (s.hka.chans.get 50).used 16 else signed 16 (s.regF Reg.THM_COOLANT 15 0)
    { s with thm := { s.thm with missing := false, coolant := v } }
  | some why =>
    let was := s.thm.missing
    let s : State := { s with thm := { s.thm with missing := true } }
    if was then s else s.logEvent 0x4D02 [(1, s.thm.source), (1, why)]

/-! ### Forcing (R581) -/

/-- Junction nodes that are forced. -/
def State.forcedNodes (s : State) : List Nat :=
  if s.hka.balWide || s.thm.missing then List.range 53
  else ((List.range 52).filter (fun c => (s.hka.chans.get c).broken)).flatMap chanRegion

def State.setForcing (s : State) : State :=
  let fs := s.forcedNodes
  (List.range 53).foldl (fun (s : State) i =>
    let f := fs.contains i
    let n := s.thm.nodes.get i
    if f = n.forced then s else
    let s : State := { s with thm := { s.thm with nodes := s.thm.nodes.put i { n with forced := f } } }
    if f then s.hkaCount Reg.THM_FORCINGS 1 else s) s

/-! ### Step 3: node powers (R583, Table 20-6) -/

/-- Divide a power by weights: equally when every weight is 0. -/
def splitPower (p : Int) (ws : List Nat) : List Int :=
  let t := ws.sum
  if t = 0 then ws.map (fun _ => divRne p (max 1 ws.length)) else ws.map (fun (w : Nat) => divRne (p * (w : Int)) t)

/-- Powers added to nodes. -/
def addPower (m : Map Int) (nodes : List Nat) (ps : List Int) : Map Int :=
  (nodes.zip ps).foldl (fun (m : Map Int) (x : Nat × Int) => m.put x.1 (m.get x.1 + x.2)) m

/-- Currents of channels as weights. -/
def State.chanWeights (s : State) (cs : List Nat) : List Nat := cs.map (fun c => (s.hka.chans.get c).used.toNat)

/-- The activity of a round: instructions and lanes, column conversions, and memory accesses by cluster, frieze activity
West, East and of the hub, and lanes in use West and East. -/
structure Activity where
  cores : List Nat := []
  conversions : List Nat := []
  sram : List Nat := []
  frieze : List Nat := []
  lanes : List Nat := []
deriving DecidableEq, Repr, Inhabited

/-- Counts of clusters a to a + n − 1. -/
def countsOf (l : List Nat) (a n : Nat) : List Nat := (List.range n).map (fun k => (l[a + k]?).getD 0)

/-- Node powers of the round, 10⁻⁸ W. -/
def State.nodePowers (s : State) (a : Activity) : Map Int :=
  let rail := fun (r : Nat) => s.chanPower Chan.used (8 + 2 * r) (9 + 2 * r)
  let halves := fun (p : Int) (c : Nat) => splitPower p (s.chanWeights [c, c + 1])
  let arr := halves (rail 3) 46
  let sram := halves (rail 4) 48
  let h := fun (l : List Int) (k : Nat) => (l[k]?).getD 0
  let m : Map Int := {}
  let m := addPower m [51] [rail 0]
  let m := addPower m (railNodes 1) (splitPower (rail 1) (countsOf a.cores 0 8))
  let m := addPower m (railNodes 2) (splitPower (rail 2) (countsOf a.cores 8 8))
  let m := addPower m ((List.range 8).map (· + 16)) (splitPower (h arr 0) (countsOf a.conversions 0 8))
  let m := addPower m ((List.range 8).map (· + 24)) (splitPower (h arr 1) (countsOf a.conversions 8 8))
  let m := addPower m (List.range 8) (splitPower (h sram 0) (countsOf a.sram 0 8))
  let m := addPower m ((List.range 8).map (· + 8)) (splitPower (h sram 1) (countsOf a.sram 8 8))
  let m := addPower m [48, 49, 50] (splitPower (rail 5) (countsOf a.frieze 0 3))
  let m := addPower m [48, 49] (splitPower (rail 6) (countsOf a.lanes 0 2))
  let m := addPower m (railNodes 7) (splitPower (rail 7) (s.chanWeights ((List.range 8).map (· + 30))))
  let m := addPower m (railNodes 8) (splitPower (rail 8) (s.chanWeights ((List.range 8).map (· + 38))))
  let m := addPower m (railNodes 9) (splitPower (rail 9) (List.replicate 8 1))
  let m := addPower m [50] [rail 10]
  let b0 := s.pBal Chan.used 0
  let b1 := s.pBal Chan.used 1
  let m := addPower m [51, 52] [b0, b1]
  let loss := max 0 (s.pIn Chan.used - s.pRails Chan.used - b0 - b1)
  let ib := fun (d : Nat) => (s.chanPower Chan.used (2 + 2 * d) (3 + 2 * d)).toNat
  addPower m [51, 52] (splitPower loss [ib 0, ib 1])

/-! ### Step 4: the model advances (R582, R584) -/

/-- Row and column of cluster c in the grid of R293. -/
def gridOf (c : Nat) : Nat × Nat := if c < 8 then (c / 2, c % 2) else ((c - 8) / 2, 2 + c % 2)

/-- Lid zone of a place in the grid: 0 NW, 1 NE, 2 SW, 3 SE. -/
def zoneOf (row col : Nat) : Nat := 2 * (row / 2) + col / 2

/-- Couplings, in 1/320 W/K (Table 20-5). -/
def couplings : List (Nat × Nat × Nat) :=
  (List.range 16).flatMap (fun c =>
    let (r, k) := gridOf c
    let z := 53 + zoneOf r k
    [(c, 16 + c, 640), (c, z, 112), (16 + c, z, 96)] ++
      ((List.range 16).filter (fun d => decide (c < d) && (let (r', k') := gridOf d; (r' - r) + (r - r') + (k' - k) + (k - k') == 1))).map
        (fun d => (c, d, 256))) ++
  (List.range 8).flatMap (fun t =>
    [(32 + t, 40 + t, 480), (32 + t, 61 + t / 4, 160), (40 + t, 53 + (if t < 4 then zoneOf t 0 else zoneOf (t - 4) 3), 192)]) ++
  [(48, 53, 256), (48, 55, 256), (49, 54, 256), (49, 56, 256), (50, 48, 320), (50, 49, 320), (50, 63, 160),
   (51, 61, 320), (52, 62, 320), (51, 53, 160), (52, 54, 160), (61, 53, 640), (61, 55, 640), (62, 54, 640), (62, 56, 640)] ++
  (List.range 4).flatMap (fun z => [(53 + z, 57 + z, 12800), (53 + z, 63, 3200), (57 + z, 63, 3200)])

/-- A node's couplings. -/
def neighbours (i : Nat) : List (Nat × Nat) :=
  couplings.filterMap (fun (a, b, g) => if a = i then some (b, g) else if b = i then some (a, g) else none)

/-- Heat capacity of a node, tenths of J/K (Table 20-5). -/
def heatCap (i : Nat) : Nat :=
  if i < 16 then 6 else if i < 32 then 5 else if i < 40 then 3 else if i < 48 then 12 else if i < 50 then 10
  else if i = 50 then 3 else if i < 53 then 8 else if i < 57 then 150 else if i < 61 then 600 else if i < 63 then 200 else 100

/-- An FP32 temperature as a multiple of 2⁻¹⁴⁹ °C, exactly. -/
def tempInt (b : Nat) : Int := match FFmt.fp32.dec b with
  | .fin n m e => let v : Int := (m * 2 ^ (e + 149).toNat : Nat); if n then -v else v
  | .nan => 0

/-- The FP32 nearest to a quotient, as a multiple of 2⁻¹⁴⁹ °C. -/
def tempBits (num : Int) (den : Nat) : Nat :=
  (FFmt.fp32.enc ((Fp.quot (Fp.ofInt num) (Fp.ofInt den)).mul (.fin false 1 (-149)))).bits

/-- One sub-step of `num / den` seconds: every node's next temperature from all the present ones (R584). `plate` is the
conductance of the plate to the coolant in 1/16 W/K; `tc` the coolant, 1/16 °C. -/
def subStep (adj : List (List (Nat × Nat))) (p : List Int) (plate : Nat) (tc : Int) (num den : Nat) (ts : Array Int) : Array Int :=
  ((adj.zip p).zipIdx.map (fun (x : (List (Nat × Nat) × Int) × Nat) =>
    let i := x.2
    let t := ts.getD i 0
    let flow := (x.1.1.map (fun (e : Nat × Nat) => (e.2 : Int) * (ts.getD e.1 0 - t))).sum
    let flow := if 57 ≤ i ∧ i < 61 then flow + (5 * plate : Nat) * (tc * 2 ^ 145 - t) else flow
    let d : Nat := den * 10 ^ 8 * heatCap i
    tempInt (tempBits (t * (d : Int) + ((num * 10 : Nat) : Int) * (x.1.2 * 2 ^ 149 + 312500 * flow)) d))).toArray

def subSteps (adj : List (List (Nat × Nat))) (p : List Int) (plate : Nat) (tc : Int) (num den : Nat) : Nat → Array Int → Array Int
  | 0, ts => ts
  | k + 1, ts => subSteps adj p plate tc num den k (subStep adj p plate tc num den ts)

/-- The model advances by `k` steps of `num / den` seconds each with the node powers given. -/
def State.advance (s : State) (p : List Int) (num den k : Nat) : State :=
  let adj := (List.range 64).map neighbours
  let plate := min 16000 (max 160 (s.regF Reg.THM_PLATE_G 15 0))
  let ts := ((List.range 64).map (fun i => tempInt (s.thm.nodes.get i).t)).toArray
  let out := subSteps adj p plate s.thm.coolant num den k ts
  let ns := (List.range 64).foldl (fun (m : Map TNode) i =>
    m.upd i (fun n => { n with t := tempBits (out.getD i 0) 1 })) s.thm.nodes
  { s with thm := { s.thm with nodes := ns } }

/-- The model advances over a gap in steps of at most 4 ms (R586). -/
def State.advanceGap (s : State) (p : List Int) (ns : Nat) : State :=
  let k := (ns + 3999999) / 4000000
  if k = 0 then s else s.advance p ns (k * 10 ^ 9) k

/-- Node powers in Midnight (R586). -/
def midnightPowers : List Int :=
  (List.range 64).map (fun i => if 40 ≤ i ∧ i < 48 then 30000000 else if i = 51 then 50000000 else 0)

/-- Node powers of the last completed round. -/
def State.lastPowers (s : State) : List Int := (List.range 64).map (fun i => (s.thm.nodes.get i).p)

/-- The model's part of a round end: the first round after dawn, or after a long Midnight, sets every node to the coolant
value, or to 45.0 °C when it is missing (R586). -/
def State.modelRound (s : State) (a : Activity) : State :=
  let ps := s.nodePowers a
  let ns := (List.range 64).foldl (fun (m : Map TNode) i => m.upd i (fun n => { n with p := ps.get i })) s.thm.nodes
  let s : State := { s with thm := { s.thm with nodes := ns } }
  if s.thm.started && !s.thm.restart then s.advance s.lastPowers s.hka.roundUs (64 * 10 ^ 6) 64
  else
    let t := (FFmt.fp32.enc (.fin (decide (s.thm.coolant < 0)) s.thm.coolant.natAbs (-4))).bits
    let t := if s.thm.missing && !s.thm.started then (FFmt.fp32.enc (Fp.ofInt 45)).bits else t
    let ns := (List.range 64).foldl (fun (m : Map TNode) i => m.upd i (fun n => { n with t := t })) s.thm.nodes
    { s with thm := { s.thm with started := true, restart := false, nodes := ns } }

/-! ### Steps 5 and 6: levels, the shutdown count and ratio limits (R581, R587–R589) -/

/-- A node's temperature in force: 103.0 °C while it is forced. -/
def TNode.inForce (n : TNode) : Int := if n.forced then 103 * 2 ^ 149 else tempInt n.t

/-- A temperature in force in 1/16 °C. -/
def TNode.sixteenths (n : TNode) : Int := divRne (n.inForce * 16) (2 ^ 149)

def degrees (d : Int) : Int := d * 2 ^ 149

/-- The level that a node takes (Table 20-7). -/
def nextLevel (level : Nat) (t : Int) : Nat :=
  if degrees 115 ≤ t then 3
  else if level = 3 then (if t ≤ degrees 110 then 2 else 3)
  else if level = 2 then (if t ≤ degrees 92 then 0 else if t ≤ degrees 99 then 1 else 2)
  else if degrees 103 ≤ t then 2
  else if level = 1 then (if t ≤ degrees 92 then 0 else 1)
  else if degrees 95 ≤ t then 1 else 0

/-- One junction node's level at a round end; an entry to Warning or to Throttle counts from above too (log entry 106). -/
def State.setLevel (s : State) (i : Nat) : State :=
  let n := s.thm.nodes.get i
  let l := nextLevel n.level n.inForce
  let t := unsigned 16 n.sixteenths
  let s : State := { s with thm := { s.thm with nodes := s.thm.nodes.put i { n with level := l } } }
  let s := if l = n.level then s
    else if l = 2 then s.hkaCount Reg.THM_THROTTLES 1
    else if l = 1 then s.hkaCount Reg.THM_WARNINGS 1 else s
  if l < n.level then s.logEvent 0x8D04 [(1, i), (1, n.level - 1)]
  else if n.level < l then
    if l = 3 then s.logLimited 0x8D03 i (fun _ => [(1, i), (2, t)])
    else if l = 2 then s.logLimited 0x8D02 i (fun _ => [(1, i), (2, t), (1, s.pwr.thermW), (1, s.pwr.thermE)])
    else s.logLimited 0x8D01 i (fun _ => [(1, i), (2, t)])
  else s

/-- The half of a node: 0 none, 1 West, 2 East, 3 both (Table 20-5). -/
def nodeHalf (i : Nat) : Nat :=
  if i < 32 then (if i % 16 < 8 then 1 else 2)
  else if i < 48 then (if i % 8 < 4 then 1 else 2)
  else if i = 50 then 3
  else if i = 48 ∨ i = 51 then 1
  else if i = 49 ∨ i = 52 then 2
  else 0

/-- The hottest of some nodes. -/
def State.hottest (s : State) (l : List Nat) : Option Nat :=
  l.foldl (fun (b : Option Nat) i => match b with
    | none => some i
    | some j => if tempInt (s.thm.nodes.get j).t < tempInt (s.thm.nodes.get i).t then some i else b) none

/-- The shutdown count, and a shutdown confirmed (R589). -/
def State.shutdownCount (s : State) : State :=
  let hot := (List.range 53).filter (fun i => let n := s.thm.nodes.get i; !n.forced && decide (degrees 115 ≤ tempInt n.t))
  match s.hottest hot with
  | none => { s with thm := { s.thm with count := 0 } }
  | some i =>
    let k := min 2 (s.thm.count + 1)
    let s : State := { s with thm := { s.thm with count := k } }
    if k = 2 ∧ !s.thm.shutdown then
      let s : State := { s with thm := { s.thm with shutdown := true }, pwr := { s.pwr with thermtripN := true } }
      (s.logEvent 0xFD01 [(1, i), (2, unsigned 16 (s.thm.nodes.get i).sixteenths), (1, k)]).startShutdown
    else s

/-- A half's thermal ratio limit (R588); `before` are the nodes as the previous round left them. -/
def State.thermLimit (s : State) (before : Map TNode) (half limit : Nat) : Nat :=
  let mine := (List.range 53).filter (fun i => nodeHalf i == half || nodeHalf i == 3)
  let seen := mine.filter (fun i => !(s.thm.nodes.get i).forced)
  let l :=
    if seen.any (fun i => (s.thm.nodes.get i).level == 3) then 1
    else if seen.any (fun i => (s.thm.nodes.get i).level == 2) then
      let fell := match s.hottest seen with
        | some i => decide (degrees 1 ≤ 4 * (tempInt (before.get i).t - tempInt (s.thm.nodes.get i).t))
        | none => false
      if fell then limit else max 1 (limit - 1)
    else min 16 (limit + 1)
  if mine.any (fun i => (s.thm.nodes.get i).forced) then min l (max 1 (s.regF Reg.THM_CTL 8 4)) else l

def State.thermLimits (s : State) (before : Map TNode) : State :=
  let w := s.thermLimit before 1 s.pwr.thermW
  let e := s.thermLimit before 2 s.pwr.thermE
  let steps := b2n (decide (w < s.pwr.thermW)) + b2n (decide (e < s.pwr.thermE))
  let s : State := { s with pwr := { s.pwr with thermW := w, thermE := e } }
  if steps = 0 then s else s.hkaCount Reg.THM_LIMIT_STEPS steps

/-! ### Step 7: publication -/

/-- Arrays of a forced node hold their temperature (R191). -/
def State.holdTemps (s : State) : State :=
  (List.range s.fuses.grade).foldl (fun (s : State) n =>
    let f := (s.thm.nodes.get (16 + s.clusterOf n)).forced
    let c := s.cals.get n
    if f = c.tempHold then s else
    let s : State := { s with cals := s.cals.put n { c with tempHold := f } }
    if f then s.logEvent 0x4303 [(1, n)] else s) s

/-- Stacks take their node's temperature and forcing (R330). -/
def State.takeRefresh (s : State) : State :=
  (List.range s.fuses.stackN).foldl (fun (s : State) t =>
    let n := s.thm.nodes.get (40 + t)
    s.refreshRate t n.sixteenths n.forced) s

/-- The per-round averages of the input: P_exp stands in while channel 0 or 1 is broken (R547, R581). -/
def State.takeInput (s : State) : State :=
  let v := (s.hka.chans.get 0).used
  let i := (s.hka.chans.get 1).used
  let broken := (s.hka.chans.get 0).broken || (s.hka.chans.get 1).broken
  let p := if broken then divRne (s.pExp Chan.used * 16) (10 ^ 10) else divRne (v * i * 16) (10 ^ 8)
  { s with pwr := { s.pwr with
    inV := min 0x1FFFF (divRne v 100).toNat, inI := min 0xFFFF i.toNat, inP := min 0xFFFF p.toNat } }

/-- The next round begins: held entries convert before slot 0, and HKA_INJ writes take effect (R573, R574). -/
def State.nextRound (s : State) : State :=
  let h := s.hka
  let s : State := { s with hka := { h with
    slices := h.slices.mapVals (fun _ x => { x with done := 0, extra := 0, inj := none })
    chans := h.chans.mapVals (fun _ x => { x with reg := none })
    pend := h.held, held := 0, conv := 0, patSlot := if h.role = 1 then 0 else h.patSlot, shared := [] } }
  let s := s.latchInj
  (List.range 4).foldl (fun (s : State) k => s.beginSlot k) s

/-- Every slice with a converter has converted its 16 regular entries (R573). -/
def State.roundDone (s : State) : Bool :=
  (List.range 4).all (fun k => (s.hka.slices.get (s.converterOf k)).retired || (s.hka.slices.get k).done == 16)

/-- What a round end does, in the order of R590. -/
def State.roundEnd (s : State) (a : Activity) (oscPpm : Int) : State :=
  let us := 4000 + 250 * ((List.range 4).map (fun k => (s.hka.slices.get k).extra)).foldl max 0
  let s : State := { s with hka := { s.hka with roundUs := us } }
  let s := (List.range 52).foldl (fun (s : State) c => s.judge c) s
  let s := (s.passRoundEnd).balance
  let s := (s.takeCoolant).setForcing
  let before := s.thm.nodes
  let s := s.modelRound a
  let s := (List.range 53).foldl (fun (s : State) i => s.setLevel i) s
  let s := (s.shutdownCount).thermLimits before
  let s := ((s.holdTemps).takeRefresh).takeInput
  let s : State := { s with
    clk := { s.clk with oscPpm := oscPpm }
    thm := { s.thm with source := s.regF Reg.THM_CTL 9 9 } }
  let s := if bit (s.regN Reg.HKA_CTL) 0 then s else s.count64 Reg.HKA_ROUNDS
  (s.visitRoundEnd).nextRound

/-- ROUND_END (R590). -/
def execRoundEnd (cores conversions sram frieze lanes : List Nat) (oscPpm : Int) (s : State) : Out' :=
  .next (
    if s.pwr.dawn < 4 ∨ s.clk.refLost ∨ (s.domains.get 18).state = 3 ∨ !s.roundDone then s
    else s.roundEnd { cores := cores, conversions := conversions, sram := sram, frieze := frieze, lanes := lanes } oscPpm)

end Sys2Proof.Machine
end

