-- ==== Sys2Proof/Machine/Power.lean ====
section
/-!
DEFINITION. Power, clocks and the dawn sequence (19, R536–R567): supervision of the input, the load governor, planned
shutdown, power states and clocks.
-/
namespace Sys2Proof.Machine
open Sys2Proof

/-- A counter of the PWR block, unless PWR_CTL.freeze holds it (R568). -/
def State.pwrCount (s : State) (off k : Nat) (wide : Bool) : State :=
  if bit (s.regN Reg.PWR_CTL) 1 then s else if wide then s.count64By off k else s.countBy off k

def State.updPwr (s : State) (f : Pwr → Pwr) : State := { s with pwr := f s.pwr }
def State.updClk (s : State) (f : Clk → Clk) : State := { s with clk := f s.clk }
def State.updDomain (s : State) (d : Nat) (f : Domain → Domain) : State := { s with domains := s.domains.upd d f }

/-! ### Cold reset (R15, R540, R550) -/

/-- The rails have collapsed: what fuses, non-volatile memories and the vesper domain hold stays, and everything else
returns to reset. -/
def State.coldReset (s : State) : State :=
  let stores := s.calStores.mapVals (fun _ x => { x with
    slots := x.slots.mapVals (fun _ c => { c with bad := false }), queue := [], fails := 0, hourly := [], hourlyDone := 0, dropped := [] })
  let p : Pwr := { trip := s.pwr.trip, restarts := s.pwr.restarts, lockout := s.pwr.lockout, off := s.pwr.off
                   faultN := s.pwr.faultN, thermtripN := s.pwr.thermtripN }
  { fuses := s.fuses, freeCtr := s.freeCtr, out := s.out, pending := s.pending, calStores := stores, pwr := p
    thm := { shutdown := s.thm.shutdown }
    sec := { banks := s.sec.banks, revoked := s.sec.revoked, store := s.sec.store } }

/-! ### The input and the dawn sequence (R537–R540, R565) -/

/-- The input stage may close on a valid input: no trip waits for its restart, and nothing waits for VIN below 20 V. -/
def State.inputFree (s : State) : Bool :=
  !s.pwr.lockout && !s.pwr.off && !(s.pwr.trip.isSome && s.pwr.faultN)

/-- VIN_VALID_BEGINS: the vesper domain comes up on the RC oscillator. -/
def execVinValidBegins (s : State) : Out' :=
  .next (if s.pwr.dawn = 0 ∧ s.inputFree then
      (s.updPwr (fun p => { p with dawn := 1 })).updClk (fun c => { c with rc := true, stays := false })
    else s)

/-- INPUT_VALID: the cold dawn starts. -/
def execInputValid (s : State) : Out' :=
  .next (if s.pwr.dawn = 1 then s.updPwr (fun p => { p with dawn := 2, dawnKind := 0 }) else s)

/-- RAILS_IN_REGULATION: PWR_GOOD asserts, and fuses, SLOT_ID and straps are sampled (R565, R622). -/
def execRailsInRegulation (slotId strap : Nat) (s : State) : Out' :=
  .next (if s.pwr.dawn = 2 then
      let s : State := { s with fuses := { s.fuses with slotId := slotId % 8, strap := strap % 16 } }
      s.updPwr (fun p => { p with dawn := 3, pwrGood := true })
    else s)

/-- The identity check of a dawn or a wake from Midnight (R593, R594, R605, R610). -/
def State.checkIdentity (s : State) (ok : Bool) : State :=
  let good := ok && (s.storeValue 0).isSome
  let s : State := { s with sec := { s.sec with identity := if good then 1 else 2 } }
  if good then s else { s with weightKeys := {} }

/-- ARM_FLOOR and the adopted hashes are restored (R64, R490, R610). -/
def State.restoreStore (s : State) : State :=
  let s : State := { s with armFloor := (s.storeValue 1).getD 0xFFFFFFFF }
  (List.range 12).foldl (fun (s : State) n =>
    { s with icps := s.icps.upd n (fun p => { p with adopted := BitVec.ofNat 384 ((s.storeValue (storeAdopted n)).getD 0) }) }) s

/-- FRIEZE_PLL_LOCK: device time starts, and the seam hub, the event log and the governor run. -/
def execFriezePllLock (identityOk : Bool) (s : State) : Out' :=
  .next (if s.pwr.dawn = 3 then
      let s : State := { s with time := 0, timeRuns := true }
      let s := (s.updPwr (fun p => { p with dawn := 4, env := 0 })).updClk (fun c => { c with frieze := true })
      let s := ((s.checkIdentity identityOk).renewNonce).restoreStore
      let s := s.latchInj
      match s.pwr.trip with
      | some (cause, value) =>
        (s.updPwr (fun p => { p with trip := none })).logEvent 0xFC01 [(4, value), (1, cause)]
      | none => s
    else s)

/-- CORE_PLL_LOCK: the core clocks start at ratio 1/16, and the scratchpads and cluster memories are zeroed (R281). -/
def execCorePllLock (s : State) : Out' :=
  .next (if s.pwr.dawn = 4 ∧ !s.clk.refLost then
      let s := s.updPwr (fun p => { p with dawn := 5, govW := 1, govE := 1, ratioW := 1, ratioE := 1 })
      let s := s.updClk (fun c => { c with west := true, east := true })
      { s with
        cores := s.cores.mapVals (fun _ c => { c with spm := {}, poison := {} })
        clusters := s.clusters.mapVals (fun _ c => { c with mem := {}, poison := {} }) }
    else s)

/-- DAWN_COMPLETE: the stacks are zeroed but at a device reset, and the loader accepts LOAD (R565, R567). -/
def execDawnComplete (us : Nat) (s : State) : Out' :=
  .next (if s.pwr.dawn = 5 then
      let s := s.updPwr (fun p => { p with dawn := 6, dawnUs := us % 2 ^ 32 })
      let s := (List.range s.fuses.stackN).foldl (fun (s : State) t => s.updPed t (fun p =>
        let p := if s.pwr.dawnKind = 0 then { p with mem := {}, poison := {} } else p
        if p.state = 0 then { p with state := 1 } else p)) s
      let s := s.logEvent 0x1C02 [(4, us), (1, b2n s.clk.rc), (1, s.pwr.dawnKind)]
      match s.pwr.resetBy with
      | some p => (s.updPwr (fun x => { x with resetBy := none })).logEvent 0x1A03 [(1, p)]
      | none => s
    else s)

/-- INPUT_OUT_OF_RANGE: a warning of Table 19-2; a low input also limits the current. -/
def execInputOutOfRange (mv : Nat) (high : Bool) (s : State) : Out' :=
  .next (if s.pwr.dawn = 0 then s else
    let s := s.updPwr (fun p => { p with warning := true, lowInput := !high })
    if s.pwr.dawn < 4 then s
    else (s.logLimited 0x8C02 0 (fun _ => [(4, mv), (1, b2n high)])).injSource 0)

/-- INPUT_WARNING_CLEARED (R540). -/
def execInputWarningCleared (s : State) : Out' := .next (s.updPwr (fun p => { p with warning := false, lowInput := false }))

/-- INPUT_TRIP: the input stage opens and every rail collapses; the vesper domain holds the cause: 0 undervoltage,
1 overvoltage, 2 overcurrent, 3 intermediate bus. -/
def execInputTrip (value cause : Nat) (s : State) : Out' :=
  .next (if s.pwr.dawn < 2 then s
    else s.coldReset.updPwr (fun p => { p with trip := some (cause, value), faultN := true }))

/-- TRIP_RESTART: the input has been valid for 1 s after a trip, at vesper time `now` in ms; at most three restarts are
made in any 60 s. -/
def execTripRestart (now : Nat) (s : State) : Out' :=
  .next (
    let p := s.pwr
    if p.dawn ≠ 0 ∨ p.trip.isNone ∨ !p.faultN ∨ p.lockout ∨ p.off then s else
    let recent := p.restarts.filter (fun t => decide (now < t + 60000))
    if 3 ≤ recent.length then s.updPwr (fun p => { p with restarts := recent, lockout := true })
    else
      (s.updPwr (fun p => { p with restarts := recent ++ [now], dawn := 2, dawnKind := 0 })).updClk (fun c => { c with rc := true, stays := false }))

/-- VIN_BELOW_20V: the input has been gone for 100 ms. The vesper domain has lost power, so a held cause is no longer
known, and what waits for it is released. -/
def execVinBelow20V (s : State) : Out' :=
  .next (
    let s := s.coldReset
    let s : State := { s with thm := {} }
    s.updPwr (fun p => { p with
      trip := p.trip.map (fun _ => (4, 0)), faultN := false, thermtripN := false, lockout := false, off := false, restarts := [] }))

/-! ### Rails (R541, R542) -/

/-- Phases that a rail can lose before it can no longer carry its rating: one. -/
def State.railLimit (s : State) (r : Nat) : Option Nat :=
  let n := (railPhases[r]?).getD 1 - 1
  let lost := s.pwr.lost.get r
  if lost < 2 then none
  else some ((railVolts[r]?).getD 0 * (railAmps[r]?).getD 0 * (n + 1 - lost) / (n * 10 ^ 8))

/-- POWER_PHASE_LOST: cause 0 current, 1 temperature, 2 switching. -/
def execPowerPhaseLost (rail phase cause : Nat) (s : State) : Out' :=
  .next (
    let n := (railPhases[rail]?).getD 0
    if s.pwr.dawn < 4 ∨ rail = 0 ∨ 10 < rail ∨ n ≤ s.pwr.lost.get rail then s else
    let s := s.updPwr (fun p => { p with lost := p.lost.upd rail (· + 1) })
    let s := (s.pwrCount Reg.PWR_PHASE_LOST 1 false).logEvent 0x3C01 [(1, rail), (1, phase), (1, cause)]
    let k := s.pwr.lost.get rail
    let s := if k = 2 then s.logEvent 0x4C01 [(1, rail), (1, n - k)] else s
    s.injSource 1)

/-! ### The load governor (R543–R549) -/

/-- ramp: POWER.ramp_w_ms of the sealed image, or 200 W/ms. -/
def State.ramp (s : State) : Nat := if s.img.isSealed then s.img.power.rampWMs else 200

/-- E_max in 1/100 W (R546). -/
def State.eMax (s : State) : Nat := 2000 + Nat.sqrt (20 * s.ramp * s.pwr.reservoir)

/-- The effective cap, W (R547). -/
def State.effCap (s : State) : Nat :=
  let own := if s.img.isSealed then s.img.power.capW else s.fuses.maxPower
  let m := s.regF Reg.PWR_MGMT_CAP 15 0
  let c := if m = 0 then own else min own m
  (List.range 11).foldl (fun (c : Nat) r => match s.railLimit r with
    | some w => min c w
    | none => c) c

/-- What limits load below demand: the cause given, or the envelope's own (0 ramp, 1 ballast). -/
def limitCause (given : Option Nat) (demand eMax env : Nat) : Option Nat :=
  match given with
  | some c => some c
  | none => if eMax < 100 * demand then some 1 else if env < 100 * demand then some 0 else none

/-- Ballast and reservoir after a tick of 10 µs (R545, R546). -/
def State.ballastTick (s : State) : State :=
  let w := min 700 (s.pwr.env / 100 - s.pwr.load)
  let was := s.pwr.reservoir
  let res := if w = 0 then min 1200000 (was + 600) else was - 10 * w
  let uj := s.pwr.ballastUj + 10 * w
  let s := s.updPwr (fun p => { p with ballast := w, reservoir := res, ballastUj := uj % 1000 })
  let s := if uj < 1000 then s else s.pwrCount Reg.PWR_BALLAST_MJ (uj / 1000) true
  if 300000 ≤ was ∧ res < 300000 then s.injSource 3 else s

/-- GOVERNOR_TICK: the envelope moves towards the demand by at most the ramp, and the governor's limits are set. `demand`
and `load` in W; `limit` is a limit of R547 that holds the load below the demand (2 cap, 3 half cap, 4 share, 5 rail);
`paces` are the instances paced, in sixteenths. -/
def execGovernorTick (demand load govW govE : Nat) (limit : Option Nat) (paces : List (Nat × Nat)) (s : State) : Out' :=
  .next (
    if s.pwr.dawn < 4 ∨ s.clk.refLost ∨ !s.clk.frieze then s else
    let want := if s.pwr.shutting then 0 else 100 * demand
    let e := s.pwr.env
    let moved := if e ≤ want then min want (e + s.ramp) else max want (e - s.ramp)
    let top := s.eMax
    let env := min moved top
    let hold := fun (k : Nat) => if s.pwr.shutting then 1 else max 1 (min 16 k)
    let s := s.updPwr (fun p => { p with
      env := env, demand := demand, load := load, govW := hold govW, govE := hold govE
      sharePace := paces.foldl (fun (m : Map Nat) x => m.put x.1 x.2) {} })
    let s := s.ballastTick
    if s.pwr.shutting then s else
    match limitCause limit demand top env with
    | none => s
    | some c =>
      (s.pwrCount Reg.PWR_LIMIT_NS 10000 true).logLimited 0x8C01 c (fun n => [(8, 10000 * n), (1, c)]))

/-! ### Planned shutdown (R550) -/

/-- SHUTDOWN: PWR_CMD begins a planned shutdown. -/
def execShutdown (port : Port) (s : State) : Out' := let _ := port; .next (if s.pwr.dawn < 4 then s else s.startShutdown)

/-- SHUTDOWN_RAILS_OFF: the envelope has reached 0; the rails switch off and the input stage opens. -/
def execShutdownRailsOff (s : State) : Out' :=
  .next (if s.pwr.shutting then s.coldReset.updPwr (fun p => { p with off := true }) else s)

/-! ### Power states (R552–R559) -/

/-- wake(s), µs (Table 19-4). -/
def wakeUs (st : Nat) : Nat := ([0, 2, 80, 6000][st]?).getD 0

/-- The half domain of a cluster domain. -/
def halfDomain (c : Nat) : Nat := 16 + c / 8

/-- The domains that a domain lies in. -/
def aboveDomains (d : Nat) : List Nat := if d < 16 then [halfDomain d, 18] else if d < 18 then [18] else []

/-- Logical cores of a cluster. -/
def State.clusterCores (s : State) (c : Nat) : List Nat := (List.range s.fuses.grade).filter (fun n => s.clusterOf n == c)

/-- The next known event, with a hinted time (R556): its kind and device time; kind 0 for none. -/
def State.knownEvent (s : State) (kind next : Nat) : Nat × Nat :=
  match s.pwr.hint with
  | some t => if s.time < t ∧ (kind = 0 ∨ t < next) then (2, t) else (kind, next)
  | none => (kind, next)

/-- A cluster's cores are idle, and it holds nothing in transit and no test slice (R555). -/
def State.clusterIdle (s : State) (c : Nat) : Bool :=
  (s.clusterCores c).all (fun n => match (s.cores.get n).inst with
    | some i => (s.insts.get i).state == 0
    | none => true) &&
  (s.clusters.get c).transit.cells.isEmpty &&
  !s.msgs.any (fun m => nodeRouter m.src == routerOf c || nodeRouter m.dst == routerOf c) &&
  !(List.range 8).any (fun j =>
    let t := s.tests.get j
    let at_ := if 0xF0 ≤ t.target then (s.fuses.reserveCluster[t.target - 0xF0]?).getD 16 else s.clusterOf t.target
    t.inSlice && at_ == c)

/-- The calibration save queues are empty (R195). -/
def State.savesEmpty (s : State) : Bool := [0, 1].all (fun d => (s.calStores.get d).queue.isEmpty)

/-- A domain is eligible for a state other than Noon (R553, R555). -/
def State.eligible (s : State) (d st : Nat) : Bool :=
  let deep := fun (ds : List Nat) => ds.all (fun e => decide (st ≤ (s.domains.get e).state))
  !bit (s.regN Reg.PWR_CTL) 0 && !(s.domains.get d).waking && (st != 3 || s.savesEmpty) &&
    (if d < 16 then s.clusterIdle d
     else if d < 18 then deep ((List.range 8).map (· + 8 * (d - 16)))
     else deep [16, 17] && (st != 3 ||
       ([0, 1].all (fun p => !(s.ports.get p).linkUp) && (List.range 12).all (fun n => (s.icps.get n).state == .dark))))

/-- choose(d, now) of R557: the deepest state whose wake fits before the next known event. `paces` are the governor's times
for the three states, µs. -/
def State.chooseState (s : State) (d kind next : Nat) (paces : List Nat) : Nat :=
  let margin := s.img.power.wakeMarginUs
  let fits := fun (st : Nat) => kind == 0 || decide (s.time + 1000 * (wakeUs st + (paces[st - 1]?).getD 0 + margin) ≤ next)
  ((([3, 2, 1] : List Nat).filter (fun st => decide (st ≤ s.img.power.deepest))).find? (fun st => s.eligible d st && fits st)).getD 0

/-- A domain's state changes: counted, and logged at most once per domain per second (R557). -/
def State.domainTo (s : State) (d st : Nat) : State :=
  let old := (s.domains.get d).state
  let s := s.updDomain d (fun x => { x with state := st, since := s.time })
  (s.pwrCount (Reg.PWR_DOM_ENTRIES d) 1 false).logLimited 0x1C01 d (fun _ => [(1, d), (1, old), (1, st)])

/-- A cluster loses power: every content of it and of its cores is lost (R554, R189, R532). -/
def State.clusterMidnight (s : State) (c : Nat) : State :=
  let s := (s.clusterCores c).foldl (fun (s : State) n =>
    let s := if (s.cals.get n).state = 0 then s else s.abandonTurn n 2
    let s := s.abortTest n
    let s := s.updCal n (fun x => { checkOnly := x.checkOnly, tempHold := x.tempHold, temp := x.temp, due := x.due, next := x.next, front := x.front })
    let s := (List.range 13).foldl (fun (s : State) a => s.updArr n a (fun x =>
      let keep := x.stand && x.standReason == 2
      { retired := x.retired, lastSaved := x.lastSaved, stand := keep, standReason := if keep then 2 else 0
        standPos := if keep then x.standPos else 0 })) s
    let s : State := { s with handoffs := s.handoffs.filter (fun h => h.core != n) }
    s.updCore n (fun x => { inst := x.inst, paired := x.paired, primary := x.primary, partner := x.partner, suspended := x.suspended
                            retired := x.retired, org := x.org, mmInfo := x.mmInfo, mmRatio := x.mmRatio })) s
  let s : State := { s with clusters := s.clusters.put c {} }
  let lost := fun (m : Mirror) => if m.home / 16 = c then ({} : Mirror) else m
  { s with cores := s.cores.mapVals (fun _ x => { x with mirror0 := lost x.mirror0, mirror1 := lost x.mirror1 }) }

/-- The frieze loses power: what is not saved to the vesper domain is lost, secure sessions end, and the stacks refresh
themselves (R330, R554, R597). -/
def State.friezeMidnight (s : State) : State :=
  let s := s.dropSessions (fun _ => true)
  { s with
    peds := s.peds.mapVals (fun _ p => { p with
      selfRefresh := true, program := {}, progLen := 0, entries := {}, descs := {}, descLen := 0, waiting := [], lab := [], fetching := [] })
    engines := {}, grmCache := [], smpRows := {} }

/-- What entering a state does. -/
def State.enterState (s : State) (d st : Nat) : State :=
  let s := s.domainTo d st
  let s := if st < 2 then s
    else if d = 16 then s.updClk (fun c => { c with west := false })
    else if d = 17 then s.updClk (fun c => { c with east := false })
    else if d = 18 then s.updClk (fun c => { c with frieze := false })
    else s
  if st ≠ 3 then s else if d < 16 then s.clusterMidnight d else if d = 18 then s.friezeMidnight else s

/-- POWER_STATE_ENTRY: a domain chooses its state; `kind` and `next` are its next known event (Table 19-11) and device
time. -/
def execPowerStateEntry (domain kind next : Nat) (paces : List Nat) (s : State) : Out' :=
  .next (
    if 18 < domain ∨ s.pwr.dawn < 6 ∨ s.clk.refLost then s else
    let (kind, next) := s.knownEvent kind next
    let s := s.updDomain domain (fun x => { x with nextKind := kind, nextAt := next })
    let st := s.chooseState domain kind next paces
    if (s.domains.get domain).state < st then s.enterState domain st else s)

/-- A domain's wake begins, with those it lies in. -/
def State.wakeDomain (s : State) (d : Nat) : State :=
  (d :: aboveDomains d).foldl (fun (s : State) e =>
    if (s.domains.get e).state = 0 then s else s.updDomain e (fun x => { x with waking := true })) s

/-- WAKE_START: scheduled ahead of the next known event, or at once on a trigger of R558; delayed by the governor or not
(R548). -/
def execWakeStart (domain : Nat) (delayed : Bool) (s : State) : Out' :=
  .next (
    let x := s.domains.get domain
    if 18 < domain ∨ x.state = 0 ∨ x.waking then s else
    let s := (s.wakeDomain domain).updDomain domain (fun x => { x with paced := delayed })
    if delayed then s.pwrCount Reg.PWR_DELAYS 1 false else s)

/-- A cluster wakes from Midnight: its cores are loaded again and their threads start (R380, R554). -/
def State.clusterWake (s : State) (c : Nat) : State :=
  (s.clusterCores c).foldl (fun (s : State) n => match (s.cores.get n).inst with
    | some i => if s.unbacked.get n then s else (s.loadCore n (s.currentPkg i)).startThreads n i
    | none => s) s

/-- The frieze wakes from Midnight (Table 19-9): the identity is checked, the stacks leave self-refresh, the engines are
loaded, and the thermal model takes the time in Midnight (R586). -/
def State.friezeWake (s : State) (spent : Nat) (identityOk : Bool) : State :=
  let s := s.checkIdentity identityOk
  let s : State := { s with peds := s.peds.mapVals (fun _ p => { p with selfRefresh := false }) }
  let s := (List.range 16).foldl (fun (s : State) i => if s.hasInst i then s.loadEngines i (s.currentPkg i) else s) s
  if 60 * 10 ^ 9 < spent then { s with thm := { s.thm with restart := true } }
  else if s.thm.started then s.advanceGap midnightPowers spent else s

/-- WAKE_COMPLETE: a domain reaches Noon. -/
def execWakeComplete (domain us : Nat) (identityOk : Bool) (s : State) : Out' :=
  .next (
    let x := s.domains.get domain
    if 18 < domain ∨ !x.waking ∨ s.clk.refLost then s else
    let spent := s.time - x.since
    let s := s.domainTo domain 0
    let s := s.updDomain domain (fun x => { x with waking := false, paced := false })
    let s := if domain = 16 then s.updClk (fun c => { c with west := true })
      else if domain = 17 then s.updClk (fun c => { c with east := true })
      else if domain = 18 then s.updClk (fun c => { c with frieze := true })
      else s
    if x.state ≠ 3 then s
    else if domain < 16 then s.clusterWake domain
    else if domain = 18 then
      let s := (s.friezeWake spent identityOk).updPwr (fun p => { p with dawnUs := us % 2 ^ 32 })
      s.logEvent 0x1C02 [(4, us), (1, b2n s.clk.rc), (1, 2)]
    else s)

/-! ### Clocks (R562, R564) -/

/-- CRYSTAL_LOCK: the vesper domain moves to the crystal. -/
def execCrystalLock (s : State) : Out' :=
  .next (if s.clk.rc ∧ !s.clk.stays ∧ 0 < s.pwr.dawn then s.updClk (fun c => { c with rc := false }) else s)

/-- CRYSTAL_TIMEOUT: the vesper domain stays on the RC oscillator. -/
def execCrystalTimeout (s : State) : Out' :=
  .next (if s.clk.rc ∧ !s.clk.stays ∧ 2 ≤ s.pwr.dawn then
      (s.updClk (fun c => { c with stays := true })).logEvent 0x4C02 [(1, 0)]
    else s)

/-- CRYSTAL_STOPPED: the vesper domain falls back to the RC oscillator. -/
def execCrystalStopped (s : State) : Out' :=
  .next (if !s.clk.rc ∧ 0 < s.pwr.dawn then
      (s.updClk (fun c => { c with rc := true, stays := true })).logEvent 0x4C02 [(1, 1)]
    else s)

/-- REFERENCE_LOST: every PLL fed from LINK_REFCLK loses lock, and the housekeeping round is discarded (R564, R586). -/
def execReferenceLost (s : State) : Out' :=
  .next (if s.pwr.dawn < 4 ∨ s.clk.refLost then s else
    let s := s.updClk (fun c => { c with refLost := true, lostAt := s.time, frieze := false, west := false, east := false })
    (s.logEvent 0x4C02 [(1, 2)]).nextRound)

/-- REFERENCE_RETURN: the domains wake as from Night, and the thermal model advances over the gap (R564, R586). -/
def execReferenceReturn (s : State) : Out' :=
  .next (if !s.clk.refLost then s else
    let gap := s.time - s.clk.lostAt
    let s := s.updClk (fun c => { c with refLost := false })
    let s := if s.thm.started then s.advanceGap s.lastPowers gap else s
    (List.range 19).foldl (fun (s : State) d => s.updDomain d (fun x =>
      if x.state = 3 then x else { x with state := 2, waking := true, paced := true })) s)

end Sys2Proof.Machine
end

