-- ==== Sys2Proof/Machine/Sampler.lean ====
section
/-!
DEFINITION. The sampler units (15, R428–R437, R444–R446): HANDOFF_SLICE, by which a unit takes a row of logits, and
SAMPLE_ROW_COMPLETE, by which a row's passes yield its token.
-/
namespace Sys2Proof.Machine
open Sys2Proof

/-! ### Drawing a token (R433, R434) -/

/-- What a row comes to: dead, a NaN met, its token, the members of C with their weights, and p over them. -/
structure Drawn where
  dead : Bool := false
  nan : Bool := false
  token : Nat := 0
  ws : List (Nat × Fp) := []
  p : List (Nat × Fp) := []
deriving DecidableEq, Repr, Inhabited

def addFp (a b : Fp) : Fp := (a.add b).r32

/-- The FP32 sequential sum. -/
def seqSum (l : List Fp) : Fp := l.foldl addFp (.fin false 0 0)

/-- The first member of a block whose prefix sum exceeds t (R434): `pre` sums the earlier blocks, `run` this block. -/
def drawIn (pre t : Fp) : Fp → List (Nat × Fp) → Option Nat
  | _, [] => none
  | run, (x, w) :: r =>
    let run' := addFp run w
    if t.lt (addFp pre run') then some x else drawIn pre t run' r

/-- The blocks in order; each adds its pairwise sum to the prefix. -/
def drawBlocks (t : Fp) : Fp → List (List (Nat × Fp)) → Option Nat
  | _, [] => none
  | pre, b :: r =>
    match drawIn pre t (.fin false 0 0) b with
    | some x => some x
    | none => drawBlocks t (addFp pre (sumTree (b.map (·.2)))) r

/-- Members in ascending index cut into blocks of 512 indices. -/
def blocksOf (c : List (Nat × Fp)) : List (List (Nat × Fp)) :=
  let tags := (c.map (fun x => x.1 / 512)).eraseDups
  (tags.mergeSort (fun a b => decide (a ≤ b))).map (fun b => c.filter (fun x => x.1 / 512 == b))

/-- draw(w, C, u) of R434. -/
def drawToken (c : List (Nat × Fp)) (u : Fp) : Nat :=
  let t := (u.mul (sumTree (c.map (·.2)))).r32
  match drawBlocks t (.fin false 0 0) (blocksOf c) with
  | some x => x
  | none => ((c.getLast?).map (·.1)).getD 0

/-- The k members of largest value, lowest index on ties, in ascending index. -/
def topMembers (k : Nat) (c : List (Nat × Fp)) : List (Nat × Fp) :=
  let o := c.mergeSort (fun a b => b.2.lt a.2 || (!a.2.lt b.2 && decide (a.1 ≤ b.1)))
  (o.take k).mergeSort (fun a b => decide (a.1 ≤ b.1))

/-- exp(z − m) in FP32, within the bound of Table 5-9; the same function on every unit (R437). -/
def sampleExp (x : Fp) : Fp :=
  if x.isZero then .fin false 1 0
  else if x.lt (Fp.ofInt (-1000)) then .fin false 0 0
  else
    let e := fxExp (fxOf x)
    (e.near (ulps 2 e) (Config.vecFn 0x80 (FFmt.fp32.enc x).bits 0)).r32

/-- The top-p cut (R433). -/
def topP (pp : Fp) (c : List (Nat × Fp)) : List (Nat × Fp) :=
  let target := (pp.mul (sumTree (c.map (·.2)))).r32
  let keep := fun (tau : Fp) => c.filter (fun x => !x.2.lt tau)
  let vs := (c.map (·.2)).mergeSort (fun a b => !a.lt b)
  match vs.find? (fun tau => !(sumTree ((keep tau).map (·.2))).lt target) with
  | some tau => keep tau
  | none => c

/-- sample_row of R433 over the allowed members of a row, each with its logit's FP32 bits, in ascending index; `cut` keeps
the members of largest weight for a proposal (R445). -/
def sampleRow (a : List (Nat × Nat)) (temp topK topPBits : Nat) (cut : Option Nat) (u : Fp) : Drawn :=
  let vals := a.map (fun (x : Nat × Nat) => (x.1, FFmt.fp32.dec x.2))
  let c := vals.filter (fun x => !x.2.isNan)
  let nan := decide (c.length < a.length)
  match a with
  | [] => { dead := true }
  | (lowest, _) :: _ =>
    if c.isEmpty then { nan := nan, token := lowest }
    else
      let t := FFmt.fp32.dec temp
      if t.isZero then
        let x := (((topMembers 1 c).head?).map (·.1)).getD 0
        { nan := nan, token := x, ws := [(x, .fin false 1 0)], p := [(x, .fin false 1 0)] }
      else
        let z := c.map (fun x => (x.1, (x.2.quot t).r32))
        let m := maxList (z.map (·.2))
        let z := if topK ≠ 0 ∧ topK < z.length then topMembers topK z else z
        let w := z.map (fun x => (x.1, sampleExp (x.2.sub m).r32))
        let pp := FFmt.fp32.dec topPBits
        let w := if !pp.isZero && pp.lt (.fin false 1 0) then topP pp w else w
        let w := match cut with
          | some k => topMembers k w
          | none => w
        let s := sumTree (w.map (·.2))
        { nan := nan, token := drawToken w u, ws := w, p := w.map (fun x => (x.1, (x.2.quot s).r32)) }

/-- The residual weights of R446 against a proposal's pairs. -/
def residual (p : List (Nat × Fp)) (q : List (Nat × Nat)) : List (Nat × Fp) :=
  p.map (fun x =>
    let qx := FFmt.fp32.dec (((q.find? (fun y => y.1 == x.1)).map (·.2)).getD 0)
    let r := (x.2.sub qx).r32
    (x.1, if r.lt (.fin false 0 0) then .fin false 0 0 else r))

/-- e_j of a verify row with a draft after it: drawn from the residual, or from p_j where the residual is zero (R446). -/
def residualToken (d : Drawn) (q : List (Nat × Nat)) (u : Fp) : Nat :=
  let r := residual d.p q
  if (sumTree (r.map (·.2))).isZero then d.token else drawToken r u

/-! ### Handing rows over (R428, R429) -/

/-- The row of an instance's step that a batch row number names. -/
def State.stepRow (s : State) (i row : Nat) : Option StepRow := (s.insts.get i).rows[row]?

/-- The sampler unit of a row in a row buffer. -/
def State.unitOf (s : State) (key : Nat) : Nat :=
  ((s.stepRow (key / 4096) (key % 4096)).map (·.entry % 4)).getD 0

/-- Bytes of a unit's row buffer in use. -/
def State.bufferUsed (s : State) (unit : Nat) : Nat :=
  ((s.smpRows.cells.filter (fun c => s.unitOf c.1 == unit)).map (fun c => 4 * s.vocabOf (c.1 / 4096))).sum

/-- Logits a row has received. -/
def SmpRow.count (r : SmpRow) : Nat := (r.slices.map (·.2.length)).sum

/-- The slice is refused (R429): cause 0 beyond the vocabulary, 1 overlap, 2 row out of range. -/
def State.refuseSlice (s : State) (h : Handoff) (row cause : Nat) : State :=
  let s := s.logEvent 0x6906 [(1, h.core), (2, row), (1, cause)]
  ({ s with handoffs := s.handoffs.filter (fun x => !(x.core == h.core && x.flight == h.flight)) } : State).remoteFault h.core h.flight

/-- One row of a handoff's operand has been taken: SHAND retires when every row has (R429). -/
def State.sliceTaken (s : State) (h : Handoff) : State :=
  let mine := fun (x : Handoff) => x.core == h.core && x.flight == h.flight
  if h.taken + 1 < h.o.rows then
    { s with handoffs := s.handoffs.map (fun (x : Handoff) => if mine x then { x with taken := x.taken + 1 } else x) }
  else ({ s with handoffs := s.handoffs.filter (fun x => !mine x) } : State).retireWake h.core h.flight

/-- The next row of a handoff reaches its unit (R429). -/
def State.takeSlice (s : State) (h : Handoff) (i : Nat) : State :=
  let row := h.row + h.taken
  let v := s.vocabOf i
  let n := h.o.count
  let run := s.insts.get i
  match (if run.state = 1 ∧ !run.ended then s.stepRow i row else none) with
  | none => s.refuseSlice h row 2
  | some r =>
    if v < h.vocab + n then s.refuseSlice h row 0
    else if !r.sample then (s.smpCount (Reg.SMP_DISCARD (r.entry % 4))).sliceTaken h
    else
      let key := seqKey i row
      let have_ := s.smpRows.get key
      let slot := ((run.ents[r.entry]?).map (·.slot)).getD 0
      if ((s.seq i slot).rows.get r.j).done || have_.slices.any (fun (x : Nat × List Nat) =>
          decide (h.vocab < x.1 + x.2.length ∧ x.1 < h.vocab + n)) then s.refuseSlice h row 1
      else if have_.slices.isEmpty && decide (2 ^ 23 < s.bufferUsed (r.entry % 4) + 4 * v) then s
      else
        let m := (s.cores.get h.core).spm
        let f : FFmt := if h.o.type = 0 then .bf16 else .fp32
        let xs := (List.range n).map (fun k =>
          let b := memElem m h.o (h.taken * n + k)
          if f = .bf16 then b * 2 ^ 16 else b)
        ({ s with smpRows := s.smpRows.put key { have_ with slices := have_.slices ++ [(h.vocab, xs)] } } : State).sliceTaken h

/-- HANDOFF_SLICE: a sampler unit takes the next row of a SHAND's operand into its row buffer, or refuses it. A slice for
which the row buffer has no room waits. -/
def execHandoffSlice (core flight : Nat) (s : State) : Out' :=
  .next (match s.handoffs.find? (fun h => h.core == core && h.flight == flight), (s.cores.get core).inst with
    | some h, some i => s.takeSlice h i
    | _, _ => s)

/-! ### A row's passes (R433–R435, R438, R441, R445, R446) -/

/-- The logits of a complete row, in ascending index. -/
def SmpRow.logits (r : SmpRow) : List Nat :=
  (r.slices.mergeSort (fun a b => decide (a.1 ≤ b.1))).flatMap (·.2)

/-- The sequence that a row samples for: its main instance, its slot there, and the tokens drafted before the row's. -/
def State.rowOwner (s : State) (i slot : Nat) : Option (Nat × Nat) :=
  if s.isDraft i then
    let m := s.mainOf i
    ((s.slotsOf m).find? (fun q => (s.seq m q).draftSlot == some slot)).map (fun q => (m, q))
  else some (i, slot)

/-- The grammar state of a row: after the committed tokens and the drafts before it (R445, R446). -/
def State.rowState (s : State) (x : Seq) (n : Nat) : Nat :=
  (s.grammars.get x.desc.grammar).run x.gState ((x.drafts.take n).map (·.token))

/-- A row's allowed tokens below V, as a test; none while its bitset is not held (R438, R441, R442). -/
def State.rowAllowed (s : State) (x : Seq) (n : Nat) : Option (Nat → Bool) ⊕ Nat :=
  match x.desc.mask with
  | 1 => .inl (some (fun t => x.list.contains t))
  | 2 => .inl (some (fun t => !x.list.contains t))
  | 3 => match s.grmAllowed x.desc.grammar (s.rowState x n) with
    | .wait => .inl none
    | .fault k => .inr k
    | .set bs => .inl (some (fun t => bit (((bs[t / 8]?).getD 0).toNat) (t % 8)))
  | _ => .inl (some (fun _ => true))

/-- Cache lines that a state's record and bitset lie in. -/
def State.grmLines (s : State) (g st : Nat) : List Nat :=
  let x := s.grammars.get g
  let span := fun (a n : Nat) => (List.range ((a + n - 1) / 4096 + 1 - a / 4096)).map (a / 4096 + ·)
  let rec_ := span (64 + 16 * st) 16
  match s.grmRecord g st with
  | some b => (rec_ ++ span (x.bitsetOff + b * bitsetSize x.vocab) (bitsetSize x.vocab)).eraseDups
  | none => rec_

/-- A row's state and bitset are found in the cache: its lines become the most recently used. -/
def State.grmTouch (s : State) (g st : Nat) : State :=
  let ls := s.grmLines g st
  let mine := fun (l : GrmLine) => l.slot == g && ls.contains l.line
  ({ s with grmCache := s.grmCache.filter mine ++ s.grmCache.filter (fun l => !mine l) } : State).smpCount64 Reg.GRM_CACHE_HIT ls.length

/-- Sampler cycles of a row (R435): one to four select passes, a free value, where a cut is in force. -/
def rowCycles (d : Desc) (v : Nat) (resid : Bool) (n : Nat) : Nat :=
  let hot := !(FFmt.fp32.dec d.temperature).isZero
  let pp := FFmt.fp32.dec d.topP
  let cut := hot && (d.topK != 0 || (!pp.isZero && pp.lt (.fin false 1 0)))
  (1 + (if hot then 2 else 0) + (if cut then 1 + n % 4 else 0) + (if resid then 2 else 0)) * ceilDiv v 512 + 64

/-- Counters and events of a row that has been sampled (R433, R444, R449). -/
def State.rowCounts (s : State) (i unit cycles : Nat) (nan dead : Bool) : State :=
  let s := (s.smpCount64 (Reg.SMP_ROWS unit) 1).smpCount64 (Reg.SMP_BUSY unit) cycles
  let s := if nan then (s.smpCount (Reg.SMP_NAN unit)).logLimited 0x4903 i (fun n => [(1, i), (1, unit), (4, n)]) else s
  if dead then (s.smpCount (Reg.SMP_DEAD unit)).logLimited 0x5906 i (fun n => [(1, i), (4, n)]) else s

/-- The states that a row's outcome makes tentative are fetched as soon as they are known (R442). -/
def State.fetchTentative (s : State) (m q : Nat) : State :=
  let x := s.seq m q
  if x.desc.mask = 3 then s.grmFetch x.desc.grammar (s.rowState x x.drafts.length) else s

/-- A complete row's outcome: for a main instance the row's token and pd, for a draft instance the next proposal. -/
def State.rowDone (s : State) (i row : Nat) (r : StepRow) (slot m q : Nat) (allowed : Nat → Bool) (dead : Bool) : State :=
  let x := s.seq m q
  let d := x.desc
  let draft := s.isDraft i
  let logits := ((s.smpRows.get (seqKey i row)).logits).zipIdx.map (fun (p : Nat × Nat) => (p.2, p.1))
  let a := if dead then [] else logits.filter (fun p => allowed p.1)
  let u := variate d.seed d.tag (r.pos + 1) (if draft then 2 else 1)
  let out := sampleRow a d.temperature d.topK d.topP (if draft then some 32 else none) u
  let next := x.drafts[r.j]?
  let ent := (s.insts.get i).ents[r.entry]?
  let resid := !draft && decide (r.j < (ent.map (fun e => if e.kind = 2 then e.k else 0)).getD 0)
  let s := s.draw
  let s := s.rowCounts i (r.entry % 4) (rowCycles d (s.vocabOf i) resid (Config.free s.freeCtr)) out.nan out.dead
  let s := { s with smpRows := s.smpRows.put (seqKey i row) {} }
  if draft then
    let s := s.updSeq i slot (fun y => { y with rows := y.rows.put r.j { done := true, dead := out.dead } })
    let s := if out.dead then s else s.updSeq m q (fun y => { y with drafts := y.drafts ++
      [{ token := out.token, pairs := out.p.map (fun p => (p.1, (FFmt.fp32.enc p.2).bits)) }] })
    s.fetchTentative m q
  else
    let res : RowResult := match resid, next with
      | true, some pr =>
        { done := true, dead := out.dead, token := residualToken out pr.pairs u
          pd := ((out.p.find? (fun p => p.1 == pr.token)).map (fun p => (FFmt.fp32.enc p.2).bits)).getD 0 }
      | _, _ => { done := true, dead := out.dead, token := out.token }
    s.updSeq i slot (fun y => { y with nan := y.nan || out.nan, rows := y.rows.put r.j res })

/-- SAMPLE_ROW_COMPLETE: the unit finishes a complete row's passes (R433, R435). A row whose bitset is not yet cached
waits for it (R442); an index out of range makes it a dead end (R440). -/
def execSampleRowComplete (inst row : Nat) (s : State) : Out' :=
  .next (
    match s.stepRow inst row with
    | none => s
    | some r =>
      let have_ := s.smpRows.get (seqKey inst row)
      let slot := (((s.insts.get inst).ents[r.entry]?).map (·.slot)).getD 0
      match s.rowOwner inst slot with
      | none => s
      | some (m, q) =>
        let x := s.seq m q
        if (s.insts.get inst).state ≠ 1 ∨ !r.sample ∨ have_.slices.isEmpty ∨ have_.count < s.vocabOf inst then s else
        let n := if s.isDraft inst then x.drafts.length else r.j
        let s := match s.rowAllowed x n with
          | .inl none => s.grmFetch x.desc.grammar (s.rowState x n)
          | .inl (some f) =>
            let s := if x.desc.mask = 3 then s.grmTouch x.desc.grammar (s.rowState x n) else s
            s.rowDone inst row r slot m q f false
          | .inr k =>
            (s.logEvent 0x4904 [(1, x.desc.grammar), (2, s.rowState x n), (4, k)]).rowDone inst row r slot m q (fun _ => false) true
        s.stepCheck inst)

end Sys2Proof.Machine
end

