-- ==== Sys2Proof/Machine/Tile.lean ====
section
/-!
DEFINITION. Tile boundaries (03, R101–R104; 10, R312; 19, R561), test reads of arrays (R105) and host access to
scratchpads (09, R289).
-/
namespace Sys2Proof.Machine
open Sys2Proof

/-! ### Plane swaps (R101) -/

/-- An array exchanges its planes. -/
def Arr.swapped (x : Arr) : Arr :=
  let q := x.queue.map (fun (k : Strike) => { k with afterSwap := false })
  let y : Arr := { x with front := 1 - x.front, swapPending := false, queue := q }
  y.setFront { y.frontPlane with loaded := false }

/-- The swaps of a position that PSWAPs asked for have been taken; a PSWAP with none left retires (R246). -/
def State.swapTaken (s : State) (n p : Nat) : State :=
  let s := s.updCore n (fun c => { c with flights := c.flights.map (fun f => match f.kind with
    | .swap m => if bit m p then { f with kind := .swap (m - 2 ^ p) } else f
    | _ => f) })
  ((s.cores.get n).flights.filter (fun f => f.kind == .swap 0)).foldl (fun (s : State) f => s.retireWake n f.id) s

/-- The plane swap of an array, and of its calibration partner (R174). A check, or a comparison, in progress there is
abandoned (R125). -/
def State.swapArr (s : State) (n a : Nat) : State :=
  let pos := if a = 12 then (s.arr n 12).standPos else a
  let both := a :: (s.partnerArr n a).toList
  let s := both.foldl (fun (s : State) b => (s.abandonCheck n b).updArr n b Arr.swapped) s
  let s := if (s.partnerArr n a).isSome then s.updCal n (fun c => { c with cmp := none }) else s
  s.swapTaken n pos

/-- The swap that is due at a tile boundary, or a cycle of waiting for its load (R102). -/
def State.swapBoundary (s : State) (n a : Nat) : State :=
  let x := s.arr n a
  if !x.swapPending then s
  else if x.swapReady then s.swapArr n a
  else s.arrCount n a (Reg.ARR_PLOAD_STALL n a) 1 false

/-! ### Temperature, clocks and pacing (R104, R190, R312, R561) -/

/-- The core's temperature follows its cluster's array node unless it is held. -/
def State.takeTemp (s : State) (n : Nat) : State :=
  let t := (s.thm.nodes.get (16 + s.clusterOf n)).sixteenths
  if s.thm.started && !(s.cals.get n).tempHold then s.updCal n (fun c => { c with temp := t }) else s

/-- No strike is in progress in a half. -/
def State.halfQuiet (s : State) (half : Nat) : Bool :=
  s.arrays.cells.all (fun c => halfOf s.fuses.grade (c.1 / 16) != half || (c.2.driven.isEmpty && c.2.waiting.isEmpty))

/-- The half's clock takes the least of its limits. -/
def State.takeRatio (s : State) (half : Nat) : State :=
  if !s.halfQuiet half then s
  else if half = 0 then { s with pwr := { s.pwr with ratioW := min 16 (min s.pwr.govW s.pwr.thermW) } }
  else { s with pwr := { s.pwr with ratioE := min 16 (min s.pwr.govE s.pwr.thermE) } }

/-- Seam pacing of the core's instance starts or stops. -/
def State.takePacing (s : State) (n : Nat) : State :=
  match (s.cores.get n).inst with
  | none => s
  | some i =>
    let w := s.pwr.ratioW
    let e := s.pwr.ratioE
    let span := ((s.img.insts.get i).getD {}).inst.seamSpan
    let on := span && w != e
    if on = s.paced.get i then s
    else ({ s with paced := s.paced.put i on } : State).logEvent 0x1601 [(1, i), (1, w), (1, e), (1, b2n (!on))]

/-- TILE_BOUNDARY: every strike of the tile is complete at the array. A swap comes before a calibration takeover or return
(R103). -/
def execTileBoundary (core pos : Nat) (s : State) : Out' :=
  .next (
    let x := s.arr core pos
    if s.fuses.grade ≤ core ∨ 12 < pos ∨ !x.driven.isEmpty ∨ !x.waiting.isEmpty ∨ !x.urgent.isEmpty ∨ !x.queue.all (·.afterSwap) then s
    else
      let s := (s.swapBoundary core pos).calBoundary core pos
      let s := s.takeTemp core
      (s.takeRatio (halfOf s.fuses.grade core)).takePacing core)

/-! ### Test reads (R105) -/

/-- A write of ARR_TEST_CTL(a): a read of one row of a physical plane starts, or is refused. -/
def State.testRead (s : State) (n a value : Nat) : State :=
  let pl := bits value 16 16
  let r := bits value 8 0
  if s.testReadOk n a (s.debugOpen 2) then
    s.updArr n a (fun x => { x with testPending := some (pl, r), testDone := false, testRefused := false })
  else
    (s.updArr n a (fun x => { x with testDone := false, testRefused := true, testPending := none })).logEvent
      0x6101 [(1, n), (1, a), (2, r)]

def execArrayTestRead (core pos value : Nat) (s : State) : Out' :=
  .next (if s.fuses.grade ≤ core ∨ 12 < pos then s else s.testRead core pos value)

/-! ### Host access to scratchpads (R289) -/

/-- The host may read and write the core's scratchpads. -/
def State.spmOpen (s : State) (n : Nat) : Bool :=
  ((s.cores.get n).org == .free || (s.cores.get n).org == .unified) && s.debugOpen 2

/-- An access is refused. -/
def State.spmRefused (s : State) (n : Nat) (port : Port) : State :=
  (s.updCore n (fun c => { c with accRefused := true })).logEvent 0x6501 [(1, n), (1, port.num)]

/-- The word that SPM_ACC_ADDR addresses, as a byte offset; there is none beyond the last unified word. -/
def spmWord (value : Nat) : Option Nat :=
  let o := 8 * bits value 20 3
  if o < 0x180000 then some o else none

/-- A write of SPM_ACC_ADDR. -/
def State.spmAddr (s : State) (n : Nat) (port : Port) (value : Nat) : State :=
  let s := s.setRegN (Reg.SPM_ACC_ADDR n) (8 * bits value 20 3)
  if !s.spmOpen n then s.spmRefused n port else
  let v := match spmWord value with
    | some o => leNat ((s.cores.get n).spm.bytes o 8)
    | none => 0
  (s.setReg64 (Reg.SPM_ACC_DATA_LO n) v).updCore n (fun c => { c with accRefused := false })

def execSpmAccAddrWrite (core : Nat) (port : Port) (value : Nat) (s : State) : Out' :=
  .next (if s.fuses.grade ≤ core then s else s.spmAddr core port value)

/-- Key of a port's latch or held word for a register (R19). -/
def portKey (port : Port) (off : Nat) : Nat := 2 ^ 32 * port.num + off

/-- The 64-bit value that a write of a high register makes: the port's held low word, or the register's own (R19). -/
def State.heldPair (s : State) (port : Port) (lo : Nat) (high : Nat) : Nat :=
  ((s.heldLow.get (portKey port lo)).getD (s.reg lo)).toNat + 2 ^ 32 * (high % 2 ^ 32)

/-- A write of SPM_ACC_DATA_HI. -/
def State.spmData (s : State) (n : Nat) (port : Port) (value : Nat) : State :=
  let lo := Reg.SPM_ACC_DATA_LO n
  let v := s.heldPair port lo value
  let s : State := { s with heldLow := s.heldLow.put (portKey port lo) none }
  if !s.spmOpen n then s.spmRefused n port else
  let s := s.setReg64 lo v
  s.updCore n (fun c =>
    let c := { c with accRefused := false }
    match spmWord (s.regN (Reg.SPM_ACC_ADDR n)) with
    | some o => { c with spm := c.spm.store o (leBytes 8 v), poison := c.poison.put (o / 8) false }
    | none => c)

def execSpmAccDataHiWrite (core : Nat) (port : Port) (value : Nat) (s : State) : Out' :=
  .next (if s.fuses.grade ≤ core then s else s.spmData core port value)

/-! ### The fatal record (18, R526) -/

/-- A write of FLT_FATAL_COUNT: 0 clears the record and the count; any other value is ignored. -/
def State.fatalWrite (s : State) (value : Nat) : State :=
  if value = 0 then
    { s with
      log := { s.log with fatal := [] }
      regs := s.regs.keep (fun k _ => decide (k < Reg.FLT_FATAL 0 0 ∨ Reg.FLT_FATAL 16 0 ≤ k)) }
  else s

def execFatalCountWrite (port : Port) (value : Nat) (s : State) : Out' := let _ := port; .next (s.fatalWrite value)

end Sys2Proof.Machine
end

