-- ==== Sys2Proof/Machine/RegRead.lean ====
section
/-!
DEFINITION. What a register read returns (00 R13–R19, and the register tables of every chapter): a stored register's value,
or for a register that shows state, the fields its table gives. Offsets are relative to the block the function is of.
-/
namespace Sys2Proof.Machine
open Sys2Proof

/-- Bytes 4k to 4k + 3 of a hash. -/
def hashWord (h : BitVec 384) (k : Nat) : Nat := leField (hashBytes h) (4 * k) 4

/-- A signed value as a 16-bit field. -/
def sField (i : Int) : Nat := unsigned 16 i

/-- The sum of 2^k over the numbers below `n` that satisfy `p`. -/
def bitMap (n : Nat) (p : Nat → Bool) : Nat := ((List.range n).map (fun k => if p k then 2 ^ k else 0)).sum

/-- The port whose selection registers a read uses: the management port and the ring use port A's (R473, log entry 50). -/
def selPort : Port → Nat
  | .b => 1
  | _ => 0

def LoaderState.code : LoaderState → Nat
  | .idle => 0 | .loading => 1 | .validating => 2 | .staged => 3 | .sealing => 4
def SeqState.code : SeqState → Nat
  | .free => 0 | .waiting => 1 | .active => 2 | .paused => 3 | .spilling => 4 | .spilled => 5 | .restoring => 6 | .retiring => 7
def PfxState.code : PfxState → Nat
  | .empty => 0 | .loading => 1 | .ready => 2 | .draining => 3
def GrmState.code : GrmState → Nat
  | .empty => 0 | .loading => 1 | .ready => 2 | .draining => 3
def OrgState.code : OrgState → Nat
  | .free => 0 | .normal => 1 | .draining => 2 | .unified => 3 | .restoring => 4
def IcpState.code : IcpState → Nat
  | .dark => 0 | .training => 1 | .hello => 2 | .auth => 3 | .quarantine => 4 | .active => 5 | .degraded => 6

/-! ### DEV and ARM (01, 02) -/

/-- DEV (Tables 1-6 to 1-12). -/
def State.devReg (s : State) (o : Nat) : Option Nat :=
  if o = 0 then some s.fuses.devId
  else if o < 0x20 then some (s.fuses.cap (o / 4 - 1))
  else some (s.fuses.clusterMap ((o - 0x40) / 4))

/-- The logical cores an instance owns, as its INSTANCE record gives them. -/
def InstanceRec.coreCount (r : InstanceRec) : Nat := popCount 192 r.coreMap.toNat

/-- ARM_INST(i) (Table 2-19). -/
def State.armInst (s : State) (i : Nat) : Nat :=
  match s.img.insts.get i with
  | none => 0
  | some x => 2 ^ 31 + fld (b2n (x.inst.kind == 1)) 30 1 + fld (b2n x.inst.seamSpan) 29 1 + fld x.inst.modelSlot 24 4 +
      fld (if x.inst.kind = 1 then x.inst.draftFor else 0xFF) 16 8 + fld x.inst.coreCount 0 16

/-- ARM (Tables 2-17 to 2-19). -/
def State.armReg (s : State) (o : Nat) : Option Nat :=
  if o = 0x04 then some (fld s.arm.lastStatus 24 8 + fld s.arm.owner 15 1 + fld (b2n s.arm.staged.isPartial) 14 1 +
    fld (b2n s.img.isSealed) 3 1 + s.arm.state.code)
  else if o = 0x14 then some (fld s.arm.errOff 0 25)
  else if o = 0x18 then some s.img.serial
  else if o = 0x1C then some s.armFloor
  else if o = 0x20 then some (bitMap 16 (fun i => s.hasInst i))
  else if 0x40 ≤ o ∧ o < 0x70 then some (if s.img.isSealed then hashWord s.img.hash ((o - 0x40) / 4) else 0)
  else if 0x80 ≤ o then some (s.armInst ((o - 0x80) / 4))
  else none

/-! ### SCH and SMP (14, 15) -/

/-- The instance and slot that a port's SCH_SEQ_SEL names. -/
def State.seqSel (s : State) (port : Port) : Nat × Nat :=
  let v := s.regN (Reg.SCH_SEQ_SEL (selPort port))
  (bits v 19 16, bits v 11 0)

/-- SCH_SEQ_STAT (Table 14-13). -/
def Seq.stat (x : Seq) : Nat :=
  fld x.state.code 29 3 + fld (b2n x.draftSlot.isSome) 28 1 + fld x.desc.ring 26 2 + fld x.desc.priority 23 3 +
    fld x.effective 20 3 + fld x.kCur 16 4 + fld x.plainLeft 11 5 + fld x.lastStatus 0 8

/-- SCH_INST_STAT(i) (Table 14-17). -/
def State.instStat (s : State) (i : Nat) : Nat :=
  let r := s.insts.get i
  fld r.state 30 2 + fld (b2n (s.heldSeal.get i)) 29 1 + fld (b2n r.heldCmd) 28 1 + fld (b2n r.expelled) 27 1 +
    fld r.stallCause 24 3 + fld r.draftMax 16 8 + fld r.subBatches 12 4

/-- Slots of an instance in one of some states. -/
def State.slotsIn (s : State) (i : Nat) (p : SeqState → Bool) : Nat :=
  ((s.slotsOf i).filter (fun q => p (s.seq i q).state)).length

/-- SCH (Tables 14-11 to 14-17). -/
def State.schReg (s : State) (port : Port) (o : Nat) : Option Nat :=
  let (i, q) := s.seqSel port
  if o = 0x04 then some (2 ^ 16 * bitMap 16 (fun i => (s.insts.get i).state == 3) + bitMap 16 (fun i => (s.insts.get i).state == 1))
  else if o = 0x0C then some (fld s.schStatus 24 8 + fld s.schCmd 0 4)
  else if o = 0x90 then some (s.seq i q).stat
  else if o = 0x94 then some (fld (s.seq i q).len 0 19)
  else if o = 0x98 then some ((s.seq i q).desc.tag % 2 ^ 32)
  else if o = 0x9C then some ((s.seq i q).desc.tag / 2 ^ 32)
  else if o = 0xA0 then some (s.seq i q).emitted
  else if 0x100 ≤ o ∧ o < 0x180 ∧ o % 0x20 = 0x14 then
    let r := s.subRings.get ((o - 0x100) / 0x20)
    some (fld (b2n r.ready) 31 1 + fld (b2n r.fetchError) 30 1 +
      fld (if r.ready then ((r.desc).map (·.inst)).getD 0 else 0) 16 4)
  else if 0x200 ≤ o ∧ o < 0x280 ∧ o % 0x20 = 0x1C then
    let r := s.recRings.get ((o - 0x200) / 0x20)
    some (fld r.blocked 16 16 + fld r.queue.length 0 13)
  else if 0x400 ≤ o then
    let i := (o - 0x400) / 0x40
    let r := s.insts.get i
    match o % 0x40 with
    | 0x00 => some (s.instStat i)
    | 0x10 => some (min 0xFFFFFFFF r.lastNs)
    | 0x14 => some (fld (s.residents i).length 16 13 + fld r.lastSeqs 0 13)
    | 0x30 => some (fld (s.slotsIn i (fun x => x == .paused || x == .spilling || x == .spilled || x == .restoring)) 16 13 +
        fld (s.slotsIn i (· == .waiting)) 0 13)
    | _ => none
  else none

/-- The sampler unit that a handoff's next row goes to. -/
def State.handoffUnit (s : State) (h : Handoff) : Nat :=
  match (s.cores.get h.core).inst with
  | some i => ((s.stepRow i (h.row + h.taken)).map (·.entry % 4)).getD 0
  | none => 0

/-- GRM_STAT(g) (Table 15-10). -/
def Grammar.stat (g : Grammar) : Nat :=
  fld g.lastStatus 24 8 + fld g.state.code 22 2 + fld g.owner 21 1 + fld g.states 0 17

/-- SMP and GRM (Tables 15-9 and 15-10). -/
def State.smpReg (s : State) (port : Port) (o : Nat) : Option Nat :=
  if o < 0x10 then
    let u := o / 4
    some (fld (s.smpRows.cells.filter (fun c => s.unitOf c.1 == u)).length 24 8 +
      fld (min 255 (s.handoffs.filter (fun h => s.handoffUnit h == u)).length) 16 8)
  else if o = 0x820 then
    let (i, q) := s.seqSel port
    some (fld (s.seq i q).desc.grammar 16 6 + fld (s.seq i q).gState 0 16)
  else if 0x1000 ≤ o then
    let g := s.grammars.get ((o - 0x1000) / 0x20)
    match o % 0x20 with
    | 0x14 => some g.stat
    | 0x18 => some (fld g.refs 0 13)
    | _ => none
  else none

/-! ### WLD and FMT (13, 05) -/

/-- WLD_SLOT_STAT(k) (Table 13-10). -/
def WSlot.stat (w : WSlot) : Nat :=
  fld w.lastStatus 24 8 + fld w.lastInst 20 4 + fld (if w.state = 2 then w.pkg.keySlot else 0) 8 8 + fld w.state 0 2

/-- WLD_INST_STAT(i) (Table 13-11). -/
def WInst.stat (w : WInst) : Nat :=
  fld w.lastStatus 24 8 + fld (b2n w.shape.isSome) 23 1 + fld (b2n w.pending.isSome) 22 1 +
    fld (b2n (w.pending.any (·.nextStep))) 21 1 + fld (b2n w.draining.isSome) 20 1 + fld (w.draining.getD 0) 17 3 +
    fld ((w.pending.map (·.slot)).getD 0) 14 3 + fld w.current 11 3 + fld ((w.shape.map (·.nsp)).getD 0) 7 4

/-- WLD_INST_RES(i). -/
def State.instRes (s : State) (i : Nat) : Nat :=
  let sets := (s.winsts.get i).sets
  2 ^ 24 * bitMap 8 (fun k => sets.any (fun x => x.slot == k && x.damaged)) +
    2 ^ 16 * bitMap 8 (fun k => s.wloads.any (fun l => l.inst == i && l.slot == k)) +
    bitMap 8 (fun k => sets.any (fun x => x.slot == k))

/-- WLD (Tables 13-8 to 13-11). -/
def State.wldReg (s : State) (o : Nat) : Option Nat :=
  if o = 0x04 then some (fld s.wloads.length 0 5)
  else if 0x100 ≤ o ∧ o < 0x200 then
    let w := s.wslots.get ((o - 0x100) / 0x20)
    let id := if w.state = 2 then w.pkg.modelId else 0
    match o % 0x20 with
    | 0x14 => some w.stat
    | 0x18 => some (id % 2 ^ 32)
    | 0x1C => some (id / 2 ^ 32)
    | _ => none
  else if 0x200 ≤ o ∧ o < 0x400 then
    let w := s.wslots.get ((o - 0x200) / 0x40)
    some (if w.state = 2 then hashWord w.pkg.phash (o % 0x40 / 4) else 0)
  else if 0x400 ≤ o ∧ o < 0x480 then some (leField (s.wslots.get ((o - 0x400) / 0x10)).ldig.bytes (o % 0x10) 4)
  else if 0x800 ≤ o then
    let i := (o - 0x800) / 0x20
    let w := s.winsts.get i
    match o % 0x20 with
    | 0x00 => some w.stat
    | 0x04 => some (s.instRes i)
    | 0x18 => some w.sdigStep
    | k => some (leField w.sdig.bytes (k - 8) 4)
  else none

/-- FMT_L_STATE of a layer (Table 5-15). -/
def State.layerState (s : State) (i l : Nat) : Nat :=
  let f := s.fmts.get (fmtKey i l)
  let codes := s.layerCodes i l
  let run := if f.wide then 2 else if s.sealedWide i l then 1 else if codes.any (· == 0x88) then 3 else 0
  let level := match s.img.insts.get i with
    | some x => if f.halved then max 1 (x.thr.outlierLevel / 2) else x.thr.outlierLevel
    | none => 0
  let code := if run = 1 then 0x88 else (codes.find? (· != 0x88)).getD 0
  fld run 30 2 + fld (b2n f.halved) 29 1 + fld (b2n f.cand.isSome) 28 1 + fld (b2n (s.fmtEligible i l)) 27 1 +
    fld level 20 4 + fld code 0 8

/-- FMT (Tables 5-11 to 5-15). -/
def State.fmtReg (s : State) (port : Port) (o : Nat) : Option Nat :=
  let sel := s.regN (Reg.FMT_SEL (selPort port))
  let i := bits sel 19 16
  let l := bits sel 9 0
  let t := (s.fmts.get (fmtKey i l)).total
  let half := fun (v : Nat) (k : Nat) => some (if k % 8 < 4 then v % 2 ^ 32 else v / 2 ^ 32)
  if 0x100 ≤ o ∧ o < 0x140 then
    let i := (o - 0x100) / 4
    match s.img.insts.get i with
    | none => some 0
    | some x => some (fld (b2n (s.satMetric i)) 31 1 + fld (b2n x.fmt.fallbackEnable) 30 1 + fld (s.wideBudget i) 16 11 +
        fld (s.wideCount i) 0 11)
  else if o = 0x200 then some (s.layerState i l)
  else if o = 0x204 then some (s.fmts.get (fmtKey i l)).metric
  else if 0x208 ≤ o ∧ o < 0x210 then half t.checks (o - 0x208)
  else if 0x210 ≤ o ∧ o < 0x218 then half t.mism (o - 0x210)
  else if 0x218 ≤ o ∧ o < 0x220 then half t.conv (o - 0x218)
  else if 0x220 ≤ o ∧ o < 0x228 then half t.sat (o - 0x220)
  else if 0x228 ≤ o ∧ o < 0x230 then half t.zero (o - 0x228)
  else if o = 0x230 then some (s.fmts.get (fmtKey i l)).evals
  else none

/-! ### KVM, prefixes and the far tier (11, 12) -/

/-- PFX_STAT(k) (Table 12-11). -/
def Prefix.stat (p : Prefix) : Nat :=
  fld p.lastStatus 24 8 + fld p.inst 20 4 + fld p.owner 19 1 + fld p.state.code 16 2 + fld p.len 0 11

/-- KVM, PFX and FTR (Tables 12-10, 12-11 and 11-9). -/
def State.kvmReg (s : State) (o : Nat) : Option Nat :=
  if o < 0x100 then
    let i := o / 0x10
    let m := s.planOf i
    let p := s.kvPools.get i
    if !s.hasInst i then some 0 else
    match o % 0x10 with
    | 0x0 => some m.frames
    | 0x4 => some (s.freeFrameCount i)
    | 0x8 => some p.pre.length
    | _ => some (fld (m.prefixFrames - p.pfxUsed.cells.length) 0 16)
  else if 0x1000 ≤ o ∧ o < 0x1200 then
    let p := s.prefixes.get ((o - 0x1000) / 0x40)
    match o % 0x40 with
    | 0x00 => some p.stat
    | 0x18 => some (fld p.refs 0 13)
    | _ => none
  else if 0xF000 ≤ o ∧ o < 0xF100 ∧ o % 0x10 = 0xC then
    let i := (o - 0xF000) / 0x10
    some (ceilDiv ((s.unitsUsed i).length * spillUnit (s.planOf i)) (2 ^ 20))
  else none

/-! ### The fabric, cluster memories and faults (10, 09, 18) -/

/-- A network holds a retired slice or lane. -/
def State.netRetired (s : State) (k : Nat) : Bool :=
  (List.range 16).any (fun r => s.slices.get (2 * r + k)) || s.lanes.cells.any (fun c => c.1 / 32 % 2 == k && c.2.retired)

/-- FAB_SEAM(b) (Table 10-10): the bridge of row b, between routers 4b + 1 and 4b + 2; `fill` are its buffers' largest
occupancies, which the model leaves free (log entry 51). -/
def State.seamReg (s : State) (b we ew : Nat) : Nat :=
  let gone := fun (k : Nat) => (s.lanes.get (laneKey (4 * b + 2) k 3)).retired || (s.lanes.get (laneKey (4 * b + 1) k 1)).retired
  fld (b2n (gone 1)) 31 1 + fld (b2n (gone 0)) 30 1 + fld (we % 65) 16 7 + fld (ew % 65) 0 7

/-- FAB and CLM (Tables 10-8 to 10-12, 09). -/
def State.fabReg (s : State) (o : Nat) : Option Nat :=
  if o = 0 then some (4 * b2n (s.unreachable.cells.any (·.2)) + 2 * b2n (s.netRetired 1) + b2n (s.netRetired 0))
  else if o = 0x10 ∨ o = 0x14 then some (bitMap 16 (fun r => s.slices.get (2 * r + (o - 0x10) / 4)))
  else if 0x20 ≤ o ∧ o < 0x30 then some (s.seamReg ((o - 0x20) / 4) (Config.free s.freeCtr) (Config.free (s.freeCtr + 1)))
  else if o = 0x30 then some (fld s.pwr.ratioW 24 5 + fld s.pwr.ratioE 16 5 + bitMap 16 (fun i => s.paced.get i))
  else if 0x1000 ≤ o ∧ o < 0x2000 ∧ o % 0x80 = 0 then
    let r := (o - 0x1000) / 0x100
    let k := o % 0x100 / 0x80
    some (fld (b2n (s.slices.get (2 * r + k))) 31 1 + bitMap 23 (fun p => (s.lanes.get (laneKey r k p)).retired))
  else if 0x8000 ≤ o then
    let c := s.clusters.get ((o - 0x8000) / 0x20)
    match o % 0x20 with
    | 0x10 => some c.errAddr
    | 0x14 => some (fld ((c.transit.cells.map (·.2)).sum) 0 7)
    | _ => none
  else none

/-- FLT_RESERVE(r) (Table 18-8). -/
def State.reserveReg (s : State) (r : Nat) : Nat :=
  let x := s.reserves.get r
  fld (b2n x.available) 31 1 + fld (b2n x.core.isSome) 30 1 + fld (b2n x.testedBad) 29 1 +
    fld (b2n (((s.testOf (0xF0 + r)).map (fun j => (s.tests.get j).status == 2)).getD false)) 28 1 +
    fld (x.core.getD 0xFF) 8 8 + fld ((s.fuses.reserveCluster[r]?).getD 0) 0 4

/-- FLT_TEST_STAT(j) (Table 18-6). -/
def FieldTest.stat (t : FieldTest) : Nat :=
  fld t.status 24 8 + fld t.target 16 8 + fld t.parts 8 8 + fld t.failing 4 4 + fld t.slices 0 4

/-- FLT (Tables 18-6 to 18-8). A word of FLT_FATAL that has been written holds what was written (RWS, R14). -/
def State.fltReg (s : State) (o : Nat) : Option Nat :=
  if o = 0 then
    some (2 ^ 28 * bitMap 4 (fun r => (s.reserves.get r).available) + 2 ^ 24 * bitMap 4 (fun r => (s.reserves.get r).core.isSome) +
      fld s.testsRunning 20 4 + fld (b2n (s.unbacked.cells.any (·.2))) 19 1)
  else if o = 0x10 then some ((s.log.entries.head?.map (·.seq)).getD s.log.next)
  else if o = 0x14 then some s.log.next
  else if 0x40 ≤ o ∧ o < 0x80 then
    let sel := s.regN (Reg.FLT_LOG_SEL ((o - 0x40) / 0x20))
    some (match s.log.entries.find? (fun e => e.seq == sel) with
      | some e => leField e.bytes (o % 0x20) 4
      | none => 0)
  else if 0x80 ≤ o ∧ o < 0x94 then some (bitMap 32 (fun b => s.unbacked.get (32 * ((o - 0x80) / 4) + b)))
  else if 0xA0 ≤ o ∧ o < 0xB0 then some (s.reserveReg ((o - 0xA0) / 4))
  else if 0xE0 ≤ o ∧ o < 0x100 then some (s.tests.get ((o - 0xE0) / 4)).stat
  else if o = 0x100 then some s.log.fatal.length
  else if 0x200 ≤ o ∧ o < 0x400 then
    match s.regs.get (0x70000 + o) with
    | some v => some v.toNat
    | none => some (match s.log.fatal[(o - 0x200) / 0x20]? with
      | some e => leField e.bytes (o % 0x20) 4
      | none => 0)
  else none

/-! ### Power, the calibration stores, housekeeping, thermal, clocks (19, 06, 20) -/

/-- The share in force of an instance, W (R54): its share_w, scaled where the shares exceed cap_w; without one, its part of
the remainder by core count. -/
def State.shareInForce (s : State) (i : Nat) : Nat :=
  match s.img.insts.get i with
  | none => 0
  | some x =>
    let cap := s.img.power.capW
    let l := present s.img.insts
    let total := (l.map (fun y => (y.2.share).getD 0)).sum
    match x.share with
    | some w => if cap < total then w * cap / total else w
    | none =>
      let cores := ((l.filter (fun y => y.2.share.isNone)).map (fun y => y.2.inst.coreCount)).sum
      if cores = 0 then 0 else (cap - total) * x.inst.coreCount / cores

/-- PWR_DOM(d) (Table 19-11). -/
def State.domReg (s : State) (d : Nat) : Nat :=
  let x := s.domains.get d
  fld x.state 30 2 + fld (b2n (s.eligible d 1)) 29 1 + fld (b2n x.paced) 28 1 + fld x.nextKind 24 4 +
    (if x.nextKind = 0 then 0 else min 0xFFFFFF ((x.nextAt - s.time) / 1000))

/-- PWR_RAIL(r): its phases and its current, 1/16 A, from channel 9 + 2r. -/
def State.railReg (s : State) (r : Nat) : Nat :=
  fld ((railPhases[r]?).getD 0) 28 4 + fld (s.pwr.lost.get r) 24 4 +
    min 0xFFFF (divRne ((s.hka.chans.get (9 + 2 * r)).val * 16) 1000).toNat

/-- PWR (Tables 19-10 and 19-11). -/
def State.pwrReg (s : State) (o : Nat) : Option Nat :=
  let p := s.pwr
  if o = 0 then some (fld (b2n p.shutting) 31 1 + fld (b2n p.warning) 30 1 +
    2 ^ 16 * bitMap 11 (fun r => r != 0 && p.lost.get r != 0))
  else if o = 0x10 then some (fld p.inV 0 17)
  else if o = 0x14 then some (fld p.inI 0 16)
  else if o = 0x18 then some (fld p.inP 0 16)
  else if o = 0x1C then some (fld (p.env / 100) 16 16 + fld p.demand 0 16)
  else if o = 0x20 then some (fld s.eMax 16 16 + fld s.effCap 0 16)
  else if o = 0x24 then some (fld p.ballast 16 16 + fld (p.reservoir / 1000) 0 16)
  else if o = 0x28 then some (fld p.govW 24 5 + fld p.govE 16 5 + fld p.thermW 8 5 + fld p.thermE 0 5)
  else if o = 0x5C then some p.dawnUs
  else if 0x100 ≤ o ∧ o < 0x140 then
    some (fld (s.shareInForce ((o - 0x100) / 4)) 16 16 + fld (p.sharePace.get ((o - 0x100) / 4)) 0 5)
  else if 0x200 ≤ o ∧ o < 0x24C then some (s.domReg ((o - 0x200) / 4))
  else if 0x300 ≤ o ∧ o < 0x32C then some (s.railReg ((o - 0x300) / 4))
  else if 0xC000 ≤ o then
    let d := o % 8 / 4
    let st := s.calStores.get d
    if o < 0xC008 then
      some (fld (b2n !st.queue.isEmpty) 31 1 + fld st.queue.length 16 12 +
        ((List.range 1197).filter (fun k => (st.slots.get k).key.isNone && !(st.slots.get k).bad)).length)
    else if 0xC028 ≤ o then some ((st.slots.cells.filter (fun c => c.2.bad)).length)
    else none
  else none

/-- HKA (Tables 20-8 and 20-9). -/
def State.hkaReg (s : State) (o : Nat) : Option Nat :=
  let h := s.hka
  if o = 0 then some (2 ^ 27 * bitMap 5 (fun k => (h.slices.get k).retired) + fld h.role 24 3 + fld h.spareFor 20 4 + fld h.visitRound 16 4)
  else if o = 0x08 then some (fld h.roundUs 0 13)
  else if o = 0x0C then some (fld (b2n h.balFail) 31 1 + fld h.bal 0 16)
  else if 0x40 ≤ o ∧ o < 0x90 then
    let x := h.slices.get ((o - 0x40) / 0x10)
    match o % 0x10 with
    | 0x0 => some (unsigned 20 x.ofs)
    | 0x4 => some (sField x.gain)
    | 0x8 => some (sField x.cross)
    | _ => some (fld (b2n x.retired) 31 1 + fld x.cause 28 3)
  else if 0x400 ≤ o then
    let c := (o - 0x400) / 0x10
    let x := h.chans.get c
    match o % 0x10 with
    | 0x0 => some (unsigned 20 x.raw)
    | 0x4 => some (if c < 52 then unsigned 32 x.val else 0)
    | _ => some (fld (b2n x.broken) 31 1 + fld x.cause 28 3 + fld x.slice 24 4 + fld x.valid 0 4)
  else none

/-- The temperature a node shows, 1/16 °C. -/
def State.nodeTemp (s : State) (i : Nat) : Nat := sField (s.thm.nodes.get i).sixteenths

/-- THM_NODE(i) (Table 20-12). -/
def State.nodeReg (s : State) (i : Nat) : Nat :=
  let n := s.thm.nodes.get i
  fld (if i ≤ 52 then n.level else 0) 30 2 + fld (b2n n.forced) 29 1 + fld (b2n (decide (i ≤ 52))) 28 1 + fld (nodeHalf i) 26 2 +
    s.nodeTemp i

/-- THM (Tables 20-10 to 20-12). -/
def State.thmReg (s : State) (o : Nat) : Option Nat :=
  let t := s.thm
  if o = 0 then
    let hot := s.hottest ((List.range 53).filter (fun i => !(t.nodes.get i).forced))
    some (fld (b2n t.shutdown) 31 1 + fld (b2n ((List.range 53).any (fun i => (t.nodes.get i).level == 3))) 30 1 +
      fld t.count 28 2 + fld (b2n t.missing) 27 1 + fld (b2n ((List.range 64).any (fun i => (t.nodes.get i).forced))) 26 1 +
      fld (b2n s.hka.balWide) 25 1 + fld (hot.getD 0) 19 6 + ((hot.map s.nodeTemp).getD 0))
  else if o = 0x14 then some (fld (b2n t.missing) 31 1 + sField t.coolant)
  else if 0x100 ≤ o ∧ o < 0x200 then some (s.nodeReg ((o - 0x100) / 4))
  else if 0x200 ≤ o then some (min 0xFFFF (divRne ((t.nodes.get ((o - 0x200) / 4)).p * 16) (10 ^ 8)).toNat)
  else none

/-- CLK (Table 19-12). CLK_TRIM_PPB is 0 for a device that follows no source or has no offset to remove; otherwise the
trim lies within ±200 ppm and the spec gives no more (R498): a free value. -/
def State.clkReg (s : State) (o : Nat) : Option Nat :=
  let c := s.clk
  if o = 0 then some (fld (b2n c.rc) 31 1 + fld (b2n c.frieze) 30 1 + fld (b2n c.west) 29 1 + fld (b2n c.west) 28 1 +
    fld (b2n c.east) 27 1 + fld (b2n c.east) 26 1 + fld (b2n c.refLost) 25 1)
  else if o = 0x08 then some (s.time % 2 ^ 32)
  else if o = 0x0C then some (s.time / 2 ^ 32 % 2 ^ 32)
  else if o = 0x10 then some (sField c.oscPpm)
  else if o = 0x14 then
    some (if s.sync.leader || s.sync.offset == 0 then 0 else unsigned 32 ((Config.free s.freeCtr % 400001 : Nat) - 200000))
  else none

/-! ### Security, Icpen and the host ports (21, 17, 16) -/

/-- SEC (Tables 21-9 to 21-11). -/
def State.secReg (s : State) (o : Nat) : Option Nat :=
  let keys := bitMap 64 (fun k => (s.weightKeys.get k).isSome)
  let live := (List.range 4).filter (fun k => (s.sec.sessions.get k).phase == 2)
  if o = 0 then some s.secStat
  else if o = 0x08 then some (s.sec.nonce % 2 ^ 32)
  else if o = 0x0C then some (s.sec.nonce / 2 ^ 32)
  else if o = 0x10 then some (fld s.sec.unlockStatus 24 8 + fld (b2n s.sec.verifying.isSome) 23 1 + fld s.sec.refusals 16 2 +
    (match s.sec.lockout with
      | some t => min 0xFFFF (ceilDiv (t - s.time) (10 ^ 9))
      | none => 0))
  else if o = 0x18 then some (keys % 2 ^ 32)
  else if o = 0x1C then some (keys / 2 ^ 32)
  else if o = 0x20 then some (fld (live.filter (fun k => (s.sec.sessions.get k).owner.isSome)).length 8 4 + fld live.length 0 4)
  else if 0x200 ≤ o ∧ o < 0x300 then
    some (if s.ownerBank.isSome then hashWord (s.ownerHash ((o - 0x200) / 0x40)) (o % 0x40 / 4) else 0)
  else if 0x300 ≤ o then some (hashWord s.fuses.rootHash ((o - 0x300) / 4))
  else none

/-- ICP_STAT(n) (Table 17-12). -/
def State.icpStat (s : State) (n : Nat) : Nat :=
  let p := s.icp n
  fld p.state.code 29 3 + fld p.rev 27 2 + fld p.lanes 23 4 + fld (s.portRole n).role 21 2 + fld (b2n p.encrypted) 20 1 +
    fld (b2n p.routesBad) 19 1 + fld p.peerSlot 16 3 + fld p.peerGen 8 8 + fld p.peerPort 4 4 + fld p.cause 0 4

/-- Ports with a group link (R496). -/
def State.groupLinks (s : State) : List Nat := (List.range 12).filter (fun n => (s.icp n).up && (s.portRole n).role == 1)

/-- The leader's hash: a follower's from its source, a leader's own; 0, the Reset column, without a group link
(log entry 52). -/
def State.leaderHash (s : State) : BitVec 384 :=
  if !s.sync.leader then (s.icp s.sync.source).leaderHash
  else if s.groupLinks.isEmpty then 0 else s.fuses.idHash

/-- ICP_REP_STAT(i) (Table 17-13). -/
def Replica.stat (r : Replica) : Nat :=
  fld (b2n r.expelled) 31 1 + fld (b2n r.voted) 30 1 + fld r.members 25 5 + fld r.voters 20 5 + fld r.result 16 4 + fld r.round 0 16

/-- ICP (Tables 17-11 to 17-14). -/
def State.icpReg (s : State) (o : Nat) : Option Nat :=
  let n := o / 0x1000
  let k := o % 0x1000
  if n < 12 then
    if k = 0 then some (s.icpStat n)
    else if 0x40 ≤ k ∧ k < 0x80 then some (hashWord (s.icp n).peerHash ((k - 0x40) / 4))
    else if 0x80 ≤ k then some (hashWord (s.icp n).adopted ((k - 0x80) / 4))
    else none
  else if k = 0 then some (fld (b2n s.sync.locked) 31 1 + fld (b2n s.sync.leader) 30 1 + fld s.sync.source 26 4 +
    fld s.sync.hops 23 3 + offsetField s.sync.offset)
  else if k = 4 then
    let l := s.groupLinks
    some (fld (min 8 (1 + ((l.map (fun n => (s.icp n).peerHash)).eraseDups).length)) 16 4 + bitMap 12 (fun n => l.contains n))
  else if 0x40 ≤ k ∧ k < 0x80 then some (hashWord s.fuses.idHash ((k - 0x40) / 4))
  else if 0x80 ≤ k ∧ k < 0xB0 then some (hashWord s.leaderHash ((k - 0x80) / 4))
  else if 0x100 ≤ k then some (s.replicas.get ((k - 0x100) / 4)).stat
  else none

/-- HST_PORT_STAT(p) (Table 16-10). -/
def HostPort.stat (p : HostPort) : Nat :=
  fld (b2n p.linkUp) 31 1 + fld p.speed 28 3 + fld p.width 23 5 + fld (b2n p.msixEnable) 22 1 + fld (b2n p.busMaster) 21 1 +
    fld p.dState 19 2

/-- HST (Tables 16-10 and 16-11). -/
def State.hstReg (s : State) (o : Nat) : Option Nat :=
  if o = 0 then some (s.ports.get 0).stat
  else if o = 0x40 then some (s.ports.get 1).stat
  else if o = 0x214 then some (fld (b2n s.cmd.fetchError) 31 1 + fld s.cmd.inProgress.length 0 7)
  else if o = 0x300 then some (fld s.mgmtEid 24 8 + fld (0x60 + s.fuses.slotId) 17 7 + s.regF Reg.HST_MGMT_STAT 3 0)
  else if 0x1800 ≤ o ∧ o % 0x1000 / 0x800 = 1 then
    let v := (s.ports.get ((o - 0x1800) / 0x1000)).pba.toNat
    some (if o % 8 < 4 then v % 2 ^ 32 else v / 2 ^ 32)
  else none

/-! ### A core's window (03, 04, 06, 07, 09) -/

/-- ARR_STAT(a) (Table 3-7). -/
def Arr.stat (x : Arr) (a : Nat) : Nat :=
  let zeros := if x.frontPlane.sums then x.frontPlane.zeroCols.length else 0
  fld (b2n x.retired) 31 1 + fld (b2n x.stand) 30 1 + fld x.standReason 28 2 + fld (if a = 12 then x.standPos else 0) 24 4 +
    fld x.front 15 1 + fld (b2n x.loading) 14 1 + fld (b2n x.backPlane.loaded) 13 1 + fld (b2n x.swapPending) 12 1 + fld zeros 0 9

/-- CAL_INFO(a) (Table 6-10). -/
def State.calInfo (s : State) (n a : Nat) : Nat :=
  let x := s.arr n a
  fld (b2n x.factory) 31 1 + fld (b2n x.checkOnly) 30 1 + fld (b2n ((s.cals.get n).front.contains a)) 29 1 + min 0xFFFF x.drift

/-- A coefficient pair (Table 6-9). -/
def Coef.stat (c : Coef) : Nat := fld c.gain 16 16 + sField c.off

/-- CAL_STAT (Table 6-7). -/
def Cal.stat (c : Cal) : Nat :=
  fld c.state 29 3 + fld (b2n c.checkOnly) 28 1 + fld (b2n c.tempHold) 27 1 + fld c.target 20 4 + fld c.source 16 4 +
    fld (min 7 c.yields) 13 3 + fld c.comps 0 13

/-- CORE_STAT (Table 7-7). -/
def Core.stat (c : Core) : Nat :=
  let mode := if c.inst.isNone then 0 else if c.org == .unified then 2 else 1
  fld mode 30 2 + fld (b2n c.barrier.isSome) 29 1 + fld (b2n c.replaying) 28 1 + fld (c.inst.getD 0) 24 4 + fld c.layer 6 10 +
    fld ((List.range 32).filter (fun t => (c.threads.get t).state == .faulted)).length 0 6

/-- THR_STAT(t) (Table 7-8). The thread's oldest unretired instruction is its oldest in flight, or else its next one. -/
def Core.thrStat (c : Core) (n : Nat) : Nat :=
  let t := c.threads.get n
  let k := match c.flights.find? (·.thread == n) with
    | some f => f.replays
    | none => t.replays
  fld t.state.code 29 3 + fld t.pc 16 13 + fld (b2n t.wdog) 15 1 + fld (min 3 k) 6 2 +
    (if t.state == .waiting then fld t.waitE 0 6 else 0)

/-- CHS_STAT (Table 4-7). -/
def State.chsStat (s : State) (n : Nat) : Nat :=
  let c := s.cores.get n
  if c.inst.isNone then 0 else
  fld (if c.paired then c.partner else 0xFF) 24 8 + fld (b2n c.suspended) 18 1 + fld (b2n c.primary) 17 1 + fld (b2n c.paired) 16 1 +
    fld (s.thrOf n).sampleInterval 8 8 + fld (s.levelOf n) 0 4

/-- SPM_STAT (Table 9-13). -/
def State.spmStat (s : State) (n : Nat) : Nat :=
  let c := s.cores.get n
  let pl := s.place n
  fld c.org.code 29 3 + fld (b2n c.accRefused) 28 1 + fld (b2n c.unifyCancelled) 27 1 + fld (b2n c.restarted) 26 1 +
    fld (b2n c.testHold) 25 1 + fld ((s.clusters.get pl.1).transit.get pl.2) 8 4 + fld c.mirrorBank 0 1

/-- REG_CFG(q), REG_SLOT(q) and REG_STAT(q) (Tables 9-15 and 9-16). -/
def Region.reg (r : Region) : Nat → Nat
  | 0x0 => if r.configured then fld r.slots 23 9 + fld r.mem 21 2 + fld r.base 0 21 else 0
  | 0x4 => if r.configured then fld r.slotBytes 0 21 else 0
  | _ => if r.configured then
      fld r.head 24 8 + fld r.take 16 8 + fld r.tail 8 8 + fld (b2n (r.state.get r.head != .empty)) 7 1 +
        fld (b2n (r.state.get r.take != .filled)) 6 1
    else 0

/-- A logical core's window. -/
def State.coreReg (s : State) (n o : Nat) : Option Nat :=
  let c := s.cores.get n
  if o = 0 then some c.stat
  else if 0x1000 ≤ o ∧ o < 0x1200 then
    let t := c.threads.get ((o - 0x1000) / 0x10)
    some (if o % 0x10 = 0 then c.thrStat ((o - 0x1000) / 0x10) else fld t.excPc 16 13 + fld t.excCode 0 8)
  else if 0x2000 ≤ o ∧ o < 0x2100 then some (c.evc.get ((o - 0x2000) / 4)).toNat
  else if 0x8000 ≤ o ∧ o < 0x9A00 then
    let a := (o - 0x8000) / 0x200
    let k := o % 0x200
    let x := s.arr n a
    if k = 0 then some (x.stat a)
    else if k = 0x84 then some (2 * b2n x.testRefused + b2n x.testDone)
    else if 0x100 ≤ k ∧ k < 0x180 then some (leField x.testRow (k - 0x100) 4)
    else if k = 0x180 then some (s.calAge n a)
    else if k = 0x184 then some (s.calInfo n a)
    else none
  else if o = 0xA000 then some (s.chsStat n)
  else if o = 0xA018 then some c.mmInfo
  else if o = 0xA01C then some c.mmRatio
  else if o = 0xA800 then some (s.cals.get n).stat
  else if o = 0xA81C then some (sField (s.cals.get n).temp)
  else if 0xB000 ≤ o ∧ o < 0xB400 then
    let a := s.regF (Reg.CAL_CTL n) 3 0
    some (if a ≤ 12 then ((s.arr n a).coef.get ((o - 0xB000) / 4)).stat else 0)
  else if o = 0xC000 then some (s.spmStat n)
  else if o = 0xC028 then some c.errAddr
  else if 0xC100 ≤ o ∧ o < 0xC200 then some ((c.regions.get ((o - 0xC100) / 0x10)).reg (o % 0x10))
  else none

/-! ### A pedestal's window (11, 12) -/

/-- PED_STAT (Table 11-6). -/
def Ped.stat (p : Ped) : Nat :=
  fld p.state 30 2 + fld (b2n p.refreshDouble) 29 1 + fld (b2n p.selfRefresh) 28 1 + fld (b2n p.forced) 27 1 +
    fld ((p.lost[0]?).getD 0) 16 4 + fld ((p.lost[1]?).getD 0) 12 4

/-- PED_USE (Table 11-7): granules granted to plans; the first 20,480 are the user's. -/
def Ped.use (p : Ped) : Nat :=
  let runs := p.usedRuns
  let user := (runs.map (fun r => min (r.1 + r.2) 20480 - min r.1 20480)).sum
  fld user 16 16 + fld (runTotal runs - user) 0 6

/-- A pedestal's window. -/
def State.pedReg (s : State) (p o : Nat) : Option Nat :=
  let x := s.peds.get p
  if o = 0 then some x.stat
  else if o = 0x08 then some (sField x.temp)
  else if o = 0x0C then some x.use
  else if o = 0x154 then some (fld (min 255 x.waiting.length) 16 8 +
    fld ((List.range 128).filter (fun t => (s.engines.get (engKey p t)).busy)).length 0 8)
  else none

/-! ### Reading -/

/-- The window's unit is absent (R4, R26): its reads return 0 and its writes are ignored. -/
def State.absentWindow (s : State) (off : Nat) : Bool :=
  if 0x2000000 ≤ off then decide (s.fuses.stackN ≤ (off - 0x2000000) / 0x100000)
  else if 0x1000000 ≤ off then decide (s.fuses.grade ≤ (off - 0x1000000) / 0x10000)
  else if 0xD0000 ≤ off ∧ off < 0xDC000 then decide (s.fuses.icpenPorts ≤ (off - 0xD0000) / 0x1000)
  else if (0xE0040 ≤ off ∧ off < 0xE0080) ∨ (0xE2000 ≤ off ∧ off < 0xE3000) then decide (s.fuses.hostPorts < 2)
  else if (0x30800 ≤ off ∧ off < 0x40000) ∨ (0x51000 ≤ off ∧ off < 0x51200) then s.fuses.reduced
  else false

/-- The register's value from the state its table shows; none for a register that is stored. -/
def State.shownReg (s : State) (port : Port) (off : Nat) : Option Nat :=
  if 0x2000000 ≤ off then s.pedReg ((off - 0x2000000) / 0x100000) (off % 0x100000)
  else if 0x1000000 ≤ off then s.coreReg ((off - 0x1000000) / 0x10000) (off % 0x10000)
  else if off < 0x10000 then s.devReg off
  else if off < 0x20000 then s.armReg (off - 0x10000)
  else if off < 0x30000 then s.schReg port (off - 0x20000)
  else if off < 0x40000 then s.smpReg port (off - 0x30000)
  else if off < 0x48000 then s.wldReg (off - 0x40000)
  else if off < 0x50000 then s.fmtReg port (off - 0x48000)
  else if off < 0x60000 then s.kvmReg (off - 0x50000)
  else if off < 0x70000 then s.fabReg (off - 0x60000)
  else if off < 0x80000 then s.fltReg (off - 0x70000)
  else if off < 0x90000 then s.pwrReg (off - 0x80000)
  else if off < 0xA0000 then s.hkaReg (off - 0x90000)
  else if off < 0xB0000 then s.thmReg (off - 0xA0000)
  else if off < 0xC0000 then s.clkReg (off - 0xB0000)
  else if off < 0xD0000 then s.secReg (off - 0xC0000)
  else if off < 0xE0000 then s.icpReg (off - 0xD0000)
  else s.hstReg (off - 0xE0000)

/-- Counters of cycles, which the model does not count (log entry 53): their values are free. -/
def cycleCounter (off : Nat) : Bool :=
  if 0x2000000 ≤ off then decide (off % 0x100000 = 0x128) || decide (off % 0x100000 = 0x12C)
  else if 0x1000000 ≤ off then
    let k := off % 0x10000
    decide (0x18 ≤ k ∧ k < 0x20) || decide (0x30 ≤ k ∧ k < 0x38)
  else 0x61000 ≤ off && off < 0x62000 && off % 0x80 == 0x18

/-- The live value of a register, unlatched. -/
def State.liveReg (s : State) (port : Port) (off : Nat) : W32 :=
  match regRow? off with
  | none => 0
  | some r =>
    if s.absentWindow off || r.acc == .wo then 0
    else if cycleCounter off then BitVec.ofNat 32 (Config.free s.freeCtr)
    else match s.shownReg port off with
      | some v => BitVec.ofNat 32 v
      | none => s.reg off

/-- A read of the 32-bit register at an aligned offset from a port, with its latch (R13, R17, R19). -/
def State.readReg (s : State) (port : Port) (off : Nat) : State × W32 :=
  let v := s.liveReg port off
  let free := cycleCounter off || (0x60020 ≤ off && off < 0x60030) || off == Reg.CLK_TRIM_PPB
  let s' := if free then s.draw.draw else s
  match (regRow? off).map (fun (r : RegRow) => r.half) with
  | some Half.low =>
    ({ s' with latchHi := s'.latchHi.put (portKey port (off + 4)) (some (s.draw.liveReg port (off + 4))) }, v)
  | some Half.high =>
    match s.latchHi.get (portKey port off) with
    | some w => ({ s' with latchHi := s'.latchHi.put (portKey port off) none }, w)
    | none => (s', v)
  | _ => (s', v)

end Sys2Proof.Machine
end

