-- ==== Sys2Proof/Machine/Seal.lean ====
section
/-!
DEFINITION. The apply phase of a seal (02, R62, R63, R66): what each of its steps does to the affected instances.
-/
namespace Sys2Proof.Machine
open Sys2Proof

/-- Logical cores of a core map (R43). -/
def coresIn (grade : Nat) (x : Option SealedInst) : List Nat :=
  match x with
  | some y => (List.range grade).filter (fun c => y.inst.coreMap.getLsbD c)
  | none => []

/-- The instance that owns a core in an image. -/
def ownerIn (insts : Map (Option SealedInst)) (c : Nat) : Option Nat :=
  (List.range 16).find? (fun i => match insts.get i with
    | some y => y.inst.coreMap.getLsbD c
    | none => false)

/-- The image removes, creates or changes an instance's MEMPLAN. -/
def memChanged (o n : Option SealedInst) : Bool := (o.map (·.mem)) != (n.map (·.mem))

/-- The image removes, creates or changes the content of an instance's INSTANCE or MEMPLAN record (R375). -/
def shapeChanged (o n : Option SealedInst) : Bool := memChanged o n || (o.map (·.inst)) != (n.map (·.inst))

/-! ### Step 1: what is removed -/

/-- A core leaves its instance: its contexts are discarded, its organisation becomes unified with its contents kept
(Tables 7-2 and 9-10), and its in-field test ends; a slice in progress completes first (R532). -/
def State.releaseCore (s : State) (n : Nat) : State :=
  let s := match s.testOf n with
    | some j => if (s.tests.get j).inSlice then s.updTest j (fun t => { t with abort := true }) else s.endTest j 3
    | none => s
  let s : State := { s with handoffs := s.handoffs.filter (fun h => h.core != n) }
  (s.dropStrikes n).updCore n (fun c => { c with
    inst := none, org := .free, unifyPending := false, held := false, barrier := none, threads := {}, flights := [], jobs := []
    groups := {}, replaying := false, evc := {}, paired := false, primary := false, partner := 0xFF, suspended := false
    red := .clean, redOut := [], redKind := none, regions := {}, mirror0 := {}, mirror1 := {}, marked := [], recentMoves := [] })

/-- An instance's plan ends: its granules, sequences' key-value state, prefixes and far-tier area (R320, R331, Table 12-8). -/
def State.releasePlan (s : State) (i : Nat) : State :=
  let s := s.pfxSealed i
  let s := if bit (s.regN (Reg.FTR_CTL i)) 0 then s.setRegN (Reg.FTR_CTL i) (s.regN (Reg.FTR_CTL i) - 1) else s
  let mine := fun (k : Nat) => k / 4096 == i
  { s with
    peds := s.peds.mapVals (fun _ p => { p with
      plan := p.plan.put i []
      lab := p.lab.filter (fun t => t / 2 ^ 28 != i), fetching := p.fetching.filter (fun t => t / 2 ^ 28 != i) })
    kvPools := s.kvPools.put i {}
    kvSeqs := s.kvSeqs.keep (fun k _ => !mine k), parts := s.parts.keep (fun k _ => !mine (k / 2 ^ 20))
    spills := s.spills.keep (fun k _ => !mine k), emptyMarks := s.emptyMarks.keep (fun k _ => !mine k)
    flushing := s.flushing.keep (fun k _ => !mine (k / 2 ^ 20)), noFrame := s.noFrame.keep (fun k _ => !mine k) }

/-! ### Step 2: what is placed -/

/-- A core enters an instance: its scratchpad is zeroed and its organisation becomes normal (R263, R281). Threads are FREE
until its program is loaded (R203). -/
def State.placeCore (s : State) (n i : Nat) : State :=
  s.updCore n (fun c => { c with
    inst := some i, org := .normal, spm := {}, poison := {}, threads := {}, program := {}, progLen := 0, entries := {}
    descs := {}, descLen := 0, evc := {}, regions := {}, level := 8, widths := [1, 1, 1, 1, 1, 1, 1, 1], layer := 0
    ledSig := {}, ledMov := {}, skipSig := {}, skipMov := {} })

/-- A plan's granules are granted, in ascending order (R319, R320). -/
def State.grantPlan (s : State) (i : Nat) (m : MemPlan) : State :=
  m.stackList.foldl (fun s st => s.updPed st (fun p => { p with plan := p.plan.put i (grantRuns p.usedRuns 0 (m.granules st)) })) s

/-! ### Step 3: what takes effect -/

/-- Redundancy pairs of an instance's cores (R127). An odd core is idle, and is logged. -/
def State.pairCores (s : State) (i : Nat) (red : Bool) : State :=
  let cs := s.instCores i
  if red then
    let s := cs.zipIdx.foldl (fun (s : State) x =>
      let first := x.2 % 2 == 0
      let other := cs[if first then x.2 + 1 else x.2 - 1]?
      s.updCore x.1 (fun c => { c with
        paired := other.isSome, primary := first && other.isSome, partner := other.getD 0xFF, suspended := false
        red := .clean, redOut := [], redKind := none })) s
    if cs.length % 2 = 1 then s.logEvent 0x1102 [(1, i), (1, (cs.getLast?).getD 0)] else s
  else cs.foldl (fun (s : State) n => s.updCore n (fun c => { c with
    paired := false, primary := false, partner := 0xFF, suspended := false, red := .clean, redOut := [], redKind := none })) s

/-- A seal ends an instance's stall and its FAULTED threads start again (R422, Table 7-2), on cores it already had. -/
def State.restartInst (s : State) (i : Nat) (cores : List Nat) : State :=
  let faulted := fun (n : Nat) => (List.range 32).any (fun t => ((s.cores.get n).threads.get t).state == .faulted)
  let kept := cores.filter (fun n => !s.unbacked.get n)
  if (s.insts.get i).state = 3 ∨ kept.any faulted then
    (kept.foldl (fun (s : State) n => (s.dropStrikes n).startThreads n i) s).updInst i (fun x =>
      { x with state := if x.state = 3 then 0 else x.state, stallCause := 0 })
  else s

/-- What a seal does to an instance it affects and keeps or creates: regions, a pending UNIFY, sampling, formats, votes
and the step count start afresh (R121, R164, R273, R287, R422, R501). -/
def State.affectInst (s : State) (i : Nat) (kept : List Nat) : State :=
  let s := (s.instCores i).foldl (fun (s : State) n =>
    let s := if (s.cores.get n).org = .draining then s.cancelUnify n 1 else s
    let s := s.updCore n (fun c => { c with
      regions := c.regions.mapVals (fun _ r => { r with head := 0, take := 0, tail := 0, state := {}, owner := {} }) })
    (List.range 13).foldl (fun (s : State) a => s.updArr n a (fun x => { x with sampleCount := 0, sampleM := 0 })) s) s
  let s := s.pairCores i ((s.img.insts.get i).getD {}).thr.redundancy
  let s := s.restartInst i kept
  let s := (s.fmtSealed i).replicaSealed i
  let s := s.updWInst i (fun w => { w with autoFailed := false })
  s.updInst i (fun x => { x with stepsSeal := 0, expelled := false, expelDue := false })

/-! ### The apply phase -/

/-- Every affected instance is at a step boundary (R62, R636): none has a step in progress. -/
def State.sealReady (s : State) : Bool := s.armAffected.all (fun i => (s.insts.get i).state != 1)

/-- Steps 1 and 2 of R62 for a seal that replaces hard records: `o` the sealed instances before it, `n` after it. -/
def State.sealHard (s : State) (aff : List Nat) (o n : Map (Option SealedInst)) : State :=
  let leaves := (List.range s.fuses.grade).filter (fun c => match (s.cores.get c).inst with
    | some i => aff.contains i && ownerIn n c != some i
    | none => false)
  let s := leaves.foldl (fun (s : State) c => s.releaseCore c) s
  let s := aff.foldl (fun (s : State) i =>
    let s := (s.slotsOf i).foldl (fun (s : State) q => s.freeSeq i q) s
    let s := if memChanged (o.get i) (n.get i) then s.releasePlan i else s
    if shapeChanged (o.get i) (n.get i) then
      s.weightsDropped i (match n.get i with
        | some x => x.inst.modelSlot
        | none => 0)
    else s) s
  let s : State := { s with img := { s.img with insts := n } }
  aff.foldl (fun (s : State) i =>
    match n.get i with
    | none => { s with insts := s.insts.put i {}, replicas := s.replicas.put i {}, paced := s.paced.put i false }.fmtSealed i
    | some x =>
      let news := (coresIn s.fuses.grade (n.get i)).filter (fun c => (s.cores.get c).inst != some i)
      let s := news.foldl (fun (s : State) c => s.placeCore c i) s
      if memChanged (o.get i) (n.get i) then s.grantPlan i x.mem else s) s

/-- Steps 4 and 5 of R62: the power record, and the ports whose PORTROLE entry has changed. -/
def State.sealDevice (s : State) (st : StagedImage) : State :=
  let old := s.img.ports
  let s : State := { s with img := { s.img with power := st.power, ports := st.ports } }
  (List.range s.fuses.icpenPorts).foldl (fun (s : State) p => if old.get p ≠ st.ports.get p then s.portSealed p else s) s

/-- Steps 6 and 7 of R62: locks, ARM_HASH, ARM_SERIAL and ARM_FLOOR (R63, R64). -/
def State.sealRecord (s : State) (st : StagedImage) : State :=
  let h := Config.sha384 s.arm.image
  let h := if st.isPartial then Config.sha384 (hashBytes s.img.hash ++ hashBytes h) else h
  let s : State := { s with
    rwlLocked := true
    sec := if s.sec.sealedSince then s.sec else { s.sec with sealedSince := true, locked := true, scopes := 0 }
    img := { s.img with isSealed := true, hash := h, serial := if st.isPartial then s.img.serial else st.serial } }
  if st.raiseFloor && !st.isPartial then { s with armFloor := st.serial }.storeWrite 1 st.serial else s

/-- A route's condition of R493 ends at a seal of its instance; the routes of a port that is up are checked again. -/
def State.sealRoutes (s : State) (aff : List Nat) : State :=
  (List.range s.fuses.icpenPorts).foldl (fun (s : State) p =>
    if (s.icp p).up && aff.any (fun i => (s.routeOn i p).isSome) then s.checkRoutes p else s) s

/-- The seal is complete (R62, Table 2-13): admission is released, and every instance whose current slot is BOUND and not
resident begins its load (R379). -/
def State.sealEnd (s : State) (aff : List Nat) (st : StagedImage) : State :=
  let s : State := { s with arm := { s.arm with lastStatus := 0x00 }, heldSeal := s.heldSeal.updAll aff (fun _ _ => false) }
  let s := if st.isPartial then s.logEvent 0x1F03 [(1, st.inst), (4, st.serial)] else s.logEvent 0x1F02 [(4, st.serial)]
  let s := (List.range 16).foldl (fun (s : State) i =>
    let w := s.winsts.get i
    if s.hasInst i && (s.wslots.get w.current).state == 2 && (w.setOf w.current).isNone && (s.loadOf w.current i).isNone
    then s.autoLoad i 2 else s) s
  let s := aff.foldl (fun (s : State) i => if s.hasInst i then s.sendPlan i else s) s
  s.armIdle.finish 0x02 0 0x00

/-- SEAL_APPLY_COMPLETE (R62): the apply phase has ended and its seven steps have taken effect, in their order. -/
def execSealApplyComplete (s : State) : Out' :=
  if s.arm.state ≠ .sealing ∨ !s.sealReady then .next s else
  let st := s.arm.staged
  let aff := s.armAffected
  let o := s.img.insts
  let keptCores := fun (i : Nat) => (coresIn s.fuses.grade (o.get i)).filter (fun c => ownerIn st.insts c == some i)
  let kept := aff.map (fun i => (i, keptCores i))
  let s := if st.softOnly then { s with img := { s.img with insts := st.insts } } else s.sealHard aff o st.insts
  let s := kept.foldl (fun (s : State) k => if s.hasInst k.1 then s.affectInst k.1 k.2 else s) s
  .next ((((s.sealDevice st).sealRecord st).sealRoutes aff).sealEnd aff st)

end Sys2Proof.Machine
end

