-- ==== Sys2Proof/Machine/HostOps.lean ====
section
/-!
DEFINITION. Host ports (16): the command and event rings as registers, links, port resets (R469–R471) and the device reset
(R468).
-/
namespace Sys2Proof.Machine
open Sys2Proof

/-! ### The command ring and the event ring as rings (R395, R396, R458, R462, R467) -/

/-- The entry at the head is read when the ring is enabled and not empty, and fewer than 64 commands are in progress. -/
def State.cmdFetch (s : State) : State :=
  let cfg := s.regN Reg.CMD_CFG
  let head := s.regN Reg.CMD_HEAD
  if !ringOn cfg || s.cmd.reading || head == s.regN Reg.CMD_TAIL || 64 ≤ s.cmd.inProgress.length then s
  else
    let s : State := { s with cmd := { s.cmd with reading := true } }
    s.emit (.hostRead (ringPort cfg) (s.reg64 Reg.CMD_BASE_LO / 4096 * 4096 + 64 * head) 64)

/-- The command ring is disabled: commands in progress run on, and their completions are not written (R466). -/
def State.cmdDisable (s : State) : State :=
  let s : State := { s with cmd := { s.cmd with
    reading := false, inProgress := s.cmd.inProgress.map (fun c => { c with written := false }) } }
  s.setRegN Reg.CMD_CFG (s.regN Reg.CMD_CFG % 2 ^ 31)

/-- A write of CMD_CFG (R396, R458, R462). -/
def State.cmdCfg (s : State) (port : Port) (value : Nat) : State :=
  let v := bits value 4 0 + 2 ^ 8 * bits value 8 8
  let on := bit value 31
  if ringOn (s.regN Reg.CMD_CFG) then
    if on then s else s.cmdDisable.setRegN Reg.CMD_CFG v
  else if !on then s.setRegN Reg.CMD_CFG v
  else if !s.ringValid 4 12 value Reg.CMD_BASE_LO then
    (s.setRegN Reg.CMD_CFG v).ringInvalid (Config.ringKind false) 0 port
  else
    let s := ((s.setRegN Reg.CMD_CFG (v + 2 ^ 31)).setRegN Reg.CMD_HEAD 0).setRegN Reg.CMD_TAIL 0
    { s with cmd := { s.cmd with reading := false, fetchError := false } }

/-- A write of CMD_TAIL: a tail past the head in ring order, or beyond the ring, is ignored (R396, R462). -/
def State.cmdTail (s : State) (port : Port) (value : Nat) : State :=
  let cfg := s.regN Reg.CMD_CFG
  let v := value % 2 ^ 12
  if !ringOn cfg then s.setRegN Reg.CMD_TAIL v else
  let n := ringSize cfg
  let head := s.regN Reg.CMD_HEAD
  let old := s.regN Reg.CMD_TAIL
  if n ≤ v ∨ (head + n - old - 1) % n < (v + n - old) % n then s.ringInvalid (Config.ringKind false) 0 port
  else (s.setRegN Reg.CMD_TAIL v).cmdFetch

/-- Event-ring entries written and not read back are to be written again (R461, R467). -/
def State.evrLost (s : State) : State :=
  let wanted := s.log.entries.zipIdx.filter (fun e => e.1.copied)
  let again := (wanted.drop (wanted.length - s.evrInFlight)).map (·.2)
  { s with
    evrInFlight := 0
    log := { s.log with entries := s.log.entries.zipIdx.map (fun e =>
      if again.contains e.2 then { e.1 with copied := false } else e.1) } }

/-- The event ring is disabled. -/
def State.evrDisable (s : State) : State :=
  s.evrLost.setRegN Reg.EVR_CFG (s.regN Reg.EVR_CFG - 2 ^ 15 * bits (s.regN Reg.EVR_CFG) 15 15)

/-- A write of EVR_CFG (R396, R458, R467). -/
def State.evrCfg (s : State) (port : Port) (value : Nat) : State :=
  let v := bits value 4 0 + 2 ^ 8 * bits value 8 8 + 2 ^ 16 * bits value 31 16
  let on := bit value 15
  if bit (s.regN Reg.EVR_CFG) 15 then
    if on then s else s.evrDisable.setRegN Reg.EVR_CFG v
  else if !on then s.setRegN Reg.EVR_CFG v
  else if !s.ringValid 6 16 value Reg.EVR_BASE_LO then
    (s.setRegN Reg.EVR_CFG v).ringInvalid (Config.ringKind true) 0 port
  else ((s.setRegN Reg.EVR_CFG (v + 2 ^ 15)).setRegN Reg.EVR_HEAD 0).setRegN Reg.EVR_TAIL 0

/-- A write of EVR_HEAD frees entries of the event ring. R396 names only the pointers of a submission ring. -/
def State.evrHead (s : State) (value : Nat) : State := s.setRegN Reg.EVR_HEAD (value % 2 ^ 16)

/-! ### Reads that fail (R452) -/

/-- The next state of an outcome, or the state it started from. -/
def nextOr (s : State) : Out' → State
  | .next t => t
  | _ => s

/-- A command entry's read is a completion error (R465). -/
def State.cmdReadFailed (s : State) : State :=
  if !s.cmd.reading then s else
  let head := s.regN Reg.CMD_HEAD
  let port := s.regF Reg.CMD_CFG 8 8
  let s := s.cmdDisable
  ({ s with cmd := { s.cmd with fetchError := true } } : State).logEvent 0x6A02 [(2, head), (1, port)]

/-- The read-back of a batch of records has failed: the batch is written again (R461). -/
def State.readbackFailed (s : State) (r : Nat) : State := s.updRec r (fun x => { x with inFlight := 0 })

/-- The port over which a far-tier transfer that is not striped moves. -/
def State.farSolePort (s : State) (i : Nat) : Nat := if bits (s.regN (Reg.FTR_CTL i)) 2 1 = 1 then 1 else 0

/-- A device read of a unit is a completion error: the unit's chapter gives what follows (R452). -/
def State.readFailed (s : State) : ReadUnit → State
  | .image => s.armFetchFail
  | .package k => nextOr s (execBindFetchComplete k true [] [] s)
  | .tile => nextOr s (execTileRecordFetched true [] none s)
  | .prefixSlot k => s.pfxFetchFailed k
  | .grammarImage g => nextOr s (execGrammarLoadComplete g true [] s)
  | .grammarState g i q => s.grmReadFailed g i q 0
  | .descriptor r => nextOr s (execRequestDescriptor r true [] s)
  | .tokenList r => nextOr s (execListFetchComplete r true [] s)
  | .prompt i q => nextOr s (execPromptChunkFetch i q true [] s)
  | .command => s.cmdReadFailed
  | .farTier i q => s.farFailed i q (s.farSolePort i) 0
  | .recordReadback r => s.readbackFailed r
  | .eventReadback => s.evrLost

/-- A two-bit port field names a port alone: 0 and 3 are port A, 1 port B, 2 both. -/
def namesAlone (field p : Nat) : Bool := field != 2 && (if field = 1 then 1 else 0) == p

/-- Sequences of a step that wait for a state or bitset of a grammar slot. -/
def State.grmWaiters (s : State) (g : Nat) : List (Nat × Nat) :=
  (s.seqs.cells.filter (fun c => c.2.inStep && !c.2.recorded && c.2.desc.mask == 3 && c.2.desc.grammar == g &&
    !(s.grmMissing g c.2.gState).isEmpty)).map (fun c => (c.1 / 4096, c.1 % 4096))

/-- The device reads in flight over a port that names it alone (R470). -/
def State.readsOver (s : State) (p : Nat) : List ReadUnit :=
  let ring := fun (r : Nat) => ringPort (s.regN (Reg.SQ_CFG r)) == p
  let slot := fun (k : Nat) => namesAlone (s.regF (Reg.WLD_SLOT_CTL k) 1 0) p
  let seqIn := fun (x : Nat × Seq) => x.2.chunk == .fetching && x.2.desc.port == p
  (if s.arm.state == .loading && s.arm.owner == p then [ReadUnit.image] else []) ++
  ((List.range 8).filter (fun k => (s.wslots.get k).state == 1 && slot k)).map ReadUnit.package ++
  (match s.wloads with
    | l :: _ => if l.space.isSome && slot l.slot then [ReadUnit.tile] else []
    | [] => []) ++
  ((List.range 64).filter (fun g => namesAlone (s.regF (Reg.GRM_SLOT_CTL g) 1 0) p)).flatMap (fun g =>
    (if (s.grammars.get g).state == .loading then [ReadUnit.grammarImage g] else []) ++
    (s.grmWaiters g).map (fun w => ReadUnit.grammarState g w.1 w.2)) ++
  ((List.range 4).filter (fun r => (s.subRings.get r).reading && ring r)).map ReadUnit.descriptor ++
  ((List.range 4).filter (fun r => (s.subRings.get r).listWait && ring r)).map ReadUnit.tokenList ++
  (s.seqs.cells.filter seqIn).map (fun x => ReadUnit.prompt (x.1 / 4096) (x.1 % 4096)) ++
  (if s.cmd.reading && s.regF Reg.CMD_CFG 8 8 == p then [ReadUnit.command] else []) ++
  (s.spills.cells.filter (fun c => c.2.phase == .restoring && namesAlone (bits (s.regN (Reg.FTR_CTL (c.1 / 4096))) 2 1) p)).map
    (fun c => ReadUnit.farTier (c.1 / 4096) (c.1 % 4096)) ++
  ((List.range 4).filter (fun r => (s.recRings.get r).inFlight != 0 && ringPort (s.regN (Reg.RQ_CFG r)) == p)).map
    ReadUnit.recordReadback ++
  (if s.evrInFlight != 0 && s.regF Reg.EVR_CFG 8 8 == p then [ReadUnit.eventReadback] else [])

/-! ### Links (R470) -/

/-- An event of interrupt source 12 on the other port (Table 16-5). -/
def State.otherPort (s : State) (p : Nat) : State :=
  if s.regF (Reg.HST_IRQ 12) 30 30 = p then s else s.irqEvents 12 1

/-- Rings that were waiting for a link read on. -/
def State.ringsResume (s : State) : State :=
  ((List.range 4).foldl (fun (s : State) r => s.sqFetch r) s).cmdFetch

/-- A port's link is lost: 0 surprise down, 1 retraining, 2 port reset. What the port's owner held in the loader, in
prefix loads and in grammar loads is given up, and device reads in flight fail (R470). -/
def State.portDown (s : State) (p cause : Nat) : State :=
  if !(s.ports.get p).linkUp then s else
  let s : State := { s with ports := s.ports.upd p (fun x => { x with linkUp := false, speed := 0, width := 0 }) }
  let s := (s.count (Reg.HST_LINK_DOWN p)).setBits (Reg.HST_PORT_EVT p) (if cause = 0 then 6 else 2)
  let s := ((s.logEvent 0x4A01 [(1, p), (1, cause)]).mgmtCause 3).otherPort p
  let reads := s.readsOver p
  reads.foldl (fun (s : State) u => s.readFailed u) (((s.armLinkLost p).pfxLinkLost p).grmLinkLost p)

/-- A port's link comes up, or its configuration space changes while it is up (log entry 10). -/
def State.portUp (s : State) (p speed width : Nat) (msix mask master : Bool) : State :=
  let x := s.ports.get p
  if s.fuses.hostPorts ≤ p ∨ !x.training ∨ s.pwr.dawn < 4 then s
  else if x.linkUp then
    { s with ports := s.ports.put p { x with msixEnable := msix, funcMask := mask, busMaster := master } }
  else
    let s : State := { s with ports := s.ports.put p { x with
      linkUp := true, speed := speed % 8, width := width % 32, msixEnable := msix, funcMask := mask, busMaster := master
      resetSince := false } }
    let s := if x.resetSince then s.setBits (Reg.HST_PORT_EVT p) 1 else s
    let s := ((s.logEvent 0x1A01 [(1, p), (1, speed), (1, width), (1, b2n x.resetSince)]).mgmtCause 3).otherPort p
    s.ringsResume

/-! ### Port reset (R469, Table 16-8) -/

/-- A resident sequence is to complete EVICTED at the next boundary, for the reset of a port it needs. -/
def State.portEvict (s : State) (i q : Nat) : State := (s.retireSoon i q 0x06).count Reg.SCH_EVICTED

/-- The far-tier area of an instance loses its port: sequences in it are evicted, sets with far records are damaged, and
the area's valid bit clears once no spilled sequence remains. -/
def State.farPortReset (s : State) (i : Nat) : State :=
  let qs := (s.spills.cells.filter (fun c => c.1 / 4096 == i && c.2.phase != .none)).map (fun c => c.1 % 4096)
  let s := (qs.filter (fun q => (s.seq i q).state != .retiring)).foldl (fun (s : State) q => s.portEvict i q) s
  let far := ((s.winsts.get i).sets.filter (fun x => (s.wslots.get x.slot).pkg.setFar != 0)).map (·.slot)
  let s := far.foldl (fun (s : State) k =>
    (s.updWInst i (fun w => w.updSet k (fun x => { x with damaged := true }))).queueReload i k) s
  if s.farValid i then ({ s with ftrStale := s.ftrStale.put i true } : State).settleFar i else s

/-- A grammar slot loses its port: the sequences naming it are evicted, and it empties once none is left. -/
def State.grmPortReset (s : State) (g : Nat) : State :=
  let x := s.grammars.get g
  if x.state ≠ .ready ∧ x.state ≠ .draining then s else
  let qs := s.seqs.cells.filter (fun c => c.2.state != .free && c.2.state != .retiring && c.2.desc.mask == 3 &&
    c.2.desc.grammar == g && !s.isDraft (c.1 / 4096))
  let s := qs.foldl (fun (s : State) c => s.portEvict (c.1 / 4096) (c.1 % 4096)) s
  if x.refs = 0 then s.grmUnloaded g 1 else s.updGrm g (fun y => { y with state := .draining })

/-- The holders of host addresses that name a port alone lose them (Table 16-8). -/
def State.holdersReset (s : State) (p : Nat) : State :=
  let s := (List.range 4).foldl (fun (s : State) r =>
    let s := if ringPort (s.regN (Reg.SQ_CFG r)) = p then s.sqDisable r else s
    if ringPort (s.regN (Reg.RQ_CFG r)) = p then s.rqDisable r else s) s
  let s := if ringPort (s.regN Reg.CMD_CFG) = p then s.cmdDisable else s
  let s := if s.regF Reg.EVR_CFG 8 8 = p then s.evrDisable else s
  let s := (List.range 16).foldl (fun (s : State) i =>
    if namesAlone (bits (s.regN (Reg.FTR_CTL i)) 2 1) p then s.farPortReset i else s) s
  let s := (List.range 8).foldl (fun (s : State) k =>
    if namesAlone (s.regF (Reg.WLD_SLOT_CTL k) 1 0) p ∧ (s.wslots.get k).state ≠ 0 then
      s.updWSlot k (fun x => { x with stale := true })
    else s) s
  (List.range 64).foldl (fun (s : State) g =>
    if namesAlone (s.regF (Reg.GRM_SLOT_CTL g) 1 0) p then s.grmPortReset g else s) s

/-- The registers of a port that its reset returns to their reset values. -/
def portRegs (p : Nat) : List Nat :=
  [Reg.HST_PORT_EVT p, Reg.HST_B4_SEL p, Reg.FMT_SEL p, Reg.SCH_SEQ_SEL p, Reg.FLT_LOG_SEL p]

/-- A port's own state returns to its reset values: configuration space, MSI-X table, selection registers, latches and held
words (R469). -/
def State.portClear (s : State) (p : Nat) : State :=
  let own := fun (k : Nat) => (portRegs p).contains k || (decide (Reg.MSIX_TABLE p 0 ≤ k) && decide (k < Reg.MSIX_TABLE p 256))
  { s with
    ports := s.ports.upd p (fun x => { x with
      msixEnable := false, funcMask := false, busMaster := false, dState := 0, pba := 0, resetSince := true })
    regs := s.regs.keep (fun k _ => !own k)
    latchHi := s.latchHi.keep (fun k _ => k / 2 ^ 32 != p)
    heldLow := s.heldLow.keep (fun k _ => k / 2 ^ 32 != p) }

/-- What depends on the port's link is given up though the link stays: the loader, prefix loads, grammar loads and reads in
flight (Table 16-8). -/
def State.portGiveUp (s : State) (p : Nat) : State :=
  let reads := s.readsOver p
  reads.foldl (fun (s : State) u => s.readFailed u) (((s.armLinkLost p).pfxLinkLost p).grmLinkLost p)

/-- A port reset: a warm reset confined to port p. `down`: the link goes down with it (PERST, hot reset, link disable). -/
def State.portReset (s : State) (p : Nat) (down : Bool) : State :=
  if s.fuses.hostPorts ≤ p then s else
  let s := if down then s.portDown p 2 else s.portGiveUp p
  let s := ((s.count (Reg.HST_RESETS p)).otherPort p).portClear p
  (s.dropSessions (fun x => x.transport == p)).holdersReset p

/-! ### The device reset (R468) -/

/-- In-field tests abort at a warm reset (R532). -/
def State.abortTests (s : State) : State :=
  (List.range 8).foldl (fun (s : State) j => if (s.tests.get j).status = 2 then s.endTest j 3 else s) s

/-- Calibration turns are abandoned at a warm reset, and what stands in for calibration returns at once (R181). -/
def State.abandonTurns (s : State) : State :=
  s.cals.cells.foldl (fun (s : State) c =>
    let n := c.1
    if c.2.state = 0 then s else
    let sp := s.arr n 12
    let s := if sp.stand && sp.standReason == 1 then s.endStand n sp.standPos else s
    s.abandonTurn n 3) s

/-- What an array keeps over a device reset: its retirement and its stand-in for a fault, and when its record was saved. -/
def Arr.afterReset (x : Arr) : Arr :=
  { retired := x.retired, lastSaved := x.lastSaved
    stand := x.stand && x.standReason == 2, standReason := if x.standReason = 2 then 2 else 0
    standPos := if x.standReason = 2 then x.standPos else 0 }

/-- What a pedestal keeps: its stack's contents and condition. -/
def Ped.afterReset (x : Ped) : Ped :=
  { mem := x.mem, poison := x.poison, state := x.state, refreshDouble := x.refreshDouble, temp := x.temp, lost := x.lost
    dieErrs := x.dieErrs, dieTimeouts := x.dieTimeouts }

/-- What power keeps: the input, the vesper domain's records, lost phases and the energy reservoir. The dawn is run again
from the start of the core clocks. -/
def Pwr.afterReset (x : Pwr) (port : Nat) : Pwr :=
  { dawn := 4, dawnKind := 1, resetBy := some port, pwrGood := x.pwrGood, faultN := x.faultN, thermtripN := x.thermtripN
    trip := x.trip, restarts := x.restarts, lockout := x.lockout, off := x.off, warning := x.warning, lowInput := x.lowInput
    lost := x.lost, shutting := x.shutting, env := x.env, demand := x.demand, load := x.load, ballast := x.ballast
    reservoir := x.reservoir, inV := x.inV, inI := x.inI, inP := x.inP }

/-- A register that a device reset keeps: the RWS registers, and FLT_INT_MAX, which R508 keeps since cold reset. -/
def keptReg (off : Nat) : Bool :=
  off == Reg.FLT_INT_MAX || ((regRow? off).map (fun (r : RegRow) => r.acc == Access.rws)).getD false

/-- The state that steps 2 to 4 of R468 leave. -/
def State.resetAll (s : State) (port : Nat) : State :=
  { pending := s.pending, out := s.out, freeCtr := s.freeCtr, time := s.time, timeRuns := s.timeRuns
    regs := s.regs.keep (fun k _ => keptReg k)
    log := { s.log with evrLostSince := 0 }
    fuses := s.fuses
    armFloor := s.armFloor
    arrays := s.arrays.mapVals (fun _ x => x.afterReset)
    calStores := s.calStores.mapVals (fun _ x => { x with
      slots := x.slots.mapVals (fun _ c => { c with bad := false })
      queue := [], fails := 0, hourly := [], hourlyDone := 0, dropped := [] })
    lanes := s.lanes.mapVals (fun _ x => { retired := x.retired })
    slices := s.slices
    unreachable := s.unreachable
    peds := s.peds.mapVals (fun _ x => x.afterReset)
    ports := s.ports.mapVals (fun _ x => { training := x.training })
    icps := s.icps.mapVals (fun _ x => { adopted := x.adopted })
    reserves := s.reserves
    unbacked := s.unbacked
    pwr := s.pwr.afterReset port
    clk := { s.clk with west := false, east := false }
    hka := { slices := s.hka.slices.mapVals (fun _ x => { ofs := x.ofs, gain := x.gain, retired := x.retired, cause := x.cause }) }
    thm := { shutdown := s.thm.shutdown, count := s.thm.count }
    weightKeys := s.weightKeys
    sec := { identity := s.sec.identity, locked := true, scopes := 0, sealedSince := s.sec.sealedSince, banks := s.sec.banks
             revoked := s.sec.revoked, nonce := s.sec.nonce, lockout := s.sec.lockout, store := s.sec.store
             writes := s.sec.writes } }

/-- The device reset, asked for over a port (R31's port order). Before the core clocks have started there is nothing to
reset. -/
def State.deviceReset (s : State) (port : Nat) : State :=
  if s.pwr.dawn < 5 then s else
  let s : State := { s with cmd := {} }
  (s.abortTests.abandonTurns.resetAll port).latchInj

end Sys2Proof.Machine
end

