-- ==== Sys2Proof/Machine/RegWrite.lean ====
section
/-!
DEFINITION. What a register write does (00 R13–R19, and the command registers of every chapter): a stored register takes
the value by its access code; a command register performs its action.
-/
namespace Sys2Proof.Machine
open Sys2Proof

/-- The indexes of a register of a table's row. -/
def regIndex (r : RegRow) (off : Nat) : Nat × Nat :=
  let d := off - r.base
  match r.dims with
  | [] => (0, 0)
  | [(_, a)] => (d / a, 0)
  | (_, a) :: (_, b) :: _ => (d / a, d % a / b)

/-! ### Command registers, by block -/

/-- ARM_CTL (Table 2-16). -/
def State.armCmd (s : State) (port : Port) (v : Nat) : State :=
  match v % 16 with
  | 1 => (s.armLoad port).1
  | 2 => (s.armSeal port).1
  | 3 => (s.armDiscard port).1
  | _ => s.logEvent 0x6F02 [(4, v), (1, port.num)]

/-- SCH_CMD (Table 14-10). An undefined value is ignored; its entry's status is STATE, the only failure SCH_CMD_STAT codes
(log entry 55). -/
def State.schCmdWrite (s : State) (port : Port) (v : Nat) : State :=
  let i := bits v 27 24
  match v % 16 with
  | 1 => (s.schEvict port i (bits v 23 12)).1
  | 2 => (s.schEvictAll port i).1
  | 3 => (s.schHold port i).1
  | 4 => (s.schRelease port i).1
  | _ => s.logEvent 0x6901 [(4, v), (1, port.num), (1, 1)]

/-- GRM_CMD (Table 15-10). -/
def State.grmCmd (s : State) (port : Port) (v : Nat) : State :=
  match v % 16 with
  | 1 => (s.grmLoad (bits v 13 8) port).1
  | 2 => (s.grmUnload (bits v 13 8)).1
  | _ => s.logEvent 0x6904 [(4, v), (1, port.num)]

/-- WLD_CMD (Table 13-9). -/
def State.wldCmd (s : State) (port : Port) (v : Nat) : State :=
  let k := bits v 6 4
  let i := bits v 11 8
  match v % 16 with
  | 1 => (s.wldBind k).1
  | 2 => (s.wldUnbind k).1
  | 3 => (s.wldLoad k i).1
  | 4 => (s.wldUnload k i).1
  | 5 => (s.wldSwitch k i (bit v 12)).1
  | 6 => (s.wldReload k i).1
  | _ => s.logEvent 0x6802 [(4, v), (1, port.num)]

/-- FMT_CTL (Table 5-13). -/
def State.fmtCtl (s : State) (port : Port) (v : Nat) : State :=
  match v % 16 with
  | 1 => (s.resetFallback (bits v 7 4) port).1
  | _ => s.logEvent 0x6201 [(4, v), (1, port.num)]

/-- PFX_CTL(k) (Table 12-10). -/
def State.pfxCtl (s : State) (k : Nat) (port : Port) (v : Nat) : State :=
  match v % 16 with
  | 1 => (s.pfxLoad k port (bits v 7 4)).1
  | 2 => (s.pfxUnload k).1
  | _ => s.logEvent 0x6705 [(4, v), (1, port.num)]

/-- FLT_TEST_CTL with a spacing (Table 18-9); the answer is the ring's status, none while the test runs. An op that is no
command is refused with STATE, the status R528 gives a command that cannot be carried out (log entry 56). -/
def State.testCmd (s : State) (port : Port) (v spacing : Nat) : State × Option Nat :=
  match bits v 31 24 with
  | 1 => s.testStart port (bits v 23 16) (v % 256) spacing
  | 2 => s.testAbort port (v % 256)
  | _ => s.testRefused v 0x05 port

/-- PWR_CMD (Table 19-10). -/
def State.pwrCmd (s : State) (v : Nat) : State :=
  if bits v 31 16 = 0x5A5A ∧ v % 16 = 1 ∧ 4 ≤ s.pwr.dawn then s.startShutdown else s

/-- SEC_CMD (Table 21-8). -/
def State.secCmd (s : State) (v : Nat) : State :=
  match v % 16 with
  | 1 => s.relock
  | 2 => s.renewNonce
  | _ => s

/-- The token in SEC_UNLOCK_DATA. -/
def State.tokenBytes (s : State) : List Byte :=
  (List.range 50).flatMap (fun k => leBytes 4 (s.regN (Reg.SEC_UNLOCK_DATA k)))

/-- ICP_CTL(n) (Table 17-9). -/
def State.icpCtl (s : State) (n : Nat) (port : Port) (v : Nat) : State :=
  match v % 16 with
  | 1 => s.icpAdopt n port
  | 2 => s.icpReject n port
  | 3 => s.icpRetrain n port
  | _ => s.icpBad n v port

/-- CAL_CMD of core n (Table 6-8). -/
def State.calCmd (s : State) (n : Nat) (port : Port) (v : Nat) : State :=
  match v % 16 with
  | 1 => if 12 < bits v 7 4 || (s.arr n (bits v 7 4)).retired then s.calBad v port else s.toFront n (bits v 7 4)
  | 2 => (s.calSave n n).1
  | _ => s.calBad v port

/-- SPM_CTL of core n (Table 9-9). -/
def State.spmCtl (s : State) (n : Nat) (port : Port) (v : Nat) : State :=
  match v % 16 with
  | 1 => s.unify n port
  | 2 => s.resume n port
  | _ => s.spmBad n v port

/-- HST_IRQ(s): the map changes, and a source whose pending events reach the new count is raised (R459). -/
def State.irqMap (s : State) (src v : Nat) : State :=
  let s := s.setRegN (Reg.HST_IRQ src) v
  let n := (s.irq.get src).pending
  if bit v 31 ∧ 0 < n ∧ max 1 (bits v 11 0) ≤ n then s.raiseIrq src else s

/-- HST_RESET (R468). -/
def State.hstReset (s : State) (port : Port) (v : Nat) : State :=
  if v = 0xA55A then s.deviceReset port.num else s.logEvent 0x6A03 [(4, v)]

/-! ### Writes -/

/-- The base of an enabled ring takes no write (R396). -/
def State.baseHeld (s : State) (r : RegRow) (off : Nat) : Bool :=
  let i := (regIndex r off).1
  if r.base = Reg.SQ_BASE_HI 0 then ringOn (s.regN (Reg.SQ_CFG i))
  else if r.base = Reg.RQ_BASE_HI 0 then ringOn (s.regN (Reg.RQ_CFG i))
  else if r.base = Reg.CMD_BASE_HI then ringOn (s.regN Reg.CMD_CFG)
  else if r.base = Reg.EVR_BASE_HI then bit (s.regN Reg.EVR_CFG) 15
  else false

/-- A write of the high register of a 64-bit pair: the whole value takes effect, and the held word is released (R19). -/
def State.writeHigh (s : State) (r : RegRow) (port : Port) (off v : Nat) : State :=
  let i := (regIndex r off).1
  let lo := off - 4
  if r.base = Reg.SPM_ACC_DATA_HI 0 then s.spmData i port v else
  let pair := s.heldPair port lo v
  let s : State := { s with heldLow := s.heldLow.put (portKey port lo) none }
  if s.baseHeld r off then s
  else if r.base = Reg.FTR_BASE_HI 0 then s.ftrBase port i pair
  else s.setReg64 lo pair

/-- A write takes the register's value (R14, R17, R19). -/
def State.takeWrite (s : State) (r : RegRow) (port : Port) (off v : Nat) : State :=
  match r.acc with
  | .ro => s
  | .w1c => s.setRegN off ((s.reg off) &&& ~~~(BitVec.ofNat 32 v)).toNat
  | .rwl =>
    if s.rwlLocked then s.logEvent 0x6002 [(4, off), (4, v), (1, port.num)] else s.setRegN off v
  | _ =>
    match r.half with
    | Half.low => { s with heldLow := s.heldLow.put (portKey port off) (some (BitVec.ofNat 32 v)) }
    | Half.high => s.writeHigh r port off v
    | Half.single => s.setRegN off v

/-- The effect of a write: the action of a command register, and otherwise that the register takes the value. `v` is the
written value with its reserved bits cleared (R17), `raw` the value as written, which events show. -/
def State.writeAct (s : State) (r : RegRow) (port : Port) (off v raw : Nat) : State :=
  let i := (regIndex r off).1
  let j := (regIndex r off).2
  let b := r.base
  if b = Reg.ARM_CTL then s.armCmd port raw
  else if b = Reg.SCH_CMD then s.schCmdWrite port raw
  else if b = Reg.SQ_CFG 0 then s.sqCfg i port v
  else if b = Reg.SQ_TAIL 0 then s.sqTail i port v
  else if b = Reg.RQ_CFG 0 then s.rqCfg i port v
  else if b = Reg.RQ_HEAD 0 then s.rqHead i v
  else if b = Reg.GRM_CMD then s.grmCmd port raw
  else if b = Reg.WLD_CMD then s.wldCmd port raw
  else if b = Reg.FMT_CTL then s.fmtCtl port raw
  else if b = Reg.PFX_CTL 0 then s.pfxCtl i port raw
  else if b = Reg.FTR_CTL 0 then s.ftrCtl port i v
  else if b = Reg.FLT_TEST_CTL then ((s.testCmd port raw (s.regF Reg.FLT_TEST_SPACING 7 0))).1
  else if b = Reg.FLT_FATAL_COUNT then s.fatalWrite v
  else if b = Reg.PWR_CMD then s.pwrCmd v
  else if b = Reg.HKA_INJ_TRIG then s.injWrite v
  else if b = Reg.THM_COOLANT then
    let s := s.setRegN off v
    { s with thm := { s.thm with wroteAt := some s.time } }
  else if b = Reg.SEC_CMD then s.secCmd v
  else if b = Reg.SEC_UNLOCK_CTL then if bit v 0 then s.unlockSubmit port.num s.tokenBytes else s
  else if b = Reg.ICP_CTL 0 then s.icpCtl i port raw
  else if b = Reg.HST_IRQ 0 then s.irqMap i v
  else if b = Reg.CMD_CFG then s.cmdCfg port v
  else if b = Reg.CMD_TAIL then s.cmdTail port v
  else if b = Reg.EVR_CFG then s.evrCfg port v
  else if b = Reg.EVR_HEAD then s.evrHead v
  else if b = Reg.HST_RESET then s.hstReset port raw
  else if b = Reg.MSIX_TABLE 0 0 then s.setRegN off (if j % 4 = 3 then v % 2 else v)
  else if b = Reg.ARR_TEST_CTL 0 0 then s.testRead i j v
  else if b = Reg.CAL_CMD 0 then s.calCmd i port raw
  else if b = Reg.SPM_CTL 0 then s.spmCtl i port raw
  else if b = Reg.SPM_ACC_ADDR 0 then s.spmAddr i port v
  else s.takeWrite r port off v

/-- A 32-bit aligned write of the register at a BAR0 offset (R13–R19, R26). -/
def State.writeReg (s : State) (port : Port) (off value : Nat) : State :=
  match regRow? off with
  | none => s
  | some r =>
    if s.absentWindow off then s else
    let raw := value % 2 ^ 32
    let v := (BitVec.ofNat 32 value &&& r.mask).toNat
    s.writeAct r port off v raw

/-! ### Accesses by size (R13, R456) -/

/-- Event 0x6001: a refused access. -/
def State.badAccess (s : State) (port : Port) (bar off size : Nat) (write : Bool) : State :=
  s.logEvent 0x6001 [(4, off), (1, if bar = 0 then 0 else 1), (1, size), (1, b2n write), (1, port.num)]

/-- All ones in every byte of an access. -/
def allOnes (size : Nat) : Nat := 2 ^ (8 * size) - 1

/-- A write of BAR2: a 32-bit write at a doorbell acts as a write of its register (Table 16-4). -/
def State.writeDoorbell (s : State) (port : Port) (off size value : Nat) : State :=
  if size ≠ 4 ∨ off % 4 ≠ 0 then s.badAccess port 2 off size true
  else if off % 0x1000 ≠ 0 then s
  else
    let page := off / 0x1000
    if page < 4 then s.writeReg port (Reg.SQ_TAIL page) value
    else if page < 8 then s.writeReg port (Reg.RQ_HEAD (page - 4)) value
    else if page = 8 then s.writeReg port Reg.CMD_TAIL value
    else if page = 9 then s.writeReg port Reg.EVR_HEAD value
    else s

/-- A write of BAR0. -/
def State.writeBar0 (s : State) (port : Port) (off size value : Nat) : State :=
  if size = 4 ∧ off % 4 = 0 then s.writeReg port off value
  else if size = 8 ∧ off % 8 = 0 then (s.writeReg port off value).writeReg port (off + 4) (value / 2 ^ 32)
  else s.badAccess port 0 off size true

/-- A read of BAR0: the state it leaves and the data it returns. -/
def State.readBar0 (s : State) (port : Port) (off size : Nat) : State × Nat :=
  if off % size ≠ 0 ∨ size ∉ [1, 2, 4, 8] then (s.badAccess port 0 off size false, allOnes size)
  else if size = 8 then
    let a := s.readReg port off
    let b := a.1.readReg port (off + 4)
    (b.1, a.2.toNat + 2 ^ 32 * b.2.toNat)
  else
    let a := s.readReg port (off / 4 * 4)
    (a.1, a.2.toNat / 2 ^ (8 * (off % 4)) % 2 ^ (8 * size))

/-- A port that can send accesses: port B is absent on the S variant (R28). -/
def State.portHere (s : State) : Port → Bool
  | .b => decide (1 < s.fuses.hostPorts)
  | _ => true

/-- A read that returns its data to the port. BAR2 reads return 0 (R456). -/
def State.hostRead (s : State) (port : Port) (bar off size : Nat) : State :=
  if !s.portHere port then s else
  let a := if bar = 0 then s.readBar0 port off size else (s, 0)
  a.1.emit (.readData port size a.2)

/-- REGISTER_WRITE (R13, R14, R456). -/
def execRegisterWrite (port : Port) (bar off size value : Nat) (s : State) : Out' :=
  .next (if !s.portHere port then s
    else if bar = 0 then s.writeBar0 port off size value else s.writeDoorbell port off size value)

/-- LOW_REGISTER_READ (R19). -/
def execLowRegisterRead (port : Port) (off size : Nat) (s : State) : Out' := .next (s.hostRead port 0 off size)

/-- MISALIGNED_READ (R13). -/
def execMisalignedRead (port : Port) (bar off size : Nat) (s : State) : Out' := .next (s.hostRead port bar off size)

/-- REGISTER: the fabric carries a host access to a core window or block (R296). -/
def execRegister (port : Port) (write : Bool) (off value : Nat) (s : State) : Out' :=
  .next (if !s.portHere port then s
    else if write then s.writeBar0 port off 4 value else s.hostRead port 0 off 4)

end Sys2Proof.Machine
end

