-- ==== Sys2Proof/Machine/CommandRing.lean ====
section
/-!
DEFINITION. The command ring's commands (16 R462–R466, Tables 16-6 and 16-7).
-/
namespace Sys2Proof.Machine
open Sys2Proof

/-- The fields of a command entry (Table 16-6, R463). -/
structure CmdFields where
  seq : Nat
  opcode : Nat
  index : Nat
  inst : Nat
  sub : Nat
  a1 : Nat
  a2 : Nat
  /-- A reserved field is not 0. -/
  reserved : Bool
deriving DecidableEq, Repr

def cmdFields (e : List Byte) : CmdFields :=
  let f := leField e
  { seq := f 0 4, opcode := f 4 1, index := f 8 1, inst := f 9 1, sub := f 10 1, a1 := f 0x10 8, a2 := f 0x18 8
    reserved := f 5 3 != 0 || f 0x28 8 != 0 || f 11 5 != 0 }

/-- The opcodes of Table 16-7. -/
def ringOpcodes : List Nat :=
  [0x00, 0x01, 0x02, 0x03, 0x10, 0x11, 0x12, 0x13, 0x14, 0x15, 0x20, 0x21, 0x22, 0x23, 0x28, 0x30, 0x31, 0x38, 0x39,
   0x40, 0x41, 0x48, 0x50, 0x58, 0x60]

/-- The command's index, instance, logical core or sub-field is out of range (R465). A sub-field that Table 16-7 gives no
meaning counts as out of range (log entry 57). -/
def State.cmdOutOfRange (s : State) (c : CmdFields) : Bool :=
  let op := c.opcode
  let usesInst := (op == 0x12 || op == 0x13 || op == 0x14 || op == 0x15 || (0x20 ≤ op && op ≤ 0x28) || op == 0x30 ||
    op == 0x58)
  (usesInst && 16 ≤ c.inst) ||
  ((0x10 ≤ op && op ≤ 0x15) && 8 ≤ c.index) ||
  ((op == 0x30 || op == 0x31) && 8 ≤ c.index) ||
  ((op == 0x38 || op == 0x39) && 64 ≤ c.index) ||
  ((op == 0x40 || op == 0x41) && s.fuses.grade ≤ c.index) ||
  (op == 0x20 && 4096 ≤ c.a2) ||
  ((op == 0x10 || op == 0x38) && 2 < c.sub) ||
  (op == 0x14 && 1 < c.sub) ||
  (op == 0x58 && (bits c.sub 6 2 != 0 || c.sub % 4 == 3))

/-- The unit that the command needs is absent (R465). -/
def State.cmdAbsent (s : State) (op : Nat) : Bool :=
  ((op == 0x30 || op == 0x31) && !s.hasPrefixes) || ((op == 0x38 || op == 0x39) && !s.hasGrammar)

/-- The ring-level status of an entry, if it has one (R465). -/
def State.cmdCheck (s : State) (c : CmdFields) : Option Nat :=
  if !ringOpcodes.contains c.opcode then some 0xF0
  else if c.reserved || s.cmdOutOfRange c then some 0xF1
  else if s.cmdAbsent c.opcode then some 0xF2
  else none

/-- The ring writes a source register before its command acts (R464). -/
def State.ringWrite64 (s : State) (lo v : Nat) : State := (s.writeReg .ring lo v).writeReg .ring (lo + 4) (v / 2 ^ 32)

/-- FAR_TIER: base and control are written; STATE when R331 ignores a write, under a code the spec does not give. -/
def State.farTier (s : State) (i port : Nat) (valid : Bool) (base : Nat) : State × Option Nat :=
  let st := if s.farBusy i then Config.ringState 0x58 else 0
  ((s.ringWrite64 (Reg.FTR_BASE_LO i) base).writeReg .ring (Reg.FTR_CTL i) (b2n valid + 2 * (port % 4)), some st)

/-- FIELD_TEST: a test that has ended by then completes at once. -/
def State.ringTest (s : State) (value spacing : Nat) : State × Option Nat :=
  let j := (firstBelow 8 (fun j => (s.tests.get j).status != 2)).getD 0
  match s.testCmd .ring value spacing with
  | (t, some st) => (t, some st)
  | (t, none) => if (t.tests.get j).status = 2 then (t, none) else (t, some (t.tests.get j).status)

/-- A command of the ring is issued to the block that owns it: its status, or none while it is in progress (Table 16-7).
`entry` is the entry's index in the ring. -/
def State.runCmd (s : State) (entry : Nat) (c : CmdFields) : State × Option Nat :=
  let k := c.index
  let i := c.inst
  match c.opcode with
  | 0x01 => ((s.ringWrite64 Reg.ARM_SRC_LO c.a1).writeReg .ring Reg.ARM_LEN c.a2).armLoad .ring
  | 0x02 => s.armSeal .ring
  | 0x03 => s.armDiscard .ring
  | 0x10 =>
    (((s.ringWrite64 (Reg.WLD_SRC_LO k) c.a1).ringWrite64 (Reg.WLD_LEN_LO k) c.a2).writeReg .ring (Reg.WLD_SLOT_CTL k)
      c.sub).wldBind k
  | 0x11 => s.wldUnbind k
  | 0x12 => s.wldLoad k i
  | 0x13 => s.wldUnload k i
  | 0x14 => s.wldSwitch k i (c.sub == 1)
  | 0x15 => s.wldReload k i
  | 0x20 => s.schEvict .ring i c.a2
  | 0x21 => s.schEvictAll .ring i
  | 0x22 => s.schHold .ring i
  | 0x23 => s.schRelease .ring i
  | 0x28 => s.resetFallback i .ring
  | 0x30 => ((s.ringWrite64 (Reg.PFX_SRC_LO k) c.a1).writeReg .ring (Reg.PFX_LEN k) c.a2).pfxLoad k .ring i
  | 0x31 => s.pfxUnload k
  | 0x38 =>
    (((s.ringWrite64 (Reg.GRM_SRC_LO k) c.a1).ringWrite64 (Reg.GRM_LEN_LO k) c.a2).writeReg .ring (Reg.GRM_SLOT_CTL k)
      c.sub).grmLoad k .ring
  | 0x39 => s.grmUnload k
  | 0x40 => s.calPrioritise k c.sub .ring
  | 0x41 => s.calSave k (256 * (entry + 1) + k)
  | 0x48 => s.ringTest (c.a1 % 2 ^ 32) (c.a2 % 256)
  | 0x50 => ({ s with pwr := { s.pwr with hint := some c.a1 } }, some 0)
  | 0x58 => s.farTier i (c.sub % 4) (bit c.sub 7) c.a1
  | _ => (s, some 0)

/-- What the completion of a command in progress waits on. -/
def State.cmdKey (s : State) (entry : Nat) (c : CmdFields) : Nat :=
  if 0x10 ≤ c.opcode ∧ c.opcode ≤ 0x15 then wldKey (c.opcode - 0x0F) c.index c.inst
  else if c.opcode = 0x28 then c.inst
  else if c.opcode = 0x30 ∨ c.opcode = 0x38 then c.index
  else if c.opcode = 0x41 then 256 * (entry + 1) + c.index
  else if c.opcode = 0x48 then (firstBelow 8 (fun j => (s.tests.get j).status != 2)).getD 0
  else 0

/-- 0x6A03 COMMAND_FAILED of a ring-level status, at most once per second (R465). -/
def State.cmdFailed (s : State) (c : CmdFields) (st : Nat) : State :=
  if 0xF0 ≤ st ∧ st ≤ 0xF2 then s.logLimited 0x6A03 0 (fun _ => [(1, c.opcode), (4, c.seq), (1, st)]) else s

/-- The opcode of the command being issued, until it is known whether it stays in progress: no command of Table 16-7 has
it. -/
def issuing : Nat := 256

/-- The entry read at the head is taken: it is in progress from here on (R462). -/
def State.cmdTake (s : State) (entry seq : Nat) : State :=
  { s with cmd := { s.cmd with
    reading := false, inProgress := s.cmd.inProgress ++ [{ entry := entry, seq := seq, opcode := issuing }] } }

/-- The command being issued stays in progress, waiting on a key, or is done. -/
def State.cmdSettle (s : State) (stays : Option (Nat × Nat)) : State :=
  { s with cmd := { s.cmd with inProgress := s.cmd.inProgress.filterMap (fun c =>
    if c.opcode == issuing then stays.map (fun k => { c with opcode := k.1, key := k.2 }) else some c) } }

/-- The command of the entry at the head is issued: it completes at once, or is in progress (R462–R465). -/
def State.cmdIssue (s : State) (entry : Nat) (c : CmdFields) : State :=
  match s.cmdCheck c with
  | some st => ((s.cmdSettle none).cmdFailed c st).writeCompletion entry c.seq st
  | none =>
    let key := s.cmdKey entry c
    match s.runCmd entry c with
    | (t, some st) => ((t.cmdSettle none).cmdFailed c st).writeCompletion entry c.seq st
    | (t, none) => t.cmdSettle (some (c.opcode, key))

/-- DEVICE_RESET over the ring: its completion is written and read back before the reset (R468). -/
def State.ringReset (s : State) (entry : Nat) (c : CmdFields) : State :=
  let s := s.cmdSettle none
  match s.cmdCheck c with
  | some st => (s.cmdFailed c st).writeCompletion entry c.seq st
  | none =>
    let s := s.writeCompletion entry c.seq 0
    let s := s.emit (.hostRead (s.regF Reg.CMD_CFG 8 8) (s.reg64 Reg.CMD_BASE_LO / 4096 * 4096 + 64 * entry + 0x30) 16)
    s.deviceReset 3

/-- The entry read at the head is issued, the head advances and the next entry is read (R462). An entry that is not 64
bytes is a completion error. -/
def State.cmdEntry (s : State) (e : List Byte) : State :=
  if !s.cmd.reading then s
  else if e.length ≠ 64 then s.cmdReadFailed
  else
    let head := s.regN Reg.CMD_HEAD
    let c := cmdFields e
    let s := s.cmdTake head c.seq
    let s := s.setRegN Reg.CMD_HEAD ((head + 1) % ringSize (s.regN Reg.CMD_CFG))
    if c.opcode = 0x60 then s.ringReset head c else (s.cmdIssue head c).cmdFetch

/-- COMMAND_ENTRY (R462). -/
def execCommandEntry (entry : List Byte) (s : State) : Out' := .next (s.cmdEntry entry)

/-- COMMAND_RING_NOP (R464): the entry at the head, whose index `entry` is, holds opcode 0x00. -/
def execCommandRingNop (entry seq : Nat) (s : State) : Out' :=
  .next (if entry = s.regN Reg.CMD_HEAD then s.cmdEntry (leBytes 4 seq ++ List.replicate 60 0) else s)

/-- WAKE_HINT (R464, R556): the hint in force, in place of one before it. -/
def execWakeHint (time : Nat) (s : State) : Out' := .next { s with pwr := { s.pwr with hint := some time } }

/-- FAR_TIER (R464, R331). -/
def execFarTier (inst port : Nat) (valid : Bool) (base : Nat) (s : State) : Out' :=
  .next (if 16 ≤ inst then s else (s.farTier inst port valid base).1)

end Sys2Proof.Machine
end

