-- ==== Sys2Proof/Machine/Host.lean ====
section
/-!
DEFINITION. The host interface's rows (16): resets and links of the ports, ring registers, BAR4, interrupts, the event ring,
and the management port.
-/
namespace Sys2Proof.Machine
open Sys2Proof

/-! ### Resets and links (R468–R471, R566) -/

/-- DEVICE_RESET (R468). -/
def execDeviceReset (by_ : Port) (s : State) : Out' := .next (s.deviceReset by_.num)

/-- PERST_ASSERTION (R469): the port may not train until PERST is deasserted. -/
def execPerstAssertion (port : Nat) (s : State) : Out' :=
  .next (if s.fuses.hostPorts ≤ port then s else
    let s := s.portReset port true
    { s with ports := s.ports.upd port (fun x => { x with training := false }) })

/-- PERST_DEASSERTION (R566). -/
def execPerstDeassertion (port : Nat) (s : State) : Out' :=
  .next (if s.fuses.hostPorts ≤ port then s else
    { s with ports := s.ports.upd port (fun x => { x with training := true }) })

/-- HOT_RESET (R469): a hot reset or link disable received on the port. -/
def execHotReset (port : Nat) (s : State) : Out' := .next (if (s.ports.get port).linkUp then s.portReset port true else s)

/-- FUNCTION_LEVEL_RESET (R469). -/
def execFunctionLevelReset (port : Nat) (s : State) : Out' :=
  .next (if (s.ports.get port).linkUp then s.portReset port false else s)

/-- D3HOT_TO_D0 (R469). -/
def execD3hotToD0 (port : Nat) (s : State) : Out' :=
  .next (if (s.ports.get port).linkUp ∧ (s.ports.get port).dState = 3 then s.portReset port false else s)

/-- D0_TO_D3HOT (R624). -/
def execD0ToD3hot (port : Nat) (s : State) : Out' :=
  .next (if (s.ports.get port).linkUp then
    { s with ports := s.ports.upd port (fun x => { x with dState := 3 }) } else s)

/-- PORT_LINK_UP (R470). -/
def execPortLinkUp (port speed width : Nat) (msixEnable funcMask busMaster : Bool) (s : State) : Out' :=
  .next (s.portUp port speed width msixEnable funcMask busMaster)

/-- The code of a cause in 0x4A01. -/
def linkCause : LinkDownCause → Nat
  | .surpriseDown => 0
  | .retraining => 1
  | .portReset => 2

/-- PORT_LINK_DOWN (R470). -/
def execPortLinkDown (port : Nat) (cause : LinkDownCause) (s : State) : Out' := .next (s.portDown port (linkCause cause))

/-- COMPLETION_TIMEOUT (R452). -/
def execCompletionTimeout (unit : ReadUnit) (s : State) : Out' := .next (s.readFailed unit)

/-! ### Ring registers (R462, R467) -/

def execCmdCfgWrite (port : Port) (value : Nat) (s : State) : Out' := .next (s.cmdCfg port value)
def execCmdTailWrite (port : Port) (value : Nat) (s : State) : Out' := .next (s.cmdTail port value)
def execEvrCfgWrite (port : Port) (value : Nat) (s : State) : Out' := .next (s.evrCfg port value)
def execEvrHeadWrite (port : Port) (value : Nat) (s : State) : Out' := let _ := port; .next (s.evrHead value)

/-! ### The stack window BAR4 (R454, R455) -/

/-- Where a BAR4 offset of a port leads: the stack and the stack address of each byte; none where reads return 0. -/
def State.bar4Addr (s : State) (p off : Nat) : Option (Nat × Nat) :=
  let sel := s.regN (Reg.HST_B4_SEL p)
  let st := sel % 8
  let i := bits sel 27 24
  if s.fuses.stackN ≤ st then none
  else if !bit sel 31 then (if off < 0xA40000000 then some (st, off) else none)
  else
    let m := s.planOf i
    if m.stackList.contains st ∧ off < (m.bases st).stop then some (st, (s.peds.get st).stackAddr i off) else none

/-- The port's window is closed: 0x6A04, at most once per port per second (R455). -/
def State.bar4Locked (s : State) (p off : Nat) : State := s.logLimited 0x6A04 p (fun _ => [(8, off), (1, p)])

/-- Accesses of 4 B to 512 B from a port with a link are carried out; the host can send no other (log entry 58). -/
def State.bar4Takes (s : State) (p size : Nat) : Bool :=
  decide (p < s.fuses.hostPorts) && decide (4 ≤ size ∧ size ≤ 512)

/-- Bytes of a BAR4 read: each block of 32 bits that meets poison reads as all ones (R328). -/
def State.bar4Bytes (s : State) (p off size : Nat) : List Byte :=
  (List.range size).map (fun k =>
    match s.bar4Addr p (off + k) with
    | none => 0
    | some (st, a) => if (s.peds.get st).poisoned a 1 then 0xFF else (s.peds.get st).mem.get a)

/-- The poisoned data blocks that a BAR4 read meets, in its stack. -/
def State.bar4Poison (s : State) (p off size : Nat) : Nat :=
  (((List.range size).filterMap (fun k => s.bar4Addr p (off + k))).filterMap (fun x =>
    if (s.peds.get x.1).poisoned x.2 1 then some (x.2 / 64) else none)).eraseDups.length

/-- BAR4_READ (R454, R455). -/
def execBar4Read (port off size : Nat) (s : State) : Out' :=
  .next (
    let dest := if port = 0 then Port.a else Port.b
    if !s.bar4Takes port size then s
    else if !s.debugOpen 0 then (s.bar4Locked port off).emit (.readData dest size (allOnes size))
    else
      let st := s.regN (Reg.HST_B4_SEL port) % 8
      let v := leNat (s.bar4Bytes port off size)
      let n := s.bar4Poison port off size
      let s := if n = 0 then s else s.pedCount st (Reg.PED_UE st) n false
      s.emit (.readData dest size v))

/-- A BAR4 write: the user region takes it; the metadata region and the unbacked region ignore it (Table 11-2). -/
def State.bar4Store (s : State) (p off : Nat) (data : List Byte) : State :=
  data.zipIdx.foldl (fun (s : State) x =>
    match s.bar4Addr p (off + x.2) with
    | some (st, a) => if a < 0xA00000000 ∨ bit (s.regN (Reg.HST_B4_SEL p)) 31 then s.updPed st (fun q => q.writeByte a x.1) else s
    | none => s) s

/-- BAR4_WRITE (R454, R455). -/
def execBar4Write (port off : Nat) (data : List Byte) (s : State) : Out' :=
  .next (if !s.bar4Takes port data.length then s
    else if !s.debugOpen 0 then s.bar4Locked port off
    else s.bar4Store port off data)

/-! ### Interrupts (R459, R460) -/

/-- IRQ_HOLD_EXPIRY (R459). -/
def execIrqHoldExpiry (source : Nat) (s : State) : Out' :=
  let m := s.regN (Reg.HST_IRQ source)
  .next (if source < 16 ∧ bit m 31 ∧ bits m 23 12 ≠ 0 ∧ 0 < (s.irq.get source).pending then s.raiseIrq source else s)

/-- MSIX_PENDING_SEND (R460): a vector's pending bit is set, and nothing holds its message any longer. -/
def execMsixPendingSend (port vector : Nat) (s : State) : Out' :=
  let p := s.ports.get port
  .next (if vector < 64 ∧ p.pba.getLsbD vector then
    ({ s with ports := s.ports.put port { p with pba := p.pba &&& ~~~(BitVec.ofNat 64 (2 ^ vector)) } } : State).deliverMsix
      port vector
  else s)

/-! ### The event ring (R467) -/

/-- Free entries of the event ring. -/
def State.evrRoom (s : State) : Nat :=
  let n := 2 ^ bits (s.regN Reg.EVR_CFG) 4 0
  n - 1 - (s.regN Reg.EVR_TAIL + n - s.regN Reg.EVR_HEAD) % n

/-- Mark the first `k` uncopied entries of the selected classes as copied. -/
def markCopied (wants : Nat → Bool) : Nat → List LogEntry → List LogEntry
  | 0, es => es
  | _, [] => []
  | k + 1, e :: es =>
    if !e.copied && wants (eventClass e.code) then { e with copied := true } :: markCopied wants k es
    else e :: markCopied wants (k + 1) es

/-- EVENT_RING_COPY (R467): entries of the selected classes are written to the ring in log order, and the last is read
back. -/
def execEventRingCopy (s : State) : Out' :=
  let cfg := s.regN Reg.EVR_CFG
  let p := bits cfg 8 8
  let todo := (s.log.entries.filter (fun e => !e.copied && s.evrWants (eventClass e.code))).take s.evrRoom
  .next (if !bit cfg 15 || !(s.ports.get p).linkUp || s.evrInFlight != 0 || todo.isEmpty then s else
    let base := s.reg64 Reg.EVR_BASE_LO / 4096 * 4096
    let n := 2 ^ bits cfg 4 0
    let addr := fun (k : Nat) => base + 32 * ((s.regN Reg.EVR_TAIL + k) % n)
    let log := { s.log with entries := markCopied s.evrWants todo.length s.log.entries }
    let t := todo.zipIdx.foldl (fun (t : State) x =>
      t.emit (.hostWrite p (addr x.2) { x.1 with copied := true : LogEntry }.bytes)) s
    { t.emit (.hostRead p (addr (todo.length - 1)) 32) with log := log, evrInFlight := todo.length })

/-- EVENT_RING_READBACK_COMPLETE (R461, R467): EVR_TAIL advances over the batch. -/
def execEventRingReadbackComplete (s : State) : Out' :=
  let n := 2 ^ s.regF Reg.EVR_CFG 4 0
  let m := s.evrInFlight
  .next (if m = 0 then s else
    ({ s.setRegN Reg.EVR_TAIL ((s.regN Reg.EVR_TAIL + m) % n) with evrInFlight := 0 } : State).irqEvents 9 m)

/-! ### The management port (R472–R474) -/

/-- The device's SMBus address. -/
def State.smbusAddr (s : State) : Nat := 0x60 + s.fuses.slotId

/-- SMB_ALERT_N asserted (R474): an enabled cause whose alert has not been answered. -/
def State.smbAlert (s : State) : Bool :=
  (s.reg Reg.HST_MGMT_STAT &&& s.reg Reg.HST_MGMT_EN &&& 0xF &&& ~~~s.araMask) != 0

/-- WAKE_N asserted (R624): an MSI-X message waits on a port with no link or in D3hot. -/
def State.wakeN (s : State) : Bool :=
  (List.range 2).any (fun p => (s.ports.get p).pba != 0 && (!(s.ports.get p).linkUp || (s.ports.get p).dState == 3))

/-- SET_ENDPOINT_ID (R472). The identifiers 8 to 254 that MCTP allows (PRESUMED DSP0236, log entry 59) are accepted. -/
def execSetEndpointId (eid : Nat) (s : State) : Out' :=
  .next (if 8 ≤ eid ∧ eid ≤ 254 then ({ s with mgmtEid := eid } : State).emit (.mctp [0x00, 0x00, eid, 0])
    else s.emit (.mctp [0x02]))

/-- GET_ENDPOINT_ID (R472). -/
def execGetEndpointId (s : State) : Out' := .next (s.emit (.mctp [0x00, s.mgmtEid, 0, 0]))

/-- GET_MCTP_VERSION_SUPPORT (R472). The versions are open. -/
def execGetMctpVersionSupport (s : State) : Out' :=
  .next (s.emit (.mctp (0x00 :: Config.mctpVersions.length :: Config.mctpVersions)))

/-- The message types that R472 names beside MCTP control, by their DMTF codes: SPDM, secured SPDM and vendor-defined PCI
(PRESUMED DSP0239, log entry 59). -/
def mctpTypes : List Nat := [0x05, 0x06, 0x7E]

/-- GET_MESSAGE_TYPE_SUPPORT (R472). -/
def execGetMessageTypeSupport (s : State) : Out' := .next (s.emit (.mctp (0x00 :: mctpTypes.length :: mctpTypes)))

/-- UNSUPPORTED_MESSAGE_TYPE (R472). -/
def execUnsupportedMessageType (type : Nat) (s : State) : Out' :=
  .next (if type = 0 ∨ mctpTypes.contains type then s else s.emit (.mctp [0x80, type]))

/-- A message that is malformed completes INVALID, and 0x6A05 is logged at most once per second: 0 malformed, 1 PEC. -/
def State.smbusError (s : State) (requester cause : Nat) : State :=
  (s.logLimited 0x6A05 0 (fun _ => [(1, requester), (1, cause)])).emit (.mgmt 0x02 [])

/-- A whole message is carried out; another completes INVALID (R473). -/
def State.mgmtForm (s : State) (requester : Nat) (form : MgmtForm) (f : State → State) : State :=
  match form with
  | .ok => f s
  | .malformed => s.smbusError requester 0
  | .badPec => s.smbusError requester 1

/-- A register read over the management port. -/
def State.mgmtRead (s : State) (off : Nat) : State × Nat := s.readBar0 .mgmt off 4

/-- READ32 (R473). -/
def execRead32 (requester : Nat) (form : MgmtForm) (off : Nat) (s : State) : Out' :=
  .next (s.mgmtForm requester form (fun s => let a := s.mgmtRead off; a.1.emit (.mgmt 0x00 [a.2])))

/-- The registers that the management port may write: those that 19, 20 and R474 name. -/
def mgmtWritable (off : Nat) : Bool :=
  let o := off / 4 * 4
  [Reg.PWR_CMD, Reg.PWR_CTL, Reg.PWR_MGMT_CAP, Reg.HKA_CTL, Reg.HKA_INJ_TRIG, Reg.THM_CTL, Reg.THM_COOLANT, Reg.THM_PLATE_G,
    Reg.THM_NTC, Reg.HST_MGMT_STAT].contains o || (Reg.HKA_INJ 0 ≤ o && o ≤ Reg.HKA_INJ 7)

/-- WRITE32 (R473): a write elsewhere completes DENIED and changes nothing. -/
def execWrite32 (requester : Nat) (form : MgmtForm) (off value : Nat) (s : State) : Out' :=
  .next (s.mgmtForm requester form (fun s =>
    if mgmtWritable off then (s.writeBar0 .mgmt off 4 value).emit (.mgmt 0x00 []) else s.emit (.mgmt 0x01 [])))

/-- READ_BLOCK (R473): 1 to 16 consecutive registers; another count is malformed. -/
def execReadBlock (requester : Nat) (form : MgmtForm) (off count : Nat) (s : State) : Out' :=
  .next (s.mgmtForm requester (if count = 0 ∨ 16 < count then .malformed else form) (fun s =>
    let a := (List.range count).foldl (fun (a : State × List Nat) k =>
      let b := a.1.mgmtRead (off + 4 * k)
      (b.1, a.2 ++ [b.2])) (s, [])
    a.1.emit (.mgmt 0x00 a.2)))

/-- ALERT_RESPONSE (R474): the device answers with its address and releases SMB_ALERT_N until a cause is newly set. -/
def execAlertResponse (s : State) : Out' :=
  .next (if s.smbAlert then
    ({ s with araMask := s.araMask ||| (s.reg Reg.HST_MGMT_STAT &&& 0xF) } : State).emit (.mctp [s.smbusAddr])
  else s)

/-- DOE_DISCOVERY (R451): object types Discovery 0, CMA/SPDM 1 and Secured CMA/SPDM 2, each with the next index; an index
beyond them answers as the specification does for an absent type (PRESUMED PCIe 6.0, log entry 59). -/
def execDoeDiscovery (index : Nat) (s : State) : Out' :=
  .next (s.emit (.mctp (match index with
    | 0 => [0x0001, 0, 1]
    | 1 => [0x0001, 1, 2]
    | 2 => [0x0001, 2, 0]
    | _ => [0xFFFF, 0, 0])))

end Sys2Proof.Machine
end

