-- ==== Sys2Proof/Machine/Dispatch.lean ====
section
/-! DEFINITION. One arm per command: each calls the one meaning of its row of the opcode table. -/
namespace Sys2Proof.Machine
open Sys2Proof

def exec (i : Instr) (s : State) : Host.Outcome State Fault Refusal :=
  match i with
  | .registerWrite port bar off size value => Sys2Proof.Machine.execRegisterWrite port bar off size value s
  | .lowRegisterRead port off size => Sys2Proof.Machine.execLowRegisterRead port off size s
  | .misalignedRead port bar off size => Sys2Proof.Machine.execMisalignedRead port bar off size s
  | .inputValid => Sys2Proof.Machine.execInputValid s
  | .railsInRegulation slotId strap => Sys2Proof.Machine.execRailsInRegulation slotId strap s
  | .friezePllLock identityOk => Sys2Proof.Machine.execFriezePllLock identityOk s
  | .corePllLock => Sys2Proof.Machine.execCorePllLock s
  | .calPoolReadComplete die bad => Sys2Proof.Machine.execCalPoolReadComplete die bad s
  | .dawnComplete us => Sys2Proof.Machine.execDawnComplete us s
  | .inputOutOfRange mv high => Sys2Proof.Machine.execInputOutOfRange mv high s
  | .inputTrip value cause => Sys2Proof.Machine.execInputTrip value cause s
  | .tripRestart now => Sys2Proof.Machine.execTripRestart now s
  | .vinBelow20V => Sys2Proof.Machine.execVinBelow20V s
  | .powerPhaseLost rail phase cause => Sys2Proof.Machine.execPowerPhaseLost rail phase cause s
  | .governorTick demand load govW govE limit paces => Sys2Proof.Machine.execGovernorTick demand load govW govE limit paces s
  | .shutdown port => Sys2Proof.Machine.execShutdown port s
  | .shutdownRailsOff => Sys2Proof.Machine.execShutdownRailsOff s
  | .powerStateEntry domain kind next paces => Sys2Proof.Machine.execPowerStateEntry domain kind next paces s
  | .wakeStart domain delayed => Sys2Proof.Machine.execWakeStart domain delayed s
  | .wakeComplete domain us identityOk => Sys2Proof.Machine.execWakeComplete domain us identityOk s
  | .crystalLock => Sys2Proof.Machine.execCrystalLock s
  | .crystalTimeout => Sys2Proof.Machine.execCrystalTimeout s
  | .crystalStopped => Sys2Proof.Machine.execCrystalStopped s
  | .referenceLost => Sys2Proof.Machine.execReferenceLost s
  | .referenceReturn => Sys2Proof.Machine.execReferenceReturn s
  | .deviceReset by_ => Sys2Proof.Machine.execDeviceReset by_ s
  | .perstAssertion port => Sys2Proof.Machine.execPerstAssertion port s
  | .hotReset port => Sys2Proof.Machine.execHotReset port s
  | .functionLevelReset port => Sys2Proof.Machine.execFunctionLevelReset port s
  | .d3hotToD0 port => Sys2Proof.Machine.execD3hotToD0 port s
  | .perstDeassertion port => Sys2Proof.Machine.execPerstDeassertion port s
  | .portLinkUp port speed width msixEnable funcMask busMaster => Sys2Proof.Machine.execPortLinkUp port speed width msixEnable funcMask busMaster s
  | .portLinkDown port cause => Sys2Proof.Machine.execPortLinkDown port cause s
  | .completionTimeout unit => Sys2Proof.Machine.execCompletionTimeout unit s
  | .armLoad port => Sys2Proof.Machine.execArmLoad port s
  | .armSeal port => Sys2Proof.Machine.execArmSeal port s
  | .armDiscard port => Sys2Proof.Machine.execArmDiscard port s
  | .imageFetchComplete image => Sys2Proof.Machine.execImageFetchComplete image s
  | .imageFetchError => Sys2Proof.Machine.execImageFetchError s
  | .imageFetchTimeout => Sys2Proof.Machine.execImageFetchTimeout s
  | .validationComplete => Sys2Proof.Machine.execValidationComplete s
  | .sealApplyComplete => Sys2Proof.Machine.execSealApplyComplete s
  | .strikeLatch core pos => Sys2Proof.Machine.execStrikeLatch core pos s
  | .strikeBoundary core pos conv overs => Sys2Proof.Machine.execStrikeBoundary core pos conv overs s
  | .laneCorrectionReady core pos => Sys2Proof.Machine.execLaneCorrectionReady core pos s
  | .fallbackComplete core pos => Sys2Proof.Machine.execFallbackComplete core pos s
  | .groupResultWrite core => Sys2Proof.Machine.execGroupResultWrite core s
  | .tileBoundary core pos => Sys2Proof.Machine.execTileBoundary core pos s
  | .planeLoadStart core pos => Sys2Proof.Machine.execPlaneLoadStart core pos s
  | .planeRowWritten core pos parityOk => Sys2Proof.Machine.execPlaneRowWritten core pos parityOk s
  | .planeLoadComplete core pos => Sys2Proof.Machine.execPlaneLoadComplete core pos s
  | .arrayTestRead core pos value => Sys2Proof.Machine.execArrayTestRead core pos value s
  | .arrayTestReadDone core pos => Sys2Proof.Machine.execArrayTestReadDone core pos s
  | .tileCheckComplete core pos => Sys2Proof.Machine.execTileCheckComplete core pos s
  | .groupCompare core => Sys2Proof.Machine.execGroupCompare core s
  | .arbitrationComplete primary missP missS => Sys2Proof.Machine.execArbitrationComplete primary missP missS s
  | .layerPassComplete inst layer => Sys2Proof.Machine.execLayerPassComplete inst layer s
  | .resetFallback inst port => Sys2Proof.Machine.execResetFallback inst port s
  | .calTurnDue core => Sys2Proof.Machine.execCalTurnDue core s
  | .spareArrayReady core frontOk backOk => Sys2Proof.Machine.execSpareArrayReady core frontOk backOk s
  | .calComparisonComplete core conv overs => Sys2Proof.Machine.execCalComparisonComplete core conv overs s
  | .calFitComplete core => Sys2Proof.Machine.execCalFitComplete core s
  | .calTurnLimit core => Sys2Proof.Machine.execCalTurnLimit core s
  | .calPrioritise core pos port => Sys2Proof.Machine.execCalPrioritise core pos port s
  | .calSave core port => Sys2Proof.Machine.execCalSave core port s
  | .hourlySave => Sys2Proof.Machine.execHourlySave s
  | .calRecordWriteComplete die verified => Sys2Proof.Machine.execCalRecordWriteComplete die verified s
  | .saveHoldExpiry die core pos => Sys2Proof.Machine.execSaveHoldExpiry die core pos s
  | .waitTimeout core thread => Sys2Proof.Machine.execWaitTimeout core thread s
  | .threadWatchdog core thread => Sys2Proof.Machine.execThreadWatchdog core thread s
  | .parityFailure core flight path pos => Sys2Proof.Machine.execParityFailure core flight path pos s
  | .instructionRetirement core flight => Sys2Proof.Machine.execInstructionRetirement core flight s
  | .completionFault core flight se => Sys2Proof.Machine.execCompletionFault core flight se s
  | .layerBoundary core => Sys2Proof.Machine.execLayerBoundary core s
  | .nop u w => Sys2Proof.Machine.execNop u w s
  | .halt u w => Sys2Proof.Machine.execHalt u w s
  | .fence u w => Sys2Proof.Machine.execFence u w s
  | .layer u w => Sys2Proof.Machine.execLayer u w s
  | .wait u w => Sys2Proof.Machine.execWait u w s
  | .signal u w => Sys2Proof.Machine.execSignal u w s
  | .sread u w => Sys2Proof.Machine.execSread u w s
  | .br u w => Sys2Proof.Machine.execBr u w s
  | .call u w => Sys2Proof.Machine.execCall u w s
  | .jr u w => Sys2Proof.Machine.execJr u w s
  | .loop u w => Sys2Proof.Machine.execLoop u w s
  | .add u w => Sys2Proof.Machine.execAdd u w s
  | .sub u w => Sys2Proof.Machine.execSub u w s
  | .mul u w => Sys2Proof.Machine.execMul u w s
  | .and u w => Sys2Proof.Machine.execAnd u w s
  | .or u w => Sys2Proof.Machine.execOr u w s
  | .xor u w => Sys2Proof.Machine.execXor u w s
  | .shl u w => Sys2Proof.Machine.execShl u w s
  | .shr u w => Sys2Proof.Machine.execShr u w s
  | .sar u w => Sys2Proof.Machine.execSar u w s
  | .min u w => Sys2Proof.Machine.execMin u w s
  | .max u w => Sys2Proof.Machine.execMax u w s
  | .movi u w => Sys2Proof.Machine.execMovi u w s
  | .movhi u w => Sys2Proof.Machine.execMovhi u w s
  | .cmpeq u w => Sys2Proof.Machine.execCmpeq u w s
  | .cmpne u w => Sys2Proof.Machine.execCmpne u w s
  | .cmplt u w => Sys2Proof.Machine.execCmplt u w s
  | .cmple u w => Sys2Proof.Machine.execCmple u w s
  | .cmpltu u w => Sys2Proof.Machine.execCmpltu u w s
  | .pand u w => Sys2Proof.Machine.execPand u w s
  | .por u w => Sys2Proof.Machine.execPor u w s
  | .pnot u w => Sys2Proof.Machine.execPnot u w s
  | .vadd u w => Sys2Proof.Machine.execVadd u w s
  | .vsub u w => Sys2Proof.Machine.execVsub u w s
  | .vmul u w => Sys2Proof.Machine.execVmul u w s
  | .vfma u w => Sys2Proof.Machine.execVfma u w s
  | .vmax u w => Sys2Proof.Machine.execVmax u w s
  | .vmin u w => Sys2Proof.Machine.execVmin u w s
  | .vcvt u w => Sys2Proof.Machine.execVcvt u w s
  | .vdiv u w => Sys2Proof.Machine.execVdiv u w s
  | .vrcp u w => Sys2Proof.Machine.execVrcp u w s
  | .vsqrt u w => Sys2Proof.Machine.execVsqrt u w s
  | .vrsqrt u w => Sys2Proof.Machine.execVrsqrt u w s
  | .vexp u w => Sys2Proof.Machine.execVexp u w s
  | .vexp2 u w => Sys2Proof.Machine.execVexp2 u w s
  | .vlog u w => Sys2Proof.Machine.execVlog u w s
  | .vtanh u w => Sys2Proof.Machine.execVtanh u w s
  | .vsig u w => Sys2Proof.Machine.execVsig u w s
  | .vsilu u w => Sys2Proof.Machine.execVsilu u w s
  | .vgelu u w => Sys2Proof.Machine.execVgelu u w s
  | .vrope u w => Sys2Proof.Machine.execVrope u w s
  | .vsum u w => Sys2Proof.Machine.execVsum u w s
  | .vrmax u w => Sys2Proof.Machine.execVrmax u w s
  | .vdot u w => Sys2Proof.Machine.execVdot u w s
  | .viadd u w => Sys2Proof.Machine.execViadd u w s
  | .visub u w => Sys2Proof.Machine.execVisub u w s
  | .vimul u w => Sys2Proof.Machine.execVimul u w s
  | .viand u w => Sys2Proof.Machine.execViand u w s
  | .vior u w => Sys2Proof.Machine.execVior u w s
  | .vixor u w => Sys2Proof.Machine.execVixor u w s
  | .vishl u w => Sys2Proof.Machine.execVishl u w s
  | .visar u w => Sys2Proof.Machine.execVisar u w s
  | .strike u w => Sys2Proof.Machine.execStrike u w s
  | .gset u w => Sys2Proof.Machine.execGset u w s
  | .pload u w => Sys2Proof.Machine.execPload u w s
  | .pswap u w => Sys2Proof.Machine.execPswap u w s
  | .chisel u w => Sys2Proof.Machine.execChisel u w s
  | .move u w => Sys2Proof.Machine.execMove u w s
  | .push u w => Sys2Proof.Machine.execPush u w s
  | .pop u w => Sys2Proof.Machine.execPop u w s
  | .drop u w => Sys2Proof.Machine.execDrop u w s
  | .sedispatch u w => Sys2Proof.Machine.execSedispatch u w s
  | .shand u w => Sys2Proof.Machine.execShand u w s
  | .engineThreadStart ped => Sys2Proof.Machine.execEngineThreadStart ped s
  | .pgatherK u w => Sys2Proof.Machine.execPgatherK u w s
  | .pgatherV u w => Sys2Proof.Machine.execPgatherV u w s
  | .sinit u w => Sys2Proof.Machine.execSinit u w s
  | .sstep u w => Sys2Proof.Machine.execSstep u w s
  | .sacc u w => Sys2Proof.Machine.execSacc u w s
  | .snorm u w => Sys2Proof.Machine.execSnorm u w s
  | .scomb u w => Sys2Proof.Machine.execScomb u w s
  | .seret u w => Sys2Proof.Machine.execSeret u w s
  | .scrubPassStart core n mem => Sys2Proof.Machine.execScrubPassStart core n mem s
  | .scrubRead core n mem corrected uncorrectable => Sys2Proof.Machine.execScrubRead core n mem corrected uncorrectable s
  | .scratchpadRestart core mem off => Sys2Proof.Machine.execScratchpadRestart core mem off s
  | .restoreComplete core => Sys2Proof.Machine.execRestoreComplete core s
  | .unify core by_ => Sys2Proof.Machine.execUnify core by_ s
  | .resume core by_ => Sys2Proof.Machine.execResume core by_ s
  | .unifiedEntry core => Sys2Proof.Machine.execUnifiedEntry core s
  | .spmAccAddrWrite core port value => Sys2Proof.Machine.execSpmAccAddrWrite core port value s
  | .spmAccDataHiWrite core port value => Sys2Proof.Machine.execSpmAccDataHiWrite core port value s
  | .transitBlockGrant cluster => Sys2Proof.Machine.execTransitBlockGrant cluster s
  | .write msg => Sys2Proof.Machine.execWrite msg s
  | .read msg far => Sys2Proof.Machine.execRead msg far s
  | .fabricSignal msg => Sys2Proof.Machine.execFabricSignal msg s
  | .dispatch msg => Sys2Proof.Machine.execDispatch msg s
  | .register port write off value => Sys2Proof.Machine.execRegister port write off value s
  | .data msg => Sys2Proof.Machine.execData msg s
  | .ack msg => Sys2Proof.Machine.execAck msg s
  | .nack msg => Sys2Proof.Machine.execNack msg s
  | .fabricFlit router net port num good kind resent age => Sys2Proof.Machine.execFabricFlit router net port num good kind resent age s
  | .linkAckTimeout router net port resent => Sys2Proof.Machine.execLinkAckTimeout router net port resent s
  | .linkLivenessTimeout router net port => Sys2Proof.Machine.execLinkLivenessTimeout router net port s
  | .idleFlitTimer router net port => Sys2Proof.Machine.execIdleFlitTimer router net port s
  | .urgencyPromotion msg => Sys2Proof.Machine.execUrgencyPromotion msg s
  | .requestTimeout msg => Sys2Proof.Machine.execRequestTimeout msg s
  | .dramAccessComplete ped addr write onDie secded bad => Sys2Proof.Machine.execDramAccessComplete ped addr write onDie secded bad s
  | .dramTimeout ped die => Sys2Proof.Machine.execDramTimeout ped die s
  | .refreshDue ped busy => Sys2Proof.Machine.execRefreshDue ped busy s
  | .patrolPassStart ped => Sys2Proof.Machine.execPatrolPassStart ped s
  | .ftrBaseWrite port inst value => Sys2Proof.Machine.execFtrBaseWrite port inst value s
  | .ftrCtlWrite port inst value => Sys2Proof.Machine.execFtrCtlWrite port inst value s
  | .spillComplete inst slot => Sys2Proof.Machine.execSpillComplete inst slot s
  | .spillRestoreComplete inst slot bytes => Sys2Proof.Machine.execSpillRestoreComplete inst slot bytes s
  | .farTierLegError inst slot port => Sys2Proof.Machine.execFarTierLegError inst slot port s
  | .farTierLinkWaitTimeout inst slot port => Sys2Proof.Machine.execFarTierLinkWaitTimeout inst slot port s
  | .kvFlushComplete inst slot sub => Sys2Proof.Machine.execKvFlushComplete inst slot sub s
  | .walkerLineFetch ped => Sys2Proof.Machine.execWalkerLineFetch ped s
  | .pageBufferPrefetch ped thread value => Sys2Proof.Machine.execPageBufferPrefetch ped thread value s
  | .pfxLoad slot port inst => Sys2Proof.Machine.execPfxLoad slot port inst s
  | .pfxUnload slot port => Sys2Proof.Machine.execPfxUnload slot port s
  | .prefixLoadComplete slot image => Sys2Proof.Machine.execPrefixLoadComplete slot image s
  | .prefixFetchError slot => Sys2Proof.Machine.execPrefixFetchError slot s
  | .prefixFetchTimeout slot => Sys2Proof.Machine.execPrefixFetchTimeout slot s
  | .bind slot port => Sys2Proof.Machine.execBind slot port s
  | .unbind slot port => Sys2Proof.Machine.execUnbind slot port s
  | .load slot inst port => Sys2Proof.Machine.execLoad slot inst port s
  | .unload slot inst port => Sys2Proof.Machine.execUnload slot inst port s
  | .switch slot inst nextStep port => Sys2Proof.Machine.execSwitch slot inst nextStep port s
  | .reload slot inst port => Sys2Proof.Machine.execReload slot inst port s
  | .bindFetchComplete slot error header sections => Sys2Proof.Machine.execBindFetchComplete slot error header sections s
  | .bindFetchTimeout slot => Sys2Proof.Machine.execBindFetchTimeout slot s
  | .loadQueueHead => Sys2Proof.Machine.execLoadQueueHead s
  | .tileRecordFetched error bytes farError => Sys2Proof.Machine.execTileRecordFetched error bytes farError s
  | .setLoadComplete => Sys2Proof.Machine.execSetLoadComplete s
  | .loadTimeout slot inst => Sys2Proof.Machine.execLoadTimeout slot inst s
  | .sqTailWrite ring port value => Sys2Proof.Machine.execSqTailWrite ring port value s
  | .sqCfgWrite ring port value => Sys2Proof.Machine.execSqCfgWrite ring port value s
  | .rqHeadWrite ring port value => Sys2Proof.Machine.execRqHeadWrite ring port value s
  | .rqCfgWrite ring port value => Sys2Proof.Machine.execRqCfgWrite ring port value s
  | .cmdTailWrite port value => Sys2Proof.Machine.execCmdTailWrite port value s
  | .evrHeadWrite port value => Sys2Proof.Machine.execEvrHeadWrite port value s
  | .requestDescriptor ring error bytes => Sys2Proof.Machine.execRequestDescriptor ring error bytes s
  | .listFetchComplete ring error tokens => Sys2Proof.Machine.execListFetchComplete ring error tokens s
  | .requestAccepted ring => Sys2Proof.Machine.execRequestAccepted ring s
  | .stepBoundary inst => Sys2Proof.Machine.execStepBoundary inst s
  | .stepStart inst delayed => Sys2Proof.Machine.execStepStart inst delayed s
  | .promptChunkFetch inst slot error tokens => Sys2Proof.Machine.execPromptChunkFetch inst slot error tokens s
  | .recordBatchWrite ring => Sys2Proof.Machine.execRecordBatchWrite ring s
  | .recordReadbackComplete ring => Sys2Proof.Machine.execRecordReadbackComplete ring s
  | .stepLimitExpiry inst => Sys2Proof.Machine.execStepLimitExpiry inst s
  | .evict port inst slot => Sys2Proof.Machine.execEvict port inst slot s
  | .evictAll port inst => Sys2Proof.Machine.execEvictAll port inst s
  | .hold port inst => Sys2Proof.Machine.execHold port inst s
  | .release port inst => Sys2Proof.Machine.execRelease port inst s
  | .handoffSlice core flight => Sys2Proof.Machine.execHandoffSlice core flight s
  | .sampleRowComplete inst row => Sys2Proof.Machine.execSampleRowComplete inst row s
  | .grammarFetchComplete slot line error bytes inst seq => Sys2Proof.Machine.execGrammarFetchComplete slot line error bytes inst seq s
  | .grammarReadTimeout slot inst seq => Sys2Proof.Machine.execGrammarReadTimeout slot inst seq s
  | .grmLoad slot port => Sys2Proof.Machine.execGrmLoad slot port s
  | .grmUnload slot port => Sys2Proof.Machine.execGrmUnload slot port s
  | .grammarLoadComplete slot error image => Sys2Proof.Machine.execGrammarLoadComplete slot error image s
  | .grammarLoadTimeout slot => Sys2Proof.Machine.execGrammarLoadTimeout slot s
  | .bar4Read port off size => Sys2Proof.Machine.execBar4Read port off size s
  | .bar4Write port off data => Sys2Proof.Machine.execBar4Write port off data s
  | .commandEntry entry => Sys2Proof.Machine.execCommandEntry entry s
  | .commandRingNop entry seq => Sys2Proof.Machine.execCommandRingNop entry seq s
  | .wakeHint time => Sys2Proof.Machine.execWakeHint time s
  | .farTier inst port valid base => Sys2Proof.Machine.execFarTier inst port valid base s
  | .irqHoldExpiry source => Sys2Proof.Machine.execIrqHoldExpiry source s
  | .msixPendingSend port vector => Sys2Proof.Machine.execMsixPendingSend port vector s
  | .eventRingCopy => Sys2Proof.Machine.execEventRingCopy s
  | .setEndpointId eid => Sys2Proof.Machine.execSetEndpointId eid s
  | .getEndpointId => Sys2Proof.Machine.execGetEndpointId s
  | .getMctpVersionSupport => Sys2Proof.Machine.execGetMctpVersionSupport s
  | .getMessageTypeSupport => Sys2Proof.Machine.execGetMessageTypeSupport s
  | .unsupportedMessageType type => Sys2Proof.Machine.execUnsupportedMessageType type s
  | .read32 requester form off => Sys2Proof.Machine.execRead32 requester form off s
  | .write32 requester form off value => Sys2Proof.Machine.execWrite32 requester form off value s
  | .readBlock requester form off count => Sys2Proof.Machine.execReadBlock requester form off count s
  | .alertResponse => Sys2Proof.Machine.execAlertResponse s
  | .icpenFlit n good nak type seq ack credit corrected uncorrectable => Sys2Proof.Machine.execIcpenFlit n good nak type seq ack credit corrected uncorrectable s
  | .icpenAckTimeout n => Sys2Proof.Machine.execIcpenAckTimeout n s
  | .linkSilenceTimeout n => Sys2Proof.Machine.execLinkSilenceTimeout n s
  | .laneDrop n lane cause => Sys2Proof.Machine.execLaneDrop n lane cause s
  | .lanedrop n lane => Sys2Proof.Machine.execLanedrop n lane s
  | .discoveryBurst n => Sys2Proof.Machine.execDiscoveryBurst n s
  | .trainingPatternDetected n => Sys2Proof.Machine.execTrainingPatternDetected n s
  | .trainingTimeout n => Sys2Proof.Machine.execTrainingTimeout n s
  | .trainingComplete n rev lanes => Sys2Proof.Machine.execTrainingComplete n rev lanes s
  | .hello n payload => Sys2Proof.Machine.execHello n payload s
  | .helloTimer n => Sys2Proof.Machine.execHelloTimer n s
  | .helloTimeout n => Sys2Proof.Machine.execHelloTimeout n s
  | .authShare n payload => Sys2Proof.Machine.execAuthShare n payload s
  | .authCert n payload => Sys2Proof.Machine.execAuthCert n payload s
  | .authSig n payload => Sys2Proof.Machine.execAuthSig n payload s
  | .authResult n result => Sys2Proof.Machine.execAuthResult n result s
  | .authTimeout n => Sys2Proof.Machine.execAuthTimeout n s
  | .authHoldExpiry n => Sys2Proof.Machine.execAuthHoldExpiry n s
  | .linkRekey n => Sys2Proof.Machine.execLinkRekey n s
  | .adopt n port => Sys2Proof.Machine.execAdopt n port s
  | .reject n port => Sys2Proof.Machine.execReject n port s
  | .retrain n port => Sys2Proof.Machine.execRetrain n port s
  | .icpenDataMessage n stream op fmt dec bytes => Sys2Proof.Machine.execIcpenDataMessage n stream op fmt dec bytes s
  | .plan n inst maxSeqs frames pfxFrames gen => Sys2Proof.Machine.execPlan n inst maxSeqs frames pfxFrames gen s
  | .step n block descs => Sys2Proof.Machine.execStep n block descs s
  | .result n entries => Sys2Proof.Machine.execResult n entries s
  | .short n slots => Sys2Proof.Machine.execShort n slots s
  | .digest port group inst complete voting hopsLeft interval round join modelId crc modular hash => Sys2Proof.Machine.execDigest port group inst complete voting hopsLeft interval round join modelId crc modular hash s
  | .digestEvaluationTimeout inst => Sys2Proof.Machine.execDigestEvaluationTimeout inst s
  | .frontPlaneReady core sumsOk => Sys2Proof.Machine.execFrontPlaneReady core sumsOk s
  | .reserveCoreTakeover core => Sys2Proof.Machine.execReserveCoreTakeover core s
  | .fatalCountWrite port value => Sys2Proof.Machine.execFatalCountWrite port value s
  | .fieldTestStart port parts target spacing => Sys2Proof.Machine.execFieldTestStart port parts target spacing s
  | .fieldTestAbort port target => Sys2Proof.Machine.execFieldTestAbort port target s
  | .fieldTestSliceEnd target finished failed pos => Sys2Proof.Machine.execFieldTestSliceEnd target finished failed pos s
  | .conversionSlot slice code overload => Sys2Proof.Machine.execConversionSlot slice code overload s
  | .slotTimeout slice => Sys2Proof.Machine.execSlotTimeout slice s
  | .roundEnd cores conversions sram frieze lanes oscPpm => Sys2Proof.Machine.execRoundEnd cores conversions sram frieze lanes oscPpm s
  | .hkaInjTrigWrite port value => Sys2Proof.Machine.execHkaInjTrigWrite port value s
  | .spareVisitStart => Sys2Proof.Machine.execSpareVisitStart s
  | .getVersion transport => Sys2Proof.Machine.execGetVersion transport s
  | .getCapabilities transport => Sys2Proof.Machine.execGetCapabilities transport s
  | .negotiateAlgorithms transport => Sys2Proof.Machine.execNegotiateAlgorithms transport s
  | .getDigests transport => Sys2Proof.Machine.execGetDigests transport s
  | .getCertificate transport slot off len => Sys2Proof.Machine.execGetCertificate transport slot off len s
  | .challenge transport slot => Sys2Proof.Machine.execChallenge transport slot s
  | .getMeasurements transport operation signed => Sys2Proof.Machine.execGetMeasurements transport operation signed s
  | .keyExchange transport => Sys2Proof.Machine.execKeyExchange transport s
  | .finish transport session ok => Sys2Proof.Machine.execFinish transport session ok s
  | .heartbeat transport session ok => Sys2Proof.Machine.execHeartbeat transport session ok s
  | .keyUpdate transport session ok => Sys2Proof.Machine.execKeyUpdate transport session ok s
  | .endSession transport session ok => Sys2Proof.Machine.execEndSession transport session ok s
  | .spdmUnsupportedRequest transport code => Sys2Proof.Machine.execSpdmUnsupportedRequest transport code s
  | .enrol transport session count hashes => Sys2Proof.Machine.execEnrol transport session count hashes s
  | .enrolComplete => Sys2Proof.Machine.execEnrolComplete s
  | .ownerProve transport session slot key sig => Sys2Proof.Machine.execOwnerProve transport session slot key sig s
  | .revoke transport session slot => Sys2Proof.Machine.execRevoke transport session slot s
  | .setWeightKey transport session slot key => Sys2Proof.Machine.execSetWeightKey transport session slot key s
  | .clearWeightKey transport session slot => Sys2Proof.Machine.execClearWeightKey transport session slot s
  | .debugUnlock source token => Sys2Proof.Machine.execDebugUnlock source token s
  | .unlockVerifyComplete => Sys2Proof.Machine.execUnlockVerifyComplete s
  | .lockoutExpiry => Sys2Proof.Machine.execLockoutExpiry s
  | .relock => Sys2Proof.Machine.execRelock s
  | .newNonce => Sys2Proof.Machine.execNewNonce s
  | .storeWriteComplete record ok => Sys2Proof.Machine.execStoreWriteComplete record ok s
  | .idcode => Sys2Proof.Machine.execIdcode s
  | .bypass => Sys2Proof.Machine.execBypass s
  | .samplePreload pins preload => Sys2Proof.Machine.execSamplePreload pins preload s
  | .extest => Sys2Proof.Machine.execExtest s
  | .deadlinePassed inst slot => Sys2Proof.Machine.execDeadlinePassed inst slot s
  | .backPlaneReady core sumsOk => Sys2Proof.Machine.execBackPlaneReady core sumsOk s
  | .cmdCfgWrite port value => Sys2Proof.Machine.execCmdCfgWrite port value s
  | .evrCfgWrite port value => Sys2Proof.Machine.execEvrCfgWrite port value s
  | .eventRingReadbackComplete => Sys2Proof.Machine.execEventRingReadbackComplete s
  | .d0ToD3hot port => Sys2Proof.Machine.execD0ToD3hot port s
  | .doeDiscovery index => Sys2Proof.Machine.execDoeDiscovery index s
  | .vinValidBegins => Sys2Proof.Machine.execVinValidBegins s
  | .inputWarningCleared => Sys2Proof.Machine.execInputWarningCleared s
  | .ieee11496Instructions => Sys2Proof.Machine.execIeee11496Instructions s

end Sys2Proof.Machine
end

