-- ==== Sys2Proof/Safety.lean ====
section
/-!
DEFINITION. What a safe run keeps, in the terms claims use: bounds that hold in every state the block can be in, and the
relation between a state and one that a command leaves.
-/
namespace Sys2Proof.Machine
open Sys2Proof

/-- The event log holds at most 4,096 entries, the fatal record at most 16, and the next sequence number is a 32-bit
number (R523, R526). -/
def State.LogOk (s : State) : Prop :=
  s.log.entries.length ≤ 4096 ∧ s.log.fatal.length ≤ 16 ∧ s.log.next < 2 ^ 32

/-- At most 64 ring commands are in progress, and a command entry is read only while there is room for one more (R462). -/
def State.RingOk (s : State) : Prop :=
  s.cmd.inProgress.length ≤ 64 ∧ (s.cmd.reading = true → s.cmd.inProgress.length < 64)

/-- The stored registers are in canonical form: equal register files are equal data. -/
def State.RegsOk (s : State) : Prop := s.regs.wf = true

/-- The invariant of the block. -/
def State.Inv (s : State) : Prop := s.LogOk ∧ s.RingOk ∧ s.RegsOk

/-- The part of the fuses that no board pin sets (R27, R28). -/
def Fuses.part (f : Fuses) : Fuses := { f with slotId := 0, strap := 0 }

/-! ### Threads -/

/-- A thread after its instruction has taken the issue slot: RUNNABLE, its watchdog clear, its program counter moved on. -/
def Thread.taken (t : Thread) : Thread := { t with state := .runnable, wdog := false, pc := (t.pc + 1) % 8192, replays := 0 }

/-- Two units of execution are different threads: of different cores, of one core, or of different keys of the engines. -/
def threadsApart : Exec → Exec → Prop
  | .core n t, .core n' t' => n ≠ n' ∨ t ≠ t'
  | .engine p t, .engine p' t' => engKey p t ≠ engKey p' t'
  | _, _ => True

/-! ### Components

What a command may change, component by component: a component that is not listed for a command is the same after it. -/

/-- The components of State but for the queue. -/
inductive Comp where
  | time | timeRuns | freeCtr | out | regs | latchHi | heldLow | rwlLocked | log | irq | fuses | arm | img | armFloor
  | heldSeal | arrays | fmts | fmtResets | cals | calStores | calSaves | cores | clusters | engines | handoffs | msgs
  | nextMsg | lanes | slices | unreachable | paced | peds | kvSeqs | parts | kvPools | prefixes | spills | emptyMarks
  | flushing | noFrame | wslots | winsts | wloads | insts | seqs | subRings | recRings | subLast | schStatus | schCmd
  | smpRows | grammars | grmCache | ports | cmd | evrInFlight | mgmtEid | araMask | ftrStale | icpIn | icps | sync |
  replicas | digests | reserves | takeovers | arrTakeovers | unbacked | tests | advice | domains | pwr | clk | hka |
  thm | weightKeys | sec | tapIr | tapCells
deriving DecidableEq, Repr

/-- Two states agree on a component. -/
def State.agreesAt (s t : State) : Comp → Prop
  | .time => t.time = s.time
  | .timeRuns => t.timeRuns = s.timeRuns
  | .freeCtr => t.freeCtr = s.freeCtr
  | .out => t.out = s.out
  | .regs => t.regs = s.regs
  | .latchHi => t.latchHi = s.latchHi
  | .heldLow => t.heldLow = s.heldLow
  | .rwlLocked => t.rwlLocked = s.rwlLocked
  | .log => t.log = s.log
  | .irq => t.irq = s.irq
  | .fuses => t.fuses = s.fuses
  | .arm => t.arm = s.arm
  | .img => t.img = s.img
  | .armFloor => t.armFloor = s.armFloor
  | .heldSeal => t.heldSeal = s.heldSeal
  | .arrays => t.arrays = s.arrays
  | .fmts => t.fmts = s.fmts
  | .fmtResets => t.fmtResets = s.fmtResets
  | .cals => t.cals = s.cals
  | .calStores => t.calStores = s.calStores
  | .calSaves => t.calSaves = s.calSaves
  | .cores => t.cores = s.cores
  | .clusters => t.clusters = s.clusters
  | .engines => t.engines = s.engines
  | .handoffs => t.handoffs = s.handoffs
  | .msgs => t.msgs = s.msgs
  | .nextMsg => t.nextMsg = s.nextMsg
  | .lanes => t.lanes = s.lanes
  | .slices => t.slices = s.slices
  | .unreachable => t.unreachable = s.unreachable
  | .paced => t.paced = s.paced
  | .peds => t.peds = s.peds
  | .kvSeqs => t.kvSeqs = s.kvSeqs
  | .parts => t.parts = s.parts
  | .kvPools => t.kvPools = s.kvPools
  | .prefixes => t.prefixes = s.prefixes
  | .spills => t.spills = s.spills
  | .emptyMarks => t.emptyMarks = s.emptyMarks
  | .flushing => t.flushing = s.flushing
  | .noFrame => t.noFrame = s.noFrame
  | .wslots => t.wslots = s.wslots
  | .winsts => t.winsts = s.winsts
  | .wloads => t.wloads = s.wloads
  | .insts => t.insts = s.insts
  | .seqs => t.seqs = s.seqs
  | .subRings => t.subRings = s.subRings
  | .recRings => t.recRings = s.recRings
  | .subLast => t.subLast = s.subLast
  | .schStatus => t.schStatus = s.schStatus
  | .schCmd => t.schCmd = s.schCmd
  | .smpRows => t.smpRows = s.smpRows
  | .grammars => t.grammars = s.grammars
  | .grmCache => t.grmCache = s.grmCache
  | .ports => t.ports = s.ports
  | .cmd => t.cmd = s.cmd
  | .evrInFlight => t.evrInFlight = s.evrInFlight
  | .mgmtEid => t.mgmtEid = s.mgmtEid
  | .araMask => t.araMask = s.araMask
  | .ftrStale => t.ftrStale = s.ftrStale
  | .icpIn => t.icpIn = s.icpIn
  | .icps => t.icps = s.icps
  | .sync => t.sync = s.sync
  | .replicas => t.replicas = s.replicas
  | .digests => t.digests = s.digests
  | .reserves => t.reserves = s.reserves
  | .takeovers => t.takeovers = s.takeovers
  | .arrTakeovers => t.arrTakeovers = s.arrTakeovers
  | .unbacked => t.unbacked = s.unbacked
  | .tests => t.tests = s.tests
  | .advice => t.advice = s.advice
  | .domains => t.domains = s.domains
  | .pwr => t.pwr = s.pwr
  | .clk => t.clk = s.clk
  | .hka => t.hka = s.hka
  | .thm => t.thm = s.thm
  | .weightKeys => t.weightKeys = s.weightKeys
  | .sec => t.sec = s.sec
  | .tapIr => t.tapIr = s.tapIr
  | .tapCells => t.tapCells = s.tapCells

def Comp.all : List Comp :=
  [.time, .timeRuns, .freeCtr, .out, .regs, .latchHi, .heldLow, .rwlLocked, .log, .irq, .fuses, .arm, .img, .armFloor,
   .heldSeal, .arrays, .fmts, .fmtResets, .cals, .calStores, .calSaves, .cores, .clusters, .engines, .handoffs, .msgs,
   .nextMsg, .lanes, .slices, .unreachable, .paced, .peds, .kvSeqs, .parts, .kvPools, .prefixes, .spills, .emptyMarks,
   .flushing, .noFrame, .wslots, .winsts, .wloads, .insts, .seqs, .subRings, .recRings, .subLast, .schStatus, .schCmd,
   .smpRows, .grammars, .grmCache, .ports, .cmd, .evrInFlight, .mgmtEid, .araMask, .ftrStale, .icpIn, .icps, .sync,
   .replicas, .digests, .reserves, .takeovers, .arrTakeovers, .unbacked, .tests, .advice, .domains, .pwr, .clk, .hka,
   .thm, .weightKeys, .sec, .tapIr, .tapCells]

def Comp.allBut (ps : List Comp) : List Comp := Comp.all.filter (fun p => !ps.contains p)

/-- What an event may change: the log, the counters and W1C registers, interrupts with their messages, the alert. -/
def Comp.events : List Comp := [.out, .regs, .log, .irq, .ports, .araMask]

/-- What an instance's stall may change: its run, its sequences and what they hold in the pedestals (R422). -/
def Comp.stalls : List Comp :=
  [.peds, .kvSeqs, .parts, .kvPools, .prefixes, .spills, .emptyMarks, .flushing, .noFrame, .insts, .seqs, .recRings,
   .smpRows, .grammars]

/-- A list and what an event may change. -/
def Comp.withEvents (ps : List Comp) : List Comp := Comp.events ++ ps

/-- A list and what a stall, which is logged, may change. -/
def Comp.withStalls (ps : List Comp) : List Comp := Comp.events ++ (Comp.stalls ++ ps)

/-- The components that a command may change. -/
def touches : Instr → List Comp
  | .registerWrite .. => Comp.allBut [.time, .timeRuns, .fuses, .armFloor, .slices, .unreachable, .reserves, .unbacked,
      .weightKeys]
  | .lowRegisterRead .. => Comp.withEvents [.freeCtr, .latchHi]
  | .misalignedRead .. => Comp.withEvents [.freeCtr, .latchHi]
  | .inputValid => [.pwr]
  | .railsInRegulation .. => [.fuses, .pwr]
  | .friezePllLock .. => Comp.withEvents [.time, .timeRuns, .freeCtr, .armFloor, .icps, .pwr, .clk, .hka, .weightKeys, .sec]
  | .corePllLock => [.cores, .clusters, .pwr, .clk]
  | .calPoolReadComplete .. => Comp.withEvents [.arrays, .cals, .calStores]
  | .dawnComplete .. => Comp.withEvents [.peds, .pwr]
  | .inputOutOfRange .. => Comp.withEvents [.pwr, .hka]
  | .inputTrip .. => Comp.allBut [.freeCtr, .out, .fuses]
  | .tripRestart .. => [.pwr, .clk]
  | .vinBelow20V => Comp.allBut [.freeCtr, .out, .fuses]
  | .powerPhaseLost .. => Comp.withEvents [.pwr, .hka]
  | .governorTick .. => Comp.withEvents [.pwr, .hka]
  | .shutdown .. => Comp.withStalls [.pwr]
  | .shutdownRailsOff => Comp.allBut [.freeCtr, .out, .fuses]
  | .powerStateEntry .. => Comp.withEvents [.arrays, .cals, .cores, .clusters, .engines, .handoffs, .peds, .smpRows,
      .grmCache, .cmd, .tests, .domains, .clk, .sec]
  | .wakeStart .. => [.regs, .domains]
  | .wakeComplete .. => Comp.withEvents [.cores, .peds, .domains, .pwr, .clk, .thm, .weightKeys, .sec]
  | .crystalLock => [.clk]
  | .crystalTimeout => Comp.withEvents [.clk]
  | .crystalStopped => Comp.withEvents [.clk]
  | .referenceLost => Comp.withEvents [.clk, .hka]
  | .referenceReturn => [.domains, .clk, .thm]
  | .deviceReset .. => Comp.allBut [.time, .timeRuns, .freeCtr, .fuses, .armFloor, .slices, .unreachable, .reserves,
      .unbacked, .weightKeys]
  | .perstAssertion .. => Comp.withEvents [.latchHi, .heldLow, .arm, .peds, .kvPools, .prefixes, .spills, .wslots,
      .winsts, .wloads, .insts, .seqs, .subRings, .recRings, .subLast, .grammars, .grmCache, .cmd, .evrInFlight,
      .ftrStale, .sec]
  | .hotReset .. => Comp.withEvents [.latchHi, .heldLow, .arm, .peds, .kvPools, .prefixes, .spills, .wslots, .winsts,
      .wloads, .insts, .seqs, .subRings, .recRings, .subLast, .grammars, .grmCache, .cmd, .evrInFlight, .ftrStale, .sec]
  | .functionLevelReset .. => Comp.withEvents [.latchHi, .heldLow, .arm, .peds, .kvPools, .prefixes, .spills, .wslots,
      .winsts, .wloads, .insts, .seqs, .subRings, .recRings, .subLast, .grammars, .grmCache, .cmd, .evrInFlight,
      .ftrStale, .sec]
  | .d3hotToD0 .. => Comp.withEvents [.latchHi, .heldLow, .arm, .peds, .kvPools, .prefixes, .spills, .wslots, .winsts,
      .wloads, .insts, .seqs, .subRings, .recRings, .subLast, .grammars, .grmCache, .cmd, .evrInFlight, .ftrStale, .sec]
  | .perstDeassertion .. => [.ports]
  | .portLinkUp .. => Comp.withEvents [.subRings, .cmd]
  | .portLinkDown .. => Comp.withEvents [.arm, .peds, .kvPools, .prefixes, .spills, .wslots, .winsts, .wloads, .insts,
      .seqs, .subRings, .recRings, .subLast, .grammars, .grmCache, .cmd, .evrInFlight]
  | .completionTimeout .. => Comp.withEvents [.arm, .peds, .kvPools, .prefixes, .spills, .wslots, .winsts, .wloads,
      .insts, .seqs, .subRings, .recRings, .subLast, .grammars, .grmCache, .cmd, .evrInFlight]
  | .armLoad .. => Comp.withEvents [.arm]
  | .armSeal .. => Comp.withEvents [.arm, .heldSeal]
  | .armDiscard .. => Comp.withEvents [.arm, .cmd]
  | .imageFetchComplete .. => [.arm]
  | .imageFetchError => Comp.withEvents [.arm, .cmd]
  | .imageFetchTimeout => Comp.withEvents [.arm, .cmd]
  | .validationComplete => Comp.withEvents [.arm, .cmd]
  | .sealApplyComplete => Comp.withEvents [.rwlLocked, .arm, .img, .armFloor, .heldSeal, .arrays, .fmts, .fmtResets,
      .cores, .handoffs, .msgs, .paced, .peds, .kvSeqs, .parts, .kvPools, .prefixes, .spills, .emptyMarks, .flushing,
      .noFrame, .wslots, .winsts, .wloads, .insts, .seqs, .recRings, .grammars, .cmd, .icpIn, .icps, .sync, .replicas,
      .tests, .sec]
  | .strikeLatch .. => Comp.withEvents [.arrays, .fmts, .cals, .cores]
  | .strikeBoundary .. => [.regs, .arrays, .fmts, .cores]
  | .laneCorrectionReady .. => [.arrays, .cores]
  | .fallbackComplete .. => [.regs, .arrays, .cores]
  | .groupResultWrite .. => Comp.withEvents [.cores, .engines, .advice]
  | .tileBoundary .. => Comp.withEvents [.arrays, .cals, .calStores, .cores, .engines, .paced, .advice, .pwr]
  | .planeLoadStart .. => [.arrays]
  | .planeRowWritten .. => Comp.withStalls [.arrays, .cals, .cores, .handoffs, .msgs, .cmd, .reserves, .takeovers,
      .arrTakeovers, .unbacked, .tests]
  | .planeLoadComplete .. => Comp.withEvents [.arrays, .cores, .engines, .arrTakeovers, .advice]
  | .arrayTestRead .. => Comp.withEvents [.arrays]
  | .arrayTestReadDone .. => [.arrays]
  | .tileCheckComplete .. => Comp.withStalls [.arrays, .fmts, .cals, .cores, .handoffs, .msgs, .cmd, .reserves,
      .takeovers, .arrTakeovers, .unbacked, .tests, .advice]
  | .groupCompare .. => [.regs, .cores]
  | .arbitrationComplete .. => Comp.withStalls [.arrays, .cals, .cores, .handoffs, .msgs, .cmd, .reserves, .takeovers,
      .arrTakeovers, .unbacked, .tests]
  | .layerPassComplete .. => Comp.withEvents [.fmts]
  | .resetFallback .. => Comp.withEvents [.fmts, .fmtResets]
  | .calTurnDue .. => [.regs, .arrays, .cals]
  | .spareArrayReady .. => Comp.withStalls [.arrays, .cals, .cores, .handoffs, .msgs, .cmd, .reserves, .takeovers,
      .arrTakeovers, .unbacked, .tests]
  | .calComparisonComplete .. => [.regs, .arrays, .cals]
  | .calFitComplete .. => Comp.withStalls [.arrays, .cals, .calStores, .cores, .handoffs, .msgs, .cmd, .reserves,
      .takeovers, .arrTakeovers, .unbacked, .tests, .advice]
  | .calTurnLimit .. => Comp.withEvents [.cals]
  | .calPrioritise .. => Comp.withEvents [.cals]
  | .calSave .. => [.calStores, .calSaves]
  | .hourlySave => Comp.withEvents [.calStores]
  | .calRecordWriteComplete .. => Comp.withEvents [.arrays, .calStores, .calSaves, .cmd]
  | .saveHoldExpiry .. => [.calStores]
  | .waitTimeout .. => [.cores, .engines]
  | .threadWatchdog .. => Comp.withEvents [.cores, .engines]
  | .parityFailure .. => Comp.withStalls [.arrays, .cals, .cores, .clusters, .engines, .handoffs, .msgs, .nextMsg,
      .unreachable, .cmd, .reserves, .takeovers, .arrTakeovers, .unbacked, .tests]
  | .instructionRetirement .. => Comp.withEvents [.cores, .engines, .advice]
  | .completionFault .. => Comp.withStalls [.cores, .clusters, .engines]
  | .layerBoundary .. => Comp.withStalls [.arrays, .cores, .clusters, .engines, .msgs, .nextMsg, .unreachable, .tests]
  | .nop .. => Comp.withStalls [.cores, .engines, .advice]
  | .halt .. => Comp.withStalls [.cores, .engines, .advice]
  | .fence .. => Comp.withStalls [.cores, .engines, .advice]
  | .layer .. => Comp.withStalls [.cores, .engines, .advice]
  | .wait .. => Comp.withStalls [.cores, .engines, .advice]
  | .signal .. => Comp.withStalls [.cores, .engines, .msgs, .nextMsg, .unreachable, .advice]
  | .sread .. => Comp.withStalls [.cores, .engines, .advice]
  | .br .. => Comp.withStalls [.cores, .engines, .advice]
  | .call .. => Comp.withStalls [.cores, .engines, .advice]
  | .jr .. => Comp.withStalls [.cores, .engines, .advice]
  | .loop .. => Comp.withStalls [.cores, .engines, .advice]
  | .add .. => Comp.withStalls [.cores, .engines, .advice]
  | .sub .. => Comp.withStalls [.cores, .engines, .advice]
  | .mul .. => Comp.withStalls [.cores, .engines, .advice]
  | .and .. => Comp.withStalls [.cores, .engines, .advice]
  | .or .. => Comp.withStalls [.cores, .engines, .advice]
  | .xor .. => Comp.withStalls [.cores, .engines, .advice]
  | .shl .. => Comp.withStalls [.cores, .engines, .advice]
  | .shr .. => Comp.withStalls [.cores, .engines, .advice]
  | .sar .. => Comp.withStalls [.cores, .engines, .advice]
  | .min .. => Comp.withStalls [.cores, .engines, .advice]
  | .max .. => Comp.withStalls [.cores, .engines, .advice]
  | .movi .. => Comp.withStalls [.cores, .engines, .advice]
  | .movhi .. => Comp.withStalls [.cores, .engines, .advice]
  | .cmpeq .. => Comp.withStalls [.cores, .engines, .advice]
  | .cmpne .. => Comp.withStalls [.cores, .engines, .advice]
  | .cmplt .. => Comp.withStalls [.cores, .engines, .advice]
  | .cmple .. => Comp.withStalls [.cores, .engines, .advice]
  | .cmpltu .. => Comp.withStalls [.cores, .engines, .advice]
  | .pand .. => Comp.withStalls [.cores, .engines, .advice]
  | .por .. => Comp.withStalls [.cores, .engines, .advice]
  | .pnot .. => Comp.withStalls [.cores, .engines, .advice]
  | .vadd .. => Comp.withStalls [.cores, .engines, .advice]
  | .vsub .. => Comp.withStalls [.cores, .engines, .advice]
  | .vmul .. => Comp.withStalls [.cores, .engines, .advice]
  | .vfma .. => Comp.withStalls [.cores, .engines, .advice]
  | .vmax .. => Comp.withStalls [.cores, .engines, .advice]
  | .vmin .. => Comp.withStalls [.cores, .engines, .advice]
  | .vcvt .. => Comp.withStalls [.cores, .engines, .advice]
  | .vdiv .. => Comp.withStalls [.cores, .engines, .advice]
  | .vrcp .. => Comp.withStalls [.cores, .engines, .advice]
  | .vsqrt .. => Comp.withStalls [.cores, .engines, .advice]
  | .vrsqrt .. => Comp.withStalls [.cores, .engines, .advice]
  | .vexp .. => Comp.withStalls [.cores, .engines, .advice]
  | .vexp2 .. => Comp.withStalls [.cores, .engines, .advice]
  | .vlog .. => Comp.withStalls [.cores, .engines, .advice]
  | .vtanh .. => Comp.withStalls [.cores, .engines, .advice]
  | .vsig .. => Comp.withStalls [.cores, .engines, .advice]
  | .vsilu .. => Comp.withStalls [.cores, .engines, .advice]
  | .vgelu .. => Comp.withStalls [.cores, .engines, .advice]
  | .vrope .. => Comp.withStalls [.cores, .engines, .advice]
  | .vsum .. => Comp.withStalls [.cores, .engines, .advice]
  | .vrmax .. => Comp.withStalls [.cores, .engines, .advice]
  | .vdot .. => Comp.withStalls [.cores, .engines, .advice]
  | .viadd .. => Comp.withStalls [.cores, .engines, .advice]
  | .visub .. => Comp.withStalls [.cores, .engines, .advice]
  | .vimul .. => Comp.withStalls [.cores, .engines, .advice]
  | .viand .. => Comp.withStalls [.cores, .engines, .advice]
  | .vior .. => Comp.withStalls [.cores, .engines, .advice]
  | .vixor .. => Comp.withStalls [.cores, .engines, .advice]
  | .vishl .. => Comp.withStalls [.cores, .engines, .advice]
  | .visar .. => Comp.withStalls [.cores, .engines, .advice]
  | .strike .. => Comp.withStalls [.arrays, .cores, .engines, .advice]
  | .gset .. => Comp.withStalls [.cores, .engines, .advice]
  | .pload .. => Comp.withStalls [.arrays, .cores, .engines, .advice]
  | .pswap .. => Comp.withStalls [.arrays, .cores, .engines, .advice]
  | .chisel .. => Comp.withStalls [.cores, .engines, .advice]
  | .move .. => Comp.withStalls [.cores, .clusters, .engines, .msgs, .nextMsg, .unreachable, .advice]
  | .push .. => Comp.withStalls [.cores, .clusters, .engines, .msgs, .nextMsg, .unreachable, .advice]
  | .pop .. => Comp.withStalls [.cores, .engines, .advice]
  | .drop .. => Comp.withStalls [.cores, .engines, .advice]
  | .sedispatch .. => Comp.withStalls [.cores, .clusters, .engines, .msgs, .nextMsg, .unreachable, .advice]
  | .shand .. => Comp.withStalls [.cores, .clusters, .engines, .msgs, .nextMsg, .unreachable, .advice]
  | .engineThreadStart .. => [.regs, .engines, .peds]
  | .pgatherK .. => Comp.withStalls [.cores, .engines, .advice]
  | .pgatherV .. => Comp.withStalls [.cores, .engines, .advice]
  | .sinit .. => Comp.withStalls [.cores, .engines, .advice]
  | .sstep .. => Comp.withStalls [.freeCtr, .cores, .engines, .advice]
  | .sacc .. => Comp.withStalls [.freeCtr, .cores, .engines, .advice]
  | .snorm .. => Comp.withStalls [.freeCtr, .cores, .engines, .advice]
  | .scomb .. => Comp.withStalls [.freeCtr, .cores, .engines, .advice]
  | .seret .. => Comp.withStalls [.cores, .engines, .advice]
  | .scrubPassStart .. => [.cores, .clusters]
  | .scrubRead .. => Comp.withEvents [.cores, .clusters]
  | .scratchpadRestart .. => Comp.withStalls [.arrays, .cals, .cores, .handoffs, .msgs, .cmd, .reserves, .takeovers,
      .arrTakeovers, .unbacked, .tests]
  | .restoreComplete .. => Comp.withStalls [.arrays, .cores, .clusters, .engines, .msgs, .nextMsg, .unreachable]
  | .unify .. => Comp.withEvents [.cores]
  | .resume .. => Comp.withEvents [.cores]
  | .unifiedEntry .. => [.cores]
  | .spmAccAddrWrite .. => Comp.withEvents [.cores]
  | .spmAccDataHiWrite .. => Comp.withEvents [.heldLow, .cores]
  | .transitBlockGrant .. => [.cores, .clusters]
  | .write .. => Comp.withEvents [.cores, .clusters, .msgs, .peds, .parts, .flushing, .noFrame, .icps]
  | .read .. => Comp.withEvents [.clusters, .msgs, .winsts, .wloads, .icpIn, .icps]
  | .fabricSignal .. => [.out, .regs, .cores, .engines, .msgs]
  | .dispatch .. => [.out, .regs, .handoffs, .msgs, .peds]
  | .register .. => Comp.allBut [.time, .timeRuns, .fuses, .armFloor, .slices, .unreachable, .reserves, .unbacked,
      .weightKeys]
  | .data .. => [.cores, .clusters, .msgs]
  | .ack .. => [.cores, .clusters, .msgs]
  | .nack .. => Comp.withStalls [.cores, .clusters, .engines, .msgs]
  | .fabricFlit .. => Comp.withEvents [.msgs, .lanes, .slices]
  | .linkAckTimeout .. => Comp.withEvents []
  | .linkLivenessTimeout .. => Comp.withEvents [.msgs, .lanes, .slices]
  | .idleFlitTimer .. => [.out]
  | .urgencyPromotion .. => [.regs, .msgs]
  | .requestTimeout .. => Comp.withStalls [.cores, .clusters, .engines, .msgs]
  | .dramAccessComplete .. => Comp.withStalls []
  | .dramTimeout .. => Comp.withStalls []
  | .refreshDue .. => [.peds]
  | .patrolPassStart .. => [.regs, .peds]
  | .ftrBaseWrite .. => Comp.withEvents []
  | .ftrCtlWrite .. => Comp.withEvents []
  | .spillComplete .. => [.out, .regs, .kvSeqs, .spills, .seqs]
  | .spillRestoreComplete .. => [.regs, .peds, .parts, .spills, .seqs]
  | .farTierLegError .. => Comp.withEvents [.spills, .seqs]
  | .farTierLinkWaitTimeout .. => Comp.withEvents [.spills, .seqs]
  | .kvFlushComplete .. => [.out, .regs, .msgs, .peds, .parts, .flushing]
  | .walkerLineFetch .. => [.peds]
  | .pageBufferPrefetch .. => [.engines]
  | .pfxLoad .. => Comp.withEvents [.kvPools, .prefixes]
  | .pfxUnload .. => Comp.withEvents [.kvPools, .prefixes]
  | .prefixLoadComplete .. => Comp.withEvents [.peds, .prefixes, .cmd]
  | .prefixFetchError .. => Comp.withEvents [.kvPools, .prefixes, .cmd]
  | .prefixFetchTimeout .. => Comp.withEvents [.kvPools, .prefixes, .cmd]
  | .bind .. => Comp.withEvents [.wslots, .winsts]
  | .unbind .. => Comp.withEvents [.wslots, .winsts]
  | .load .. => Comp.withEvents [.wslots, .winsts, .wloads]
  | .unload .. => Comp.withEvents [.wslots, .winsts]
  | .switch .. => Comp.withEvents [.wslots, .winsts, .wloads, .cmd]
  | .reload .. => Comp.withEvents [.wslots, .winsts, .wloads]
  | .bindFetchComplete .. => Comp.withEvents [.wslots, .winsts, .cmd]
  | .bindFetchTimeout .. => Comp.withEvents [.wslots, .winsts, .cmd]
  | .loadQueueHead => Comp.withEvents [.wslots, .winsts, .wloads, .cmd]
  | .tileRecordFetched .. => Comp.withEvents [.peds, .wslots, .winsts, .wloads, .cmd]
  | .setLoadComplete => Comp.withEvents [.arrays, .cores, .peds, .wslots, .winsts, .wloads, .cmd]
  | .loadTimeout .. => Comp.withEvents [.wslots, .winsts, .wloads, .cmd]
  | .sqTailWrite .. => Comp.withEvents [.subRings]
  | .sqCfgWrite .. => Comp.withEvents [.subRings]
  | .rqHeadWrite .. => [.regs]
  | .rqCfgWrite .. => Comp.withEvents [.recRings]
  | .cmdTailWrite .. => Comp.withEvents [.cmd]
  | .evrHeadWrite .. => [.regs]
  | .requestDescriptor .. => Comp.withEvents [.wslots, .winsts, .wloads, .subRings, .recRings, .subLast]
  | .listFetchComplete .. => Comp.withEvents [.wslots, .winsts, .wloads, .subRings, .recRings, .subLast]
  | .requestAccepted .. => Comp.withEvents [.wslots, .winsts, .wloads, .seqs, .subRings, .recRings, .subLast, .grammars]
  | .stepBoundary .. => Comp.withStalls [.fmts, .fmtResets, .engines, .msgs, .wslots, .winsts, .wloads, .grmCache, .cmd,
      .ftrStale, .icps, .replicas, .digests, .tests, .pwr]
  | .stepStart .. => [.out, .regs, .cores, .clusters, .engines, .msgs, .kvSeqs, .insts, .seqs, .smpRows, .icps, .hka]
  | .promptChunkFetch .. => [.seqs]
  | .recordBatchWrite .. => [.out, .recRings]
  | .recordReadbackComplete .. => [.out, .regs, .irq, .seqs, .recRings, .ports]
  | .stepLimitExpiry .. => Comp.withStalls []
  | .evict .. => Comp.withEvents [.spills, .insts, .seqs, .recRings, .schStatus, .schCmd]
  | .evictAll .. => Comp.withEvents [.spills, .insts, .seqs, .recRings, .schStatus, .schCmd]
  | .hold .. => Comp.withEvents [.insts, .schStatus, .schCmd]
  | .release .. => Comp.withEvents [.insts, .schStatus, .schCmd]
  | .handoffSlice .. => Comp.withStalls [.cores, .clusters, .engines, .handoffs, .advice]
  | .sampleRowComplete .. => Comp.withEvents [.freeCtr, .insts, .seqs, .recRings, .smpRows, .grmCache]
  | .grammarFetchComplete .. => Comp.withEvents [.insts, .seqs, .recRings, .grmCache]
  | .grammarReadTimeout .. => Comp.withEvents [.insts, .seqs, .recRings]
  | .grmLoad .. => [.out, .grammars]
  | .grmUnload .. => Comp.withEvents [.grammars, .grmCache]
  | .grammarLoadComplete .. => Comp.withEvents [.grammars, .grmCache, .cmd]
  | .grammarLoadTimeout .. => Comp.withEvents [.grammars, .grmCache, .cmd]
  | .bar4Read .. => Comp.withEvents []
  | .bar4Write .. => Comp.withEvents [.peds]
  | .commandEntry .. => Comp.allBut [.time, .timeRuns, .fuses, .armFloor, .slices, .unreachable, .reserves, .unbacked,
      .weightKeys]
  | .commandRingNop .. => Comp.allBut [.time, .timeRuns, .fuses, .armFloor, .slices, .unreachable, .reserves, .unbacked,
      .weightKeys]
  | .wakeHint .. => [.pwr]
  | .farTier .. => Comp.allBut [.time, .timeRuns, .fuses, .armFloor, .slices, .unreachable, .reserves, .unbacked,
      .weightKeys]
  | .irqHoldExpiry .. => [.out, .irq, .ports]
  | .msixPendingSend .. => [.out, .ports]
  | .eventRingCopy => [.out, .log, .evrInFlight]
  | .setEndpointId .. => [.out, .mgmtEid]
  | .getEndpointId => [.out]
  | .getMctpVersionSupport => [.out]
  | .getMessageTypeSupport => [.out]
  | .unsupportedMessageType .. => [.out]
  | .read32 .. => Comp.withEvents [.freeCtr, .latchHi]
  | .write32 .. => Comp.allBut [.time, .timeRuns, .fuses, .armFloor, .slices, .unreachable, .reserves, .unbacked,
      .weightKeys]
  | .readBlock .. => Comp.withEvents [.freeCtr, .latchHi]
  | .alertResponse => [.out, .araMask]
  | .icpenFlit .. => Comp.withEvents [.msgs, .insts, .icpIn, .icps, .sync]
  | .icpenAckTimeout .. => Comp.withEvents [.msgs, .insts, .icpIn, .icps, .sync]
  | .linkSilenceTimeout .. => Comp.withEvents [.msgs, .insts, .icpIn, .icps, .sync]
  | .laneDrop .. => Comp.withEvents [.msgs, .insts, .icpIn, .icps, .sync]
  | .lanedrop .. => Comp.withEvents [.freeCtr, .msgs, .insts, .icpIn, .icps, .sync]
  | .discoveryBurst .. => [.out]
  | .trainingPatternDetected .. => [.icps]
  | .trainingTimeout .. => [.icps]
  | .trainingComplete .. => [.out, .regs, .msgs, .icps]
  | .hello .. => Comp.withEvents [.time, .freeCtr, .msgs, .icps, .sync]
  | .helloTimer .. => [.out, .regs, .msgs, .icps]
  | .helloTimeout .. => Comp.withEvents [.msgs, .insts, .icpIn, .icps, .sync]
  | .authShare .. => [.out, .regs, .msgs, .icps]
  | .authCert .. => [.out, .regs, .msgs, .icps]
  | .authSig .. => Comp.withEvents [.msgs, .insts, .icpIn, .icps, .sync, .sec]
  | .authResult .. => Comp.withEvents [.msgs, .insts, .icpIn, .icps, .sync, .sec]
  | .authTimeout .. => Comp.withEvents [.msgs, .insts, .icpIn, .icps, .sync]
  | .authHoldExpiry .. => [.icps]
  | .linkRekey .. => [.freeCtr, .out, .regs, .msgs, .icps]
  | .adopt .. => Comp.withEvents [.msgs, .icps, .sync, .sec]
  | .reject .. => Comp.withEvents [.msgs, .insts, .icpIn, .icps, .sync]
  | .retrain .. => Comp.withEvents [.msgs, .insts, .icpIn, .icps, .sync]
  | .icpenDataMessage .. => [.out, .msgs, .icpIn, .icps]
  | .plan .. => [.out, .regs, .msgs, .insts, .icps]
  | .step .. => [.insts, .icps]
  | .result .. => [.out, .regs, .msgs, .insts, .icps]
  | .short .. => Comp.withEvents [.msgs, .insts, .icps]
  | .digest .. => Comp.withEvents [.msgs, .wslots, .winsts, .wloads, .insts, .icps, .replicas, .digests]
  | .digestEvaluationTimeout .. => Comp.withEvents [.wslots, .winsts, .wloads, .insts, .replicas]
  | .frontPlaneReady .. => Comp.withStalls [.arrays, .cals, .cores, .handoffs, .msgs, .cmd, .reserves, .takeovers,
      .arrTakeovers, .unbacked, .tests]
  | .reserveCoreTakeover .. => Comp.withStalls [.arrays, .cals, .cores, .clusters, .engines, .msgs, .nextMsg,
      .unreachable, .takeovers]
  | .fatalCountWrite .. => [.regs, .log]
  | .fieldTestStart .. => Comp.withEvents [.cmd, .tests]
  | .fieldTestAbort .. => Comp.withEvents [.cmd, .tests]
  | .fieldTestSliceEnd .. => Comp.withStalls [.freeCtr, .arrays, .cals, .cores, .handoffs, .msgs, .cmd, .reserves,
      .takeovers, .arrTakeovers, .unbacked, .tests]
  | .conversionSlot .. => Comp.withEvents [.hka]
  | .slotTimeout .. => Comp.withEvents [.hka]
  | .roundEnd .. => Comp.withStalls [.cals, .pwr, .clk, .hka, .thm]
  | .hkaInjTrigWrite .. => [.hka]
  | .spareVisitStart => [.hka]
  | .getVersion .. => [.out]
  | .getCapabilities .. => [.out]
  | .negotiateAlgorithms .. => [.out]
  | .getDigests .. => [.out]
  | .getCertificate .. => [.out]
  | .challenge .. => [.freeCtr, .out]
  | .getMeasurements .. => [.freeCtr, .out]
  | .keyExchange .. => [.freeCtr, .out, .sec]
  | .finish .. => Comp.withEvents [.sec]
  | .heartbeat .. => Comp.withEvents [.sec]
  | .keyUpdate .. => Comp.withEvents [.sec]
  | .endSession .. => Comp.withEvents [.sec]
  | .spdmUnsupportedRequest .. => [.out]
  | .enrol .. => [.out, .sec]
  | .enrolComplete => Comp.withEvents [.sec]
  | .ownerProve .. => Comp.withEvents [.sec]
  | .revoke .. => [.out, .sec]
  | .setWeightKey .. => Comp.withEvents [.weightKeys]
  | .clearWeightKey .. => Comp.withEvents [.weightKeys]
  | .debugUnlock .. => [.out, .sec]
  | .unlockVerifyComplete => Comp.withEvents [.freeCtr, .sec]
  | .lockoutExpiry => [.sec]
  | .relock => [.sec]
  | .newNonce => [.freeCtr, .sec]
  | .storeWriteComplete .. => [.sec]
  | .idcode => [.out, .tapIr]
  | .bypass => [.out, .tapIr]
  | .samplePreload .. => [.out, .tapIr, .tapCells]
  | .extest => [.out, .tapIr]
  | .deadlinePassed .. => Comp.withEvents [.spills, .seqs]
  | .backPlaneReady .. => Comp.withStalls [.arrays, .cals, .cores, .handoffs, .msgs, .cmd, .reserves, .takeovers,
      .arrTakeovers, .unbacked, .tests]
  | .cmdCfgWrite .. => Comp.withEvents [.cmd]
  | .evrCfgWrite .. => Comp.withEvents [.evrInFlight]
  | .eventRingReadbackComplete => [.out, .regs, .irq, .ports, .evrInFlight]
  | .d0ToD3hot .. => [.ports]
  | .doeDiscovery .. => [.out]
  | .vinValidBegins => [.pwr, .clk]
  | .inputWarningCleared => [.pwr]
  | .ieee11496Instructions => [.out, .tapIr]

end Sys2Proof.Machine
end

