-- ==== Sys2Proof/Certificates/Slice0/Obligations.lean ====
section
/-!
DEFINITION. The statements for the provers: what the block and its commands do, by the rules of spec/. A clause about a
command names the conditions on the state and the operands under which the command has its own effect.
-/
namespace Sys2Proof.Claims
open Sys2Proof Sys2Proof.Machine

/-- The registers whose write performs an action of its own (the WO registers and those with rules of their own). -/
def actionBases : List Nat :=
  [Reg.ARM_CTL, Reg.SCH_CMD, Reg.SQ_CFG 0, Reg.SQ_TAIL 0, Reg.RQ_CFG 0, Reg.RQ_HEAD 0, Reg.GRM_CMD, Reg.WLD_CMD,
   Reg.FMT_CTL, Reg.PFX_CTL 0, Reg.FTR_CTL 0, Reg.FLT_TEST_CTL, Reg.FLT_FATAL_COUNT, Reg.PWR_CMD, Reg.HKA_INJ_TRIG,
   Reg.THM_COOLANT, Reg.SEC_CMD, Reg.SEC_UNLOCK_CTL, Reg.ICP_CTL 0, Reg.HST_IRQ 0, Reg.CMD_CFG, Reg.CMD_TAIL, Reg.EVR_CFG,
   Reg.EVR_HEAD, Reg.HST_RESET, Reg.MSIX_TABLE 0 0, Reg.ARR_TEST_CTL 0 0, Reg.CAL_CMD 0, Reg.SPM_CTL 0, Reg.SPM_ACC_ADDR 0]

/-- A register of the map that takes writes by its access code alone. -/
def plainReg (s : State) (off : Nat) (r : RegRow) : Prop :=
  regRow? off = some r ∧ s.absentWindow off = false ∧ r.base ∉ actionBases

/-- The latch of a port for the pair whose low register is at `lo` (R19). -/
def latched (s : State) (p : Port) (lo : Nat) (v : Option W32) : State :=
  { s with latchHi := s.latchHi.put (portKey p (lo + 4)) v }

/-- The thread may issue the word: RUNNABLE or BLOCKED with no barrier open, its fetch inside the program, its guard true,
and the range tables not over-full (R203, R208, R211, R229). -/
def Issues (s : State) (u : Exec) (w : Nat) : Prop :=
  s.issuable u = true ∧ s.barrierOpen u = false ∧ (s.ctx u).pc < s.progLenOf u ∧ s.guardOn u w = true ∧
  tablesFit (s.flightsOf u) [] [] = true

/-- The command leaves the issuing thread as `th`, and every other thread and every operand memory as it was. -/
def ThreadOnly (c : Instr) (s : State) (u : Exec) (th : Thread) : Prop :=
  ∃ t, exec c s = .next t ∧ t.ctx u = th ∧ (∀ v, threadsApart v u → t.ctx v = s.ctx v) ∧ ∀ v, t.opMem v = s.opMem v

/-- The scalar instructions of two operands with their results (Table 8-7). -/
def scalarTable : List ((Exec → Nat → Instr) × (W64 → W64 → W64)) :=
  [(Instr.add, fun a b => a + b), (Instr.sub, fun a b => a - b), (Instr.mul, fun a b => a * b),
   (Instr.and, fun a b => a &&& b), (Instr.or, fun a b => a ||| b), (Instr.xor, fun a b => a ^^^ b),
   (Instr.shl, fun a b => a <<< (b.toNat % 64)), (Instr.shr, fun a b => a >>> (b.toNat % 64)),
   (Instr.sar, fun a b => a.sshiftRight (b.toNat % 64)),
   (Instr.min, fun a b => if a.toInt < b.toInt then a else b), (Instr.max, fun a b => if a.toInt < b.toInt then b else a)]

/-- The second operand: imm32 sign-extended with imm set, else sb (R237). -/
def operand2 (s : State) (u : Exec) (w : Nat) : W64 :=
  if bit w 37 then (BitVec.ofNat 32 (bits w 31 0)).signExtend 64 else (s.ctx u).s.get (bits w 41 38)

/-- The thread's next context with scalar register d written. -/
def writesS (s : State) (u : Exec) (d : Nat) (v : W64) : Thread :=
  { (s.ctx u).taken with s := (s.ctx u).s.put d v }

/-- The thread's next context with predicate p written; a write of p0 is ignored (R202). -/
def writesP (s : State) (u : Exec) (p : Nat) (v : Bool) (th : Thread) : Prop :=
  th = { (s.ctx u).taken with p := th.p } ∧ (p = 0 → th.p = (s.ctx u).p) ∧
  (p ≠ 0 → ∀ q < 8, th.p.getLsbD q = if q = p then v else (s.ctx u).p.getLsbD q)

/-- The compares with their results (Table 8-7). -/
def compareTable : List ((Exec → Nat → Instr) × (W64 → W64 → Bool)) :=
  [(Instr.cmpeq, fun a b => decide (a = b)), (Instr.cmpne, fun a b => decide (a ≠ b)),
   (Instr.cmplt, fun a b => decide (a.toInt < b.toInt)), (Instr.cmple, fun a b => decide (a.toInt ≤ b.toInt)),
   (Instr.cmpltu, fun a b => decide (a.toNat < b.toNat))]

/-- A predicate of the thread; p0 reads 1 (R202). -/
def predOf (s : State) (u : Exec) (p : Nat) : Bool := p == 0 || (s.ctx u).p.getLsbD p

/-- The value a WAIT names (R240). -/
def waitValueOf (s : State) (u : Exec) (w : Nat) : W32 :=
  (if bit w 43 then ((s.ctx u).s.get (bits w 42 39)).setWidth 32 else 0) + (BitVec.ofNat 12 (bits w 38 27)).signExtend 32

/-- Some route between two cores is in one piece (R298, R309). -/
def reachable (s : State) (n c : Nat) : Prop :=
  (s.routeBad 0 (nodeRouter (s.coreNode n)) (nodeRouter (s.coreNode c)) &&
    s.routeBad 1 (nodeRouter (s.coreNode n)) (nodeRouter (s.coreNode c))) = false

/-- A SIGNAL message from a thread to a core is in the fabric. -/
def signalSent (t : State) (n th c e amount : Nat) : Prop := ∃ m ∈ t.msgs, m.body = .signal n th c e amount

/-- What issue asks of an instruction that uses operands, but for its ranges (R203, R208, R229). -/
def MayIssue (s : State) (u : Exec) (w : Nat) : Prop :=
  s.issuable u = true ∧ s.barrierOpen u = false ∧ (s.ctx u).pc < s.progLenOf u ∧ s.guardOn u w = true

/-- The ranges pass the range check and fit the tables (R210, R211). -/
def RangesOk (s : State) (u : Exec) (reads writes : List Range) : Prop :=
  rangesClear (s.flightsOf u) reads writes = true ∧ tablesFit (s.flightsOf u) reads writes = true

/-- An operand that raises none of MODE, DESCRIPTOR and RANGE_BOUNDS. -/
def clean (r : Resolved) : Prop := r.mode = false ∧ r.desc = false ∧ r.bounds = false

/-- The vector instructions with their ops (Table 8-11). -/
def vectorTable : List ((Exec → Nat → Instr) × Nat) :=
  [(Instr.vadd, 0x00), (Instr.vsub, 0x01), (Instr.vmul, 0x02), (Instr.vfma, 0x03), (Instr.vmax, 0x04), (Instr.vmin, 0x05),
   (Instr.vcvt, 0x06), (Instr.vdiv, 0x07), (Instr.vrcp, 0x08), (Instr.vsqrt, 0x09), (Instr.vrsqrt, 0x0A), (Instr.vexp, 0x0C),
   (Instr.vexp2, 0x0D), (Instr.vlog, 0x0E), (Instr.vtanh, 0x10), (Instr.vsig, 0x11), (Instr.vsilu, 0x12), (Instr.vgelu, 0x13),
   (Instr.vrope, 0x14), (Instr.vsum, 0x18), (Instr.vrmax, 0x19), (Instr.vdot, 0x1A), (Instr.viadd, 0x20), (Instr.visub, 0x21),
   (Instr.vimul, 0x22), (Instr.viand, 0x23), (Instr.vior, 0x24), (Instr.vixor, 0x25), (Instr.vishl, 0x26), (Instr.visar, 0x27)]

/-- The bytes that the elements of an operand take. -/
def inElems (o : Opnd) (a : Nat) : Prop := ∃ k < o.elems, memBase o.mem + o.addr k ≤ a ∧ a < memBase o.mem + o.addr k + typeSize o.type

/-- A counted instruction names a counter of the program (R241). -/
def counterOk (counted : Bool) (e : Nat) : Prop := counted = true → 2 ≤ e

/-- The command puts an instruction with these properties at the end of the core's in-flight list, and its thread moves on. -/
def Enters (s t : State) (n th : Nat) (kind : FlightKind) (reads writes : List Range) (evc : Option Nat) : Prop :=
  t.ctx (.core n th) = (s.ctx (.core n th)).taken ∧
  ∃ pc, (t.cores.get n).flights = (s.cores.get n).flights ++
    [{ id := (s.cores.get n).nextFlight, thread := th, pc := pc, kind := kind, reads := reads, writes := writes, evc := evc }]

/-- The members of slice i of a group's strikes: position i of the mask, or its pair i (R244). -/
def sliceMembers (g : Group) (i : Nat) : List Nat :=
  if g.wide then ((maskPositions g.mask).drop (2 * i)).take 2 else ((maskPositions g.mask).drop i).take 1

/-- Some route between two nodes is in one piece (R298, R309). -/
def routeIn (s : State) (a b : Nat) : Prop :=
  (s.routeBad 0 (nodeRouter a) (nodeRouter b) && s.routeBad 1 (nodeRouter a) (nodeRouter b)) = false

/-- The core's in-flight list holds the instruction issued last, with these properties. -/
def InFlight (s t : State) (n th : Nat) (kind : FlightKind) (reads writes : List Range) (evc : Option Nat) : Prop :=
  ∃ f ∈ (t.cores.get n).flights, f.id = (s.cores.get n).nextFlight ∧ f.thread = th ∧ f.kind = kind ∧ f.reads = reads ∧
    f.writes = writes ∧ f.evc = evc

/-- A request without a response is in the fabric. -/
def Sent (t : State) (body : MsgBody) (src dst : Nat) : Prop :=
  ∃ m ∈ t.msgs, m.body = body ∧ m.src = src ∧ m.dst = dst ∧ m.resp = none

/-- The engine instruction completes with this operand window; its thread moves on; no other thread changes. -/
def WindowIs (c : Instr) (s : State) (p th : Nat) (m : Memory) : Prop :=
  ∃ t, exec c s = .next t ∧ t.opMem (.engine p th) = m ∧ t.ctx (.engine p th) = (s.ctx (.engine p th)).taken ∧
    (∀ v, threadsApart v (.engine p th) → t.ctx v = s.ctx v ∧ t.opMem v = s.opMem v) ∧ t.cores = s.cores

/-- The window of scores of row r: lo and hi (R257). -/
def scoreWindow (s : State) (u : Exec) (w : Nat) (wi : Opnd) (r : Nat) : Nat :=
  if bit w 10 then ((s.ctx u).s.get (bits w 9 6)).toNat else memElem (s.opMem u) wi r

/-- The message is unanswered and carries this body; it serves this flight with these ends. -/
def Serves (s : State) (msg : Nat) (m : FabMsg) (n : Nat) (f : Flight) (l : Opnd) (a : Nat) : Prop :=
  s.msg msg = some m ∧ m.resp = none ∧ s.flight n f.id = some f ∧ s.xferEnds n f = some (l, a)

/-- The message now has this response, which is on its way. -/
def Answered (s t : State) (msg : Nat) (m : FabMsg) (r : MsgResp) (k : FabKind) : Prop :=
  t.msg msg = some { m with resp := some r } ∧ t.out = s.out ++ [.fabric k [msg]]

/-- The flight has gone and its thread is FAULTED with REMOTE_FAULT (R260). -/
def RemoteFaulted (t : State) (n : Nat) (f : Flight) : Prop :=
  (∀ g ∈ (t.cores.get n).flights, g.id ≠ f.id) ∧ ((t.cores.get n).threads.get f.thread).state = .faulted ∧
  ((t.cores.get n).threads.get f.thread).excCode = 0x10

/-- A turn of core n begins with target a, and its state otherwise is as in c. -/
def TurnBegins (s t : State) (n a : Nat) (c : Cal) : Prop :=
  (∃ src, t.cals.get n = { c with state := 1, target := a, source := src, yields := 0, comps := 0, again := 0, cmp := none }) ∧
  (t.arr n a).fit = {} ∧ (t.arr n a).fitted = none ∧ (t.arr n a).coef = (s.arr n a).coef

/-- No strike of the current tile is left at an array of a core of the part. -/
abbrev TileEnds (s : State) (n a : Nat) : Prop := n < s.fuses.grade ∧ a ≤ 12 ∧ (s.arr n a).driven = [] ∧ (s.arr n a).waiting = [] ∧
  (s.arr n a).urgent = [] ∧ (s.arr n a).queue.all (·.afterSwap) = true

/-- A state in which every sealed instance has at most 4,096 sequence slots, as R44 has it. -/
def SlotsInRange (s : State) : Prop := ∀ i x, s.img.insts.get i = some x → x.inst.maxSeqs ≤ 4096
/-- Ring r's head has advanced past its descriptor. -/
def HeadAdvanced (s t : State) (r : Nat) : Prop :=
  t.regN (Reg.SQ_HEAD r) = (s.regN (Reg.SQ_HEAD r) + 1) % 2 ^ bits (s.regN (Reg.SQ_CFG r)) 4 0 ∧ (t.subRings.get r).desc = none

end Sys2Proof.Claims

open Sys2Proof Sys2Proof.Machine Sys2Proof.Claims

/-- A step takes the command at the front of the queue and runs it on the state with the queue's rest. -/
def Obligations.StepRunsFrontCommand : Prop :=
  ∀ (c : Instr) (rest : List Instr) (s : State),
    step { s with pending := c :: rest } = exec c { s with pending := rest }

/-- With no command waiting the block idles: device time counts where it runs (the model's choice, log entry 8). -/
def Obligations.IdleStepCountsTime : Prop :=
  ∀ s : State, s.pending = [] →
    (s.timeRuns = true → step s = .next { s with time := (s.time + 1) % 2 ^ 64 }) ∧
    (s.timeRuns = false → step s = .next s)

/-- The invariant holds at reset. -/
def Obligations.InvariantAtReset : Prop := State.reset.Inv

/-- Every step keeps the bounds of the log and of the command ring and the canonical form of the registers. -/
def Obligations.InvariantKept : Prop :=
  ∀ s t : State, s.Inv → step s = .next t → t.Inv

/-- No command faults or is refused, whatever the state. -/
def Obligations.EveryCommandCompletes : Prop := ∀ (c : Instr) (s : State), ∃ t, exec c s = .next t

/-- What a command does not list in `touches`, it leaves as it was. -/
def Obligations.CommandFrame : Prop :=
  ∀ (c : Instr) (s t : State), exec c s = .next t → ∀ p : Comp, p ∉ touches c → s.agreesAt t p

/-- The queue is the step's alone, what was sent stays sent, free values are never drawn again, and the fused identity, grade
and variant never change: the board's pins are latched by RAILS_IN_REGULATION alone. -/
def Obligations.QueueAndOutputKept : Prop :=
  ∀ (c : Instr) (s t : State), exec c s = .next t →
    t.pending = s.pending ∧ s.out <+: t.out ∧ s.freeCtr ≤ t.freeCtr ∧
    t.fuses.part = s.fuses.part ∧ ((∀ slot strap, c ≠ .railsInRegulation slot strap) → t.fuses = s.fuses)

/-- What reset leaves, by the Reset columns of the register tables and the rules of each unit. -/
def Obligations.ResetState : Prop :=
  State.reset.arm.state = .idle ∧ State.reset.arm.lastStatus = 0 ∧ (∀ i, State.reset.img.insts.get i = none) ∧
  State.reset.rwlLocked = false ∧ State.reset.log.entries = [] ∧ State.reset.log.fatal = [] ∧ State.reset.out = [] ∧
  (∀ p, (State.reset.ports.get p).linkUp = false) ∧ State.reset.wloads = [] ∧ State.reset.cmd.inProgress = [] ∧
  State.reset.time = 0 ∧ State.reset.timeRuns = false ∧ State.reset.pending = [] ∧
  ∀ off, State.reset.reg off = resetOf off

/-- A register write acts by the access code (Table 0-7); an access of a wrong size or alignment is ignored (R13). -/
def Obligations.RegisterWrites : Prop :=
  ∀ (s : State) (p : Port), s.portHere p = true →
    (∀ off size v, ¬(size = 4 ∧ off % 4 = 0) → ¬(size = 8 ∧ off % 8 = 0) →
      exec (.registerWrite p 0 off size v) s
        = .next (s.logEvent 0x6001 [(4, off), (1, 0), (1, size), (1, 1), (1, p.num)])) ∧
    (∀ off v, off % 4 = 0 → regRow? off = none → exec (.registerWrite p 0 off 4 v) s = .next s) ∧
    (∀ off v r, off % 4 = 0 → plainReg s off r →
      (r.acc = .rw ∨ r.acc = .rws → r.half = .single →
        exec (.registerWrite p 0 off 4 v) s = .next (s.setReg off (BitVec.ofNat 32 v &&& r.mask))) ∧
      (r.acc = .w1c →
        exec (.registerWrite p 0 off 4 v) s = .next (s.setReg off (s.reg off &&& ~~~(BitVec.ofNat 32 v &&& r.mask)))) ∧
      (r.acc = .ro → exec (.registerWrite p 0 off 4 v) s = .next s) ∧
      (r.acc = .rwl → s.rwlLocked = false →
        exec (.registerWrite p 0 off 4 v) s = .next (s.setReg off (BitVec.ofNat 32 v &&& r.mask))) ∧
      (r.acc = .rwl → s.rwlLocked = true →
        exec (.registerWrite p 0 off 4 v) s
          = .next (s.logEvent 0x6002 [(4, off), (4, (BitVec.ofNat 32 v &&& r.mask).toNat), (1, p.num)])) ∧
      (r.acc = .rw → r.half = .low →
        exec (.registerWrite p 0 off 4 v) s
          = .next { s with heldLow := s.heldLow.put (portKey p off) (some (BitVec.ofNat 32 v &&& r.mask)) }))

/-- Reads of a pair latch its high word for the reading port (R19); a misaligned read returns all ones (R13). -/
def Obligations.RegisterReads : Prop :=
  ∀ (s : State) (p : Port), s.portHere p = true →
    (∀ off r, off % 4 = 0 → regRow? off = some r → r.half = .low → cycleCounter off = false →
      ¬(0x60020 ≤ off ∧ off < 0x60030) → off ≠ Reg.CLK_TRIM_PPB →
      exec (.lowRegisterRead p off 4) s = .next ((latched s p off (some (s.draw.liveReg p (off + 4)))).emit
        (.readData p 4 (s.liveReg p off).toNat))) ∧
    (∀ off r w, off % 4 = 0 → 4 ≤ off → regRow? off = some r → r.half = .high → cycleCounter off = false →
      ¬(0x60020 ≤ off ∧ off < 0x60030) → off ≠ Reg.CLK_TRIM_PPB → s.latchHi.get (portKey p off) = some w →
      exec (.register p false off 0) s = .next ((latched s p (off - 4) none).emit (.readData p 4 w.toNat))) ∧
    (∀ off size, off % size ≠ 0 →
      exec (.misalignedRead p 0 off size) s = .next
        ((s.logEvent 0x6001 [(4, off), (1, 0), (1, size), (1, 0), (1, p.num)]).emit (.readData p size (allOnes size)))) ∧
    (∀ off v, exec (.register p true off v) s = exec (.registerWrite p 0 off 4 v) s) ∧
    (∀ off, exec (.register p false off 0) s = exec (.lowRegisterRead p off 4) s)

/-- The loader's three commands where they act, and where they come from a port that is not the owner (R56, R57). -/
def Obligations.LoaderCommands : Prop :=
  (∀ (p : Port) (s : State), s.arm.state = .idle → 6 ≤ s.pwr.dawn →
    s.regN Reg.ARM_LEN % 8 = 0 → 256 ≤ s.regN Reg.ARM_LEN → s.regN Reg.ARM_LEN ≤ 2 ^ 24 →
    exec (.armLoad p) s = .next ({ s with arm := { s.arm with
      state := .loading, owner := s.actsAs p, src := s.reg64 Reg.ARM_SRC_LO / 8 * 8, len := s.regN Reg.ARM_LEN
      errOff := 0, image := [], staged := {} } }.emit
        (.hostRead (s.actsAs p) (s.reg64 Reg.ARM_SRC_LO / 8 * 8) (s.regN Reg.ARM_LEN)))) ∧
  (∀ (p : Port) (s : State), s.arm.state = .staged → s.arm.owner = s.actsAs p →
    (∀ i ∈ s.armAffected, s.residentIn i = false) →
    ∃ t, exec (.armSeal p) s = .next t ∧ t.arm = { s.arm with state := .sealing } ∧
      (s.arm.staged.softOnly = true → t.heldSeal = s.heldSeal) ∧
      (s.arm.staged.softOnly = false → t.heldSeal = s.heldSeal.updAll s.armAffected (fun _ _ => true)) ∧
      t.regs = s.regs ∧ t.log = s.log ∧ t.out = s.out ∧ t.img = s.img) ∧
  (∀ (p : Port) (s : State), s.arm.state = .loading ∨ s.arm.state = .validating ∨ s.arm.state = .staged →
    s.arm.owner = s.actsAs p →
    ∃ t, exec (.armDiscard p) s = .next t ∧
      t.arm = { s.arm with state := .idle, lastStatus := 0x12, image := [], staged := {} } ∧
      t.img = s.img ∧ t.heldSeal = s.heldSeal ∧ t.log = (s.finish 0x01 0 0x12).log) ∧
  (∀ (p : Port) (s : State), s.arm.state ≠ .idle → s.arm.owner ≠ s.actsAs p →
    exec (.armLoad p) s = .next (s.logEvent 0x6F04 [(1, 1), (1, s.actsAs p)]) ∧
    exec (.armSeal p) s = .next (s.logEvent 0x6F04 [(1, 2), (1, s.actsAs p)]) ∧
    exec (.armDiscard p) s = .next (s.logEvent 0x6F04 [(1, 3), (1, s.actsAs p)]))

/-- What moves the loader besides its commands (Table 2-13). -/
def Obligations.LoaderEvents : Prop :=
  (∀ (image : List Byte) (s : State), s.arm.state = .loading → image.length = s.arm.len →
    exec (.imageFetchComplete image) s = .next { s with arm := { s.arm with state := .validating, image := image } }) ∧
  (∀ (c : Instr) (s : State), c = .imageFetchError ∨ c = .imageFetchTimeout → s.arm.state = .loading →
    ∃ t, exec c s = .next t ∧
      t.arm = { s.arm with state := .idle, lastStatus := 0x02, errOff := 0, image := [], staged := {} } ∧ t.img = s.img) ∧
  (∀ (s : State) (st : StagedImage), s.arm.state = .validating →
    validateImage s.arm.image s.arm.len s.fuses s.ownerKeys s.armFloor s.img = .ok st →
    ∃ t, exec .validationComplete s = .next t ∧
      t.arm = { s.arm with state := .staged, lastStatus := 0x00, staged := st } ∧ t.img = s.img) ∧
  (∀ (s : State) (st off : Nat), s.arm.state = .validating →
    validateImage s.arm.image s.arm.len s.fuses s.ownerKeys s.armFloor s.img = .error (st, off) →
    ∃ t, exec .validationComplete s = .next t ∧
      t.arm = { s.arm with state := .idle, lastStatus := st, errOff := off, image := [], staged := {} } ∧ t.img = s.img) ∧
  (∀ s : State, s.arm.state = .sealing → s.sealReady = true →
    ∃ t, exec .sealApplyComplete s = .next t ∧ t.img.isSealed = true ∧ t.rwlLocked = true ∧ t.arm.state = .idle ∧
      t.arm.lastStatus = 0x00)

/-- The scalar results of Table 8-7, on cores and stack engines. -/
def Obligations.ScalarResults : Prop :=
  (∀ x ∈ scalarTable, ∀ (s : State) (u : Exec) (w : Nat), Issues s u w → bits w 36 32 = 0 →
    ThreadOnly (x.1 u w) s u (writesS s u (bits w 49 46) (x.2 ((s.ctx u).s.get (bits w 45 42)) (operand2 s u w)))) ∧
  (∀ (s : State) (u : Exec) (w : Nat), Issues s u w → bits w 36 32 = 0 → bits w 45 38 = 0 → bit w 37 = true →
    ThreadOnly (.movi u w) s u (writesS s u (bits w 49 46) ((BitVec.ofNat 32 (bits w 31 0)).signExtend 64)) ∧
    ThreadOnly (.movhi u w) s u (writesS s u (bits w 49 46)
      (BitVec.ofNat 64 (2 ^ 32 * bits w 31 0 + ((s.ctx u).s.get (bits w 49 46)).toNat % 2 ^ 32))))

/-- The predicate results of Table 8-7, on cores and stack engines. -/
def Obligations.PredicateResults : Prop :=
  (∀ x ∈ compareTable, ∀ (s : State) (u : Exec) (w : Nat), Issues s u w → bits w 49 46 = 0 → bits w 33 32 = 0 →
    ∃ th, writesP s u (bits w 36 34) (x.2 ((s.ctx u).s.get (bits w 45 42)) (operand2 s u w)) th ∧
      ThreadOnly (x.1 u w) s u th) ∧
  (∀ (s : State) (u : Exec) (w : Nat), Issues s u w → bits w 49 45 = 0 → bits w 41 41 = 0 → bits w 33 32 = 0 →
    (∃ th, writesP s u (bits w 36 34) (predOf s u (bits w 44 42) && predOf s u (bits w 40 38)) th ∧
      ThreadOnly (.pand u w) s u th) ∧
    (∃ th, writesP s u (bits w 36 34) (predOf s u (bits w 44 42) || predOf s u (bits w 40 38)) th ∧
      ThreadOnly (.por u w) s u th) ∧
    (bits w 40 38 = 0 → ∃ th, writesP s u (bits w 36 34) (!predOf s u (bits w 44 42)) th ∧
      ThreadOnly (.pnot u w) s u th))

/-- The branches (R238). -/
def Obligations.Branches : Prop :=
  (∀ (s : State) (u : Exec) (w : Nat), Issues s u w → bits w 28 0 = 0 →
    ThreadOnly (.br u w) s u { (s.ctx u).taken with pc := bits w 49 37 } ∧
    ThreadOnly (.call u w) s u
      { writesS s u (bits w 32 29) (BitVec.ofNat 64 ((s.ctx u).pc + 1)) with pc := bits w 49 37 } ∧
    ThreadOnly (.jr u w) s u { (s.ctx u).taken with pc := ((s.ctx u).s.get (bits w 36 33)).toNat % 2 ^ 13 } ∧
    ((s.ctx u).s.get (bits w 36 33) - 1 ≠ 0 → ThreadOnly (.loop u w) s u
      { writesS s u (bits w 36 33) ((s.ctx u).s.get (bits w 36 33) - 1) with pc := bits w 49 37 }) ∧
    ((s.ctx u).s.get (bits w 36 33) - 1 = 0 →
      ThreadOnly (.loop u w) s u (writesS s u (bits w 36 33) ((s.ctx u).s.get (bits w 36 33) - 1)))) ∧
  (∀ (s : State) (u : Exec) (w : Nat), s.issuable u = true → s.barrierOpen u = false → s.progLenOf u ≤ (s.ctx u).pc →
    ∀ c ∈ [Instr.br u w, .call u w, .jr u w, .loop u w], exec c s = .next (s.raiseExc u 0x01))

/-- SREAD, WAIT and SIGNAL (R239-R241). -/
def Obligations.StatusAndEvents : Prop :=
  (∀ (s : State) (u : Exec) (w : Nat), Issues s u w → bits w 35 0 = 0 →
    (bits w 45 42 = 1 → ThreadOnly (.sread u w) s u (writesS s u (bits w 49 46) (BitVec.ofNat 64 s.time))) ∧
    (∀ i, bits w 45 42 = 2 → s.instOf u = some i →
      ThreadOnly (.sread u w) s u (writesS s u (bits w 49 46) (BitVec.ofNat 64 (s.insts.get i).stepsSeal)))) ∧
  (∀ (s : State) (n th w : Nat), Issues s (.core n th) w → bits w 35 0 = 0 →
    let reads := fun v : Nat => ThreadOnly (.sread (.core n th) w) s (.core n th)
      (writesS s (.core n th) (bits w 49 46) (BitVec.ofNat 64 v))
    (bits w 45 42 = 0 → reads ((s.cores.get n).evc.get (bits w 41 36)).toNat) ∧
    (bits w 45 42 = 3 → reads n) ∧ (bits w 45 42 = 4 → reads (s.cores.get n).layer) ∧
    (∀ i, bits w 45 42 = 5 → (s.cores.get n).inst = some i → reads (s.insts.get i).paramOff)) ∧
  (∀ (s : State) (n th w : Nat), Issues s (.core n th) w →
    let v := waitValueOf s (.core n th) w
    (((s.cores.get n).evc.get (bits w 49 44) - v).toNat < 2 ^ 31 →
      ∃ x, writesP s (.core n th) (bits w 2 0) true x ∧ ThreadOnly (.wait (.core n th) w) s (.core n th) x) ∧
    (¬((s.cores.get n).evc.get (bits w 49 44) - v).toNat < 2 ^ 31 →
      ThreadOnly (.wait (.core n th) w) s (.core n th) { (s.ctx (.core n th)).taken with
        state := .waiting, waitE := bits w 49 44, waitV := v.toNat, waitP := bits w 2 0, waitT := bits w 26 3 })) ∧
  (∀ (s : State) (n th w : Nat) (ts : List Nat), Issues s (.core n th) w → bits w 29 0 = 0 → 2 ≤ bits w 49 44 →
    s.signalTargets n (bits w 43 42) ((s.ctx (.core n th)).s.get (bits w 41 38)).toNat = some ts →
    (s.cores.get n).skipSig.get th = 0 → bits w 43 42 ≠ 3 → (∀ c ∈ ts, reachable s n c) →
    ∃ t, exec (.signal (.core n th) w) s = .next t ∧
      (bits w 37 30 ≠ 0 → (∀ c ∈ ts, c ≠ n → signalSent t n th c (bits w 49 44) (bits w 37 30)) ∧
        (n ∈ ts → ts.Nodup → (t.cores.get n).evc.get (bits w 49 44)
          = (s.cores.get n).evc.get (bits w 49 44) + BitVec.ofNat 32 (bits w 37 30))) ∧
      (bits w 37 30 = 0 → t.msgs = s.msgs ∧ (t.cores.get n).evc = (s.cores.get n).evc))

/-- The control class and the chisel configuration (R247, R252, R258). -/
def Obligations.ControlInstructions : Prop :=
  (∀ (s : State) (u : Exec) (w : Nat), Issues s u w → bits w 49 0 = 0 → ThreadOnly (.nop u w) s u (s.ctx u).taken) ∧
  (∀ (s : State) (n th w : Nat), Issues s (.core n th) w → bits w 49 0 = 0 →
    ThreadOnly (.halt (.core n th) w) s (.core n th) { (s.ctx (.core n th)).taken with state := .halted }) ∧
  (∀ (s : State) (p th w : Nat), Issues s (.engine p th) w → bits w 49 0 = 0 →
    ∃ t, exec (.halt (.engine p th) w) s = .next t ∧ (t.ctx (.engine p th)).state = .halted ∧
      (t.engines.get (engKey p th)).busy = false ∧
      (t.cores.get (s.engines.get (engKey p th)).job.core).flights
        = (s.cores.get (s.engines.get (engKey p th)).job.core).flights.filter
            (fun f => f.id != (s.engines.get (engKey p th)).job.flight)) ∧
  (∀ (s : State) (n th w : Nat), Issues s (.core n th) w → bits w 49 4 = 0 → bits w 3 0 ≠ 0 →
    ((∀ f ∈ (s.cores.get n).flights, f.thread = th → fenceHolds (bits w 3 0) f = false) →
      ThreadOnly (.fence (.core n th) w) s (.core n th) (s.ctx (.core n th)).taken) ∧
    ((∃ f ∈ (s.cores.get n).flights, f.thread = th ∧ fenceHolds (bits w 3 0) f = true) →
      ThreadOnly (.fence (.core n th) w) s (.core n th) { s.ctx (.core n th) with state := .blocked })) ∧
  (∀ (s : State) (n th w : Nat), Issues s (.core n th) w → bits w 21 0 = 0 →
    let r := s.resolve (.core n th) (bits w 49 37) false
    r.mode = false → r.desc = false → r.bounds = false → r.o.bytes ≤ 65536 →
    ∃ t, exec (.layer (.core n th) w) s = .next t ∧ t.ctx (.core n th) = (s.ctx (.core n th)).taken ∧
      (t.cores.get n).barrier = some (((if bit w 36 then ((s.ctx (.core n th)).s.get (bits w 35 32)).toNat else 0)
        + bits w 31 22) % 1024, r.o)) ∧
  (∀ (s : State) (n th w : Nat), Issues s (.core n th) w → bits w 29 0 = 0 → 1 ≤ bits w 49 46 → bits w 49 46 ≤ 8 →
    (∀ g < 8, bits w (31 + 2 * g) (30 + 2 * g) ≠ 3) →
    ∃ t, exec (.chisel (.core n th) w) s = .next t ∧ t.ctx (.core n th) = (s.ctx (.core n th)).taken ∧
      (t.cores.get n).level = bits w 49 46 ∧
      ∀ g < 8, (t.cores.get n).widths[g]? = some (bits w (31 + 2 * g) (30 + 2 * g)))

/-- What befalls a thread and an instruction in flight (R206, R211, R216, R220, R260). -/
def Obligations.ThreadAndInstructionEvents : Prop :=
  (∀ (s : State) (n t : Nat), ((s.cores.get n).threads.get t).state = .waiting → ((s.cores.get n).threads.get t).waitT ≠ 0 →
    ((s.cores.get n).threads.get t).waitP < 8 →
    waitTrue ((s.cores.get n).evc.get ((s.cores.get n).threads.get t).waitE) ((s.cores.get n).threads.get t).waitV = false →
    ∃ x, exec (.waitTimeout n t) s = .next x ∧ ((x.cores.get n).threads.get t).state = .runnable ∧
      (∀ p < 8, p ≠ 0 → ((x.cores.get n).threads.get t).p.getLsbD p =
        (if p = ((s.cores.get n).threads.get t).waitP then false else ((s.cores.get n).threads.get t).p.getLsbD p)) ∧
      ∀ v, threadsApart v (.core n t) → x.ctx v = s.ctx v) ∧
  (∀ (s : State) (n t : Nat), ((s.cores.get n).threads.get t).state = .blocked ∨ ((s.cores.get n).threads.get t).state = .waiting →
    ((s.cores.get n).threads.get t).wdog = false → s.regN (Reg.CORE_WDOG n) ≠ 0 →
    ∃ code e, exec (.threadWatchdog n t) s = .next ((s.updCtx (.core n t) (fun x => { x with wdog := true })).logEvent 0x4401
      [(1, n), (1, t), (1, code), (2, ((s.cores.get n).threads.get t).pc), (1, e)]) ∧
      (((s.cores.get n).threads.get t).state = .blocked → code = 2 ∧ e = 0) ∧
      (((s.cores.get n).threads.get t).state = .waiting → code = 3 ∧ e = ((s.cores.get n).threads.get t).waitE)) ∧
  (∀ (s : State) (n t pos : Nat), ((s.cores.get n).threads.get t).canIssue = true → ((s.cores.get n).threads.get t).replays < 3 →
    ∃ x, exec (.parityFailure n t 0 pos) s = .next x ∧
      (x.cores.get n).threads.get t = { (s.cores.get n).threads.get t with replays := ((s.cores.get n).threads.get t).replays + 1 }) ∧
  (∀ (s : State) (n id path pos : Nat) (f : Flight), s.flight n id = some f → path = 1 ∨ path = 5 ∨ path = 6 →
     f.replays < 3 →
    ∃ x, exec (.parityFailure n id path pos) s = .next x ∧ (x.cores.get n).replaying = true ∧
      x.flight n id = some { f with replays := f.replays + 1, path := path }) ∧
  (∀ (s : State) (n id : Nat) (f : Flight), s.flight n id = some f →
    f.kind = .vector ∨ (∃ l a, f.kind = .move l a false ∧ f.acked = true) ∨
      (∃ q slot r l, f.kind = .push q slot r l ∧ (r = none ∨ f.acked = true)) →
    ∃ x, exec (.instructionRetirement n id) s = .next x ∧
      (x.cores.get n).flights = (s.cores.get n).flights.filter (·.id != id) ∧
      (∀ e, f.evc = some e → (x.cores.get n).evc = (s.cores.get n).evc.upd e (· + 1)) ∧
      (f.evc = none → (x.cores.get n).evc = (s.cores.get n).evc) ∧
      (∀ q slot r l, f.kind = .push q slot r l → ((x.cores.get n).regions.get q).state.get slot = .filled) ∧
      (∀ l a, f.kind = .move l a false → (x.cores.get n).ledMov.get f.thread = (s.cores.get n).ledMov.get f.thread + 1)) ∧
  (∀ (s : State) (n id : Nat) (se : Bool) (f : Flight), s.flight n id = some f →
    (se = false ∧ ((∃ l a i, f.kind = .move l a i) ∨ (∃ q sl r l, f.kind = .push q sl r l) ∨ (∃ a b c d, f.kind = .dispatch a b c d) ∨
        ∃ a b c, f.kind = .handoff a b c)) ∨ (se = true ∧ ∃ a b c d, f.kind = .dispatch a b c d) →
    ∃ x, exec (.completionFault n id se) s = .next x ∧
      (x.cores.get n).flights = (s.cores.get n).flights.filter (·.id != id) ∧ (x.cores.get n).evc = (s.cores.get n).evc ∧
      ((x.cores.get n).threads.get f.thread).state = .faulted ∧
      ((x.cores.get n).threads.get f.thread).excCode = (if se then 0x11 else 0x10) ∧
      ((x.cores.get n).threads.get f.thread).excPc = f.pc)

/-- The vector instructions, on cores and stack engines. -/
def Obligations.VectorResults : Prop :=
  (∀ x ∈ vectorTable, ∀ (s : State) (u : Exec) (w : Nat) (f g : Nat → Nat), MayIssue s u w →
    let a := s.resolve u (bits w 49 37) false
    let b := s.resolve u (bits w 36 24) false
    let d := s.resolve u (bits w 23 11) true
    bits w 9 0 = 0 → (twoSource x.2 = false → bits w 36 24 = 0) → clean a → clean d → (twoSource x.2 = true → clean b) →
    (∀ p t, u = .engine p t → engineVec x.2 = true) → vTypes x.2 a.o b.o d.o = true →
    vShape x.2 a.o b.o d.o (bit w 10) = some (f, g) →
    RangesOk s u ((if twoSource x.2 then [a.o.range, b.o.range] else [a.o.range]) ++ (if x.2 = 3 then [d.o.range] else []))
      [d.o.range] → s.queueFree u 4 FlightKind.isVector = true →
    ∃ t, exec (x.1 u w) s = .next t ∧
      t.opMem u = memSetElems (s.opMem u) d.o 0 ((vResults (s.opMem u) x.2 a.o b.o d.o f g).map (·.bits)) ∧
      (∀ i, ¬inElems d.o i → (t.opMem u).get i = (s.opMem u).get i) ∧
      t.ctx u = (s.ctx u).taken ∧ (∀ v, threadsApart v u → t.ctx v = s.ctx v) ∧
      (∀ n th, u = .core n th → ∃ fl ∈ (t.cores.get n).flights, fl.kind = .vector ∧ fl.thread = th ∧ fl.writes = [d.o.range])) ∧
  (∀ a b : W32, let r := fun op => BitVec.ofNat 32 (vElem op 2 2 2 a.toNat b.toNat 0).bits
    (r 0x20).toInt = max (-(2 ^ 31)) (min (2 ^ 31 - 1) (a.toInt + b.toInt)) ∧
    (r 0x21).toInt = max (-(2 ^ 31)) (min (2 ^ 31 - 1) (a.toInt - b.toInt)) ∧
    r 0x23 = a &&& b ∧ r 0x24 = a ||| b ∧ r 0x25 = a ^^^ b ∧ r 0x27 = a.sshiftRight (b.toNat % 32))

/-- The strike and plane classes (R244-R246). -/
def Obligations.StrikesAndPlanes : Prop :=
  (∀ (s : State) (n th w : Nat), Issues s (.core n th) w → bits w 8 0 = 0 → s.strikeFree n = true →
    ∃ t, exec (.gset (.core n th) w) s = .next t ∧ t.ctx (.core n th) = (s.ctx (.core n th)).taken ∧
      (t.cores.get n).groups = (s.cores.get n).groups.put (bits w 49 47)
        { defined := true, mask := bits w 46 35, wide := bit w 34, psum := bit w 33, scale := bits w 32 25
          psumDesc := bits w 24 17, dst := bits w 16 9 }) ∧
  (∀ (s : State) (n th w : Nat), let u := Exec.core n th
    let g := (s.cores.get n).groups.get (bits w 49 47)
    let reg := fun (on : Bool) (r : Nat) => if on then ((s.ctx u).s.get r).toInt else 0
    let src := s.resolve u (bits w 46 34) false
    let dst := s.resolveAt u g.dst (reg (bit w 33) (bits w 32 29)) true
    let psum := s.resolveAt u g.psumDesc (reg (bit w 28) (bits w 27 24)) false
    let scale := s.resolveAt u g.scale 0 false
    let k := if g.wide then (maskPositions g.mask).length / 2 else (maskPositions g.mask).length
    let reads := if g.psum then [src.o.range, scale.o.range, psum.o.range] else [src.o.range, scale.o.range]
    MayIssue s u w → bits w 16 0 = 0 → counterOk (bit w 17) (bits w 23 18) → clean src → clean dst → clean scale →
    (g.psum = true → clean psum) → groupOk g (((s.cores.get n).widths[bits w 49 47]?).getD 1) scale.o psum.o dst.o = true →
    src.o.type = 0 → 512 * (k - 1) < src.o.elems → src.o.elems ≤ 512 * k → RangesOk s u reads [dst.o.range] →
    s.strikeFree n = true →
    ∃ t, exec (.strike u w) s = .next t ∧
      Enters s t n th (.strike (bits w 49 47) k) reads [dst.o.range] (if bit w 17 then some (bits w 23 18) else none) ∧
      (∃ j ∈ (t.cores.get n).jobs, j.flight = (s.cores.get n).nextFlight ∧ j.mask = g.mask ∧ j.wide = g.wide ∧
        j.scale = scale.o ∧ j.psum = (if g.psum then some psum.o else none) ∧ j.dst = dst.o) ∧
      ∀ i < k, ∀ p ∈ sliceMembers g i, ∃ x ∈ (t.arr n (s.arrFor n p)).queue,
        x.flight = (s.cores.get n).nextFlight ∧ x.slice = i ∧ x.pos = p ∧
        x.x = ((memElems (s.opMem u) src.o).drop (512 * i)).take 512) ∧
  (∀ (s : State) (n th w : Nat), let u := Exec.core n th
    let src := s.resolve u (bits w 45 33) false
    let reads := if bit w 32 then [] else [src.o.range]
    MayIssue s u w → bits w 24 0 = 0 → bits w 49 46 < 12 → counterOk (bit w 25) (bits w 31 26) →
    (bit w 32 = true → bits w 45 33 = 0) →
    (bit w 32 = false → clean src ∧ src.o.mem = 0 ∧ src.o.type = 3 ∧ src.o.transpose = false ∧ src.o.bytes = 65536 ∧
      (src.o.rows ≤ 1 ∨ src.o.stride = src.o.count)) → RangesOk s u reads [] →
    s.queueFree u 16 FlightKind.isLoad = true →
    ∃ t, exec (.pload u w) s = .next t ∧
      Enters s t n th (.plane (bits w 49 46)) reads [] (if bit w 25 then some (bits w 31 26) else none) ∧
      (t.arr n (s.arrFor n (bits w 49 46))).loads = (s.arr n (s.arrFor n (bits w 49 46))).loads ++
        [{ flight := (s.cores.get n).nextFlight, src := if bit w 32 then none else some src.o.base }]) ∧
  (∀ (s : State) (n th w : Nat), let u := Exec.core n th
    MayIssue s u w → bits w 30 0 = 0 → counterOk (bit w 31) (bits w 37 32) → RangesOk s u [] [] →
    ∃ t, exec (.pswap u w) s = .next t ∧
      (bits w 49 38 ≠ 0 →
        Enters s t n th (.swap (bits w 49 38)) [] [] (if bit w 31 then some (bits w 37 32) else none)) ∧
      (∀ p ∈ maskPositions (bits w 49 38), (t.arr n (s.arrFor n p)).swapPending = true) ∧
      (bits w 49 38 = 0 → ∀ f ∈ (t.cores.get n).flights, f.id ≠ (s.cores.get n).nextFlight))

/-- The move and region classes (R248, R249). -/
def Obligations.MovesAndRegions : Prop :=
  (∀ (s : State) (n th w : Nat), let u := Exec.core n th
    let inb := bit w 32
    let l := s.resolve u (bits w 49 37) inb
    let a := ((s.ctx u).s.get (bits w 36 33)).toNat
    let rd := if inb then [] else [l.o.range]
    let wr := if inb then [l.o.range] else []
    MayIssue s u w → bits w 24 0 = 0 → counterOk (bit w 25) (bits w 31 26) → clean l →
    (∀ p ∈ s.remoteChecks n a l.o.bytes (!inb), p.2 = false) → RangesOk s u rd wr →
    s.queueFree u 16 FlightKind.isMove = true → routeIn s (s.coreNode n) (s.remoteNode n a) →
    ∃ t, exec (.move u w) s = .next t ∧
      (inb = true ∨ (s.cores.get n).skipMov.get th = 0 →
        t.ctx u = (s.ctx u).taken ∧
        InFlight s t n th (.move l.o a inb) rd wr (if bit w 25 then some (bits w 31 26) else none) ∧
        Sent t (if inb then .read n (s.cores.get n).nextFlight else .write n (s.cores.get n).nextFlight)
          (s.coreNode n) (s.remoteNode n a)) ∧
      (inb = false → (s.cores.get n).skipMov.get th ≠ 0 →
        t.msgs = s.msgs ∧ ∀ f ∈ (t.cores.get n).flights, f.id ≠ (s.cores.get n).nextFlight)) ∧
  (∀ (s : State) (n th w : Nat), let u := Exec.core n th
    let q := bits w 49 46
    let r := (s.cores.get n).regions.get q
    let a := ((s.ctx u).s.get (bits w 44 41)).toNat
    let l := s.resolve u (bits w 40 28) false
    let rd := if bit w 45 then [l.o.range] else []
    let wr := [(r.slotOpnd r.head).range]
    MayIssue s u w → bits w 20 0 = 0 → counterOk (bit w 21) (bits w 27 22) → r.configured = true →
    (bit w 45 = true → clean l ∧ l.o.bytes = r.slotBytes) →
    (bit w 45 = false → (∀ p ∈ s.remoteChecks n a r.slotBytes false, p.2 = false) ∧
      routeIn s (s.coreNode n) (s.remoteNode n a)) →
    r.state.get r.head = .empty → RangesOk s u rd wr → s.queueFree u 16 FlightKind.isMove = true →
    ∃ t, exec (.push u w) s = .next t ∧ t.ctx u = (s.ctx u).taken ∧
      InFlight s t n th (.push q r.head (if bit w 45 then none else some a) l.o) rd wr
        (if bit w 21 then some (bits w 27 22) else none) ∧
      ((t.cores.get n).regions.get q).state.get r.head = .filling ∧
      ((t.cores.get n).regions.get q).head = (r.head + 1) % max 1 r.slots ∧
      (bit w 45 = false → Sent t (.read n (s.cores.get n).nextFlight) (s.coreNode n) (s.remoteNode n a))) ∧
  (∀ (s : State) (n th w : Nat), let u := Exec.core n th
    let q := bits w 49 46
    let r := (s.cores.get n).regions.get q
    MayIssue s u w → bits w 41 0 = 0 → r.configured = true → r.state.get r.take = .filled →
    RangesOk s u [(r.slotOpnd r.take).range] [] →
    ∃ t, exec (.pop u w) s = .next t ∧ t.ctx u = writesS s u (bits w 45 42) (BitVec.ofNat 64 (r.take * r.slotBytes)) ∧
      InFlight s t n th (.pop q r.take) [(r.slotOpnd r.take).range] [] none ∧
      ((t.cores.get n).regions.get q).state.get r.take = .taken ∧
      ((t.cores.get n).regions.get q).take = (r.take + 1) % max 1 r.slots) ∧
  (∀ (s : State) (n th w slot : Nat) (f : Flight) (before after : List Flight), let u := Exec.core n th
    let q := bits w 49 46
    MayIssue s u w → bits w 45 0 = 0 → RangesOk s u [] [] → (s.cores.get n).flights = before ++ f :: after →
    f.kind = .pop q slot → f.thread = th → (∀ g ∈ before, ∀ k, ¬(g.thread = th ∧ g.kind = .pop q k)) →
    ∃ t, exec (.drop u w) s = .next t ∧
      (t.cores.get n).flights = (s.cores.get n).flights.filter (·.id != f.id))

/-- Dispatch, handoff, start and return (R250, R251, R254, R258). -/
def Obligations.DispatchesAndHandoffs : Prop :=
  (∀ (s : State) (n th w e : Nat), let u := Exec.core n th
    let ped := if bit w 49 then ((s.ctx u).s.get (bits w 48 45)).toNat % 8 else bits w 47 45
    let p := s.resolve u (bits w 38 26) false
    let r := s.resolve u (bits w 25 13) true
    MayIssue s u w → bits w 5 0 = 0 → (bit w 49 = false → bit w 48 = false) → ped < s.fuses.stackN →
    (s.peds.get ped).entries.get (bits w 44 39) = some e → counterOk (bit w 6) (bits w 12 7) → clean p → clean r →
    p.o.bytes ≤ 4096 → RangesOk s u [p.o.range] [r.o.range] →
    s.queueFree u 8 FlightKind.isDispatch = true → routeIn s (s.coreNode n) (stackNode ped) →
    ∃ t, exec (.sedispatch u w) s = .next t ∧ t.ctx u = (s.ctx u).taken ∧
      InFlight s t n th (.dispatch ped (bits w 44 39) p.o r.o) [p.o.range] [r.o.range]
        (if bit w 6 then some (bits w 12 7) else none) ∧
      Sent t (.dispatch n (s.cores.get n).nextFlight) (s.coreNode n) (stackNode ped)) ∧
  (∀ (s : State) (n th w : Nat), let u := Exec.core n th
    let o := s.resolve u (bits w 49 37) false
    MayIssue s u w → bits w 21 0 = 0 → counterOk (bit w 22) (bits w 28 23) → clean o → o.o.type ≤ 1 →
    RangesOk s u [o.o.range] [] → s.queueFree u 4 FlightKind.isHandoff = true → routeIn s (s.coreNode n) (samplerNode 0) →
    ∃ t, exec (.shand u w) s = .next t ∧ t.ctx u = (s.ctx u).taken ∧
      InFlight s t n th (.handoff ((s.ctx u).s.get (bits w 36 33)).toNat ((s.ctx u).s.get (bits w 32 29)).toNat o.o)
        [o.o.range] [] (if bit w 22 then some (bits w 28 23) else none) ∧
      Sent t (.dispatch n (s.cores.get n).nextFlight) (s.coreNode n) (samplerNode 0)) ∧
  (∀ (s : State) (ped th : Nat) (job : Dispatch) (rest : List Dispatch), (s.peds.get ped).waiting = job :: rest →
    roundRobin 128 (s.peds.get ped).lastStarted (fun k => !(s.engines.get (engKey ped k)).busy) = some th →
    ∃ t, exec (.engineThreadStart ped) s = .next t ∧ (t.peds.get ped).waiting = rest ∧ (t.peds.get ped).lastStarted = th ∧
      (t.engines.get (engKey ped th)).busy = true ∧ (t.engines.get (engKey ped th)).job = job ∧
      (t.engines.get (engKey ped th)).window = (s.engines.get (engKey ped th)).window.store 0 job.param ∧
      (t.ctx (.engine ped th)).state = .runnable ∧
      (t.ctx (.engine ped th)).pc = ((s.peds.get ped).entries.get job.entry).getD 0 ∧
      (t.ctx (.engine ped th)).s.get 0 = BitVec.ofNat 64 job.param.length ∧
      (t.ctx (.engine ped th)).s.get 1 = BitVec.ofNat 64 ped ∧ (t.ctx (.engine ped th)).s.get 2 = BitVec.ofNat 64 (th / 8) ∧
      (t.ctx (.engine ped th)).s.get 3 = BitVec.ofNat 64 (th % 8) ∧ (t.ctx (.engine ped th)).s.get 4 = BitVec.ofNat 64 job.core) ∧
  (∀ (s : State) (p th w : Nat), let u := Exec.engine p th
    let l := s.resolve u (bits w 49 37) false
    let off := if bit w 36 then ((s.ctx u).s.get (bits w 35 32)).toNat else 0
    let job := (s.engines.get (engKey p th)).job
    let old := memOpndBytes (s.cores.get job.core).spm job.result
    let new := memOpndBytes (s.opMem u) l.o
    MayIssue s u w → bits w 31 0 = 0 → clean l → off + l.o.bytes ≤ job.result.bytes → RangesOk s u [] [] →
    (∃ f ∈ (s.cores.get job.core).flights, f.id = job.flight) →
    ∃ t, exec (.seret u w) s = .next t ∧ t.ctx u = (s.ctx u).taken ∧
      (t.cores.get job.core).spm = memSetOpndBytes (s.cores.get job.core).spm job.result
        (old.take off ++ new ++ old.drop (off + new.length)))

/-- The softmax class on stack engines (R257). -/
def Obligations.SoftmaxInstructions : Prop :=
  (∀ (s : State) (p th w : Nat), let u := Exec.engine p th
    let st := s.resolve u (bits w 49 37) true
    MayIssue s u w → bits w 36 0 = 0 → clean st → st.o.type = 1 → stateDim st.o ≠ 0 → RangesOk s u [] [] →
    WindowIs (.sinit u w) s p th (putSoft (s.opMem u) st.o
      (List.replicate st.o.rows { m := 0, l := 0, c := 0, flags := 1, o := List.replicate (stateDim st.o) 0 }))) ∧
  (∀ (s : State) (p th w : Nat), let u := Exec.engine p th
    let sc := s.resolve u (bits w 49 37) true
    let st := s.resolve u (bits w 36 24) true
    let wi := s.resolve u (bits w 23 11) false
    MayIssue s u w → bits w 5 0 = 0 → clean sc → clean st → (bit w 10 = false → clean wi ∧ wi.o.type = 2 ∧ wi.o.elems = st.o.rows) →
    sc.o.type = 1 → st.o.type = 1 → stateDim st.o ≠ 0 → sc.o.rows = st.o.rows → sc.o.count ≤ 16 → RangesOk s u [] [] →
    let rows := (List.range st.o.rows).map (fun r => sstepRow (2 ^ 20 * s.freeCtr + 32 * r) (softRow (s.opMem u) st.o r)
      ((List.range sc.o.count).map (bitsAt (s.opMem u) sc.o r)) (bits (scoreWindow s u w wi.o r) 4 0) (bits (scoreWindow s u w wi.o r) 12 8))
    WindowIs (.sstep u w) s p th (putSoft (memSetElems (s.opMem u) sc.o 0 (rows.flatMap (·.1))) st.o (rows.map (·.2)))) ∧
  (∀ (s : State) (p th w : Nat), let u := Exec.engine p th
    let x := s.resolve u (bits w 49 37) false
    let v := s.resolve u (bits w 36 24) false
    let st := s.resolve u (bits w 23 11) true
    MayIssue s u w → bits w 10 0 = 0 → clean x → clean v → clean st → x.o.type = 1 → v.o.type = 1 → st.o.type = 1 →
    stateDim st.o ≠ 0 → x.o.rows = st.o.rows → v.o.rows = x.o.count → v.o.count = stateDim st.o → x.o.count ≤ 16 →
    RangesOk s u [] [] →
    ∃ rows : List SoftRow, rows.length = st.o.rows ∧ (∀ r ∈ rows, r.c = 0x3F800000) ∧
      WindowIs (.sacc u w) s p th (putSoft (s.opMem u) st.o rows)) ∧
  (∀ (s : State) (p th w : Nat), let u := Exec.engine p th
    let st := s.resolve u (bits w 49 37) false
    let out := s.resolve u (bits w 36 24) true
    MayIssue s u w → bits w 20 0 = 0 → clean st → clean out → st.o.type = 1 → out.o.type ≤ 1 → stateDim st.o ≠ 0 →
    out.o.rows = st.o.rows → out.o.count = stateDim st.o → RangesOk s u [] [] →
    let rows := (List.range st.o.rows).map (softRow (s.opMem u) st.o)
    ∃ t, exec (.snorm u w) s = .next t ∧
      t.opMem u = memSetElems (s.opMem u) out.o 0 (rows.zipIdx.flatMap (fun x => x.1.o.zipIdx.map (fun y =>
        if x.1.empty then 0
        else (vDiv out.o.type (Config.free (2 ^ 20 * s.freeCtr + 512 * x.2 + y.2)) (f32 y.1) (f32 x.1.l)).bits))) ∧
      writesP s u (bits w 23 21) (rows.any (·.empty)) (t.ctx u)) ∧
  (∀ (s : State) (p th w : Nat), let u := Exec.engine p th
    let a := s.resolve u (bits w 49 37) true
    let b := s.resolve u (bits w 36 24) false
    MayIssue s u w → bits w 23 0 = 0 → clean a → clean b → a.o.type = 1 → b.o.type = 1 → stateDim a.o ≠ 0 →
    b.o.count = a.o.count → b.o.rows = a.o.rows → RangesOk s u [] [] →
    WindowIs (.scomb u w) s p th (putSoft (s.opMem u) a.o ((List.range a.o.rows).map (fun r =>
      scombRow (2 ^ 20 * s.freeCtr + 512 * r) (softRow (s.opMem u) a.o r) (softRow (s.opMem u) b.o r))))) ∧
  (∀ (n : Nat) (x : SoftRow) (sc : List Nat) (lo hi : Nat), (∀ k, k < sc.length → ¬(lo ≤ k ∧ k ≤ hi)) →
    sstepRow n x sc lo hi = (sc.map (fun _ => 0), { x with c := 0x3F800000 })) ∧
  (∀ (n : Nat) (x : SoftRow) (sc : List Nat) (lo hi : Nat), (∃ k, k < sc.length ∧ lo ≤ k ∧ k ≤ hi) →
    (sstepRow n x sc lo hi).2.empty = false ∧ (sstepRow n x sc lo hi).1.length = sc.length ∧
    (∀ k, k < sc.length → ¬(lo ≤ k ∧ k ≤ hi) → (sstepRow n x sc lo hi).1[k]? = some 0) ∧
    (x.empty = true → (sstepRow n x sc lo hi).2.c = 0)) ∧
  (∀ (n : Nat) (a b : SoftRow),
    (b.empty = true → scombRow n a b = a) ∧
    (b.empty = false → a.empty = true → scombRow n a b = { b with c := 0x3F800000 }) ∧
    (b.empty = false → a.empty = false → (scombRow n a b).c = 0x3F800000 ∧ (scombRow n a b).flags = a.flags ∧
      (scombRow n a b).m = b32 (Fp.max (f32 a.m) (f32 b.m))))

/-- The fabric's request and response messages (R296). -/
def Obligations.TransferMessages : Prop :=
  (∀ (s : State) (msg : Nat) (m : FabMsg) (n : Nat) (f : Flight) (l : Opnd) (a : Nat), Serves s msg m n f l a →
    m.body = .write n f.id → let bs := memOpndBytes (s.cores.get n).spm l
    (rSpace a ≤ 1 → ∃ t, exec (.write msg) s = .next t ∧ Answered s t msg m .ack .ack ∧
      (t.clusters.get (s.rCluster n a)).mem = (s.clusters.get (s.rCluster n a)).mem.store (bits a 21 0) bs) ∧
    (∀ p, rSpace a = 3 → s.rPeer n a = some p → (s.cores.get p).retired = false →
      ∃ t, exec (.write msg) s = .next t ∧ Answered s t msg m .ack .ack ∧
        (t.cores.get p).spm = (s.cores.get p).spm.store (memBase (bits a 47 46) + bits a 20 0) bs) ∧
    (∀ p, rSpace a = 5 → (s.usesTransit n a = false ∨ f.blocks ≠ 0) → s.farPort (((s.cores.get n).inst).getD 16) = some p →
      ∃ t, exec (.write msg) s = .next t ∧ t.msg msg = some { m with resp := some .ack } ∧
        t.out = s.out ++ [.hostWrite p (s.farAddr (((s.cores.get n).inst).getD 16) (bits a 39 0)) bs, .fabric .ack [msg]])) ∧
  (∀ (s : State) (msg : Nat) (m : FabMsg) (n : Nat) (f : Flight) (l : Opnd) (a : Nat) (far : List Byte),
    Serves s msg m n f l a → m.body = .read n f.id →
    (rSpace a ≤ 1 → (s.clusters.get (s.rCluster n a)).badWord (bits a 21 0) l.bytes = none →
      ∃ t, exec (.read msg far) s = .next t ∧
        Answered s t msg m (.data ((s.clusters.get (s.rCluster n a)).mem.bytes (bits a 21 0) l.bytes)) .data) ∧
    (∀ p, rSpace a = 3 → s.rPeer n a = some p → (s.cores.get p).retired = false →
      ∃ t, exec (.read msg far) s = .next t ∧
        Answered s t msg m (.data ((s.cores.get p).spm.bytes (memBase (bits a 47 46) + bits a 20 0) l.bytes)) .data)) ∧
  (∀ (s : State) (msg : Nat) (m : FabMsg) (n t d e k : Nat), s.msg msg = some m → m.resp = none → m.body = .signal n t d e k →
    (∀ x ∈ s.msgs, x.id < m.id → ∀ id, x.body = .write n id → x.resp = some .ack ∨
      ∀ f, s.flight n id = some f → ¬(f.thread = t ∧ s.movesTo n d f.kind = true)) → (s.cores.get d).retired = false →
    ∃ u, exec (.fabricSignal msg) s = .next u ∧ Answered s u msg m .ack .ack ∧
      (u.cores.get d).evc.get e = (s.cores.get d).evc.get e + BitVec.ofNat 32 k) ∧
  (∀ (s : State) (msg : Nat) (m : FabMsg) (n : Nat) (f : Flight), s.msg msg = some m → m.resp = none →
    m.body = .dispatch n f.id → s.flight n f.id = some f →
    (∀ p e param result, f.kind = .dispatch p e param result →
      ∃ u, exec (.dispatch msg) s = .next u ∧ Answered s u msg m .ack .ack ∧ (u.peds.get p).waiting = (s.peds.get p).waiting ++
        [{ core := n, thread := f.thread, flight := f.id, entry := e, param := memOpndBytes (s.cores.get n).spm param, result := result }]) ∧
    (∀ row vocab o, f.kind = .handoff row vocab o →
      ∃ u, exec (.dispatch msg) s = .next u ∧ Answered s u msg m .ack .ack ∧
        u.handoffs = s.handoffs ++ [{ core := n, flight := f.id, row := row, vocab := vocab, o := o }])) ∧
  (∀ (s : State) (msg : Nat) (m : FabMsg) (n : Nat) (f : Flight) (l : Opnd) (a : Nat) (bs : List Byte), s.msg msg = some m →
    s.flight n f.id = some f → s.xferEnds n f = some (l, a) → m.body = .read n f.id → m.resp = some (.data bs) →
    ∃ u, exec (.data msg) s = .next u ∧ u.msg msg = none ∧ (u.cores.get n).spm = memSetOpndBytes (s.cores.get n).spm l bs ∧
      u.flight n f.id = some { f with acked := true, want := 0, blocks := 0 }) ∧
  (∀ (s : State) (msg : Nat) (m : FabMsg), s.msg msg = some m → m.resp = some .ack →
    ∃ u, exec (.ack msg) s = .next u ∧ u.msg msg = none ∧
      ∀ n f, m.body = .write n f.id → s.flight n f.id = some f →
        u.flight n f.id = some { f with acked := true, want := 0, blocks := 0 }) ∧
  (∀ (s : State) (msg : Nat) (m : FabMsg), s.msg msg = some m →
    (m.resp = some .nackRetry → ∃ u d, exec (.nack msg) s = .next u ∧ u.msg msg = some { m with resp := none, dst := d }) ∧
    (∀ n f, m.resp = some .nackFault → m.body = .write n f.id ∨ m.body = .read n f.id ∨ m.body = .dispatch n f.id →
      s.flight n f.id = some f → ∃ u, exec (.nack msg) s = .next u ∧ RemoteFaulted u n f)) ∧
  (∀ (s : State) (msg : Nat) (m : FabMsg), s.msg msg = some m → m.resp = none →
    (m.resent = false → ∃ u, exec (.requestTimeout msg) s = .next u ∧ u.msg msg = some { m with resent := true, net := 1 - m.net }) ∧
    (∀ n f, m.resent = true → m.body = .write n f.id ∨ m.body = .read n f.id ∨ m.body = .dispatch n f.id →
      s.flight n f.id = some f → ∃ u, exec (.requestTimeout msg) s = .next u ∧ RemoteFaulted u n f))

/-- The fabric's links and timers (R277, R302, R304, R305). -/
def Obligations.FabricLinks : Prop :=
  (∀ (s : State) (r net p o num kind resent age : Nat), neighbour r p = some o → (s.lanes.get (laneKey r net p)).retired = false →
    s.slices.get (2 * r + net) = false →
    (kindKnown kind = true → num % 128 = (s.lanes.get (laneKey r net p)).expect →
      ∃ t, exec (.fabricFlit r net p num true kind resent age) s = .next t ∧
        (t.lanes.get (laneKey r net p)).expect = ((s.lanes.get (laneKey r net p)).expect + 1) % 128 ∧
        (t.lanes.get (laneKey r net p)).fails = 0 ∧
        t.out = s.out ++ [.fabric .ack [r, net, p, (s.lanes.get (laneKey r net p)).expect]]) ∧
    (∃ t, exec (.fabricFlit r net p num false kind resent age) s = .next t ∧
        ((s.lanes.get (laneKey r net p)).fails < 7 →
          (t.lanes.get (laneKey r net p)).fails = (s.lanes.get (laneKey r net p)).fails + 1 ∧
          (t.lanes.get (laneKey r net p)).retired = false) ∧
        (7 ≤ (s.lanes.get (laneKey r net p)).fails → (t.lanes.get (laneKey r net p)).retired = true)) ∧
    exec (.linkAckTimeout r net p resent) s = .next (s.resends o net (inPort r o) (max 1 resent)) ∧
    (s.halfGated (if o % 4 < 2 then 0 else 1) = false →
      ∃ t, exec (.linkLivenessTimeout r net p) s = .next t ∧ (t.lanes.get (laneKey r net p)).retired = true ∧
        (t.lanes.get (laneKey o net (inPort r o))).retired = true) ∧
    exec (.idleFlitTimer r net p) s = .next (s.emit (.fabric .idle [r, net, p]))) ∧
  (∀ (s : State) (msg : Nat) (m : FabMsg), s.msg msg = some m → m.urgent = false →
    ∃ t, exec (.urgencyPromotion msg) s = .next t ∧ t.msg msg = some { m with urgent := true }) ∧
  (∀ (s : State) (c p : Nat), let cl := s.clusters.get c
    (cl.transit.cells.map (·.2)).sum < 64 →
    roundRobin 11 cl.transitLast (fun p => cl.transitWait.contains p && decide (cl.transit.get p < 8)) = some p →
    ∃ t, exec (.transitBlockGrant c) s = .next t ∧ (t.clusters.get c).transit.get p = cl.transit.get p + 1 ∧
      (t.clusters.get c).transitWait = cl.transitWait.erase p ∧ (t.clusters.get c).transitLast = p)

/-- The memory stacks and the far tier's registers (ch. 11). -/
def Obligations.StackEvents : Prop :=
  (∀ (s : State) (p addr a b : Nat) (bad : List Nat), (s.peds.get p).selfRefresh = false →
    exec (.dramAccessComplete p addr true a b bad) s = .next (((s.pedCount p (Reg.PED_DRAM_RD p) 2 true).pedCount p
      (Reg.PED_DRAM_WR p) 2 true).pedCount p (Reg.PED_RMW p) 1 false)) ∧
  (∀ (s : State) (p addr a b : Nat), (s.peds.get p).selfRefresh = false → (s.peds.get p).lost = [] →
    ∃ t, exec (.dramAccessComplete p addr false a b []) s = .next t ∧
      (t.peds.get p).dieTimeouts.get (blockDie (addr / 64)) = 0 ∧ (t.peds.get p).retrying.get (blockDie (addr / 64)) = false ∧
      (t.peds.get p).poison = (s.peds.get p).poison) ∧
  (∀ (s : State) (p addr d : Nat), (s.peds.get p).selfRefresh = false → (s.peds.get p).lost = [] → d < 12 →
    d ≠ blockDie (addr / 64) →
    ∃ t, exec (.dramAccessComplete p addr false 0 0 [blockDie (addr / 64), d]) s = .next t ∧
      ∀ x ∈ [blockDie (addr / 64), d], ∀ k, dieBlock (addr / 64 / 11) x = some k → (t.peds.get p).poison.get k = true) ∧
  (∀ (s : State) (p d : Nat), (s.peds.get p).selfRefresh = false → (s.peds.get p).lost = [] →
    ((s.peds.get p).retrying.get d = false →
      ∃ t, exec (.dramTimeout p d) s = .next t ∧ (t.peds.get p).retrying.get d = true) ∧
    ((s.peds.get p).retrying.get d = true → (s.peds.get p).state ≠ 3 → (s.peds.get p).dieTimeouts.get d = 3 →
      ((s.peds.get p).dieErrs.get d) = [] →
      ∃ t, exec (.dramTimeout p d) s = .next t ∧ (t.peds.get p).retrying.get d = false ∧ d ∈ (t.peds.get p).lost)) ∧
  (∀ (s : State) (p : Nat), (s.peds.get p).selfRefresh = false →
    (∃ t, exec (.refreshDue p true) s = .next t ∧ (t.peds.get p).postponed =
      if (s.peds.get p).postponed < 8 then (s.peds.get p).postponed + 1 else 0) ∧
    (∃ t, exec (.refreshDue p false) s = .next t ∧ (t.peds.get p).postponed = 0)) ∧
  (∀ (s : State) (p : Nat), (s.peds.get p).selfRefresh = false → p < s.fuses.stackN →
    ∃ t, exec (.patrolPassStart p) s = .next t ∧ (t.peds.get p).patrol = true ∧
      ((s.peds.get p).patrol = true → t.regs = (s.pedCount p (Reg.PED_SCRUB_PASS p) 1 false).regs)) ∧
  (∀ (s : State) (q : Port) (i v : Nat),
    (s.farBusy i = false → exec (.ftrBaseWrite q i v) s = .next (s.setReg64 (Reg.FTR_BASE_LO i) v)) ∧
    (s.farBusy i = true → exec (.ftrBaseWrite q i v) s = .next (s.logEvent 0x6703 [(1, i), (1, 0), (1, s.actsAs q)])) ∧
    (s.farBusy i = false ∨ bit v 0 = true → exec (.ftrCtlWrite q i v) s = .next (s.setRegN (Reg.FTR_CTL i) (v % 8))) ∧
    (s.farBusy i = true → bit (s.regN (Reg.FTR_CTL i)) 0 = true → bit v 0 = false →
      exec (.ftrCtlWrite q i v) s = .next (s.logEvent 0x6703 [(1, i), (1, 1), (1, s.actsAs q)])))

/-- The page reads of stack engines (R255, R354, R355). -/
def Obligations.PageGathers : Prop :=
  ∀ (s : State) (p th w : Nat) (value : Bool), let u := Exec.engine p th
    let dst := s.resolve u (bits w 37 25) true
    let i := ((s.cores.get (s.engines.get (engKey p th)).job.core).inst).getD 16
    let m := s.planOf i
    let q := bits ((s.ctx u).s.get (bits w 49 46)).toNat 11 0
    let pg := ((s.ctx u).s.get (bits w 45 42)).toNat / 16
    let l := bits ((s.ctx u).s.get (bits w 41 38)).toNat 25 16
    let h := bits ((s.ctx u).s.get (bits w 41 38)).toNat 5 0
    let j := l * m.kvHeads + h
    MayIssue s u w → bits w 20 0 = 0 → clean dst → dst.o.type = 1 → dst.o.rows = 16 → dst.o.count = m.headDim →
    l < m.kvLayers → h < m.kvHeads → (m.stackOf j).1 = p → q < ((s.img.insts.get i).map (·.inst.maxSeqs)).getD 0 →
    (s.pageSrc i q j pg).1 ≠ .bad → s.pagePoisoned i q j pg = false → RangesOk s u [] [] →
    ∃ t, exec (if value then .pgatherV u w else .pgatherK u w) s = .next t ∧
      t.opMem u = memSetElems (s.opMem u) dst.o 0 (s.pageRows i q j pg value).1 ∧
      t.ctx u = writesS s u (bits w 24 21) (BitVec.ofNat 64 (s.pageSrc i q j pg).2) ∧
      (∀ v, threadsApart v u → t.ctx v = s.ctx v ∧ t.opMem v = s.opMem v) ∧ t.cores = s.cores

/-- Flushes, line fetches and prefetches (R348, R352, R356). -/
def Obligations.KeyValueFlush : Prop :=
  (∀ (s : State) (i q j id f : Nat), let key := partKey i q j
    s.flushing.get key = some id → s.kvFrame i q (s.parts.get key).stg = some f →
    let m := s.planOf i
    let st := (m.stackOf j).1
    let rows := bf16s ((s.peds.get st).planRead i (m.partAddr st q (m.stackOf j).2) (64 * m.headDim))
    ∃ t, exec (.kvFlushComplete i q j) s = .next t ∧
      t.peds = (s.writeSub i j false f (rows.take (16 * m.headDim)) (rows.drop (16 * m.headDim))).peds ∧
      t.parts.get key = { stg := (s.parts.get key).stg + 1, mask := 0 } ∧
      t.flushing.get key = none ∧ (∀ k, k ≠ key → t.flushing.get k = s.flushing.get k ∧ t.parts.get k = s.parts.get k) ∧
      t.out = s.out ++ [.fabric .ack [id]] ∧
      t.msgs = s.msgs.map (fun x => if x.id = id then { x with resp := some .ack } else x)) ∧
  (∀ (s : State) (p a : Nat) (r : List Nat), (s.peds.get p).fetching = a :: r →
    ∃ t, exec (.walkerLineFetch p) s = .next t ∧ (t.peds.get p).fetching = r ∧
      (t.peds.get p).lab = (a :: (s.peds.get p).lab.erase a).take 256 ∧ ∀ k, k ≠ p → t.peds.get k = s.peds.get k) ∧
  (∀ (s : State) (p th : Nat), let e := s.engines.get (engKey p th)
    (e.nextK.isSome = true → ∃ t, exec (.pageBufferPrefetch p th false) s = .next t ∧
      (t.engines.get (engKey p th)).bufK = e.nextK ∧ (t.engines.get (engKey p th)).nextK = none ∧
      (t.engines.get (engKey p th)).bufV = e.bufV) ∧
    (e.nextV.isSome = true → ∃ t, exec (.pageBufferPrefetch p th true) s = .next t ∧
      (t.engines.get (engKey p th)).bufV = e.nextV ∧ (t.engines.get (engKey p th)).nextV = none ∧
      (t.engines.get (engKey p th)).bufK = e.bufK))

/-- Layer boundaries and takeovers (R129, R130, R222, R515, R516). -/
def Obligations.BoundariesAndTakeovers : Prop :=
  (∀ (s : State) (n l : Nat) (o : Opnd), (s.cores.get n).atBoundary = true → ((s.cores.get n).paired = false ∨ ((s.cores.get n).suspended = true ∧ (s.cores.get n).primary = true)) →
    (s.cores.get n).barrier = some (l, o) → (s.cores.get n).org ≠ .draining → s.testOf n = none →
    ∃ t, exec (.layerBoundary n) s = .next t ∧ (t.cores.get n).barrier = none ∧ (t.cores.get n).layer = l ∧
      (t.cores.get n).held = false ∧ (t.cores.get n).evc.get 1 = (s.cores.get n).evc.get 1 + 1 ∧
      ((t.cores.get n).mirror0.layer = l ∧ (t.cores.get n).mirror0.input = memOpndBytes (s.cores.get n).spm o ∨
       (t.cores.get n).mirror1.layer = l ∧ (t.cores.get n).mirror1.input = memOpndBytes (s.cores.get n).spm o)) ∧
  (∀ (s : State) (n : Nat), (s.cores.get n).paired = true → (s.cores.get n).primary = false → exec (.layerBoundary n) s = .next s) ∧
  (∀ (s : State) (n : Nat), let c := s.cores.get n
    let d := s.cores.get c.partner
    let out := fun (x : Core) => match x.barrier with | some (_, o) => memOpndBytes x.spm o | none => []
    c.atBoundary = true → c.paired = true → c.suspended = false → c.primary = true → d.atBoundary = true → c.redOut = [] →
    d.redOut = [] → c.red = .clean → c.redKind = none → crc32 (out c) = crc32 (out d) →
    exec (.layerBoundary n) s = .next (((s.count (Reg.RED_LAYER_CMP n)).takeBoundary n).takeBoundary c.partner)) ∧
  (∀ (s : State) (n : Nat) (k : Takeover), s.takeovers.find? (·.core == n) = some k → (s.cores.get n).flights = [] →
    ∃ t, exec (.reserveCoreTakeover n) s = .next t ∧ (∀ x ∈ t.takeovers, x.core ≠ n) ∧
      ((s.cores.get n).inst = none → (t.cores.get n).org = .free ∧ (t.cores.get n).retired = false) ∧
      (∀ i b bank, (s.cores.get n).inst = some i → (s.cores.get n).latest = some (b, bank) → s.bankBad b bank = false → b.xfers = [] →
        (t.cores.get n).retired = false ∧ (t.cores.get n).spm = memSetOpndBytes {} b.range b.input ∧
        (t.cores.get n).layer = b.layer ∧ (t.cores.get n).program = progWords (s.currentPkg i).prog))

/-- Scratchpads and their organisation (R278-R287). -/
def Obligations.ScratchpadEvents : Prop :=
  (∀ (s : State) (n mem : Nat),
    (s.scrubStopped true n = false → ∃ t, exec (.scrubPassStart true n mem) s = .next t ∧
      (t.cores.get n).scrubbing.get mem = true ∧ (t.cores.get n).scrubPos.get mem = 0 ∧ (t.cores.get n).spm = (s.cores.get n).spm) ∧
    (s.scrubStopped false n = false → ∃ t, exec (.scrubPassStart false n mem) s = .next t ∧
      (t.clusters.get n).scrubbing = true ∧ (t.clusters.get n).scrubPos = 0 ∧ (t.clusters.get n).mem = (s.clusters.get n).mem)) ∧
  (∀ (s : State) (n mem w : Nat),
    (s.scrubStopped true n = false → (s.cores.get n).scrubbing.get mem = true → (s.cores.get n).poison.get (memBase mem / 8 + w) = false →
      ∃ t, exec (.scrubRead true n mem [] [w]) s = .next t ∧ (t.cores.get n).poison.get (memBase mem / 8 + w) = true ∧
        (t.cores.get n).spm = (s.cores.get n).spm.store (memBase mem + 8 * w) (List.replicate 8 0) ∧
        (t.cores.get n).errAddr = spmErr 3 mem (8 * w) ∧ (t.cores.get n).scrubPos.get mem = (s.cores.get n).scrubPos.get mem + 2048) ∧
    (s.scrubStopped false n = false → (s.clusters.get n).scrubbing = true → (s.clusters.get n).poison.get w = false →
      ∃ t, exec (.scrubRead false n mem [] [w]) s = .next t ∧ (t.clusters.get n).poison.get w = true ∧
        (t.clusters.get n).mem = (s.clusters.get n).mem.store (8 * w) (List.replicate 8 0) ∧
        (t.clusters.get n).errAddr = clmErr 3 (8 * w) ∧ (t.clusters.get n).scrubPos = (s.clusters.get n).scrubPos + 256)) ∧
  (∀ (s : State) (n mem off : Nat), (s.cores.get n).retired = false →
    ((s.cores.get n).org = .normal ∨ (s.cores.get n).org = .draining → (s.cores.get n).restartedOnce = false →
      ∃ t, exec (.scratchpadRestart n mem off) s = .next t ∧ (t.cores.get n).org = .restoring ∧ (t.cores.get n).flights = [] ∧
        (t.cores.get n).restartedOnce = true ∧ (t.cores.get n).errAddr = spmErr 2 mem off ∧
        (t.cores.get n).threads = (s.cores.get n).threads) ∧
    ((s.cores.get n).org = .free ∨ (s.cores.get n).org = .unified →
      exec (.scratchpadRestart n mem off) s = .next ((s.count (Reg.SPM_UE n)).updCore n (fun c => { c with errAddr := spmErr 2 mem off })))) ∧
  (∀ (s : State) (n bank : Nat) (b : Mirror), (s.cores.get n).org = .restoring → (s.cores.get n).retired = false →
    (s.cores.get n).latest = some (b, bank) → s.bankBad b bank = false → b.xfers = [] →
    ∃ t, exec (.restoreComplete n) s = .next t ∧ (t.cores.get n).spm = memSetOpndBytes {} b.range b.input ∧
      (t.cores.get n).layer = b.layer ∧ (t.cores.get n).evc = b.evc ∧ (t.cores.get n).level = b.level ∧
      (t.cores.get n).barrier = none ∧ (t.cores.get n).flights = [] ∧
      (t.cores.get n).org = (if (s.cores.get n).unifyPending then .draining else .normal)) ∧
  (∀ (s : State) (n : Nat) (q : Port), (s.cores.get n).testHold = false →
    ((s.cores.get n).org = .normal → ∃ t, exec (.unify n q) s = .next t ∧ (t.cores.get n).org = .draining ∧ (t.cores.get n).unifyPending = true) ∧
    ((s.cores.get n).org = .free → exec (.unify n q) s = .next (s.logEvent 0x6502 [(1, n), (4, 1), (1, q.num)])) ∧
    ((s.cores.get n).org = .draining → ∃ t, exec (.resume n q) s = .next t ∧ (t.cores.get n).org = .normal ∧
      (t.cores.get n).unifyPending = false ∧ (t.cores.get n).held = false ∧
      (t.cores.get n).barrier = (if (s.cores.get n).held then none else (s.cores.get n).barrier)) ∧
    ((s.cores.get n).org = .unified → ∃ t, exec (.resume n q) s = .next t ∧ (t.cores.get n).org = .restoring) ∧
    ((s.cores.get n).org = .normal ∨ (s.cores.get n).org = .free ∨ (s.cores.get n).org = .restoring →
      exec (.resume n q) s = .next (s.logEvent 0x6502 [(1, n), (4, 2), (1, q.num)]))) ∧
  (∀ (s : State) (n : Nat), (s.cores.get n).org = .draining → (s.cores.get n).held = true → (s.cores.get n).flights = [] →
    (s.cores.get n).retired = false →
    ∃ t, exec (.unifiedEntry n) s = .next t ∧ (t.cores.get n).org = .unified ∧ (t.cores.get n).spm = (s.cores.get n).spm)

/-- In-field tests (R528-R531). -/
def Obligations.FieldTests : Prop :=
  (∀ (s : State) (q : Port) (parts target spacing : Nat), s.testOf target = none → s.testsRunning < 8 →
    (s.testState target = true → exec (.fieldTestStart q parts target spacing) s
      = .next (s.logEvent 0x6003 [(4, testCtlWord 1 parts target), (1, 5), (1, q.num)])) ∧
    (s.testState target = false → (s.arr target 12).stand = false →
      ∃ t j, exec (.fieldTestStart q parts target spacing) s = .next t ∧ j < 8 ∧ (s.tests.get j).status ≠ 2 ∧
        t.tests.get j = { status := 2, target := target, parts := if parts = 0 then 0xFF else parts, failing := 0xF, spacing := spacing % 256 } ∧
        ∀ k, k ≠ j → t.tests.get k = s.tests.get k)) ∧
  (∀ (s : State) (q : Port) (parts target spacing : Nat), (s.testOf target).isSome = true ∨ 8 ≤ s.testsRunning →
    exec (.fieldTestStart q parts target spacing) s = .next (s.logEvent 0x6003 [(4, testCtlWord 1 parts target), (1, 4), (1, q.num)])) ∧
  (∀ (s : State) (q : Port) (target j : Nat), s.testOf target = some j →
    ((s.tests.get j).inSlice = false → ∃ t, exec (.fieldTestAbort q target) s = .next t ∧ (t.tests.get j).status = 3) ∧
    ((s.tests.get j).inSlice = true → ∃ t, exec (.fieldTestAbort q target) s = .next t ∧ (t.tests.get j).abort = true ∧
      (t.tests.get j).status = (s.tests.get j).status)) ∧
  (∀ (s : State) (q : Port) (target : Nat), s.testOf target = none →
    exec (.fieldTestAbort q target) s = .next (s.logEvent 0x6003 [(4, testCtlWord 2 0 target), (1, 5), (1, q.num)])) ∧
  (∀ (s : State) (target pos j : Nat), s.testOf target = some j → target < 0xF0 → (s.cores.get target).inst.isSome = true →
    (s.cores.get target).org = .unified → (s.tests.get j).inSlice = true → (s.tests.get j).abort = false → (s.tests.get j).target = target →
    (s.tests.get j).part < 7 → partSlices (s.tests.get j).part ≤ (s.tests.get j).partSlices + 1 →
    (s.tests.get j).parts - 2 ^ (s.tests.get j).part ≠ 0 → (s.arr target 12).stand = false →
    ∃ t, exec (.fieldTestSliceEnd target true false pos) s = .next t ∧
      (t.tests.get j).parts = (s.tests.get j).parts - 2 ^ (s.tests.get j).part ∧ (t.tests.get j).status = (s.tests.get j).status ∧
      (t.tests.get j).wait = (s.tests.get j).spacing + 1 ∧ (t.tests.get j).inSlice = false ∧ (t.cores.get target).org = .restoring) ∧
  (∀ (s : State) (target pos j : Nat) (fin : Bool), s.testOf target = some j → 0xF0 ≤ target → (s.tests.get j).part < 7 →
    ∃ t, exec (.fieldTestSliceEnd target fin true pos) s = .next t ∧ (t.tests.get j).status = 1 ∧
      (t.tests.get j).failing = (s.tests.get j).part ∧ (t.reserves.get (target - 0xF0)).available = false)

/-- Spills over the far tier (R333, R334, R336). -/
def Obligations.Spills : Prop :=
  (∀ (s : State) (i q p : Nat), (s.spill i q).phase = .spilling → s.farPort i = some p →
    ∃ t, exec (.spillComplete i q) s = .next t ∧ (t.spill i q).phase = .done ∧ (t.seq i q).state = .spilled ∧
      (t.kvSeqs.get (seqKey i q)).state = .spilled ∧
      t.out = s.out ++ (s.spillWrites i q).zipIdx.map (fun w => .hostWrite (s.legPort i p w.2) (s.farAddr i w.1.1) w.1.2)) ∧
  (∀ (s : State) (i q : Nat) (bytes : List Byte), (s.spill i q).phase = .restoring →
    bytes.length = (s.spill i q).pages * frameBytes (s.planOf i) + (s.planOf i).subs * 4 * (s.planOf i).headDim * (s.spill i q).staged →
    ∃ t, exec (.spillRestoreComplete i q bytes) s = .next t ∧ t.spill i q = {} ∧ (t.seq i q).state = .active ∧
      ∀ j < (s.planOf i).subs, t.parts.get (partKey i q j) =
        { stg := (s.seq i q).b / 16 + ((s.seq i q).len - (s.seq i q).b) / 16
          mask := BitVec.ofNat 32 (rowBits false 0 ((s.seq i q).len % 16) ||| rowBits true 0 ((s.seq i q).len % 16)) }) ∧
  (∀ (s : State) (i q port cause : Nat) (c : Instr), (c, cause) ∈ [(.farTierLegError i q port, 0), (.farTierLinkWaitTimeout i q port, 1)] →
    ((s.spill i q).phase = .spilling → ∃ t, exec c s = .next t ∧ t.spill i q = {} ∧ (t.seq i q).state = .paused ∧
      t.log = ((s.count Reg.FTR_ERRORS).logEvent 0x6702 [(1, i), (1, port), (1, cause)]).log) ∧
    ((s.spill i q).phase = .restoring → ∃ t, exec c s = .next t ∧ t.spill i q = { s.spill i q with again := true } ∧
      t.log = ((s.count Reg.FTR_ERRORS).logEvent 0x6702 [(1, i), (1, port), (1, cause)]).log))

/-- Dawn and clocks (R562-R565, Table 19-8). -/
def Obligations.DawnSequence : Prop :=
  (∀ s : State, s.pwr.dawn = 0 → s.inputFree = true →
    ∃ t, exec .vinValidBegins s = .next t ∧ t.pwr = { s.pwr with dawn := 1 } ∧ t.clk.rc = true ∧ t.clk.stays = false) ∧
  (∀ s : State, s.pwr.dawn = 1 → ∃ t, exec .inputValid s = .next t ∧ t.pwr = { s.pwr with dawn := 2, dawnKind := 0 }) ∧
  (∀ (s : State) (slot strap : Nat), s.pwr.dawn = 2 → ∃ t, exec (.railsInRegulation slot strap) s = .next t ∧
    t.pwr = { s.pwr with dawn := 3, pwrGood := true } ∧ t.fuses.slotId = slot % 8 ∧ t.fuses.strap = strap % 16) ∧
  (∀ (s : State) (ok : Bool), s.pwr.dawn = 3 → ∃ t, exec (.friezePllLock ok) s = .next t ∧ t.pwr.dawn = 4 ∧ t.time = 0 ∧
    t.timeRuns = true ∧ t.clk.frieze = true ∧ t.pwr.trip = none ∧ t.armFloor = (s.storeValue 1).getD 0xFFFFFFFF ∧
    ∀ n < 12, (t.icps.get n).adopted = BitVec.ofNat 384 ((s.storeValue (storeAdopted n)).getD 0)) ∧
  (∀ s : State, s.pwr.dawn = 4 → s.clk.refLost = false → ∃ t, exec .corePllLock s = .next t ∧ t.pwr.dawn = 5 ∧ t.pwr.ratioW = 1 ∧
    t.pwr.ratioE = 1 ∧ t.clk.west = true ∧ t.clk.east = true ∧ (∀ n, (t.cores.get n).spm = {}) ∧ ∀ c, (t.clusters.get c).mem = {}) ∧
  (∀ (s : State) (us : Nat), s.pwr.dawn = 5 → ∃ t, exec (.dawnComplete us) s = .next t ∧ t.pwr.dawn = 6 ∧ t.pwr.resetBy = none ∧
    t.pwr.dawnUs = us % 2 ^ 32 ∧ ∀ p < s.fuses.stackN,
      ((s.peds.get p).state = 0 → (t.peds.get p).state = 1) ∧ (s.pwr.dawnKind = 0 → (t.peds.get p).mem = {}) ∧
      (s.pwr.dawnKind ≠ 0 → (t.peds.get p).mem = (s.peds.get p).mem)) ∧
  (∀ s : State, s.clk.rc = true → s.clk.stays = false → 2 ≤ s.pwr.dawn →
    (∃ t, exec .crystalLock s = .next t ∧ t.clk = { s.clk with rc := false }) ∧
    exec .crystalTimeout s = .next ((s.updClk (fun c => { c with stays := true })).logEvent 0x4C02 [(1, 0)])) ∧
  (∀ s : State, s.clk.rc = false → 0 < s.pwr.dawn → 
    exec .crystalStopped s = .next ((s.updClk (fun c => { c with rc := true, stays := true })).logEvent 0x4C02 [(1, 1)])) ∧
  (∀ s : State, 4 ≤ s.pwr.dawn → s.clk.refLost = false → 
    exec .referenceLost s = .next ((s.updClk (fun c => { c with refLost := true, lostAt := s.time, frieze := false, west := false, east := false })).logEvent
      0x4C02 [(1, 2)]).nextRound) ∧
  (∀ s : State, s.clk.refLost = true → ∃ t, exec .referenceReturn s = .next t ∧ t.clk = { s.clk with refLost := false } ∧
    ∀ d < 19, (t.domains.get d).state = (if (s.domains.get d).state = 3 then 3 else 2) ∧
      ((s.domains.get d).state ≠ 3 → (t.domains.get d).waking = true))

/-- Supervision of the input and planned shutdown (R539, R540, R542, R550). -/
def Obligations.PowerSupervision : Prop :=
  (∀ (s : State) (mv : Nat) (high : Bool), s.pwr.dawn ≠ 0 → ∃ t, exec (.inputOutOfRange mv high) s = .next t ∧
    t.pwr = { s.pwr with warning := true, lowInput := !high }) ∧
  (∀ s : State, ∃ t, exec .inputWarningCleared s = .next t ∧ t.pwr = { s.pwr with warning := false, lowInput := false }) ∧
  (∀ (s : State) (value cause : Nat), 2 ≤ s.pwr.dawn → ∃ t, exec (.inputTrip value cause) s = .next t ∧ t.pwr.dawn = 0 ∧
    t.pwr.faultN = true ∧ t.pwr.pwrGood = false ∧ t.pwr.trip = some (cause, value) ∧ t.pwr.restarts = s.pwr.restarts ∧
    t.cores = {} ∧ t.peds = {} ∧ t.img = {} ∧ t.fuses = s.fuses ∧ t.sec.store = s.sec.store ∧ t.sec.banks = s.sec.banks) ∧
  (∀ (s : State) (now : Nat), s.pwr.dawn = 0 → s.pwr.trip.isSome = true → s.pwr.faultN = true → s.pwr.lockout = false → s.pwr.off = false →
    let recent := s.pwr.restarts.filter (fun t => decide (now < t + 60000))
    (recent.length < 3 → ∃ t, exec (.tripRestart now) s = .next t ∧ t.pwr.dawn = 2 ∧ t.pwr.restarts = recent ++ [now] ∧ t.pwr.trip = s.pwr.trip) ∧
    (3 ≤ recent.length → ∃ t, exec (.tripRestart now) s = .next t ∧ t.pwr.dawn = 0 ∧ t.pwr.lockout = true)) ∧
  (∀ s : State, ∃ t, exec .vinBelow20V s = .next t ∧ t.inputFree = true ∧ t.pwr.restarts = [] ∧ t.pwr.trip = s.pwr.trip.map (fun _ => (4, 0))) ∧
  (∀ (s : State) (rail phase cause : Nat), 4 ≤ s.pwr.dawn → 0 < rail → rail ≤ 10 → s.pwr.lost.get rail < (railPhases[rail]?).getD 0 →
    ∃ t, exec (.powerPhaseLost rail phase cause) s = .next t ∧ t.pwr.lost.get rail = s.pwr.lost.get rail + 1 ∧
      (∀ r, r ≠ rail → t.pwr.lost.get r = s.pwr.lost.get r) ∧
      (s.pwr.lost.get rail = 0 → t.log = (((s.updPwr (fun p => { p with lost := p.lost.upd rail (· + 1) })).pwrCount Reg.PWR_PHASE_LOST 1 false).logEvent
        0x3C01 [(1, rail), (1, phase), (1, cause)]).log)) ∧
  (∀ (s : State) (q : Port), 4 ≤ s.pwr.dawn → s.pwr.shutting = false → ∃ t, exec (.shutdown q) s = .next t ∧ t.pwr.shutting = true ∧
    t.pwr.govW = 1 ∧ t.pwr.govE = 1 ∧ ∀ i < 16, i ∈ t.pwr.runOn ↔ s.runsOn i = true) ∧
  (∀ s : State, s.pwr.shutting = true → ∃ t, exec .shutdownRailsOff s = .next t ∧ t.pwr.off = true ∧ t.pwr.dawn = 0 ∧ t.inputFree = false ∧
    t.cores = {} ∧ t.fuses = s.fuses)

/-- The governor and power states (R544-R558). -/
def Obligations.PowerStates : Prop :=
  (∀ (s : State) (demand load gw ge : Nat) (limit : Option Nat) (paces : List (Nat × Nat)), 4 ≤ s.pwr.dawn → s.clk.refLost = false →
    s.clk.frieze = true → s.pwr.shutting = false →
    ∃ t, exec (.governorTick demand load gw ge limit paces) s = .next t ∧
      t.pwr.env ≤ s.eMax ∧ t.pwr.env ≤ s.pwr.env + s.ramp ∧ (s.pwr.env ≤ s.eMax + s.ramp → s.pwr.env ≤ t.pwr.env + s.ramp) ∧
      (t.pwr.env ≤ 100 * demand ∨ t.pwr.env ≤ s.pwr.env) ∧
      t.pwr.demand = demand ∧ t.pwr.load = load ∧ 1 ≤ t.pwr.govW ∧ t.pwr.govW ≤ 16 ∧ 1 ≤ t.pwr.govE ∧ t.pwr.govE ≤ 16 ∧
      t.pwr.ballast = min 700 (t.pwr.env / 100 - load)) ∧
  (∀ (s : State) (d kind next : Nat) (paces : List Nat), d ≤ 18 → 6 ≤ s.pwr.dawn → s.clk.refLost = false →
    let k := s.knownEvent kind next
    let s1 := s.updDomain d (fun x => { x with nextKind := k.1, nextAt := k.2 })
    let st := s1.chooseState d k.1 k.2 paces
    (st ≤ (s.domains.get d).state → exec (.powerStateEntry d kind next paces) s = .next s1) ∧
    ((s.domains.get d).state < st → ∃ t, exec (.powerStateEntry d kind next paces) s = .next t ∧ (t.domains.get d).state = st ∧
      (t.domains.get d).since = s.time ∧ (t.domains.get d).nextAt = k.2 ∧ (∀ e, e ≠ d → t.domains.get e = s.domains.get e) ∧
      (2 ≤ st → (d = 16 → t.clk.west = false) ∧ (d = 17 → t.clk.east = false) ∧ (d = 18 → t.clk.frieze = false)))) ∧
  (∀ (s : State) (d : Nat) (delayed : Bool), d ≤ 18 → (s.domains.get d).state ≠ 0 → (s.domains.get d).waking = false →
    ∃ t, exec (.wakeStart d delayed) s = .next t ∧ (t.domains.get d).waking = true ∧ (t.domains.get d).paced = delayed ∧
      (∀ e ∈ aboveDomains d, (s.domains.get e).state ≠ 0 → (t.domains.get e).waking = true) ∧
      (∀ e, e ≠ d → e ∉ aboveDomains d → t.domains.get e = s.domains.get e)) ∧
  (∀ (s : State) (d us : Nat) (ok : Bool), d ≤ 18 → (s.domains.get d).waking = true → s.clk.refLost = false →
    ∃ t, exec (.wakeComplete d us ok) s = .next t ∧ (t.domains.get d).state = 0 ∧ (t.domains.get d).waking = false ∧
      (∀ e, e ≠ d → t.domains.get e = s.domains.get e) ∧
      (d = 16 → t.clk.west = true) ∧ (d = 17 → t.clk.east = true) ∧ (d = 18 → t.clk.frieze = true))

/-- Strikes in an array (R75-R87, R114-R119). -/
def Obligations.ArrayStrikes : Prop :=
  (∀ (s : State) (n a : Nat) (k : Strike) (rest : List Strike), let x := s.arr n a
    let k' := if k.split then k else (k.splitSlice (s.levelOf n)).1
    let k2 : Strike := if k'.ovf.isEmpty then k' else { k' with overs := some { codes := k'.ovfCodes } }
    s.arrIssues n a = true → x.urgent = [] → x.queue = k :: rest → x.awaiting < 2 → x.dueAhead (s.thrOf n).sampleInterval = false → allZero k'.main.codes = false →
    ∃ t, exec (.strikeLatch n a) s = .next t ∧ (t.arr n a).queue = rest ∧ (t.arr n a).waiting = x.waiting ++ [k2] ∧
      (t.arr n a).driven = x.driven ++ [{ flight := k'.flight, slice := k'.slice, b := k'.b, codes := k'.main.codes }] ∧
      (t.arr n a).urgent = (if k'.ovf.isEmpty then [] else [{ kind := .ovf, flight := k'.flight, slice := k'.slice, b := k'.b, codes := k'.ovfCodes }])) ∧
  (∀ (s : State) (n a : Nat) (conv : List (List Nat)) (overs : List (Nat × Nat)) (d : Drive) (rest : List Drive), let x := s.arr n a
    let v := convert x.frontPlane x.coef d.b d.codes (s.calAge n a) conv overs
    x.driven = d :: rest → d.kind = .orig →
    ∃ t, exec (.strikeBoundary n a conv overs) s = .next t ∧ (t.arr n a).driven = rest ∧ (t.arr n a).queue = x.queue ∧
      (t.arr n a).urgent = (if v.flagged.isEmpty then x.urgent else queuePair x.urgent
        { kind := .half false false, flight := d.flight, slice := d.slice, b := d.b, codes := (halves d.codes).1 }
        { kind := .half false true, flight := d.flight, slice := d.slice, b := d.b, codes := (halves d.codes).2 })) ∧
  (∀ (s : State) (n a : Nat) (k : Strike), (s.arr n a).waiting.find? (fun k => !k.lane.isEmpty && k.corr.isNone) = some k →
    exec (.laneCorrectionReady n a) s = .next ((s.updStrike n a k.flight k.slice (fun k' => { k' with
      corr := some ((List.range 256).map ((s.arr n a).frontPlane.dot k.lane)) })).deliverAll n a)) ∧
  (∀ (s : State) (n a : Nat) (k : Strike), (s.arr n a).waiting = [k] → k.overs = none → k.exact ≠ [] → k.exactCorr = none →
    k.main.needsFallback = false → k.main.settled = true → (k.lane = [] ∨ k.corr.isSome = true) →
    ∃ t, exec (.fallbackComplete n a) s = .next t ∧ (t.arr n a).waiting = [] ∧
      (t.cores.get n).jobs = (s.cores.get n).jobs.map (fun j => if j.flight == k.flight then { j with got := j.got ++
        [(k.pos, ({ k with exactCorr := some ((List.range 256).map ((s.arr n a).frontPlane.dot k.exact)) } : Strike).result, k.sx,
          (if (s.arr n a).frontPlane.synth then 0 else 8 * k.tsum), k.bounds)] } else j)) ∧
  (∀ (s : State) (n a : Nat) (k : Strike) (rest : List Strike), (s.arr n a).waiting = k :: rest →
    (k.complete = false → s.deliverAll n a = s) ∧
    (k.complete = true → ((s.deliverAll n a).arr n a).waiting.length ≤ rest.length))

/-- Group results and redundancy (R94, R95, R128-R131). -/
def Obligations.GroupResults : Prop :=
  (∀ (s : State) (n : Nat) (j : StrikeJob), (s.cores.get n).jobs.find? (fun j => j.got.length == (maskPositions j.mask).length) = some j →
    (s.cores.get n).paired = false →
    let c := s.cores.get n
    let els := (List.range 256).map (fun k => groupElem j.members (((memElems c.spm j.scale)[k]?).getD 0)
      (j.psum.map (fun o => typeVal o.type (((memElems c.spm o)[k]?).getD 0))) j.dst.type k)
    ∃ t, exec (.groupResultWrite n) s = .next t ∧ (t.cores.get n).spm = memSetElems c.spm j.dst 0 (els.map (·.1)) ∧
      (t.cores.get n).jobs = c.jobs.filter (fun x => x.flight != j.flight) ∧
      (t.cores.get n).flights = c.flights.filter (fun f => f.id != j.flight)) ∧
  (∀ (s : State) (n : Nat) (p q : GroupOut) (pr qr : List GroupOut), let c := s.cores.get n
    let d := s.cores.get c.partner
    let ok := (List.range 256).all (fun k => elemAgrees p.dst.type ((p.vals[k]?).getD 0) ((q.vals[k]?).getD 0)
      ((p.bounds[k]?).getD 0) ((q.bounds[k]?).getD 0))
    c.paired = true → c.primary = true → c.suspended = false → c.partner ≠ n → c.redOut = p :: pr → d.redOut = q :: qr →
    ∃ t, exec (.groupCompare n) s = .next t ∧ (t.cores.get n).redOut = pr ∧ (t.cores.get c.partner).redOut = qr ∧
      (t.cores.get n).spm = c.spm ∧
      (t.cores.get c.partner).spm = (if ok then memSetElems d.spm q.dst 0 p.vals else d.spm) ∧
      (ok = true → (t.cores.get n).red = c.red ∧ (t.cores.get n).redKind = c.redKind) ∧
      (ok = false → c.red = .replay → (t.cores.get n).red = .arbitrate ∧ (t.cores.get c.partner).red = .arbitrate) ∧
      (ok = false → c.red ≠ .replay → (t.cores.get n).redKind = some (c.redKind.getD false))) ∧
  (∀ (s : State) (n mp ms : Nat), let c := s.cores.get n
    c.paired = true → c.primary = true → c.red = .arbitrate →
    (mp = ms → ∃ t, exec (.arbitrationComplete n mp ms) s = .next t ∧ (t.cores.get n).suspended = true ∧ (t.cores.get n).red = .clean ∧
      (t.cores.get c.partner).suspended = true ∧ (t.cores.get c.partner).red = .clean) ∧
    (mp ≠ ms → let f := fun (c : Core) => { c with red := .clean, redKind := none, redOut := [] }
      let bad := if ms < mp then n else c.partner
      let good := if ms < mp then c.partner else n
      exec (.arbitrationComplete n mp ms) s = .next ((((s.updCore n f).updCore c.partner f).logEvent 0x3102
        [(1, c.inst.getD 0), (1, bad), (1, good), (2, max mp ms), (2, min mp ms)]).coreRetire bad 2 8 0 0)))

/-- Plane loads, tile checks and test reads (R98-R105, R121-R123). -/
def Obligations.PlaneLoads : Prop :=
  (∀ (s : State) (n a : Nat) (l : PlaneLoad), (List.range 13).any (fun b => (s.arr n b).loading) = false → (s.cores.get n).retired = false →
    s.nextLoad n = some (a, l) → s.partnerArr n a = none →
    ∃ t, exec (.planeLoadStart n a) s = .next t ∧ (t.arr n a).loading = true ∧
      (t.arr n a).loads = l :: (s.arr n a).loads.filter (fun y => y.flight != l.flight) ∧ (t.arr n a).backPlane.loaded = false ∧
      (t.arr n a).frontPlane = (s.arr n a).frontPlane) ∧
  (∀ (s : State) (n a : Nat) (l : PlaneLoad) (r : List PlaneLoad), (s.arr n a).loading = true → (s.arr n a).loads = l :: r → l.rows < 512 →
    s.partnerArr n a = none →
    let row := match l.src with
      | some b => (s.cores.get n).spm.bytes (b + 128 * l.rows) 128
      | none => List.replicate 128 0
    (∃ t, exec (.planeRowWritten n a true) s = .next t ∧ (t.arr n a).loads = { l with rows := l.rows + 1, attempts := 0 } :: r ∧
      (t.arr n a).backPlane.data = (s.arr n a).backPlane.data.store (128 * l.rows) row ∧ (t.arr n a).frontPlane = (s.arr n a).frontPlane) ∧
    (l.attempts < 3 → ∃ t, exec (.planeRowWritten n a false) s = .next t ∧
      (t.arr n a).loads = { l with attempts := l.attempts + 1 } :: r ∧ (t.arr n a).backPlane = (s.arr n a).backPlane)) ∧
  (∀ (s : State) (n a : Nat) (l : PlaneLoad) (r : List PlaneLoad), (s.arr n a).loading = true → (s.arr n a).loads = l :: r → 512 ≤ l.rows →
    s.partnerArr n a = none →
    ∃ t, exec (.planeLoadComplete n a) s = .next t ∧ (t.arr n a).loads = r ∧ (t.arr n a).loading = false ∧
      (t.arr n a).backPlane.loaded = true ∧ (t.cores.get n).flights = (s.cores.get n).flights.filter (fun f => f.id != l.flight)) ∧
  (∀ (s : State) (n a : Nat) (c : TileCheck), (s.arr n a).check = some c → (s.cals.get n).checkOnly = false → (s.arr n a).driftN + 1 < 1024 →
    ∃ t, exec (.tileCheckComplete n a) s = .next t ∧ (t.arr n a).check = none ∧ (t.arr n a).driftN = (s.arr n a).driftN + 1) ∧
  (∀ (s : State) (n a pl r : Nat), (s.arr n a).testPending = some (pl, r) →
    ∃ t, exec (.arrayTestReadDone n a) s = .next t ∧ (t.arr n a).testPending = none ∧ (t.arr n a).testDone = true ∧
      (t.arr n a).testRow = (if pl = 0 then (s.arr n a).plane0 else (s.arr n a).plane1).data.bytes (128 * r) 128)

/-- Calibration turns (Table 6-2). -/
def Obligations.CalibrationTurns : Prop :=
  (∀ (s : State) (n : Nat), let c := s.cals.get n
    c.state = 0 → (s.cores.get n).retired = false → s.spareHeld n = false →
    (∀ a, c.front.find? (fun a => !(s.arr n a).retired) = some a →
      ∃ t, exec (.calTurnDue n) s = .next t ∧ TurnBegins s t n a { c with front := c.front.filter (· != a) }) ∧
    (∀ k, c.front.find? (fun a => !(s.arr n a).retired) = none → k < 13 → (s.arr n ((c.next + k) % 13)).retired = false →
      (∀ j, j < k → (s.arr n ((c.next + j) % 13)).retired = true) →
      ∃ t, exec (.calTurnDue n) s = .next t ∧ TurnBegins s t n ((c.next + k) % 13) { c with next := ((c.next + k) % 13 + 1) % 13 })) ∧
  (∀ (s : State) (n : Nat), (s.cals.get n).state = 0 → (s.cores.get n).retired = false → s.spareHeld n = true →
    exec (.calTurnDue n) s = .next ((s.updCal n (fun c => { c with due := s.time + 100000000 })).count (Reg.CAL_DEFER n))) ∧
  (∀ (s : State) (n : Nat), let c := s.cals.get n; let x := s.arr n (if c.target = 12 then c.source else c.target)
    c.state = 1 →
    ∃ t, exec (.spareArrayReady n true true) s = .next t ∧ (t.arr n 12).frontPlane = x.frontPlane ∧
      (t.arr n 12).backPlane = x.backPlane ∧ (t.cals.get n).state = (if c.target = 12 then 4 else 2) ∧ (t.cals.get n).target = c.target) ∧
  (∀ (s : State) (n : Nat) (f b : Bool), (s.cals.get n).state = 1 → (s.cals.get n).again = 0 → (f && b) = false →
    ∃ t, exec (.spareArrayReady n f b) s = .next t ∧
      t.cals.get n = { s.cals.get n with again := (if f then 0 else 1) + (if b then 0 else 2) } ∧ t.arrays = s.arrays) ∧
  (∀ (s : State) (n b : Nat) (codes : List Int) (conv : List (List Nat)) (overs : List (Nat × Nat)), let c := s.cals.get n
    (c.state = 3 ∨ c.state = 4) → c.cmp = some (b, codes) →
    ∃ t, exec (.calComparisonComplete n conv overs) s = .next t ∧
      t.arr n c.target = (s.arr n c.target).compared b codes conv overs ∧
      t.cals.get n = { c with cmp := none, comps := c.comps + 1, state := if 4096 ≤ c.comps + 1 then 5 else c.state }) ∧
  (∀ (s : State) (n : Nat), let c := s.cals.get n; (c.state = 3 ∨ c.state = 4) →
    ∃ t, exec (.calTurnLimit n) s = .next t ∧ t.arrays = s.arrays ∧ (t.cals.get n).target = c.target ∧
      (1024 ≤ c.comps → t.cals.get n = { c with state := 5, cmp := none }) ∧
      (c.comps < 1024 → (t.cals.get n).state = (if c.state = 3 then 6 else 0) ∧ (t.cals.get n).comps = 0)) ∧
  (∀ (s : State) (n : Nat), let c := s.cals.get n; let x := s.arr n c.target; let r := fitAll x.fit x.coef
    c.state = 5 →
    (r.2.1 ≤ 8 → c.target ≠ 12 → ∃ t, exec (.calFitComplete n) s = .next t ∧
      t.arr n c.target = { x with fitted := some r, fit := {}, checkOnly := false } ∧ t.cals.get n = { c with state := 6 }) ∧
    (r.2.1 ≤ 8 → c.target = 12 → ∃ t, exec (.calFitComplete n) s = .next t ∧ (t.arr n 12).coef = r.1 ∧
      (t.arr n 12).fitted = none ∧ t.cals.get n = { c with state := 0, comps := 0 } ∧
      (r.2.1 = 0 → (t.arr n 12).calTime = s.time ∧ (t.arr n 12).factory = false)) ∧
    (8 < r.2.1 → ∃ u : State, exec (.calFitComplete n) s = .next (u.arrayRetire n c.target 2) ∧ u.arrays = s.arrays ∧ u.cals = s.cals))

/-- The stores of coefficients and of security records (R192-R198, R610). -/
def Obligations.StoredRecords : Prop :=
  (∀ (s : State) (n a : Nat) (p : Port), n < s.fuses.grade → a ≤ 12 → (s.arr n a).retired = false → a ∉ (s.cals.get n).front →
    ((s.cals.get n).state = 0 ∨ (s.cals.get n).target ≠ a) →
    exec (.calPrioritise n a p) s = .next (s.updCal n (fun c => { c with front := c.front ++ [a] }))) ∧
  (∀ (s : State) (n : Nat) (p : Port), n < s.fuses.grade →
    ∃ t, exec (.calSave n p) s = .next t ∧ t.arrays = s.arrays ∧
      (∃ l, (t.calStores.get (s.calDie n)).queue = (s.calStores.get (s.calDie n)).queue ++ l) ∧
      ∀ a, a < 13 → s.calDiffers n a (s.arr n a).coef 1 1 = true → ∃ h, (16 * n + a, h) ∈ (t.calStores.get (s.calDie n)).queue) ∧
  (∀ s : State, ∃ t, exec .hourlySave s = .next t ∧ t.arrays = s.arrays ∧ ∀ d, d < 2 → (t.calStores.get d).dropped = [] ∧
    ∀ n a, n < s.fuses.grade → a < 13 → s.calDie n = d →
      (s.calDiffers n a (s.arr n a).coef 1 1 = true ∨ 16 * n + a ∈ (s.calStores.get d).dropped) →
      16 * n + a ∈ (t.calStores.get d).hourly ∧ ∃ h, (16 * n + a, h) ∈ (t.calStores.get d).queue) ∧
  (∀ (s : State) (d n a k : Nat) (h : Bool), let st := s.calStores.get d
    a < 16 → st.queue.find? (fun q => !q.2) = some (16 * n + a, h) → st.freeSlot = some k →
    (∃ t, exec (.calRecordWriteComplete d true) s = .next t ∧
      (t.calStores.get d).slots.get k = ({ key := some (s.calKey n a), seq := st.seq + 1, temp := (s.cals.get n).temp, checkOnly := (s.arr n a).checkOnly, coef := (s.arr n a).coef } : CalSlot) ∧
      (∀ j, j ≠ k → ((t.calStores.get d).slots.get j).key ≠ some (s.calKey n a)) ∧
      (t.calStores.get d).seq = st.seq + 1 ∧ (t.calStores.get d).nextSlot = (k + 1) % 1197 ∧ (t.calStores.get d).fails = 0 ∧
      (t.calStores.get d).queue = st.queue.filter (fun q => q.1 != 16 * n + a) ∧
      t.arr n a = { s.arr n a with lastSaved := some s.time }) ∧
    (∃ t, exec (.calRecordWriteComplete d false) s = .next t ∧ ((t.calStores.get d).slots.get k).bad = true ∧
      t.arrays = s.arrays ∧
      (st.fails < 2 → (t.calStores.get d).queue = st.queue ∧ (t.calStores.get d).fails = st.fails + 1) ∧
      (2 ≤ st.fails → (t.calStores.get d).queue = st.queue.filter (fun q => q.1 != 16 * n + a) ∧
        (t.calStores.get d).dropped = st.dropped ++ [16 * n + a]))) ∧
  (∀ (s : State) (d n a : Nat), ∃ t, exec (.saveHoldExpiry d n a) s = .next t ∧
    (t.calStores.get d).queue = (s.calStores.get d).queue.map (fun q => if q.1 = 16 * n + a then (q.1, false) else q) ∧
    (∀ e, e ≠ d → t.calStores.get e = s.calStores.get e) ∧ t.arrays = s.arrays) ∧
  (∀ (s : State) (d : Nat) (bad : List Nat), ∃ t, exec (.calPoolReadComplete d bad) s = .next t ∧
    (∀ k, k ∈ bad → k < 1197 → ((t.calStores.get d).slots.get k).key = none) ∧
    (∀ k, ((t.calStores.get d).slots.get k).bad = (((s.calStores.get d).slots.get k).bad && s.pwr.dawn == 6)) ∧
    ∀ n a, n < s.fuses.grade → a < 13 → s.calDie n = d → (s.arr n a).needsCoef = true →
      (t.arr n a).needsCoef = false ∧
      (∀ r, (t.calStores.get d).recordOf (s.calKey n a) = some r → (t.arr n a).coef = r.coef ∧
        (t.arr n a).checkOnly = r.checkOnly ∧ (t.arr n a).factory = false ∧ (t.arr n a).calTime = s.time) ∧
      ((t.calStores.get d).recordOf (s.calKey n a) = none → (t.arr n a).coef = {} ∧ (t.arr n a).factory = true ∧
        (t.arr n a).calTime = (s.time : Int) - 50000000000)) ∧
  (∀ (s : State) (r v : Nat), s.sec.writes.find? (fun w => w.1 == r) = some (r, v) →
    (∃ t, exec (.storeWriteComplete r true) s = .next t ∧ t.storeValue r = some v ∧ t.sec.writes = s.sec.writes.erase (r, v) ∧
      ∀ q, q ≠ r → t.storeValue q = s.storeValue q) ∧
    exec (.storeWriteComplete r false) s = .next s)

/-- Tile boundaries (R101-R103, R174, R190), test reads (R105), scratchpad access (R289) and the fatal record (R526). -/
def Obligations.TilesAndAccess : Prop :=
  (∀ (s : State) (n a : Nat), let x := s.arr n a; TileEnds s n a → (s.cals.get n).state = 0 → (s.cals.get n).checkOnly = false →
    ∃ t, exec (.tileBoundary n a) s = .next t ∧
      (x.swapPending = true → x.swapReady = true → (t.arr n a).frontPlane = { x.backPlane with loaded := false } ∧
        (t.arr n a).backPlane = x.frontPlane ∧ (t.arr n a).swapPending = false) ∧
      (x.swapPending = true → x.swapReady = false → t.arrays = s.arrays) ∧
      (x.swapPending = false → t.arrays = s.arrays) ∧
      (t.cals.get n).temp = (if s.thm.started && !(s.cals.get n).tempHold then (s.thm.nodes.get (16 + s.clusterOf n)).sixteenths
        else (s.cals.get n).temp)) ∧
  (∀ (s : State) (n a : Nat), let x := s.arr n a; TileEnds s n a → x.swapPending = false → x.check = none → a ≠ 12 →
    (s.cals.get n).state = 2 → (s.cals.get n).target = a → s.loadDue n a = false →
    ∃ t, exec (.tileBoundary n a) s = .next t ∧ (t.cals.get n).state = 3 ∧ (t.cals.get n).yields = 0 ∧
      (t.arr n 12).stand = true ∧ (t.arr n 12).standReason = 1 ∧ (t.arr n 12).standPos = a ∧ (t.arr n 12).queue = x.queue ∧
      (t.arr n 12).loads = x.loads ∧ (t.arr n a).stand = true ∧ (t.arr n a).loads = []) ∧
  (∀ (s : State) (n a v : Nat), n < s.fuses.grade → a ≤ 12 →
    (s.testReadOk n a (s.debugOpen 2) = true → ∃ t, exec (.arrayTestRead n a v) s = .next t ∧ t.arr n a = { s.arr n a with
      testPending := some (bits v 16 16, bits v 8 0), testDone := false, testRefused := false }) ∧
    (s.testReadOk n a (s.debugOpen 2) = false → exec (.arrayTestRead n a v) s = .next ((s.updArr n a (fun x => { x with
      testDone := false, testRefused := true, testPending := none })).logEvent 0x6101 [(1, n), (1, a), (2, bits v 8 0)]))) ∧
  (∀ (s : State) (n v : Nat) (p : Port), n < s.fuses.grade → s.spmOpen n = true → 8 * bits v 20 3 < 0x180000 →
    ∃ t, exec (.spmAccAddrWrite n p v) s = .next t ∧ t.reg64 (Reg.SPM_ACC_DATA_LO n) = leNat ((s.cores.get n).spm.bytes (8 * bits v 20 3) 8) ∧
      t.regN (Reg.SPM_ACC_ADDR n) = 8 * bits v 20 3 ∧ (t.cores.get n).spm = (s.cores.get n).spm ∧ (t.cores.get n).accRefused = false) ∧
  (∀ (s : State) (n v : Nat) (p : Port), let o := s.regN (Reg.SPM_ACC_ADDR n)
    let w := s.heldPair p (Reg.SPM_ACC_DATA_LO n) v
    n < s.fuses.grade → s.spmOpen n = true → o % 8 = 0 → o < 0x180000 →
    ∃ t, exec (.spmAccDataHiWrite n p v) s = .next t ∧ t.reg64 (Reg.SPM_ACC_DATA_LO n) = w ∧
      (∀ k, k < 8 → (t.cores.get n).spm.get (o + k) = BitVec.ofNat 8 (w / 256 ^ k)) ∧
      (∀ b, b < o ∨ o + 8 ≤ b → (t.cores.get n).spm.get b = (s.cores.get n).spm.get b) ∧
      (t.cores.get n).poison.get (o / 8) = false) ∧
  (∀ (s : State) (n v : Nat) (p : Port), n < s.fuses.grade → s.spmOpen n = false →
    (∃ t, exec (.spmAccAddrWrite n p v) s = .next t ∧ (t.cores.get n).spm = (s.cores.get n).spm ∧ (t.cores.get n).accRefused = true) ∧
    ∃ t, exec (.spmAccDataHiWrite n p v) s = .next t ∧ (t.cores.get n).spm = (s.cores.get n).spm ∧ (t.cores.get n).accRefused = true) ∧
  (∀ (s : State) (v : Nat) (p : Port),
    (v = 0 → ∃ t, exec (.fatalCountWrite p v) s = .next t ∧ t.log.fatal = [] ∧ t.cores = s.cores ∧ t.out = s.out ∧
      ∀ off, off < Reg.FLT_FATAL 0 0 → t.reg off = s.reg off) ∧
    (v ≠ 0 → exec (.fatalCountWrite p v) s = .next s))

/-- The weight commands (R374-R386). -/
def Obligations.WeightCommands : Prop :=
  (∀ (s : State) (k : Nat) (p : Port), s.slotResident k = false → s.slotLoading k = false → (s.wslots.get k).state ≠ 1 →
    ∃ t, exec (.bind k p) s = .next t ∧ (t.wslots.get k).state = 1 ∧ (t.wslots.get k).src = s.reg64 (Reg.WLD_SRC_LO k) / 8 * 8 ∧
      (t.wslots.get k).len = s.reg64 (Reg.WLD_LEN_LO k) ∧ (∀ j, j ≠ k → t.wslots.get j = s.wslots.get j) ∧
      (∀ q, s.slotPort k = some q → t.out = s.out ++ [.hostRead q (s.reg64 (Reg.WLD_SRC_LO k) / 8 * 8) 256])) ∧
  (∀ (s : State) (k : Nat) (p : Port), (s.wslots.get k).state = 1 ∨ s.slotResident k = true ∨ s.slotLoading k = true →
    ∃ t, exec (.bind k p) s = .next t ∧ t.wslots.get k = { s.wslots.get k with lastStatus := 0x01, lastInst := 0 } ∧
      t.wloads = s.wloads ∧ t.winsts = s.winsts) ∧
  (∀ (s : State) (k : Nat) (p : Port), (s.wslots.get k).state = 2 → s.slotResident k = false → s.slotLoading k = false →
    (∀ i, i < 16 → s.hasInst i = true → (s.winsts.get i).current ≠ k) →
    ∃ t, exec (.unbind k p) s = .next t ∧ (t.wslots.get k).state = 0 ∧ (t.wslots.get k).lastStatus = 0 ∧ t.log = s.log ∧
      t.winsts = s.winsts ∧ ∀ j, j ≠ k → t.wslots.get j = s.wslots.get j) ∧
  (∀ (s : State) (k i : Nat) (p : Port), (s.wslots.get k).state = 2 → s.hasInst i = true → s.loadOf k i = none →
    (((s.winsts.get i).setOf k).isNone = true → s.loadChecks k i = none → s.wloads.length < 16 →
      exec (.load k i p) s = .next { s with wloads := s.wloads ++ [{ slot := k, inst := i, cause := 0 }] }) ∧
    (((s.winsts.get i).setOf k).isSome = true → ∃ t, exec (.load k i p) s = .next t ∧ t.wloads = s.wloads ∧
      t.winsts = s.winsts ∧ (t.wslots.get k).lastStatus = 0 ∧ (t.wslots.get k).lastInst = i) ∧
    (∀ st, ((s.winsts.get i).setOf k).isNone = true → s.loadChecks k i = some st → ∃ t, exec (.load k i p) s = .next t ∧
      t.wloads = s.wloads ∧ t.winsts = s.winsts ∧ (t.wslots.get k).lastStatus = st ∧ (t.wslots.get k).lastInst = i)) ∧
  (∀ (s : State) (k i : Nat) (p : Port), ((s.winsts.get i).setOf k).isSome = true →
    (s.setIdle i k = true → ∃ t, exec (.unload k i p) s = .next t ∧
      t.winsts.get i = { s.winsts.get i with sets := (s.winsts.get i).sets.filter (fun x => x.slot != k) } ∧
      (t.wslots.get k).lastStatus = 0 ∧ ∀ j, j ≠ i → t.winsts.get j = s.winsts.get j) ∧
    (s.setIdle i k = false → ∃ t, exec (.unload k i p) s = .next t ∧ t.winsts = s.winsts ∧ (t.wslots.get k).lastStatus = 0x01)) ∧
  (∀ (s : State) (k i : Nat) (n : Bool) (p : Port), s.hasInst i = true → ((s.winsts.get i).setOf k).isSome = true →
    (s.winsts.get i).pending = none → (n = false → (s.winsts.get i).draining = none ∧
      ∀ sh, (s.winsts.get i).shape = some sh → 2 ≤ sh.nsp) → (k ≠ (s.winsts.get i).current ∨ (s.winsts.get i).draining.isSome = true) →
    ∃ t, exec (.switch k i n p) s = .next t ∧ t.wslots = s.wslots ∧ t.wloads = s.wloads ∧
      t.winsts.get i = { s.winsts.get i with autoFailed := false, pending := some { slot := k, nextStep := n } } ∧
      ∀ j, j ≠ i → t.winsts.get j = s.winsts.get j) ∧
  (∀ (s : State) (k i : Nat) (p : Port) (l : WLoad) (rest : List WLoad), ((s.winsts.get i).setOf k).isSome = true → s.reloading i k = false →
    s.wloads = l :: rest →
    exec (.reload k i p) s = .next { s with wloads := if l.space.isSome then l :: { slot := k, inst := i, cause := 3 } :: rest
      else { slot := k, inst := i, cause := 3 } :: l :: rest })

/-- Fetches and loads (R373-R382). -/
def Obligations.WeightLoads : Prop :=
  (∀ (s : State) (k : Nat) (h : List Byte) (secs : List (List Byte)), (s.wslots.get k).state = 1 →
    (∀ p, checkPackage h secs (s.wslots.get k).len devMaxVocab = .ok p → ∃ t, exec (.bindFetchComplete k false h secs) s = .next t ∧
      (t.wslots.get k).state = 2 ∧ (t.wslots.get k).pkg = p ∧ (t.wslots.get k).lastStatus = 0) ∧
    (∀ st, checkPackage h secs (s.wslots.get k).len devMaxVocab = .error st → ∃ t, exec (.bindFetchComplete k false h secs) s = .next t ∧
      (t.wslots.get k).state = 0 ∧ (t.wslots.get k).lastStatus = st) ∧
    (∃ t, exec (.bindFetchComplete k true h secs) s = .next t ∧ (t.wslots.get k).state = 0 ∧ (t.wslots.get k).lastStatus = 0x08) ∧
    ∃ t, exec (.bindFetchTimeout k) s = .next t ∧ (t.wslots.get k).state = 0 ∧ (t.wslots.get k).lastStatus = 0x08) ∧
  (∀ (s : State) (l : WLoad) (rest : List WLoad), let n := s.loadSpaces (s.wslots.get l.slot).pkg l.inst
    s.wloads = l :: rest → l.space = none → l.cause ≠ 3 → (s.wslots.get l.slot).state = 2 → s.hasInst l.inst = true →
    s.loadChecks l.slot l.inst = none →
    (∀ q, q < n → q ∉ s.spacesUsed l.inst → (∀ j, j < q → j ∈ s.spacesUsed l.inst) →
      ∃ t, exec .loadQueueHead s = .next t ∧ t.wloads = { l with space := some q } :: rest ∧ t.winsts = s.winsts ∧
        ∀ p, s.slotPort l.slot = some p → t.out = s.out ++ [.hostRead p ((s.wslots.get l.slot).src + (s.wslots.get l.slot).pkg.dataOff) recordLen]) ∧
    (∀ x, (∀ j, j < n → j ∈ s.spacesUsed l.inst) → s.lruIdle l.inst = some x → (s.winsts.get l.inst).setOf x.slot = some x →
      ∃ t, exec .loadQueueHead s = .next t ∧ t.wloads = { l with space := some x.space } :: rest ∧
        (t.winsts.get l.inst).sets = (s.winsts.get l.inst).sets.filter (fun y => y.slot != x.slot))) ∧
  (∀ (s : State) (l : WLoad) (rest : List WLoad) (r : TileEnt) (q : Nat) (bytes plain : List Byte),
    let p := (s.wslots.get l.slot).pkg
    s.wloads = l :: rest → p.tiles[l.next]? = some r → l.space = some q → (s.wslots.get l.slot).stale = false →
    bytes.length = recordLen →
    (if p.keySlot = 0xFF then some bytes else (s.weightKeys.get p.keySlot).map (fun k => p.decryptRecord k l.next bytes)) = some plain →
    scalesOk ((p.mats[r.mat]?).getD {}) r.cb (plain.drop planeLen) (l.scales.get (65536 * r.mat + r.cb)) = true →
    (r.far = true → (s.farPort l.inst).isSome = true) →
    ∃ t l', exec (.tileRecordFetched false bytes none) s = .next t ∧ t.wloads = l' :: rest ∧ l'.next = l.next + 1 ∧
      l'.slot = l.slot ∧ l'.inst = l.inst ∧ l'.space = some q ∧
      (r.far = true → t.peds = s.peds) ∧
      (r.far = false → t.peds = (s.updPed (((s.planOf l.inst).stackList[r.pos]?).getD 0) (fun x => x.planWrite l.inst
        (((s.planOf l.inst).bases (((s.planOf l.inst).stackList[r.pos]?).getD 0)).w +
          q * ((s.winsts.get l.inst).shape.getD { s := p.spaceS, f := p.spaceF }).s + 64 * r.off) plain)).peds)) ∧
  (∀ (s : State) (l : WLoad) (rest : List WLoad) (r : TileEnt) (q : Nat) (bytes : List Byte) (fe : Option Bool),
    s.wloads = l :: rest → (s.wslots.get l.slot).pkg.tiles[l.next]? = some r → l.space = some q →
    ∃ t, exec (.tileRecordFetched true bytes fe) s = .next t ∧ t.peds = s.peds ∧
      t.wloads = s.wloads.filter (fun x => !(x.slot == l.slot && x.inst == l.inst && x.cause == l.cause))) ∧
  (∀ (s : State) (l : WLoad) (rest : List WLoad) (q : Nat), let p := (s.wslots.get l.slot).pkg
    s.wloads = l :: rest → l.space = some q → p.tiles.length ≤ l.next →
    ∃ t, exec .setLoadComplete s = .next t ∧ t.wloads = rest ∧ (t.wslots.get l.slot).ldig = l.dig.close p.canonLen ∧
      (t.wslots.get l.slot).lastStatus = 0 ∧
      (l.cause ≠ 3 → (t.winsts.get l.inst).sets = (s.winsts.get l.inst).sets ++ [{ slot := l.slot, space := q, stamp := s.time }] ∧
        (t.winsts.get l.inst).shape.isSome = true ∧ (t.winsts.get l.inst).current = (s.winsts.get l.inst).current) ∧
      (l.cause = 3 → (t.winsts.get l.inst).sets = ((s.winsts.get l.inst).updSet l.slot (fun x => { x with damaged := false, seen := {}, dig := {} })).sets)) ∧
  (∀ (s : State) (k i : Nat) (l : WLoad), s.loadOf k i = some l → l.cause ≠ 3 →
    ∃ t, exec (.loadTimeout k i) s = .next t ∧ (t.wslots.get k).lastStatus = 0x10 ∧
      t.wloads = s.wloads.filter (fun x => !(x.slot == l.slot && x.inst == l.inst && x.cause == l.cause)))

/-- R458. -/
def Obligations.RingEnable : Prop :=
  (∀ (s : State) (r v : Nat) (p : Port), bit (s.regN (Reg.SQ_CFG r)) 31 = false → bit v 31 = true →
    s.ringValid 6 16 v (Reg.SQ_BASE_LO r) = true →
    ∃ t, exec (.sqCfgWrite r p v) s = .next t ∧ bit (t.regN (Reg.SQ_CFG r)) 31 = true ∧ t.regN (Reg.SQ_HEAD r) = 0 ∧ t.regN (Reg.SQ_TAIL r) = 0) ∧
  (∀ (s : State) (r v : Nat) (p : Port), bit (s.regN (Reg.RQ_CFG r)) 31 = false → bit v 31 = true →
    s.ringValid 6 16 v (Reg.RQ_BASE_LO r) = true →
    ∃ t, exec (.rqCfgWrite r p v) s = .next t ∧ bit (t.regN (Reg.RQ_CFG r)) 31 = true ∧ t.regN (Reg.RQ_HEAD r) = 0 ∧ t.regN (Reg.RQ_TAIL r) = 0 ∧
      (t.recRings.get r).queue = (s.recRings.get r).queue) ∧
  (∀ (s : State) (v : Nat) (p : Port), bit (s.regN Reg.CMD_CFG) 31 = false → bit v 31 = true →
    s.ringValid 4 12 v Reg.CMD_BASE_LO = true →
    ∃ t, exec (.cmdCfgWrite p v) s = .next t ∧ bit (t.regN Reg.CMD_CFG) 31 = true ∧ t.regN Reg.CMD_HEAD = 0 ∧ t.regN Reg.CMD_TAIL = 0) ∧
  (∀ (s : State) (v : Nat) (p : Port), bit (s.regN Reg.EVR_CFG) 15 = false → bit v 15 = true →
    s.ringValid 6 16 v Reg.EVR_BASE_LO = true →
    ∃ t, exec (.evrCfgWrite p v) s = .next t ∧ bit (t.regN Reg.EVR_CFG) 15 = true ∧ t.regN Reg.EVR_HEAD = 0 ∧ t.regN Reg.EVR_TAIL = 0) ∧
  (∀ (s : State) (r v : Nat) (p : Port), bit (s.regN (Reg.RQ_CFG r)) 31 = true → bit v 31 = false →
    ∃ t, exec (.rqCfgWrite r p v) s = .next t ∧ bit (t.regN (Reg.RQ_CFG r)) 31 = false ∧
      (t.recRings.get r).queue = (s.recRings.get r).queue) ∧
  (∀ (s : State) (r : Nat) (b : List Byte) (q : List (List Byte)), bit (s.regN (Reg.RQ_CFG r)) 31 = true →
    (s.recRings.get r).queue = b :: q → (s.recRings.get r).inFlight = 0 → s.regN (Reg.RQ_HEAD r) = 0 → s.regN (Reg.RQ_TAIL r) = 0 →
    1 ≤ bits (s.regN (Reg.RQ_CFG r)) 4 0 → (s.ports.get (bits (s.regN (Reg.RQ_CFG r)) 8 8)).linkUp = true →
    ∃ t l, exec (.recordBatchWrite r) s = .next t ∧
      t.out = s.out ++ .hostWrite (bits (s.regN (Reg.RQ_CFG r)) 8 8) (s.reg64 (Reg.RQ_BASE_LO r) / 4096 * 4096) b :: l)

/-- Ring pointers and records (R395-R397, R419, R461, R462, R467). -/
def Obligations.RingsAndRecords : Prop :=
  (∀ (s : State) (r v : Nat) (p : Port), let n := 2 ^ bits (s.regN (Reg.SQ_CFG r)) 4 0
    let head := s.regN (Reg.SQ_HEAD r); let old := s.regN (Reg.SQ_TAIL r)
    bit (s.regN (Reg.SQ_CFG r)) 31 = true → v < 2 ^ 16 →
    (v < n → (v + n - old) % n ≤ (head + n - old - 1) % n → ∃ t, exec (.sqTailWrite r p v) s = .next t ∧ t.regN (Reg.SQ_TAIL r) = v ∧
      t.regN (Reg.SQ_HEAD r) = head ∧ ((s.subRings.get r).desc = none → (s.subRings.get r).reading = false → head ≠ v →
        (t.subRings.get r).reading = true ∧ t.out = s.out ++ [.hostRead (bits (s.regN (Reg.SQ_CFG r)) 8 8)
          (s.reg64 (Reg.SQ_BASE_LO r) / 4096 * 4096 + 128 * head) 128])) ∧
    (n ≤ v ∨ (head + n - old - 1) % n < (v + n - old) % n → exec (.sqTailWrite r p v) s = .next (s.logEvent 0x6902 [(1, 0), (1, r), (1, p.num)]))) ∧
  (∀ (s : State) (v : Nat) (p : Port), let n := 2 ^ bits (s.regN Reg.CMD_CFG) 4 0
    let head := s.regN Reg.CMD_HEAD; let old := s.regN Reg.CMD_TAIL
    bit (s.regN Reg.CMD_CFG) 31 = true → v < 2 ^ 12 → v < n → (v + n - old) % n ≤ (head + n - old - 1) % n →
    ∃ t, exec (.cmdTailWrite p v) s = .next t ∧ t.regN Reg.CMD_TAIL = v ∧ t.regN Reg.CMD_HEAD = head ∧
      (s.cmd.reading = false → s.cmd.inProgress.length < 64 → head ≠ v → t.cmd.reading = true)) ∧
  (∀ (s : State) (r v : Nat) (p : Port), ∃ t, exec (.rqHeadWrite r p v) s = .next t ∧ t = s.setRegN (Reg.RQ_HEAD r) (v % 2 ^ 16) ∧
    t.regN (Reg.RQ_HEAD r) = v % 2 ^ 16) ∧
  (∀ (s : State) (v : Nat) (p : Port), ∃ t, exec (.evrHeadWrite p v) s = .next t ∧ t = s.setRegN Reg.EVR_HEAD (v % 2 ^ 16) ∧
    t.regN Reg.EVR_HEAD = v % 2 ^ 16) ∧
  (∀ (s : State) (r : Nat), let cfg := s.regN (Reg.RQ_CFG r); let n := 2 ^ bits cfg 4 0; let tail := s.regN (Reg.RQ_TAIL r)
    let k := min ((s.regN (Reg.RQ_HEAD r) % n + n - tail - 1) % n) (s.recRings.get r).queue.length
    let addr := fun (j : Nat) => s.reg64 (Reg.RQ_BASE_LO r) / 4096 * 4096 + 32 * ((tail + j) % n)
    bit cfg 31 = true → (s.recRings.get r).inFlight = 0 → 0 < k → (s.ports.get (bits cfg 8 8)).linkUp = true →
    ∃ t, exec (.recordBatchWrite r) s = .next t ∧ (t.recRings.get r).inFlight = k ∧ (t.recRings.get r).queue = (s.recRings.get r).queue ∧
      t.regs = s.regs ∧
      t.out = s.out ++ ((s.recRings.get r).queue.take k).zipIdx.map (fun b => .hostWrite (bits cfg 8 8) (addr b.2) b.1) ++
        [.hostRead (bits cfg 8 8) (addr (k - 1)) 32]) ∧
  (∀ (s : State) (r : Nat), let k := (s.recRings.get r).inFlight; let n := 2 ^ bits (s.regN (Reg.RQ_CFG r)) 4 0
    k ≠ 0 → ∃ t l, exec (.recordReadbackComplete r) s = .next t ∧ t.regN (Reg.RQ_TAIL r) = (s.regN (Reg.RQ_TAIL r) + k) % n ∧
      (t.recRings.get r).inFlight = 0 ∧ (t.recRings.get r).queue = (s.recRings.get r).queue.drop k ++ l)

/-- Requests at the ring heads (R397, R399, R403, R412). -/
def Obligations.Requests : Prop :=
  (∀ (s : State) (r : Nat) (bs : List Byte), r < 4 → (s.subRings.get r).reading = true →
    ∃ t, exec (.requestDescriptor r true bs) s = .next t ∧ bit (t.regN (Reg.SQ_CFG r)) 31 = false ∧
      (t.subRings.get r).fetchError = true ∧ (t.subRings.get r).desc = none ∧ t.regN (Reg.SQ_HEAD r) = s.regN (Reg.SQ_HEAD r)) ∧
  (∀ (s : State) (r : Nat) (bs : List Byte), let d := parseDesc bs (bits (s.regN (Reg.SQ_CFG r)) 8 8)
    let u : State := { s with subRings := s.subRings.upd r (fun x => { x with
      desc := some d, raw := bs, reading := false, shape := descShapeOk bs, sampling := samplingOk bs }) }
    r < 4 → (s.subRings.get r).reading = true → s.pwr.shutting = false →
    (descShapeOk bs = true → u.checkRequest r d (samplingOk bs) = (u, .pass) →
      ∃ t, exec (.requestDescriptor r false bs) s = .next t ∧ (t.subRings.get r).desc = some d ∧ (t.subRings.get r).raw = bs ∧
        (t.subRings.get r).ready = true ∧ (t.subRings.get r).reading = false ∧ t.regs = s.regs ∧ t.seqs = s.seqs) ∧
    (descShapeOk bs = false → s.entryFree (headRing r d) = true →
      ∃ t, exec (.requestDescriptor r false bs) s = .next t ∧ HeadAdvanced s t r ∧ t.seqs = s.seqs ∧
        (t.recRings.get (headRing r d)).queue = (s.recRings.get (headRing r d)).queue ++
          [recordBytes d.tag 0x0C [] 0 (s.insts.get d.inst).stepsSeal])) ∧
  (∀ (s : State) (r : Nat) (d : Desc) (toks : List Nat), r < 4 → (s.subRings.get r).desc = some d → (s.subRings.get r).listWait = true →
    (∀ u : State, u = { s with subRings := s.subRings.upd r (fun x => { x with listWait := false, list := toks }) } → s.pwr.shutting = false → (s.subRings.get r).shape = true → u.checkRequest r d (s.subRings.get r).sampling = (u, .pass) →
      ∃ t, exec (.listFetchComplete r false toks) s = .next t ∧ (t.subRings.get r).list = toks ∧ (t.subRings.get r).listWait = false ∧
        (t.subRings.get r).ready = true ∧ (t.subRings.get r).desc = some d) ∧
    (s.entryFree (headRing r d) = true → ∃ t, exec (.listFetchComplete r true toks) s = .next t ∧ HeadAdvanced s t r ∧ t.seqs = s.seqs ∧
      (t.recRings.get (headRing r d)).queue = (s.recRings.get (headRing r d)).queue ++
        [recordBytes d.tag 0x0C [] 0 (s.insts.get d.inst).stepsSeal])) ∧
  (∀ (s : State) (r q : Nat) (d : Desc), r < 4 → SlotsInRange s → (s.subRings.get r).desc = some d → (s.subRings.get r).shape = true → s.pwr.shutting = false →
    s.checkRequest r d (s.subRings.get r).sampling = (s, .pass) → s.freeSlot d.inst = some q → s.heldSeal.get d.inst = false →
    (s.insts.get d.inst).heldCmd = false → s.entryFree d.ring = true →
    ∃ t, exec (.requestAccepted r) s = .next t ∧ HeadAdvanced s t r ∧ (t.seq d.inst q).state = .waiting ∧ (t.seq d.inst q).entry = true ∧
      (t.seq d.inst q).desc.tag = d.tag ∧ (t.seq d.inst q).len = 16 * ((s.pfxLen d + 15) / 16) ∧ (t.seq d.inst q).accepted = s.time) ∧
  (∀ (s : State) (i q : Nat) (toks : List Nat), (s.seq i q).chunk = .fetching →
    (toks.length = s.chunkLen i (s.seq i q) → exec (.promptChunkFetch i q false toks) s = .next (s.updSeq i q (fun y => { y with chunk := .ready toks }))) ∧
    exec (.promptChunkFetch i q true toks) s = .next (s.updSeq i q (fun y => { y with chunk := .failed })))

/-- Scheduler commands, deadlines and stalls (R403, R416, R422-R425). -/
def Obligations.SchedulerCommands : Prop :=
  (∀ (s : State) (p : Port) (i q : Nat), let x := s.seq i q
    (x.state ≠ .free → x.state ≠ .retiring → ∃ t, exec (.evict p i q) s = .next t ∧ t.schStatus = 0 ∧ t.schCmd = 1 ∧
      (s.isDraft i = false → x.inStep = true → x.recorded = false → (t.seq i q).state = x.state ∧ (t.seq i q).due = some 6) ∧
      (s.isDraft i = false → (x.inStep = false ∨ x.recorded = true) → (t.seq i q).state = .retiring ∧ (t.seq i q).due = some 6) ∧
      (s.isDraft i = true → (t.seq i q).state = .retiring)) ∧
    (x.state = .free ∨ x.state = .retiring → ∃ t, exec (.evict p i q) s = .next t ∧ t.schStatus = 1 ∧ t.seqs = s.seqs)) ∧
  (∀ (s : State) (p : Port) (i : Nat), s.hasInst i = true → ∃ t, exec (.evictAll p i) s = .next t ∧ t.schStatus = 0 ∧
    ∀ q, q ∈ s.residents i → (t.seq i q).state = .retiring ∨ ((t.seq i q).inStep = true ∧ (t.seq i q).due = some 6)) ∧
  (∀ (s : State) (p : Port) (i : Nat), s.hasInst i = true → ∃ t, exec (.hold p i) s = .next t ∧ t.schStatus = 0 ∧ t.schCmd = 3 ∧
    t.insts.get i = { s.insts.get i with heldCmd := true } ∧ t.seqs = s.seqs ∧ ∀ j, j ≠ i → t.insts.get j = s.insts.get j) ∧
  (∀ (s : State) (p : Port) (i : Nat), (s.insts.get i).heldCmd = true → ∃ t, exec (.release p i) s = .next t ∧ t.schStatus = 0 ∧
    t.schCmd = 4 ∧ t.insts.get i = { s.insts.get i with heldCmd := false } ∧ t.heldSeal = s.heldSeal ∧
    ∀ j, j ≠ i → t.insts.get j = s.insts.get j) ∧
  (∀ (s : State) (i q : Nat), let x := s.seq i q
    x.state ≠ .free → x.state ≠ .retiring → x.desc.deadline.isSome = true → s.isDraft i = false →
    ∃ t, exec (.deadlinePassed i q) s = .next t ∧
      (x.inStep = true → x.recorded = false → (t.seq i q).state = x.state ∧ (t.seq i q).due = (if x.due = some 6 then some 6 else some 4)) ∧
      (x.inStep = false ∨ x.recorded = true → (t.seq i q).state = .retiring ∧ (t.seq i q).due = some 4)) ∧
  (∀ (s : State) (i : Nat), (s.insts.get i).state = 1 → (s.insts.get i).ended = false → s.hasInst i = true →
    s.regN Reg.SCH_STEP_LIMIT ≠ 0 → ∃ t, exec (.stepLimitExpiry i) s = .next t ∧ (t.insts.get i).state = 3 ∧
      (t.insts.get i).stallCause = 3 ∧ (t.insts.get i).ents = [] ∧ ∀ q, q ∈ s.residents i → (t.seq i q).state = .free)

/-- Steps (R351, R357, R411, R414) and sampler rows (R428, R429, R433). -/
def Obligations.StepsAndRows : Prop :=
  (∀ (s : State) (i : Nat) (delayed : Bool), (s.insts.get i).state = 2 → (s.insts.get i).ents ≠ [] → s.canBegin i = true →
    (∀ d, s.draftOf i = some d → (s.insts.get d).draftStep = 0) →
    ∃ t, exec (.stepStart i delayed) s = .next t ∧ (t.insts.get i).state = 1 ∧
      (t.insts.get i).stepsSeal = (s.insts.get i).stepsSeal + 1 ∧ (t.insts.get i).started = s.time ∧ (t.insts.get i).ended = false ∧
      (t.insts.get i).closed = {} ∧ (t.insts.get i).ents = (s.insts.get i).ents ∧ ∀ j, j ≠ i → t.insts.get j = s.insts.get j) ∧
  (∀ (s : State) (i : Nat), s.hasInst i = true → (s.isDraft i = false ∨ (s.insts.get i).draftStep = 0) →
    (((s.insts.get i).state = 0 ∨ (s.insts.get i).state = 3 ∨ ((s.insts.get i).state = 1 ∧ (s.insts.get i).ended = true)) →
      exec (.stepBoundary i) s = .next (s.boundary i)) ∧
    (((s.insts.get i).state = 2 ∨ ((s.insts.get i).state = 1 ∧ (s.insts.get i).ended = false)) → exec (.stepBoundary i) s = .next s)) ∧
  (∀ (s : State) (i e : Nat) (ent : StepEnt), let x := s.seq i ent.slot; let y := (s.commitOne i e ent).seq i ent.slot
    x.inStep = true → x.state ≠ .free → (∀ d dq, s.draftOf i = some d → x.draftSlot = some dq → seqKey d dq ≠ seqKey i ent.slot) →
    y.len = (if ent.kind = 2 then ent.l0 + 1 + x.acc else ent.l0 + ent.rows) ∧ y.emitted = x.emitted + x.out.length ∧ y.inStep = false) ∧
  (∀ (s : State) (n f i : Nat) (h : Handoff) (r : StepRow), let row := h.row + h.taken; let old := s.smpRows.get (seqKey i row)
    s.handoffs.find? (fun h => h.core == n && h.flight == f) = some h → (s.cores.get n).inst = some i → h.core = n →
    (s.insts.get i).state = 1 → (s.insts.get i).ended = false → (s.insts.get i).rows[row]? = some r → h.vocab + h.o.count ≤ s.vocabOf i →
    (r.sample = true → ((s.seq i ((((s.insts.get i).ents[r.entry]?).map (·.slot)).getD 0)).rows.get r.j).done = false →
      (∀ x, x ∈ old.slices → x.1 + x.2.length ≤ h.vocab ∨ h.vocab + h.o.count ≤ x.1) →
      s.bufferUsed (r.entry % 4) + 4 * s.vocabOf i ≤ 2 ^ 23 →
      ∃ t xs, exec (.handoffSlice n f) s = .next t ∧ xs.length = h.o.count ∧ (t.smpRows.get (seqKey i row)).slices = old.slices ++ [(h.vocab, xs)]) ∧
    (r.sample = false → ∃ t, exec (.handoffSlice n f) s = .next t ∧ t.smpRows = s.smpRows)) ∧
  (∀ (s : State) (i row m q : Nat) (r : StepRow), let slot := (((s.insts.get i).ents[r.entry]?).map (·.slot)).getD 0
    let n := if s.isDraft i then (s.seq m q).drafts.length else r.j
    (s.insts.get i).rows[row]? = some r → s.rowOwner i slot = some (m, q) → (s.insts.get i).state = 1 → r.sample = true →
    (s.smpRows.get (seqKey i row)).slices ≠ [] → s.vocabOf i ≤ (s.smpRows.get (seqKey i row)).count →
    ((∃ f, s.rowAllowed (s.seq m q) n = .inl (some f)) ∨ ∃ k, s.rowAllowed (s.seq m q) n = .inr k) →
    ∃ t, exec (.sampleRowComplete i row) s = .next t ∧ ((t.seq i slot).rows.get r.j).done = true ∧ t.smpRows.get (seqKey i row) = {})

/-- Replica groups (R501-R503). -/
def Obligations.ReplicaRounds : Prop :=
  (∀ (s : State) (port g i : Nat) (c v : Bool) (hl n r j mid crc m : Nat) (hash : BitVec 384),
    let d : Digest := { group := g, inst := i, complete := c, voting := v, hopsLeft := hl, interval := n, round := r, join := j, modelId := mid,
                        digest := { c := crc, m := m }, hash := hash }
    ((s.icp port).up = true → s.digests.any (fun x => x.same d) = false →
      ∃ t, exec (.digest port g i c v hl n r j mid crc m hash) s = .next t ∧ { d with rev := (s.icp port).rev } ∈ t.digests) ∧
    ((s.icp port).up = false ∨ s.digests.any (fun x => x.same d) = true →
      exec (.digest port g i c v hl n r j mid crc m hash) s = .next s)) ∧
  (∀ (s : State) (i : Nat),
    (∀ r, (s.replicas.get i).awaiting = some r → ∃ t, exec (.digestEvaluationTimeout i) s = .next t ∧ (t.replicas.get i).awaiting = none ∧
      ∀ k, k ≠ i → t.replicas.get k = s.replicas.get k) ∧
    ((s.replicas.get i).awaiting = none → exec (.digestEvaluationTimeout i) s = .next s)) ∧
  (∀ (s : State) (i g r : Nat) (own : Digest) (vs : List Digest),
    (vs.length ≤ 1 → ((s.voteOutcome i g r own vs).replicas.get i).result = 5) ∧
    (∀ a b, vs = [a, b] → a.digest = own.digest → b.digest = own.digest → ((s.voteOutcome i g r own vs).replicas.get i).result = 1) ∧
    (∀ m, 3 ≤ vs.length → m ∈ vs → vs.length < 2 * (vs.filter (fun x => x.digest == m.digest)).length → own.digest ≠ m.digest →
      ((s.voteOutcome i g r own vs).replicas.get i).expelled = true ∧ ((s.voteOutcome i g r own vs).insts.get i).expelDue = true) ∧
    (3 ≤ vs.length → (∀ m, m ∈ vs → m.digest = own.digest) → ((s.voteOutcome i g r own vs).replicas.get i).result = 1))

/-- Precision windows (R159), array takeovers (R510) and two ring commands (R464, R331). -/
def Obligations.FormatsAndTakeovers : Prop :=
  (∀ (s : State) (i l : Nat), let f := s.fmts.get (fmtKey i l)
    s.hasInst i = true → s.sealedWide i l = false → s.satMetric i = false →
    (65536 ≤ f.win.checks → 0 < f.win.conv → ∃ t, exec (.layerPassComplete i l) s = .next t ∧
      (t.fmts.get (fmtKey i l)).metric = f.win.mism * 10 ^ 6 / f.win.checks ∧
      (t.fmts.get (fmtKey i l)).evals = satAdd 32 f.evals 1 ∧ (t.fmts.get (fmtKey i l)).win = {} ∧
      (t.fmts.get (fmtKey i l)).steps = 0 ∧ ∀ k, k ≠ fmtKey i l → t.fmts.get k = s.fmts.get k) ∧
    (f.win.checks < 65536 → f.steps < 1023 → ∃ t, exec (.layerPassComplete i l) s = .next t ∧
      t.fmts.get (fmtKey i l) = { f with steps := f.steps + 1 } ∧ ∀ k, k ≠ fmtKey i l → t.fmts.get k = s.fmts.get k)) ∧
  (∀ (s : State) (i : Nat) (p : Port), ∃ t, exec (.resetFallback i p) s = .next t ∧
    (s.hasInst i = true → t.fmtResets.get i = s.fmtResets.get i ++ [p.num] ∧
      ∀ k, (t.fmts.get k).wide = (s.fmts.get k).wide ∧ (t.fmts.get k).halved = (s.fmts.get k).halved) ∧
    (s.hasInst i = false → t.fmtResets = s.fmtResets ∧ t.fmts = s.fmts)) ∧
  (∀ (s : State) (n : Nat) (k : ArrTakeover), let x := s.arr n k.pos
    s.arrTakeovers.find? (·.core == n) = some k → k.front = false → k.pos < 12 →
    (∃ t, exec (.frontPlaneReady n true) s = .next t ∧ (t.arr n 12).stand = true ∧ (t.arr n 12).standReason = 2 ∧
      (t.arr n 12).standPos = k.pos ∧
      (let y := t.arr n 12; (if y.front = 0 then y.plane0 else y.plane1).data = (if x.front = 0 then x.plane0 else x.plane1).data)) ∧
    (k.again = false → exec (.frontPlaneReady n false) s = .next
      { s with arrTakeovers := s.arrTakeovers.map (fun z => if z.core == n then { z with again := true } else z) })) ∧
  (∀ (s : State) (n : Nat) (k : ArrTakeover), let x := s.arr n k.pos
    s.arrTakeovers.find? (·.core == n) = some k → k.front = true → (s.arr n 12).loads.any (·.first) = false →
    ∃ t, exec (.backPlaneReady n true) s = .next t ∧ t.arrTakeovers = s.arrTakeovers.filter (fun z => z.core != n) ∧
      (let y := t.arr n 12; (if y.front = 0 then y.plane1 else y.plane0) = (if x.front = 0 then x.plane1 else x.plane0))) ∧
  (∀ (s : State) (time : Nat), exec (.wakeHint time) s = .next { s with pwr := { s.pwr with hint := some time } }) ∧
  (∀ (s : State) (i p base : Nat) (valid : Bool), i < 16 → s.farBusy i = false →
    ∃ t, exec (.farTier i p valid base) s = .next t ∧ (t.farValid i = valid))

/-- The housekeeping converter (R571-R578) and the end of a round (R590). -/
def Obligations.HousekeepingConverter : Prop :=
  (∀ (s : State) (k : Nat) (code : Int), let x := s.hka.slices.get k
    k < 4 → 4 ≤ s.pwr.dawn → s.clk.refLost = false → (s.domains.get 18).state ≠ 3 → s.hka.role = 0 → x.retired = false →
    (x.inj = none → x.done < 13 → ∃ t, exec (.conversionSlot k code false) s = .next t ∧
      (t.hka.chans.get (4 * x.done + k)).raw = x.correct code ∧ (t.hka.chans.get (4 * x.done + k)).slice = k ∧
      (t.hka.chans.get (4 * x.done + k)).val = s.chanValue (4 * x.done + k) (x.correct code) ∧
      (t.hka.chans.get (4 * x.done + k)).reg = some ((t.hka.chans.get (4 * x.done + k)).val, x.correct code) ∧
      (t.hka.slices.get k).done = x.done + 1 ∧ ∀ c, c ≠ 4 * x.done + k → t.hka.chans.get c = s.hka.chans.get c) ∧
    (∀ j, x.inj = some j → j < 8 → ∃ t, exec (.conversionSlot k code false) s = .next t ∧
      (t.hka.chans.get (bits (s.injReg j) 29 24)).raw = x.correct code ∧ (t.hka.slices.get k).done = x.done ∧
      ∀ c, (t.hka.chans.get c).reg = (s.hka.chans.get c).reg)) ∧
  (∀ (s : State) (k : Nat), k ≤ 4 → 4 ≤ s.pwr.dawn → s.clk.refLost = false → (s.hka.slices.get k).retired = false →
    ∃ t, exec (.slotTimeout k) s = .next t ∧ (t.hka.slices.get k).retired = true ∧ (t.hka.slices.get k).cause = 1 ∧
      (k < 4 → s.hka.role = 0 → t.hka.role = 3 ∧ t.hka.spareFor = k) ∧ (k = 4 → t.hka.role = 4) ∧
      ∀ j, j ≠ k → t.hka.slices.get j = s.hka.slices.get j) ∧
  (∀ (s : State) (p : Port) (v : Nat), ∃ t, exec (.hkaInjTrigWrite p v) s = .next t ∧
    (∀ j, j < 8 → bit v j = false → bit t.hka.held j = bit s.hka.held j) ∧
    (∀ j, j < 8 → bit v j = true → bit (s.injReg j) 31 = true → bit (s.injReg j) 4 = true →
      bit s.hka.pend j = false → (s.hka.slices.get (s.injSlice j)).inj ≠ some j → bit s.hka.conv j = true →
      (∀ i, i < 8 → i ≠ j → bit v i = false) → bit t.hka.held j = true ∧ t.hka.pend = s.hka.pend)) ∧
  (∀ (s : State), bit (s.regN Reg.HKA_CTL) 1 = true → s.hka.role = 0 → s.roundStart = true →
    (s.hka.slices.get 4).retired = false → 4 ≤ s.pwr.dawn → s.hka.visitNext < 5 →
    (s.hka.slices.get s.hka.visitNext).retired = false →
    ∃ t, exec .spareVisitStart s = .next t ∧ t.hka.role = 1 ∧ t.hka.spareFor = s.hka.visitNext ∧ t.hka.visitRound = 0 ∧
      t.hka.visitNext = (s.hka.visitNext + 1) % 5 ∧ t.hka.slices = s.hka.slices ∧ t.hka.chans = s.hka.chans) ∧
  (∀ (s : State) (cs vs sr fr ls : List Nat) (ppm : Int), 4 ≤ s.pwr.dawn → s.clk.refLost = false → (s.domains.get 18).state ≠ 3 →
    s.roundDone = true → ∃ t, exec (.roundEnd cs vs sr fr ls ppm) s = .next t ∧ (∀ k, (t.hka.slices.get k).done = 0) ∧
      t.hka.held = 0 ∧ t.hka.conv = 0 ∧ t.clk.oscPpm = ppm)

/-- Prefix slots (R366, Table 12-8). -/
def Obligations.PrefixSlots : Prop :=
  (∀ (s : State) (k i : Nat) (p : Port), let x := s.prefixes.get k; let len := s.regF (Reg.PFX_LEN k) 10 0
    let fs := s.freePfxFrames i ((len + 15) / 16)
    s.hasPrefixes = true →
    (x.state = .empty → s.hasInst i = true → 1 ≤ len → len ≤ 1024 → (len + 15) / 16 ≤ fs.length →
      ∃ t, exec (.pfxLoad k p i) s = .next t ∧ (t.prefixes.get k).state = .loading ∧ (t.prefixes.get k).inst = i ∧
        (t.prefixes.get k).len = len ∧ (t.prefixes.get k).frames = fs ∧ fs.length = (len + 15) / 16 ∧ (t.prefixes.get k).refs = 0 ∧
        (∀ f, f ∈ fs → (t.kvPools.get i).pfxUsed.get f = true) ∧ ∀ j, j ≠ k → t.prefixes.get j = s.prefixes.get j) ∧
    (x.state ≠ .empty → ∃ t, exec (.pfxLoad k p i) s = .next t ∧ t.prefixes.get k = { x with lastStatus := 1 } ∧
      t.kvPools = s.kvPools ∧ ∀ j, j ≠ k → t.prefixes.get j = s.prefixes.get j)) ∧
  (∀ (s : State) (k : Nat) (p : Port), let x := s.prefixes.get k
    s.hasPrefixes = true → ∃ t, exec (.pfxUnload k p) s = .next t ∧ (∀ j, j ≠ k → t.prefixes.get j = s.prefixes.get j) ∧
      (x.state = .ready → x.refs = 0 → (t.prefixes.get k).state = .empty ∧ (t.prefixes.get k).frames = [] ∧
        ∀ f, f ∈ x.frames → (t.kvPools.get x.inst).pfxUsed.get f = false) ∧
      (x.state = .ready → x.refs ≠ 0 → t.prefixes.get k = { x with state := .draining } ∧ t.kvPools = s.kvPools) ∧
      (x.state = .empty ∨ x.state = .loading → t.prefixes.get k = { x with lastStatus := 6 } ∧ t.kvPools = s.kvPools)) ∧
  (∀ (s : State) (k : Nat) (image : List Byte), let x := s.prefixes.get k
    x.state = .loading → image.length = prefixBytes (s.planOf x.inst) x.len →
    ∃ t, exec (.prefixLoadComplete k image) s = .next t ∧ t.prefixes.get k = { x with state := .ready, lastStatus := 0 } ∧
      ∀ j, j ≠ k → t.prefixes.get j = s.prefixes.get j) ∧
  (∀ (s : State) (k : Nat), let x := s.prefixes.get k
    (x.state = .loading → ∃ t, exec (.prefixFetchError k) s = .next t ∧ exec (.prefixFetchTimeout k) s = .next t ∧
      (t.prefixes.get k).state = .empty ∧ (t.prefixes.get k).frames = [] ∧ (t.prefixes.get k).lastStatus = 4 ∧
      (∀ f, f ∈ x.frames → (t.kvPools.get x.inst).pfxUsed.get f = false) ∧ ∀ j, j ≠ k → t.prefixes.get j = s.prefixes.get j) ∧
    (x.state ≠ .loading → exec (.prefixFetchError k) s = .next s ∧ exec (.prefixFetchTimeout k) s = .next s))

/-- Grammar slots (R440, R443, Table 15-7) and the grammar cache (R442). -/
def Obligations.GrammarSlots : Prop :=
  (∀ (s : State) (g : Nat) (p : Port), let x := s.grammars.get g
    s.hasGrammar = true → ∃ t, exec (.grmLoad g p) s = .next t ∧ (∀ j, j ≠ g → t.grammars.get j = s.grammars.get j) ∧
      (x.state = .empty → t.grammars.get g = { x with state := .loading, owner := s.actsAs p }) ∧
      (x.state ≠ .empty → t.grammars.get g = { x with lastStatus := 1 })) ∧
  (∀ (s : State) (g : Nat) (p : Port), let x := s.grammars.get g
    s.hasGrammar = true → ∃ t, exec (.grmUnload g p) s = .next t ∧ (∀ j, j ≠ g → t.grammars.get j = s.grammars.get j) ∧
      (x.state = .ready → x.refs = 0 → (t.grammars.get g).state = .empty ∧ ∀ l, t.grmLine g l = none) ∧
      (x.state = .ready → x.refs ≠ 0 → t.grammars.get g = { x with state := .draining } ∧ t.grmCache = s.grmCache) ∧
      (x.state = .empty ∨ x.state = .loading → t.grammars.get g = { x with lastStatus := 2 } ∧ t.grmCache = s.grmCache)) ∧
  (∀ (s : State) (g : Nat) (im : List Byte), let len := s.reg64 (Reg.GRM_LEN_LO g); let f := leField im
    let ok := grmTablesOk (f 0x10 4) (f 0x18 4) (grmStates im.toArray (f 0x14 4)) (grmTrans im.toArray (f 0x20 8) (f 0x1C 4))
    (s.grammars.get g).state = .loading →
    (∃ t, exec (.grammarLoadComplete g true im) s = .next t ∧ (t.grammars.get g).state = .empty ∧ (t.grammars.get g).lastStatus = 6) ∧
    ∃ t, exec (.grammarLoadComplete g false im) s = .next t ∧ (∀ j, j ≠ g → t.grammars.get j = s.grammars.get j) ∧
      (grmHeaderOk im len = false → (t.grammars.get g).state = .empty ∧ (t.grammars.get g).lastStatus = 3) ∧
      (grmHeaderOk im len = true → grmRangesOk im len = false → (t.grammars.get g).state = .empty ∧ (t.grammars.get g).lastStatus = 4) ∧
      (grmHeaderOk im len = true → grmRangesOk im len = true → ok = false →
        (t.grammars.get g).state = .empty ∧ (t.grammars.get g).lastStatus = 5) ∧
      (grmHeaderOk im len = true → grmRangesOk im len = true → ok = true → (t.grammars.get g).state = .ready ∧
        (t.grammars.get g).lastStatus = 0 ∧ (t.grammars.get g).vocab = f 0x10 4 ∧ (t.grammars.get g).states = f 0x14 4 ∧
        (t.grammars.get g).bitsets = f 0x18 4)) ∧
  (∀ (s : State) (g : Nat),
    ((s.grammars.get g).state = .loading → ∃ t, exec (.grammarLoadTimeout g) s = .next t ∧ (t.grammars.get g).state = .empty ∧
      (t.grammars.get g).lastStatus = 6 ∧ ∀ j, j ≠ g → t.grammars.get j = s.grammars.get j) ∧
    ((s.grammars.get g).state ≠ .loading → exec (.grammarLoadTimeout g) s = .next s)) ∧
  (∀ (s : State) (g line i q : Nat) (bs : List Byte),
    ((s.grammars.get g).state = .ready ∨ (s.grammars.get g).state = .draining → bs.length = 4096 →
      ∃ t, exec (.grammarFetchComplete g line false bs i q) s = .next t ∧ t.grmLine g line = some bs ∧ t.grammars = s.grammars ∧
        t.grmCache.length ≤ 1024) ∧
    ((s.grammars.get g).state = .empty ∨ (s.grammars.get g).state = .loading →
      exec (.grammarFetchComplete g line false bs i q) s = .next s)) ∧
  (∀ (s : State) (g i q : Nat), let x := s.seq i q
    x.state ≠ .free → x.state ≠ .retiring → (s.insts.get (s.mainOf i)).state ≠ 1 →
    ∃ t, exec (.grammarReadTimeout g i q) s = .next t ∧ t.seq i q = { x with gFail := true })

/-- Resets, links and the command ring's head (R452, R462, R468-R470, R566, R624). -/
def Obligations.PortsAndResets : Prop :=
  (∀ (s : State) (p : Port), (s.pwr.dawn < 5 → exec (.deviceReset p) s = .next s) ∧
    (5 ≤ s.pwr.dawn → ∃ t, exec (.deviceReset p) s = .next t ∧ t.seqs = {} ∧ t.cores = {} ∧ t.img = {} ∧ t.pwr.dawn = 4 ∧
      t.fuses = s.fuses ∧ t.weightKeys = s.weightKeys ∧ (∀ k, (t.peds.get k).mem = (s.peds.get k).mem) ∧
      ∀ r, keptReg r = false → t.regs.get r = none)) ∧
  (∀ (s : State) (p : Nat), p < s.fuses.hostPorts →
    (∃ t, exec (.perstAssertion p) s = .next t ∧ (t.ports.get p).linkUp = false ∧ (t.ports.get p).training = false) ∧
    exec (.perstDeassertion p) s = .next { s with ports := s.ports.upd p (fun x => { x with training := true }) } ∧
    ((s.ports.get p).linkUp = true → ∃ t, exec (.hotReset p) s = .next t ∧ (t.ports.get p).linkUp = false)) ∧
  (∀ (s : State) (p : Nat), p < s.fuses.hostPorts → (s.ports.get p).linkUp = true →
    (∃ t, exec (.functionLevelReset p) s = .next t ∧ ((s.ports.get p).dState = 3 → exec (.d3hotToD0 p) s = .next t) ∧
      (t.ports.get p).linkUp = true ∧ (t.ports.get p).dState = 0 ∧ (t.ports.get p).msixEnable = false ∧
      (t.ports.get p).busMaster = false) ∧
    exec (.d0ToD3hot p) s = .next { s with ports := s.ports.upd p (fun x => { x with dState := 3 }) }) ∧
  (∀ (s : State) (p : Nat), (s.ports.get p).linkUp = false → exec (.hotReset p) s = .next s ∧ exec (.functionLevelReset p) s = .next s ∧
    exec (.d3hotToD0 p) s = .next s ∧ exec (.d0ToD3hot p) s = .next s) ∧
  (∀ (s : State) (p v w : Nat) (m k b : Bool), p < s.fuses.hostPorts → (s.ports.get p).training = true → 4 ≤ s.pwr.dawn →
    (s.ports.get p).linkUp = false → ∃ t, exec (.portLinkUp p v w m k b) s = .next t ∧ (t.ports.get p).linkUp = true ∧
      (t.ports.get p).speed = v % 8 ∧ (t.ports.get p).width = w % 32 ∧ (t.ports.get p).msixEnable = m ∧
      (t.ports.get p).busMaster = b) ∧
  (∀ (s : State) (p : Nat) (c : LinkDownCause),
    ((s.ports.get p).linkUp = true → ∃ t, exec (.portLinkDown p c) s = .next t ∧ (t.ports.get p).linkUp = false) ∧
    ((s.ports.get p).linkUp = false → exec (.portLinkDown p c) s = .next s)) ∧
  (∀ (s : State),
    (s.cmd.reading = true → ∃ t, exec (.completionTimeout .command) s = .next t ∧ t.cmd.fetchError = true ∧ t.cmd.reading = false ∧
      ringOn (t.regN Reg.CMD_CFG) = false) ∧
    (∀ k, exec (.completionTimeout (.prefixSlot k)) s = exec (.prefixFetchError k) s) ∧
    (∀ r, exec (.completionTimeout (.recordReadback r)) s = .next { s with recRings := s.recRings.upd r (fun x => { x with inFlight := 0 }) })) ∧
  (∀ (s : State) (e : List Byte) (q : Nat), let hd := s.regN Reg.CMD_HEAD
    let done := fun (n : Nat) => Out.hostWrite (s.regF Reg.CMD_CFG 8 8) (s.reg64 Reg.CMD_BASE_LO / 4096 * 4096 + 64 * hd + 0x30)
      (leBytes 4 n ++ leBytes 1 0 ++ [1, 0, 0] ++ leBytes 8 s.time)
    s.cmd.reading = true →
    (e.length = 64 → (cmdFields e).opcode = 0 → (cmdFields e).reserved = false → ∃ t, exec (.commandEntry e) s = .next t ∧
      t.regN Reg.CMD_HEAD = (hd + 1) % ringSize (s.regN Reg.CMD_CFG) ∧ done (cmdFields e).seq ∈ t.out) ∧
    (∃ t, exec (.commandRingNop hd q) s = .next t ∧ t.regN Reg.CMD_HEAD = (hd + 1) % ringSize (s.regN Reg.CMD_CFG) ∧
      done (q % 2 ^ 32) ∈ t.out))

/-- Windows, messages and management (R451, R454-R460, R467, R472-R474). -/
def Obligations.HostServices : Prop :=
  (∀ (s : State) (p off size : Nat) (data : List Byte), let dest := if p = 0 then Port.a else Port.b
    let st := s.regN (Reg.HST_B4_SEL p) % 8
    p < s.fuses.hostPorts → 4 ≤ size → size ≤ 512 → data.length = size →
    (s.debugOpen 0 = false → (∃ t, exec (.bar4Read p off size) s = .next t ∧ t.peds = s.peds ∧
        t.out.getLast? = some (.readData dest size (allOnes size))) ∧ ∃ t, exec (.bar4Write p off data) s = .next t ∧ t.peds = s.peds) ∧
    (s.debugOpen 0 = true → bit (s.regN (Reg.HST_B4_SEL p)) 31 = false → st < s.fuses.stackN → off + size ≤ 0xA00000000 →
      ((∀ k, k < size → (s.peds.get st).poisoned (off + k) 1 = false) → exec (.bar4Read p off size) s =
        .next (s.emit (.readData dest size (leNat ((List.range size).map (fun k => (s.peds.get st).mem.get (off + k))))))) ∧
      ∃ t, exec (.bar4Write p off data) s = .next t ∧ (∀ k b, data[k]? = some b → (t.peds.get st).mem.get (off + k) = b) ∧
        (∀ a, a < off ∨ off + size ≤ a → (t.peds.get st).mem.get a = (s.peds.get st).mem.get a) ∧
        ∀ j, j ≠ st → t.peds.get j = s.peds.get j)) ∧
  (∀ (s : State) (src : Nat), let m := s.regN (Reg.HST_IRQ src); let p := bits m 30 30; let v := bits m 29 24
    (src < 16 → bit m 31 = true → bits m 23 12 ≠ 0 → 0 < (s.irq.get src).pending → ∃ t, exec (.irqHoldExpiry src) s = .next t ∧
      (t.irq.get src).pending = 0 ∧ (t.out = s.out ++ [.msix p v] ∨ (t.ports.get p).pba.getLsbD v = true)) ∧
    (bit m 31 = false ∨ bits m 23 12 = 0 ∨ (s.irq.get src).pending = 0 → exec (.irqHoldExpiry src) s = .next s)) ∧
  (∀ (s : State) (p v : Nat), let x := s.ports.get p
    v < 64 → x.pba.getLsbD v = true → x.linkUp = true → x.msixEnable = true → x.funcMask = false → x.dState = 0 →
    bit (s.regN (Reg.MSIX_TABLE p (4 * v + 3))) 0 = false → ∃ t, exec (.msixPendingSend p v) s = .next t ∧
      t.out = s.out ++ [.msix p v] ∧ (t.ports.get p).pba.getLsbD v = false) ∧
  (∀ (s : State), let cfg := s.regN Reg.EVR_CFG; let p := bits cfg 8 8; let n := 2 ^ bits cfg 4 0
    let todo := (s.log.entries.filter (fun e => !e.copied && s.evrWants (eventClass e.code))).take s.evrRoom
    let addr := fun (k : Nat) => s.reg64 Reg.EVR_BASE_LO / 4096 * 4096 + 32 * ((s.regN Reg.EVR_TAIL + k) % n)
    (bit cfg 15 = true → (s.ports.get p).linkUp = true → s.evrInFlight = 0 → todo ≠ [] →
      ∃ t, exec .eventRingCopy s = .next t ∧ t.evrInFlight = todo.length ∧
        t.out = s.out ++ (todo.zipIdx.map (fun x => Out.hostWrite p (addr x.2) { x.1 with copied := true : LogEntry }.bytes)) ++
          [.hostRead p (addr (todo.length - 1)) 32]) ∧
    (s.evrInFlight ≠ 0 → ∃ t, exec .eventRingReadbackComplete s = .next t ∧ t.evrInFlight = 0 ∧
      t.regN Reg.EVR_TAIL = (s.regN Reg.EVR_TAIL + s.evrInFlight) % n)) ∧
  (∀ (s : State) (k : Nat),
    (8 ≤ k → k ≤ 254 → ∃ t, exec (.setEndpointId k) s = .next t ∧ t.mgmtEid = k ∧ t.out = s.out ++ [.mctp [0, 0, k, 0]]) ∧
    exec .getEndpointId s = .next (s.emit (.mctp [0, s.mgmtEid, 0, 0])) ∧
    (∃ vs, exec .getMctpVersionSupport s = .next (s.emit (.mctp (0 :: vs.length :: vs)))) ∧
    exec .getMessageTypeSupport s = .next (s.emit (.mctp [0, 3, 0x05, 0x06, 0x7E])) ∧
    (k ≠ 0 → k ∉ [0x05, 0x06, 0x7E] → ∃ x, exec (.unsupportedMessageType k) s = .next (s.emit (.mctp (x :: [k])))) ∧
    (k < 2 → exec (.doeDiscovery k) s = .next (s.emit (.mctp [1, k, k + 1]))) ∧
    exec (.doeDiscovery 2) s = .next (s.emit (.mctp [1, 2, 0]))) ∧
  (∀ (s : State) (r off n v : Nat),
    (∃ t, exec (.read32 r .ok off) s = .next t ∧ t.out.getLast? = some (.mgmt 0 [(s.readBar0 .mgmt off 4).2])) ∧
    (1 ≤ n → n ≤ 16 → ∃ t vs, exec (.readBlock r .ok off n) s = .next t ∧ vs.length = n ∧ t.out.getLast? = some (.mgmt 0 vs)) ∧
    (mgmtWritable off = true → exec (.write32 r .ok off v) s = .next ((s.writeBar0 .mgmt off 4 v).emit (.mgmt 0 []))) ∧
    (mgmtWritable off = false → exec (.write32 r .ok off v) s = .next (s.emit (.mgmt 1 []))) ∧
    ∃ t, exec (.read32 r .malformed off) s = .next t ∧ exec (.write32 r .malformed off v) s = .next t ∧
      t.out.getLast? = some (.mgmt 2 [])) ∧
  (∀ (s : State), (s.smbAlert = true → ∃ t, exec .alertResponse s = .next t ∧ t.smbAlert = false ∧
      t.out = s.out ++ [.mctp [0x60 + s.fuses.slotId]]) ∧ (s.smbAlert = false → exec .alertResponse s = .next s))

/-- Icpen links (R479-R487, Table 17-7). -/
def Obligations.LinkTraining : Prop :=
  (∀ (s : State) (n q cr c u : Nat), let p := s.icp n
    (p.up = true → ∃ t, exec (.icpenFlit n true false 1 p.rxNext p.txNext cr c u) s = .next t ∧ (t.icp n).rxNext = (p.rxNext + 1) % 4096) ∧
    (p.trained = true → ∃ t, exec (.icpenFlit n false false 1 q q cr c u) s = .next t ∧ (t.icp n).rxNext = p.rxNext ∧
      (t.icp n).gap = true ∧ (p.gap = false → (t.icp n).nak = true) ∧ (p.gap = true → (t.icp n).nak = p.nak))) ∧
  (∀ (s : State) (n : Nat), let p := s.icp n
    p.trained = true →
    (p.replay = [] → exec (.icpenAckTimeout n) s = .next s) ∧
    (p.replay ≠ [] → (∀ f, f ∈ p.replay → f.2 ≤ 16) → ∃ t, exec (.icpenAckTimeout n) s = .next t ∧
      (t.icp n).replay = p.replay.map (fun f => (f.1, f.2 + 1)) ∧ (t.icp n).state = p.state) ∧
    ((∃ f, f ∈ p.replay ∧ 17 ≤ f.2) → ∃ t, exec (.icpenAckTimeout n) s = .next t ∧ (t.icp n).state = .training) ∧
    (∃ t, exec (.linkSilenceTimeout n) s = .next t ∧ (t.icp n).state = .training ∧ (t.icp n).lanes = 0) ∧
    ∃ t, exec (.helloTimer n) s = .next t ∧ (t.icp n).helloCount = (p.helloCount + 1) % 2 ^ 16 ∧
      ∃ bs, Out.icpen n .hello bs ∈ t.out) ∧
  (∀ (s : State) (n lane cause : Nat), let p := s.icp n
    p.trained = true → bit p.lanes lane = true →
    ∃ t u, exec (.laneDrop n lane cause) s = .next t ∧ exec (.lanedrop n lane) s = .next u ∧
      (p.lanes ≠ 2 ^ lane → (t.icp n).lanes = p.lanes - 2 ^ lane ∧ (u.icp n).lanes = p.lanes - 2 ^ lane ∧
        (p.state = .active → (t.icp n).state = .degraded ∧ (u.icp n).state = .degraded)) ∧
      (p.lanes = 2 ^ lane → (t.icp n).state = .training ∧ (u.icp n).state = .training)) ∧
  (∀ (s : State) (n rev lanes : Nat), let p := s.icp n
    p.state = .training →
    (p.attempt = false → p.hold = false → ∃ bs, exec (.discoveryBurst n) s = .next (s.emit (.icpen n .discovery bs))) ∧
    (p.hold = false → ∃ t, exec (.trainingPatternDetected n) s = .next t ∧ t.icp n = { p with attempt := true }) ∧
    (p.attempt = true → ∃ t, exec (.trainingTimeout n) s = .next t ∧ (t.icp n).attempt = false ∧
      (p.fails = 2 → (t.icp n).offer = max 1 (p.offer - 1) ∧ (t.icp n).fails = 0) ∧
      (p.fails ≠ 2 → (t.icp n).offer = p.offer ∧ (t.icp n).fails = p.fails + 1)) ∧
    (p.attempt = true → lanes % 16 ≠ 0 → 1 ≤ rev → rev ≤ p.offer → ∃ t, exec (.trainingComplete n rev lanes) s = .next t ∧
      (t.icp n).state = .hello ∧ (t.icp n).rev = rev ∧ (t.icp n).lanes = lanes % 16)) ∧
  (∀ (s : State) (n : Nat), ((s.icp n).state = .hello → ∃ t, exec (.helloTimeout n) s = .next t ∧ (t.icp n).state = .training) ∧
    ((s.icp n).state ≠ .hello → exec (.helloTimeout n) s = .next s)) ∧
  (∀ (s : State) (n : Nat) (bs : List Byte), let x := (s.icp n).note bs s.time
    let common := min (min (s.icp n).rev x.peerMaxRev) (genRev x.peerGen)
    (s.icp n).state = .hello → ∃ t, exec (.hello n bs) s = .next t ∧
      (1 ≤ common → x.peerRole = (s.portRole n).role → (t.icp n).state = .auth ∧ (t.icp n).rev = common ∧ (t.icp n).peerHello = bs) ∧
      (common = 0 ∨ x.peerRole ≠ (s.portRole n).role → (t.icp n).state = .hello ∧ (t.icp n).cause = 6))

/-- The exchange over Icpen links (R488-R500). -/
def Obligations.LinkExchange : Prop :=
  (∀ (s : State) (n r : Nat) (bs : List Byte), let p := s.icp n
    (p.state ≠ .auth → exec (.authShare n bs) s = .next s ∧ exec (.authCert n bs) s = .next s ∧ exec (.authSig n bs) s = .next s ∧
      exec (.authResult n r) s = .next s ∧ exec (.authTimeout n) s = .next s) ∧
    (p.state = .auth →
      (∃ t, exec (.authShare n bs) s = .next t ∧ (t.icp n).peerShare = bs ∧ (t.icp n).state = .auth) ∧
      (∃ t, exec (.authCert n bs) s = .next t ∧ (t.icp n).peerCert = bs ∧ (t.icp n).state = .auth) ∧
      (p.ownResult = none → p.peerResult = none → ∃ t, exec (.authSig n bs) s = .next t ∧
        (t.icp n).ownResult = some (s.authVerdict n ((bs.drop 8).take 96)) ∧ (t.icp n).state = .auth) ∧
      (p.ownResult = none → ∃ t, exec (.authResult n r) s = .next t ∧ (t.icp n).peerResult = some (r % 256) ∧ (t.icp n).state = .auth) ∧
      (p.ownResult = some 0 → p.adopted ≠ 0 → p.adopted = p.peerHash → (s.portRole n).peerSlot = 0xFF →
        ∃ t, exec (.authResult n 0) s = .next t ∧ (t.icp n).up = true) ∧
      (∀ a, p.ownResult = some a → a ≠ 0 → ∃ t, exec (.authResult n r) s = .next t ∧ (t.icp n).state = .training ∧
        (t.icp n).hold = true ∧ (t.icp n).cause = a) ∧
      ∃ t, exec (.authTimeout n) s = .next t ∧ (t.icp n).state = .training ∧ (t.icp n).hold = true ∧ (t.icp n).cause = 7)) ∧
  (∀ (s : State) (n : Nat), let p := s.icp n
    (∃ t, exec (.authHoldExpiry n) s = .next t ∧ t.icp n = { p with hold := false }) ∧
    (p.up = true → p.encrypted = true → p.switchTx = none → p.switchRx = none → 2 ^ 36 ≤ p.keyTx ∨ 2 ^ 36 ≤ p.keyRx →
      ∃ t, exec (.linkRekey n) s = .next t ∧ (t.icp n).epoch = p.epoch + 1 ∧ (t.icp n).switchTx.isSome = true ∧
        (t.icp n).switchRx.isSome = true)) ∧
  (∀ (s : State) (n : Nat) (o : Port), let p := s.icp n
    (p.state = .quarantine → (p.cause = 1 → ∃ t, exec (.adopt n o) s = .next t ∧ (t.icp n).up = true ∧ (t.icp n).adopted = p.peerHash) ∧
      ∃ t, exec (.reject n o) s = .next t ∧ (t.icp n).state = .dark ∧ (t.icp n).rejected = true) ∧
    (p.state ≠ .quarantine → (∃ t, exec (.adopt n o) s = .next t ∧ t.icps = s.icps) ∧ ∃ t, exec (.reject n o) s = .next t ∧ t.icps = s.icps) ∧
    (p.up = true ∨ (p.state = .dark ∧ p.rejected = true) → ∃ t, exec (.retrain n o) s = .next t ∧ (t.icp n).state = .training ∧
      (t.icp n).rejected = false) ∧
    (p.up = false → p.state ≠ .dark ∨ p.rejected = false → ∃ t, exec (.retrain n o) s = .next t ∧ t.icps = s.icps)) ∧
  (∀ (s : State) (n i k f d m fr pf g : Nat) (bs : List Byte) (ds : List (Nat × List Byte × List Nat))
      (es : List (Nat × Nat × Nat × Nat × Bool)) (qs : List Nat),
    ((s.icp n).up = false → exec (.icpenDataMessage n i k f d bs) s = .next s ∧ exec (.plan n i m fr pf g) s = .next s ∧
      exec (.step n bs ds) s = .next s ∧ exec (.result n es) s = .next s ∧ exec (.short n qs) s = .next s) ∧
    ((s.icp n).up = true →
      (i < 0xFF00 → s.streamWaiter n i = none → ∃ t x, exec (.icpenDataMessage n i k f d bs) s = .next t ∧
        (t.icpIn.get (streamKey n i)).msgs = (s.icpIn.get (streamKey n i)).msgs ++ [x] ∧ x.bytes = bs ∧ x.op = k ∧ x.fmt = f ∧ x.dec = d) ∧
      (∃ t, exec (.plan n i m fr pf g) s = .next t ∧ ∀ j, j ∈ s.stagesOn n false → s.ingressIcpen j = false →
        (t.insts.get j).plans = (s.insts.get j).plans ++ [(i, g, m, fr)]) ∧
      (∃ t, exec (.step n bs ds) s = .next t ∧ ∀ j, j ∈ s.stagesOn n true → (t.insts.get j).stepIn = (s.insts.get j).stepIn ++ [(bs, ds)]) ∧
      (∃ t, exec (.result n es) s = .next t ∧ ∀ j, j ∈ s.stagesOn n false → (t.insts.get j).resultIn = (s.insts.get j).resultIn ++ es) ∧
      ∃ t, exec (.short n qs) s = .next t ∧ ∀ j, j ∈ s.stagesOn n false → s.ingressIcpen j = false →
        (t.insts.get j).shortIn = (s.insts.get j).shortIn ++ qs))

/-- Reduce-on-receive (R156). -/
def Obligations.ReduceOnReceive : Prop :=
  (∀ (x : IcpMsg) (type : Nat) (old bs : List Byte), x.op ≠ 0 → x.into type old = some bs →
    (x.op = 1 ∧ type = 0 ∧ bs = addElems .bf16 2 x.plain.length old x.plain) ∨
    (x.op = 2 ∧ type = 1 ∧ bs = addElems .fp32 4 x.plain.length old x.plain)) ∧
  (∀ (x : IcpMsg) (old : List Byte), x.dec = old.length → x.plain.length = old.length →
    (x.op = 1 → x.into 0 old = some (addElems .bf16 2 x.plain.length old x.plain)) ∧
    (x.op = 2 → x.into 1 old = some (addElems .fp32 4 x.plain.length old x.plain))) ∧
  (∀ (f : FFmt) (size n : Nat) (a b : List Byte), a ≠ [] → addElems f size (n + 1) a b =
    leBytes size (f.enc ((f.dec (leNat (a.take size))).add (f.dec (leNat (b.take size))))).bits ++
      addElems f size n (a.drop size) (b.drop size)) ∧
  (∀ (x : IcpMsg), x.fmt = 1 ∨ x.fmt = 2 → x.plain = (decodeExchange x.fmt x.dec x.bytes).flatMap (leBytes 2))

/-- SPDM (R594-R598, Table 21-2). -/
def Obligations.SecuritySessions : Prop :=
  (∀ (s : State) (tr : Nat),
    (∃ fs, exec (.getVersion tr) s = .next (s.emit (.spdm tr 0x04 fs))) ∧ (∃ fs, exec (.getCapabilities tr) s = .next (s.emit (.spdm tr 0x61 fs))) ∧
    (∃ fs, exec (.negotiateAlgorithms tr) s = .next (s.emit (.spdm tr 0x63 fs)))) ∧
  (∀ (s : State) (tr k code off len : Nat) (sg ok : Bool), s.sec.identity = 2 → ∃ e, let t := s.emit (.spdm tr 0x7F [e])
    exec (.getDigests tr) s = .next t ∧ exec (.challenge tr k) s = .next t ∧ exec (.getMeasurements tr k sg) s = .next t ∧
    exec (.getCertificate tr k off len) s = .next t ∧ exec (.keyExchange tr) s = .next t ∧ exec (.finish tr k ok) s = .next t ∧
    exec (.heartbeat tr k ok) s = .next t ∧ exec (.keyUpdate tr k ok) s = .next t ∧ exec (.endSession tr k ok) s = .next t ∧
    exec (.spdmUnsupportedRequest tr code) s = .next t) ∧
  (∀ (s : State) (tr off len : Nat), s.sec.identity ≠ 2 →
    (∃ fs, exec (.getDigests tr) s = .next (s.emit (.spdm tr 0x01 (1 :: fs)))) ∧
    (off < Config.deviceChain.length → ∃ k, k ≤ len ∧ exec (.getCertificate tr 0 off len) s = .next (s.emit (.spdm tr 0x02
      ([0, k, Config.deviceChain.length - off - k] ++ ((Config.deviceChain.drop off).take k).map (·.toNat))))) ∧
    (∀ c, c ≠ 0 → ∃ e, exec (.getCertificate tr c off len) s = .next (s.emit (.spdm tr 0x7F [e]))) ∧
    (∃ t, exec (.challenge tr 0) s = .next t ∧ ∃ nonce sig, t.out = s.out ++ [.spdm tr 0x03
      (0 :: hashWords (Config.sha384 Config.deviceChain) ++ [nonce] ++ sig)]) ∧
    (∃ t, exec (.getMeasurements tr 0 false) s = .next t ∧ t.out = s.out ++ [.spdm tr 0x60 [22]]) ∧
    (∀ i, 1 ≤ i → i ≤ 22 → ∃ t, exec (.getMeasurements tr i false) s = .next t ∧ t.out = s.out ++ [.spdm tr 0x60 (i :: s.measure i)]) ∧
    ∀ code, ∃ e, exec (.spdmUnsupportedRequest tr code) s = .next (s.emit (.spdm tr 0x7F [e, code]))) ∧
  (∀ (s : State) (tr : Nat), s.sec.identity ≠ 2 →
    (∀ k, k < 4 → (s.sec.sessions.get k).phase = 0 → (∀ j, j < k → (s.sec.sessions.get j).phase ≠ 0) →
      ∃ t, exec (.keyExchange tr) s = .next t ∧ (t.sec.sessions.get k).phase = 1 ∧ (t.sec.sessions.get k).transport = tr ∧
        (t.sec.sessions.get k).owner = none ∧ ∀ j, j ≠ k → t.sec.sessions.get j = s.sec.sessions.get j) ∧
    ((∀ j, j < 4 → (s.sec.sessions.get j).phase ≠ 0) → ∃ t, exec (.keyExchange tr) s = .next t ∧ t.sec = s.sec)) ∧
  (∀ (s : State) (tr k : Nat), let x := s.sec.sessions.get k
    s.sec.identity ≠ 2 →
    (s.sessionIs tr k 1 = true → ∃ t, exec (.finish tr k true) s = .next t ∧ t.sec.sessions.get k = { x with phase := 2 } ∧
      ∀ j, j ≠ k → t.sec.sessions.get j = s.sec.sessions.get j) ∧
    (s.sessionIs tr k 2 = true → (∃ t, exec (.heartbeat tr k true) s = .next t ∧ t.sec = s.sec) ∧
      (∃ t, exec (.keyUpdate tr k true) s = .next t ∧ t.sec.sessions.get k = { x with keys := x.keys + 1 }) ∧
      (∃ t, exec (.endSession tr k true) s = .next t ∧ t.sec.sessions.get k = {}) ∧
      ∃ t, exec (.heartbeat tr k false) s = .next t ∧ exec (.keyUpdate tr k false) s = .next t ∧ exec (.endSession tr k false) s = .next t ∧
        t.sec.sessions.get k = {}) ∧
    (s.sessionIs tr k 1 = true → ∃ t, exec (.finish tr k false) s = .next t ∧ t.sec.sessions.get k = {}) ∧
    (∀ ok, s.sessionIs tr k 1 = false → ∃ t, exec (.finish tr k ok) s = .next t ∧ t.sec = s.sec) ∧
    (∀ ok, s.sessionIs tr k 2 = false → ∃ t, exec (.heartbeat tr k ok) s = .next t ∧ exec (.keyUpdate tr k ok) s = .next t ∧
      exec (.endSession tr k ok) s = .next t ∧ t.sec = s.sec))

/-- Owners (R599-R604), debug (R607-R609) and the test port (R624, Table 21-7). -/
def Obligations.OwnersDebugAndTestPort : Prop :=
  (∀ (s : State) (tr n k : Nat) (ss : Option Nat) (hs : List (BitVec 384)) (key sig : List Byte) (wk : BitVec 512),
    s.secure tr ss = false → ∃ t, t.sec = s.sec ∧ t.weightKeys = s.weightKeys ∧ exec (.enrol tr ss n hs) s = .next t ∧
      exec (.ownerProve tr ss k key sig) s = .next t ∧ exec (.revoke tr ss k) s = .next t ∧ exec (.setWeightKey tr ss k wk) s = .next t ∧
      exec (.clearWeightKey tr ss k) s = .next t) ∧
  (∀ (s : State) (tr : Nat) (ss : Option Nat) (hs : List (BitVec 384)), s.secure tr ss = true → 1 ≤ hs.length → hs.length ≤ 4 →
    s.enrolState ≠ 1 → s.enrolState ≠ 2 → s.sec.enrol = none → ∃ t b, exec (.enrol tr ss hs.length hs) s = .next t ∧
      t.sec.enrol = some { bank := b, hashes := hs, transport := tr } ∧ (t.sec.banks.get b).blown = true ∧
      b = (if (s.sec.banks.get 0).spent then 1 else 0)) ∧
  (∀ (s : State), (s.sec.enrol = none → exec .enrolComplete s = .next s) ∧
    (∀ e, s.sec.enrol = some e → ∃ t, exec .enrolComplete s = .next t ∧ t.sec.enrol = none ∧ (t.sec.banks.get e.bank).commit = true ∧
      (t.sec.banks.get e.bank).valid = 2 ^ e.hashes.length - 1 ∧ ∀ i h, e.hashes[i]? = some h → (t.sec.banks.get e.bank).hashes.get i = h)) ∧
  (∀ (s : State) (tr k slot : Nat) (key sig : List Byte), s.secure tr (some k) = true → slot < 4 → key.length = 96 → sig.length = 96 →
    s.ownerKeyOk slot key = true →
    let good := Config.ecdsaVerify key sig (Config.sha384 (ownerTag ++ (leBytes 48 (s.sec.sessions.get k).th1.toNat).reverse))
    ∃ t, exec (.ownerProve tr (some k) slot key sig) s = .next t ∧
      (good = true → t.sec.sessions.get k = { s.sec.sessions.get k with owner := some slot }) ∧ (good = false → t.sec.sessions.get k = {})) ∧
  (∀ (s : State) (tr k o slot : Nat) (wk : BitVec 512), s.secure tr (some k) = true → (s.sec.sessions.get k).owner = some o →
    (slot < 4 → o ≠ slot → bit s.sec.revoked slot = false → s.ownerKeys.map (·.1) ≠ [slot] → ∃ t, exec (.revoke tr (some k) slot) s = .next t ∧
      t.sec.revoked = s.sec.revoked + 2 ^ slot ∧ ∀ j, (t.sec.sessions.get j).owner ≠ some slot) ∧
    (slot < 64 → s.keyInUse slot = false → ∃ t, exec (.setWeightKey tr (some k) slot wk) s = .next t ∧ t.weightKeys.get slot = some wk ∧
      ∀ j, j ≠ slot → t.weightKeys.get j = s.weightKeys.get j) ∧
    (slot < 64 → ∃ t, exec (.clearWeightKey tr (some k) slot) s = .next t ∧ t.weightKeys.get slot = none ∧
      ∀ j, j ≠ slot → t.weightKeys.get j = s.weightKeys.get j) ∧
    ∃ t, exec (.clearWeightKey tr (some k) 0xFF) s = .next t ∧ ∀ j, t.weightKeys.get j = none) ∧
  (∀ (s : State) (src : Nat) (tok : List Byte), tok.length = 200 → s.sec.verifying = none → (s.sec.identity = 2 → src < 3) →
    exec (.debugUnlock src tok) s = .next { s with sec := { s.sec with verifying := some (tok, src) } }) ∧
  (∀ (s : State) (src : Nat) (tok : List Byte), s.sec.verifying = some (tok, src) → ∃ t, exec .unlockVerifyComplete s = .next t ∧
    t.sec.verifying = none ∧ t.sec.unlockStatus = s.unlockCheck tok ∧
    (s.unlockCheck tok = 0 → t.sec.scopes = s.sec.scopes ||| leField tok 4 1 ∧ t.sec.refusals = 0 ∧ t.sec.lockout = s.sec.lockout) ∧
    (s.unlockCheck tok ≠ 0 → t.sec.scopes = s.sec.scopes ∧ t.sec.refusals = min 3 (s.sec.refusals + 1) ∧
      (s.sec.refusals = 2 → s.sec.lockout = none → t.sec.lockout = some (s.time + 60000000000)))) ∧
  (∀ (s : State), exec .lockoutExpiry s = .next { s with sec := { s.sec with lockout := none, refusals := 0 } } ∧
    exec .relock s = .next { s with sec := { s.sec with locked := true, scopes := 0 } } ∧
    ∃ t, exec .newNonce s = .next t ∧ t.sec.nonce < 2 ^ 64 ∧ t.sec.scopes = s.sec.scopes) ∧
  (∀ (s : State) (pins pre : Nat), let by_ : State := { s with tapIr := 1, out := s.out ++ [.tap 0] }
    (∃ v, exec .idcode s = .next { s with tapIr := 0, out := s.out ++ [.tap v] } ∧ bit v 0 = true) ∧ exec .bypass s = .next by_ ∧
    exec (.samplePreload pins pre) s = .next { s with tapIr := 2, tapCells := pre, out := s.out ++ [.tap pins] } ∧
    (s.debugOpen 1 = true → exec .extest s = .next { s with tapIr := 3 } ∧ exec .ieee11496Instructions s = .next { s with tapIr := 4 }) ∧
    (s.debugOpen 1 = false → exec .extest s = .next by_ ∧ exec .ieee11496Instructions s = .next by_))
end

