-- ==== Sys2Proof/Laws/Dispatch.lean ====
section
/-!
SUPPORT. `exec` command by command: each arm of the dispatch as an equation, so that no proof unfolds the whole match.
-/
namespace Sys2Proof.Machine
open Sys2Proof

theorem exec_registerWrite (port : Port) (bar : Nat) (off : Nat) (size : Nat) (value : Nat) (s : State) :
    exec (.registerWrite port bar off size value) s = execRegisterWrite port bar off size value s := rfl
theorem exec_lowRegisterRead (port : Port) (off : Nat) (size : Nat) (s : State) :
    exec (.lowRegisterRead port off size) s = execLowRegisterRead port off size s := rfl
theorem exec_misalignedRead (port : Port) (bar : Nat) (off : Nat) (size : Nat) (s : State) :
    exec (.misalignedRead port bar off size) s = execMisalignedRead port bar off size s := rfl
theorem exec_inputValid (s : State) : exec (.inputValid) s = execInputValid s := rfl
theorem exec_railsInRegulation (slotId : Nat) (strap : Nat) (s : State) :
    exec (.railsInRegulation slotId strap) s = execRailsInRegulation slotId strap s := rfl
theorem exec_friezePllLock (identityOk : Bool) (s : State) :
    exec (.friezePllLock identityOk) s = execFriezePllLock identityOk s := rfl
theorem exec_corePllLock (s : State) : exec (.corePllLock) s = execCorePllLock s := rfl
theorem exec_calPoolReadComplete (die : Nat) (bad : List Nat) (s : State) :
    exec (.calPoolReadComplete die bad) s = execCalPoolReadComplete die bad s := rfl
theorem exec_dawnComplete (us : Nat) (s : State) : exec (.dawnComplete us) s = execDawnComplete us s := rfl
theorem exec_inputOutOfRange (mv : Nat) (high : Bool) (s : State) :
    exec (.inputOutOfRange mv high) s = execInputOutOfRange mv high s := rfl
theorem exec_inputTrip (value : Nat) (cause : Nat) (s : State) :
    exec (.inputTrip value cause) s = execInputTrip value cause s := rfl
theorem exec_tripRestart (now : Nat) (s : State) : exec (.tripRestart now) s = execTripRestart now s := rfl
theorem exec_vinBelow20V (s : State) : exec (.vinBelow20V) s = execVinBelow20V s := rfl
theorem exec_powerPhaseLost (rail : Nat) (phase : Nat) (cause : Nat) (s : State) :
    exec (.powerPhaseLost rail phase cause) s = execPowerPhaseLost rail phase cause s := rfl
theorem exec_governorTick (demand : Nat) (load : Nat) (govW : Nat) (govE : Nat) (limit : Option Nat) (paces : List (Nat × Nat)) (s : State) :
    exec (.governorTick demand load govW govE limit paces) s = execGovernorTick demand load govW govE limit paces s := rfl
theorem exec_shutdown (port : Port) (s : State) : exec (.shutdown port) s = execShutdown port s := rfl
theorem exec_shutdownRailsOff (s : State) : exec (.shutdownRailsOff) s = execShutdownRailsOff s := rfl
theorem exec_powerStateEntry (domain : Nat) (kind : Nat) (next : Nat) (paces : List Nat) (s : State) :
    exec (.powerStateEntry domain kind next paces) s = execPowerStateEntry domain kind next paces s := rfl
theorem exec_wakeStart (domain : Nat) (delayed : Bool) (s : State) :
    exec (.wakeStart domain delayed) s = execWakeStart domain delayed s := rfl
theorem exec_wakeComplete (domain : Nat) (us : Nat) (identityOk : Bool) (s : State) :
    exec (.wakeComplete domain us identityOk) s = execWakeComplete domain us identityOk s := rfl
theorem exec_crystalLock (s : State) : exec (.crystalLock) s = execCrystalLock s := rfl
theorem exec_crystalTimeout (s : State) : exec (.crystalTimeout) s = execCrystalTimeout s := rfl
theorem exec_crystalStopped (s : State) : exec (.crystalStopped) s = execCrystalStopped s := rfl
theorem exec_referenceLost (s : State) : exec (.referenceLost) s = execReferenceLost s := rfl
theorem exec_referenceReturn (s : State) : exec (.referenceReturn) s = execReferenceReturn s := rfl
theorem exec_deviceReset (by_ : Port) (s : State) : exec (.deviceReset by_) s = execDeviceReset by_ s := rfl
theorem exec_perstAssertion (port : Nat) (s : State) : exec (.perstAssertion port) s = execPerstAssertion port s := rfl
theorem exec_hotReset (port : Nat) (s : State) : exec (.hotReset port) s = execHotReset port s := rfl
theorem exec_functionLevelReset (port : Nat) (s : State) :
    exec (.functionLevelReset port) s = execFunctionLevelReset port s := rfl
theorem exec_d3hotToD0 (port : Nat) (s : State) : exec (.d3hotToD0 port) s = execD3hotToD0 port s := rfl
theorem exec_perstDeassertion (port : Nat) (s : State) : exec (.perstDeassertion port) s = execPerstDeassertion port s := rfl
theorem exec_portLinkUp (port : Nat) (speed : Nat) (width : Nat) (msixEnable : Bool) (funcMask : Bool) (busMaster : Bool) (s : State) :
    exec (.portLinkUp port speed width msixEnable funcMask busMaster) s = execPortLinkUp port speed width msixEnable funcMask busMaster s := rfl
theorem exec_portLinkDown (port : Nat) (cause : LinkDownCause) (s : State) :
    exec (.portLinkDown port cause) s = execPortLinkDown port cause s := rfl
theorem exec_completionTimeout (unit : ReadUnit) (s : State) :
    exec (.completionTimeout unit) s = execCompletionTimeout unit s := rfl
theorem exec_armLoad (port : Port) (s : State) : exec (.armLoad port) s = execArmLoad port s := rfl
theorem exec_armSeal (port : Port) (s : State) : exec (.armSeal port) s = execArmSeal port s := rfl
theorem exec_armDiscard (port : Port) (s : State) : exec (.armDiscard port) s = execArmDiscard port s := rfl
theorem exec_imageFetchComplete (image : List Byte) (s : State) :
    exec (.imageFetchComplete image) s = execImageFetchComplete image s := rfl
theorem exec_imageFetchError (s : State) : exec (.imageFetchError) s = execImageFetchError s := rfl
theorem exec_imageFetchTimeout (s : State) : exec (.imageFetchTimeout) s = execImageFetchTimeout s := rfl
theorem exec_validationComplete (s : State) : exec (.validationComplete) s = execValidationComplete s := rfl
theorem exec_sealApplyComplete (s : State) : exec (.sealApplyComplete) s = execSealApplyComplete s := rfl
theorem exec_strikeLatch (core : Nat) (pos : Nat) (s : State) :
    exec (.strikeLatch core pos) s = execStrikeLatch core pos s := rfl
theorem exec_strikeBoundary (core : Nat) (pos : Nat) (conv : List (List Nat)) (overs : List (Nat × Nat)) (s : State) :
    exec (.strikeBoundary core pos conv overs) s = execStrikeBoundary core pos conv overs s := rfl
theorem exec_laneCorrectionReady (core : Nat) (pos : Nat) (s : State) :
    exec (.laneCorrectionReady core pos) s = execLaneCorrectionReady core pos s := rfl
theorem exec_fallbackComplete (core : Nat) (pos : Nat) (s : State) :
    exec (.fallbackComplete core pos) s = execFallbackComplete core pos s := rfl
theorem exec_groupResultWrite (core : Nat) (s : State) : exec (.groupResultWrite core) s = execGroupResultWrite core s := rfl
theorem exec_tileBoundary (core : Nat) (pos : Nat) (s : State) :
    exec (.tileBoundary core pos) s = execTileBoundary core pos s := rfl
theorem exec_planeLoadStart (core : Nat) (pos : Nat) (s : State) :
    exec (.planeLoadStart core pos) s = execPlaneLoadStart core pos s := rfl
theorem exec_planeRowWritten (core : Nat) (pos : Nat) (parityOk : Bool) (s : State) :
    exec (.planeRowWritten core pos parityOk) s = execPlaneRowWritten core pos parityOk s := rfl
theorem exec_planeLoadComplete (core : Nat) (pos : Nat) (s : State) :
    exec (.planeLoadComplete core pos) s = execPlaneLoadComplete core pos s := rfl
theorem exec_arrayTestRead (core : Nat) (pos : Nat) (value : Nat) (s : State) :
    exec (.arrayTestRead core pos value) s = execArrayTestRead core pos value s := rfl
theorem exec_arrayTestReadDone (core : Nat) (pos : Nat) (s : State) :
    exec (.arrayTestReadDone core pos) s = execArrayTestReadDone core pos s := rfl
theorem exec_tileCheckComplete (core : Nat) (pos : Nat) (s : State) :
    exec (.tileCheckComplete core pos) s = execTileCheckComplete core pos s := rfl
theorem exec_groupCompare (core : Nat) (s : State) : exec (.groupCompare core) s = execGroupCompare core s := rfl
theorem exec_arbitrationComplete (primary : Nat) (missP : Nat) (missS : Nat) (s : State) :
    exec (.arbitrationComplete primary missP missS) s = execArbitrationComplete primary missP missS s := rfl
theorem exec_layerPassComplete (inst : Nat) (layer : Nat) (s : State) :
    exec (.layerPassComplete inst layer) s = execLayerPassComplete inst layer s := rfl
theorem exec_resetFallback (inst : Nat) (port : Port) (s : State) :
    exec (.resetFallback inst port) s = execResetFallback inst port s := rfl
theorem exec_calTurnDue (core : Nat) (s : State) : exec (.calTurnDue core) s = execCalTurnDue core s := rfl
theorem exec_spareArrayReady (core : Nat) (frontOk : Bool) (backOk : Bool) (s : State) :
    exec (.spareArrayReady core frontOk backOk) s = execSpareArrayReady core frontOk backOk s := rfl
theorem exec_calComparisonComplete (core : Nat) (conv : List (List Nat)) (overs : List (Nat × Nat)) (s : State) :
    exec (.calComparisonComplete core conv overs) s = execCalComparisonComplete core conv overs s := rfl
theorem exec_calFitComplete (core : Nat) (s : State) : exec (.calFitComplete core) s = execCalFitComplete core s := rfl
theorem exec_calTurnLimit (core : Nat) (s : State) : exec (.calTurnLimit core) s = execCalTurnLimit core s := rfl
theorem exec_calPrioritise (core : Nat) (pos : Nat) (port : Port) (s : State) :
    exec (.calPrioritise core pos port) s = execCalPrioritise core pos port s := rfl
theorem exec_calSave (core : Nat) (port : Port) (s : State) : exec (.calSave core port) s = execCalSave core port s := rfl
theorem exec_hourlySave (s : State) : exec (.hourlySave) s = execHourlySave s := rfl
theorem exec_calRecordWriteComplete (die : Nat) (verified : Bool) (s : State) :
    exec (.calRecordWriteComplete die verified) s = execCalRecordWriteComplete die verified s := rfl
theorem exec_saveHoldExpiry (die : Nat) (core : Nat) (pos : Nat) (s : State) :
    exec (.saveHoldExpiry die core pos) s = execSaveHoldExpiry die core pos s := rfl
theorem exec_waitTimeout (core : Nat) (thread : Nat) (s : State) :
    exec (.waitTimeout core thread) s = execWaitTimeout core thread s := rfl
theorem exec_threadWatchdog (core : Nat) (thread : Nat) (s : State) :
    exec (.threadWatchdog core thread) s = execThreadWatchdog core thread s := rfl
theorem exec_parityFailure (core : Nat) (flight : Nat) (path : Nat) (pos : Nat) (s : State) :
    exec (.parityFailure core flight path pos) s = execParityFailure core flight path pos s := rfl
theorem exec_instructionRetirement (core : Nat) (flight : Nat) (s : State) :
    exec (.instructionRetirement core flight) s = execInstructionRetirement core flight s := rfl
theorem exec_completionFault (core : Nat) (flight : Nat) (se : Bool) (s : State) :
    exec (.completionFault core flight se) s = execCompletionFault core flight se s := rfl
theorem exec_layerBoundary (core : Nat) (s : State) : exec (.layerBoundary core) s = execLayerBoundary core s := rfl
theorem exec_nop (u : Exec) (w : Nat) (s : State) : exec (.nop u w) s = execNop u w s := rfl
theorem exec_halt (u : Exec) (w : Nat) (s : State) : exec (.halt u w) s = execHalt u w s := rfl
theorem exec_fence (u : Exec) (w : Nat) (s : State) : exec (.fence u w) s = execFence u w s := rfl
theorem exec_layer (u : Exec) (w : Nat) (s : State) : exec (.layer u w) s = execLayer u w s := rfl
theorem exec_wait (u : Exec) (w : Nat) (s : State) : exec (.wait u w) s = execWait u w s := rfl
theorem exec_signal (u : Exec) (w : Nat) (s : State) : exec (.signal u w) s = execSignal u w s := rfl
theorem exec_sread (u : Exec) (w : Nat) (s : State) : exec (.sread u w) s = execSread u w s := rfl
theorem exec_br (u : Exec) (w : Nat) (s : State) : exec (.br u w) s = execBr u w s := rfl
theorem exec_call (u : Exec) (w : Nat) (s : State) : exec (.call u w) s = execCall u w s := rfl
theorem exec_jr (u : Exec) (w : Nat) (s : State) : exec (.jr u w) s = execJr u w s := rfl
theorem exec_loop (u : Exec) (w : Nat) (s : State) : exec (.loop u w) s = execLoop u w s := rfl
theorem exec_add (u : Exec) (w : Nat) (s : State) : exec (.add u w) s = execAdd u w s := rfl
theorem exec_sub (u : Exec) (w : Nat) (s : State) : exec (.sub u w) s = execSub u w s := rfl
theorem exec_mul (u : Exec) (w : Nat) (s : State) : exec (.mul u w) s = execMul u w s := rfl
theorem exec_and (u : Exec) (w : Nat) (s : State) : exec (.and u w) s = execAnd u w s := rfl
theorem exec_or (u : Exec) (w : Nat) (s : State) : exec (.or u w) s = execOr u w s := rfl
theorem exec_xor (u : Exec) (w : Nat) (s : State) : exec (.xor u w) s = execXor u w s := rfl
theorem exec_shl (u : Exec) (w : Nat) (s : State) : exec (.shl u w) s = execShl u w s := rfl
theorem exec_shr (u : Exec) (w : Nat) (s : State) : exec (.shr u w) s = execShr u w s := rfl
theorem exec_sar (u : Exec) (w : Nat) (s : State) : exec (.sar u w) s = execSar u w s := rfl
theorem exec_min (u : Exec) (w : Nat) (s : State) : exec (.min u w) s = execMin u w s := rfl
theorem exec_max (u : Exec) (w : Nat) (s : State) : exec (.max u w) s = execMax u w s := rfl
theorem exec_movi (u : Exec) (w : Nat) (s : State) : exec (.movi u w) s = execMovi u w s := rfl
theorem exec_movhi (u : Exec) (w : Nat) (s : State) : exec (.movhi u w) s = execMovhi u w s := rfl
theorem exec_cmpeq (u : Exec) (w : Nat) (s : State) : exec (.cmpeq u w) s = execCmpeq u w s := rfl
theorem exec_cmpne (u : Exec) (w : Nat) (s : State) : exec (.cmpne u w) s = execCmpne u w s := rfl
theorem exec_cmplt (u : Exec) (w : Nat) (s : State) : exec (.cmplt u w) s = execCmplt u w s := rfl
theorem exec_cmple (u : Exec) (w : Nat) (s : State) : exec (.cmple u w) s = execCmple u w s := rfl
theorem exec_cmpltu (u : Exec) (w : Nat) (s : State) : exec (.cmpltu u w) s = execCmpltu u w s := rfl
theorem exec_pand (u : Exec) (w : Nat) (s : State) : exec (.pand u w) s = execPand u w s := rfl
theorem exec_por (u : Exec) (w : Nat) (s : State) : exec (.por u w) s = execPor u w s := rfl
theorem exec_pnot (u : Exec) (w : Nat) (s : State) : exec (.pnot u w) s = execPnot u w s := rfl
theorem exec_vadd (u : Exec) (w : Nat) (s : State) : exec (.vadd u w) s = execVadd u w s := rfl
theorem exec_vsub (u : Exec) (w : Nat) (s : State) : exec (.vsub u w) s = execVsub u w s := rfl
theorem exec_vmul (u : Exec) (w : Nat) (s : State) : exec (.vmul u w) s = execVmul u w s := rfl
theorem exec_vfma (u : Exec) (w : Nat) (s : State) : exec (.vfma u w) s = execVfma u w s := rfl
theorem exec_vmax (u : Exec) (w : Nat) (s : State) : exec (.vmax u w) s = execVmax u w s := rfl
theorem exec_vmin (u : Exec) (w : Nat) (s : State) : exec (.vmin u w) s = execVmin u w s := rfl
theorem exec_vcvt (u : Exec) (w : Nat) (s : State) : exec (.vcvt u w) s = execVcvt u w s := rfl
theorem exec_vdiv (u : Exec) (w : Nat) (s : State) : exec (.vdiv u w) s = execVdiv u w s := rfl
theorem exec_vrcp (u : Exec) (w : Nat) (s : State) : exec (.vrcp u w) s = execVrcp u w s := rfl
theorem exec_vsqrt (u : Exec) (w : Nat) (s : State) : exec (.vsqrt u w) s = execVsqrt u w s := rfl
theorem exec_vrsqrt (u : Exec) (w : Nat) (s : State) : exec (.vrsqrt u w) s = execVrsqrt u w s := rfl
theorem exec_vexp (u : Exec) (w : Nat) (s : State) : exec (.vexp u w) s = execVexp u w s := rfl
theorem exec_vexp2 (u : Exec) (w : Nat) (s : State) : exec (.vexp2 u w) s = execVexp2 u w s := rfl
theorem exec_vlog (u : Exec) (w : Nat) (s : State) : exec (.vlog u w) s = execVlog u w s := rfl
theorem exec_vtanh (u : Exec) (w : Nat) (s : State) : exec (.vtanh u w) s = execVtanh u w s := rfl
theorem exec_vsig (u : Exec) (w : Nat) (s : State) : exec (.vsig u w) s = execVsig u w s := rfl
theorem exec_vsilu (u : Exec) (w : Nat) (s : State) : exec (.vsilu u w) s = execVsilu u w s := rfl
theorem exec_vgelu (u : Exec) (w : Nat) (s : State) : exec (.vgelu u w) s = execVgelu u w s := rfl
theorem exec_vrope (u : Exec) (w : Nat) (s : State) : exec (.vrope u w) s = execVrope u w s := rfl
theorem exec_vsum (u : Exec) (w : Nat) (s : State) : exec (.vsum u w) s = execVsum u w s := rfl
theorem exec_vrmax (u : Exec) (w : Nat) (s : State) : exec (.vrmax u w) s = execVrmax u w s := rfl
theorem exec_vdot (u : Exec) (w : Nat) (s : State) : exec (.vdot u w) s = execVdot u w s := rfl
theorem exec_viadd (u : Exec) (w : Nat) (s : State) : exec (.viadd u w) s = execViadd u w s := rfl
theorem exec_visub (u : Exec) (w : Nat) (s : State) : exec (.visub u w) s = execVisub u w s := rfl
theorem exec_vimul (u : Exec) (w : Nat) (s : State) : exec (.vimul u w) s = execVimul u w s := rfl
theorem exec_viand (u : Exec) (w : Nat) (s : State) : exec (.viand u w) s = execViand u w s := rfl
theorem exec_vior (u : Exec) (w : Nat) (s : State) : exec (.vior u w) s = execVior u w s := rfl
theorem exec_vixor (u : Exec) (w : Nat) (s : State) : exec (.vixor u w) s = execVixor u w s := rfl
theorem exec_vishl (u : Exec) (w : Nat) (s : State) : exec (.vishl u w) s = execVishl u w s := rfl
theorem exec_visar (u : Exec) (w : Nat) (s : State) : exec (.visar u w) s = execVisar u w s := rfl
theorem exec_strike (u : Exec) (w : Nat) (s : State) : exec (.strike u w) s = execStrike u w s := rfl
theorem exec_gset (u : Exec) (w : Nat) (s : State) : exec (.gset u w) s = execGset u w s := rfl
theorem exec_pload (u : Exec) (w : Nat) (s : State) : exec (.pload u w) s = execPload u w s := rfl
theorem exec_pswap (u : Exec) (w : Nat) (s : State) : exec (.pswap u w) s = execPswap u w s := rfl
theorem exec_chisel (u : Exec) (w : Nat) (s : State) : exec (.chisel u w) s = execChisel u w s := rfl
theorem exec_move (u : Exec) (w : Nat) (s : State) : exec (.move u w) s = execMove u w s := rfl
theorem exec_push (u : Exec) (w : Nat) (s : State) : exec (.push u w) s = execPush u w s := rfl
theorem exec_pop (u : Exec) (w : Nat) (s : State) : exec (.pop u w) s = execPop u w s := rfl
theorem exec_drop (u : Exec) (w : Nat) (s : State) : exec (.drop u w) s = execDrop u w s := rfl
theorem exec_sedispatch (u : Exec) (w : Nat) (s : State) : exec (.sedispatch u w) s = execSedispatch u w s := rfl
theorem exec_shand (u : Exec) (w : Nat) (s : State) : exec (.shand u w) s = execShand u w s := rfl
theorem exec_engineThreadStart (ped : Nat) (s : State) : exec (.engineThreadStart ped) s = execEngineThreadStart ped s := rfl
theorem exec_pgatherK (u : Exec) (w : Nat) (s : State) : exec (.pgatherK u w) s = execPgatherK u w s := rfl
theorem exec_pgatherV (u : Exec) (w : Nat) (s : State) : exec (.pgatherV u w) s = execPgatherV u w s := rfl
theorem exec_sinit (u : Exec) (w : Nat) (s : State) : exec (.sinit u w) s = execSinit u w s := rfl
theorem exec_sstep (u : Exec) (w : Nat) (s : State) : exec (.sstep u w) s = execSstep u w s := rfl
theorem exec_sacc (u : Exec) (w : Nat) (s : State) : exec (.sacc u w) s = execSacc u w s := rfl
theorem exec_snorm (u : Exec) (w : Nat) (s : State) : exec (.snorm u w) s = execSnorm u w s := rfl
theorem exec_scomb (u : Exec) (w : Nat) (s : State) : exec (.scomb u w) s = execScomb u w s := rfl
theorem exec_seret (u : Exec) (w : Nat) (s : State) : exec (.seret u w) s = execSeret u w s := rfl
theorem exec_scrubPassStart (core : Bool) (n : Nat) (mem : Nat) (s : State) :
    exec (.scrubPassStart core n mem) s = execScrubPassStart core n mem s := rfl
theorem exec_scrubRead (core : Bool) (n : Nat) (mem : Nat) (corrected : List Nat) (uncorrectable : List Nat) (s : State) :
    exec (.scrubRead core n mem corrected uncorrectable) s = execScrubRead core n mem corrected uncorrectable s := rfl
theorem exec_scratchpadRestart (core : Nat) (mem : Nat) (off : Nat) (s : State) :
    exec (.scratchpadRestart core mem off) s = execScratchpadRestart core mem off s := rfl
theorem exec_restoreComplete (core : Nat) (s : State) : exec (.restoreComplete core) s = execRestoreComplete core s := rfl
theorem exec_unify (core : Nat) (by_ : Port) (s : State) : exec (.unify core by_) s = execUnify core by_ s := rfl
theorem exec_resume (core : Nat) (by_ : Port) (s : State) : exec (.resume core by_) s = execResume core by_ s := rfl
theorem exec_unifiedEntry (core : Nat) (s : State) : exec (.unifiedEntry core) s = execUnifiedEntry core s := rfl
theorem exec_spmAccAddrWrite (core : Nat) (port : Port) (value : Nat) (s : State) :
    exec (.spmAccAddrWrite core port value) s = execSpmAccAddrWrite core port value s := rfl
theorem exec_spmAccDataHiWrite (core : Nat) (port : Port) (value : Nat) (s : State) :
    exec (.spmAccDataHiWrite core port value) s = execSpmAccDataHiWrite core port value s := rfl
theorem exec_transitBlockGrant (cluster : Nat) (s : State) :
    exec (.transitBlockGrant cluster) s = execTransitBlockGrant cluster s := rfl
theorem exec_write (msg : Nat) (s : State) : exec (.write msg) s = execWrite msg s := rfl
theorem exec_read (msg : Nat) (far : List Byte) (s : State) : exec (.read msg far) s = execRead msg far s := rfl
theorem exec_fabricSignal (msg : Nat) (s : State) : exec (.fabricSignal msg) s = execFabricSignal msg s := rfl
theorem exec_dispatch (msg : Nat) (s : State) : exec (.dispatch msg) s = execDispatch msg s := rfl
theorem exec_register (port : Port) (write : Bool) (off : Nat) (value : Nat) (s : State) :
    exec (.register port write off value) s = execRegister port write off value s := rfl
theorem exec_data (msg : Nat) (s : State) : exec (.data msg) s = execData msg s := rfl
theorem exec_ack (msg : Nat) (s : State) : exec (.ack msg) s = execAck msg s := rfl
theorem exec_nack (msg : Nat) (s : State) : exec (.nack msg) s = execNack msg s := rfl
theorem exec_fabricFlit (router : Nat) (net : Nat) (port : Nat) (num : Nat) (good : Bool) (kind : Nat) (resent : Nat) (age : Nat) (s : State) :
    exec (.fabricFlit router net port num good kind resent age) s = execFabricFlit router net port num good kind resent age s := rfl
theorem exec_linkAckTimeout (router : Nat) (net : Nat) (port : Nat) (resent : Nat) (s : State) :
    exec (.linkAckTimeout router net port resent) s = execLinkAckTimeout router net port resent s := rfl
theorem exec_linkLivenessTimeout (router : Nat) (net : Nat) (port : Nat) (s : State) :
    exec (.linkLivenessTimeout router net port) s = execLinkLivenessTimeout router net port s := rfl
theorem exec_idleFlitTimer (router : Nat) (net : Nat) (port : Nat) (s : State) :
    exec (.idleFlitTimer router net port) s = execIdleFlitTimer router net port s := rfl
theorem exec_urgencyPromotion (msg : Nat) (s : State) : exec (.urgencyPromotion msg) s = execUrgencyPromotion msg s := rfl
theorem exec_requestTimeout (msg : Nat) (s : State) : exec (.requestTimeout msg) s = execRequestTimeout msg s := rfl
theorem exec_dramAccessComplete (ped : Nat) (addr : Nat) (write : Bool) (onDie : Nat) (secded : Nat) (bad : List Nat) (s : State) :
    exec (.dramAccessComplete ped addr write onDie secded bad) s = execDramAccessComplete ped addr write onDie secded bad s := rfl
theorem exec_dramTimeout (ped : Nat) (die : Nat) (s : State) :
    exec (.dramTimeout ped die) s = execDramTimeout ped die s := rfl
theorem exec_refreshDue (ped : Nat) (busy : Bool) (s : State) :
    exec (.refreshDue ped busy) s = execRefreshDue ped busy s := rfl
theorem exec_patrolPassStart (ped : Nat) (s : State) : exec (.patrolPassStart ped) s = execPatrolPassStart ped s := rfl
theorem exec_ftrBaseWrite (port : Port) (inst : Nat) (value : Nat) (s : State) :
    exec (.ftrBaseWrite port inst value) s = execFtrBaseWrite port inst value s := rfl
theorem exec_ftrCtlWrite (port : Port) (inst : Nat) (value : Nat) (s : State) :
    exec (.ftrCtlWrite port inst value) s = execFtrCtlWrite port inst value s := rfl
theorem exec_spillComplete (inst : Nat) (slot : Nat) (s : State) :
    exec (.spillComplete inst slot) s = execSpillComplete inst slot s := rfl
theorem exec_spillRestoreComplete (inst : Nat) (slot : Nat) (bytes : List Byte) (s : State) :
    exec (.spillRestoreComplete inst slot bytes) s = execSpillRestoreComplete inst slot bytes s := rfl
theorem exec_farTierLegError (inst : Nat) (slot : Nat) (port : Nat) (s : State) :
    exec (.farTierLegError inst slot port) s = execFarTierLegError inst slot port s := rfl
theorem exec_farTierLinkWaitTimeout (inst : Nat) (slot : Nat) (port : Nat) (s : State) :
    exec (.farTierLinkWaitTimeout inst slot port) s = execFarTierLinkWaitTimeout inst slot port s := rfl
theorem exec_kvFlushComplete (inst : Nat) (slot : Nat) (sub : Nat) (s : State) :
    exec (.kvFlushComplete inst slot sub) s = execKvFlushComplete inst slot sub s := rfl
theorem exec_walkerLineFetch (ped : Nat) (s : State) : exec (.walkerLineFetch ped) s = execWalkerLineFetch ped s := rfl
theorem exec_pageBufferPrefetch (ped : Nat) (thread : Nat) (value : Bool) (s : State) :
    exec (.pageBufferPrefetch ped thread value) s = execPageBufferPrefetch ped thread value s := rfl
theorem exec_pfxLoad (slot : Nat) (port : Port) (inst : Nat) (s : State) :
    exec (.pfxLoad slot port inst) s = execPfxLoad slot port inst s := rfl
theorem exec_pfxUnload (slot : Nat) (port : Port) (s : State) :
    exec (.pfxUnload slot port) s = execPfxUnload slot port s := rfl
theorem exec_prefixLoadComplete (slot : Nat) (image : List Byte) (s : State) :
    exec (.prefixLoadComplete slot image) s = execPrefixLoadComplete slot image s := rfl
theorem exec_prefixFetchError (slot : Nat) (s : State) : exec (.prefixFetchError slot) s = execPrefixFetchError slot s := rfl
theorem exec_prefixFetchTimeout (slot : Nat) (s : State) :
    exec (.prefixFetchTimeout slot) s = execPrefixFetchTimeout slot s := rfl
theorem exec_bind (slot : Nat) (port : Port) (s : State) : exec (.bind slot port) s = execBind slot port s := rfl
theorem exec_unbind (slot : Nat) (port : Port) (s : State) : exec (.unbind slot port) s = execUnbind slot port s := rfl
theorem exec_load (slot : Nat) (inst : Nat) (port : Port) (s : State) :
    exec (.load slot inst port) s = execLoad slot inst port s := rfl
theorem exec_unload (slot : Nat) (inst : Nat) (port : Port) (s : State) :
    exec (.unload slot inst port) s = execUnload slot inst port s := rfl
theorem exec_switch (slot : Nat) (inst : Nat) (nextStep : Bool) (port : Port) (s : State) :
    exec (.switch slot inst nextStep port) s = execSwitch slot inst nextStep port s := rfl
theorem exec_reload (slot : Nat) (inst : Nat) (port : Port) (s : State) :
    exec (.reload slot inst port) s = execReload slot inst port s := rfl
theorem exec_bindFetchComplete (slot : Nat) (error : Bool) (header : List Byte) (sections : List (List Byte)) (s : State) :
    exec (.bindFetchComplete slot error header sections) s = execBindFetchComplete slot error header sections s := rfl
theorem exec_bindFetchTimeout (slot : Nat) (s : State) : exec (.bindFetchTimeout slot) s = execBindFetchTimeout slot s := rfl
theorem exec_loadQueueHead (s : State) : exec (.loadQueueHead) s = execLoadQueueHead s := rfl
theorem exec_tileRecordFetched (error : Bool) (bytes : List Byte) (farError : Option Bool) (s : State) :
    exec (.tileRecordFetched error bytes farError) s = execTileRecordFetched error bytes farError s := rfl
theorem exec_setLoadComplete (s : State) : exec (.setLoadComplete) s = execSetLoadComplete s := rfl
theorem exec_loadTimeout (slot : Nat) (inst : Nat) (s : State) :
    exec (.loadTimeout slot inst) s = execLoadTimeout slot inst s := rfl
theorem exec_sqTailWrite (ring : Nat) (port : Port) (value : Nat) (s : State) :
    exec (.sqTailWrite ring port value) s = execSqTailWrite ring port value s := rfl
theorem exec_sqCfgWrite (ring : Nat) (port : Port) (value : Nat) (s : State) :
    exec (.sqCfgWrite ring port value) s = execSqCfgWrite ring port value s := rfl
theorem exec_rqHeadWrite (ring : Nat) (port : Port) (value : Nat) (s : State) :
    exec (.rqHeadWrite ring port value) s = execRqHeadWrite ring port value s := rfl
theorem exec_rqCfgWrite (ring : Nat) (port : Port) (value : Nat) (s : State) :
    exec (.rqCfgWrite ring port value) s = execRqCfgWrite ring port value s := rfl
theorem exec_cmdTailWrite (port : Port) (value : Nat) (s : State) :
    exec (.cmdTailWrite port value) s = execCmdTailWrite port value s := rfl
theorem exec_evrHeadWrite (port : Port) (value : Nat) (s : State) :
    exec (.evrHeadWrite port value) s = execEvrHeadWrite port value s := rfl
theorem exec_requestDescriptor (ring : Nat) (error : Bool) (bytes : List Byte) (s : State) :
    exec (.requestDescriptor ring error bytes) s = execRequestDescriptor ring error bytes s := rfl
theorem exec_listFetchComplete (ring : Nat) (error : Bool) (tokens : List Nat) (s : State) :
    exec (.listFetchComplete ring error tokens) s = execListFetchComplete ring error tokens s := rfl
theorem exec_requestAccepted (ring : Nat) (s : State) : exec (.requestAccepted ring) s = execRequestAccepted ring s := rfl
theorem exec_stepBoundary (inst : Nat) (s : State) : exec (.stepBoundary inst) s = execStepBoundary inst s := rfl
theorem exec_stepStart (inst : Nat) (delayed : Bool) (s : State) :
    exec (.stepStart inst delayed) s = execStepStart inst delayed s := rfl
theorem exec_promptChunkFetch (inst : Nat) (slot : Nat) (error : Bool) (tokens : List Nat) (s : State) :
    exec (.promptChunkFetch inst slot error tokens) s = execPromptChunkFetch inst slot error tokens s := rfl
theorem exec_recordBatchWrite (ring : Nat) (s : State) : exec (.recordBatchWrite ring) s = execRecordBatchWrite ring s := rfl
theorem exec_recordReadbackComplete (ring : Nat) (s : State) :
    exec (.recordReadbackComplete ring) s = execRecordReadbackComplete ring s := rfl
theorem exec_stepLimitExpiry (inst : Nat) (s : State) : exec (.stepLimitExpiry inst) s = execStepLimitExpiry inst s := rfl
theorem exec_evict (port : Port) (inst : Nat) (slot : Nat) (s : State) :
    exec (.evict port inst slot) s = execEvict port inst slot s := rfl
theorem exec_evictAll (port : Port) (inst : Nat) (s : State) : exec (.evictAll port inst) s = execEvictAll port inst s := rfl
theorem exec_hold (port : Port) (inst : Nat) (s : State) : exec (.hold port inst) s = execHold port inst s := rfl
theorem exec_release (port : Port) (inst : Nat) (s : State) : exec (.release port inst) s = execRelease port inst s := rfl
theorem exec_handoffSlice (core : Nat) (flight : Nat) (s : State) :
    exec (.handoffSlice core flight) s = execHandoffSlice core flight s := rfl
theorem exec_sampleRowComplete (inst : Nat) (row : Nat) (s : State) :
    exec (.sampleRowComplete inst row) s = execSampleRowComplete inst row s := rfl
theorem exec_grammarFetchComplete (slot : Nat) (line : Nat) (error : Bool) (bytes : List Byte) (inst : Nat) (seq : Nat) (s : State) :
    exec (.grammarFetchComplete slot line error bytes inst seq) s = execGrammarFetchComplete slot line error bytes inst seq s := rfl
theorem exec_grammarReadTimeout (slot : Nat) (inst : Nat) (seq : Nat) (s : State) :
    exec (.grammarReadTimeout slot inst seq) s = execGrammarReadTimeout slot inst seq s := rfl
theorem exec_grmLoad (slot : Nat) (port : Port) (s : State) : exec (.grmLoad slot port) s = execGrmLoad slot port s := rfl
theorem exec_grmUnload (slot : Nat) (port : Port) (s : State) :
    exec (.grmUnload slot port) s = execGrmUnload slot port s := rfl
theorem exec_grammarLoadComplete (slot : Nat) (error : Bool) (image : List Byte) (s : State) :
    exec (.grammarLoadComplete slot error image) s = execGrammarLoadComplete slot error image s := rfl
theorem exec_grammarLoadTimeout (slot : Nat) (s : State) :
    exec (.grammarLoadTimeout slot) s = execGrammarLoadTimeout slot s := rfl
theorem exec_bar4Read (port : Nat) (off : Nat) (size : Nat) (s : State) :
    exec (.bar4Read port off size) s = execBar4Read port off size s := rfl
theorem exec_bar4Write (port : Nat) (off : Nat) (data : List Byte) (s : State) :
    exec (.bar4Write port off data) s = execBar4Write port off data s := rfl
theorem exec_commandEntry (entry : List Byte) (s : State) : exec (.commandEntry entry) s = execCommandEntry entry s := rfl
theorem exec_commandRingNop (entry : Nat) (seq : Nat) (s : State) :
    exec (.commandRingNop entry seq) s = execCommandRingNop entry seq s := rfl
theorem exec_wakeHint (time : Nat) (s : State) : exec (.wakeHint time) s = execWakeHint time s := rfl
theorem exec_farTier (inst : Nat) (port : Nat) (valid : Bool) (base : Nat) (s : State) :
    exec (.farTier inst port valid base) s = execFarTier inst port valid base s := rfl
theorem exec_irqHoldExpiry (source : Nat) (s : State) : exec (.irqHoldExpiry source) s = execIrqHoldExpiry source s := rfl
theorem exec_msixPendingSend (port : Nat) (vector : Nat) (s : State) :
    exec (.msixPendingSend port vector) s = execMsixPendingSend port vector s := rfl
theorem exec_eventRingCopy (s : State) : exec (.eventRingCopy) s = execEventRingCopy s := rfl
theorem exec_setEndpointId (eid : Nat) (s : State) : exec (.setEndpointId eid) s = execSetEndpointId eid s := rfl
theorem exec_getEndpointId (s : State) : exec (.getEndpointId) s = execGetEndpointId s := rfl
theorem exec_getMctpVersionSupport (s : State) : exec (.getMctpVersionSupport) s = execGetMctpVersionSupport s := rfl
theorem exec_getMessageTypeSupport (s : State) : exec (.getMessageTypeSupport) s = execGetMessageTypeSupport s := rfl
theorem exec_unsupportedMessageType (type : Nat) (s : State) :
    exec (.unsupportedMessageType type) s = execUnsupportedMessageType type s := rfl
theorem exec_read32 (requester : Nat) (form : MgmtForm) (off : Nat) (s : State) :
    exec (.read32 requester form off) s = execRead32 requester form off s := rfl
theorem exec_write32 (requester : Nat) (form : MgmtForm) (off : Nat) (value : Nat) (s : State) :
    exec (.write32 requester form off value) s = execWrite32 requester form off value s := rfl
theorem exec_readBlock (requester : Nat) (form : MgmtForm) (off : Nat) (count : Nat) (s : State) :
    exec (.readBlock requester form off count) s = execReadBlock requester form off count s := rfl
theorem exec_alertResponse (s : State) : exec (.alertResponse) s = execAlertResponse s := rfl
theorem exec_icpenFlit (n : Nat) (good : Bool) (nak : Bool) (type : Nat) (seq : Nat) (ack : Nat) (credit : Nat) (corrected : Nat) (uncorrectable : Nat) (s : State) :
    exec (.icpenFlit n good nak type seq ack credit corrected uncorrectable) s = execIcpenFlit n good nak type seq ack credit corrected uncorrectable s := rfl
theorem exec_icpenAckTimeout (n : Nat) (s : State) : exec (.icpenAckTimeout n) s = execIcpenAckTimeout n s := rfl
theorem exec_linkSilenceTimeout (n : Nat) (s : State) : exec (.linkSilenceTimeout n) s = execLinkSilenceTimeout n s := rfl
theorem exec_laneDrop (n : Nat) (lane : Nat) (cause : Nat) (s : State) :
    exec (.laneDrop n lane cause) s = execLaneDrop n lane cause s := rfl
theorem exec_lanedrop (n : Nat) (lane : Nat) (s : State) : exec (.lanedrop n lane) s = execLanedrop n lane s := rfl
theorem exec_discoveryBurst (n : Nat) (s : State) : exec (.discoveryBurst n) s = execDiscoveryBurst n s := rfl
theorem exec_trainingPatternDetected (n : Nat) (s : State) :
    exec (.trainingPatternDetected n) s = execTrainingPatternDetected n s := rfl
theorem exec_trainingTimeout (n : Nat) (s : State) : exec (.trainingTimeout n) s = execTrainingTimeout n s := rfl
theorem exec_trainingComplete (n : Nat) (rev : Nat) (lanes : Nat) (s : State) :
    exec (.trainingComplete n rev lanes) s = execTrainingComplete n rev lanes s := rfl
theorem exec_hello (n : Nat) (payload : List Byte) (s : State) : exec (.hello n payload) s = execHello n payload s := rfl
theorem exec_helloTimer (n : Nat) (s : State) : exec (.helloTimer n) s = execHelloTimer n s := rfl
theorem exec_helloTimeout (n : Nat) (s : State) : exec (.helloTimeout n) s = execHelloTimeout n s := rfl
theorem exec_authShare (n : Nat) (payload : List Byte) (s : State) :
    exec (.authShare n payload) s = execAuthShare n payload s := rfl
theorem exec_authCert (n : Nat) (payload : List Byte) (s : State) :
    exec (.authCert n payload) s = execAuthCert n payload s := rfl
theorem exec_authSig (n : Nat) (payload : List Byte) (s : State) :
    exec (.authSig n payload) s = execAuthSig n payload s := rfl
theorem exec_authResult (n : Nat) (result : Nat) (s : State) :
    exec (.authResult n result) s = execAuthResult n result s := rfl
theorem exec_authTimeout (n : Nat) (s : State) : exec (.authTimeout n) s = execAuthTimeout n s := rfl
theorem exec_authHoldExpiry (n : Nat) (s : State) : exec (.authHoldExpiry n) s = execAuthHoldExpiry n s := rfl
theorem exec_linkRekey (n : Nat) (s : State) : exec (.linkRekey n) s = execLinkRekey n s := rfl
theorem exec_adopt (n : Nat) (port : Port) (s : State) : exec (.adopt n port) s = execAdopt n port s := rfl
theorem exec_reject (n : Nat) (port : Port) (s : State) : exec (.reject n port) s = execReject n port s := rfl
theorem exec_retrain (n : Nat) (port : Port) (s : State) : exec (.retrain n port) s = execRetrain n port s := rfl
theorem exec_icpenDataMessage (n : Nat) (stream : Nat) (op : Nat) (fmt : Nat) (dec : Nat) (bytes : List Byte) (s : State) :
    exec (.icpenDataMessage n stream op fmt dec bytes) s = execIcpenDataMessage n stream op fmt dec bytes s := rfl
theorem exec_plan (n : Nat) (inst : Nat) (maxSeqs : Nat) (frames : Nat) (pfxFrames : Nat) (gen : Nat) (s : State) :
    exec (.plan n inst maxSeqs frames pfxFrames gen) s = execPlan n inst maxSeqs frames pfxFrames gen s := rfl
theorem exec_step (n : Nat) (block : List Byte) (descs : List (Nat × List Byte × List Nat)) (s : State) :
    exec (.step n block descs) s = execStep n block descs s := rfl
theorem exec_result (n : Nat) (entries : List (Nat × Nat × Nat × Nat × Bool)) (s : State) :
    exec (.result n entries) s = execResult n entries s := rfl
theorem exec_short (n : Nat) (slots : List Nat) (s : State) : exec (.short n slots) s = execShort n slots s := rfl
theorem exec_digest (port : Nat) (group : Nat) (inst : Nat) (complete : Bool) (voting : Bool) (hopsLeft : Nat) (interval : Nat) (round : Nat) (join : Nat) (modelId : Nat) (crc : Nat) (modular : Nat) (hash : BitVec 384) (s : State) :
    exec (.digest port group inst complete voting hopsLeft interval round join modelId crc modular hash) s = execDigest port group inst complete voting hopsLeft interval round join modelId crc modular hash s := rfl
theorem exec_digestEvaluationTimeout (inst : Nat) (s : State) :
    exec (.digestEvaluationTimeout inst) s = execDigestEvaluationTimeout inst s := rfl
theorem exec_frontPlaneReady (core : Nat) (sumsOk : Bool) (s : State) :
    exec (.frontPlaneReady core sumsOk) s = execFrontPlaneReady core sumsOk s := rfl
theorem exec_reserveCoreTakeover (core : Nat) (s : State) :
    exec (.reserveCoreTakeover core) s = execReserveCoreTakeover core s := rfl
theorem exec_fatalCountWrite (port : Port) (value : Nat) (s : State) :
    exec (.fatalCountWrite port value) s = execFatalCountWrite port value s := rfl
theorem exec_fieldTestStart (port : Port) (parts : Nat) (target : Nat) (spacing : Nat) (s : State) :
    exec (.fieldTestStart port parts target spacing) s = execFieldTestStart port parts target spacing s := rfl
theorem exec_fieldTestAbort (port : Port) (target : Nat) (s : State) :
    exec (.fieldTestAbort port target) s = execFieldTestAbort port target s := rfl
theorem exec_fieldTestSliceEnd (target : Nat) (finished : Bool) (failed : Bool) (pos : Nat) (s : State) :
    exec (.fieldTestSliceEnd target finished failed pos) s = execFieldTestSliceEnd target finished failed pos s := rfl
theorem exec_conversionSlot (slice : Nat) (code : Int) (overload : Bool) (s : State) :
    exec (.conversionSlot slice code overload) s = execConversionSlot slice code overload s := rfl
theorem exec_slotTimeout (slice : Nat) (s : State) : exec (.slotTimeout slice) s = execSlotTimeout slice s := rfl
theorem exec_roundEnd (cores : List Nat) (conversions : List Nat) (sram : List Nat) (frieze : List Nat) (lanes : List Nat) (oscPpm : Int) (s : State) :
    exec (.roundEnd cores conversions sram frieze lanes oscPpm) s = execRoundEnd cores conversions sram frieze lanes oscPpm s := rfl
theorem exec_hkaInjTrigWrite (port : Port) (value : Nat) (s : State) :
    exec (.hkaInjTrigWrite port value) s = execHkaInjTrigWrite port value s := rfl
theorem exec_spareVisitStart (s : State) : exec (.spareVisitStart) s = execSpareVisitStart s := rfl
theorem exec_getVersion (transport : Nat) (s : State) : exec (.getVersion transport) s = execGetVersion transport s := rfl
theorem exec_getCapabilities (transport : Nat) (s : State) :
    exec (.getCapabilities transport) s = execGetCapabilities transport s := rfl
theorem exec_negotiateAlgorithms (transport : Nat) (s : State) :
    exec (.negotiateAlgorithms transport) s = execNegotiateAlgorithms transport s := rfl
theorem exec_getDigests (transport : Nat) (s : State) : exec (.getDigests transport) s = execGetDigests transport s := rfl
theorem exec_getCertificate (transport : Nat) (slot : Nat) (off : Nat) (len : Nat) (s : State) :
    exec (.getCertificate transport slot off len) s = execGetCertificate transport slot off len s := rfl
theorem exec_challenge (transport : Nat) (slot : Nat) (s : State) :
    exec (.challenge transport slot) s = execChallenge transport slot s := rfl
theorem exec_getMeasurements (transport : Nat) (operation : Nat) (signed : Bool) (s : State) :
    exec (.getMeasurements transport operation signed) s = execGetMeasurements transport operation signed s := rfl
theorem exec_keyExchange (transport : Nat) (s : State) : exec (.keyExchange transport) s = execKeyExchange transport s := rfl
theorem exec_finish (transport : Nat) (session : Nat) (ok : Bool) (s : State) :
    exec (.finish transport session ok) s = execFinish transport session ok s := rfl
theorem exec_heartbeat (transport : Nat) (session : Nat) (ok : Bool) (s : State) :
    exec (.heartbeat transport session ok) s = execHeartbeat transport session ok s := rfl
theorem exec_keyUpdate (transport : Nat) (session : Nat) (ok : Bool) (s : State) :
    exec (.keyUpdate transport session ok) s = execKeyUpdate transport session ok s := rfl
theorem exec_endSession (transport : Nat) (session : Nat) (ok : Bool) (s : State) :
    exec (.endSession transport session ok) s = execEndSession transport session ok s := rfl
theorem exec_spdmUnsupportedRequest (transport : Nat) (code : Nat) (s : State) :
    exec (.spdmUnsupportedRequest transport code) s = execSpdmUnsupportedRequest transport code s := rfl
theorem exec_enrol (transport : Nat) (session : Option Nat) (count : Nat) (hashes : List (BitVec 384)) (s : State) :
    exec (.enrol transport session count hashes) s = execEnrol transport session count hashes s := rfl
theorem exec_enrolComplete (s : State) : exec (.enrolComplete) s = execEnrolComplete s := rfl
theorem exec_ownerProve (transport : Nat) (session : Option Nat) (slot : Nat) (key : List Byte) (sig : List Byte) (s : State) :
    exec (.ownerProve transport session slot key sig) s = execOwnerProve transport session slot key sig s := rfl
theorem exec_revoke (transport : Nat) (session : Option Nat) (slot : Nat) (s : State) :
    exec (.revoke transport session slot) s = execRevoke transport session slot s := rfl
theorem exec_setWeightKey (transport : Nat) (session : Option Nat) (slot : Nat) (key : BitVec 512) (s : State) :
    exec (.setWeightKey transport session slot key) s = execSetWeightKey transport session slot key s := rfl
theorem exec_clearWeightKey (transport : Nat) (session : Option Nat) (slot : Nat) (s : State) :
    exec (.clearWeightKey transport session slot) s = execClearWeightKey transport session slot s := rfl
theorem exec_debugUnlock (source : Nat) (token : List Byte) (s : State) :
    exec (.debugUnlock source token) s = execDebugUnlock source token s := rfl
theorem exec_unlockVerifyComplete (s : State) : exec (.unlockVerifyComplete) s = execUnlockVerifyComplete s := rfl
theorem exec_lockoutExpiry (s : State) : exec (.lockoutExpiry) s = execLockoutExpiry s := rfl
theorem exec_relock (s : State) : exec (.relock) s = execRelock s := rfl
theorem exec_newNonce (s : State) : exec (.newNonce) s = execNewNonce s := rfl
theorem exec_storeWriteComplete (record : Nat) (ok : Bool) (s : State) :
    exec (.storeWriteComplete record ok) s = execStoreWriteComplete record ok s := rfl
theorem exec_idcode (s : State) : exec (.idcode) s = execIdcode s := rfl
theorem exec_bypass (s : State) : exec (.bypass) s = execBypass s := rfl
theorem exec_samplePreload (pins : Nat) (preload : Nat) (s : State) :
    exec (.samplePreload pins preload) s = execSamplePreload pins preload s := rfl
theorem exec_extest (s : State) : exec (.extest) s = execExtest s := rfl
theorem exec_deadlinePassed (inst : Nat) (slot : Nat) (s : State) :
    exec (.deadlinePassed inst slot) s = execDeadlinePassed inst slot s := rfl
theorem exec_backPlaneReady (core : Nat) (sumsOk : Bool) (s : State) :
    exec (.backPlaneReady core sumsOk) s = execBackPlaneReady core sumsOk s := rfl
theorem exec_cmdCfgWrite (port : Port) (value : Nat) (s : State) :
    exec (.cmdCfgWrite port value) s = execCmdCfgWrite port value s := rfl
theorem exec_evrCfgWrite (port : Port) (value : Nat) (s : State) :
    exec (.evrCfgWrite port value) s = execEvrCfgWrite port value s := rfl
theorem exec_eventRingReadbackComplete (s : State) :
    exec (.eventRingReadbackComplete) s = execEventRingReadbackComplete s := rfl
theorem exec_d0ToD3hot (port : Nat) (s : State) : exec (.d0ToD3hot port) s = execD0ToD3hot port s := rfl
theorem exec_doeDiscovery (index : Nat) (s : State) : exec (.doeDiscovery index) s = execDoeDiscovery index s := rfl
theorem exec_vinValidBegins (s : State) : exec (.vinValidBegins) s = execVinValidBegins s := rfl
theorem exec_inputWarningCleared (s : State) : exec (.inputWarningCleared) s = execInputWarningCleared s := rfl
theorem exec_ieee11496Instructions (s : State) : exec (.ieee11496Instructions) s = execIeee11496Instructions s := rfl

end Sys2Proof.Machine
end

