-- ==== Sys2Proof/Laws/Follows.lean ====
section
/-!
SUPPORT. The relation `State.Follows`: it is a preorder, it lifts over conditionals, lists and updates of components that its
mask names, and the operations of Machine/ keep it.
-/
namespace Sys2Proof.Machine
open Sys2Proof

/-- The state with every component that the mask names put at its reset value. -/
def State.erase (m : Nat) (s : State) : State :=
  { s with
    time := bif m.testBit 0 then State.reset.time else s.time
    timeRuns := bif m.testBit 1 then State.reset.timeRuns else s.timeRuns
    freeCtr := bif m.testBit 2 then State.reset.freeCtr else s.freeCtr
    out := bif m.testBit 3 then State.reset.out else s.out
    regs := bif m.testBit 4 then State.reset.regs else s.regs
    latchHi := bif m.testBit 5 then State.reset.latchHi else s.latchHi
    heldLow := bif m.testBit 6 then State.reset.heldLow else s.heldLow
    rwlLocked := bif m.testBit 7 then State.reset.rwlLocked else s.rwlLocked
    log := bif m.testBit 8 then State.reset.log else s.log
    irq := bif m.testBit 9 then State.reset.irq else s.irq
    fuses := bif m.testBit 10 then State.reset.fuses else s.fuses
    arm := bif m.testBit 11 then State.reset.arm else s.arm
    img := bif m.testBit 12 then State.reset.img else s.img
    armFloor := bif m.testBit 13 then State.reset.armFloor else s.armFloor
    heldSeal := bif m.testBit 14 then State.reset.heldSeal else s.heldSeal
    arrays := bif m.testBit 15 then State.reset.arrays else s.arrays
    fmts := bif m.testBit 16 then State.reset.fmts else s.fmts
    fmtResets := bif m.testBit 17 then State.reset.fmtResets else s.fmtResets
    cals := bif m.testBit 18 then State.reset.cals else s.cals
    calStores := bif m.testBit 19 then State.reset.calStores else s.calStores
    calSaves := bif m.testBit 20 then State.reset.calSaves else s.calSaves
    cores := bif m.testBit 21 then State.reset.cores else s.cores
    clusters := bif m.testBit 22 then State.reset.clusters else s.clusters
    engines := bif m.testBit 23 then State.reset.engines else s.engines
    handoffs := bif m.testBit 24 then State.reset.handoffs else s.handoffs
    msgs := bif m.testBit 25 then State.reset.msgs else s.msgs
    nextMsg := bif m.testBit 26 then State.reset.nextMsg else s.nextMsg
    lanes := bif m.testBit 27 then State.reset.lanes else s.lanes
    slices := bif m.testBit 28 then State.reset.slices else s.slices
    unreachable := bif m.testBit 29 then State.reset.unreachable else s.unreachable
    paced := bif m.testBit 30 then State.reset.paced else s.paced
    peds := bif m.testBit 31 then State.reset.peds else s.peds
    kvSeqs := bif m.testBit 32 then State.reset.kvSeqs else s.kvSeqs
    parts := bif m.testBit 33 then State.reset.parts else s.parts
    kvPools := bif m.testBit 34 then State.reset.kvPools else s.kvPools
    prefixes := bif m.testBit 35 then State.reset.prefixes else s.prefixes
    spills := bif m.testBit 36 then State.reset.spills else s.spills
    emptyMarks := bif m.testBit 37 then State.reset.emptyMarks else s.emptyMarks
    flushing := bif m.testBit 38 then State.reset.flushing else s.flushing
    noFrame := bif m.testBit 39 then State.reset.noFrame else s.noFrame
    wslots := bif m.testBit 40 then State.reset.wslots else s.wslots
    winsts := bif m.testBit 41 then State.reset.winsts else s.winsts
    wloads := bif m.testBit 42 then State.reset.wloads else s.wloads
    insts := bif m.testBit 43 then State.reset.insts else s.insts
    seqs := bif m.testBit 44 then State.reset.seqs else s.seqs
    subRings := bif m.testBit 45 then State.reset.subRings else s.subRings
    recRings := bif m.testBit 46 then State.reset.recRings else s.recRings
    subLast := bif m.testBit 47 then State.reset.subLast else s.subLast
    schStatus := bif m.testBit 48 then State.reset.schStatus else s.schStatus
    schCmd := bif m.testBit 49 then State.reset.schCmd else s.schCmd
    smpRows := bif m.testBit 50 then State.reset.smpRows else s.smpRows
    grammars := bif m.testBit 51 then State.reset.grammars else s.grammars
    grmCache := bif m.testBit 52 then State.reset.grmCache else s.grmCache
    ports := bif m.testBit 53 then State.reset.ports else s.ports
    cmd := bif m.testBit 54 then State.reset.cmd else s.cmd
    evrInFlight := bif m.testBit 55 then State.reset.evrInFlight else s.evrInFlight
    mgmtEid := bif m.testBit 56 then State.reset.mgmtEid else s.mgmtEid
    araMask := bif m.testBit 57 then State.reset.araMask else s.araMask
    ftrStale := bif m.testBit 58 then State.reset.ftrStale else s.ftrStale
    icpIn := bif m.testBit 59 then State.reset.icpIn else s.icpIn
    icps := bif m.testBit 60 then State.reset.icps else s.icps
    sync := bif m.testBit 61 then State.reset.sync else s.sync
    replicas := bif m.testBit 62 then State.reset.replicas else s.replicas
    digests := bif m.testBit 63 then State.reset.digests else s.digests
    reserves := bif m.testBit 64 then State.reset.reserves else s.reserves
    takeovers := bif m.testBit 65 then State.reset.takeovers else s.takeovers
    arrTakeovers := bif m.testBit 66 then State.reset.arrTakeovers else s.arrTakeovers
    unbacked := bif m.testBit 67 then State.reset.unbacked else s.unbacked
    tests := bif m.testBit 68 then State.reset.tests else s.tests
    advice := bif m.testBit 69 then State.reset.advice else s.advice
    domains := bif m.testBit 70 then State.reset.domains else s.domains
    pwr := bif m.testBit 71 then State.reset.pwr else s.pwr
    clk := bif m.testBit 72 then State.reset.clk else s.clk
    hka := bif m.testBit 73 then State.reset.hka else s.hka
    thm := bif m.testBit 74 then State.reset.thm else s.thm
    weightKeys := bif m.testBit 75 then State.reset.weightKeys else s.weightKeys
    sec := bif m.testBit 76 then State.reset.sec else s.sec
    tapIr := bif m.testBit 77 then State.reset.tapIr else s.tapIr
    tapCells := bif m.testBit 78 then State.reset.tapCells else s.tapCells }

/-- `t` and `s` agree on every component outside the mask. -/
abbrev State.Agree (m : Nat) (t s : State) : Prop :=
  (bif m.testBit 0 then True else t.time = s.time) ∧
  (bif m.testBit 1 then True else t.timeRuns = s.timeRuns) ∧
  (bif m.testBit 2 then True else t.freeCtr = s.freeCtr) ∧
  (bif m.testBit 3 then True else t.out = s.out) ∧
  (bif m.testBit 4 then True else t.regs = s.regs) ∧
  (bif m.testBit 5 then True else t.latchHi = s.latchHi) ∧
  (bif m.testBit 6 then True else t.heldLow = s.heldLow) ∧
  (bif m.testBit 7 then True else t.rwlLocked = s.rwlLocked) ∧
  (bif m.testBit 8 then True else t.log = s.log) ∧
  (bif m.testBit 9 then True else t.irq = s.irq) ∧
  (bif m.testBit 10 then True else t.fuses = s.fuses) ∧
  (bif m.testBit 11 then True else t.arm = s.arm) ∧
  (bif m.testBit 12 then True else t.img = s.img) ∧
  (bif m.testBit 13 then True else t.armFloor = s.armFloor) ∧
  (bif m.testBit 14 then True else t.heldSeal = s.heldSeal) ∧
  (bif m.testBit 15 then True else t.arrays = s.arrays) ∧
  (bif m.testBit 16 then True else t.fmts = s.fmts) ∧
  (bif m.testBit 17 then True else t.fmtResets = s.fmtResets) ∧
  (bif m.testBit 18 then True else t.cals = s.cals) ∧
  (bif m.testBit 19 then True else t.calStores = s.calStores) ∧
  (bif m.testBit 20 then True else t.calSaves = s.calSaves) ∧
  (bif m.testBit 21 then True else t.cores = s.cores) ∧
  (bif m.testBit 22 then True else t.clusters = s.clusters) ∧
  (bif m.testBit 23 then True else t.engines = s.engines) ∧
  (bif m.testBit 24 then True else t.handoffs = s.handoffs) ∧
  (bif m.testBit 25 then True else t.msgs = s.msgs) ∧
  (bif m.testBit 26 then True else t.nextMsg = s.nextMsg) ∧
  (bif m.testBit 27 then True else t.lanes = s.lanes) ∧
  (bif m.testBit 28 then True else t.slices = s.slices) ∧
  (bif m.testBit 29 then True else t.unreachable = s.unreachable) ∧
  (bif m.testBit 30 then True else t.paced = s.paced) ∧
  (bif m.testBit 31 then True else t.peds = s.peds) ∧
  (bif m.testBit 32 then True else t.kvSeqs = s.kvSeqs) ∧
  (bif m.testBit 33 then True else t.parts = s.parts) ∧
  (bif m.testBit 34 then True else t.kvPools = s.kvPools) ∧
  (bif m.testBit 35 then True else t.prefixes = s.prefixes) ∧
  (bif m.testBit 36 then True else t.spills = s.spills) ∧
  (bif m.testBit 37 then True else t.emptyMarks = s.emptyMarks) ∧
  (bif m.testBit 38 then True else t.flushing = s.flushing) ∧
  (bif m.testBit 39 then True else t.noFrame = s.noFrame) ∧
  (bif m.testBit 40 then True else t.wslots = s.wslots) ∧
  (bif m.testBit 41 then True else t.winsts = s.winsts) ∧
  (bif m.testBit 42 then True else t.wloads = s.wloads) ∧
  (bif m.testBit 43 then True else t.insts = s.insts) ∧
  (bif m.testBit 44 then True else t.seqs = s.seqs) ∧
  (bif m.testBit 45 then True else t.subRings = s.subRings) ∧
  (bif m.testBit 46 then True else t.recRings = s.recRings) ∧
  (bif m.testBit 47 then True else t.subLast = s.subLast) ∧
  (bif m.testBit 48 then True else t.schStatus = s.schStatus) ∧
  (bif m.testBit 49 then True else t.schCmd = s.schCmd) ∧
  (bif m.testBit 50 then True else t.smpRows = s.smpRows) ∧
  (bif m.testBit 51 then True else t.grammars = s.grammars) ∧
  (bif m.testBit 52 then True else t.grmCache = s.grmCache) ∧
  (bif m.testBit 53 then True else t.ports = s.ports) ∧
  (bif m.testBit 54 then True else t.cmd = s.cmd) ∧
  (bif m.testBit 55 then True else t.evrInFlight = s.evrInFlight) ∧
  (bif m.testBit 56 then True else t.mgmtEid = s.mgmtEid) ∧
  (bif m.testBit 57 then True else t.araMask = s.araMask) ∧
  (bif m.testBit 58 then True else t.ftrStale = s.ftrStale) ∧
  (bif m.testBit 59 then True else t.icpIn = s.icpIn) ∧
  (bif m.testBit 60 then True else t.icps = s.icps) ∧
  (bif m.testBit 61 then True else t.sync = s.sync) ∧
  (bif m.testBit 62 then True else t.replicas = s.replicas) ∧
  (bif m.testBit 63 then True else t.digests = s.digests) ∧
  (bif m.testBit 64 then True else t.reserves = s.reserves) ∧
  (bif m.testBit 65 then True else t.takeovers = s.takeovers) ∧
  (bif m.testBit 66 then True else t.arrTakeovers = s.arrTakeovers) ∧
  (bif m.testBit 67 then True else t.unbacked = s.unbacked) ∧
  (bif m.testBit 68 then True else t.tests = s.tests) ∧
  (bif m.testBit 69 then True else t.advice = s.advice) ∧
  (bif m.testBit 70 then True else t.domains = s.domains) ∧
  (bif m.testBit 71 then True else t.pwr = s.pwr) ∧
  (bif m.testBit 72 then True else t.clk = s.clk) ∧
  (bif m.testBit 73 then True else t.hka = s.hka) ∧
  (bif m.testBit 74 then True else t.thm = s.thm) ∧
  (bif m.testBit 75 then True else t.weightKeys = s.weightKeys) ∧
  (bif m.testBit 76 then True else t.sec = s.sec) ∧
  (bif m.testBit 77 then True else t.tapIr = s.tapIr) ∧
  (bif m.testBit 78 then True else t.tapCells = s.tapCells) ∧ t.pending = s.pending

theorem bif_agree {α : Type} {b : Bool} {d x y : α} (e : bif b then True else x = y) :
    (bif b then d else x) = (bif b then d else y) := by
  cases b
  · exact e
  · rfl

theorem bif_true_rfl {α : Type} {b : Bool} {x : α} : bif b then True else x = x := by
  cases b
  · exact rfl
  · exact trivial

theorem State.erase_of_agree {m : Nat} {t s : State} (e : State.Agree m t s) : t.erase m = s.erase m := by
  simp only [State.erase, State.mk.injEq]
  obtain ⟨h0, h1, h2, h3, h4, h5, h6, h7, h8, h9, h10, h11, h12, h13, h14, h15, h16, h17, h18, h19, h20, h21, h22, h23, h24, h25, h26, h27, h28, h29, h30, h31, h32, h33, h34, h35, h36, h37, h38, h39, h40, h41, h42, h43, h44, h45, h46, h47, h48, h49, h50, h51, h52, h53, h54, h55, h56, h57, h58, h59, h60, h61, h62, h63, h64, h65, h66, h67, h68, h69, h70, h71, h72, h73, h74, h75, h76, h77, h78, h79⟩ := e
  exact ⟨bif_agree h0, bif_agree h1, bif_agree h2, bif_agree h3, bif_agree h4, bif_agree h5, bif_agree h6, bif_agree h7, bif_agree h8, bif_agree h9, bif_agree h10, bif_agree h11, bif_agree h12, bif_agree h13, bif_agree h14, bif_agree h15, bif_agree h16, bif_agree h17, bif_agree h18, bif_agree h19, bif_agree h20, bif_agree h21, bif_agree h22, bif_agree h23, bif_agree h24, bif_agree h25, bif_agree h26, bif_agree h27, bif_agree h28, bif_agree h29, bif_agree h30, bif_agree h31, bif_agree h32, bif_agree h33, bif_agree h34, bif_agree h35, bif_agree h36, bif_agree h37, bif_agree h38, bif_agree h39, bif_agree h40, bif_agree h41, bif_agree h42, bif_agree h43, bif_agree h44, bif_agree h45, bif_agree h46, bif_agree h47, bif_agree h48, bif_agree h49, bif_agree h50, bif_agree h51, bif_agree h52, bif_agree h53, bif_agree h54, bif_agree h55, bif_agree h56, bif_agree h57, bif_agree h58, bif_agree h59, bif_agree h60, bif_agree h61, bif_agree h62, bif_agree h63, bif_agree h64, bif_agree h65, bif_agree h66, bif_agree h67, bif_agree h68, bif_agree h69, bif_agree h70, bif_agree h71, bif_agree h72, bif_agree h73, bif_agree h74, bif_agree h75, bif_agree h76, bif_agree h77, bif_agree h78, h79⟩

/-- What a command keeps: the queue, what was put on the ports before, the draws of free values, the fuses of the part, the
invariant, and every component outside the mask `m`. `t` is a state that a command run on `s` may leave. -/
structure State.Follows (m : Nat) (s t : State) : Prop where
  pending : t.pending = s.pending
  out : s.out <+: t.out
  draws : s.freeCtr ≤ t.freeCtr
  part : t.fuses.part = s.fuses.part
  log : s.LogOk → t.LogOk
  ring : s.RingOk → t.RingOk
  regs : s.RegsOk → t.RegsOk
  same : t.erase m = s.erase m

/-- A mask within itself: what an operation's own lemma takes when nothing wider is asked. -/
theorem lor_self (a : Nat) : Nat.lor a a = a := Nat.or_self a

/-- A mask within a mask within `m`. -/
theorem lor_mid {a b m : Nat} (h : Nat.lor a b = b) (k : Nat.lor b m = m) : Nat.lor a m = m := by
  have e : a ||| b = b := h
  have f : b ||| m = m := k
  show a ||| m = m
  rw [← f, ← Nat.or_assoc, e]

/-- The components outside a wider mask are among those outside the narrower one. -/
theorem testBit_of_lor {a m : Nat} (h : Nat.lor a m = m) (k : Nat) (hk : m.testBit k = false) : a.testBit k = false := by
  have e : (a ||| m).testBit k = m.testBit k := congrArg (fun x => Nat.testBit x k) h
  rw [Nat.testBit_or, hk, Bool.or_false] at e
  exact e

theorem bif_widen {α : Type} {b c : Bool} {d x y : α} (h : c = false → b = false)
    (e : (bif b then d else y) = (bif b then d else x)) : (bif c then d else y) = (bif c then d else x) := by
  cases c
  · rw [h rfl] at e; exact e
  · rfl

theorem State.erase_mono {a m : Nat} (h : Nat.lor a m = m) {s t : State} (e : t.erase a = s.erase a) : t.erase m = s.erase m := by
  have w := testBit_of_lor h
  simp only [State.erase, State.mk.injEq] at e ⊢
  obtain ⟨h0, h1, h2, h3, h4, h5, h6, h7, h8, h9, h10, h11, h12, h13, h14, h15, h16, h17, h18, h19, h20, h21, h22, h23, h24, h25, h26, h27, h28, h29, h30, h31, h32, h33, h34, h35, h36, h37, h38, h39, h40, h41, h42, h43, h44, h45, h46, h47, h48, h49, h50, h51, h52, h53, h54, h55, h56, h57, h58, h59, h60, h61, h62, h63, h64, h65, h66, h67, h68, h69, h70, h71, h72, h73, h74, h75, h76, h77, h78, h79⟩ := e
  exact ⟨bif_widen (w 0) h0, bif_widen (w 1) h1, bif_widen (w 2) h2, bif_widen (w 3) h3, bif_widen (w 4) h4, bif_widen (w 5) h5, bif_widen (w 6) h6, bif_widen (w 7) h7, bif_widen (w 8) h8, bif_widen (w 9) h9, bif_widen (w 10) h10, bif_widen (w 11) h11, bif_widen (w 12) h12, bif_widen (w 13) h13, bif_widen (w 14) h14, bif_widen (w 15) h15, bif_widen (w 16) h16, bif_widen (w 17) h17, bif_widen (w 18) h18, bif_widen (w 19) h19, bif_widen (w 20) h20, bif_widen (w 21) h21, bif_widen (w 22) h22, bif_widen (w 23) h23, bif_widen (w 24) h24, bif_widen (w 25) h25, bif_widen (w 26) h26, bif_widen (w 27) h27, bif_widen (w 28) h28, bif_widen (w 29) h29, bif_widen (w 30) h30, bif_widen (w 31) h31, bif_widen (w 32) h32, bif_widen (w 33) h33, bif_widen (w 34) h34, bif_widen (w 35) h35, bif_widen (w 36) h36, bif_widen (w 37) h37, bif_widen (w 38) h38, bif_widen (w 39) h39, bif_widen (w 40) h40, bif_widen (w 41) h41, bif_widen (w 42) h42, bif_widen (w 43) h43, bif_widen (w 44) h44, bif_widen (w 45) h45, bif_widen (w 46) h46, bif_widen (w 47) h47, bif_widen (w 48) h48, bif_widen (w 49) h49, bif_widen (w 50) h50, bif_widen (w 51) h51, bif_widen (w 52) h52, bif_widen (w 53) h53, bif_widen (w 54) h54, bif_widen (w 55) h55, bif_widen (w 56) h56, bif_widen (w 57) h57, bif_widen (w 58) h58, bif_widen (w 59) h59, bif_widen (w 60) h60, bif_widen (w 61) h61, bif_widen (w 62) h62, bif_widen (w 63) h63, bif_widen (w 64) h64, bif_widen (w 65) h65, bif_widen (w 66) h66, bif_widen (w 67) h67, bif_widen (w 68) h68, bif_widen (w 69) h69, bif_widen (w 70) h70, bif_widen (w 71) h71, bif_widen (w 72) h72, bif_widen (w 73) h73, bif_widen (w 74) h74, bif_widen (w 75) h75, bif_widen (w 76) h76, bif_widen (w 77) h77, bif_widen (w 78) h78, h79⟩

theorem State.Follows.refl (m : Nat) (s : State) : s.Follows m s :=
  ⟨rfl, List.prefix_refl _, Nat.le_refl _, rfl, id, id, id, rfl⟩

theorem State.Follows.trans {m : Nat} {a b c : State} (h : a.Follows m b) (k : b.Follows m c) : a.Follows m c :=
  ⟨k.pending.trans h.pending, h.out.trans k.out, Nat.le_trans h.draws k.draws, k.part.trans h.part, fun x => k.log (h.log x),
   fun x => k.ring (h.ring x), fun x => k.regs (h.regs x), k.same.trans h.same⟩

theorem State.Follows.mono {a m : Nat} {s t : State} (hm : Nat.lor a m = m) (h : s.Follows a t) : s.Follows m t :=
  { h with same := State.erase_mono hm h.same }

theorem State.Follows.lift {a m : Nat} {s₀ s t : State} (hm : Nat.lor a m = m) (h : s₀.Follows m s) (k : s.Follows a t) :
    s₀.Follows m t := h.trans (k.mono hm)

/-- An update of components that the relation speaks of by its mask alone. -/
theorem State.Follows.keep {m : Nat} {s t : State}
    {time : Nat} {timeRuns : Bool} {latchHi : Map (Option W32)} {heldLow : Map (Option W32)} {rwlLocked : Bool} {irq :
    Map Irq} {arm : Loader} {img : SealedImage} {armFloor : Nat} {heldSeal : Map Bool} {arrays : Map Arr} {fmts : Map
    FmtLayer} {fmtResets : Map (List Nat)} {cals : Map Cal} {calStores : Map CalStore} {calSaves : List (Nat × List
    Nat)} {cores : Map Core} {clusters : Map Cluster} {engines : Map EngThread} {handoffs : List Handoff} {msgs : List
    FabMsg} {nextMsg : Nat} {lanes : Map Lane} {slices : Map Bool} {unreachable : Map Bool} {paced : Map Bool} {peds :
    Map Ped} {kvSeqs : Map KvSeq} {parts : Map Part} {kvPools : Map KvPool} {prefixes : Map Prefix} {spills : Map
    Spill} {emptyMarks : Map Bool} {flushing : Map (Option Nat)} {noFrame : Map Bool} {wslots : Map WSlot} {winsts :
    Map WInst} {wloads : List WLoad} {insts : Map InstRun} {seqs : Map Seq} {subRings : Map SubRing} {recRings : Map
    RecRing} {subLast : Nat} {schStatus : Nat} {schCmd : Nat} {smpRows : Map SmpRow} {grammars : Map Grammar}
    {grmCache : List GrmLine} {ports : Map HostPort} {evrInFlight : Nat} {mgmtEid : Nat} {araMask : W32} {ftrStale :
    Map Bool} {icpIn : Map IcpQueue} {icps : Map IcpPort} {sync : IcpSync} {replicas : Map Replica} {digests : List
    Digest} {reserves : Map Reserve} {takeovers : List Takeover} {arrTakeovers : List ArrTakeover} {unbacked : Map
    Bool} {tests : Map FieldTest} {advice : Map Advice} {domains : Map Domain} {pwr : Pwr} {clk : Clk} {hka : Hka}
    {thm : Thm} {weightKeys : Map (Option (BitVec 512))} {sec : Sec} {tapIr : Nat} {tapCells : Nat}
    (h : s.Follows m t) (e0 : bif m.testBit 0 then True else time = t.time)
    (e1 : bif m.testBit 1 then True else timeRuns = t.timeRuns)
    (e5 : bif m.testBit 5 then True else latchHi = t.latchHi)
    (e6 : bif m.testBit 6 then True else heldLow = t.heldLow)
    (e7 : bif m.testBit 7 then True else rwlLocked = t.rwlLocked)
    (e9 : bif m.testBit 9 then True else irq = t.irq)
    (e11 : bif m.testBit 11 then True else arm = t.arm)
    (e12 : bif m.testBit 12 then True else img = t.img)
    (e13 : bif m.testBit 13 then True else armFloor = t.armFloor)
    (e14 : bif m.testBit 14 then True else heldSeal = t.heldSeal)
    (e15 : bif m.testBit 15 then True else arrays = t.arrays)
    (e16 : bif m.testBit 16 then True else fmts = t.fmts)
    (e17 : bif m.testBit 17 then True else fmtResets = t.fmtResets)
    (e18 : bif m.testBit 18 then True else cals = t.cals)
    (e19 : bif m.testBit 19 then True else calStores = t.calStores)
    (e20 : bif m.testBit 20 then True else calSaves = t.calSaves)
    (e21 : bif m.testBit 21 then True else cores = t.cores)
    (e22 : bif m.testBit 22 then True else clusters = t.clusters)
    (e23 : bif m.testBit 23 then True else engines = t.engines)
    (e24 : bif m.testBit 24 then True else handoffs = t.handoffs)
    (e25 : bif m.testBit 25 then True else msgs = t.msgs)
    (e26 : bif m.testBit 26 then True else nextMsg = t.nextMsg)
    (e27 : bif m.testBit 27 then True else lanes = t.lanes)
    (e28 : bif m.testBit 28 then True else slices = t.slices)
    (e29 : bif m.testBit 29 then True else unreachable = t.unreachable)
    (e30 : bif m.testBit 30 then True else paced = t.paced)
    (e31 : bif m.testBit 31 then True else peds = t.peds)
    (e32 : bif m.testBit 32 then True else kvSeqs = t.kvSeqs)
    (e33 : bif m.testBit 33 then True else parts = t.parts)
    (e34 : bif m.testBit 34 then True else kvPools = t.kvPools)
    (e35 : bif m.testBit 35 then True else prefixes = t.prefixes)
    (e36 : bif m.testBit 36 then True else spills = t.spills)
    (e37 : bif m.testBit 37 then True else emptyMarks = t.emptyMarks)
    (e38 : bif m.testBit 38 then True else flushing = t.flushing)
    (e39 : bif m.testBit 39 then True else noFrame = t.noFrame)
    (e40 : bif m.testBit 40 then True else wslots = t.wslots)
    (e41 : bif m.testBit 41 then True else winsts = t.winsts)
    (e42 : bif m.testBit 42 then True else wloads = t.wloads)
    (e43 : bif m.testBit 43 then True else insts = t.insts)
    (e44 : bif m.testBit 44 then True else seqs = t.seqs)
    (e45 : bif m.testBit 45 then True else subRings = t.subRings)
    (e46 : bif m.testBit 46 then True else recRings = t.recRings)
    (e47 : bif m.testBit 47 then True else subLast = t.subLast)
    (e48 : bif m.testBit 48 then True else schStatus = t.schStatus)
    (e49 : bif m.testBit 49 then True else schCmd = t.schCmd)
    (e50 : bif m.testBit 50 then True else smpRows = t.smpRows)
    (e51 : bif m.testBit 51 then True else grammars = t.grammars)
    (e52 : bif m.testBit 52 then True else grmCache = t.grmCache)
    (e53 : bif m.testBit 53 then True else ports = t.ports)
    (e55 : bif m.testBit 55 then True else evrInFlight = t.evrInFlight)
    (e56 : bif m.testBit 56 then True else mgmtEid = t.mgmtEid)
    (e57 : bif m.testBit 57 then True else araMask = t.araMask)
    (e58 : bif m.testBit 58 then True else ftrStale = t.ftrStale)
    (e59 : bif m.testBit 59 then True else icpIn = t.icpIn)
    (e60 : bif m.testBit 60 then True else icps = t.icps)
    (e61 : bif m.testBit 61 then True else sync = t.sync)
    (e62 : bif m.testBit 62 then True else replicas = t.replicas)
    (e63 : bif m.testBit 63 then True else digests = t.digests)
    (e64 : bif m.testBit 64 then True else reserves = t.reserves)
    (e65 : bif m.testBit 65 then True else takeovers = t.takeovers)
    (e66 : bif m.testBit 66 then True else arrTakeovers = t.arrTakeovers)
    (e67 : bif m.testBit 67 then True else unbacked = t.unbacked)
    (e68 : bif m.testBit 68 then True else tests = t.tests)
    (e69 : bif m.testBit 69 then True else advice = t.advice)
    (e70 : bif m.testBit 70 then True else domains = t.domains)
    (e71 : bif m.testBit 71 then True else pwr = t.pwr)
    (e72 : bif m.testBit 72 then True else clk = t.clk)
    (e73 : bif m.testBit 73 then True else hka = t.hka)
    (e74 : bif m.testBit 74 then True else thm = t.thm)
    (e75 : bif m.testBit 75 then True else weightKeys = t.weightKeys)
    (e76 : bif m.testBit 76 then True else sec = t.sec)
    (e77 : bif m.testBit 77 then True else tapIr = t.tapIr)
    (e78 : bif m.testBit 78 then True else tapCells = t.tapCells) : s.Follows m
      { time := time, timeRuns := timeRuns, freeCtr := t.freeCtr, out := t.out, regs := t.regs, latchHi := latchHi,
        heldLow := heldLow, rwlLocked := rwlLocked, log := t.log, irq := irq, fuses := t.fuses, arm := arm, img :=
        img, armFloor := armFloor, heldSeal := heldSeal, arrays := arrays, fmts := fmts, fmtResets := fmtResets,
        cals := cals, calStores := calStores, calSaves := calSaves, cores := cores, clusters := clusters, engines
        := engines, handoffs := handoffs, msgs := msgs, nextMsg := nextMsg, lanes := lanes, slices := slices,
        unreachable := unreachable, paced := paced, peds := peds, kvSeqs := kvSeqs, parts := parts, kvPools :=
        kvPools, prefixes := prefixes, spills := spills, emptyMarks := emptyMarks, flushing := flushing, noFrame
        := noFrame, wslots := wslots, winsts := winsts, wloads := wloads, insts := insts, seqs := seqs, subRings
        := subRings, recRings := recRings, subLast := subLast, schStatus := schStatus, schCmd := schCmd, smpRows
        := smpRows, grammars := grammars, grmCache := grmCache, ports := ports, cmd := t.cmd, evrInFlight :=
        evrInFlight, mgmtEid := mgmtEid, araMask := araMask, ftrStale := ftrStale, icpIn := icpIn, icps := icps,
        sync := sync, replicas := replicas, digests := digests, reserves := reserves, takeovers := takeovers,
        arrTakeovers := arrTakeovers, unbacked := unbacked, tests := tests, advice := advice, domains := domains,
        pwr := pwr, clk := clk, hka := hka, thm := thm, weightKeys := weightKeys, sec := sec, tapIr := tapIr,
        tapCells := tapCells, pending := t.pending } :=
  ⟨h.pending, h.out, h.draws, h.part, h.log, h.ring, h.regs, (State.erase_of_agree (s := t) (by exact ⟨e0, e1, bif_true_rfl, bif_true_rfl, bif_true_rfl, e5, e6, e7, bif_true_rfl, e9, bif_true_rfl, e11, e12, e13, e14, e15, e16, e17, e18, e19, e20, e21, e22, e23, e24, e25, e26, e27, e28, e29, e30, e31, e32, e33, e34, e35, e36, e37, e38, e39, e40, e41, e42, e43, e44, e45, e46, e47, e48, e49, e50, e51, e52, e53, bif_true_rfl, e55, e56, e57, e58, e59, e60, e61, e62, e63, e64, e65, e66, e67, e68, e69, e70, e71, e72, e73, e74, e75, e76, e77, e78, rfl⟩)).trans h.same⟩

theorem State.Follows.ite {m : Nat} {s a b : State} {c : Prop} [Decidable c] (ha : s.Follows m a) (hb : s.Follows m b) :
    s.Follows m (if c then a else b) := by split <;> assumption

theorem State.Follows.ite_fst {m : Nat} {β : Type} {s : State} {a b : State × β} {c : Prop} [Decidable c]
    (ha : s.Follows m a.1) (hb : s.Follows m b.1) : s.Follows m (if c then a else b).1 := by split <;> assumption

theorem State.Follows.id {m : Nat} {s t : State} (h : s.Follows m t) : s.Follows m (id t) := h

/-- The state in a pair that an operation answers. -/
theorem State.Follows.of_fst {m : Nat} {β : Type} {s a : State} {x : State × β} {b : β} (e : x = (a, b))
    (h : s.Follows m x.1) : s.Follows m a := by subst e; exact h

/-- A loop whose every turn keeps the relation keeps it. -/
theorem State.Follows.foldl {m : Nat} {α : Type} {s : State} {f : State → α → State} (l : List α) {t : State}
    (h : s.Follows m t) (hf : ∀ u x, s.Follows m u → s.Follows m (f u x)) : s.Follows m (l.foldl f t) := by
  induction l generalizing t with
  | nil => exact h
  | cons x l ih => exact ih (hf t x h)

/-- A loop that carries a state and something else. -/
theorem State.Follows.foldl_fst {m : Nat} {α β : Type} {s : State} {f : State × β → α → State × β} (l : List α)
    {t : State × β} (h : s.Follows m t.1) (hf : ∀ u x, s.Follows m u.1 → s.Follows m (f u x).1) :
    s.Follows m (l.foldl f t).1 := by
  induction l generalizing t with
  | nil => exact h
  | cons x l ih => exact ih (hf t x h)

/-- An outcome is a next state, and that state follows `s`. -/
structure State.Ends (m : Nat) (s : State) (o : Out') : Prop where
  follows : ∀ t, o = .next t → s.Follows m t
  runs : ∃ t, o = .next t

theorem State.Ends.next {m : Nat} {s t : State} (h : s.Follows m t) : s.Ends m (.next t) :=
  ⟨fun u e => by cases e; exact h, t, rfl⟩

theorem State.Ends.lift {a m : Nat} {s₀ s : State} {o : Out'} (hm : Nat.lor a m = m) (h : s₀.Follows m s) (k : s.Ends a o) :
    s₀.Ends m o := ⟨fun t e => State.Follows.lift hm h (k.follows t e), k.runs⟩

theorem State.Ends.ite {m : Nat} {s : State} {a b : Out'} {c : Prop} [Decidable c] (ha : s.Ends m a) (hb : s.Ends m b) :
    s.Ends m (if c then a else b) := by split <;> assumption

theorem nextOr_follows {m : Nat} {s t : State} {o : Out'} (h : s.Follows m t) (k : s.Ends m o) : s.Follows m (nextOr t o) := by
  cases o with
  | next u => exact k.follows u rfl
  | fault r => exact h
  | refused r => exact h

end Sys2Proof.Machine
end

