-- ==== Sys2Proof/Laws/Sparse.lean ====
section
/-!
SUPPORT. Sparse storage: the canonical form is kept by every operation, and reads answer what was written.
-/
namespace Sys2Proof

variable {α : Type}

theorem Map.rising_mono {lo hi : Option Nat} {m : List (Nat × α)} (h : Map.rising hi m = true)
    (le : ∀ l, lo = some l → ∃ k, hi = some k ∧ l ≤ k) : Map.rising lo m = true := by
  cases m with
  | nil => rfl
  | cons c m =>
    obtain ⟨k, v⟩ := c
    simp only [Map.rising, Bool.and_eq_true] at h ⊢
    refine ⟨?_, h.2⟩
    cases lo with
    | none => rfl
    | some l =>
      obtain ⟨j, rfl, hj⟩ := le l rfl
      have := h.1
      simp only [decide_eq_true_eq] at this ⊢
      omega

theorem Map.rising_filter {lo : Option Nat} {m : List (Nat × α)} (p : Nat × α → Bool) (h : Map.rising lo m = true) :
    Map.rising lo (m.filter p) = true := by
  induction m generalizing lo with
  | nil => exact h
  | cons c m ih =>
    obtain ⟨k, v⟩ := c
    simp only [Map.rising, Bool.and_eq_true] at h
    rw [List.filter_cons]
    split
    · simp only [Map.rising, Bool.and_eq_true]
      exact ⟨h.1, ih h.2⟩
    · refine Map.rising_mono (ih h.2) ?_
      intro l hl
      subst hl
      exact ⟨k, rfl, Nat.le_of_lt (by simpa using h.1)⟩

theorem Map.rising_map {lo : Option Nat} {m : List (Nat × α)} {β : Type} (f : Nat → α → β) (h : Map.rising lo m = true) :
    Map.rising lo (m.map (fun c => (c.1, f c.1 c.2))) = true := by
  induction m generalizing lo with
  | nil => rfl
  | cons c m ih =>
    obtain ⟨k, v⟩ := c
    simp only [Map.rising, Bool.and_eq_true] at h
    simp only [List.map_cons, Map.rising, Bool.and_eq_true]
    exact ⟨h.1, ih h.2⟩

theorem Map.rising_drop {lo : Option Nat} {m : List (Nat × α)} (k : Nat) (h : Map.rising lo m = true) :
    Map.rising lo (Map.drop m k) = true := by
  induction m generalizing lo with
  | nil => exact h
  | cons c m ih =>
    obtain ⟨j, v⟩ := c
    simp only [Map.rising, Bool.and_eq_true] at h
    simp only [Map.drop]
    split
    · refine Map.rising_mono (ih h.2) ?_
      intro l hl
      subst hl
      exact ⟨j, rfl, Nat.le_of_lt (by simpa using h.1)⟩
    · simp only [Map.rising, Bool.and_eq_true]
      exact ⟨h.1, ih h.2⟩

theorem Map.rising_cons {lo : Option Nat} {m : List (Nat × α)} {k : Nat} (v : α) (hk : ∀ l, lo = some l → l < k)
    (h : Map.rising (some k) m = true) : Map.rising lo ((k, v) :: m) = true := by
  simp only [Map.rising, Bool.and_eq_true]
  refine ⟨?_, h⟩
  cases lo with
  | none => rfl
  | some l => simpa using hk l rfl

theorem Map.rising_place {lo : Option Nat} {m : List (Nat × α)} (k : Nat) (v : α) (h : Map.rising lo m = true)
    (hk : ∀ l, lo = some l → l < k) : Map.rising lo (Map.place m k v) = true := by
  induction m generalizing lo with
  | nil => exact Map.rising_cons v hk rfl
  | cons c m ih =>
    obtain ⟨j, w⟩ := c
    simp only [Map.place]
    split
    · rename_i hlt
      simp only [Map.rising, Bool.and_eq_true] at h
      exact Map.rising_cons v hk (Map.rising_cons w (by intro l hl; cases hl; exact hlt) h.2)
    · split
      · rename_i he
        subst he
        simp only [Map.rising, Bool.and_eq_true] at h
        exact Map.rising_cons v hk h.2
      · rename_i h1 h2
        simp only [Map.rising, Bool.and_eq_true] at h ⊢
        refine ⟨h.1, ih h.2 ?_⟩
        intro l hl'
        cases hl'
        omega

theorem Map.all_place {m : List (Nat × α)} (p : Nat × α → Bool) (k : Nat) (v : α) (h : m.all p = true) (hv : p (k, v) = true) :
    (Map.place m k v).all p = true := by
  induction m with
  | nil => simp [Map.place, hv]
  | cons c m ih =>
    obtain ⟨j, w⟩ := c
    simp only [List.all_cons, Bool.and_eq_true] at h
    simp only [Map.place]
    split
    · simp [hv, h.1, h.2]
    · split
      · simp [hv, h.2]
      · simp [h.1, ih h.2]

theorem Map.all_drop {m : List (Nat × α)} (p : Nat × α → Bool) (k : Nat) (h : m.all p = true) :
    (Map.drop m k).all p = true := by
  induction m with
  | nil => rfl
  | cons c m ih =>
    obtain ⟨j, w⟩ := c
    simp only [List.all_cons, Bool.and_eq_true] at h
    simp only [Map.drop]
    split
    · exact ih h.2
    · simp [h.1, ih h.2]

theorem Map.find_place (d : α) (m : List (Nat × α)) (k j : Nat) (v : α) :
    Map.find d (Map.place m k v) j = if j = k then v else Map.find d m j := by
  induction m with
  | nil => simp only [Map.place, Map.find]; split <;> split <;> simp_all
  | cons c m ih =>
    obtain ⟨i, w⟩ := c
    simp only [Map.place]
    split
    · simp only [Map.find]; grind
    · split
      · simp only [Map.find]; grind
      · simp only [Map.find, ih]; grind

theorem Map.find_drop (d : α) (m : List (Nat × α)) (k j : Nat) :
    Map.find d (Map.drop m k) j = if j = k then d else Map.find d m j := by
  induction m with
  | nil => simp [Map.drop, Map.find]
  | cons c m ih =>
    obtain ⟨i, w⟩ := c
    simp only [Map.drop]
    split
    · rw [ih]; simp only [Map.find]; grind
    · simp only [Map.find, ih]; grind

section
variable [Inhabited α] [DecidableEq α]

/-- Writing keeps the canonical form. -/
theorem Map.wf_put {m : Map α} (k : Nat) (v : α) (h : m.wf = true) : (m.put k v).wf = true := by
  simp only [Map.wf, Bool.and_eq_true] at h ⊢
  unfold Map.put
  split
  · exact ⟨Map.rising_drop k h.1, Map.all_drop _ k h.2⟩
  · rename_i hv
    exact ⟨Map.rising_place k v h.1 (by intro l hl; cases hl), Map.all_place _ k v h.2 (by simpa using hv)⟩

/-- Changing one value keeps the canonical form. -/
theorem Map.wf_upd {m : Map α} (k : Nat) (f : α → α) (h : m.wf = true) : (m.upd k f).wf = true := Map.wf_put k _ h

/-- Keeping some cells keeps the canonical form. -/
theorem Map.wf_keep {m : Map α} (p : Nat → α → Bool) (h : m.wf = true) : (m.keep p).wf = true := by
  simp only [Map.wf, Bool.and_eq_true, Map.keep] at h ⊢
  refine ⟨Map.rising_filter _ h.1, ?_⟩
  rw [List.all_eq_true] at h ⊢
  intro x hx
  exact h.2 x (List.mem_filter.mp hx).1

/-- Changing every value keeps the canonical form. -/
theorem Map.wf_mapVals {m : Map α} (f : Nat → α → α) (h : m.wf = true) : (m.mapVals f).wf = true := by
  simp only [Map.wf, Bool.and_eq_true, Map.mapVals] at h ⊢
  refine ⟨Map.rising_filter _ (Map.rising_map f h.1), ?_⟩
  rw [List.all_eq_true]
  intro x hx
  exact (List.mem_filter.mp hx).2

/-- Changing several values keeps the canonical form. -/
theorem Map.wf_updAll {m : Map α} (ks : List Nat) (f : Nat → α → α) (h : m.wf = true) : (m.updAll ks f).wf = true := by
  unfold Map.updAll
  induction ks generalizing m with
  | nil => exact h
  | cons k ks ih => exact ih (Map.wf_put k _ h)

/-- Empty storage is in canonical form. -/
theorem Map.wf_empty : ({} : Map α).wf = true := rfl

/-- Reading a key after a write: the value written, or what the key held before. -/
theorem Map.get_put (m : Map α) (k j : Nat) (v : α) : (m.put k v).get j = if j = k then v else m.get j := by
  unfold Map.put Map.get
  split
  · rename_i hv
    rw [Map.find_drop, hv]
  · exact Map.find_place _ _ _ _ _

/-- Storage reads what was written. -/
@[simp] theorem Map.get_put_self (m : Map α) (k : Nat) (v : α) : (m.put k v).get k = v := by
  rw [Map.get_put, if_pos rfl]

/-- Storage reads at another key as before. -/
theorem Map.get_put_ne (m : Map α) {k j : Nat} (v : α) (h : j ≠ k) : (m.put k v).get j = m.get j := by
  rw [Map.get_put, if_neg h]

theorem Map.get_upd (m : Map α) (k j : Nat) (f : α → α) : (m.upd k f).get j = if j = k then f (m.get k) else m.get j :=
  Map.get_put _ _ _ _

@[simp] theorem Map.get_upd_self (m : Map α) (k : Nat) (f : α → α) : (m.upd k f).get k = f (m.get k) := Map.get_put_self _ _ _

theorem Map.get_upd_ne (m : Map α) {k j : Nat} (f : α → α) (h : j ≠ k) : (m.upd k f).get j = m.get j :=
  Map.get_put_ne _ _ h

/-- Reading a byte after a store: the byte stored there, or what was there before. -/
theorem Memory.get_store (m : Memory) (a : Nat) (bs : List Byte) (j : Nat) :
    (m.store a bs).get j = if a ≤ j ∧ j < a + bs.length then (bs[j - a]?).getD 0 else m.get j := by
  induction bs generalizing m a with
  | nil => simp only [Memory.store, List.length_nil]; rw [if_neg (by omega)]
  | cons b bs ih =>
    simp only [Memory.store, ih, List.length_cons, Map.get_put]
    by_cases h : j = a
    · subst h
      rw [if_neg (by omega), if_pos rfl, if_pos (by omega), Nat.sub_self]
      rfl
    · rw [if_neg h]
      by_cases k : a + 1 ≤ j ∧ j < a + 1 + bs.length
      · rw [if_pos k, if_pos (by omega)]
        have : j - a = (j - (a + 1)) + 1 := by omega
        rw [this, List.getElem?_cons_succ]
      · rw [if_neg k, if_neg (by omega)]

/-- A store keeps the canonical form. -/
theorem Memory.wf_store {m : Memory} (a : Nat) (bs : List Byte) (h : m.wf = true) : (Memory.store m a bs).wf = true := by
  induction bs generalizing m a with
  | nil => exact h
  | cons b bs ih => exact ih _ (Map.wf_put _ _ h)

/-- Clearing a range keeps the canonical form. -/
theorem Memory.wf_clear {m : Memory} (a n : Nat) (h : m.wf = true) : (Memory.clear m a n).wf = true := Map.wf_keep _ h

end

end Sys2Proof
end

