-- ==== Sys2Proof/Laws/FollowsOps.lean ====
section
/-!
SUPPORT. The operations of Machine/Ops.lean keep the relation `State.Follows`. The number in a lemma is the mask of the
components that its operation may change.
-/
namespace Sys2Proof.Machine
open Sys2Proof

theorem State.emit_follows {μ : Nat} {s₀ s : State} {o : Out} (hm : Nat.lor 8 μ = μ) (h₀ : s₀.Follows μ s) : s₀.Follows μ (s.emit o) := by
  refine State.Follows.lift hm h₀ ?_
  have h := State.Follows.refl 8 s
  exact ⟨h.pending, h.out.trans (List.prefix_append _ _), h.draws, h.part, h.log, h.ring, h.regs, rfl⟩

theorem State.draw_follows {μ : Nat} {s₀ s : State} (hm : Nat.lor 4 μ = μ) (h₀ : s₀.Follows μ s) : s₀.Follows μ s.draw := by
  refine State.Follows.lift hm h₀ ?_
  have h := State.Follows.refl 4 s
  exact ⟨h.pending, h.out, Nat.le_succ_of_le h.draws, h.part, h.log, h.ring, h.regs, rfl⟩

theorem State.tick_follows {μ : Nat} {s₀ s : State} (hm : Nat.lor 1 μ = μ) (h₀ : s₀.Follows μ s) : s₀.Follows μ s.tick := by
  refine State.Follows.lift hm h₀ ?_
  have h := State.Follows.refl 1 s
  exact ⟨h.pending, h.out, h.draws, h.part, h.log, h.ring, h.regs, rfl⟩

theorem State.setReg_follows {μ : Nat} {s₀ s : State} {off : Nat} {v : W32} (hm : Nat.lor 16 μ = μ) (h₀ : s₀.Follows μ s) : s₀.Follows μ (s.setReg off v) := by
  refine State.Follows.lift hm h₀ ?_
  have h := State.Follows.refl 16 s
  exact ⟨h.pending, h.out, h.draws, h.part, h.log, h.ring, fun k => Map.wf_put _ _ (h.regs k), rfl⟩

theorem State.keepRegs_follows {μ : Nat} {s₀ s : State} {p : Nat → Option W32 → Bool} (hm : Nat.lor 16 μ = μ) (h₀ : s₀.Follows μ s) :
    s₀.Follows μ { s with regs := s.regs.keep p } := by
  refine State.Follows.lift hm h₀ ?_
  have h := State.Follows.refl 16 s
  exact ⟨h.pending, h.out, h.draws, h.part, h.log, h.ring, fun k => Map.wf_keep _ (h.regs k), rfl⟩

theorem State.setRegN_follows {μ : Nat} {s₀ : State} {s : State} {off v : Nat} (hm : Nat.lor 16 μ = μ) (h₀ : s₀.Follows μ s) :
    s₀.Follows μ (State.setRegN s off v) := by
  refine State.Follows.lift hm h₀ ?_
  have h := State.Follows.refl 16 s
  unfold State.setRegN
  repeat' first
    | (with_reducible assumption)
    | (exact (rfl : Nat.lor _ _ = _))
    | (with_reducible refine State.setReg_follows ?_ ?_)

theorem State.setReg64_follows {μ : Nat} {s₀ : State} {s : State} {off v : Nat} (hm : Nat.lor 16 μ = μ) (h₀ : s₀.Follows μ s) :
    s₀.Follows μ (State.setReg64 s off v) := by
  refine State.Follows.lift hm h₀ ?_
  have h := State.Follows.refl 16 s
  unfold State.setReg64
  repeat' first
    | (with_reducible assumption)
    | (exact (rfl : Nat.lor _ _ = _))
    | (with_reducible refine State.setRegN_follows ?_ ?_)

theorem State.countBy_follows {μ : Nat} {s₀ : State} {s : State} {off n : Nat} (hm : Nat.lor 16 μ = μ) (h₀ : s₀.Follows μ s) :
    s₀.Follows μ (State.countBy s off n) := by
  refine State.Follows.lift hm h₀ ?_
  have h := State.Follows.refl 16 s
  unfold State.countBy
  repeat' first
    | (with_reducible assumption)
    | (exact (rfl : Nat.lor _ _ = _))
    | (with_reducible refine State.setRegN_follows ?_ ?_)

theorem State.count_follows {μ : Nat} {s₀ : State} {s : State} {off : Nat} (hm : Nat.lor 16 μ = μ) (h₀ : s₀.Follows μ s) :
    s₀.Follows μ (State.count s off) := by
  refine State.Follows.lift hm h₀ ?_
  have h := State.Follows.refl 16 s
  unfold State.count
  repeat' first
    | (with_reducible assumption)
    | (exact (rfl : Nat.lor _ _ = _))
    | (with_reducible refine State.countBy_follows ?_ ?_)

theorem State.count64By_follows {μ : Nat} {s₀ : State} {s : State} {off n : Nat} (hm : Nat.lor 16 μ = μ) (h₀ : s₀.Follows μ s) :
    s₀.Follows μ (State.count64By s off n) := by
  refine State.Follows.lift hm h₀ ?_
  have h := State.Follows.refl 16 s
  unfold State.count64By
  repeat' first
    | (with_reducible assumption)
    | (exact (rfl : Nat.lor _ _ = _))
    | (with_reducible refine State.setReg64_follows ?_ ?_)

theorem State.count64_follows {μ : Nat} {s₀ : State} {s : State} {off : Nat} (hm : Nat.lor 16 μ = μ) (h₀ : s₀.Follows μ s) :
    s₀.Follows μ (State.count64 s off) := by
  refine State.Follows.lift hm h₀ ?_
  have h := State.Follows.refl 16 s
  unfold State.count64
  repeat' first
    | (with_reducible assumption)
    | (exact (rfl : Nat.lor _ _ = _))
    | (with_reducible refine State.count64By_follows ?_ ?_)

theorem State.setBits_follows {μ : Nat} {s₀ : State} {s : State} {off m : Nat} (hm : Nat.lor 16 μ = μ) (h₀ : s₀.Follows μ s) :
    s₀.Follows μ (State.setBits s off m) := by
  refine State.Follows.lift hm h₀ ?_
  have h := State.Follows.refl 16 s
  unfold State.setBits
  repeat' first
    | (with_reducible assumption)
    | (exact (rfl : Nat.lor _ _ = _))
    | (with_reducible refine State.setReg_follows ?_ ?_)

theorem State.regMax_follows {μ : Nat} {s₀ : State} {s : State} {off v : Nat} (hm : Nat.lor 16 μ = μ) (h₀ : s₀.Follows μ s) :
    s₀.Follows μ (State.regMax s off v) := by
  refine State.Follows.lift hm h₀ ?_
  have h := State.Follows.refl 16 s
  unfold State.regMax
  repeat' first
    | (with_reducible assumption)
    | (exact (rfl : Nat.lor _ _ = _))
    | (with_reducible refine State.setRegN_follows ?_ ?_)

theorem State.deliverMsix_follows {μ : Nat} {s₀ : State} {s : State} {p v : Nat} (hm : Nat.lor 9007199254741000 μ = μ) (h₀ : s₀.Follows μ s) :
    s₀.Follows μ (State.deliverMsix s p v) := by
  refine State.Follows.lift hm h₀ ?_
  have h := State.Follows.refl 9007199254741000 s
  unfold State.deliverMsix
  repeat' first
    | (with_reducible assumption)
    | (exact (rfl : Nat.lor _ _ = _))
    | (with_reducible refine State.emit_follows ?_ ?_)
    | (with_reducible apply State.Follows.ite)
    | ((with_reducible apply State.Follows.keep) <;> first | exact trivial | exact rfl | skip)

theorem State.raiseIrq_follows {μ : Nat} {s₀ : State} {s : State} {src : Nat} (hm : Nat.lor 9007199254741512 μ = μ) (h₀ : s₀.Follows μ s) :
    s₀.Follows μ (State.raiseIrq s src) := by
  refine State.Follows.lift hm h₀ ?_
  have h := State.Follows.refl 9007199254741512 s
  unfold State.raiseIrq
  repeat' first
    | (with_reducible assumption)
    | (exact (rfl : Nat.lor _ _ = _))
    | (with_reducible refine State.deliverMsix_follows ?_ ?_)
    | ((with_reducible apply State.Follows.keep) <;> first | exact trivial | exact rfl | skip)

theorem State.irqEvents_follows {μ : Nat} {s₀ : State} {s : State} {src n : Nat} (hm : Nat.lor 9007199254741512 μ = μ) (h₀ : s₀.Follows μ s) :
    s₀.Follows μ (State.irqEvents s src n) := by
  refine State.Follows.lift hm h₀ ?_
  have h := State.Follows.refl 9007199254741512 s
  unfold State.irqEvents
  repeat' first
    | (with_reducible assumption)
    | (exact (rfl : Nat.lor _ _ = _))
    | (with_reducible refine State.raiseIrq_follows ?_ ?_)
    | (with_reducible apply State.Follows.ite)
    | split
    | ((with_reducible apply State.Follows.keep) <;> first | exact trivial | exact rfl | skip)

theorem State.mgmtCause_follows {μ : Nat} {s₀ : State} {s : State} {i : Nat} (hm : Nat.lor 144115188075855888 μ = μ) (h₀ : s₀.Follows μ s) :
    s₀.Follows μ (State.mgmtCause s i) := by
  refine State.Follows.lift hm h₀ ?_
  have h := State.Follows.refl 144115188075855888 s
  unfold State.mgmtCause
  repeat' first
    | (with_reducible assumption)
    | (exact (rfl : Nat.lor _ _ = _))
    | (with_reducible refine State.setBits_follows ?_ ?_)
    | (with_reducible apply State.Follows.ite)
    | ((with_reducible apply State.Follows.keep) <;> first | exact trivial | exact rfl | skip)

theorem State.clearFatal_follows {μ : Nat} {s₀ s : State} {k : Nat} (hm : Nat.lor 16 μ = μ) (h₀ : s₀.Follows μ s) : s₀.Follows μ (s.clearFatal k) := by
  refine State.Follows.lift hm h₀ ?_
  have h := State.Follows.refl 16 s
  exact State.keepRegs_follows rfl h

/-- An update of the log that keeps its bounds. -/
theorem State.log_follows {μ : Nat} {s₀ s : State} {l : EventLog} (hm : Nat.lor 256 μ = μ) (h₀ : s₀.Follows μ s)
    (k : s.LogOk → l.entries.length ≤ 4096 ∧ l.fatal.length ≤ 16 ∧ l.next < 2 ^ 32) : s₀.Follows μ { s with log := l } := by
  refine State.Follows.lift hm h₀ ?_
  have h := State.Follows.refl 256 s
  exact ⟨h.pending, h.out, h.draws, h.part, fun x => k (h.log x), h.ring, h.regs, rfl⟩

/-- An update of the log that changes no entry. -/
theorem State.logSame_follows {μ : Nat} {s₀ s : State} {l : EventLog} (hm : Nat.lor 256 μ = μ) (h₀ : s₀.Follows μ s) (e : l.entries = s.log.entries)
    (f : l.fatal = s.log.fatal) (n : l.next = s.log.next) : s₀.Follows μ { s with log := l } := by
  refine State.Follows.lift hm h₀ ?_
  have h := State.Follows.refl 256 s
  exact State.log_follows rfl h (fun k => by rw [e, f, n]; exact k)

theorem State.loseCopy_follows {μ : Nat} {s₀ s : State} (hm : Nat.lor 272 μ = μ) (h₀ : s₀.Follows μ s) : s₀.Follows μ s.loseCopy := by
  refine State.Follows.lift hm h₀ ?_
  have h := State.Follows.refl 272 s
  unfold State.loseCopy
  exact State.logSame_follows rfl (State.count_follows rfl h) rfl rfl rfl

/-- The log's bounds are kept by a new entry. -/
theorem EventLog.add_bounds {l : EventLog} (e : LogEntry) (room : Bool) (hr : room = true → l.fatal.length < 16)
    (h : l.entries.length ≤ 4096 ∧ l.fatal.length ≤ 16 ∧ l.next < 2 ^ 32) :
    (l.add e room).entries.length ≤ 4096 ∧ (l.add e room).fatal.length ≤ 16 ∧ (l.add e room).next < 2 ^ 32 := by
  obtain ⟨h1, h2, -⟩ := h
  refine ⟨?_, ?_, Nat.mod_lt _ (by decide)⟩
  · show ((if 4096 ≤ l.entries.length then l.entries.drop 1 else l.entries) ++ [e]).length ≤ 4096
    rw [List.length_append, List.length_singleton]
    split
    · rw [List.length_drop]; omega
    · omega
  · show (if room = true then l.fatal ++ [e] else l.fatal).length ≤ 16
    split
    · rename_i hb
      have := hr hb
      rw [List.length_append, List.length_singleton]; omega
    · exact h2

theorem State.pushEntry_follows {μ : Nat} {s₀ s : State} {code : Nat} {fs : List (Nat × Nat)} (hm : Nat.lor 272 μ = μ) (h₀ : s₀.Follows μ s) :
    s₀.Follows μ (s.pushEntry code fs) := by
  refine State.Follows.lift hm h₀ ?_
  have h := State.Follows.refl 272 s
  have hr : (eventClass code == 0xF && decide (s.log.fatal.length < 16)) = true → s.log.fatal.length < 16 := by
    intro x
    rw [Bool.and_eq_true, decide_eq_true_eq] at x
    exact x.2
  unfold State.pushEntry
  refine State.Follows.ite (State.loseCopy_follows rfl ?_) ?_ <;>
  refine State.Follows.ite (State.count_follows rfl ?_) ?_ <;>
  refine State.Follows.ite (State.clearFatal_follows rfl ?_) ?_ <;>
  exact State.log_follows rfl h (fun k => EventLog.add_bounds _ _ hr k)

theorem State.classEffects_follows {μ : Nat} {s₀ : State} {s : State} {code : Nat} (hm : Nat.lor 153122387330597400 μ = μ) (h₀ : s₀.Follows μ s) :
    s₀.Follows μ (State.classEffects s code) := by
  refine State.Follows.lift hm h₀ ?_
  have h := State.Follows.refl 153122387330597400 s
  unfold State.classEffects
  repeat' first
    | (with_reducible assumption)
    | (exact (rfl : Nat.lor _ _ = _))
    | (with_reducible refine State.irqEvents_follows ?_ ?_)
    | (with_reducible refine State.mgmtCause_follows ?_ ?_)
    | split

theorem State.limitLogged_follows {μ : Nat} {s₀ s : State} {code scope : Nat} (hm : Nat.lor 256 μ = μ) (h₀ : s₀.Follows μ s) : s₀.Follows μ (s.limitLogged code scope) := by
  refine State.Follows.lift hm h₀ ?_
  have h := State.Follows.refl 256 s
  unfold State.limitLogged
  refine State.logSame_follows rfl h ?_ ?_ ?_ <;> rfl

theorem State.limitHeld_follows {μ : Nat} {s₀ s : State} {code scope k : Nat} (hm : Nat.lor 256 μ = μ) (h₀ : s₀.Follows μ s) : s₀.Follows μ (s.limitHeld code scope k) := by
  refine State.Follows.lift hm h₀ ?_
  have h := State.Follows.refl 256 s
  unfold State.limitHeld
  refine State.logSame_follows rfl h ?_ ?_ ?_ <;> rfl

theorem State.noteEvrLost_follows {μ : Nat} {s₀ s : State} (hm : Nat.lor 153122387330597656 μ = μ) (h₀ : s₀.Follows μ s) : s₀.Follows μ s.noteEvrLost := by
  refine State.Follows.lift hm h₀ ?_
  have h := State.Follows.refl 153122387330597656 s
  unfold State.noteEvrLost
  split
  · exact h
  · split
    · exact State.classEffects_follows rfl (State.pushEntry_follows rfl (State.limitLogged_follows rfl (State.logSame_follows rfl h rfl rfl rfl)))
    · exact h

theorem State.logEvent_follows {μ : Nat} {s₀ : State} {s : State} {code : Nat} {fs : List (Nat × Nat)} (hm : Nat.lor 153122387330597656 μ = μ) (h₀ : s₀.Follows μ s) :
    s₀.Follows μ (State.logEvent s code fs) := by
  refine State.Follows.lift hm h₀ ?_
  have h := State.Follows.refl 153122387330597656 s
  unfold State.logEvent
  repeat' first
    | (with_reducible assumption)
    | (exact (rfl : Nat.lor _ _ = _))
    | (with_reducible refine State.classEffects_follows ?_ ?_)
    | (with_reducible refine State.noteEvrLost_follows ?_ ?_)
    | (with_reducible refine State.pushEntry_follows ?_ ?_)
    | (with_reducible apply State.Follows.ite)

theorem State.logLimitedFor_follows {μ : Nat} {s₀ : State} {s : State} {span code scope k : Nat} {fs : Nat → List (Nat × Nat)} (hm : Nat.lor 153122387330597656 μ = μ) (h₀ : s₀.Follows μ s) :
    s₀.Follows μ (State.logLimitedFor s span code scope k fs) := by
  refine State.Follows.lift hm h₀ ?_
  have h := State.Follows.refl 153122387330597656 s
  unfold State.logLimitedFor
  repeat' first
    | (with_reducible assumption)
    | (exact (rfl : Nat.lor _ _ = _))
    | (with_reducible refine State.limitHeld_follows ?_ ?_)
    | (with_reducible refine State.limitLogged_follows ?_ ?_)
    | (with_reducible refine State.logEvent_follows ?_ ?_)
    | (with_reducible apply State.Follows.ite)

theorem State.logLimited_follows {μ : Nat} {s₀ : State} {s : State} {code scope : Nat} {fs : Nat → List (Nat × Nat)} (hm : Nat.lor 153122387330597656 μ = μ) (h₀ : s₀.Follows μ s) :
    s₀.Follows μ (State.logLimited s code scope fs) := by
  refine State.Follows.lift hm h₀ ?_
  have h := State.Follows.refl 153122387330597656 s
  unfold State.logLimited
  repeat' first
    | (with_reducible assumption)
    | (exact (rfl : Nat.lor _ _ = _))
    | (with_reducible refine State.logLimitedFor_follows ?_ ?_)

theorem State.writeCompletion_follows {μ : Nat} {s₀ : State} {s : State} {entry seq status : Nat} (hm : Nat.lor 9007199254741512 μ = μ) (h₀ : s₀.Follows μ s) :
    s₀.Follows μ (State.writeCompletion s entry seq status) := by
  refine State.Follows.lift hm h₀ ?_
  have h := State.Follows.refl 9007199254741512 s
  unfold State.writeCompletion
  repeat' first
    | (with_reducible assumption)
    | (exact (rfl : Nat.lor _ _ = _))
    | (with_reducible refine State.emit_follows ?_ ?_)
    | (with_reducible refine State.irqEvents_follows ?_ ?_)

theorem State.finish_follows {μ : Nat} {s₀ s : State} {opcode key status : Nat} (hm : Nat.lor 27021597764223496 μ = μ) (h₀ : s₀.Follows μ s) :
    s₀.Follows μ (s.finish opcode key status) := by
  refine State.Follows.lift hm h₀ ?_
  have h := State.Follows.refl 27021597764223496 s
  unfold State.finish
  refine State.Follows.foldl _ ?_ ?_
  · refine ⟨h.pending, h.out, h.draws, h.part, h.log, fun k => ?_, h.regs, rfl⟩
    have hl := List.length_filter_le (fun c => !(c.opcode == opcode && c.key == key)) s.cmd.inProgress
    exact ⟨Nat.le_trans hl (h.ring k).1, fun r => Nat.lt_of_le_of_lt hl ((h.ring k).2 r)⟩
  · intro u x hu
    split
    · exact State.writeCompletion_follows rfl hu
    · exact hu

end Sys2Proof.Machine
end

