-- ==== Sys2Proof/Laws/FollowsPlan.lean ====
section
/-!
SUPPORT. The operations of Machine/Plan.lean keep the relation `State.Follows`. The number in a lemma is the mask of the
components that its operation may change.
-/
namespace Sys2Proof.Machine
open Sys2Proof

theorem State.updPed_follows {μ : Nat} {s₀ : State} {s : State} {p : Nat} {f : Ped → Ped} (hm : Nat.lor 2147483648 μ = μ) (h₀ : s₀.Follows μ s) :
    s₀.Follows μ (State.updPed s p f) := by
  refine State.Follows.lift hm h₀ ?_
  have h := State.Follows.refl 2147483648 s
  unfold State.updPed
  repeat' first
    | (with_reducible assumption)
    | ((with_reducible apply State.Follows.keep) <;> first | exact trivial | exact rfl | skip)

theorem State.pedCount_follows {μ : Nat} {s₀ : State} {s : State} {p off k : Nat} {wide : Bool} (hm : Nat.lor 16 μ = μ) (h₀ : s₀.Follows μ s) :
    s₀.Follows μ (State.pedCount s p off k wide) := by
  refine State.Follows.lift hm h₀ ?_
  have h := State.Follows.refl 16 s
  unfold State.pedCount
  repeat' first
    | (with_reducible assumption)
    | (exact (rfl : Nat.lor _ _ = _))
    | (with_reducible refine State.count64By_follows ?_ ?_)
    | (with_reducible refine State.countBy_follows ?_ ?_)
    | (with_reducible apply State.Follows.ite)

theorem State.writePte_follows {μ : Nat} {s₀ : State} {s : State} {i q pg e : Nat} (hm : Nat.lor 2147483664 μ = μ) (h₀ : s₀.Follows μ s) :
    s₀.Follows μ (State.writePte s i q pg e) := by
  refine State.Follows.lift hm h₀ ?_
  have h := State.Follows.refl 2147483664 s
  unfold State.writePte
  repeat' first
    | (with_reducible assumption)
    | (exact (rfl : Nat.lor _ _ = _))
    | (with_reducible refine State.pedCount_follows ?_ ?_)
    | (with_reducible refine State.updPed_follows ?_ ?_)
    | (with_reducible apply State.Follows.ite)
    | (with_reducible refine State.Follows.foldl _ ?_ ?_)
    | (intro _ _ _)

end Sys2Proof.Machine
end

