-- ==== Sys2Proof/Laws/FollowsSeqs.lean ====
section
/-!
SUPPORT. The operations of Machine/Seqs.lean keep the relation `State.Follows`. The number in a lemma is the mask of the
components that its operation may change.
-/
namespace Sys2Proof.Machine
open Sys2Proof

theorem State.updSeq_follows {μ : Nat} {s₀ : State} {s : State} {i q : Nat} {f : Seq → Seq} (hm : Nat.lor 17592186044416 μ = μ) (h₀ : s₀.Follows μ s) :
    s₀.Follows μ (State.updSeq s i q f) := by
  refine State.Follows.lift hm h₀ ?_
  have h := State.Follows.refl 17592186044416 s
  unfold State.updSeq
  repeat' first
    | (with_reducible assumption)
    | ((with_reducible apply State.Follows.keep) <;> first | exact trivial | exact rfl | skip)

theorem State.updInst_follows {μ : Nat} {s₀ : State} {s : State} {i : Nat} {f : InstRun → InstRun} (hm : Nat.lor 8796093022208 μ = μ) (h₀ : s₀.Follows μ s) :
    s₀.Follows μ (State.updInst s i f) := by
  refine State.Follows.lift hm h₀ ?_
  have h := State.Follows.refl 8796093022208 s
  unfold State.updInst
  repeat' first
    | (with_reducible assumption)
    | ((with_reducible apply State.Follows.keep) <;> first | exact trivial | exact rfl | skip)

theorem State.updRec_follows {μ : Nat} {s₀ : State} {s : State} {r : Nat} {f : RecRing → RecRing} (hm : Nat.lor 70368744177664 μ = μ) (h₀ : s₀.Follows μ s) :
    s₀.Follows μ (State.updRec s r f) := by
  refine State.Follows.lift hm h₀ ?_
  have h := State.Follows.refl 70368744177664 s
  unfold State.updRec
  repeat' first
    | (with_reducible assumption)
    | ((with_reducible apply State.Follows.keep) <;> first | exact trivial | exact rfl | skip)

theorem State.queueRecord_follows {μ : Nat} {s₀ : State} {s : State} {r : Nat} {bytes : List Byte} (hm : Nat.lor 70368744177664 μ = μ) (h₀ : s₀.Follows μ s) :
    s₀.Follows μ (State.queueRecord s r bytes) := by
  refine State.Follows.lift hm h₀ ?_
  have h := State.Follows.refl 70368744177664 s
  unfold State.queueRecord
  repeat' first
    | (with_reducible assumption)
    | (exact (rfl : Nat.lor _ _ = _))
    | (with_reducible refine State.updRec_follows ?_ ?_)

theorem State.record_follows {μ : Nat} {s₀ : State} {s : State} {i q status : Nat} {tokens : List Nat} {flags : Nat} {more : Bool} (hm : Nat.lor 87960930222080 μ = μ) (h₀ : s₀.Follows μ s) :
    s₀.Follows μ (State.record s i q status tokens flags more) := by
  refine State.Follows.lift hm h₀ ?_
  have h := State.Follows.refl 87960930222080 s
  unfold State.record
  repeat' first
    | (with_reducible assumption)
    | (exact (rfl : Nat.lor _ _ = _))
    | (with_reducible refine State.queueRecord_follows ?_ ?_)
    | (with_reducible refine State.updRec_follows ?_ ?_)
    | (with_reducible refine State.updSeq_follows ?_ ?_)
    | (with_reducible apply State.Follows.ite)

theorem State.serveEntries_follows {μ : Nat} {s₀ : State} {s : State} {r : Nat} (hm : Nat.lor 87960930222080 μ = μ) (h₀ : s₀.Follows μ s) :
    s₀.Follows μ (State.serveEntries s r) := by
  refine State.Follows.lift hm h₀ ?_
  have h := State.Follows.refl 87960930222080 s
  unfold State.serveEntries
  repeat' first
    | (with_reducible assumption)
    | (exact (rfl : Nat.lor _ _ = _))
    | (with_reducible refine State.updRec_follows ?_ ?_)
    | (with_reducible apply State.Follows.ite)
    | (with_reducible refine State.Follows.foldl _ ?_ ?_)
    | (intro _ _ _)
    | ((with_reducible apply State.Follows.keep) <;> first | exact trivial | exact rfl | skip)

theorem State.evictedEvent_follows {μ : Nat} {s₀ : State} {s : State} {i q cause : Nat} (hm : Nat.lor 153122387330597656 μ = μ) (h₀ : s₀.Follows μ s) :
    s₀.Follows μ (State.evictedEvent s i q cause) := by
  refine State.Follows.lift hm h₀ ?_
  have h := State.Follows.refl 153122387330597656 s
  unfold State.evictedEvent
  repeat' first
    | (with_reducible assumption)
    | (exact (rfl : Nat.lor _ _ = _))
    | (with_reducible refine State.count_follows ?_ ?_)
    | (with_reducible refine State.logLimited_follows ?_ ?_)

theorem State.lateEvent_follows {μ : Nat} {s₀ : State} {s : State} {i : Nat} (hm : Nat.lor 153122387330597656 μ = μ) (h₀ : s₀.Follows μ s) :
    s₀.Follows μ (State.lateEvent s i) := by
  refine State.Follows.lift hm h₀ ?_
  have h := State.Follows.refl 153122387330597656 s
  unfold State.lateEvent
  repeat' first
    | (with_reducible assumption)
    | (exact (rfl : Nat.lor _ _ = _))
    | (with_reducible refine State.count_follows ?_ ?_)
    | (with_reducible refine State.logLimited_follows ?_ ?_)

theorem State.dropLines_follows {μ : Nat} {s₀ : State} {s : State} {i q : Nat} (hm : Nat.lor 2147483664 μ = μ) (h₀ : s₀.Follows μ s) :
    s₀.Follows μ (State.dropLines s i q) := by
  refine State.Follows.lift hm h₀ ?_
  have h := State.Follows.refl 2147483664 s
  unfold State.dropLines
  repeat' first
    | (with_reducible assumption)
    | (exact (rfl : Nat.lor _ _ = _))
    | (with_reducible refine State.pedCount_follows ?_ ?_)
    | (with_reducible refine State.updPed_follows ?_ ?_)
    | (with_reducible apply State.Follows.ite)
    | (with_reducible refine State.Follows.foldl _ ?_ ?_)
    | (intro _ _ _)

theorem State.freeFrames_follows {μ : Nat} {s₀ : State} {s : State} {i q : Nat} (hm : Nat.lor 19327352848 μ = μ) (h₀ : s₀.Follows μ s) :
    s₀.Follows μ (State.freeFrames s i q) := by
  refine State.Follows.lift hm h₀ ?_
  have h := State.Follows.refl 19327352848 s
  unfold State.freeFrames
  repeat' first
    | (with_reducible assumption)
    | (exact (rfl : Nat.lor _ _ = _))
    | (with_reducible refine State.dropLines_follows ?_ ?_)
    | (with_reducible refine State.writePte_follows ?_ ?_)
    | (with_reducible refine State.Follows.foldl _ ?_ ?_)
    | (intro _ _ _)
    | ((with_reducible apply State.Follows.keep) <;> first | exact trivial | exact rfl | skip)

theorem State.unmapPrefix_follows {μ : Nat} {s₀ : State} {s : State} {i q : Nat} (hm : Nat.lor 36507222032 μ = μ) (h₀ : s₀.Follows μ s) :
    s₀.Follows μ (State.unmapPrefix s i q) := by
  refine State.Follows.lift hm h₀ ?_
  have h := State.Follows.refl 36507222032 s
  unfold State.unmapPrefix
  repeat' first
    | (with_reducible assumption)
    | (exact (rfl : Nat.lor _ _ = _))
    | (with_reducible refine State.writePte_follows ?_ ?_)
    | (with_reducible apply State.Follows.ite)
    | (with_reducible refine State.Follows.foldl _ ?_ ?_)
    | (intro _ _ _)
    | dsimp only
    | ((with_reducible apply State.Follows.keep) <;> first | exact trivial | exact rfl | skip)

theorem State.clearKv_follows {μ : Nat} {s₀ : State} {s : State} {i q : Nat} (hm : Nat.lor 1043677052928 μ = μ) (h₀ : s₀.Follows μ s) :
    s₀.Follows μ (State.clearKv s i q) := by
  refine State.Follows.lift hm h₀ ?_
  have h := State.Follows.refl 1043677052928 s
  unfold State.clearKv
  repeat' first
    | (with_reducible assumption)
    | ((with_reducible apply State.Follows.keep) <;> first | exact trivial | exact rfl | skip)

theorem State.freeOne_follows {μ : Nat} {s₀ : State} {s : State} {i q : Nat} (hm : Nat.lor 18689550188560 μ = μ) (h₀ : s₀.Follows μ s) :
    s₀.Follows μ (State.freeOne s i q) := by
  refine State.Follows.lift hm h₀ ?_
  have h := State.Follows.refl 18689550188560 s
  unfold State.freeOne
  repeat' first
    | (with_reducible assumption)
    | (exact (rfl : Nat.lor _ _ = _))
    | (with_reducible refine State.clearKv_follows ?_ ?_)
    | (with_reducible refine State.freeFrames_follows ?_ ?_)
    | (with_reducible refine State.unmapPrefix_follows ?_ ?_)
    | dsimp only
    | ((with_reducible apply State.Follows.keep) <;> first | exact trivial | exact rfl | skip)

theorem State.freeSeq_follows {μ : Nat} {s₀ : State} {s : State} {i q : Nat} (hm : Nat.lor 2340858108051472 μ = μ) (h₀ : s₀.Follows μ s) :
    s₀.Follows μ (State.freeSeq s i q) := by
  refine State.Follows.lift hm h₀ ?_
  have h := State.Follows.refl 2340858108051472 s
  unfold State.freeSeq
  repeat' first
    | (with_reducible assumption)
    | (exact (rfl : Nat.lor _ _ = _))
    | (with_reducible refine State.freeOne_follows ?_ ?_)
    | (with_reducible refine State.serveEntries_follows ?_ ?_)
    | (with_reducible apply State.Follows.ite)
    | split
    | ((with_reducible apply State.Follows.keep) <;> first | exact trivial | exact rfl | skip)

theorem State.stall_follows {μ : Nat} {s₀ : State} {s : State} {i cause who : Nat} (hm : Nat.lor 156597941438513944 μ = μ) (h₀ : s₀.Follows μ s) :
    s₀.Follows μ (State.stall s i cause who) := by
  refine State.Follows.lift hm h₀ ?_
  have h := State.Follows.refl 156597941438513944 s
  unfold State.stall
  repeat' first
    | (with_reducible assumption)
    | (exact (rfl : Nat.lor _ _ = _))
    | (with_reducible refine State.evictedEvent_follows ?_ ?_)
    | (with_reducible refine State.freeOne_follows ?_ ?_)
    | (with_reducible refine State.freeSeq_follows ?_ ?_)
    | (with_reducible refine State.logEvent_follows ?_ ?_)
    | (with_reducible refine State.record_follows ?_ ?_)
    | (with_reducible refine State.updInst_follows ?_ ?_)
    | (with_reducible apply State.Follows.ite)
    | (with_reducible refine State.Follows.foldl _ ?_ ?_)
    | split
    | (intro _ _ _)
    | dsimp only
    | ((with_reducible apply State.Follows.keep) <;> first | exact trivial | exact rfl | skip)

theorem State.stallIf_follows {μ : Nat} {s₀ : State} {s : State} {i cause who : Nat} (hm : Nat.lor 156597941438513944 μ = μ) (h₀ : s₀.Follows μ s) :
    s₀.Follows μ (State.stallIf s i cause who) := by
  refine State.Follows.lift hm h₀ ?_
  have h := State.Follows.refl 156597941438513944 s
  unfold State.stallIf
  repeat' first
    | (with_reducible assumption)
    | (exact (rfl : Nat.lor _ _ = _))
    | (with_reducible refine State.stall_follows ?_ ?_)
    | (with_reducible apply State.Follows.ite)

theorem State.faultStall_follows {μ : Nat} {s₀ : State} {s : State} {n cause who : Nat} (hm : Nat.lor 156597941438513944 μ = μ) (h₀ : s₀.Follows μ s) :
    s₀.Follows μ (State.faultStall s n cause who) := by
  refine State.Follows.lift hm h₀ ?_
  have h := State.Follows.refl 156597941438513944 s
  unfold State.faultStall
  repeat' first
    | (with_reducible assumption)
    | (exact (rfl : Nat.lor _ _ = _))
    | (with_reducible refine State.stallIf_follows ?_ ?_)
    | split

end Sys2Proof.Machine
end

