-- ==== Sys2Proof/Laws/FollowsStore.lean ====
section
/-!
SUPPORT. The operations of Machine/Store.lean keep the relation `State.Follows`. The number in a lemma is the mask of the
components that its operation may change.
-/
namespace Sys2Proof.Machine
open Sys2Proof

theorem State.storeWrite_follows {μ : Nat} {s₀ : State} {s : State} {r v : Nat} (hm : Nat.lor 75557863725914323419136 μ = μ) (h₀ : s₀.Follows μ s) :
    s₀.Follows μ (State.storeWrite s r v) := by
  refine State.Follows.lift hm h₀ ?_
  have h := State.Follows.refl 75557863725914323419136 s
  unfold State.storeWrite
  repeat' first
    | (with_reducible assumption)
    | dsimp only
    | ((with_reducible apply State.Follows.keep) <;> first | exact trivial | exact rfl | skip)

theorem State.storeWritten_follows {μ : Nat} {s₀ : State} {s : State} {r : Nat} {ok : Bool} (hm : Nat.lor 75557863725914323419136 μ = μ) (h₀ : s₀.Follows μ s) :
    s₀.Follows μ (State.storeWritten s r ok) := by
  refine State.Follows.lift hm h₀ ?_
  have h := State.Follows.refl 75557863725914323419136 s
  unfold State.storeWritten
  repeat' first
    | (with_reducible assumption)
    | (with_reducible apply State.Follows.ite)
    | split
    | dsimp only
    | ((with_reducible apply State.Follows.keep) <;> first | exact trivial | exact rfl | skip)

theorem execStoreWriteComplete_follows {μ : Nat} {s₀ : State} {record : Nat} {ok : Bool} {s : State} (hm : Nat.lor 75557863725914323419136 μ = μ) (h₀ : s₀.Follows μ s) :
    s₀.Ends μ (execStoreWriteComplete record ok s) := by
  refine State.Ends.lift hm h₀ ?_
  have h := State.Follows.refl 75557863725914323419136 s
  unfold execStoreWriteComplete
  repeat' first
    | (with_reducible assumption)
    | (exact (rfl : Nat.lor _ _ = _))
    | (with_reducible refine State.storeWritten_follows ?_ ?_)
    | (with_reducible apply State.Ends.next)

end Sys2Proof.Machine
end

