-- ==== Sys2Proof/Laws/FollowsArmature.lean ====
section
/-!
SUPPORT. The operations of Machine/Armature.lean keep the relation `State.Follows`. The number in a lemma is the mask of the
components that its operation may change.
-/
namespace Sys2Proof.Machine
open Sys2Proof

theorem State.armFinish_follows {μ : Nat} {s₀ : State} {s : State} (hm : Nat.lor 27021597764223496 μ = μ) (h₀ : s₀.Follows μ s) :
    s₀.Follows μ (State.armFinish s) := by
  refine State.Follows.lift hm h₀ ?_
  have h := State.Follows.refl 27021597764223496 s
  unfold State.armFinish
  repeat' first
    | (with_reducible assumption)
    | (exact (rfl : Nat.lor _ _ = _))
    | (with_reducible refine State.finish_follows ?_ ?_)

theorem State.armIdle_follows {μ : Nat} {s₀ : State} {s : State} (hm : Nat.lor 2048 μ = μ) (h₀ : s₀.Follows μ s) :
    s₀.Follows μ (State.armIdle s) := by
  refine State.Follows.lift hm h₀ ?_
  have h := State.Follows.refl 2048 s
  unfold State.armIdle
  repeat' first
    | (with_reducible assumption)
    | dsimp only
    | ((with_reducible apply State.Follows.keep) <;> first | exact trivial | exact rfl | skip)

theorem State.armNotOwner_follows {μ : Nat} {s₀ : State} {s : State} {port : Port} {cmd : Nat} (hm : Nat.lor 153122387330597656 μ = μ) (h₀ : s₀.Follows μ s) :
    s₀.Follows μ (State.armNotOwner s port cmd).1 := by
  refine State.Follows.lift hm h₀ ?_
  have h := State.Follows.refl 153122387330597656 s
  unfold State.armNotOwner
  repeat' first
    | (with_reducible assumption)
    | (exact (rfl : Nat.lor _ _ = _))
    | (with_reducible refine State.logEvent_follows ?_ ?_)

theorem State.armBadState_follows {μ : Nat} {s₀ : State} {s : State} (hm : Nat.lor 2048 μ = μ) (h₀ : s₀.Follows μ s) :
    s₀.Follows μ (State.armBadState s).1 := by
  refine State.Follows.lift hm h₀ ?_
  have h := State.Follows.refl 2048 s
  unfold State.armBadState
  repeat' first
    | (with_reducible assumption)
    | dsimp only
    | ((with_reducible apply State.Follows.keep) <;> first | exact trivial | exact rfl | skip)

theorem State.armLoad_follows {μ : Nat} {s₀ : State} {s : State} {port : Port} (hm : Nat.lor 153122387330599704 μ = μ) (h₀ : s₀.Follows μ s) :
    s₀.Follows μ (State.armLoad s port).1 := by
  refine State.Follows.lift hm h₀ ?_
  have h := State.Follows.refl 153122387330599704 s
  unfold State.armLoad
  repeat' first
    | (with_reducible assumption)
    | (exact (rfl : Nat.lor _ _ = _))
    | (with_reducible refine State.armBadState_follows ?_ ?_)
    | (with_reducible refine State.armNotOwner_follows ?_ ?_)
    | (with_reducible refine State.emit_follows ?_ ?_)
    | (with_reducible refine State.logEvent_follows ?_ ?_)
    | (with_reducible apply State.Follows.ite_fst)
    | dsimp only
    | ((with_reducible apply State.Follows.keep) <;> first | exact trivial | exact rfl | skip)

theorem State.armDiscard_follows {μ : Nat} {s₀ : State} {s : State} {port : Port} (hm : Nat.lor 171136785840081688 μ = μ) (h₀ : s₀.Follows μ s) :
    s₀.Follows μ (State.armDiscard s port).1 := by
  refine State.Follows.lift hm h₀ ?_
  have h := State.Follows.refl 171136785840081688 s
  unfold State.armDiscard
  repeat' first
    | (with_reducible assumption)
    | (exact (rfl : Nat.lor _ _ = _))
    | (with_reducible refine State.armBadState_follows ?_ ?_)
    | (with_reducible refine State.armFinish_follows ?_ ?_)
    | (with_reducible refine State.armIdle_follows ?_ ?_)
    | (with_reducible refine State.armNotOwner_follows ?_ ?_)
    | (with_reducible apply State.Follows.ite_fst)
    | split
    | dsimp only
    | ((with_reducible apply State.Follows.keep) <;> first | exact trivial | exact rfl | skip)

theorem State.armSeal_follows {μ : Nat} {s₀ : State} {s : State} {port : Port} (hm : Nat.lor 153122387330616088 μ = μ) (h₀ : s₀.Follows μ s) :
    s₀.Follows μ (State.armSeal s port).1 := by
  refine State.Follows.lift hm h₀ ?_
  have h := State.Follows.refl 153122387330616088 s
  unfold State.armSeal
  repeat' first
    | (with_reducible assumption)
    | (exact (rfl : Nat.lor _ _ = _))
    | (with_reducible refine State.armBadState_follows ?_ ?_)
    | (with_reducible refine State.armNotOwner_follows ?_ ?_)
    | (with_reducible apply State.Follows.ite_fst)
    | split
    | dsimp only
    | ((with_reducible apply State.Follows.keep) <;> first | exact trivial | exact rfl | skip)

theorem State.armFetchFail_follows {μ : Nat} {s₀ : State} {s : State} (hm : Nat.lor 171136785840081688 μ = μ) (h₀ : s₀.Follows μ s) :
    s₀.Follows μ (State.armFetchFail s) := by
  refine State.Follows.lift hm h₀ ?_
  have h := State.Follows.refl 171136785840081688 s
  unfold State.armFetchFail
  repeat' first
    | (with_reducible assumption)
    | (exact (rfl : Nat.lor _ _ = _))
    | (with_reducible refine State.armFinish_follows ?_ ?_)
    | (with_reducible refine State.armIdle_follows ?_ ?_)
    | (with_reducible refine State.logEvent_follows ?_ ?_)
    | (with_reducible apply State.Follows.ite)
    | dsimp only
    | ((with_reducible apply State.Follows.keep) <;> first | exact trivial | exact rfl | skip)

theorem State.armLinkLost_follows {μ : Nat} {s₀ : State} {s : State} {p : Nat} (hm : Nat.lor 171136785840081688 μ = μ) (h₀ : s₀.Follows μ s) :
    s₀.Follows μ (State.armLinkLost s p) := by
  refine State.Follows.lift hm h₀ ?_
  have h := State.Follows.refl 171136785840081688 s
  unfold State.armLinkLost
  repeat' first
    | (with_reducible assumption)
    | (exact (rfl : Nat.lor _ _ = _))
    | (with_reducible refine State.armFinish_follows ?_ ?_)
    | (with_reducible refine State.armIdle_follows ?_ ?_)
    | (with_reducible refine State.logEvent_follows ?_ ?_)
    | (with_reducible apply State.Follows.ite)

theorem State.armFetched_follows {μ : Nat} {s₀ : State} {s : State} {image : List Byte} (hm : Nat.lor 2048 μ = μ) (h₀ : s₀.Follows μ s) :
    s₀.Follows μ (State.armFetched s image) := by
  refine State.Follows.lift hm h₀ ?_
  have h := State.Follows.refl 2048 s
  unfold State.armFetched
  repeat' first
    | (with_reducible assumption)
    | (with_reducible apply State.Follows.ite)
    | dsimp only
    | ((with_reducible apply State.Follows.keep) <;> first | exact trivial | exact rfl | skip)

theorem State.armRejectEvent_follows {μ : Nat} {s₀ : State} {s : State} {st off : Nat} (hm : Nat.lor 153122387330597656 μ = μ) (h₀ : s₀.Follows μ s) :
    s₀.Follows μ (State.armRejectEvent s st off) := by
  refine State.Follows.lift hm h₀ ?_
  have h := State.Follows.refl 153122387330597656 s
  unfold State.armRejectEvent
  repeat' first
    | (with_reducible assumption)
    | (exact (rfl : Nat.lor _ _ = _))
    | (with_reducible refine State.logEvent_follows ?_ ?_)
    | (with_reducible apply State.Follows.ite)

theorem State.armValidated_follows {μ : Nat} {s₀ : State} {s : State} (hm : Nat.lor 171136785840081688 μ = μ) (h₀ : s₀.Follows μ s) :
    s₀.Follows μ (State.armValidated s) := by
  refine State.Follows.lift hm h₀ ?_
  have h := State.Follows.refl 171136785840081688 s
  unfold State.armValidated
  repeat' first
    | (with_reducible assumption)
    | (exact (rfl : Nat.lor _ _ = _))
    | (with_reducible refine State.armFinish_follows ?_ ?_)
    | (with_reducible refine State.armIdle_follows ?_ ?_)
    | (with_reducible refine State.armRejectEvent_follows ?_ ?_)
    | (with_reducible refine State.logEvent_follows ?_ ?_)
    | (with_reducible apply State.Follows.ite)
    | split
    | dsimp only
    | ((with_reducible apply State.Follows.keep) <;> first | exact trivial | exact rfl | skip)

theorem execArmLoad_follows {μ : Nat} {s₀ : State} {port : Port} {s : State} (hm : Nat.lor 153122387330599704 μ = μ) (h₀ : s₀.Follows μ s) :
    s₀.Ends μ (execArmLoad port s) := by
  refine State.Ends.lift hm h₀ ?_
  have h := State.Follows.refl 153122387330599704 s
  unfold execArmLoad
  repeat' first
    | (with_reducible assumption)
    | (exact (rfl : Nat.lor _ _ = _))
    | (with_reducible refine State.armLoad_follows ?_ ?_)
    | (with_reducible apply State.Ends.next)

theorem execArmSeal_follows {μ : Nat} {s₀ : State} {port : Port} {s : State} (hm : Nat.lor 153122387330616088 μ = μ) (h₀ : s₀.Follows μ s) :
    s₀.Ends μ (execArmSeal port s) := by
  refine State.Ends.lift hm h₀ ?_
  have h := State.Follows.refl 153122387330616088 s
  unfold execArmSeal
  repeat' first
    | (with_reducible assumption)
    | (exact (rfl : Nat.lor _ _ = _))
    | (with_reducible refine State.armSeal_follows ?_ ?_)
    | (with_reducible apply State.Ends.next)

theorem execArmDiscard_follows {μ : Nat} {s₀ : State} {port : Port} {s : State} (hm : Nat.lor 171136785840081688 μ = μ) (h₀ : s₀.Follows μ s) :
    s₀.Ends μ (execArmDiscard port s) := by
  refine State.Ends.lift hm h₀ ?_
  have h := State.Follows.refl 171136785840081688 s
  unfold execArmDiscard
  repeat' first
    | (with_reducible assumption)
    | (exact (rfl : Nat.lor _ _ = _))
    | (with_reducible refine State.armDiscard_follows ?_ ?_)
    | (with_reducible apply State.Ends.next)

theorem execImageFetchComplete_follows {μ : Nat} {s₀ : State} {image : List Byte} {s : State} (hm : Nat.lor 2048 μ = μ) (h₀ : s₀.Follows μ s) :
    s₀.Ends μ (execImageFetchComplete image s) := by
  refine State.Ends.lift hm h₀ ?_
  have h := State.Follows.refl 2048 s
  unfold execImageFetchComplete
  repeat' first
    | (with_reducible assumption)
    | (exact (rfl : Nat.lor _ _ = _))
    | (with_reducible refine State.armFetched_follows ?_ ?_)
    | (with_reducible apply State.Ends.next)

theorem execImageFetchError_follows {μ : Nat} {s₀ : State} {s : State} (hm : Nat.lor 171136785840081688 μ = μ) (h₀ : s₀.Follows μ s) :
    s₀.Ends μ (execImageFetchError s) := by
  refine State.Ends.lift hm h₀ ?_
  have h := State.Follows.refl 171136785840081688 s
  unfold execImageFetchError
  repeat' first
    | (with_reducible assumption)
    | (exact (rfl : Nat.lor _ _ = _))
    | (with_reducible refine State.armFetchFail_follows ?_ ?_)
    | (with_reducible apply State.Ends.next)

theorem execImageFetchTimeout_follows {μ : Nat} {s₀ : State} {s : State} (hm : Nat.lor 171136785840081688 μ = μ) (h₀ : s₀.Follows μ s) :
    s₀.Ends μ (execImageFetchTimeout s) := by
  refine State.Ends.lift hm h₀ ?_
  have h := State.Follows.refl 171136785840081688 s
  unfold execImageFetchTimeout
  repeat' first
    | (with_reducible assumption)
    | (exact (rfl : Nat.lor _ _ = _))
    | (with_reducible refine State.armFetchFail_follows ?_ ?_)
    | (with_reducible apply State.Ends.next)

theorem execValidationComplete_follows {μ : Nat} {s₀ : State} {s : State} (hm : Nat.lor 171136785840081688 μ = μ) (h₀ : s₀.Follows μ s) :
    s₀.Ends μ (execValidationComplete s) := by
  refine State.Ends.lift hm h₀ ?_
  have h := State.Follows.refl 171136785840081688 s
  unfold execValidationComplete
  repeat' first
    | (with_reducible assumption)
    | (exact (rfl : Nat.lor _ _ = _))
    | (with_reducible refine State.armValidated_follows ?_ ?_)
    | (with_reducible apply State.Ends.next)

end Sys2Proof.Machine
end

