-- ==== Sys2Proof/Laws/FollowsFabric.lean ====
section
/-!
SUPPORT. The operations of Machine/Fabric.lean keep the relation `State.Follows`. The number in a lemma is the mask of the
components that its operation may change.
-/
namespace Sys2Proof.Machine
open Sys2Proof

theorem State.fabCount_follows {μ : Nat} {s₀ : State} {s : State} {off k : Nat} {wide : Bool} (hm : Nat.lor 16 μ = μ) (h₀ : s₀.Follows μ s) :
    s₀.Follows μ (State.fabCount s off k wide) := by
  refine State.Follows.lift hm h₀ ?_
  have h := State.Follows.refl 16 s
  unfold State.fabCount
  repeat' first
    | (with_reducible assumption)
    | (exact (rfl : Nat.lor _ _ = _))
    | (with_reducible refine State.count64By_follows ?_ ?_)
    | (with_reducible refine State.countBy_follows ?_ ?_)
    | (with_reducible apply State.Follows.ite)

theorem State.inject_follows {μ : Nat} {s₀ : State} {s : State} {body : MsgBody} {src dst : Nat} (hm : Nat.lor 153122387968131864 μ = μ) (h₀ : s₀.Follows μ s) :
    s₀.Follows μ (State.inject s body src dst).1 := by
  refine State.Follows.lift hm h₀ ?_
  have h := State.Follows.refl 153122387968131864 s
  unfold State.inject
  repeat' first
    | (with_reducible assumption)
    | (exact (rfl : Nat.lor _ _ = _))
    | (with_reducible refine State.fabCount_follows ?_ ?_)
    | (with_reducible refine State.logEvent_follows ?_ ?_)
    | (with_reducible apply State.Follows.ite_fst)
    | split
    | dsimp only
    | ((with_reducible apply State.Follows.keep) <;> first | exact trivial | exact rfl | skip)

theorem State.updMsg_follows {μ : Nat} {s₀ : State} {s : State} {id : Nat} {f : FabMsg → FabMsg} (hm : Nat.lor 33554432 μ = μ) (h₀ : s₀.Follows μ s) :
    s₀.Follows μ (State.updMsg s id f) := by
  refine State.Follows.lift hm h₀ ?_
  have h := State.Follows.refl 33554432 s
  unfold State.updMsg
  repeat' first
    | (with_reducible assumption)
    | ((with_reducible apply State.Follows.keep) <;> first | exact trivial | exact rfl | skip)

theorem State.dropMsg_follows {μ : Nat} {s₀ : State} {s : State} {id : Nat} (hm : Nat.lor 33554432 μ = μ) (h₀ : s₀.Follows μ s) :
    s₀.Follows μ (State.dropMsg s id) := by
  refine State.Follows.lift hm h₀ ?_
  have h := State.Follows.refl 33554432 s
  unfold State.dropMsg
  repeat' first
    | (with_reducible assumption)
    | ((with_reducible apply State.Follows.keep) <;> first | exact trivial | exact rfl | skip)

theorem State.respond_follows {μ : Nat} {s₀ : State} {s : State} {id : Nat} {r : MsgResp} (hm : Nat.lor 33554440 μ = μ) (h₀ : s₀.Follows μ s) :
    s₀.Follows μ (State.respond s id r) := by
  refine State.Follows.lift hm h₀ ?_
  have h := State.Follows.refl 33554440 s
  unfold State.respond
  repeat' first
    | (with_reducible assumption)
    | (exact (rfl : Nat.lor _ _ = _))
    | (with_reducible refine State.emit_follows ?_ ?_)
    | (with_reducible refine State.updMsg_follows ?_ ?_)

theorem State.duplicate_follows {μ : Nat} {s₀ : State} {s : State} {m : FabMsg} {r : MsgResp} (hm : Nat.lor 33554456 μ = μ) (h₀ : s₀.Follows μ s) :
    s₀.Follows μ (State.duplicate s m r) := by
  refine State.Follows.lift hm h₀ ?_
  have h := State.Follows.refl 33554456 s
  unfold State.duplicate
  repeat' first
    | (with_reducible assumption)
    | (exact (rfl : Nat.lor _ _ = _))
    | (with_reducible refine State.fabCount_follows ?_ ?_)
    | (with_reducible refine State.respond_follows ?_ ?_)

theorem State.retireSlice_follows {μ : Nat} {s₀ : State} {s : State} {r net cause : Nat} (hm : Nat.lor 153122387632587544 μ = μ) (h₀ : s₀.Follows μ s) :
    s₀.Follows μ (State.retireSlice s r net cause) := by
  refine State.Follows.lift hm h₀ ?_
  have h := State.Follows.refl 153122387632587544 s
  unfold State.retireSlice
  repeat' first
    | (with_reducible assumption)
    | (exact (rfl : Nat.lor _ _ = _))
    | (with_reducible refine State.fabCount_follows ?_ ?_)
    | (with_reducible refine State.logEvent_follows ?_ ?_)
    | (with_reducible refine State.updMsg_follows ?_ ?_)
    | (with_reducible apply State.Follows.ite)
    | (with_reducible refine State.Follows.foldl _ ?_ ?_)
    | (intro _ _ _)
    | ((with_reducible apply State.Follows.keep) <;> first | exact trivial | exact rfl | skip)

theorem State.retireLane_follows {μ : Nat} {s₀ : State} {s : State} {r net p cause : Nat} (hm : Nat.lor 153122387766805272 μ = μ) (h₀ : s₀.Follows μ s) :
    s₀.Follows μ (State.retireLane s r net p cause) := by
  refine State.Follows.lift hm h₀ ?_
  have h := State.Follows.refl 153122387766805272 s
  unfold State.retireLane
  repeat' first
    | (with_reducible assumption)
    | (exact (rfl : Nat.lor _ _ = _))
    | (with_reducible refine State.logEvent_follows ?_ ?_)
    | (with_reducible refine State.retireSlice_follows ?_ ?_)
    | (with_reducible apply State.Follows.ite)
    | split
    | ((with_reducible apply State.Follows.keep) <;> first | exact trivial | exact rfl | skip)

theorem State.resends_follows {μ : Nat} {s₀ : State} {s : State} {r net p k : Nat} (hm : Nat.lor 153122387330597656 μ = μ) (h₀ : s₀.Follows μ s) :
    s₀.Follows μ (State.resends s r net p k) := by
  refine State.Follows.lift hm h₀ ?_
  have h := State.Follows.refl 153122387330597656 s
  unfold State.resends
  repeat' first
    | (with_reducible assumption)
    | (exact (rfl : Nat.lor _ _ = _))
    | (with_reducible refine State.fabCount_follows ?_ ?_)
    | (with_reducible refine State.logLimitedFor_follows ?_ ?_)
    | split

theorem State.flit_follows {μ : Nat} {s₀ : State} {s : State} {r net p num : Nat} {good : Bool} {kind resent age : Nat} (hm : Nat.lor 153122387766805272 μ = μ) (h₀ : s₀.Follows μ s) :
    s₀.Follows μ (State.flit s r net p num good kind resent age) := by
  refine State.Follows.lift hm h₀ ?_
  have h := State.Follows.refl 153122387766805272 s
  unfold State.flit
  repeat' first
    | (with_reducible assumption)
    | (exact (rfl : Nat.lor _ _ = _))
    | (with_reducible refine State.emit_follows ?_ ?_)
    | (with_reducible refine State.fabCount_follows ?_ ?_)
    | (with_reducible refine State.regMax_follows ?_ ?_)
    | (with_reducible refine State.resends_follows ?_ ?_)
    | (with_reducible refine State.retireLane_follows ?_ ?_)
    | (with_reducible apply State.Follows.ite)
    | ((with_reducible apply State.Follows.keep) <;> first | exact trivial | exact rfl | skip)

theorem execFabricFlit_follows {μ : Nat} {s₀ : State} {router net port num : Nat} {good : Bool} {kind resent age : Nat} {s : State} (hm : Nat.lor 153122387766805272 μ = μ) (h₀ : s₀.Follows μ s) :
    s₀.Ends μ (execFabricFlit router net port num good kind resent age s) := by
  refine State.Ends.lift hm h₀ ?_
  have h := State.Follows.refl 153122387766805272 s
  unfold execFabricFlit
  repeat' first
    | (with_reducible assumption)
    | (exact (rfl : Nat.lor _ _ = _))
    | (with_reducible refine State.flit_follows ?_ ?_)
    | (with_reducible apply State.Ends.next)

theorem execLinkAckTimeout_follows {μ : Nat} {s₀ : State} {router net port resent : Nat} {s : State} (hm : Nat.lor 153122387330597656 μ = μ) (h₀ : s₀.Follows μ s) :
    s₀.Ends μ (execLinkAckTimeout router net port resent s) := by
  refine State.Ends.lift hm h₀ ?_
  have h := State.Follows.refl 153122387330597656 s
  unfold execLinkAckTimeout
  repeat' first
    | (with_reducible assumption)
    | (exact (rfl : Nat.lor _ _ = _))
    | (with_reducible refine State.resends_follows ?_ ?_)
    | (with_reducible apply State.Ends.next)
    | (with_reducible apply State.Follows.ite)
    | split

theorem execLinkLivenessTimeout_follows {μ : Nat} {s₀ : State} {router net port : Nat} {s : State} (hm : Nat.lor 153122387766805272 μ = μ) (h₀ : s₀.Follows μ s) :
    s₀.Ends μ (execLinkLivenessTimeout router net port s) := by
  refine State.Ends.lift hm h₀ ?_
  have h := State.Follows.refl 153122387766805272 s
  unfold execLinkLivenessTimeout
  repeat' first
    | (with_reducible assumption)
    | (exact (rfl : Nat.lor _ _ = _))
    | (with_reducible refine State.retireLane_follows ?_ ?_)
    | (with_reducible apply State.Ends.next)
    | (with_reducible apply State.Follows.ite)
    | split

theorem execIdleFlitTimer_follows {μ : Nat} {s₀ : State} {router net port : Nat} {s : State} (hm : Nat.lor 8 μ = μ) (h₀ : s₀.Follows μ s) :
    s₀.Ends μ (execIdleFlitTimer router net port s) := by
  refine State.Ends.lift hm h₀ ?_
  have h := State.Follows.refl 8 s
  unfold execIdleFlitTimer
  repeat' first
    | (with_reducible assumption)
    | (exact (rfl : Nat.lor _ _ = _))
    | (with_reducible refine State.emit_follows ?_ ?_)
    | (with_reducible apply State.Ends.next)
    | (with_reducible apply State.Follows.ite)
    | split

theorem execUrgencyPromotion_follows {μ : Nat} {s₀ : State} {msg : Nat} {s : State} (hm : Nat.lor 33554448 μ = μ) (h₀ : s₀.Follows μ s) :
    s₀.Ends μ (execUrgencyPromotion msg s) := by
  refine State.Ends.lift hm h₀ ?_
  have h := State.Follows.refl 33554448 s
  unfold execUrgencyPromotion
  repeat' first
    | (with_reducible assumption)
    | (exact (rfl : Nat.lor _ _ = _))
    | (with_reducible refine State.fabCount_follows ?_ ?_)
    | (with_reducible refine State.updMsg_follows ?_ ?_)
    | (with_reducible apply State.Ends.next)
    | (with_reducible apply State.Follows.ite)
    | split

end Sys2Proof.Machine
end

