-- ==== Sys2Proof/Laws/FollowsIcpen.lean ====
section
/-!
SUPPORT. The operations of Machine/Icpen.lean keep the relation `State.Follows`. The number in a lemma is the mask of the
components that its operation may change.
-/
namespace Sys2Proof.Machine
open Sys2Proof

theorem State.updIcp_follows {μ : Nat} {s₀ : State} {s : State} {n : Nat} {f : IcpPort → IcpPort} (hm : Nat.lor 1152921504606846976 μ = μ) (h₀ : s₀.Follows μ s) :
    s₀.Follows μ (State.updIcp s n f) := by
  refine State.Follows.lift hm h₀ ?_
  have h := State.Follows.refl 1152921504606846976 s
  unfold State.updIcp
  repeat' first
    | (with_reducible assumption)
    | ((with_reducible apply State.Follows.keep) <;> first | exact trivial | exact rfl | skip)

theorem State.icpPump_follows {μ : Nat} {s₀ : State} {s : State} {n : Nat} (hm : Nat.lor 1152921504640401432 μ = μ) (h₀ : s₀.Follows μ s) :
    s₀.Follows μ (State.icpPump s n) := by
  refine State.Follows.lift hm h₀ ?_
  have h := State.Follows.refl 1152921504640401432 s
  unfold State.icpPump
  repeat' first
    | (with_reducible assumption)
    | (exact (rfl : Nat.lor _ _ = _))
    | (with_reducible refine State.count64By_follows ?_ ?_)
    | (with_reducible refine State.respond_follows ?_ ?_)
    | (with_reducible refine State.Follows.foldl _ ?_ ?_)
    | (intro _ _ _)
    | ((with_reducible apply State.Follows.keep) <;> first | exact trivial | exact rfl | skip)

theorem State.icpFrame_follows {μ : Nat} {s₀ : State} {s : State} {n : Nat} {kind : IcpKind} {fields : List Nat} {flits : Nat} (hm : Nat.lor 1152921504640401432 μ = μ) (h₀ : s₀.Follows μ s) :
    s₀.Follows μ (State.icpFrame s n kind fields flits) := by
  refine State.Follows.lift hm h₀ ?_
  have h := State.Follows.refl 1152921504640401432 s
  unfold State.icpFrame
  repeat' first
    | (with_reducible assumption)
    | (exact (rfl : Nat.lor _ _ = _))
    | (with_reducible refine State.emit_follows ?_ ?_)
    | (with_reducible refine State.icpPump_follows ?_ ?_)
    | (with_reducible refine State.updIcp_follows ?_ ?_)

theorem State.icpMessage_follows {μ : Nat} {s₀ : State} {s : State} {n stream op fmt dec : Nat} {bytes : List Byte} {msg : Option Nat} (hm : Nat.lor 1152921504640401432 μ = μ) (h₀ : s₀.Follows μ s) :
    s₀.Follows μ (State.icpMessage s n stream op fmt dec bytes msg) := by
  refine State.Follows.lift hm h₀ ?_
  have h := State.Follows.refl 1152921504640401432 s
  unfold State.icpMessage
  repeat' first
    | (with_reducible assumption)
    | (exact (rfl : Nat.lor _ _ = _))
    | (with_reducible refine State.emit_follows ?_ ?_)
    | (with_reducible refine State.icpPump_follows ?_ ?_)
    | (with_reducible refine State.updIcp_follows ?_ ?_)

theorem State.checkRoutes_follows {μ : Nat} {s₀ : State} {s : State} {n : Nat} (hm : Nat.lor 1306043891937444632 μ = μ) (h₀ : s₀.Follows μ s) :
    s₀.Follows μ (State.checkRoutes s n) := by
  refine State.Follows.lift hm h₀ ?_
  have h := State.Follows.refl 1306043891937444632 s
  unfold State.checkRoutes
  repeat' first
    | (with_reducible assumption)
    | (exact (rfl : Nat.lor _ _ = _))
    | (with_reducible refine State.logEvent_follows ?_ ?_)
    | (with_reducible refine State.updIcp_follows ?_ ?_)
    | (with_reducible refine State.Follows.foldl _ ?_ ?_)
    | (intro _ _ _)

theorem State.icpWrite_follows {μ : Nat} {s₀ : State} {s : State} {m i type a : Nat} {bytes : List Byte} (hm : Nat.lor 1152921504640401432 μ = μ) (h₀ : s₀.Follows μ s) :
    s₀.Follows μ (State.icpWrite s m i type a bytes) := by
  refine State.Follows.lift hm h₀ ?_
  have h := State.Follows.refl 1152921504640401432 s
  unfold State.icpWrite
  repeat' first
    | (with_reducible assumption)
    | (exact (rfl : Nat.lor _ _ = _))
    | (with_reducible refine State.icpMessage_follows ?_ ?_)
    | (with_reducible refine State.respond_follows ?_ ?_)
    | (with_reducible apply State.Follows.ite)

theorem State.icpRead_follows {μ : Nat} {s₀ : State} {s : State} {m type a : Nat} {old : List Byte} (hm : Nat.lor 1729382256943824904 μ = μ) (h₀ : s₀.Follows μ s) :
    s₀.Follows μ (State.icpRead s m type a old) := by
  refine State.Follows.lift hm h₀ ?_
  have h := State.Follows.refl 1729382256943824904 s
  unfold State.icpRead
  repeat' first
    | (with_reducible assumption)
    | (exact (rfl : Nat.lor _ _ = _))
    | (with_reducible refine State.respond_follows ?_ ?_)
    | (with_reducible refine State.updIcp_follows ?_ ?_)
    | (with_reducible refine State.updMsg_follows ?_ ?_)
    | (with_reducible apply State.Follows.ite)
    | split
    | dsimp only
    | ((with_reducible apply State.Follows.keep) <;> first | exact trivial | exact rfl | skip)

theorem State.icpDiscard_follows {μ : Nat} {s₀ : State} {s : State} {n : Nat} {waits : List Nat} (hm : Nat.lor 1152921504640401416 μ = μ) (h₀ : s₀.Follows μ s) :
    s₀.Follows μ (State.icpDiscard s n waits) := by
  refine State.Follows.lift hm h₀ ?_
  have h := State.Follows.refl 1152921504640401416 s
  unfold State.icpDiscard
  repeat' first
    | (with_reducible assumption)
    | (exact (rfl : Nat.lor _ _ = _))
    | (with_reducible refine State.respond_follows ?_ ?_)
    | (with_reducible refine State.updIcp_follows ?_ ?_)
    | (with_reducible refine State.Follows.foldl _ ?_ ?_)
    | (intro _ _ _)

end Sys2Proof.Machine
end

