-- ==== Sys2Proof/Laws/FollowsCores.lean ====
section
/-!
SUPPORT. The operations of Machine/Cores.lean keep the relation `State.Follows`. The number in a lemma is the mask of the
components that its operation may change.
-/
namespace Sys2Proof.Machine
open Sys2Proof

theorem State.updCore_follows {μ : Nat} {s₀ : State} {s : State} {n : Nat} {f : Core → Core} (hm : Nat.lor 2097152 μ = μ) (h₀ : s₀.Follows μ s) :
    s₀.Follows μ (State.updCore s n f) := by
  refine State.Follows.lift hm h₀ ?_
  have h := State.Follows.refl 2097152 s
  unfold State.updCore
  repeat' first
    | (with_reducible assumption)
    | ((with_reducible apply State.Follows.keep) <;> first | exact trivial | exact rfl | skip)

theorem State.coreCount_follows {μ : Nat} {s₀ : State} {s : State} {n off k : Nat} {wide : Bool} (hm : Nat.lor 16 μ = μ) (h₀ : s₀.Follows μ s) :
    s₀.Follows μ (State.coreCount s n off k wide) := by
  refine State.Follows.lift hm h₀ ?_
  have h := State.Follows.refl 16 s
  unfold State.coreCount
  repeat' first
    | (with_reducible assumption)
    | (exact (rfl : Nat.lor _ _ = _))
    | (with_reducible refine State.count64By_follows ?_ ?_)
    | (with_reducible refine State.countBy_follows ?_ ?_)
    | (with_reducible apply State.Follows.ite)

theorem State.updCtx_follows {μ : Nat} {s₀ : State} {s : State} {u : Exec} {f : Thread → Thread} (hm : Nat.lor 10485760 μ = μ) (h₀ : s₀.Follows μ s) :
    s₀.Follows μ (State.updCtx s u f) := by
  refine State.Follows.lift hm h₀ ?_
  have h := State.Follows.refl 10485760 s
  unfold State.updCtx
  repeat' first
    | (with_reducible assumption)
    | (exact (rfl : Nat.lor _ _ = _))
    | (with_reducible refine State.updCore_follows ?_ ?_)
    | split
    | ((with_reducible apply State.Follows.keep) <;> first | exact trivial | exact rfl | skip)

theorem State.setS_follows {μ : Nat} {s₀ : State} {s : State} {u : Exec} {r : Nat} {v : W64} (hm : Nat.lor 10485760 μ = μ) (h₀ : s₀.Follows μ s) :
    s₀.Follows μ (State.setS s u r v) := by
  refine State.Follows.lift hm h₀ ?_
  have h := State.Follows.refl 10485760 s
  unfold State.setS
  repeat' first
    | (with_reducible assumption)
    | (exact (rfl : Nat.lor _ _ = _))
    | (with_reducible refine State.updCtx_follows ?_ ?_)

theorem State.setP_follows {μ : Nat} {s₀ : State} {s : State} {u : Exec} {p : Nat} {v : Bool} (hm : Nat.lor 10485760 μ = μ) (h₀ : s₀.Follows μ s) :
    s₀.Follows μ (State.setP s u p v) := by
  refine State.Follows.lift hm h₀ ?_
  have h := State.Follows.refl 10485760 s
  unfold State.setP
  repeat' first
    | (with_reducible assumption)
    | (exact (rfl : Nat.lor _ _ = _))
    | (with_reducible refine State.updCtx_follows ?_ ?_)
    | (with_reducible apply State.Follows.ite)

theorem State.setPc_follows {μ : Nat} {s₀ : State} {s : State} {u : Exec} {pc : Nat} (hm : Nat.lor 10485760 μ = μ) (h₀ : s₀.Follows μ s) :
    s₀.Follows μ (State.setPc s u pc) := by
  refine State.Follows.lift hm h₀ ?_
  have h := State.Follows.refl 10485760 s
  unfold State.setPc
  repeat' first
    | (with_reducible assumption)
    | (exact (rfl : Nat.lor _ _ = _))
    | (with_reducible refine State.updCtx_follows ?_ ?_)

theorem State.setOpMem_follows {μ : Nat} {s₀ : State} {s : State} {u : Exec} {m : Memory} (hm : Nat.lor 10485760 μ = μ) (h₀ : s₀.Follows μ s) :
    s₀.Follows μ (State.setOpMem s u m) := by
  refine State.Follows.lift hm h₀ ?_
  have h := State.Follows.refl 10485760 s
  unfold State.setOpMem
  repeat' first
    | (with_reducible assumption)
    | (exact (rfl : Nat.lor _ _ = _))
    | (with_reducible refine State.updCore_follows ?_ ?_)
    | split
    | ((with_reducible apply State.Follows.keep) <;> first | exact trivial | exact rfl | skip)

theorem State.coreExc_follows {μ : Nat} {s₀ : State} {s : State} {n t code pc : Nat} (hm : Nat.lor 156597941448999704 μ = μ) (h₀ : s₀.Follows μ s) :
    s₀.Follows μ (State.coreExc s n t code pc) := by
  refine State.Follows.lift hm h₀ ?_
  have h := State.Follows.refl 156597941448999704 s
  unfold State.coreExc
  repeat' first
    | (with_reducible assumption)
    | (exact (rfl : Nat.lor _ _ = _))
    | (with_reducible refine State.faultStall_follows ?_ ?_)
    | (with_reducible refine State.logEvent_follows ?_ ?_)
    | (with_reducible refine State.updCtx_follows ?_ ?_)

theorem State.flightFault_follows {μ : Nat} {s₀ : State} {s : State} {n id code : Nat} (hm : Nat.lor 156597941448999704 μ = μ) (h₀ : s₀.Follows μ s) :
    s₀.Follows μ (State.flightFault s n id code) := by
  refine State.Follows.lift hm h₀ ?_
  have h := State.Follows.refl 156597941448999704 s
  unfold State.flightFault
  repeat' first
    | (with_reducible assumption)
    | (exact (rfl : Nat.lor _ _ = _))
    | (with_reducible refine State.coreExc_follows ?_ ?_)
    | (with_reducible refine State.updCore_follows ?_ ?_)
    | split

theorem State.engineExc_follows {μ : Nat} {s₀ : State} {s : State} {p t code : Nat} (hm : Nat.lor 156597941448999704 μ = μ) (h₀ : s₀.Follows μ s) :
    s₀.Follows μ (State.engineExc s p t code) := by
  refine State.Follows.lift hm h₀ ?_
  have h := State.Follows.refl 156597941448999704 s
  unfold State.engineExc
  repeat' first
    | (with_reducible assumption)
    | (exact (rfl : Nat.lor _ _ = _))
    | (with_reducible refine State.faultStall_follows ?_ ?_)
    | (with_reducible refine State.flightFault_follows ?_ ?_)
    | (with_reducible refine State.logEvent_follows ?_ ?_)
    | dsimp only
    | ((with_reducible apply State.Follows.keep) <;> first | exact trivial | exact rfl | skip)

theorem State.raiseExc_follows {μ : Nat} {s₀ : State} {s : State} {u : Exec} {code : Nat} (hm : Nat.lor 156597941448999704 μ = μ) (h₀ : s₀.Follows μ s) :
    s₀.Follows μ (State.raiseExc s u code) := by
  refine State.Follows.lift hm h₀ ?_
  have h := State.Follows.refl 156597941448999704 s
  unfold State.raiseExc
  repeat' first
    | (with_reducible assumption)
    | (exact (rfl : Nat.lor _ _ = _))
    | (with_reducible refine State.coreExc_follows ?_ ?_)
    | (with_reducible refine State.engineExc_follows ?_ ?_)
    | split

theorem State.retire_follows {μ : Nat} {s₀ : State} {s : State} {n id : Nat} (hm : Nat.lor 2097152 μ = μ) (h₀ : s₀.Follows μ s) :
    s₀.Follows μ (State.retire s n id) := by
  refine State.Follows.lift hm h₀ ?_
  have h := State.Follows.refl 2097152 s
  unfold State.retire
  repeat' first
    | (with_reducible assumption)
    | (exact (rfl : Nat.lor _ _ = _))
    | (with_reducible refine State.updCore_follows ?_ ?_)
    | split

theorem State.block_follows {μ : Nat} {s₀ : State} {s : State} {u : Exec} {range unit_ : Bool} (hm : Nat.lor 10485776 μ = μ) (h₀ : s₀.Follows μ s) :
    s₀.Follows μ (State.block s u range unit_) := by
  refine State.Follows.lift hm h₀ ?_
  have h := State.Follows.refl 10485776 s
  unfold State.block
  repeat' first
    | (with_reducible assumption)
    | (exact (rfl : Nat.lor _ _ = _))
    | (with_reducible refine State.coreCount_follows ?_ ?_)
    | (with_reducible refine State.updCtx_follows ?_ ?_)
    | (with_reducible apply State.Follows.ite)
    | split

theorem State.updAdvice_follows {μ : Nat} {s₀ : State} {s : State} {n : Nat} {f : Advice → Advice} (hm : Nat.lor 590295810358705651712 μ = μ) (h₀ : s₀.Follows μ s) :
    s₀.Follows μ (State.updAdvice s n f) := by
  refine State.Follows.lift hm h₀ ?_
  have h := State.Follows.refl 590295810358705651712 s
  unfold State.updAdvice
  repeat' first
    | (with_reducible assumption)
    | ((with_reducible apply State.Follows.keep) <;> first | exact trivial | exact rfl | skip)

theorem State.advise_follows {μ : Nat} {s₀ : State} {s : State} {n trigger : Nat} (hm : Nat.lor 590448932746036249368 μ = μ) (h₀ : s₀.Follows μ s) :
    s₀.Follows μ (State.advise s n trigger) := by
  refine State.Follows.lift hm h₀ ?_
  have h := State.Follows.refl 590448932746036249368 s
  unfold State.advise
  repeat' first
    | (with_reducible assumption)
    | (exact (rfl : Nat.lor _ _ = _))
    | (with_reducible refine State.logEvent_follows ?_ ?_)
    | (with_reducible refine State.updAdvice_follows ?_ ?_)
    | (with_reducible apply State.Follows.ite)

theorem State.parityLogged_follows {μ : Nat} {s₀ : State} {s : State} {n path k : Nat} (hm : Nat.lor 590448932746036249368 μ = μ) (h₀ : s₀.Follows μ s) :
    s₀.Follows μ (State.parityLogged s n path k) := by
  refine State.Follows.lift hm h₀ ?_
  have h := State.Follows.refl 590448932746036249368 s
  unfold State.parityLogged
  repeat' first
    | (with_reducible assumption)
    | (exact (rfl : Nat.lor _ _ = _))
    | (with_reducible refine State.advise_follows ?_ ?_)
    | (with_reducible refine State.logLimitedFor_follows ?_ ?_)
    | (with_reducible refine State.updAdvice_follows ?_ ?_)
    | (with_reducible apply State.Follows.ite)

theorem State.take_follows {μ : Nat} {s₀ : State} {s : State} {u : Exec} (hm : Nat.lor 590448932746046735128 μ = μ) (h₀ : s₀.Follows μ s) :
    s₀.Follows μ (State.take s u) := by
  refine State.Follows.lift hm h₀ ?_
  have h := State.Follows.refl 590448932746046735128 s
  unfold State.take
  repeat' first
    | (with_reducible assumption)
    | (exact (rfl : Nat.lor _ _ = _))
    | (with_reducible refine State.coreCount_follows ?_ ?_)
    | (with_reducible refine State.parityLogged_follows ?_ ?_)
    | (with_reducible refine State.updCore_follows ?_ ?_)
    | (with_reducible refine State.updCtx_follows ?_ ?_)
    | split

theorem issue_follows {μ : Nat} {s₀ : State} {s : State} {u : Exec} {w : Nat} {r : IssueReq} {eff : State → State} (hm : Nat.lor 590452408300154651416 μ = μ) (h₀ : s₀.Follows μ s) (heff : ∀ t, s₀.Follows μ t → s₀.Follows μ (eff t)) :
    s₀.Follows μ (issue s u w r eff) := by
  unfold issue
  repeat' first
    | (with_reducible assumption)
    | (apply heff)
    | (exact lor_mid rfl hm)
    | (with_reducible refine State.block_follows ?_ ?_)
    | (with_reducible refine State.raiseExc_follows ?_ ?_)
    | (with_reducible refine State.take_follows ?_ ?_)
    | (with_reducible apply State.Follows.ite)
    | split

theorem State.enter_follows {μ : Nat} {s₀ : State} {s : State} {n t : Nat} {kind : FlightKind} {reads writes : List Range} {evc : Option Nat} (hm : Nat.lor 2097152 μ = μ) (h₀ : s₀.Follows μ s) :
    s₀.Follows μ (State.enter s n t kind reads writes evc) := by
  refine State.Follows.lift hm h₀ ?_
  have h := State.Follows.refl 2097152 s
  unfold State.enter
  repeat' first
    | (with_reducible assumption)
    | (exact (rfl : Nat.lor _ _ = _))
    | (with_reducible refine State.updCore_follows ?_ ?_)

theorem State.wake_follows {μ : Nat} {s₀ : State} {s : State} {n : Nat} (hm : Nat.lor 10485760 μ = μ) (h₀ : s₀.Follows μ s) :
    s₀.Follows μ (State.wake s n) := by
  refine State.Follows.lift hm h₀ ?_
  have h := State.Follows.refl 10485760 s
  unfold State.wake
  repeat' first
    | (with_reducible assumption)
    | (exact (rfl : Nat.lor _ _ = _))
    | (with_reducible refine State.setP_follows ?_ ?_)
    | (with_reducible refine State.updCtx_follows ?_ ?_)
    | (with_reducible apply State.Follows.ite)
    | (with_reducible refine State.Follows.foldl _ ?_ ?_)
    | (intro _ _ _)

theorem State.addEvc_follows {μ : Nat} {s₀ : State} {s : State} {n e k : Nat} (hm : Nat.lor 10485760 μ = μ) (h₀ : s₀.Follows μ s) :
    s₀.Follows μ (State.addEvc s n e k) := by
  refine State.Follows.lift hm h₀ ?_
  have h := State.Follows.refl 10485760 s
  unfold State.addEvc
  repeat' first
    | (with_reducible assumption)
    | (exact (rfl : Nat.lor _ _ = _))
    | (with_reducible refine State.updCore_follows ?_ ?_)
    | (with_reducible refine State.wake_follows ?_ ?_)

theorem State.retireWake_follows {μ : Nat} {s₀ : State} {s : State} {n id : Nat} (hm : Nat.lor 590448932746046735128 μ = μ) (h₀ : s₀.Follows μ s) :
    s₀.Follows μ (State.retireWake s n id) := by
  refine State.Follows.lift hm h₀ ?_
  have h := State.Follows.refl 590448932746046735128 s
  unfold State.retireWake
  repeat' first
    | (with_reducible assumption)
    | (exact (rfl : Nat.lor _ _ = _))
    | (with_reducible refine State.parityLogged_follows ?_ ?_)
    | (with_reducible refine State.retire_follows ?_ ?_)
    | (with_reducible refine State.updCore_follows ?_ ?_)
    | (with_reducible refine State.wake_follows ?_ ?_)
    | split

theorem State.fmtClamps_follows {μ : Nat} {s₀ : State} {s : State} {n off k : Nat} {vector : Bool} (hm : Nat.lor 153122387330597656 μ = μ) (h₀ : s₀.Follows μ s) :
    s₀.Follows μ (State.fmtClamps s n off k vector) := by
  refine State.Follows.lift hm h₀ ?_
  have h := State.Follows.refl 153122387330597656 s
  unfold State.fmtClamps
  repeat' first
    | (with_reducible assumption)
    | (exact (rfl : Nat.lor _ _ = _))
    | (with_reducible refine State.countBy_follows ?_ ?_)
    | (with_reducible refine State.logLimitedFor_follows ?_ ?_)
    | (with_reducible apply State.Follows.ite)

theorem State.fmtNans_follows {μ : Nat} {s₀ : State} {s : State} {n k : Nat} {vector : Bool} (hm : Nat.lor 153122387330597656 μ = μ) (h₀ : s₀.Follows μ s) :
    s₀.Follows μ (State.fmtNans s n k vector) := by
  refine State.Follows.lift hm h₀ ?_
  have h := State.Follows.refl 153122387330597656 s
  unfold State.fmtNans
  repeat' first
    | (with_reducible assumption)
    | (exact (rfl : Nat.lor _ _ = _))
    | (with_reducible refine State.countBy_follows ?_ ?_)
    | (with_reducible refine State.logLimitedFor_follows ?_ ?_)
    | (with_reducible apply State.Follows.ite)

end Sys2Proof.Machine
end

