-- ==== Sys2Proof/Laws/FollowsKv.lean ====
section
/-!
SUPPORT. The operations of Machine/Kv.lean keep the relation `State.Follows`. The number in a lemma is the mask of the
components that its operation may change.
-/
namespace Sys2Proof.Machine
open Sys2Proof

theorem State.writeSub_follows {μ : Nat} {s₀ : State} {s : State} {i j : Nat} {pfx : Bool} {f : Nat} {k v : List Nat} (hm : Nat.lor 2147483664 μ = μ) (h₀ : s₀.Follows μ s) :
    s₀.Follows μ (State.writeSub s i j pfx f k v) := by
  refine State.Follows.lift hm h₀ ?_
  have h := State.Follows.refl 2147483664 s
  unfold State.writeSub
  repeat' first
    | (with_reducible assumption)
    | (exact (rfl : Nat.lor _ _ = _))
    | (with_reducible refine State.pedCount_follows ?_ ?_)
    | (with_reducible refine State.updPed_follows ?_ ?_)
    | (with_reducible apply State.Follows.ite)

theorem State.flushInto_follows {μ : Nat} {s₀ : State} {s : State} {i q j f : Nat} (hm : Nat.lor 10737418256 μ = μ) (h₀ : s₀.Follows μ s) :
    s₀.Follows μ (State.flushInto s i q j f) := by
  refine State.Follows.lift hm h₀ ?_
  have h := State.Follows.refl 10737418256 s
  unfold State.flushInto
  repeat' first
    | (with_reducible assumption)
    | (exact (rfl : Nat.lor _ _ = _))
    | (with_reducible refine State.pedCount_follows ?_ ?_)
    | (with_reducible refine State.writeSub_follows ?_ ?_)
    | dsimp only
    | ((with_reducible apply State.Follows.keep) <;> first | exact trivial | exact rfl | skip)

theorem State.flushNoFrame_follows {μ : Nat} {s₀ : State} {s : State} {i q j : Nat} (hm : Nat.lor 153122937086411544 μ = μ) (h₀ : s₀.Follows μ s) :
    s₀.Follows μ (State.flushNoFrame s i q j) := by
  refine State.Follows.lift hm h₀ ?_
  have h := State.Follows.refl 153122937086411544 s
  unfold State.flushNoFrame
  repeat' first
    | (with_reducible assumption)
    | (exact (rfl : Nat.lor _ _ = _))
    | (with_reducible refine State.count_follows ?_ ?_)
    | (with_reducible refine State.logEvent_follows ?_ ?_)
    | split
    | dsimp only
    | ((with_reducible apply State.Follows.keep) <;> first | exact trivial | exact rfl | skip)

theorem State.kvRefuse_follows {μ : Nat} {s₀ : State} {s : State} {st pa node cause : Nat} (hm : Nat.lor 153122387330597656 μ = μ) (h₀ : s₀.Follows μ s) :
    s₀.Follows μ (State.kvRefuse s st pa node cause).1 := by
  refine State.Follows.lift hm h₀ ?_
  have h := State.Follows.refl 153122387330597656 s
  unfold State.kvRefuse
  repeat' first
    | (with_reducible assumption)
    | (exact (rfl : Nat.lor _ _ = _))
    | (with_reducible refine State.logEvent_follows ?_ ?_)
    | (with_reducible refine State.pedCount_follows ?_ ?_)

theorem State.stageWrite_follows {μ : Nat} {s₀ : State} {s : State} {st i pa : Nat} {bs : List Byte} {node : Nat} (hm : Nat.lor 153122947823829784 μ = μ) (h₀ : s₀.Follows μ s) :
    s₀.Follows μ (State.stageWrite s st i pa bs node).1 := by
  refine State.Follows.lift hm h₀ ?_
  have h := State.Follows.refl 153122947823829784 s
  unfold State.stageWrite
  repeat' first
    | (with_reducible assumption)
    | (exact (rfl : Nat.lor _ _ = _))
    | (with_reducible refine State.flushNoFrame_follows ?_ ?_)
    | (with_reducible refine State.kvRefuse_follows ?_ ?_)
    | (with_reducible refine State.updPed_follows ?_ ?_)
    | (with_reducible apply State.Follows.ite_fst)
    | split
    | dsimp only
    | ((with_reducible apply State.Follows.keep) <;> first | exact trivial | exact rfl | skip)

theorem State.stackWrite_follows {μ : Nat} {s₀ : State} {s : State} {st i pa : Nat} {bs : List Byte} {node : Nat} (hm : Nat.lor 153122947823829784 μ = μ) (h₀ : s₀.Follows μ s) :
    s₀.Follows μ (State.stackWrite s st i pa bs node).1 := by
  refine State.Follows.lift hm h₀ ?_
  have h := State.Follows.refl 153122947823829784 s
  unfold State.stackWrite
  repeat' first
    | (with_reducible assumption)
    | (exact (rfl : Nat.lor _ _ = _))
    | (with_reducible refine State.kvRefuse_follows ?_ ?_)
    | (with_reducible refine State.logEvent_follows ?_ ?_)
    | (with_reducible refine State.stageWrite_follows ?_ ?_)
    | (with_reducible apply State.Follows.ite_fst)

theorem State.flushDone_follows {μ : Nat} {s₀ : State} {s : State} {i q j : Nat} (hm : Nat.lor 285648879640 μ = μ) (h₀ : s₀.Follows μ s) :
    s₀.Follows μ (State.flushDone s i q j) := by
  refine State.Follows.lift hm h₀ ?_
  have h := State.Follows.refl 285648879640 s
  unfold State.flushDone
  repeat' first
    | (with_reducible assumption)
    | (exact (rfl : Nat.lor _ _ = _))
    | (with_reducible refine State.emit_follows ?_ ?_)
    | (with_reducible refine State.flushInto_follows ?_ ?_)
    | split
    | dsimp only
    | ((with_reducible apply State.Follows.keep) <;> first | exact trivial | exact rfl | skip)

theorem execKvFlushComplete_follows {μ : Nat} {s₀ : State} {inst slot sub : Nat} {s : State} (hm : Nat.lor 285648879640 μ = μ) (h₀ : s₀.Follows μ s) :
    s₀.Ends μ (execKvFlushComplete inst slot sub s) := by
  refine State.Ends.lift hm h₀ ?_
  have h := State.Follows.refl 285648879640 s
  unfold execKvFlushComplete
  repeat' first
    | (with_reducible assumption)
    | (exact (rfl : Nat.lor _ _ = _))
    | (with_reducible refine State.flushDone_follows ?_ ?_)
    | (with_reducible apply State.Ends.next)

theorem State.walk_follows {μ : Nat} {s₀ : State} {s : State} {st i q pg v : Nat} (hm : Nat.lor 2147483664 μ = μ) (h₀ : s₀.Follows μ s) :
    s₀.Follows μ (State.walk s st i q pg v) := by
  refine State.Follows.lift hm h₀ ?_
  have h := State.Follows.refl 2147483664 s
  unfold State.walk
  repeat' first
    | (with_reducible assumption)
    | (exact (rfl : Nat.lor _ _ = _))
    | (with_reducible refine State.pedCount_follows ?_ ?_)
    | (with_reducible refine State.updPed_follows ?_ ?_)
    | (with_reducible apply State.Follows.ite)

theorem execWalkerLineFetch_follows {μ : Nat} {s₀ : State} {ped : Nat} {s : State} (hm : Nat.lor 2147483648 μ = μ) (h₀ : s₀.Follows μ s) :
    s₀.Ends μ (execWalkerLineFetch ped s) := by
  refine State.Ends.lift hm h₀ ?_
  have h := State.Follows.refl 2147483648 s
  unfold execWalkerLineFetch
  repeat' first
    | (with_reducible assumption)
    | (exact (rfl : Nat.lor _ _ = _))
    | (with_reducible refine State.updPed_follows ?_ ?_)
    | (with_reducible apply State.Ends.next)
    | split

theorem execPageBufferPrefetch_follows {μ : Nat} {s₀ : State} {ped thread : Nat} {value : Bool} {s : State} (hm : Nat.lor 8388608 μ = μ) (h₀ : s₀.Follows μ s) :
    s₀.Ends μ (execPageBufferPrefetch ped thread value s) := by
  refine State.Ends.lift hm h₀ ?_
  have h := State.Follows.refl 8388608 s
  unfold execPageBufferPrefetch
  repeat' first
    | (with_reducible assumption)
    | (with_reducible apply State.Ends.next)
    | split
    | ((with_reducible apply State.Follows.keep) <;> first | exact trivial | exact rfl | skip)

theorem State.pageEffects_follows {μ : Nat} {s₀ : State} {s : State} {st t i q j pg : Nat} {value : Bool} {unwritten nans : Nat} (hm : Nat.lor 153122389486469912 μ = μ) (h₀ : s₀.Follows μ s) :
    s₀.Follows μ (State.pageEffects s st t i q j pg value unwritten nans) := by
  refine State.Follows.lift hm h₀ ?_
  have h := State.Follows.refl 153122389486469912 s
  unfold State.pageEffects
  repeat' first
    | (with_reducible assumption)
    | (exact (rfl : Nat.lor _ _ = _))
    | (with_reducible refine State.logLimited_follows ?_ ?_)
    | (with_reducible refine State.pedCount_follows ?_ ?_)
    | (with_reducible refine State.walk_follows ?_ ?_)
    | (with_reducible apply State.Follows.ite)
    | split
    | dsimp only
    | ((with_reducible apply State.Follows.keep) <;> first | exact trivial | exact rfl | skip)

theorem pgatherOp_follows {μ : Nat} {s₀ : State} {value : Bool} {u : Exec} {w : Nat} {s : State} (hm : Nat.lor 590452408300154651416 μ = μ) (h₀ : s₀.Follows μ s) :
    s₀.Follows μ (pgatherOp value u w s) := by
  refine State.Follows.lift hm h₀ ?_
  have h := State.Follows.refl 590452408300154651416 s
  unfold pgatherOp
  repeat' first
    | (with_reducible assumption)
    | (exact (rfl : Nat.lor _ _ = _))
    | (with_reducible refine issue_follows ?_ ?_ ?_)
    | (with_reducible refine State.pageEffects_follows ?_ ?_)
    | (with_reducible refine State.setOpMem_follows ?_ ?_)
    | (with_reducible refine State.setS_follows ?_ ?_)
    | (with_reducible apply State.Follows.id)
    | split
    | (intro _ _)

theorem execPgatherK_follows {μ : Nat} {s₀ : State} {u : Exec} {w : Nat} {s : State} (hm : Nat.lor 590452408300154651416 μ = μ) (h₀ : s₀.Follows μ s) :
    s₀.Ends μ (execPgatherK u w s) := by
  refine State.Ends.lift hm h₀ ?_
  have h := State.Follows.refl 590452408300154651416 s
  unfold execPgatherK
  repeat' first
    | (with_reducible assumption)
    | (exact (rfl : Nat.lor _ _ = _))
    | (with_reducible refine pgatherOp_follows ?_ ?_)
    | (with_reducible apply State.Ends.next)

theorem execPgatherV_follows {μ : Nat} {s₀ : State} {u : Exec} {w : Nat} {s : State} (hm : Nat.lor 590452408300154651416 μ = μ) (h₀ : s₀.Follows μ s) :
    s₀.Ends μ (execPgatherV u w s) := by
  refine State.Ends.lift hm h₀ ?_
  have h := State.Follows.refl 590452408300154651416 s
  unfold execPgatherV
  repeat' first
    | (with_reducible assumption)
    | (exact (rfl : Nat.lor _ _ = _))
    | (with_reducible refine pgatherOp_follows ?_ ?_)
    | (with_reducible apply State.Ends.next)

end Sys2Proof.Machine
end

