-- ==== Sys2Proof/Laws/FollowsSets.lean ====
section
/-!
SUPPORT. The operations of Machine/Sets.lean keep the relation `State.Follows`. The number in a lemma is the mask of the
components that its operation may change.
-/
namespace Sys2Proof.Machine
open Sys2Proof

theorem State.updWSlot_follows {μ : Nat} {s₀ : State} {s : State} {k : Nat} {f : WSlot → WSlot} (hm : Nat.lor 1099511627776 μ = μ) (h₀ : s₀.Follows μ s) :
    s₀.Follows μ (State.updWSlot s k f) := by
  refine State.Follows.lift hm h₀ ?_
  have h := State.Follows.refl 1099511627776 s
  unfold State.updWSlot
  repeat' first
    | (with_reducible assumption)
    | ((with_reducible apply State.Follows.keep) <;> first | exact trivial | exact rfl | skip)

theorem State.updWInst_follows {μ : Nat} {s₀ : State} {s : State} {i : Nat} {f : WInst → WInst} (hm : Nat.lor 2199023255552 μ = μ) (h₀ : s₀.Follows μ s) :
    s₀.Follows μ (State.updWInst s i f) := by
  refine State.Follows.lift hm h₀ ?_
  have h := State.Follows.refl 2199023255552 s
  unfold State.updWInst
  repeat' first
    | (with_reducible assumption)
    | ((with_reducible apply State.Follows.keep) <;> first | exact trivial | exact rfl | skip)

theorem State.queueReload_follows {μ : Nat} {s₀ : State} {s : State} {i k : Nat} (hm : Nat.lor 4398046511104 μ = μ) (h₀ : s₀.Follows μ s) :
    s₀.Follows μ (State.queueReload s i k) := by
  refine State.Follows.lift hm h₀ ?_
  have h := State.Follows.refl 4398046511104 s
  unfold State.queueReload
  repeat' first
    | (with_reducible assumption)
    | (with_reducible apply State.Follows.ite)
    | split
    | dsimp only
    | ((with_reducible apply State.Follows.keep) <;> first | exact trivial | exact rfl | skip)

theorem State.weightReadFailed_follows {μ : Nat} {s₀ : State} {s : State} {i k core port cause : Nat} (hm : Nat.lor 153128984400364312 μ = μ) (h₀ : s₀.Follows μ s) :
    s₀.Follows μ (State.weightReadFailed s i k core port cause) := by
  refine State.Follows.lift hm h₀ ?_
  have h := State.Follows.refl 153128984400364312 s
  unfold State.weightReadFailed
  repeat' first
    | (with_reducible assumption)
    | (exact (rfl : Nat.lor _ _ = _))
    | (with_reducible refine State.logEvent_follows ?_ ?_)
    | (with_reducible refine State.queueReload_follows ?_ ?_)
    | (with_reducible refine State.updWInst_follows ?_ ?_)

theorem State.tapStack_follows {μ : Nat} {s₀ : State} {s : State} {i stk pa : Nat} {bs : List Byte} (hm : Nat.lor 2199023255552 μ = μ) (h₀ : s₀.Follows μ s) :
    s₀.Follows μ (State.tapStack s i stk pa bs) := by
  refine State.Follows.lift hm h₀ ?_
  have h := State.Follows.refl 2199023255552 s
  unfold State.tapStack
  repeat' first
    | (with_reducible assumption)
    | (exact (rfl : Nat.lor _ _ = _))
    | (with_reducible refine State.updWInst_follows ?_ ?_)
    | split

theorem State.farWeights_follows {μ : Nat} {s₀ : State} {s : State} {i off : Nat} {bs : List Byte} (hm : Nat.lor 2199023255568 μ = μ) (h₀ : s₀.Follows μ s) :
    s₀.Follows μ (State.farWeights s i off bs).1 := by
  refine State.Follows.lift hm h₀ ?_
  have h := State.Follows.refl 2199023255568 s
  unfold State.farWeights
  repeat' first
    | (with_reducible assumption)
    | (exact (rfl : Nat.lor _ _ = _))
    | (with_reducible refine State.count64By_follows ?_ ?_)
    | (with_reducible refine State.updWInst_follows ?_ ?_)
    | (with_reducible apply State.Follows.ite_fst)
    | split

end Sys2Proof.Machine
end

