-- ==== Sys2Proof/Laws/FollowsTransfers.lean ====
section
/-!
SUPPORT. The operations of Machine/Transfers.lean keep the relation `State.Follows`. The number in a lemma is the mask of the
components that its operation may change.
-/
namespace Sys2Proof.Machine
open Sys2Proof

theorem State.updCluster_follows {μ : Nat} {s₀ : State} {s : State} {c : Nat} {f : Cluster → Cluster} (hm : Nat.lor 4194304 μ = μ) (h₀ : s₀.Follows μ s) :
    s₀.Follows μ (State.updCluster s c f) := by
  refine State.Follows.lift hm h₀ ?_
  have h := State.Follows.refl 4194304 s
  unfold State.updCluster
  repeat' first
    | (with_reducible assumption)
    | ((with_reducible apply State.Follows.keep) <;> first | exact trivial | exact rfl | skip)

theorem State.updFlight_follows {μ : Nat} {s₀ : State} {s : State} {n id : Nat} {f : Flight → Flight} (hm : Nat.lor 2097152 μ = μ) (h₀ : s₀.Follows μ s) :
    s₀.Follows μ (State.updFlight s n id f) := by
  refine State.Follows.lift hm h₀ ?_
  have h := State.Follows.refl 2097152 s
  unfold State.updFlight
  repeat' first
    | (with_reducible assumption)
    | (exact (rfl : Nat.lor _ _ = _))
    | (with_reducible refine State.updCore_follows ?_ ?_)

theorem State.askBlocks_follows {μ : Nat} {s₀ : State} {s : State} {n id len : Nat} (hm : Nat.lor 6291456 μ = μ) (h₀ : s₀.Follows μ s) :
    s₀.Follows μ (State.askBlocks s n id len) := by
  refine State.Follows.lift hm h₀ ?_
  have h := State.Follows.refl 6291456 s
  unfold State.askBlocks
  repeat' first
    | (with_reducible assumption)
    | (exact (rfl : Nat.lor _ _ = _))
    | (with_reducible refine State.updCluster_follows ?_ ?_)
    | (with_reducible refine State.updFlight_follows ?_ ?_)

theorem State.freeBlocks_follows {μ : Nat} {s₀ : State} {s : State} {n : Nat} {f : Flight} (hm : Nat.lor 4194304 μ = μ) (h₀ : s₀.Follows μ s) :
    s₀.Follows μ (State.freeBlocks s n f) := by
  refine State.Follows.lift hm h₀ ?_
  have h := State.Follows.refl 4194304 s
  unfold State.freeBlocks
  repeat' first
    | (with_reducible assumption)
    | (exact (rfl : Nat.lor _ _ = _))
    | (with_reducible refine State.updCluster_follows ?_ ?_)

theorem State.grantBlock_follows {μ : Nat} {s₀ : State} {s : State} {c : Nat} (hm : Nat.lor 6291456 μ = μ) (h₀ : s₀.Follows μ s) :
    s₀.Follows μ (State.grantBlock s c) := by
  refine State.Follows.lift hm h₀ ?_
  have h := State.Follows.refl 6291456 s
  unfold State.grantBlock
  repeat' first
    | (with_reducible assumption)
    | (exact (rfl : Nat.lor _ _ = _))
    | (with_reducible refine State.updCluster_follows ?_ ?_)
    | (with_reducible refine State.updCore_follows ?_ ?_)
    | (with_reducible apply State.Follows.ite)
    | split
    | dsimp only

theorem execTransitBlockGrant_follows {μ : Nat} {s₀ : State} {cluster : Nat} {s : State} (hm : Nat.lor 6291456 μ = μ) (h₀ : s₀.Follows μ s) :
    s₀.Ends μ (execTransitBlockGrant cluster s) := by
  refine State.Ends.lift hm h₀ ?_
  have h := State.Follows.refl 6291456 s
  unfold execTransitBlockGrant
  repeat' first
    | (with_reducible assumption)
    | (exact (rfl : Nat.lor _ _ = _))
    | (with_reducible refine State.grantBlock_follows ?_ ?_)
    | (with_reducible apply State.Ends.next)

theorem State.pedFail_follows {μ : Nat} {s₀ : State} {s : State} {st d1 d2 : Nat} (hm : Nat.lor 156597941438513944 μ = μ) (h₀ : s₀.Follows μ s) :
    s₀.Follows μ (State.pedFail s st d1 d2) := by
  refine State.Follows.lift hm h₀ ?_
  have h := State.Follows.refl 156597941438513944 s
  unfold State.pedFail
  repeat' first
    | (with_reducible assumption)
    | (exact (rfl : Nat.lor _ _ = _))
    | (with_reducible refine State.logEvent_follows ?_ ?_)
    | (with_reducible refine State.stallIf_follows ?_ ?_)
    | (with_reducible refine State.updPed_follows ?_ ?_)
    | (with_reducible apply State.Follows.ite)
    | (with_reducible refine State.Follows.foldl _ ?_ ?_)
    | (intro _ _ _)

theorem State.stackFault_follows {μ : Nat} {s₀ : State} {s : State} {st : Nat} (hm : Nat.lor 156597941438513944 μ = μ) (h₀ : s₀.Follows μ s) :
    s₀.Follows μ (State.stackFault s st) := by
  refine State.Follows.lift hm h₀ ?_
  have h := State.Follows.refl 156597941438513944 s
  unfold State.stackFault
  repeat' first
    | (with_reducible assumption)
    | (exact (rfl : Nat.lor _ _ = _))
    | (with_reducible refine State.pedFail_follows ?_ ?_)
    | (with_reducible refine State.updPed_follows ?_ ?_)
    | (with_reducible apply State.Follows.ite)

theorem State.remoteFault_follows {μ : Nat} {s₀ : State} {s : State} {n id : Nat} (hm : Nat.lor 156597941453194008 μ = μ) (h₀ : s₀.Follows μ s) :
    s₀.Follows μ (State.remoteFault s n id) := by
  refine State.Follows.lift hm h₀ ?_
  have h := State.Follows.refl 156597941453194008 s
  unfold State.remoteFault
  repeat' first
    | (with_reducible assumption)
    | (exact (rfl : Nat.lor _ _ = _))
    | (with_reducible refine State.flightFault_follows ?_ ?_)
    | (with_reducible refine State.freeBlocks_follows ?_ ?_)
    | (with_reducible refine State.stackFault_follows ?_ ?_)
    | split

theorem State.writeSpm_follows {μ : Nat} {s₀ : State} {s : State} {n mem off : Nat} {bs : List Byte} (hm : Nat.lor 2097152 μ = μ) (h₀ : s₀.Follows μ s) :
    s₀.Follows μ (State.writeSpm s n mem off bs) := by
  refine State.Follows.lift hm h₀ ?_
  have h := State.Follows.refl 2097152 s
  unfold State.writeSpm
  repeat' first
    | (with_reducible assumption)
    | (exact (rfl : Nat.lor _ _ = _))
    | (with_reducible refine State.updCore_follows ?_ ?_)

theorem State.writeCluster_follows {μ : Nat} {s₀ : State} {s : State} {c off : Nat} {bs : List Byte} (hm : Nat.lor 4194304 μ = μ) (h₀ : s₀.Follows μ s) :
    s₀.Follows μ (State.writeCluster s c off bs) := by
  refine State.Follows.lift hm h₀ ?_
  have h := State.Follows.refl 4194304 s
  unfold State.writeCluster
  repeat' first
    | (with_reducible assumption)
    | (exact (rfl : Nat.lor _ _ = _))
    | (with_reducible refine State.updCluster_follows ?_ ?_)

theorem State.deliverWrite_follows {μ : Nat} {s₀ : State} {s : State} {m : FabMsg} {n : Nat} {f : Flight} {l : Opnd} {a : Nat} (hm : Nat.lor 1306044727348429592 μ = μ) (h₀ : s₀.Follows μ s) :
    s₀.Follows μ (State.deliverWrite s m n f l a) := by
  refine State.Follows.lift hm h₀ ?_
  have h := State.Follows.refl 1306044727348429592 s
  unfold State.deliverWrite
  repeat' first
    | (with_reducible assumption)
    | (exact (rfl : Nat.lor _ _ = _))
    | (with_reducible refine State.count64By_follows ?_ ?_)
    | (with_reducible refine State.emit_follows ?_ ?_)
    | (with_reducible refine State.icpWrite_follows ?_ ?_)
    | (with_reducible refine State.pedCount_follows ?_ ?_)
    | (with_reducible refine State.respond_follows ?_ ?_)
    | (with_reducible refine State.stackWrite_follows ?_ ?_)
    | (with_reducible refine State.writeCluster_follows ?_ ?_)
    | (with_reducible refine State.writeSpm_follows ?_ ?_)
    | (with_reducible apply State.Follows.ite)
    | split
    | dsimp only
    | ((with_reducible apply State.Follows.keep) <;> first | exact trivial | exact rfl | skip)

theorem State.deliverRead_follows {μ : Nat} {s₀ : State} {s : State} {m : FabMsg} {n : Nat} {f : Flight} {l : Opnd} {a : Nat} {far : List Byte} (hm : Nat.lor 1882511241348383512 μ = μ) (h₀ : s₀.Follows μ s) :
    s₀.Follows μ (State.deliverRead s m n f l a far) := by
  refine State.Follows.lift hm h₀ ?_
  have h := State.Follows.refl 1882511241348383512 s
  unfold State.deliverRead
  repeat' first
    | (with_reducible assumption)
    | (exact (rfl : Nat.lor _ _ = _))
    | (with_reducible refine State.count_follows ?_ ?_)
    | (with_reducible refine State.count64By_follows ?_ ?_)
    | (with_reducible refine State.farWeights_follows ?_ ?_)
    | (with_reducible refine State.icpRead_follows ?_ ?_)
    | (with_reducible refine State.logEvent_follows ?_ ?_)
    | (with_reducible refine State.pedCount_follows ?_ ?_)
    | (with_reducible refine State.respond_follows ?_ ?_)
    | (with_reducible refine State.tapStack_follows ?_ ?_)
    | (with_reducible refine State.updCluster_follows ?_ ?_)
    | (with_reducible refine State.weightReadFailed_follows ?_ ?_)
    | (with_reducible apply State.Follows.ite)
    | (with_reducible refine State.Follows.of_fst (by assumption) ?_)
    | split
    | dsimp only

theorem execWrite_follows {μ : Nat} {s₀ : State} {msg : Nat} {s : State} (hm : Nat.lor 1306044727348429592 μ = μ) (h₀ : s₀.Follows μ s) :
    s₀.Ends μ (execWrite msg s) := by
  refine State.Ends.lift hm h₀ ?_
  have h := State.Follows.refl 1306044727348429592 s
  unfold execWrite
  repeat' first
    | (with_reducible assumption)
    | (exact (rfl : Nat.lor _ _ = _))
    | (with_reducible refine State.deliverWrite_follows ?_ ?_)
    | (with_reducible refine State.dropMsg_follows ?_ ?_)
    | (with_reducible refine State.duplicate_follows ?_ ?_)
    | (with_reducible apply State.Ends.next)
    | split

theorem execRead_follows {μ : Nat} {s₀ : State} {msg : Nat} {far : List Byte} {s : State} (hm : Nat.lor 1882511241348383512 μ = μ) (h₀ : s₀.Follows μ s) :
    s₀.Ends μ (execRead msg far s) := by
  refine State.Ends.lift hm h₀ ?_
  have h := State.Follows.refl 1882511241348383512 s
  unfold execRead
  repeat' first
    | (with_reducible assumption)
    | (exact (rfl : Nat.lor _ _ = _))
    | (with_reducible refine State.deliverRead_follows ?_ ?_)
    | (with_reducible refine State.dropMsg_follows ?_ ?_)
    | (with_reducible refine State.duplicate_follows ?_ ?_)
    | (with_reducible apply State.Ends.next)
    | split

theorem State.outerEvc_follows {μ : Nat} {s₀ : State} {s : State} {n e k : Nat} (hm : Nat.lor 10485760 μ = μ) (h₀ : s₀.Follows μ s) :
    s₀.Follows μ (State.outerEvc s n e k) := by
  refine State.Follows.lift hm h₀ ?_
  have h := State.Follows.refl 10485760 s
  unfold State.outerEvc
  repeat' first
    | (with_reducible assumption)
    | (exact (rfl : Nat.lor _ _ = _))
    | (with_reducible refine State.addEvc_follows ?_ ?_)
    | (with_reducible refine State.updCore_follows ?_ ?_)

theorem execFabricSignal_follows {μ : Nat} {s₀ : State} {msg : Nat} {s : State} (hm : Nat.lor 44040216 μ = μ) (h₀ : s₀.Follows μ s) :
    s₀.Ends μ (execFabricSignal msg s) := by
  refine State.Ends.lift hm h₀ ?_
  have h := State.Follows.refl 44040216 s
  unfold execFabricSignal
  repeat' first
    | (with_reducible assumption)
    | (exact (rfl : Nat.lor _ _ = _))
    | (with_reducible refine State.duplicate_follows ?_ ?_)
    | (with_reducible refine State.outerEvc_follows ?_ ?_)
    | (with_reducible refine State.respond_follows ?_ ?_)
    | (with_reducible apply State.Ends.next)
    | (with_reducible apply State.Follows.ite)
    | split

theorem execDispatch_follows {μ : Nat} {s₀ : State} {msg : Nat} {s : State} (hm : Nat.lor 2197815320 μ = μ) (h₀ : s₀.Follows μ s) :
    s₀.Ends μ (execDispatch msg s) := by
  refine State.Ends.lift hm h₀ ?_
  have h := State.Follows.refl 2197815320 s
  unfold execDispatch
  repeat' first
    | (with_reducible assumption)
    | (exact (rfl : Nat.lor _ _ = _))
    | (with_reducible refine State.dropMsg_follows ?_ ?_)
    | (with_reducible refine State.duplicate_follows ?_ ?_)
    | (with_reducible refine State.respond_follows ?_ ?_)
    | (with_reducible refine State.updPed_follows ?_ ?_)
    | (with_reducible apply State.Ends.next)
    | split
    | ((with_reducible apply State.Follows.keep) <;> first | exact trivial | exact rfl | skip)

theorem execData_follows {μ : Nat} {s₀ : State} {msg : Nat} {s : State} (hm : Nat.lor 39845888 μ = μ) (h₀ : s₀.Follows μ s) :
    s₀.Ends μ (execData msg s) := by
  refine State.Ends.lift hm h₀ ?_
  have h := State.Follows.refl 39845888 s
  unfold execData
  repeat' first
    | (with_reducible assumption)
    | (exact (rfl : Nat.lor _ _ = _))
    | (with_reducible refine State.dropMsg_follows ?_ ?_)
    | (with_reducible refine State.freeBlocks_follows ?_ ?_)
    | (with_reducible refine State.updCore_follows ?_ ?_)
    | (with_reducible refine State.updFlight_follows ?_ ?_)
    | (with_reducible apply State.Ends.next)
    | split
    | dsimp only

theorem execAck_follows {μ : Nat} {s₀ : State} {msg : Nat} {s : State} (hm : Nat.lor 39845888 μ = μ) (h₀ : s₀.Follows μ s) :
    s₀.Ends μ (execAck msg s) := by
  refine State.Ends.lift hm h₀ ?_
  have h := State.Follows.refl 39845888 s
  unfold execAck
  repeat' first
    | (with_reducible assumption)
    | (exact (rfl : Nat.lor _ _ = _))
    | (with_reducible refine State.dropMsg_follows ?_ ?_)
    | (with_reducible refine State.freeBlocks_follows ?_ ?_)
    | (with_reducible refine State.updFlight_follows ?_ ?_)
    | (with_reducible apply State.Ends.next)
    | split
    | dsimp only

theorem execNack_follows {μ : Nat} {s₀ : State} {msg : Nat} {s : State} (hm : Nat.lor 156597941486748440 μ = μ) (h₀ : s₀.Follows μ s) :
    s₀.Ends μ (execNack msg s) := by
  refine State.Ends.lift hm h₀ ?_
  have h := State.Follows.refl 156597941486748440 s
  unfold execNack
  repeat' first
    | (with_reducible assumption)
    | (exact (rfl : Nat.lor _ _ = _))
    | (with_reducible refine State.dropMsg_follows ?_ ?_)
    | (with_reducible refine State.remoteFault_follows ?_ ?_)
    | (with_reducible refine State.updMsg_follows ?_ ?_)
    | (with_reducible apply State.Ends.next)
    | split

theorem execRequestTimeout_follows {μ : Nat} {s₀ : State} {msg : Nat} {s : State} (hm : Nat.lor 156597941486748440 μ = μ) (h₀ : s₀.Follows μ s) :
    s₀.Ends μ (execRequestTimeout msg s) := by
  refine State.Ends.lift hm h₀ ?_
  have h := State.Follows.refl 156597941486748440 s
  unfold execRequestTimeout
  repeat' first
    | (with_reducible assumption)
    | (exact (rfl : Nat.lor _ _ = _))
    | (with_reducible refine State.dropMsg_follows ?_ ?_)
    | (with_reducible refine State.fabCount_follows ?_ ?_)
    | (with_reducible refine State.logEvent_follows ?_ ?_)
    | (with_reducible refine State.remoteFault_follows ?_ ?_)
    | (with_reducible refine State.updMsg_follows ?_ ?_)
    | (with_reducible apply State.Ends.next)
    | (with_reducible apply State.Follows.ite)
    | split

end Sys2Proof.Machine
end

