-- ==== Sys2Proof/Laws/FollowsIsaScalar.lean ====
section
/-!
SUPPORT. The operations of Machine/IsaScalar.lean keep the relation `State.Follows`. The number in a lemma is the mask of the
components that its operation may change.
-/
namespace Sys2Proof.Machine
open Sys2Proof

theorem scalarOp_follows {μ : Nat} {s₀ : State} {u : Exec} {w : Nat} {s : State} {f : W64 → W64 → W64} (hm : Nat.lor 590452408300154651416 μ = μ) (h₀ : s₀.Follows μ s) :
    s₀.Follows μ (scalarOp u w s f) := by
  refine State.Follows.lift hm h₀ ?_
  have h := State.Follows.refl 590452408300154651416 s
  unfold scalarOp
  repeat' first
    | (with_reducible assumption)
    | (exact (rfl : Nat.lor _ _ = _))
    | (with_reducible refine issue_follows ?_ ?_ ?_)
    | (with_reducible refine State.setS_follows ?_ ?_)
    | (intro _ _)

theorem compareOp_follows {μ : Nat} {s₀ : State} {u : Exec} {w : Nat} {s : State} {f : W64 → W64 → Bool} (hm : Nat.lor 590452408300154651416 μ = μ) (h₀ : s₀.Follows μ s) :
    s₀.Follows μ (compareOp u w s f) := by
  refine State.Follows.lift hm h₀ ?_
  have h := State.Follows.refl 590452408300154651416 s
  unfold compareOp
  repeat' first
    | (with_reducible assumption)
    | (exact (rfl : Nat.lor _ _ = _))
    | (with_reducible refine issue_follows ?_ ?_ ?_)
    | (with_reducible refine State.setP_follows ?_ ?_)
    | (intro _ _)

theorem predOp_follows {μ : Nat} {s₀ : State} {u : Exec} {w : Nat} {s : State} {one : Bool} {f : Bool → Bool → Bool} (hm : Nat.lor 590452408300154651416 μ = μ) (h₀ : s₀.Follows μ s) :
    s₀.Follows μ (predOp u w s one f) := by
  refine State.Follows.lift hm h₀ ?_
  have h := State.Follows.refl 590452408300154651416 s
  unfold predOp
  repeat' first
    | (with_reducible assumption)
    | (exact (rfl : Nat.lor _ _ = _))
    | (with_reducible refine issue_follows ?_ ?_ ?_)
    | (with_reducible refine State.setP_follows ?_ ?_)
    | (intro _ _)

theorem execAdd_follows {μ : Nat} {s₀ : State} {u : Exec} {w : Nat} {s : State} (hm : Nat.lor 590452408300154651416 μ = μ) (h₀ : s₀.Follows μ s) :
    s₀.Ends μ (execAdd u w s) := by
  refine State.Ends.lift hm h₀ ?_
  have h := State.Follows.refl 590452408300154651416 s
  unfold execAdd
  repeat' first
    | (with_reducible assumption)
    | (exact (rfl : Nat.lor _ _ = _))
    | (with_reducible refine scalarOp_follows ?_ ?_)
    | (with_reducible apply State.Ends.next)

theorem execSub_follows {μ : Nat} {s₀ : State} {u : Exec} {w : Nat} {s : State} (hm : Nat.lor 590452408300154651416 μ = μ) (h₀ : s₀.Follows μ s) :
    s₀.Ends μ (execSub u w s) := by
  refine State.Ends.lift hm h₀ ?_
  have h := State.Follows.refl 590452408300154651416 s
  unfold execSub
  repeat' first
    | (with_reducible assumption)
    | (exact (rfl : Nat.lor _ _ = _))
    | (with_reducible refine scalarOp_follows ?_ ?_)
    | (with_reducible apply State.Ends.next)

theorem execMul_follows {μ : Nat} {s₀ : State} {u : Exec} {w : Nat} {s : State} (hm : Nat.lor 590452408300154651416 μ = μ) (h₀ : s₀.Follows μ s) :
    s₀.Ends μ (execMul u w s) := by
  refine State.Ends.lift hm h₀ ?_
  have h := State.Follows.refl 590452408300154651416 s
  unfold execMul
  repeat' first
    | (with_reducible assumption)
    | (exact (rfl : Nat.lor _ _ = _))
    | (with_reducible refine scalarOp_follows ?_ ?_)
    | (with_reducible apply State.Ends.next)

theorem execAnd_follows {μ : Nat} {s₀ : State} {u : Exec} {w : Nat} {s : State} (hm : Nat.lor 590452408300154651416 μ = μ) (h₀ : s₀.Follows μ s) :
    s₀.Ends μ (execAnd u w s) := by
  refine State.Ends.lift hm h₀ ?_
  have h := State.Follows.refl 590452408300154651416 s
  unfold execAnd
  repeat' first
    | (with_reducible assumption)
    | (exact (rfl : Nat.lor _ _ = _))
    | (with_reducible refine scalarOp_follows ?_ ?_)
    | (with_reducible apply State.Ends.next)

theorem execOr_follows {μ : Nat} {s₀ : State} {u : Exec} {w : Nat} {s : State} (hm : Nat.lor 590452408300154651416 μ = μ) (h₀ : s₀.Follows μ s) :
    s₀.Ends μ (execOr u w s) := by
  refine State.Ends.lift hm h₀ ?_
  have h := State.Follows.refl 590452408300154651416 s
  unfold execOr
  repeat' first
    | (with_reducible assumption)
    | (exact (rfl : Nat.lor _ _ = _))
    | (with_reducible refine scalarOp_follows ?_ ?_)
    | (with_reducible apply State.Ends.next)

theorem execXor_follows {μ : Nat} {s₀ : State} {u : Exec} {w : Nat} {s : State} (hm : Nat.lor 590452408300154651416 μ = μ) (h₀ : s₀.Follows μ s) :
    s₀.Ends μ (execXor u w s) := by
  refine State.Ends.lift hm h₀ ?_
  have h := State.Follows.refl 590452408300154651416 s
  unfold execXor
  repeat' first
    | (with_reducible assumption)
    | (exact (rfl : Nat.lor _ _ = _))
    | (with_reducible refine scalarOp_follows ?_ ?_)
    | (with_reducible apply State.Ends.next)

theorem execShl_follows {μ : Nat} {s₀ : State} {u : Exec} {w : Nat} {s : State} (hm : Nat.lor 590452408300154651416 μ = μ) (h₀ : s₀.Follows μ s) :
    s₀.Ends μ (execShl u w s) := by
  refine State.Ends.lift hm h₀ ?_
  have h := State.Follows.refl 590452408300154651416 s
  unfold execShl
  repeat' first
    | (with_reducible assumption)
    | (exact (rfl : Nat.lor _ _ = _))
    | (with_reducible refine scalarOp_follows ?_ ?_)
    | (with_reducible apply State.Ends.next)

theorem execShr_follows {μ : Nat} {s₀ : State} {u : Exec} {w : Nat} {s : State} (hm : Nat.lor 590452408300154651416 μ = μ) (h₀ : s₀.Follows μ s) :
    s₀.Ends μ (execShr u w s) := by
  refine State.Ends.lift hm h₀ ?_
  have h := State.Follows.refl 590452408300154651416 s
  unfold execShr
  repeat' first
    | (with_reducible assumption)
    | (exact (rfl : Nat.lor _ _ = _))
    | (with_reducible refine scalarOp_follows ?_ ?_)
    | (with_reducible apply State.Ends.next)

theorem execSar_follows {μ : Nat} {s₀ : State} {u : Exec} {w : Nat} {s : State} (hm : Nat.lor 590452408300154651416 μ = μ) (h₀ : s₀.Follows μ s) :
    s₀.Ends μ (execSar u w s) := by
  refine State.Ends.lift hm h₀ ?_
  have h := State.Follows.refl 590452408300154651416 s
  unfold execSar
  repeat' first
    | (with_reducible assumption)
    | (exact (rfl : Nat.lor _ _ = _))
    | (with_reducible refine scalarOp_follows ?_ ?_)
    | (with_reducible apply State.Ends.next)

theorem execMin_follows {μ : Nat} {s₀ : State} {u : Exec} {w : Nat} {s : State} (hm : Nat.lor 590452408300154651416 μ = μ) (h₀ : s₀.Follows μ s) :
    s₀.Ends μ (execMin u w s) := by
  refine State.Ends.lift hm h₀ ?_
  have h := State.Follows.refl 590452408300154651416 s
  unfold execMin
  repeat' first
    | (with_reducible assumption)
    | (exact (rfl : Nat.lor _ _ = _))
    | (with_reducible refine scalarOp_follows ?_ ?_)
    | (with_reducible apply State.Ends.next)

theorem execMax_follows {μ : Nat} {s₀ : State} {u : Exec} {w : Nat} {s : State} (hm : Nat.lor 590452408300154651416 μ = μ) (h₀ : s₀.Follows μ s) :
    s₀.Ends μ (execMax u w s) := by
  refine State.Ends.lift hm h₀ ?_
  have h := State.Follows.refl 590452408300154651416 s
  unfold execMax
  repeat' first
    | (with_reducible assumption)
    | (exact (rfl : Nat.lor _ _ = _))
    | (with_reducible refine scalarOp_follows ?_ ?_)
    | (with_reducible apply State.Ends.next)

theorem execMovi_follows {μ : Nat} {s₀ : State} {u : Exec} {w : Nat} {s : State} (hm : Nat.lor 590452408300154651416 μ = μ) (h₀ : s₀.Follows μ s) :
    s₀.Ends μ (execMovi u w s) := by
  refine State.Ends.lift hm h₀ ?_
  have h := State.Follows.refl 590452408300154651416 s
  unfold execMovi
  repeat' first
    | (with_reducible assumption)
    | (exact (rfl : Nat.lor _ _ = _))
    | (with_reducible refine issue_follows ?_ ?_ ?_)
    | (with_reducible refine State.setS_follows ?_ ?_)
    | (with_reducible apply State.Ends.next)
    | (intro _ _)

theorem execMovhi_follows {μ : Nat} {s₀ : State} {u : Exec} {w : Nat} {s : State} (hm : Nat.lor 590452408300154651416 μ = μ) (h₀ : s₀.Follows μ s) :
    s₀.Ends μ (execMovhi u w s) := by
  refine State.Ends.lift hm h₀ ?_
  have h := State.Follows.refl 590452408300154651416 s
  unfold execMovhi
  repeat' first
    | (with_reducible assumption)
    | (exact (rfl : Nat.lor _ _ = _))
    | (with_reducible refine issue_follows ?_ ?_ ?_)
    | (with_reducible refine State.setS_follows ?_ ?_)
    | (with_reducible apply State.Ends.next)
    | (intro _ _)

theorem execCmpeq_follows {μ : Nat} {s₀ : State} {u : Exec} {w : Nat} {s : State} (hm : Nat.lor 590452408300154651416 μ = μ) (h₀ : s₀.Follows μ s) :
    s₀.Ends μ (execCmpeq u w s) := by
  refine State.Ends.lift hm h₀ ?_
  have h := State.Follows.refl 590452408300154651416 s
  unfold execCmpeq
  repeat' first
    | (with_reducible assumption)
    | (exact (rfl : Nat.lor _ _ = _))
    | (with_reducible refine compareOp_follows ?_ ?_)
    | (with_reducible apply State.Ends.next)

theorem execCmpne_follows {μ : Nat} {s₀ : State} {u : Exec} {w : Nat} {s : State} (hm : Nat.lor 590452408300154651416 μ = μ) (h₀ : s₀.Follows μ s) :
    s₀.Ends μ (execCmpne u w s) := by
  refine State.Ends.lift hm h₀ ?_
  have h := State.Follows.refl 590452408300154651416 s
  unfold execCmpne
  repeat' first
    | (with_reducible assumption)
    | (exact (rfl : Nat.lor _ _ = _))
    | (with_reducible refine compareOp_follows ?_ ?_)
    | (with_reducible apply State.Ends.next)

theorem execCmplt_follows {μ : Nat} {s₀ : State} {u : Exec} {w : Nat} {s : State} (hm : Nat.lor 590452408300154651416 μ = μ) (h₀ : s₀.Follows μ s) :
    s₀.Ends μ (execCmplt u w s) := by
  refine State.Ends.lift hm h₀ ?_
  have h := State.Follows.refl 590452408300154651416 s
  unfold execCmplt
  repeat' first
    | (with_reducible assumption)
    | (exact (rfl : Nat.lor _ _ = _))
    | (with_reducible refine compareOp_follows ?_ ?_)
    | (with_reducible apply State.Ends.next)

theorem execCmple_follows {μ : Nat} {s₀ : State} {u : Exec} {w : Nat} {s : State} (hm : Nat.lor 590452408300154651416 μ = μ) (h₀ : s₀.Follows μ s) :
    s₀.Ends μ (execCmple u w s) := by
  refine State.Ends.lift hm h₀ ?_
  have h := State.Follows.refl 590452408300154651416 s
  unfold execCmple
  repeat' first
    | (with_reducible assumption)
    | (exact (rfl : Nat.lor _ _ = _))
    | (with_reducible refine compareOp_follows ?_ ?_)
    | (with_reducible apply State.Ends.next)

theorem execCmpltu_follows {μ : Nat} {s₀ : State} {u : Exec} {w : Nat} {s : State} (hm : Nat.lor 590452408300154651416 μ = μ) (h₀ : s₀.Follows μ s) :
    s₀.Ends μ (execCmpltu u w s) := by
  refine State.Ends.lift hm h₀ ?_
  have h := State.Follows.refl 590452408300154651416 s
  unfold execCmpltu
  repeat' first
    | (with_reducible assumption)
    | (exact (rfl : Nat.lor _ _ = _))
    | (with_reducible refine compareOp_follows ?_ ?_)
    | (with_reducible apply State.Ends.next)

theorem execPand_follows {μ : Nat} {s₀ : State} {u : Exec} {w : Nat} {s : State} (hm : Nat.lor 590452408300154651416 μ = μ) (h₀ : s₀.Follows μ s) :
    s₀.Ends μ (execPand u w s) := by
  refine State.Ends.lift hm h₀ ?_
  have h := State.Follows.refl 590452408300154651416 s
  unfold execPand
  repeat' first
    | (with_reducible assumption)
    | (exact (rfl : Nat.lor _ _ = _))
    | (with_reducible refine predOp_follows ?_ ?_)
    | (with_reducible apply State.Ends.next)

theorem execPor_follows {μ : Nat} {s₀ : State} {u : Exec} {w : Nat} {s : State} (hm : Nat.lor 590452408300154651416 μ = μ) (h₀ : s₀.Follows μ s) :
    s₀.Ends μ (execPor u w s) := by
  refine State.Ends.lift hm h₀ ?_
  have h := State.Follows.refl 590452408300154651416 s
  unfold execPor
  repeat' first
    | (with_reducible assumption)
    | (exact (rfl : Nat.lor _ _ = _))
    | (with_reducible refine predOp_follows ?_ ?_)
    | (with_reducible apply State.Ends.next)

theorem execPnot_follows {μ : Nat} {s₀ : State} {u : Exec} {w : Nat} {s : State} (hm : Nat.lor 590452408300154651416 μ = μ) (h₀ : s₀.Follows μ s) :
    s₀.Ends μ (execPnot u w s) := by
  refine State.Ends.lift hm h₀ ?_
  have h := State.Follows.refl 590452408300154651416 s
  unfold execPnot
  repeat' first
    | (with_reducible assumption)
    | (exact (rfl : Nat.lor _ _ = _))
    | (with_reducible refine predOp_follows ?_ ?_)
    | (with_reducible apply State.Ends.next)

theorem execBr_follows {μ : Nat} {s₀ : State} {u : Exec} {w : Nat} {s : State} (hm : Nat.lor 590452408300154651416 μ = μ) (h₀ : s₀.Follows μ s) :
    s₀.Ends μ (execBr u w s) := by
  refine State.Ends.lift hm h₀ ?_
  have h := State.Follows.refl 590452408300154651416 s
  unfold execBr
  repeat' first
    | (with_reducible assumption)
    | (exact (rfl : Nat.lor _ _ = _))
    | (with_reducible refine issue_follows ?_ ?_ ?_)
    | (with_reducible refine State.setPc_follows ?_ ?_)
    | (with_reducible apply State.Ends.next)
    | (intro _ _)

theorem execCall_follows {μ : Nat} {s₀ : State} {u : Exec} {w : Nat} {s : State} (hm : Nat.lor 590452408300154651416 μ = μ) (h₀ : s₀.Follows μ s) :
    s₀.Ends μ (execCall u w s) := by
  refine State.Ends.lift hm h₀ ?_
  have h := State.Follows.refl 590452408300154651416 s
  unfold execCall
  repeat' first
    | (with_reducible assumption)
    | (exact (rfl : Nat.lor _ _ = _))
    | (with_reducible refine issue_follows ?_ ?_ ?_)
    | (with_reducible refine State.setPc_follows ?_ ?_)
    | (with_reducible refine State.setS_follows ?_ ?_)
    | (with_reducible apply State.Ends.next)
    | (intro _ _)

theorem execJr_follows {μ : Nat} {s₀ : State} {u : Exec} {w : Nat} {s : State} (hm : Nat.lor 590452408300154651416 μ = μ) (h₀ : s₀.Follows μ s) :
    s₀.Ends μ (execJr u w s) := by
  refine State.Ends.lift hm h₀ ?_
  have h := State.Follows.refl 590452408300154651416 s
  unfold execJr
  repeat' first
    | (with_reducible assumption)
    | (exact (rfl : Nat.lor _ _ = _))
    | (with_reducible refine issue_follows ?_ ?_ ?_)
    | (with_reducible refine State.setPc_follows ?_ ?_)
    | (with_reducible apply State.Ends.next)
    | (intro _ _)

theorem execLoop_follows {μ : Nat} {s₀ : State} {u : Exec} {w : Nat} {s : State} (hm : Nat.lor 590452408300154651416 μ = μ) (h₀ : s₀.Follows μ s) :
    s₀.Ends μ (execLoop u w s) := by
  refine State.Ends.lift hm h₀ ?_
  have h := State.Follows.refl 590452408300154651416 s
  unfold execLoop
  repeat' first
    | (with_reducible assumption)
    | (exact (rfl : Nat.lor _ _ = _))
    | (with_reducible refine issue_follows ?_ ?_ ?_)
    | (with_reducible refine State.setPc_follows ?_ ?_)
    | (with_reducible refine State.setS_follows ?_ ?_)
    | (with_reducible apply State.Ends.next)
    | (with_reducible apply State.Follows.ite)
    | (intro _ _)

theorem execSread_follows {μ : Nat} {s₀ : State} {u : Exec} {w : Nat} {s : State} (hm : Nat.lor 590452408300154651416 μ = μ) (h₀ : s₀.Follows μ s) :
    s₀.Ends μ (execSread u w s) := by
  refine State.Ends.lift hm h₀ ?_
  have h := State.Follows.refl 590452408300154651416 s
  unfold execSread
  repeat' first
    | (with_reducible assumption)
    | (exact (rfl : Nat.lor _ _ = _))
    | (with_reducible refine issue_follows ?_ ?_ ?_)
    | (with_reducible refine State.setS_follows ?_ ?_)
    | (with_reducible apply State.Ends.next)
    | (intro _ _)

theorem execWait_follows {μ : Nat} {s₀ : State} {u : Exec} {w : Nat} {s : State} (hm : Nat.lor 590452408300154651416 μ = μ) (h₀ : s₀.Follows μ s) :
    s₀.Ends μ (execWait u w s) := by
  refine State.Ends.lift hm h₀ ?_
  have h := State.Follows.refl 590452408300154651416 s
  unfold execWait
  repeat' first
    | (with_reducible assumption)
    | (exact (rfl : Nat.lor _ _ = _))
    | (with_reducible refine issue_follows ?_ ?_ ?_)
    | (with_reducible refine State.setP_follows ?_ ?_)
    | (with_reducible refine State.updCtx_follows ?_ ?_)
    | (with_reducible apply State.Ends.next)
    | (with_reducible apply State.Follows.ite)
    | split
    | (intro _ _)

theorem State.sendSignal_follows {μ : Nat} {s₀ : State} {s : State} {n t e amount : Nat} {cs : List Nat} (hm : Nat.lor 153122387978617624 μ = μ) (h₀ : s₀.Follows μ s) :
    s₀.Follows μ (State.sendSignal s n t e amount cs) := by
  refine State.Follows.lift hm h₀ ?_
  have h := State.Follows.refl 153122387978617624 s
  unfold State.sendSignal
  repeat' first
    | (with_reducible assumption)
    | (exact (rfl : Nat.lor _ _ = _))
    | (with_reducible refine State.addEvc_follows ?_ ?_)
    | (with_reducible refine State.inject_follows ?_ ?_)
    | (with_reducible apply State.Follows.ite)
    | (with_reducible refine State.Follows.foldl _ ?_ ?_)
    | (intro _ _ _)

theorem State.ledgerSignal_follows {μ : Nat} {s₀ : State} {s : State} {n t kind e amount : Nat} {cs : List Nat} (hm : Nat.lor 153122387978617624 μ = μ) (h₀ : s₀.Follows μ s) :
    s₀.Follows μ (State.ledgerSignal s n t kind e amount cs) := by
  refine State.Follows.lift hm h₀ ?_
  have h := State.Follows.refl 153122387978617624 s
  unfold State.ledgerSignal
  repeat' first
    | (with_reducible assumption)
    | (exact (rfl : Nat.lor _ _ = _))
    | (with_reducible refine State.sendSignal_follows ?_ ?_)
    | (with_reducible refine State.updCore_follows ?_ ?_)
    | (with_reducible apply State.Follows.ite)

theorem execSignal_follows {μ : Nat} {s₀ : State} {u : Exec} {w : Nat} {s : State} (hm : Nat.lor 590452408300792185624 μ = μ) (h₀ : s₀.Follows μ s) :
    s₀.Ends μ (execSignal u w s) := by
  refine State.Ends.lift hm h₀ ?_
  have h := State.Follows.refl 590452408300792185624 s
  unfold execSignal
  repeat' first
    | (with_reducible assumption)
    | (exact (rfl : Nat.lor _ _ = _))
    | (with_reducible refine issue_follows ?_ ?_ ?_)
    | (with_reducible refine State.ledgerSignal_follows ?_ ?_)
    | (with_reducible apply State.Ends.next)
    | (with_reducible apply State.Follows.id)
    | split
    | (intro _ _)

theorem execNop_follows {μ : Nat} {s₀ : State} {u : Exec} {w : Nat} {s : State} (hm : Nat.lor 590452408300154651416 μ = μ) (h₀ : s₀.Follows μ s) :
    s₀.Ends μ (execNop u w s) := by
  refine State.Ends.lift hm h₀ ?_
  have h := State.Follows.refl 590452408300154651416 s
  unfold execNop
  repeat' first
    | (with_reducible assumption)
    | (exact (rfl : Nat.lor _ _ = _))
    | (with_reducible refine issue_follows ?_ ?_ ?_)
    | (with_reducible apply State.Ends.next)
    | (with_reducible apply State.Follows.id)

theorem State.endDispatch_follows {μ : Nat} {s₀ : State} {s : State} {p t : Nat} (hm : Nat.lor 590448932746046735128 μ = μ) (h₀ : s₀.Follows μ s) :
    s₀.Follows μ (State.endDispatch s p t) := by
  refine State.Follows.lift hm h₀ ?_
  have h := State.Follows.refl 590448932746046735128 s
  unfold State.endDispatch
  repeat' first
    | (with_reducible assumption)
    | (exact (rfl : Nat.lor _ _ = _))
    | (with_reducible refine State.retireWake_follows ?_ ?_)
    | dsimp only
    | ((with_reducible apply State.Follows.keep) <;> first | exact trivial | exact rfl | skip)

theorem execHalt_follows {μ : Nat} {s₀ : State} {u : Exec} {w : Nat} {s : State} (hm : Nat.lor 590452408300154651416 μ = μ) (h₀ : s₀.Follows μ s) :
    s₀.Ends μ (execHalt u w s) := by
  refine State.Ends.lift hm h₀ ?_
  have h := State.Follows.refl 590452408300154651416 s
  unfold execHalt
  repeat' first
    | (with_reducible assumption)
    | (exact (rfl : Nat.lor _ _ = _))
    | (with_reducible refine State.endDispatch_follows ?_ ?_)
    | (with_reducible refine issue_follows ?_ ?_ ?_)
    | (with_reducible refine State.updCtx_follows ?_ ?_)
    | (with_reducible apply State.Ends.next)
    | split
    | (intro _ _)

theorem execFence_follows {μ : Nat} {s₀ : State} {u : Exec} {w : Nat} {s : State} (hm : Nat.lor 590452408300154651416 μ = μ) (h₀ : s₀.Follows μ s) :
    s₀.Ends μ (execFence u w s) := by
  refine State.Ends.lift hm h₀ ?_
  have h := State.Follows.refl 590452408300154651416 s
  unfold execFence
  repeat' first
    | (with_reducible assumption)
    | (exact (rfl : Nat.lor _ _ = _))
    | (with_reducible refine issue_follows ?_ ?_ ?_)
    | (with_reducible apply State.Ends.next)
    | (with_reducible apply State.Follows.id)

theorem execLayer_follows {μ : Nat} {s₀ : State} {u : Exec} {w : Nat} {s : State} (hm : Nat.lor 590452408300154651416 μ = μ) (h₀ : s₀.Follows μ s) :
    s₀.Ends μ (execLayer u w s) := by
  refine State.Ends.lift hm h₀ ?_
  have h := State.Follows.refl 590452408300154651416 s
  unfold execLayer
  repeat' first
    | (with_reducible assumption)
    | (exact (rfl : Nat.lor _ _ = _))
    | (with_reducible refine issue_follows ?_ ?_ ?_)
    | (with_reducible refine State.updCore_follows ?_ ?_)
    | (with_reducible apply State.Ends.next)
    | (with_reducible apply State.Follows.id)
    | split
    | (intro _ _)

theorem execChisel_follows {μ : Nat} {s₀ : State} {u : Exec} {w : Nat} {s : State} (hm : Nat.lor 590452408300154651416 μ = μ) (h₀ : s₀.Follows μ s) :
    s₀.Ends μ (execChisel u w s) := by
  refine State.Ends.lift hm h₀ ?_
  have h := State.Follows.refl 590452408300154651416 s
  unfold execChisel
  repeat' first
    | (with_reducible assumption)
    | (exact (rfl : Nat.lor _ _ = _))
    | (with_reducible refine issue_follows ?_ ?_ ?_)
    | (with_reducible refine State.updCore_follows ?_ ?_)
    | (with_reducible apply State.Ends.next)
    | (with_reducible apply State.Follows.id)
    | split
    | (intro _ _)

end Sys2Proof.Machine
end

