-- ==== Sys2Proof/Laws/FollowsIsaVector.lean ====
section
/-!
SUPPORT. The operations of Machine/IsaVector.lean keep the relation `State.Follows`. The number in a lemma is the mask of the
components that its operation may change.
-/
namespace Sys2Proof.Machine
open Sys2Proof

theorem State.vCounts_follows {μ : Nat} {s₀ : State} {s : State} {u : Exec} {rs : List VElem} (hm : Nat.lor 153122387330597656 μ = μ) (h₀ : s₀.Follows μ s) :
    s₀.Follows μ (State.vCounts s u rs) := by
  refine State.Follows.lift hm h₀ ?_
  have h := State.Follows.refl 153122387330597656 s
  unfold State.vCounts
  repeat' first
    | (with_reducible assumption)
    | (exact (rfl : Nat.lor _ _ = _))
    | (with_reducible refine State.fmtClamps_follows ?_ ?_)
    | (with_reducible refine State.fmtNans_follows ?_ ?_)
    | split

theorem vectorOp_follows {μ : Nat} {s₀ : State} {op : Nat} {u : Exec} {w : Nat} {s : State} (hm : Nat.lor 590452408300154651416 μ = μ) (h₀ : s₀.Follows μ s) :
    s₀.Follows μ (vectorOp op u w s) := by
  refine State.Follows.lift hm h₀ ?_
  have h := State.Follows.refl 590452408300154651416 s
  unfold vectorOp
  repeat' first
    | (with_reducible assumption)
    | (exact (rfl : Nat.lor _ _ = _))
    | (with_reducible refine State.enter_follows ?_ ?_)
    | (with_reducible refine issue_follows ?_ ?_ ?_)
    | (with_reducible refine State.setOpMem_follows ?_ ?_)
    | (with_reducible refine State.vCounts_follows ?_ ?_)
    | split
    | (intro _ _)

theorem execVadd_follows {μ : Nat} {s₀ : State} {u : Exec} {w : Nat} {s : State} (hm : Nat.lor 590452408300154651416 μ = μ) (h₀ : s₀.Follows μ s) :
    s₀.Ends μ (execVadd u w s) := by
  refine State.Ends.lift hm h₀ ?_
  have h := State.Follows.refl 590452408300154651416 s
  unfold execVadd
  repeat' first
    | (with_reducible assumption)
    | (exact (rfl : Nat.lor _ _ = _))
    | (with_reducible refine vectorOp_follows ?_ ?_)
    | (with_reducible apply State.Ends.next)

theorem execVsub_follows {μ : Nat} {s₀ : State} {u : Exec} {w : Nat} {s : State} (hm : Nat.lor 590452408300154651416 μ = μ) (h₀ : s₀.Follows μ s) :
    s₀.Ends μ (execVsub u w s) := by
  refine State.Ends.lift hm h₀ ?_
  have h := State.Follows.refl 590452408300154651416 s
  unfold execVsub
  repeat' first
    | (with_reducible assumption)
    | (exact (rfl : Nat.lor _ _ = _))
    | (with_reducible refine vectorOp_follows ?_ ?_)
    | (with_reducible apply State.Ends.next)

theorem execVmul_follows {μ : Nat} {s₀ : State} {u : Exec} {w : Nat} {s : State} (hm : Nat.lor 590452408300154651416 μ = μ) (h₀ : s₀.Follows μ s) :
    s₀.Ends μ (execVmul u w s) := by
  refine State.Ends.lift hm h₀ ?_
  have h := State.Follows.refl 590452408300154651416 s
  unfold execVmul
  repeat' first
    | (with_reducible assumption)
    | (exact (rfl : Nat.lor _ _ = _))
    | (with_reducible refine vectorOp_follows ?_ ?_)
    | (with_reducible apply State.Ends.next)

theorem execVfma_follows {μ : Nat} {s₀ : State} {u : Exec} {w : Nat} {s : State} (hm : Nat.lor 590452408300154651416 μ = μ) (h₀ : s₀.Follows μ s) :
    s₀.Ends μ (execVfma u w s) := by
  refine State.Ends.lift hm h₀ ?_
  have h := State.Follows.refl 590452408300154651416 s
  unfold execVfma
  repeat' first
    | (with_reducible assumption)
    | (exact (rfl : Nat.lor _ _ = _))
    | (with_reducible refine vectorOp_follows ?_ ?_)
    | (with_reducible apply State.Ends.next)

theorem execVmax_follows {μ : Nat} {s₀ : State} {u : Exec} {w : Nat} {s : State} (hm : Nat.lor 590452408300154651416 μ = μ) (h₀ : s₀.Follows μ s) :
    s₀.Ends μ (execVmax u w s) := by
  refine State.Ends.lift hm h₀ ?_
  have h := State.Follows.refl 590452408300154651416 s
  unfold execVmax
  repeat' first
    | (with_reducible assumption)
    | (exact (rfl : Nat.lor _ _ = _))
    | (with_reducible refine vectorOp_follows ?_ ?_)
    | (with_reducible apply State.Ends.next)

theorem execVmin_follows {μ : Nat} {s₀ : State} {u : Exec} {w : Nat} {s : State} (hm : Nat.lor 590452408300154651416 μ = μ) (h₀ : s₀.Follows μ s) :
    s₀.Ends μ (execVmin u w s) := by
  refine State.Ends.lift hm h₀ ?_
  have h := State.Follows.refl 590452408300154651416 s
  unfold execVmin
  repeat' first
    | (with_reducible assumption)
    | (exact (rfl : Nat.lor _ _ = _))
    | (with_reducible refine vectorOp_follows ?_ ?_)
    | (with_reducible apply State.Ends.next)

theorem execVcvt_follows {μ : Nat} {s₀ : State} {u : Exec} {w : Nat} {s : State} (hm : Nat.lor 590452408300154651416 μ = μ) (h₀ : s₀.Follows μ s) :
    s₀.Ends μ (execVcvt u w s) := by
  refine State.Ends.lift hm h₀ ?_
  have h := State.Follows.refl 590452408300154651416 s
  unfold execVcvt
  repeat' first
    | (with_reducible assumption)
    | (exact (rfl : Nat.lor _ _ = _))
    | (with_reducible refine vectorOp_follows ?_ ?_)
    | (with_reducible apply State.Ends.next)

theorem execVdiv_follows {μ : Nat} {s₀ : State} {u : Exec} {w : Nat} {s : State} (hm : Nat.lor 590452408300154651416 μ = μ) (h₀ : s₀.Follows μ s) :
    s₀.Ends μ (execVdiv u w s) := by
  refine State.Ends.lift hm h₀ ?_
  have h := State.Follows.refl 590452408300154651416 s
  unfold execVdiv
  repeat' first
    | (with_reducible assumption)
    | (exact (rfl : Nat.lor _ _ = _))
    | (with_reducible refine vectorOp_follows ?_ ?_)
    | (with_reducible apply State.Ends.next)

theorem execVrcp_follows {μ : Nat} {s₀ : State} {u : Exec} {w : Nat} {s : State} (hm : Nat.lor 590452408300154651416 μ = μ) (h₀ : s₀.Follows μ s) :
    s₀.Ends μ (execVrcp u w s) := by
  refine State.Ends.lift hm h₀ ?_
  have h := State.Follows.refl 590452408300154651416 s
  unfold execVrcp
  repeat' first
    | (with_reducible assumption)
    | (exact (rfl : Nat.lor _ _ = _))
    | (with_reducible refine vectorOp_follows ?_ ?_)
    | (with_reducible apply State.Ends.next)

theorem execVsqrt_follows {μ : Nat} {s₀ : State} {u : Exec} {w : Nat} {s : State} (hm : Nat.lor 590452408300154651416 μ = μ) (h₀ : s₀.Follows μ s) :
    s₀.Ends μ (execVsqrt u w s) := by
  refine State.Ends.lift hm h₀ ?_
  have h := State.Follows.refl 590452408300154651416 s
  unfold execVsqrt
  repeat' first
    | (with_reducible assumption)
    | (exact (rfl : Nat.lor _ _ = _))
    | (with_reducible refine vectorOp_follows ?_ ?_)
    | (with_reducible apply State.Ends.next)

theorem execVrsqrt_follows {μ : Nat} {s₀ : State} {u : Exec} {w : Nat} {s : State} (hm : Nat.lor 590452408300154651416 μ = μ) (h₀ : s₀.Follows μ s) :
    s₀.Ends μ (execVrsqrt u w s) := by
  refine State.Ends.lift hm h₀ ?_
  have h := State.Follows.refl 590452408300154651416 s
  unfold execVrsqrt
  repeat' first
    | (with_reducible assumption)
    | (exact (rfl : Nat.lor _ _ = _))
    | (with_reducible refine vectorOp_follows ?_ ?_)
    | (with_reducible apply State.Ends.next)

theorem execVexp_follows {μ : Nat} {s₀ : State} {u : Exec} {w : Nat} {s : State} (hm : Nat.lor 590452408300154651416 μ = μ) (h₀ : s₀.Follows μ s) :
    s₀.Ends μ (execVexp u w s) := by
  refine State.Ends.lift hm h₀ ?_
  have h := State.Follows.refl 590452408300154651416 s
  unfold execVexp
  repeat' first
    | (with_reducible assumption)
    | (exact (rfl : Nat.lor _ _ = _))
    | (with_reducible refine vectorOp_follows ?_ ?_)
    | (with_reducible apply State.Ends.next)

theorem execVexp2_follows {μ : Nat} {s₀ : State} {u : Exec} {w : Nat} {s : State} (hm : Nat.lor 590452408300154651416 μ = μ) (h₀ : s₀.Follows μ s) :
    s₀.Ends μ (execVexp2 u w s) := by
  refine State.Ends.lift hm h₀ ?_
  have h := State.Follows.refl 590452408300154651416 s
  unfold execVexp2
  repeat' first
    | (with_reducible assumption)
    | (exact (rfl : Nat.lor _ _ = _))
    | (with_reducible refine vectorOp_follows ?_ ?_)
    | (with_reducible apply State.Ends.next)

theorem execVlog_follows {μ : Nat} {s₀ : State} {u : Exec} {w : Nat} {s : State} (hm : Nat.lor 590452408300154651416 μ = μ) (h₀ : s₀.Follows μ s) :
    s₀.Ends μ (execVlog u w s) := by
  refine State.Ends.lift hm h₀ ?_
  have h := State.Follows.refl 590452408300154651416 s
  unfold execVlog
  repeat' first
    | (with_reducible assumption)
    | (exact (rfl : Nat.lor _ _ = _))
    | (with_reducible refine vectorOp_follows ?_ ?_)
    | (with_reducible apply State.Ends.next)

theorem execVtanh_follows {μ : Nat} {s₀ : State} {u : Exec} {w : Nat} {s : State} (hm : Nat.lor 590452408300154651416 μ = μ) (h₀ : s₀.Follows μ s) :
    s₀.Ends μ (execVtanh u w s) := by
  refine State.Ends.lift hm h₀ ?_
  have h := State.Follows.refl 590452408300154651416 s
  unfold execVtanh
  repeat' first
    | (with_reducible assumption)
    | (exact (rfl : Nat.lor _ _ = _))
    | (with_reducible refine vectorOp_follows ?_ ?_)
    | (with_reducible apply State.Ends.next)

theorem execVsig_follows {μ : Nat} {s₀ : State} {u : Exec} {w : Nat} {s : State} (hm : Nat.lor 590452408300154651416 μ = μ) (h₀ : s₀.Follows μ s) :
    s₀.Ends μ (execVsig u w s) := by
  refine State.Ends.lift hm h₀ ?_
  have h := State.Follows.refl 590452408300154651416 s
  unfold execVsig
  repeat' first
    | (with_reducible assumption)
    | (exact (rfl : Nat.lor _ _ = _))
    | (with_reducible refine vectorOp_follows ?_ ?_)
    | (with_reducible apply State.Ends.next)

theorem execVsilu_follows {μ : Nat} {s₀ : State} {u : Exec} {w : Nat} {s : State} (hm : Nat.lor 590452408300154651416 μ = μ) (h₀ : s₀.Follows μ s) :
    s₀.Ends μ (execVsilu u w s) := by
  refine State.Ends.lift hm h₀ ?_
  have h := State.Follows.refl 590452408300154651416 s
  unfold execVsilu
  repeat' first
    | (with_reducible assumption)
    | (exact (rfl : Nat.lor _ _ = _))
    | (with_reducible refine vectorOp_follows ?_ ?_)
    | (with_reducible apply State.Ends.next)

theorem execVgelu_follows {μ : Nat} {s₀ : State} {u : Exec} {w : Nat} {s : State} (hm : Nat.lor 590452408300154651416 μ = μ) (h₀ : s₀.Follows μ s) :
    s₀.Ends μ (execVgelu u w s) := by
  refine State.Ends.lift hm h₀ ?_
  have h := State.Follows.refl 590452408300154651416 s
  unfold execVgelu
  repeat' first
    | (with_reducible assumption)
    | (exact (rfl : Nat.lor _ _ = _))
    | (with_reducible refine vectorOp_follows ?_ ?_)
    | (with_reducible apply State.Ends.next)

theorem execVrope_follows {μ : Nat} {s₀ : State} {u : Exec} {w : Nat} {s : State} (hm : Nat.lor 590452408300154651416 μ = μ) (h₀ : s₀.Follows μ s) :
    s₀.Ends μ (execVrope u w s) := by
  refine State.Ends.lift hm h₀ ?_
  have h := State.Follows.refl 590452408300154651416 s
  unfold execVrope
  repeat' first
    | (with_reducible assumption)
    | (exact (rfl : Nat.lor _ _ = _))
    | (with_reducible refine vectorOp_follows ?_ ?_)
    | (with_reducible apply State.Ends.next)

theorem execVsum_follows {μ : Nat} {s₀ : State} {u : Exec} {w : Nat} {s : State} (hm : Nat.lor 590452408300154651416 μ = μ) (h₀ : s₀.Follows μ s) :
    s₀.Ends μ (execVsum u w s) := by
  refine State.Ends.lift hm h₀ ?_
  have h := State.Follows.refl 590452408300154651416 s
  unfold execVsum
  repeat' first
    | (with_reducible assumption)
    | (exact (rfl : Nat.lor _ _ = _))
    | (with_reducible refine vectorOp_follows ?_ ?_)
    | (with_reducible apply State.Ends.next)

theorem execVrmax_follows {μ : Nat} {s₀ : State} {u : Exec} {w : Nat} {s : State} (hm : Nat.lor 590452408300154651416 μ = μ) (h₀ : s₀.Follows μ s) :
    s₀.Ends μ (execVrmax u w s) := by
  refine State.Ends.lift hm h₀ ?_
  have h := State.Follows.refl 590452408300154651416 s
  unfold execVrmax
  repeat' first
    | (with_reducible assumption)
    | (exact (rfl : Nat.lor _ _ = _))
    | (with_reducible refine vectorOp_follows ?_ ?_)
    | (with_reducible apply State.Ends.next)

theorem execVdot_follows {μ : Nat} {s₀ : State} {u : Exec} {w : Nat} {s : State} (hm : Nat.lor 590452408300154651416 μ = μ) (h₀ : s₀.Follows μ s) :
    s₀.Ends μ (execVdot u w s) := by
  refine State.Ends.lift hm h₀ ?_
  have h := State.Follows.refl 590452408300154651416 s
  unfold execVdot
  repeat' first
    | (with_reducible assumption)
    | (exact (rfl : Nat.lor _ _ = _))
    | (with_reducible refine vectorOp_follows ?_ ?_)
    | (with_reducible apply State.Ends.next)

theorem execViadd_follows {μ : Nat} {s₀ : State} {u : Exec} {w : Nat} {s : State} (hm : Nat.lor 590452408300154651416 μ = μ) (h₀ : s₀.Follows μ s) :
    s₀.Ends μ (execViadd u w s) := by
  refine State.Ends.lift hm h₀ ?_
  have h := State.Follows.refl 590452408300154651416 s
  unfold execViadd
  repeat' first
    | (with_reducible assumption)
    | (exact (rfl : Nat.lor _ _ = _))
    | (with_reducible refine vectorOp_follows ?_ ?_)
    | (with_reducible apply State.Ends.next)

theorem execVisub_follows {μ : Nat} {s₀ : State} {u : Exec} {w : Nat} {s : State} (hm : Nat.lor 590452408300154651416 μ = μ) (h₀ : s₀.Follows μ s) :
    s₀.Ends μ (execVisub u w s) := by
  refine State.Ends.lift hm h₀ ?_
  have h := State.Follows.refl 590452408300154651416 s
  unfold execVisub
  repeat' first
    | (with_reducible assumption)
    | (exact (rfl : Nat.lor _ _ = _))
    | (with_reducible refine vectorOp_follows ?_ ?_)
    | (with_reducible apply State.Ends.next)

theorem execVimul_follows {μ : Nat} {s₀ : State} {u : Exec} {w : Nat} {s : State} (hm : Nat.lor 590452408300154651416 μ = μ) (h₀ : s₀.Follows μ s) :
    s₀.Ends μ (execVimul u w s) := by
  refine State.Ends.lift hm h₀ ?_
  have h := State.Follows.refl 590452408300154651416 s
  unfold execVimul
  repeat' first
    | (with_reducible assumption)
    | (exact (rfl : Nat.lor _ _ = _))
    | (with_reducible refine vectorOp_follows ?_ ?_)
    | (with_reducible apply State.Ends.next)

theorem execViand_follows {μ : Nat} {s₀ : State} {u : Exec} {w : Nat} {s : State} (hm : Nat.lor 590452408300154651416 μ = μ) (h₀ : s₀.Follows μ s) :
    s₀.Ends μ (execViand u w s) := by
  refine State.Ends.lift hm h₀ ?_
  have h := State.Follows.refl 590452408300154651416 s
  unfold execViand
  repeat' first
    | (with_reducible assumption)
    | (exact (rfl : Nat.lor _ _ = _))
    | (with_reducible refine vectorOp_follows ?_ ?_)
    | (with_reducible apply State.Ends.next)

theorem execVior_follows {μ : Nat} {s₀ : State} {u : Exec} {w : Nat} {s : State} (hm : Nat.lor 590452408300154651416 μ = μ) (h₀ : s₀.Follows μ s) :
    s₀.Ends μ (execVior u w s) := by
  refine State.Ends.lift hm h₀ ?_
  have h := State.Follows.refl 590452408300154651416 s
  unfold execVior
  repeat' first
    | (with_reducible assumption)
    | (exact (rfl : Nat.lor _ _ = _))
    | (with_reducible refine vectorOp_follows ?_ ?_)
    | (with_reducible apply State.Ends.next)

theorem execVixor_follows {μ : Nat} {s₀ : State} {u : Exec} {w : Nat} {s : State} (hm : Nat.lor 590452408300154651416 μ = μ) (h₀ : s₀.Follows μ s) :
    s₀.Ends μ (execVixor u w s) := by
  refine State.Ends.lift hm h₀ ?_
  have h := State.Follows.refl 590452408300154651416 s
  unfold execVixor
  repeat' first
    | (with_reducible assumption)
    | (exact (rfl : Nat.lor _ _ = _))
    | (with_reducible refine vectorOp_follows ?_ ?_)
    | (with_reducible apply State.Ends.next)

theorem execVishl_follows {μ : Nat} {s₀ : State} {u : Exec} {w : Nat} {s : State} (hm : Nat.lor 590452408300154651416 μ = μ) (h₀ : s₀.Follows μ s) :
    s₀.Ends μ (execVishl u w s) := by
  refine State.Ends.lift hm h₀ ?_
  have h := State.Follows.refl 590452408300154651416 s
  unfold execVishl
  repeat' first
    | (with_reducible assumption)
    | (exact (rfl : Nat.lor _ _ = _))
    | (with_reducible refine vectorOp_follows ?_ ?_)
    | (with_reducible apply State.Ends.next)

theorem execVisar_follows {μ : Nat} {s₀ : State} {u : Exec} {w : Nat} {s : State} (hm : Nat.lor 590452408300154651416 μ = μ) (h₀ : s₀.Follows μ s) :
    s₀.Ends μ (execVisar u w s) := by
  refine State.Ends.lift hm h₀ ?_
  have h := State.Follows.refl 590452408300154651416 s
  unfold execVisar
  repeat' first
    | (with_reducible assumption)
    | (exact (rfl : Nat.lor _ _ = _))
    | (with_reducible refine vectorOp_follows ?_ ?_)
    | (with_reducible apply State.Ends.next)

end Sys2Proof.Machine
end

