-- ==== Sys2Proof/Laws/FollowsIsaEngine.lean ====
section
/-!
SUPPORT. The operations of Machine/IsaEngine.lean keep the relation `State.Follows`. The number in a lemma is the mask of the
components that its operation may change.
-/
namespace Sys2Proof.Machine
open Sys2Proof

theorem State.updArr_follows {μ : Nat} {s₀ : State} {s : State} {n pos : Nat} {f : Arr → Arr} (hm : Nat.lor 32768 μ = μ) (h₀ : s₀.Follows μ s) :
    s₀.Follows μ (State.updArr s n pos f) := by
  refine State.Follows.lift hm h₀ ?_
  have h := State.Follows.refl 32768 s
  unfold State.updArr
  repeat' first
    | (with_reducible assumption)
    | ((with_reducible apply State.Follows.keep) <;> first | exact trivial | exact rfl | skip)

theorem execGset_follows {μ : Nat} {s₀ : State} {u : Exec} {w : Nat} {s : State} (hm : Nat.lor 590452408300154651416 μ = μ) (h₀ : s₀.Follows μ s) :
    s₀.Ends μ (execGset u w s) := by
  refine State.Ends.lift hm h₀ ?_
  have h := State.Follows.refl 590452408300154651416 s
  unfold execGset
  repeat' first
    | (with_reducible assumption)
    | (exact (rfl : Nat.lor _ _ = _))
    | (with_reducible refine issue_follows ?_ ?_ ?_)
    | (with_reducible refine State.updCore_follows ?_ ?_)
    | (with_reducible apply State.Ends.next)
    | (with_reducible apply State.Follows.id)
    | split
    | (intro _ _)

theorem State.queueSlice_follows {μ : Nat} {s₀ : State} {s : State} {n flight g b slice : Nat} {ps : List Nat} {x : List Nat} (hm : Nat.lor 2129920 μ = μ) (h₀ : s₀.Follows μ s) :
    s₀.Follows μ (State.queueSlice s n flight g b slice ps x) := by
  refine State.Follows.lift hm h₀ ?_
  have h := State.Follows.refl 2129920 s
  unfold State.queueSlice
  repeat' first
    | (with_reducible assumption)
    | (exact (rfl : Nat.lor _ _ = _))
    | (with_reducible refine State.updArr_follows ?_ ?_)
    | (with_reducible refine State.updCore_follows ?_ ?_)
    | (with_reducible refine State.Follows.foldl _ ?_ ?_)
    | (intro _ _ _)

theorem execStrike_follows {μ : Nat} {s₀ : State} {u : Exec} {w : Nat} {s : State} (hm : Nat.lor 590452408300154684184 μ = μ) (h₀ : s₀.Follows μ s) :
    s₀.Ends μ (execStrike u w s) := by
  refine State.Ends.lift hm h₀ ?_
  have h := State.Follows.refl 590452408300154684184 s
  unfold execStrike
  repeat' first
    | (with_reducible assumption)
    | (exact (rfl : Nat.lor _ _ = _))
    | (with_reducible refine State.enter_follows ?_ ?_)
    | (with_reducible refine issue_follows ?_ ?_ ?_)
    | (with_reducible refine State.queueSlice_follows ?_ ?_)
    | (with_reducible refine State.updCore_follows ?_ ?_)
    | (with_reducible apply State.Ends.next)
    | (with_reducible refine State.Follows.foldl _ ?_ ?_)
    | (with_reducible apply State.Follows.id)
    | split
    | (intro _ _ _)
    | (intro _ _)

theorem execPload_follows {μ : Nat} {s₀ : State} {u : Exec} {w : Nat} {s : State} (hm : Nat.lor 590452408300154684184 μ = μ) (h₀ : s₀.Follows μ s) :
    s₀.Ends μ (execPload u w s) := by
  refine State.Ends.lift hm h₀ ?_
  have h := State.Follows.refl 590452408300154684184 s
  unfold execPload
  repeat' first
    | (with_reducible assumption)
    | (exact (rfl : Nat.lor _ _ = _))
    | (with_reducible refine State.enter_follows ?_ ?_)
    | (with_reducible refine issue_follows ?_ ?_ ?_)
    | (with_reducible refine State.updArr_follows ?_ ?_)
    | (with_reducible apply State.Ends.next)
    | (with_reducible apply State.Follows.id)
    | split
    | (intro _ _)

theorem execPswap_follows {μ : Nat} {s₀ : State} {u : Exec} {w : Nat} {s : State} (hm : Nat.lor 590452408300154684184 μ = μ) (h₀ : s₀.Follows μ s) :
    s₀.Ends μ (execPswap u w s) := by
  refine State.Ends.lift hm h₀ ?_
  have h := State.Follows.refl 590452408300154684184 s
  unfold execPswap
  repeat' first
    | (with_reducible assumption)
    | (exact (rfl : Nat.lor _ _ = _))
    | (with_reducible refine State.enter_follows ?_ ?_)
    | (with_reducible refine issue_follows ?_ ?_ ?_)
    | (with_reducible refine State.retireWake_follows ?_ ?_)
    | (with_reducible refine State.updArr_follows ?_ ?_)
    | (with_reducible apply State.Ends.next)
    | (with_reducible refine State.Follows.foldl _ ?_ ?_)
    | (with_reducible apply State.Follows.id)
    | split
    | (intro _ _ _)
    | (intro _ _)

theorem State.sendXfer_follows {μ : Nat} {s₀ : State} {s : State} {n id a len : Nat} {inbound : Bool} (hm : Nat.lor 156597942090728216 μ = μ) (h₀ : s₀.Follows μ s) :
    s₀.Follows μ (State.sendXfer s n id a len inbound) := by
  refine State.Follows.lift hm h₀ ?_
  have h := State.Follows.refl 156597942090728216 s
  unfold State.sendXfer
  repeat' first
    | (with_reducible assumption)
    | (exact (rfl : Nat.lor _ _ = _))
    | (with_reducible refine State.askBlocks_follows ?_ ?_)
    | (with_reducible refine State.inject_follows ?_ ?_)
    | (with_reducible refine State.remoteFault_follows ?_ ?_)
    | (with_reducible apply State.Follows.ite)

theorem execMove_follows {μ : Nat} {s₀ : State} {u : Exec} {w : Nat} {s : State} (hm : Nat.lor 590452408300796379928 μ = μ) (h₀ : s₀.Follows μ s) :
    s₀.Ends μ (execMove u w s) := by
  refine State.Ends.lift hm h₀ ?_
  have h := State.Follows.refl 590452408300796379928 s
  unfold execMove
  repeat' first
    | (with_reducible assumption)
    | (exact (rfl : Nat.lor _ _ = _))
    | (with_reducible refine State.enter_follows ?_ ?_)
    | (with_reducible refine issue_follows ?_ ?_ ?_)
    | (with_reducible refine State.retireWake_follows ?_ ?_)
    | (with_reducible refine State.sendXfer_follows ?_ ?_)
    | (with_reducible refine State.updCore_follows ?_ ?_)
    | (with_reducible apply State.Ends.next)
    | (with_reducible apply State.Follows.id)
    | split
    | (intro _ _)

theorem State.updRegion_follows {μ : Nat} {s₀ : State} {s : State} {n q : Nat} {f : Region → Region} (hm : Nat.lor 2097152 μ = μ) (h₀ : s₀.Follows μ s) :
    s₀.Follows μ (State.updRegion s n q f) := by
  refine State.Follows.lift hm h₀ ?_
  have h := State.Follows.refl 2097152 s
  unfold State.updRegion
  repeat' first
    | (with_reducible assumption)
    | (exact (rfl : Nat.lor _ _ = _))
    | (with_reducible refine State.updCore_follows ?_ ?_)

theorem execPush_follows {μ : Nat} {s₀ : State} {u : Exec} {w : Nat} {s : State} (hm : Nat.lor 590452408300796379928 μ = μ) (h₀ : s₀.Follows μ s) :
    s₀.Ends μ (execPush u w s) := by
  refine State.Ends.lift hm h₀ ?_
  have h := State.Follows.refl 590452408300796379928 s
  unfold execPush
  repeat' first
    | (with_reducible assumption)
    | (exact (rfl : Nat.lor _ _ = _))
    | (with_reducible refine State.enter_follows ?_ ?_)
    | (with_reducible refine issue_follows ?_ ?_ ?_)
    | (with_reducible refine State.sendXfer_follows ?_ ?_)
    | (with_reducible refine State.updRegion_follows ?_ ?_)
    | (with_reducible apply State.Ends.next)
    | (with_reducible apply State.Follows.id)
    | split
    | (intro _ _)

theorem execPop_follows {μ : Nat} {s₀ : State} {u : Exec} {w : Nat} {s : State} (hm : Nat.lor 590452408300154651416 μ = μ) (h₀ : s₀.Follows μ s) :
    s₀.Ends μ (execPop u w s) := by
  refine State.Ends.lift hm h₀ ?_
  have h := State.Follows.refl 590452408300154651416 s
  unfold execPop
  repeat' first
    | (with_reducible assumption)
    | (exact (rfl : Nat.lor _ _ = _))
    | (with_reducible refine State.enter_follows ?_ ?_)
    | (with_reducible refine issue_follows ?_ ?_ ?_)
    | (with_reducible refine State.setS_follows ?_ ?_)
    | (with_reducible refine State.updRegion_follows ?_ ?_)
    | (with_reducible apply State.Ends.next)
    | (with_reducible apply State.Follows.id)
    | split
    | (intro _ _)

theorem execDrop_follows {μ : Nat} {s₀ : State} {u : Exec} {w : Nat} {s : State} (hm : Nat.lor 590452408300154651416 μ = μ) (h₀ : s₀.Follows μ s) :
    s₀.Ends μ (execDrop u w s) := by
  refine State.Ends.lift hm h₀ ?_
  have h := State.Follows.refl 590452408300154651416 s
  unfold execDrop
  repeat' first
    | (with_reducible assumption)
    | (exact (rfl : Nat.lor _ _ = _))
    | (with_reducible refine issue_follows ?_ ?_ ?_)
    | (with_reducible refine State.retireWake_follows ?_ ?_)
    | (with_reducible refine State.updRegion_follows ?_ ?_)
    | (with_reducible apply State.Ends.next)
    | (with_reducible apply State.Follows.id)
    | split
    | (intro _ _)

theorem execSedispatch_follows {μ : Nat} {s₀ : State} {u : Exec} {w : Nat} {s : State} (hm : Nat.lor 590452408300796379928 μ = μ) (h₀ : s₀.Follows μ s) :
    s₀.Ends μ (execSedispatch u w s) := by
  refine State.Ends.lift hm h₀ ?_
  have h := State.Follows.refl 590452408300796379928 s
  unfold execSedispatch
  repeat' first
    | (with_reducible assumption)
    | (exact (rfl : Nat.lor _ _ = _))
    | (with_reducible refine State.enter_follows ?_ ?_)
    | (with_reducible refine State.inject_follows ?_ ?_)
    | (with_reducible refine issue_follows ?_ ?_ ?_)
    | (with_reducible refine State.remoteFault_follows ?_ ?_)
    | (with_reducible apply State.Ends.next)
    | (with_reducible apply State.Follows.ite)
    | (with_reducible apply State.Follows.id)
    | split
    | (intro _ _)

theorem execShand_follows {μ : Nat} {s₀ : State} {u : Exec} {w : Nat} {s : State} (hm : Nat.lor 590452408300796379928 μ = μ) (h₀ : s₀.Follows μ s) :
    s₀.Ends μ (execShand u w s) := by
  refine State.Ends.lift hm h₀ ?_
  have h := State.Follows.refl 590452408300796379928 s
  unfold execShand
  repeat' first
    | (with_reducible assumption)
    | (exact (rfl : Nat.lor _ _ = _))
    | (with_reducible refine State.enter_follows ?_ ?_)
    | (with_reducible refine State.inject_follows ?_ ?_)
    | (with_reducible refine issue_follows ?_ ?_ ?_)
    | (with_reducible refine State.remoteFault_follows ?_ ?_)
    | (with_reducible apply State.Ends.next)
    | (with_reducible apply State.Follows.ite)
    | (with_reducible apply State.Follows.id)
    | split
    | (intro _ _)

theorem sinit_follows {μ : Nat} {s₀ : State} {u : Exec} {w : Nat} {s : State} (hm : Nat.lor 590452408300154651416 μ = μ) (h₀ : s₀.Follows μ s) :
    s₀.Follows μ (sinit u w s) := by
  refine State.Follows.lift hm h₀ ?_
  have h := State.Follows.refl 590452408300154651416 s
  unfold sinit
  repeat' first
    | (with_reducible assumption)
    | (exact (rfl : Nat.lor _ _ = _))
    | (with_reducible refine issue_follows ?_ ?_ ?_)
    | (with_reducible refine State.setOpMem_follows ?_ ?_)
    | (intro _ _)

theorem sstep_follows {μ : Nat} {s₀ : State} {u : Exec} {w : Nat} {s : State} (hm : Nat.lor 590452408300154651420 μ = μ) (h₀ : s₀.Follows μ s) :
    s₀.Follows μ (sstep u w s) := by
  refine State.Follows.lift hm h₀ ?_
  have h := State.Follows.refl 590452408300154651420 s
  unfold sstep
  repeat' first
    | (with_reducible assumption)
    | (exact (rfl : Nat.lor _ _ = _))
    | (with_reducible refine State.draw_follows ?_ ?_)
    | (with_reducible refine issue_follows ?_ ?_ ?_)
    | (with_reducible refine State.setOpMem_follows ?_ ?_)
    | split
    | (intro _ _)

theorem sacc_follows {μ : Nat} {s₀ : State} {u : Exec} {w : Nat} {s : State} (hm : Nat.lor 590452408300154651420 μ = μ) (h₀ : s₀.Follows μ s) :
    s₀.Follows μ (sacc u w s) := by
  refine State.Follows.lift hm h₀ ?_
  have h := State.Follows.refl 590452408300154651420 s
  unfold sacc
  repeat' first
    | (with_reducible assumption)
    | (exact (rfl : Nat.lor _ _ = _))
    | (with_reducible refine State.draw_follows ?_ ?_)
    | (with_reducible refine issue_follows ?_ ?_ ?_)
    | (with_reducible refine State.setOpMem_follows ?_ ?_)
    | (intro _ _)

theorem snorm_follows {μ : Nat} {s₀ : State} {u : Exec} {w : Nat} {s : State} (hm : Nat.lor 590452408300154651420 μ = μ) (h₀ : s₀.Follows μ s) :
    s₀.Follows μ (snorm u w s) := by
  refine State.Follows.lift hm h₀ ?_
  have h := State.Follows.refl 590452408300154651420 s
  unfold snorm
  repeat' first
    | (with_reducible assumption)
    | (exact (rfl : Nat.lor _ _ = _))
    | (with_reducible refine State.count64_follows ?_ ?_)
    | (with_reducible refine State.draw_follows ?_ ?_)
    | (with_reducible refine issue_follows ?_ ?_ ?_)
    | (with_reducible refine State.setOpMem_follows ?_ ?_)
    | (with_reducible refine State.setP_follows ?_ ?_)
    | (with_reducible apply State.Follows.ite)
    | split
    | (intro _ _)
    | dsimp only
    | ((with_reducible apply State.Follows.keep) <;> first | exact trivial | exact rfl | skip)

theorem scomb_follows {μ : Nat} {s₀ : State} {u : Exec} {w : Nat} {s : State} (hm : Nat.lor 590452408300154651420 μ = μ) (h₀ : s₀.Follows μ s) :
    s₀.Follows μ (scomb u w s) := by
  refine State.Follows.lift hm h₀ ?_
  have h := State.Follows.refl 590452408300154651420 s
  unfold scomb
  repeat' first
    | (with_reducible assumption)
    | (exact (rfl : Nat.lor _ _ = _))
    | (with_reducible refine State.draw_follows ?_ ?_)
    | (with_reducible refine issue_follows ?_ ?_ ?_)
    | (with_reducible refine State.setOpMem_follows ?_ ?_)
    | (intro _ _)

theorem execSinit_follows {μ : Nat} {s₀ : State} {u : Exec} {w : Nat} {s : State} (hm : Nat.lor 590452408300154651416 μ = μ) (h₀ : s₀.Follows μ s) :
    s₀.Ends μ (execSinit u w s) := by
  refine State.Ends.lift hm h₀ ?_
  have h := State.Follows.refl 590452408300154651416 s
  unfold execSinit
  repeat' first
    | (with_reducible assumption)
    | (exact (rfl : Nat.lor _ _ = _))
    | (with_reducible refine sinit_follows ?_ ?_)
    | (with_reducible apply State.Ends.next)

theorem execSstep_follows {μ : Nat} {s₀ : State} {u : Exec} {w : Nat} {s : State} (hm : Nat.lor 590452408300154651420 μ = μ) (h₀ : s₀.Follows μ s) :
    s₀.Ends μ (execSstep u w s) := by
  refine State.Ends.lift hm h₀ ?_
  have h := State.Follows.refl 590452408300154651420 s
  unfold execSstep
  repeat' first
    | (with_reducible assumption)
    | (exact (rfl : Nat.lor _ _ = _))
    | (with_reducible refine sstep_follows ?_ ?_)
    | (with_reducible apply State.Ends.next)

theorem execSacc_follows {μ : Nat} {s₀ : State} {u : Exec} {w : Nat} {s : State} (hm : Nat.lor 590452408300154651420 μ = μ) (h₀ : s₀.Follows μ s) :
    s₀.Ends μ (execSacc u w s) := by
  refine State.Ends.lift hm h₀ ?_
  have h := State.Follows.refl 590452408300154651420 s
  unfold execSacc
  repeat' first
    | (with_reducible assumption)
    | (exact (rfl : Nat.lor _ _ = _))
    | (with_reducible refine sacc_follows ?_ ?_)
    | (with_reducible apply State.Ends.next)

theorem execSnorm_follows {μ : Nat} {s₀ : State} {u : Exec} {w : Nat} {s : State} (hm : Nat.lor 590452408300154651420 μ = μ) (h₀ : s₀.Follows μ s) :
    s₀.Ends μ (execSnorm u w s) := by
  refine State.Ends.lift hm h₀ ?_
  have h := State.Follows.refl 590452408300154651420 s
  unfold execSnorm
  repeat' first
    | (with_reducible assumption)
    | (exact (rfl : Nat.lor _ _ = _))
    | (with_reducible refine snorm_follows ?_ ?_)
    | (with_reducible apply State.Ends.next)

theorem execScomb_follows {μ : Nat} {s₀ : State} {u : Exec} {w : Nat} {s : State} (hm : Nat.lor 590452408300154651420 μ = μ) (h₀ : s₀.Follows μ s) :
    s₀.Ends μ (execScomb u w s) := by
  refine State.Ends.lift hm h₀ ?_
  have h := State.Follows.refl 590452408300154651420 s
  unfold execScomb
  repeat' first
    | (with_reducible assumption)
    | (exact (rfl : Nat.lor _ _ = _))
    | (with_reducible refine scomb_follows ?_ ?_)
    | (with_reducible apply State.Ends.next)

theorem execSeret_follows {μ : Nat} {s₀ : State} {u : Exec} {w : Nat} {s : State} (hm : Nat.lor 590452408300154651416 μ = μ) (h₀ : s₀.Follows μ s) :
    s₀.Ends μ (execSeret u w s) := by
  refine State.Ends.lift hm h₀ ?_
  have h := State.Follows.refl 590452408300154651416 s
  unfold execSeret
  repeat' first
    | (with_reducible assumption)
    | (exact (rfl : Nat.lor _ _ = _))
    | (with_reducible refine issue_follows ?_ ?_ ?_)
    | (with_reducible refine State.updCore_follows ?_ ?_)
    | (with_reducible apply State.Ends.next)
    | (with_reducible apply State.Follows.id)
    | split
    | (intro _ _)

theorem execEngineThreadStart_follows {μ : Nat} {s₀ : State} {ped : Nat} {s : State} (hm : Nat.lor 2155872272 μ = μ) (h₀ : s₀.Follows μ s) :
    s₀.Ends μ (execEngineThreadStart ped s) := by
  refine State.Ends.lift hm h₀ ?_
  have h := State.Follows.refl 2155872272 s
  unfold execEngineThreadStart
  repeat' first
    | (with_reducible assumption)
    | (exact (rfl : Nat.lor _ _ = _))
    | (with_reducible refine State.pedCount_follows ?_ ?_)
    | (with_reducible refine State.updPed_follows ?_ ?_)
    | (with_reducible apply State.Ends.next)
    | split
    | ((with_reducible apply State.Follows.keep) <;> first | exact trivial | exact rfl | skip)

end Sys2Proof.Machine
end

