-- ==== Sys2Proof/Laws/FollowsFaults.lean ====
section
/-!
SUPPORT. The operations of Machine/Faults.lean keep the relation `State.Follows`. The number in a lemma is the mask of the
components that its operation may change.
-/
namespace Sys2Proof.Machine
open Sys2Proof

theorem State.updTest_follows {μ : Nat} {s₀ : State} {s : State} {j : Nat} {f : FieldTest → FieldTest} (hm : Nat.lor 295147905179352825856 μ = μ) (h₀ : s₀.Follows μ s) :
    s₀.Follows μ (State.updTest s j f) := by
  refine State.Follows.lift hm h₀ ?_
  have h := State.Follows.refl 295147905179352825856 s
  unfold State.updTest
  repeat' first
    | (with_reducible assumption)
    | ((with_reducible apply State.Follows.keep) <;> first | exact trivial | exact rfl | skip)

theorem State.endTest_follows {μ : Nat} {s₀ : State} {s : State} {j status : Nat} (hm : Nat.lor 295319041965192905496 μ = μ) (h₀ : s₀.Follows μ s) :
    s₀.Follows μ (State.endTest s j status) := by
  refine State.Follows.lift hm h₀ ?_
  have h := State.Follows.refl 295319041965192905496 s
  unfold State.endTest
  repeat' first
    | (with_reducible assumption)
    | (exact (rfl : Nat.lor _ _ = _))
    | (with_reducible refine State.finish_follows ?_ ?_)
    | (with_reducible refine State.logEvent_follows ?_ ?_)
    | (with_reducible refine State.updTest_follows ?_ ?_)
    | (with_reducible apply State.Follows.ite)

theorem State.abortTest_follows {μ : Nat} {s₀ : State} {s : State} {target : Nat} (hm : Nat.lor 295319041965192905496 μ = μ) (h₀ : s₀.Follows μ s) :
    s₀.Follows μ (State.abortTest s target) := by
  refine State.Follows.lift hm h₀ ?_
  have h := State.Follows.refl 295319041965192905496 s
  unfold State.abortTest
  repeat' first
    | (with_reducible assumption)
    | (exact (rfl : Nat.lor _ _ = _))
    | (with_reducible refine State.endTest_follows ?_ ?_)
    | split

theorem State.dropStrikes_follows {μ : Nat} {s₀ : State} {s : State} {n : Nat} (hm : Nat.lor 32768 μ = μ) (h₀ : s₀.Follows μ s) :
    s₀.Follows μ (State.dropStrikes s n) := by
  refine State.Follows.lift hm h₀ ?_
  have h := State.Follows.refl 32768 s
  unfold State.dropStrikes
  repeat' first
    | (with_reducible assumption)
    | (exact (rfl : Nat.lor _ _ = _))
    | (with_reducible refine State.updArr_follows ?_ ?_)
    | (with_reducible refine State.Follows.foldl _ ?_ ?_)
    | (intro _ _ _)

theorem State.nackNode_follows {μ : Nat} {s₀ : State} {s : State} {node : Nat} (hm : Nat.lor 33554432 μ = μ) (h₀ : s₀.Follows μ s) :
    s₀.Follows μ (State.nackNode s node) := by
  refine State.Follows.lift hm h₀ ?_
  have h := State.Follows.refl 33554432 s
  unfold State.nackNode
  repeat' first
    | (with_reducible assumption)
    | ((with_reducible apply State.Follows.keep) <;> first | exact trivial | exact rfl | skip)

theorem State.loseReserve_follows {μ : Nat} {s₀ : State} {s : State} {n : Nat} (hm : Nat.lor 18446744073709551616 μ = μ) (h₀ : s₀.Follows μ s) :
    s₀.Follows μ (State.loseReserve s n) := by
  refine State.Follows.lift hm h₀ ?_
  have h := State.Follows.refl 18446744073709551616 s
  unfold State.loseReserve
  repeat' first
    | (with_reducible assumption)
    | split
    | ((with_reducible apply State.Follows.keep) <;> first | exact trivial | exact rfl | skip)

theorem State.coreRetire_follows {μ : Nat} {s₀ : State} {s : State} {n cause path pc t : Nat} (hm : Nat.lor 572023678624996819736 μ = μ) (h₀ : s₀.Follows μ s) :
    s₀.Follows μ (State.coreRetire s n cause path pc t) := by
  refine State.Follows.lift hm h₀ ?_
  have h := State.Follows.refl 572023678624996819736 s
  unfold State.coreRetire
  repeat' first
    | (with_reducible assumption)
    | (exact (rfl : Nat.lor _ _ = _))
    | (with_reducible refine State.abortTest_follows ?_ ?_)
    | (with_reducible refine State.dropStrikes_follows ?_ ?_)
    | (with_reducible refine State.faultStall_follows ?_ ?_)
    | (with_reducible refine State.logEvent_follows ?_ ?_)
    | (with_reducible refine State.loseReserve_follows ?_ ?_)
    | (with_reducible refine State.nackNode_follows ?_ ?_)
    | (with_reducible refine State.updCore_follows ?_ ?_)
    | split
    | dsimp only
    | ((with_reducible apply State.Follows.keep) <;> first | exact trivial | exact rfl | skip)

theorem State.updCal_follows {μ : Nat} {s₀ : State} {s : State} {n : Nat} {f : Cal → Cal} (hm : Nat.lor 262144 μ = μ) (h₀ : s₀.Follows μ s) :
    s₀.Follows μ (State.updCal s n f) := by
  refine State.Follows.lift hm h₀ ?_
  have h := State.Follows.refl 262144 s
  unfold State.updCal
  repeat' first
    | (with_reducible assumption)
    | ((with_reducible apply State.Follows.keep) <;> first | exact trivial | exact rfl | skip)

theorem State.enterCheckOnly_follows {μ : Nat} {s₀ : State} {s : State} {n cause : Nat} (hm : Nat.lor 153122387330859800 μ = μ) (h₀ : s₀.Follows μ s) :
    s₀.Follows μ (State.enterCheckOnly s n cause) := by
  refine State.Follows.lift hm h₀ ?_
  have h := State.Follows.refl 153122387330859800 s
  unfold State.enterCheckOnly
  repeat' first
    | (with_reducible assumption)
    | (exact (rfl : Nat.lor _ _ = _))
    | (with_reducible refine State.logEvent_follows ?_ ?_)
    | (with_reducible refine State.updCal_follows ?_ ?_)
    | (with_reducible apply State.Follows.ite)

theorem State.endStand_follows {μ : Nat} {s₀ : State} {s : State} {n p : Nat} (hm : Nat.lor 32768 μ = μ) (h₀ : s₀.Follows μ s) :
    s₀.Follows μ (State.endStand s n p) := by
  refine State.Follows.lift hm h₀ ?_
  have h := State.Follows.refl 32768 s
  unfold State.endStand
  repeat' first
    | (with_reducible assumption)
    | (exact (rfl : Nat.lor _ _ = _))
    | (with_reducible refine State.updArr_follows ?_ ?_)

theorem State.abandonTurn_follows {μ : Nat} {s₀ : State} {s : State} {n cause : Nat} (hm : Nat.lor 153122387330859800 μ = μ) (h₀ : s₀.Follows μ s) :
    s₀.Follows μ (State.abandonTurn s n cause) := by
  refine State.Follows.lift hm h₀ ?_
  have h := State.Follows.refl 153122387330859800 s
  unfold State.abandonTurn
  repeat' first
    | (with_reducible assumption)
    | (exact (rfl : Nat.lor _ _ = _))
    | (with_reducible refine State.count_follows ?_ ?_)
    | (with_reducible refine State.logEvent_follows ?_ ?_)
    | (with_reducible refine State.updCal_follows ?_ ?_)

theorem State.yieldSpare_follows {μ : Nat} {s₀ : State} {s : State} {n : Nat} (hm : Nat.lor 153122387330892568 μ = μ) (h₀ : s₀.Follows μ s) :
    s₀.Follows μ (State.yieldSpare s n) := by
  refine State.Follows.lift hm h₀ ?_
  have h := State.Follows.refl 153122387330892568 s
  unfold State.yieldSpare
  repeat' first
    | (with_reducible assumption)
    | (exact (rfl : Nat.lor _ _ = _))
    | (with_reducible refine State.abandonTurn_follows ?_ ?_)
    | (with_reducible refine State.endStand_follows ?_ ?_)
    | (with_reducible refine State.updArr_follows ?_ ?_)
    | (with_reducible apply State.Follows.ite)

theorem State.endArrTakeover_follows {μ : Nat} {s₀ : State} {s : State} {n : Nat} (hm : Nat.lor 73940098682168804120 μ = μ) (h₀ : s₀.Follows μ s) :
    s₀.Follows μ (State.endArrTakeover s n) := by
  refine State.Follows.lift hm h₀ ?_
  have h := State.Follows.refl 73940098682168804120 s
  unfold State.endArrTakeover
  repeat' first
    | (with_reducible assumption)
    | (exact (rfl : Nat.lor _ _ = _))
    | (with_reducible refine State.logEvent_follows ?_ ?_)
    | (with_reducible refine State.regMax_follows ?_ ?_)
    | split
    | ((with_reducible apply State.Follows.keep) <;> first | exact trivial | exact rfl | skip)

theorem State.arrayRetire_follows {μ : Nat} {s₀ : State} {s : State} {n a cause : Nat} (hm : Nat.lor 572023678624996819736 μ = μ) (h₀ : s₀.Follows μ s) :
    s₀.Follows μ (State.arrayRetire s n a cause) := by
  refine State.Follows.lift hm h₀ ?_
  have h := State.Follows.refl 572023678624996819736 s
  unfold State.arrayRetire
  repeat' first
    | (with_reducible assumption)
    | (exact (rfl : Nat.lor _ _ = _))
    | (with_reducible refine State.coreRetire_follows ?_ ?_)
    | (with_reducible refine State.count_follows ?_ ?_)
    | (with_reducible refine State.enterCheckOnly_follows ?_ ?_)
    | (with_reducible refine State.logEvent_follows ?_ ?_)
    | (with_reducible refine State.updArr_follows ?_ ?_)
    | (with_reducible refine State.updCal_follows ?_ ?_)
    | (with_reducible refine State.yieldSpare_follows ?_ ?_)
    | (with_reducible apply State.Follows.ite)
    | dsimp only
    | ((with_reducible apply State.Follows.keep) <;> first | exact trivial | exact rfl | skip)

theorem execFrontPlaneReady_follows {μ : Nat} {s₀ : State} {core : Nat} {sumsOk : Bool} {s : State} (hm : Nat.lor 572023678624996819736 μ = μ) (h₀ : s₀.Follows μ s) :
    s₀.Ends μ (execFrontPlaneReady core sumsOk s) := by
  refine State.Ends.lift hm h₀ ?_
  have h := State.Follows.refl 572023678624996819736 s
  unfold execFrontPlaneReady
  repeat' first
    | (with_reducible assumption)
    | (exact (rfl : Nat.lor _ _ = _))
    | (with_reducible refine State.coreRetire_follows ?_ ?_)
    | (with_reducible refine State.updArr_follows ?_ ?_)
    | (with_reducible apply State.Ends.next)
    | (with_reducible apply State.Ends.ite)
    | split
    | dsimp only
    | ((with_reducible apply State.Follows.keep) <;> first | exact trivial | exact rfl | skip)

theorem execBackPlaneReady_follows {μ : Nat} {s₀ : State} {core : Nat} {sumsOk : Bool} {s : State} (hm : Nat.lor 572023678624996819736 μ = μ) (h₀ : s₀.Follows μ s) :
    s₀.Ends μ (execBackPlaneReady core sumsOk s) := by
  refine State.Ends.lift hm h₀ ?_
  have h := State.Follows.refl 572023678624996819736 s
  unfold execBackPlaneReady
  repeat' first
    | (with_reducible assumption)
    | (exact (rfl : Nat.lor _ _ = _))
    | (with_reducible refine State.coreRetire_follows ?_ ?_)
    | (with_reducible refine State.endArrTakeover_follows ?_ ?_)
    | (with_reducible refine State.updArr_follows ?_ ?_)
    | (with_reducible apply State.Ends.next)
    | (with_reducible apply State.Ends.ite)
    | split
    | ((with_reducible apply State.Follows.keep) <;> first | exact trivial | exact rfl | skip)

end Sys2Proof.Machine
end

