-- ==== Sys2Proof/Laws/FollowsArrays.lean ====
section
/-!
SUPPORT. The operations of Machine/Arrays.lean keep the relation `State.Follows`. The number in a lemma is the mask of the
components that its operation may change.
-/
namespace Sys2Proof.Machine
open Sys2Proof

theorem State.arrCount_follows {μ : Nat} {s₀ : State} {s : State} {n a off k : Nat} {wide : Bool} (hm : Nat.lor 16 μ = μ) (h₀ : s₀.Follows μ s) :
    s₀.Follows μ (State.arrCount s n a off k wide) := by
  refine State.Follows.lift hm h₀ ?_
  have h := State.Follows.refl 16 s
  unfold State.arrCount
  repeat' first
    | (with_reducible assumption)
    | (exact (rfl : Nat.lor _ _ = _))
    | (with_reducible refine State.count64By_follows ?_ ?_)
    | (with_reducible refine State.countBy_follows ?_ ?_)
    | (with_reducible apply State.Follows.ite)

theorem State.arrBoth_follows {μ : Nat} {s₀ : State} {s : State} {n a off core k : Nat} {wide : Bool} (hm : Nat.lor 16 μ = μ) (h₀ : s₀.Follows μ s) :
    s₀.Follows μ (State.arrBoth s n a off core k wide) := by
  refine State.Follows.lift hm h₀ ?_
  have h := State.Follows.refl 16 s
  unfold State.arrBoth
  repeat' first
    | (with_reducible assumption)
    | (exact (rfl : Nat.lor _ _ = _))
    | (with_reducible refine State.arrCount_follows ?_ ?_)

theorem State.fmtAdd_follows {μ : Nat} {s₀ : State} {s : State} {n : Nat} {c : FmtCount} (hm : Nat.lor 65536 μ = μ) (h₀ : s₀.Follows μ s) :
    s₀.Follows μ (State.fmtAdd s n c) := by
  refine State.Follows.lift hm h₀ ?_
  have h := State.Follows.refl 65536 s
  unfold State.fmtAdd
  repeat' first
    | (with_reducible assumption)
    | split
    | ((with_reducible apply State.Follows.keep) <;> first | exact trivial | exact rfl | skip)

theorem State.deliver_follows {μ : Nat} {s₀ s : State} {fuel n a : Nat} (hm : Nat.lor 2129920 μ = μ) (h : s₀.Follows μ s) :
    s₀.Follows μ (State.deliver fuel s n a) := by
  induction fuel generalizing s with
  | zero => exact h
  | succ k ih =>
    unfold State.deliver
    dsimp only
    split
    · exact h
    · split
      · exact h
      · exact ih (State.updCore_follows (lor_mid rfl hm) (State.updArr_follows (lor_mid rfl hm) h))

theorem State.deliverAll_follows {μ : Nat} {s₀ : State} {s : State} {n a : Nat} (hm : Nat.lor 2129920 μ = μ) (h₀ : s₀.Follows μ s) :
    s₀.Follows μ (State.deliverAll s n a) := by
  refine State.Follows.lift hm h₀ ?_
  have h := State.Follows.refl 2129920 s
  unfold State.deliverAll
  repeat' first
    | (with_reducible assumption)
    | (exact (rfl : Nat.lor _ _ = _))
    | (with_reducible refine State.deliver_follows ?_ ?_)

theorem State.updStrike_follows {μ : Nat} {s₀ : State} {s : State} {n a flight slice : Nat} {f : Strike → Strike} (hm : Nat.lor 32768 μ = μ) (h₀ : s₀.Follows μ s) :
    s₀.Follows μ (State.updStrike s n a flight slice f) := by
  refine State.Follows.lift hm h₀ ?_
  have h := State.Follows.refl 32768 s
  unfold State.updStrike
  repeat' first
    | (with_reducible assumption)
    | (exact (rfl : Nat.lor _ _ = _))
    | (with_reducible refine State.updArr_follows ?_ ?_)

theorem State.takeComparison_follows {μ : Nat} {s₀ : State} {s : State} {n a b : Nat} {codes : List Int} (hm : Nat.lor 262144 μ = μ) (h₀ : s₀.Follows μ s) :
    s₀.Follows μ (State.takeComparison s n a b codes) := by
  refine State.Follows.lift hm h₀ ?_
  have h := State.Follows.refl 262144 s
  unfold State.takeComparison
  repeat' first
    | (with_reducible assumption)
    | (exact (rfl : Nat.lor _ _ = _))
    | (with_reducible refine State.updCal_follows ?_ ?_)
    | (with_reducible apply State.Follows.ite)

theorem State.latchUrgent_follows {μ : Nat} {s₀ : State} {s : State} {n a : Nat} {d : Drive} {rest : List Drive} (hm : Nat.lor 2195472 μ = μ) (h₀ : s₀.Follows μ s) :
    s₀.Follows μ (State.latchUrgent s n a d rest) := by
  refine State.Follows.lift hm h₀ ?_
  have h := State.Follows.refl 2195472 s
  unfold State.latchUrgent
  repeat' first
    | (with_reducible assumption)
    | (exact (rfl : Nat.lor _ _ = _))
    | (with_reducible refine State.arrBoth_follows ?_ ?_)
    | (with_reducible refine State.arrCount_follows ?_ ?_)
    | (with_reducible refine State.deliverAll_follows ?_ ?_)
    | (with_reducible refine State.fmtAdd_follows ?_ ?_)
    | (with_reducible refine State.updArr_follows ?_ ?_)
    | (with_reducible refine State.updStrike_follows ?_ ?_)
    | (with_reducible apply State.Follows.ite)
    | split

theorem State.latchOrig_follows {μ : Nat} {s₀ : State} {s : State} {n a : Nat} {k : Strike} {rest : List Strike} (hm : Nat.lor 153122387333055256 μ = μ) (h₀ : s₀.Follows μ s) :
    s₀.Follows μ (State.latchOrig s n a k rest) := by
  refine State.Follows.lift hm h₀ ?_
  have h := State.Follows.refl 153122387333055256 s
  unfold State.latchOrig
  repeat' first
    | (with_reducible assumption)
    | (exact (rfl : Nat.lor _ _ = _))
    | (with_reducible refine State.arrBoth_follows ?_ ?_)
    | (with_reducible refine State.arrCount_follows ?_ ?_)
    | (with_reducible refine State.deliverAll_follows ?_ ?_)
    | (with_reducible refine State.fmtAdd_follows ?_ ?_)
    | (with_reducible refine State.fmtNans_follows ?_ ?_)
    | (with_reducible refine State.logLimitedFor_follows ?_ ?_)
    | (with_reducible refine State.takeComparison_follows ?_ ?_)
    | (with_reducible refine State.updArr_follows ?_ ?_)
    | (with_reducible apply State.Follows.ite)

theorem execStrikeLatch_follows {μ : Nat} {s₀ : State} {core pos : Nat} {s : State} (hm : Nat.lor 153122387333055256 μ = μ) (h₀ : s₀.Follows μ s) :
    s₀.Ends μ (execStrikeLatch core pos s) := by
  refine State.Ends.lift hm h₀ ?_
  have h := State.Follows.refl 153122387333055256 s
  unfold execStrikeLatch
  repeat' first
    | (with_reducible assumption)
    | (exact (rfl : Nat.lor _ _ = _))
    | (with_reducible refine State.latchOrig_follows ?_ ?_)
    | (with_reducible refine State.latchUrgent_follows ?_ ?_)
    | (with_reducible apply State.Ends.next)
    | (with_reducible apply State.Ends.ite)
    | split

theorem State.sampleStrike_follows {μ : Nat} {s₀ : State} {s : State} {n a : Nat} {d : Drive} {conv : List (List Nat)} {v : Converted} (hm : Nat.lor 32768 μ = μ) (h₀ : s₀.Follows μ s) :
    s₀.Follows μ (State.sampleStrike s n a d conv v) := by
  refine State.Follows.lift hm h₀ ?_
  have h := State.Follows.refl 32768 s
  unfold State.sampleStrike
  repeat' first
    | (with_reducible assumption)
    | (exact (rfl : Nat.lor _ _ = _))
    | (with_reducible refine State.updArr_follows ?_ ?_)
    | (with_reducible apply State.Follows.ite)

theorem execStrikeBoundary_follows {μ : Nat} {s₀ : State} {core pos : Nat} {conv : List (List Nat)} {overs : List (Nat × Nat)} {s : State} (hm : Nat.lor 2195472 μ = μ) (h₀ : s₀.Follows μ s) :
    s₀.Ends μ (execStrikeBoundary core pos conv overs s) := by
  refine State.Ends.lift hm h₀ ?_
  have h := State.Follows.refl 2195472 s
  unfold execStrikeBoundary
  repeat' first
    | (with_reducible assumption)
    | (exact (rfl : Nat.lor _ _ = _))
    | (with_reducible refine State.arrBoth_follows ?_ ?_)
    | (with_reducible refine State.arrCount_follows ?_ ?_)
    | (with_reducible refine State.deliverAll_follows ?_ ?_)
    | (with_reducible refine State.fmtAdd_follows ?_ ?_)
    | (with_reducible refine State.sampleStrike_follows ?_ ?_)
    | (with_reducible refine State.updArr_follows ?_ ?_)
    | (with_reducible refine State.updStrike_follows ?_ ?_)
    | (with_reducible apply State.Ends.next)
    | (with_reducible apply State.Follows.ite)
    | split
    | dsimp only

theorem execLaneCorrectionReady_follows {μ : Nat} {s₀ : State} {core pos : Nat} {s : State} (hm : Nat.lor 2129920 μ = μ) (h₀ : s₀.Follows μ s) :
    s₀.Ends μ (execLaneCorrectionReady core pos s) := by
  refine State.Ends.lift hm h₀ ?_
  have h := State.Follows.refl 2129920 s
  unfold execLaneCorrectionReady
  repeat' first
    | (with_reducible assumption)
    | (exact (rfl : Nat.lor _ _ = _))
    | (with_reducible refine State.deliverAll_follows ?_ ?_)
    | (with_reducible refine State.updStrike_follows ?_ ?_)
    | (with_reducible apply State.Ends.next)
    | split
    | dsimp only

theorem execFallbackComplete_follows {μ : Nat} {s₀ : State} {core pos : Nat} {s : State} (hm : Nat.lor 2129936 μ = μ) (h₀ : s₀.Follows μ s) :
    s₀.Ends μ (execFallbackComplete core pos s) := by
  refine State.Ends.lift hm h₀ ?_
  have h := State.Follows.refl 2129936 s
  unfold execFallbackComplete
  repeat' first
    | (with_reducible assumption)
    | (exact (rfl : Nat.lor _ _ = _))
    | (with_reducible refine State.arrCount_follows ?_ ?_)
    | (with_reducible refine State.deliverAll_follows ?_ ?_)
    | (with_reducible refine State.updStrike_follows ?_ ?_)
    | (with_reducible apply State.Ends.next)
    | split
    | dsimp only

theorem execGroupResultWrite_follows {μ : Nat} {s₀ : State} {core : Nat} {s : State} (hm : Nat.lor 590448932746046735128 μ = μ) (h₀ : s₀.Follows μ s) :
    s₀.Ends μ (execGroupResultWrite core s) := by
  refine State.Ends.lift hm h₀ ?_
  have h := State.Follows.refl 590448932746046735128 s
  unfold execGroupResultWrite
  repeat' first
    | (with_reducible assumption)
    | (exact (rfl : Nat.lor _ _ = _))
    | (with_reducible refine State.fmtClamps_follows ?_ ?_)
    | (with_reducible refine State.retireWake_follows ?_ ?_)
    | (with_reducible refine State.updCore_follows ?_ ?_)
    | (with_reducible apply State.Ends.next)
    | split
    | dsimp only

theorem execGroupCompare_follows {μ : Nat} {s₀ : State} {core : Nat} {s : State} (hm : Nat.lor 2097168 μ = μ) (h₀ : s₀.Follows μ s) :
    s₀.Ends μ (execGroupCompare core s) := by
  refine State.Ends.lift hm h₀ ?_
  have h := State.Follows.refl 2097168 s
  unfold execGroupCompare
  repeat' first
    | (with_reducible assumption)
    | (exact (rfl : Nat.lor _ _ = _))
    | (with_reducible refine State.count_follows ?_ ?_)
    | (with_reducible refine State.count64_follows ?_ ?_)
    | (with_reducible refine State.updCore_follows ?_ ?_)
    | (with_reducible apply State.Ends.next)
    | (with_reducible apply State.Ends.ite)
    | split

theorem State.unresolved_follows {μ : Nat} {s₀ : State} {s : State} {p : Nat} {layerKind : Bool} (hm : Nat.lor 153122387332694808 μ = μ) (h₀ : s₀.Follows μ s) :
    s₀.Follows μ (State.unresolved s p layerKind) := by
  refine State.Follows.lift hm h₀ ?_
  have h := State.Follows.refl 153122387332694808 s
  unfold State.unresolved
  repeat' first
    | (with_reducible assumption)
    | (exact (rfl : Nat.lor _ _ = _))
    | (with_reducible refine State.logEvent_follows ?_ ?_)
    | (with_reducible refine State.updCore_follows ?_ ?_)

theorem execArbitrationComplete_follows {μ : Nat} {s₀ : State} {primary missP missS : Nat} {s : State} (hm : Nat.lor 572023678624996819736 μ = μ) (h₀ : s₀.Follows μ s) :
    s₀.Ends μ (execArbitrationComplete primary missP missS s) := by
  refine State.Ends.lift hm h₀ ?_
  have h := State.Follows.refl 572023678624996819736 s
  unfold execArbitrationComplete
  repeat' first
    | (with_reducible assumption)
    | (exact (rfl : Nat.lor _ _ = _))
    | (with_reducible refine State.coreRetire_follows ?_ ?_)
    | (with_reducible refine State.logEvent_follows ?_ ?_)
    | (with_reducible refine State.unresolved_follows ?_ ?_)
    | (with_reducible refine State.updCore_follows ?_ ?_)
    | (with_reducible apply State.Ends.next)
    | (with_reducible apply State.Ends.ite)

theorem State.updBack_follows {μ : Nat} {s₀ : State} {s : State} {n a : Nat} {f : Plane → Plane} (hm : Nat.lor 32768 μ = μ) (h₀ : s₀.Follows μ s) :
    s₀.Follows μ (State.updBack s n a f) := by
  refine State.Follows.lift hm h₀ ?_
  have h := State.Follows.refl 32768 s
  unfold State.updBack
  repeat' first
    | (with_reducible assumption)
    | (exact (rfl : Nat.lor _ _ = _))
    | (with_reducible refine State.updArr_follows ?_ ?_)
    | split
    | dsimp only

theorem execPlaneLoadStart_follows {μ : Nat} {s₀ : State} {core pos : Nat} {s : State} (hm : Nat.lor 32768 μ = μ) (h₀ : s₀.Follows μ s) :
    s₀.Ends μ (execPlaneLoadStart core pos s) := by
  refine State.Ends.lift hm h₀ ?_
  have h := State.Follows.refl 32768 s
  unfold execPlaneLoadStart
  repeat' first
    | (with_reducible assumption)
    | (exact (rfl : Nat.lor _ _ = _))
    | (with_reducible refine State.updArr_follows ?_ ?_)
    | (with_reducible refine State.updBack_follows ?_ ?_)
    | (with_reducible apply State.Ends.next)
    | (with_reducible apply State.Ends.ite)
    | split

theorem execPlaneRowWritten_follows {μ : Nat} {s₀ : State} {core pos : Nat} {parityOk : Bool} {s : State} (hm : Nat.lor 572023678624996819736 μ = μ) (h₀ : s₀.Follows μ s) :
    s₀.Ends μ (execPlaneRowWritten core pos parityOk s) := by
  refine State.Ends.lift hm h₀ ?_
  have h := State.Follows.refl 572023678624996819736 s
  unfold execPlaneRowWritten
  repeat' first
    | (with_reducible assumption)
    | (exact (rfl : Nat.lor _ _ = _))
    | (with_reducible refine State.arrCount_follows ?_ ?_)
    | (with_reducible refine State.arrayRetire_follows ?_ ?_)
    | (with_reducible refine State.logEvent_follows ?_ ?_)
    | (with_reducible refine State.updArr_follows ?_ ?_)
    | (with_reducible refine State.updBack_follows ?_ ?_)
    | (with_reducible apply State.Ends.next)
    | (with_reducible apply State.Ends.ite)
    | split
    | dsimp only

theorem State.xferDone_follows {μ : Nat} {s₀ : State} {s : State} {n flight : Nat} {evc : Option Nat} (hm : Nat.lor 2097152 μ = μ) (h₀ : s₀.Follows μ s) :
    s₀.Follows μ (State.xferDone s n flight evc) := by
  refine State.Follows.lift hm h₀ ?_
  have h := State.Follows.refl 2097152 s
  unfold State.xferDone
  repeat' first
    | (with_reducible assumption)
    | (exact (rfl : Nat.lor _ _ = _))
    | (with_reducible refine State.updCore_follows ?_ ?_)

theorem execPlaneLoadComplete_follows {μ : Nat} {s₀ : State} {core pos : Nat} {s : State} (hm : Nat.lor 664235909040884974360 μ = μ) (h₀ : s₀.Follows μ s) :
    s₀.Ends μ (execPlaneLoadComplete core pos s) := by
  refine State.Ends.lift hm h₀ ?_
  have h := State.Follows.refl 664235909040884974360 s
  unfold execPlaneLoadComplete
  repeat' first
    | (with_reducible assumption)
    | (exact (rfl : Nat.lor _ _ = _))
    | (with_reducible refine State.endArrTakeover_follows ?_ ?_)
    | (with_reducible refine State.retireWake_follows ?_ ?_)
    | (with_reducible refine State.updArr_follows ?_ ?_)
    | (with_reducible refine State.updBack_follows ?_ ?_)
    | (with_reducible refine State.xferDone_follows ?_ ?_)
    | (with_reducible apply State.Ends.next)
    | (with_reducible apply State.Ends.ite)
    | split
    | dsimp only

theorem State.toFront_follows {μ : Nat} {s₀ : State} {s : State} {n a : Nat} (hm : Nat.lor 262144 μ = μ) (h₀ : s₀.Follows μ s) :
    s₀.Follows μ (State.toFront s n a) := by
  refine State.Follows.lift hm h₀ ?_
  have h := State.Follows.refl 262144 s
  unfold State.toFront
  repeat' first
    | (with_reducible assumption)
    | (exact (rfl : Nat.lor _ _ = _))
    | (with_reducible refine State.updCal_follows ?_ ?_)
    | (with_reducible apply State.Follows.ite)

theorem State.checkOnlyFit_follows {μ : Nat} {s₀ : State} {s : State} {n a : Nat} (hm : Nat.lor 1162319488983702471448 μ = μ) (h₀ : s₀.Follows μ s) :
    s₀.Follows μ (State.checkOnlyFit s n a) := by
  refine State.Follows.lift hm h₀ ?_
  have h := State.Follows.refl 1162319488983702471448 s
  unfold State.checkOnlyFit
  repeat' first
    | (with_reducible assumption)
    | (exact (rfl : Nat.lor _ _ = _))
    | (with_reducible refine State.advise_follows ?_ ?_)
    | (with_reducible refine State.arrCount_follows ?_ ?_)
    | (with_reducible refine State.arrayRetire_follows ?_ ?_)
    | (with_reducible refine State.updArr_follows ?_ ?_)
    | (with_reducible apply State.Follows.ite)

theorem execTileCheckComplete_follows {μ : Nat} {s₀ : State} {core pos : Nat} {s : State} (hm : Nat.lor 1162319488983702536984 μ = μ) (h₀ : s₀.Follows μ s) :
    s₀.Ends μ (execTileCheckComplete core pos s) := by
  refine State.Ends.lift hm h₀ ?_
  have h := State.Follows.refl 1162319488983702536984 s
  unfold execTileCheckComplete
  repeat' first
    | (with_reducible assumption)
    | (exact (rfl : Nat.lor _ _ = _))
    | (with_reducible refine State.advise_follows ?_ ?_)
    | (with_reducible refine State.arrBoth_follows ?_ ?_)
    | (with_reducible refine State.arrCount_follows ?_ ?_)
    | (with_reducible refine State.checkOnlyFit_follows ?_ ?_)
    | (with_reducible refine State.fmtAdd_follows ?_ ?_)
    | (with_reducible refine State.logLimited_follows ?_ ?_)
    | (with_reducible refine State.toFront_follows ?_ ?_)
    | (with_reducible refine State.updAdvice_follows ?_ ?_)
    | (with_reducible refine State.updArr_follows ?_ ?_)
    | (with_reducible refine State.updCore_follows ?_ ?_)
    | (with_reducible apply State.Ends.next)
    | (with_reducible apply State.Ends.ite)
    | (with_reducible apply State.Follows.ite)
    | split
    | dsimp only

theorem execArrayTestReadDone_follows {μ : Nat} {s₀ : State} {core pos : Nat} {s : State} (hm : Nat.lor 32768 μ = μ) (h₀ : s₀.Follows μ s) :
    s₀.Ends μ (execArrayTestReadDone core pos s) := by
  refine State.Ends.lift hm h₀ ?_
  have h := State.Follows.refl 32768 s
  unfold execArrayTestReadDone
  repeat' first
    | (with_reducible assumption)
    | (exact (rfl : Nat.lor _ _ = _))
    | (with_reducible refine State.updArr_follows ?_ ?_)
    | (with_reducible apply State.Ends.next)
    | split
    | dsimp only

end Sys2Proof.Machine
end

