-- ==== Sys2Proof/Laws/FollowsWeights.lean ====
section
/-!
SUPPORT. The operations of Machine/Weights.lean keep the relation `State.Follows`. The number in a lemma is the mask of the
components that its operation may change.
-/
namespace Sys2Proof.Machine
open Sys2Proof

theorem State.wldStatus_follows {μ : Nat} {s₀ : State} {s : State} {cmd k i status : Nat} (hm : Nat.lor 153125685865480984 μ = μ) (h₀ : s₀.Follows μ s) :
    s₀.Follows μ (State.wldStatus s cmd k i status) := by
  refine State.Follows.lift hm h₀ ?_
  have h := State.Follows.refl 153125685865480984 s
  unfold State.wldStatus
  repeat' first
    | (with_reducible assumption)
    | (exact (rfl : Nat.lor _ _ = _))
    | (with_reducible refine State.logEvent_follows ?_ ?_)
    | (with_reducible refine State.updWInst_follows ?_ ?_)
    | (with_reducible refine State.updWSlot_follows ?_ ?_)
    | (with_reducible apply State.Follows.ite)

theorem State.wldNow_follows {μ : Nat} {s₀ : State} {s : State} {cmd k i status : Nat} (hm : Nat.lor 153125685865480984 μ = μ) (h₀ : s₀.Follows μ s) :
    s₀.Follows μ (State.wldNow s cmd k i status).1 := by
  refine State.Follows.lift hm h₀ ?_
  have h := State.Follows.refl 153125685865480984 s
  unfold State.wldNow
  repeat' first
    | (with_reducible assumption)
    | (exact (rfl : Nat.lor _ _ = _))
    | (with_reducible refine State.wldStatus_follows ?_ ?_)

theorem State.wldDone_follows {μ : Nat} {s₀ : State} {s : State} {cmd k i status : Nat} (hm : Nat.lor 171140084374962968 μ = μ) (h₀ : s₀.Follows μ s) :
    s₀.Follows μ (State.wldDone s cmd k i status) := by
  refine State.Follows.lift hm h₀ ?_
  have h := State.Follows.refl 171140084374962968 s
  unfold State.wldDone
  repeat' first
    | (with_reducible assumption)
    | (exact (rfl : Nat.lor _ _ = _))
    | (with_reducible refine State.finish_follows ?_ ?_)
    | (with_reducible refine State.wldStatus_follows ?_ ?_)

theorem State.readPackage_follows {μ : Nat} {s₀ : State} {s : State} {k off len : Nat} (hm : Nat.lor 8 μ = μ) (h₀ : s₀.Follows μ s) :
    s₀.Follows μ (State.readPackage s k off len) := by
  refine State.Follows.lift hm h₀ ?_
  have h := State.Follows.refl 8 s
  unfold State.readPackage
  repeat' first
    | (with_reducible assumption)
    | (exact (rfl : Nat.lor _ _ = _))
    | (with_reducible refine State.emit_follows ?_ ?_)
    | split

theorem State.wldBind_follows {μ : Nat} {s₀ : State} {s : State} {k : Nat} (hm : Nat.lor 153125685865480984 μ = μ) (h₀ : s₀.Follows μ s) :
    s₀.Follows μ (State.wldBind s k).1 := by
  refine State.Follows.lift hm h₀ ?_
  have h := State.Follows.refl 153125685865480984 s
  unfold State.wldBind
  repeat' first
    | (with_reducible assumption)
    | (exact (rfl : Nat.lor _ _ = _))
    | (with_reducible refine State.readPackage_follows ?_ ?_)
    | (with_reducible refine State.updWSlot_follows ?_ ?_)
    | (with_reducible refine State.wldNow_follows ?_ ?_)
    | (with_reducible apply State.Follows.ite_fst)
    | ((with_reducible apply State.Follows.keep) <;> first | exact trivial | exact rfl | skip)

theorem State.wldUnbind_follows {μ : Nat} {s₀ : State} {s : State} {k : Nat} (hm : Nat.lor 153125685865480984 μ = μ) (h₀ : s₀.Follows μ s) :
    s₀.Follows μ (State.wldUnbind s k).1 := by
  refine State.Follows.lift hm h₀ ?_
  have h := State.Follows.refl 153125685865480984 s
  unfold State.wldUnbind
  repeat' first
    | (with_reducible assumption)
    | (exact (rfl : Nat.lor _ _ = _))
    | (with_reducible refine State.updWSlot_follows ?_ ?_)
    | (with_reducible refine State.wldNow_follows ?_ ?_)
    | (with_reducible apply State.Follows.ite_fst)

theorem State.bindFailed_follows {μ : Nat} {s₀ : State} {s : State} {k status : Nat} (hm : Nat.lor 171140084374962968 μ = μ) (h₀ : s₀.Follows μ s) :
    s₀.Follows μ (State.bindFailed s k status) := by
  refine State.Follows.lift hm h₀ ?_
  have h := State.Follows.refl 171140084374962968 s
  unfold State.bindFailed
  repeat' first
    | (with_reducible assumption)
    | (exact (rfl : Nat.lor _ _ = _))
    | (with_reducible refine State.updWSlot_follows ?_ ?_)
    | (with_reducible refine State.wldDone_follows ?_ ?_)

theorem execBindFetchComplete_follows {μ : Nat} {s₀ : State} {slot : Nat} {error : Bool} {header : List Byte} {sections : List (List Byte)} {s : State} (hm : Nat.lor 171140084374962968 μ = μ) (h₀ : s₀.Follows μ s) :
    s₀.Ends μ (execBindFetchComplete slot error header sections s) := by
  refine State.Ends.lift hm h₀ ?_
  have h := State.Follows.refl 171140084374962968 s
  unfold execBindFetchComplete
  repeat' first
    | (with_reducible assumption)
    | (exact (rfl : Nat.lor _ _ = _))
    | (with_reducible refine State.bindFailed_follows ?_ ?_)
    | (with_reducible refine State.logEvent_follows ?_ ?_)
    | (with_reducible refine State.updWSlot_follows ?_ ?_)
    | (with_reducible refine State.wldDone_follows ?_ ?_)
    | (with_reducible apply State.Ends.next)
    | (with_reducible apply State.Ends.ite)
    | split

theorem execBindFetchTimeout_follows {μ : Nat} {s₀ : State} {slot : Nat} {s : State} (hm : Nat.lor 171140084374962968 μ = μ) (h₀ : s₀.Follows μ s) :
    s₀.Ends μ (execBindFetchTimeout slot s) := by
  refine State.Ends.lift hm h₀ ?_
  have h := State.Follows.refl 171140084374962968 s
  unfold execBindFetchTimeout
  repeat' first
    | (with_reducible assumption)
    | (exact (rfl : Nat.lor _ _ = _))
    | (with_reducible refine State.bindFailed_follows ?_ ?_)
    | (with_reducible apply State.Ends.next)
    | (with_reducible apply State.Follows.ite)

theorem State.keyMissing_follows {μ : Nat} {s₀ : State} {s : State} {k st : Nat} (hm : Nat.lor 153122387330597656 μ = μ) (h₀ : s₀.Follows μ s) :
    s₀.Follows μ (State.keyMissing s k st) := by
  refine State.Follows.lift hm h₀ ?_
  have h := State.Follows.refl 153122387330597656 s
  unfold State.keyMissing
  repeat' first
    | (with_reducible assumption)
    | (exact (rfl : Nat.lor _ _ = _))
    | (with_reducible refine State.logEvent_follows ?_ ?_)
    | (with_reducible apply State.Follows.ite)

theorem State.startLoad_follows {μ : Nat} {s₀ : State} {s : State} {k i cause : Nat} (hm : Nat.lor 153126785377108760 μ = μ) (h₀ : s₀.Follows μ s) :
    s₀.Follows μ (State.startLoad s k i cause).1 := by
  refine State.Follows.lift hm h₀ ?_
  have h := State.Follows.refl 153126785377108760 s
  unfold State.startLoad
  repeat' first
    | (with_reducible assumption)
    | (exact (rfl : Nat.lor _ _ = _))
    | (with_reducible refine State.keyMissing_follows ?_ ?_)
    | (with_reducible apply State.Follows.ite_fst)
    | split
    | dsimp only
    | ((with_reducible apply State.Follows.keep) <;> first | exact trivial | exact rfl | skip)

theorem State.wldLoad_follows {μ : Nat} {s₀ : State} {s : State} {k i : Nat} (hm : Nat.lor 153130083911992088 μ = μ) (h₀ : s₀.Follows μ s) :
    s₀.Follows μ (State.wldLoad s k i).1 := by
  refine State.Follows.lift hm h₀ ?_
  have h := State.Follows.refl 153130083911992088 s
  unfold State.wldLoad
  repeat' first
    | (with_reducible assumption)
    | (exact (rfl : Nat.lor _ _ = _))
    | (with_reducible refine State.startLoad_follows ?_ ?_)
    | (with_reducible refine State.wldNow_follows ?_ ?_)
    | (with_reducible refine State.Follows.of_fst (by assumption) ?_)
    | split

theorem State.releaseSet_follows {μ : Nat} {s₀ : State} {s : State} {i k cause : Nat} (hm : Nat.lor 153124586353853208 μ = μ) (h₀ : s₀.Follows μ s) :
    s₀.Follows μ (State.releaseSet s i k cause) := by
  refine State.Follows.lift hm h₀ ?_
  have h := State.Follows.refl 153124586353853208 s
  unfold State.releaseSet
  repeat' first
    | (with_reducible assumption)
    | (exact (rfl : Nat.lor _ _ = _))
    | (with_reducible refine State.count_follows ?_ ?_)
    | (with_reducible refine State.logEvent_follows ?_ ?_)
    | (with_reducible refine State.updWInst_follows ?_ ?_)
    | split

theorem State.endSwitch_follows {μ : Nat} {s₀ : State} {s : State} {i status : Nat} (hm : Nat.lor 171140084374962968 μ = μ) (h₀ : s₀.Follows μ s) :
    s₀.Follows μ (State.endSwitch s i status) := by
  refine State.Follows.lift hm h₀ ?_
  have h := State.Follows.refl 171140084374962968 s
  unfold State.endSwitch
  repeat' first
    | (with_reducible assumption)
    | (exact (rfl : Nat.lor _ _ = _))
    | (with_reducible refine State.updWInst_follows ?_ ?_)
    | (with_reducible refine State.wldDone_follows ?_ ?_)
    | split

theorem State.loadFailed_follows {μ : Nat} {s₀ : State} {s : State} {l : WLoad} {status : Nat} (hm : Nat.lor 171144482421474072 μ = μ) (h₀ : s₀.Follows μ s) :
    s₀.Follows μ (State.loadFailed s l status) := by
  refine State.Follows.lift hm h₀ ?_
  have h := State.Follows.refl 171144482421474072 s
  unfold State.loadFailed
  repeat' first
    | (with_reducible assumption)
    | (exact (rfl : Nat.lor _ _ = _))
    | (with_reducible refine State.endSwitch_follows ?_ ?_)
    | (with_reducible refine State.updWInst_follows ?_ ?_)
    | (with_reducible refine State.wldDone_follows ?_ ?_)
    | (with_reducible apply State.Follows.ite)
    | ((with_reducible apply State.Follows.keep) <;> first | exact trivial | exact rfl | skip)

theorem State.headRuns_follows {μ : Nat} {s₀ : State} {s : State} {l : WLoad} {q : Nat} (hm : Nat.lor 4398046511112 μ = μ) (h₀ : s₀.Follows μ s) :
    s₀.Follows μ (State.headRuns s l q) := by
  refine State.Follows.lift hm h₀ ?_
  have h := State.Follows.refl 4398046511112 s
  unfold State.headRuns
  repeat' first
    | (with_reducible assumption)
    | (exact (rfl : Nat.lor _ _ = _))
    | (with_reducible refine State.readPackage_follows ?_ ?_)
    | ((with_reducible apply State.Follows.keep) <;> first | exact trivial | exact rfl | skip)

theorem State.loadHead_follows {μ : Nat} {s₀ : State} {s : State} (hm : Nat.lor 171144482421474072 μ = μ) (h₀ : s₀.Follows μ s) :
    s₀.Follows μ (State.loadHead s) := by
  refine State.Follows.lift hm h₀ ?_
  have h := State.Follows.refl 171144482421474072 s
  unfold State.loadHead
  repeat' first
    | (with_reducible assumption)
    | (exact (rfl : Nat.lor _ _ = _))
    | (with_reducible refine State.headRuns_follows ?_ ?_)
    | (with_reducible refine State.keyMissing_follows ?_ ?_)
    | (with_reducible refine State.loadFailed_follows ?_ ?_)
    | (with_reducible refine State.releaseSet_follows ?_ ?_)
    | (with_reducible apply State.Follows.ite)
    | split
    | dsimp only

theorem execLoadQueueHead_follows {μ : Nat} {s₀ : State} {s : State} (hm : Nat.lor 171144482421474072 μ = μ) (h₀ : s₀.Follows μ s) :
    s₀.Ends μ (execLoadQueueHead s) := by
  refine State.Ends.lift hm h₀ ?_
  have h := State.Follows.refl 171144482421474072 s
  unfold execLoadQueueHead
  repeat' first
    | (with_reducible assumption)
    | (exact (rfl : Nat.lor _ _ = _))
    | (with_reducible refine State.loadHead_follows ?_ ?_)
    | (with_reducible apply State.Ends.next)

theorem State.loadFarFailed_follows {μ : Nat} {s₀ : State} {s : State} {l : WLoad} {cause : Nat} (hm : Nat.lor 171144482421474072 μ = μ) (h₀ : s₀.Follows μ s) :
    s₀.Follows μ (State.loadFarFailed s l cause) := by
  refine State.Follows.lift hm h₀ ?_
  have h := State.Follows.refl 171144482421474072 s
  unfold State.loadFarFailed
  repeat' first
    | (with_reducible assumption)
    | (exact (rfl : Nat.lor _ _ = _))
    | (with_reducible refine State.count_follows ?_ ?_)
    | (with_reducible refine State.loadFailed_follows ?_ ?_)
    | (with_reducible refine State.logEvent_follows ?_ ?_)

theorem State.placeRecord_follows {μ : Nat} {s₀ s t : State} {l : WLoad} {e : TileEnt} {raw plain : List Byte} (hm : Nat.lor 2147483672 μ = μ) (h₀ : s₀.Follows μ s)
    (k : s.placeRecord l e raw plain = some t) : s₀.Follows μ t := by
  refine State.Follows.lift hm h₀ ?_
  have h := State.Follows.refl 2147483672 s
  unfold State.placeRecord at k
  dsimp only at k
  split at k
  · rw [Option.map_eq_some_iff] at k
    obtain ⟨port, -, rfl⟩ := k
    exact State.count64By_follows rfl (State.emit_follows rfl h)
  · cases k
    exact State.updPed_follows rfl h

theorem execTileRecordFetched_follows {μ : Nat} {s₀ : State} {error : Bool} {bytes : List Byte} {farError : Option Bool} {s : State} (hm : Nat.lor 171144484568957720 μ = μ) (h₀ : s₀.Follows μ s) :
    s₀.Ends μ (execTileRecordFetched error bytes farError s) := by
  refine State.Ends.lift hm h₀ ?_
  have h := State.Follows.refl 171144484568957720 s
  unfold execTileRecordFetched
  repeat' first
    | (with_reducible assumption)
    | (exact (rfl : Nat.lor _ _ = _))
    | (with_reducible refine State.count64By_follows ?_ ?_)
    | (with_reducible refine State.keyMissing_follows ?_ ?_)
    | (with_reducible refine State.loadFailed_follows ?_ ?_)
    | (with_reducible refine State.loadFarFailed_follows ?_ ?_)
    | (with_reducible refine State.placeRecord_follows ?_ ?_ (by assumption))
    | (with_reducible refine State.readPackage_follows ?_ ?_)
    | (with_reducible apply State.Ends.next)
    | (with_reducible apply State.Ends.ite)
    | (with_reducible apply State.Follows.ite)
    | split
    | dsimp only
    | ((with_reducible apply State.Follows.keep) <;> first | exact trivial | exact rfl | skip)

theorem State.startThreads_follows {μ : Nat} {s₀ : State} {s : State} {n i : Nat} (hm : Nat.lor 2097152 μ = μ) (h₀ : s₀.Follows μ s) :
    s₀.Follows μ (State.startThreads s n i) := by
  refine State.Follows.lift hm h₀ ?_
  have h := State.Follows.refl 2097152 s
  unfold State.startThreads
  repeat' first
    | (with_reducible assumption)
    | (exact (rfl : Nat.lor _ _ = _))
    | (with_reducible refine State.updCore_follows ?_ ?_)

theorem State.loadCore_follows {μ : Nat} {s₀ : State} {s : State} {n : Nat} {p : Package} (hm : Nat.lor 2097152 μ = μ) (h₀ : s₀.Follows μ s) :
    s₀.Follows μ (State.loadCore s n p) := by
  refine State.Follows.lift hm h₀ ?_
  have h := State.Follows.refl 2097152 s
  unfold State.loadCore
  repeat' first
    | (with_reducible assumption)
    | (exact (rfl : Nat.lor _ _ = _))
    | (with_reducible refine State.updCore_follows ?_ ?_)

theorem State.loadEngines_follows {μ : Nat} {s₀ : State} {s : State} {i : Nat} {p : Package} (hm : Nat.lor 2147483648 μ = μ) (h₀ : s₀.Follows μ s) :
    s₀.Follows μ (State.loadEngines s i p) := by
  refine State.Follows.lift hm h₀ ?_
  have h := State.Follows.refl 2147483648 s
  unfold State.loadEngines
  repeat' first
    | (with_reducible assumption)
    | (exact (rfl : Nat.lor _ _ = _))
    | (with_reducible refine State.updPed_follows ?_ ?_)
    | (with_reducible refine State.Follows.foldl _ ?_ ?_)
    | (intro _ _ _)

theorem State.loadPrograms_follows {μ : Nat} {s₀ : State} {s : State} {i : Nat} {p : Package} (hm : Nat.lor 2149613568 μ = μ) (h₀ : s₀.Follows μ s) :
    s₀.Follows μ (State.loadPrograms s i p) := by
  refine State.Follows.lift hm h₀ ?_
  have h := State.Follows.refl 2149613568 s
  unfold State.loadPrograms
  repeat' first
    | (with_reducible assumption)
    | (exact (rfl : Nat.lor _ _ = _))
    | (with_reducible refine State.dropStrikes_follows ?_ ?_)
    | (with_reducible refine State.loadCore_follows ?_ ?_)
    | (with_reducible refine State.loadEngines_follows ?_ ?_)
    | (with_reducible refine State.startThreads_follows ?_ ?_)
    | (with_reducible apply State.Follows.ite)
    | (with_reducible refine State.Follows.foldl _ ?_ ?_)
    | (intro _ _ _)

theorem execSetLoadComplete_follows {μ : Nat} {s₀ : State} {s : State} (hm : Nat.lor 171144484571087640 μ = μ) (h₀ : s₀.Follows μ s) :
    s₀.Ends μ (execSetLoadComplete s) := by
  refine State.Ends.lift hm h₀ ?_
  have h := State.Follows.refl 171144484571087640 s
  unfold execSetLoadComplete
  repeat' first
    | (with_reducible assumption)
    | (exact (rfl : Nat.lor _ _ = _))
    | (with_reducible refine State.count_follows ?_ ?_)
    | (with_reducible refine State.loadPrograms_follows ?_ ?_)
    | (with_reducible refine State.logEvent_follows ?_ ?_)
    | (with_reducible refine State.updWInst_follows ?_ ?_)
    | (with_reducible refine State.updWSlot_follows ?_ ?_)
    | (with_reducible refine State.wldDone_follows ?_ ?_)
    | (with_reducible apply State.Ends.next)
    | (with_reducible apply State.Ends.ite)
    | (with_reducible apply State.Follows.ite)
    | split
    | ((with_reducible apply State.Follows.keep) <;> first | exact trivial | exact rfl | skip)

theorem execLoadTimeout_follows {μ : Nat} {s₀ : State} {slot inst : Nat} {s : State} (hm : Nat.lor 171144482421474072 μ = μ) (h₀ : s₀.Follows μ s) :
    s₀.Ends μ (execLoadTimeout slot inst s) := by
  refine State.Ends.lift hm h₀ ?_
  have h := State.Follows.refl 171144482421474072 s
  unfold execLoadTimeout
  repeat' first
    | (with_reducible assumption)
    | (exact (rfl : Nat.lor _ _ = _))
    | (with_reducible refine State.loadFailed_follows ?_ ?_)
    | (with_reducible apply State.Ends.next)
    | split

theorem State.wldUnload_follows {μ : Nat} {s₀ : State} {s : State} {k i : Nat} (hm : Nat.lor 153125685865480984 μ = μ) (h₀ : s₀.Follows μ s) :
    s₀.Follows μ (State.wldUnload s k i).1 := by
  refine State.Follows.lift hm h₀ ?_
  have h := State.Follows.refl 153125685865480984 s
  unfold State.wldUnload
  repeat' first
    | (with_reducible assumption)
    | (exact (rfl : Nat.lor _ _ = _))
    | (with_reducible refine State.releaseSet_follows ?_ ?_)
    | (with_reducible refine State.wldNow_follows ?_ ?_)
    | (with_reducible apply State.Follows.ite_fst)

theorem State.wldReload_follows {μ : Nat} {s₀ : State} {s : State} {k i : Nat} (hm : Nat.lor 153130083911992088 μ = μ) (h₀ : s₀.Follows μ s) :
    s₀.Follows μ (State.wldReload s k i).1 := by
  refine State.Follows.lift hm h₀ ?_
  have h := State.Follows.refl 153130083911992088 s
  unfold State.wldReload
  repeat' first
    | (with_reducible assumption)
    | (exact (rfl : Nat.lor _ _ = _))
    | (with_reducible refine State.queueReload_follows ?_ ?_)
    | (with_reducible refine State.wldNow_follows ?_ ?_)
    | (with_reducible apply State.Follows.ite_fst)

theorem State.pendSwitch_follows {μ : Nat} {s₀ : State} {s : State} {i k : Nat} {nextStep : Bool} (hm : Nat.lor 171140084374962968 μ = μ) (h₀ : s₀.Follows μ s) :
    s₀.Follows μ (State.pendSwitch s i k nextStep).1 := by
  refine State.Follows.lift hm h₀ ?_
  have h := State.Follows.refl 171140084374962968 s
  unfold State.pendSwitch
  repeat' first
    | (with_reducible assumption)
    | (exact (rfl : Nat.lor _ _ = _))
    | (with_reducible refine State.endSwitch_follows ?_ ?_)
    | (with_reducible refine State.updWInst_follows ?_ ?_)

theorem State.wldSwitch_follows {μ : Nat} {s₀ : State} {s : State} {k i : Nat} {nextStep : Bool} (hm : Nat.lor 171144482421474072 μ = μ) (h₀ : s₀.Follows μ s) :
    s₀.Follows μ (State.wldSwitch s k i nextStep).1 := by
  refine State.Follows.lift hm h₀ ?_
  have h := State.Follows.refl 171144482421474072 s
  unfold State.wldSwitch
  repeat' first
    | (with_reducible assumption)
    | (exact (rfl : Nat.lor _ _ = _))
    | (with_reducible refine State.pendSwitch_follows ?_ ?_)
    | (with_reducible refine State.startLoad_follows ?_ ?_)
    | (with_reducible refine State.updWInst_follows ?_ ?_)
    | (with_reducible refine State.wldNow_follows ?_ ?_)
    | (with_reducible apply State.Follows.ite_fst)
    | (with_reducible refine State.Follows.of_fst (by assumption) ?_)
    | split

theorem State.endDrain_follows {μ : Nat} {s₀ : State} {s : State} {i : Nat} (hm : Nat.lor 153124586353853208 μ = μ) (h₀ : s₀.Follows μ s) :
    s₀.Follows μ (State.endDrain s i) := by
  refine State.Follows.lift hm h₀ ?_
  have h := State.Follows.refl 153124586353853208 s
  unfold State.endDrain
  repeat' first
    | (with_reducible assumption)
    | (exact (rfl : Nat.lor _ _ = _))
    | (with_reducible refine State.logEvent_follows ?_ ?_)
    | (with_reducible refine State.updWInst_follows ?_ ?_)
    | split

theorem State.stepDigests_follows {μ : Nat} {s₀ : State} {s : State} {i : Nat} (hm : Nat.lor 153133382446875416 μ = μ) (h₀ : s₀.Follows μ s) :
    s₀.Follows μ (State.stepDigests s i) := by
  refine State.Follows.lift hm h₀ ?_
  have h := State.Follows.refl 153133382446875416 s
  unfold State.stepDigests
  repeat' first
    | (with_reducible assumption)
    | (exact (rfl : Nat.lor _ _ = _))
    | (with_reducible refine State.count_follows ?_ ?_)
    | (with_reducible refine State.logLimited_follows ?_ ?_)
    | (with_reducible refine State.updInst_follows ?_ ?_)
    | (with_reducible refine State.updWInst_follows ?_ ?_)
    | (with_reducible apply State.Follows.ite)
    | (with_reducible refine State.Follows.foldl _ ?_ ?_)
    | split
    | (intro _ _ _)

theorem State.switchTakes_follows {μ : Nat} {s₀ : State} {s : State} {i : Nat} (hm : Nat.lor 171157676561007384 μ = μ) (h₀ : s₀.Follows μ s) :
    s₀.Follows μ (State.switchTakes s i) := by
  refine State.Follows.lift hm h₀ ?_
  have h := State.Follows.refl 171157676561007384 s
  unfold State.switchTakes
  repeat' first
    | (with_reducible assumption)
    | (exact (rfl : Nat.lor _ _ = _))
    | (with_reducible refine State.endDrain_follows ?_ ?_)
    | (with_reducible refine State.endSwitch_follows ?_ ?_)
    | (with_reducible refine State.logEvent_follows ?_ ?_)
    | (with_reducible refine State.updWInst_follows ?_ ?_)
    | (with_reducible apply State.Follows.ite)
    | split
    | dsimp only
    | ((with_reducible apply State.Follows.keep) <;> first | exact trivial | exact rfl | skip)

theorem State.weightBoundary_follows {μ : Nat} {s₀ : State} {s : State} {i : Nat} (hm : Nat.lor 171166472654029592 μ = μ) (h₀ : s₀.Follows μ s) :
    s₀.Follows μ (State.weightBoundary s i) := by
  refine State.Follows.lift hm h₀ ?_
  have h := State.Follows.refl 171166472654029592 s
  unfold State.weightBoundary
  repeat' first
    | (with_reducible assumption)
    | (exact (rfl : Nat.lor _ _ = _))
    | (with_reducible refine State.endDrain_follows ?_ ?_)
    | (with_reducible refine State.stepDigests_follows ?_ ?_)
    | (with_reducible refine State.switchTakes_follows ?_ ?_)
    | (with_reducible apply State.Follows.ite)
    | split

theorem State.autoLoad_follows {μ : Nat} {s₀ : State} {s : State} {i cause : Nat} (hm : Nat.lor 153130083911992088 μ = μ) (h₀ : s₀.Follows μ s) :
    s₀.Follows μ (State.autoLoad s i cause) := by
  refine State.Follows.lift hm h₀ ?_
  have h := State.Follows.refl 153130083911992088 s
  unfold State.autoLoad
  repeat' first
    | (with_reducible assumption)
    | (exact (rfl : Nat.lor _ _ = _))
    | (with_reducible refine State.startLoad_follows ?_ ?_)
    | (with_reducible refine State.updWInst_follows ?_ ?_)
    | (with_reducible refine State.wldStatus_follows ?_ ?_)
    | (with_reducible refine State.Follows.of_fst (by assumption) ?_)
    | split
    | dsimp only

theorem State.weightsDropped_follows {μ : Nat} {s₀ : State} {s : State} {i slot : Nat} (hm : Nat.lor 171144482421474072 μ = μ) (h₀ : s₀.Follows μ s) :
    s₀.Follows μ (State.weightsDropped s i slot) := by
  refine State.Follows.lift hm h₀ ?_
  have h := State.Follows.refl 171144482421474072 s
  unfold State.weightsDropped
  repeat' first
    | (with_reducible assumption)
    | (exact (rfl : Nat.lor _ _ = _))
    | (with_reducible refine State.endSwitch_follows ?_ ?_)
    | (with_reducible refine State.loadFailed_follows ?_ ?_)
    | (with_reducible refine State.releaseSet_follows ?_ ?_)
    | (with_reducible refine State.updWInst_follows ?_ ?_)
    | (with_reducible refine State.Follows.foldl _ ?_ ?_)
    | (intro _ _ _)

theorem State.demand_follows {μ : Nat} {s₀ : State} {s : State} {i : Nat} (hm : Nat.lor 153130083911992088 μ = μ) (h₀ : s₀.Follows μ s) :
    s₀.Follows μ (State.demand s i).1 := by
  refine State.Follows.lift hm h₀ ?_
  have h := State.Follows.refl 153130083911992088 s
  unfold State.demand
  repeat' first
    | (with_reducible assumption)
    | (exact (rfl : Nat.lor _ _ = _))
    | (with_reducible refine State.autoLoad_follows ?_ ?_)
    | (with_reducible apply State.Follows.ite_fst)

theorem execBind_follows {μ : Nat} {s₀ : State} {slot : Nat} {port : Port} {s : State} (hm : Nat.lor 153125685865480984 μ = μ) (h₀ : s₀.Follows μ s) :
    s₀.Ends μ (execBind slot port s) := by
  refine State.Ends.lift hm h₀ ?_
  have h := State.Follows.refl 153125685865480984 s
  unfold execBind
  repeat' first
    | (with_reducible assumption)
    | (exact (rfl : Nat.lor _ _ = _))
    | (with_reducible refine State.wldBind_follows ?_ ?_)
    | (with_reducible apply State.Ends.next)

theorem execUnbind_follows {μ : Nat} {s₀ : State} {slot : Nat} {port : Port} {s : State} (hm : Nat.lor 153125685865480984 μ = μ) (h₀ : s₀.Follows μ s) :
    s₀.Ends μ (execUnbind slot port s) := by
  refine State.Ends.lift hm h₀ ?_
  have h := State.Follows.refl 153125685865480984 s
  unfold execUnbind
  repeat' first
    | (with_reducible assumption)
    | (exact (rfl : Nat.lor _ _ = _))
    | (with_reducible refine State.wldUnbind_follows ?_ ?_)
    | (with_reducible apply State.Ends.next)

theorem execLoad_follows {μ : Nat} {s₀ : State} {slot inst : Nat} {port : Port} {s : State} (hm : Nat.lor 153130083911992088 μ = μ) (h₀ : s₀.Follows μ s) :
    s₀.Ends μ (execLoad slot inst port s) := by
  refine State.Ends.lift hm h₀ ?_
  have h := State.Follows.refl 153130083911992088 s
  unfold execLoad
  repeat' first
    | (with_reducible assumption)
    | (exact (rfl : Nat.lor _ _ = _))
    | (with_reducible refine State.wldLoad_follows ?_ ?_)
    | (with_reducible apply State.Ends.next)

theorem execUnload_follows {μ : Nat} {s₀ : State} {slot inst : Nat} {port : Port} {s : State} (hm : Nat.lor 153125685865480984 μ = μ) (h₀ : s₀.Follows μ s) :
    s₀.Ends μ (execUnload slot inst port s) := by
  refine State.Ends.lift hm h₀ ?_
  have h := State.Follows.refl 153125685865480984 s
  unfold execUnload
  repeat' first
    | (with_reducible assumption)
    | (exact (rfl : Nat.lor _ _ = _))
    | (with_reducible refine State.wldUnload_follows ?_ ?_)
    | (with_reducible apply State.Ends.next)

theorem execSwitch_follows {μ : Nat} {s₀ : State} {slot inst : Nat} {nextStep : Bool} {port : Port} {s : State} (hm : Nat.lor 171144482421474072 μ = μ) (h₀ : s₀.Follows μ s) :
    s₀.Ends μ (execSwitch slot inst nextStep port s) := by
  refine State.Ends.lift hm h₀ ?_
  have h := State.Follows.refl 171144482421474072 s
  unfold execSwitch
  repeat' first
    | (with_reducible assumption)
    | (exact (rfl : Nat.lor _ _ = _))
    | (with_reducible refine State.wldSwitch_follows ?_ ?_)
    | (with_reducible apply State.Ends.next)

theorem execReload_follows {μ : Nat} {s₀ : State} {slot inst : Nat} {port : Port} {s : State} (hm : Nat.lor 153130083911992088 μ = μ) (h₀ : s₀.Follows μ s) :
    s₀.Ends μ (execReload slot inst port s) := by
  refine State.Ends.lift hm h₀ ?_
  have h := State.Follows.refl 153130083911992088 s
  unfold execReload
  repeat' first
    | (with_reducible assumption)
    | (exact (rfl : Nat.lor _ _ = _))
    | (with_reducible refine State.wldReload_follows ?_ ?_)
    | (with_reducible apply State.Ends.next)

end Sys2Proof.Machine
end

