-- ==== Sys2Proof/Laws/FollowsFormats.lean ====
section
/-!
SUPPORT. The operations of Machine/Formats.lean keep the relation `State.Follows`. The number in a lemma is the mask of the
components that its operation may change.
-/
namespace Sys2Proof.Machine
open Sys2Proof

theorem State.updFmt_follows {μ : Nat} {s₀ : State} {s : State} {i l : Nat} {f : FmtLayer → FmtLayer} (hm : Nat.lor 65536 μ = μ) (h₀ : s₀.Follows μ s) :
    s₀.Follows μ (State.updFmt s i l f) := by
  refine State.Follows.lift hm h₀ ?_
  have h := State.Follows.refl 65536 s
  unfold State.updFmt
  repeat' first
    | (with_reducible assumption)
    | ((with_reducible apply State.Follows.keep) <;> first | exact trivial | exact rfl | skip)

theorem State.evaluate_follows {μ : Nat} {s₀ : State} {s : State} {i l metric : Nat} (hm : Nat.lor 153122387330663192 μ = μ) (h₀ : s₀.Follows μ s) :
    s₀.Follows μ (State.evaluate s i l metric) := by
  refine State.Follows.lift hm h₀ ?_
  have h := State.Follows.refl 153122387330663192 s
  unfold State.evaluate
  repeat' first
    | (with_reducible assumption)
    | (exact (rfl : Nat.lor _ _ = _))
    | (with_reducible refine State.logEvent_follows ?_ ?_)
    | (with_reducible refine State.updFmt_follows ?_ ?_)
    | (with_reducible apply State.Follows.ite)

theorem execLayerPassComplete_follows {μ : Nat} {s₀ : State} {inst layer : Nat} {s : State} (hm : Nat.lor 153122387330663192 μ = μ) (h₀ : s₀.Follows μ s) :
    s₀.Ends μ (execLayerPassComplete inst layer s) := by
  refine State.Ends.lift hm h₀ ?_
  have h := State.Follows.refl 153122387330663192 s
  unfold execLayerPassComplete
  repeat' first
    | (with_reducible assumption)
    | (exact (rfl : Nat.lor _ _ = _))
    | (with_reducible refine State.evaluate_follows ?_ ?_)
    | (with_reducible refine State.updFmt_follows ?_ ?_)
    | (with_reducible apply State.Ends.next)
    | (with_reducible apply State.Ends.ite)
    | (with_reducible apply State.Follows.ite)

theorem State.resetFallback_follows {μ : Nat} {s₀ : State} {s : State} {i : Nat} {port : Port} (hm : Nat.lor 153122387330794264 μ = μ) (h₀ : s₀.Follows μ s) :
    s₀.Follows μ (State.resetFallback s i port).1 := by
  refine State.Follows.lift hm h₀ ?_
  have h := State.Follows.refl 153122387330794264 s
  unfold State.resetFallback
  repeat' first
    | (with_reducible assumption)
    | (exact (rfl : Nat.lor _ _ = _))
    | (with_reducible refine State.logEvent_follows ?_ ?_)
    | (with_reducible apply State.Follows.ite_fst)
    | dsimp only
    | ((with_reducible apply State.Follows.keep) <;> first | exact trivial | exact rfl | skip)

theorem execResetFallback_follows {μ : Nat} {s₀ : State} {inst : Nat} {port : Port} {s : State} (hm : Nat.lor 153122387330794264 μ = μ) (h₀ : s₀.Follows μ s) :
    s₀.Ends μ (execResetFallback inst port s) := by
  refine State.Ends.lift hm h₀ ?_
  have h := State.Follows.refl 153122387330794264 s
  unfold execResetFallback
  repeat' first
    | (with_reducible assumption)
    | (exact (rfl : Nat.lor _ _ = _))
    | (with_reducible refine State.resetFallback_follows ?_ ?_)
    | (with_reducible apply State.Ends.next)

theorem State.fmtSealed_follows {μ : Nat} {s₀ : State} {s : State} {i : Nat} (hm : Nat.lor 27021597764420104 μ = μ) (h₀ : s₀.Follows μ s) :
    s₀.Follows μ (State.fmtSealed s i) := by
  refine State.Follows.lift hm h₀ ?_
  have h := State.Follows.refl 27021597764420104 s
  unfold State.fmtSealed
  repeat' first
    | (with_reducible assumption)
    | (exact (rfl : Nat.lor _ _ = _))
    | (with_reducible refine State.finish_follows ?_ ?_)
    | ((with_reducible apply State.Follows.keep) <;> first | exact trivial | exact rfl | skip)

theorem State.fmtReset_follows {μ : Nat} {s₀ : State} {s : State} {i : Nat} (hm : Nat.lor 171136785840276248 μ = μ) (h₀ : s₀.Follows μ s) :
    s₀.Follows μ (State.fmtReset s i) := by
  refine State.Follows.lift hm h₀ ?_
  have h := State.Follows.refl 171136785840276248 s
  unfold State.fmtReset
  repeat' first
    | (with_reducible assumption)
    | (exact (rfl : Nat.lor _ _ = _))
    | (with_reducible refine State.finish_follows ?_ ?_)
    | (with_reducible refine State.logEvent_follows ?_ ?_)
    | (with_reducible apply State.Follows.ite)
    | (with_reducible refine State.Follows.foldl _ ?_ ?_)
    | (intro _ _ _)
    | ((with_reducible apply State.Follows.keep) <;> first | exact trivial | exact rfl | skip)

theorem State.fmtBoundary_follows {μ : Nat} {s₀ : State} {s : State} {i : Nat} (hm : Nat.lor 171136785840276248 μ = μ) (h₀ : s₀.Follows μ s) :
    s₀.Follows μ (State.fmtBoundary s i) := by
  refine State.Follows.lift hm h₀ ?_
  have h := State.Follows.refl 171136785840276248 s
  unfold State.fmtBoundary
  repeat' first
    | (with_reducible assumption)
    | (exact (rfl : Nat.lor _ _ = _))
    | (with_reducible refine State.fmtReset_follows ?_ ?_)
    | (with_reducible refine State.logEvent_follows ?_ ?_)
    | (with_reducible refine State.updFmt_follows ?_ ?_)
    | (with_reducible apply State.Follows.ite)
    | (with_reducible refine State.Follows.foldl _ ?_ ?_)
    | (intro _ _ _)

end Sys2Proof.Machine
end

