-- ==== Sys2Proof/Laws/FollowsHka.lean ====
section
/-!
SUPPORT. The operations of Machine/Hka.lean keep the relation `State.Follows`. The number in a lemma is the mask of the
components that its operation may change.
-/
namespace Sys2Proof.Machine
open Sys2Proof

theorem State.updSlice_follows {μ : Nat} {s₀ : State} {s : State} {k : Nat} {f : Slice → Slice} (hm : Nat.lor 9444732965739290427392 μ = μ) (h₀ : s₀.Follows μ s) :
    s₀.Follows μ (State.updSlice s k f) := by
  refine State.Follows.lift hm h₀ ?_
  have h := State.Follows.refl 9444732965739290427392 s
  unfold State.updSlice
  repeat' first
    | (with_reducible assumption)
    | dsimp only
    | ((with_reducible apply State.Follows.keep) <;> first | exact trivial | exact rfl | skip)

theorem State.updChan_follows {μ : Nat} {s₀ : State} {s : State} {c : Nat} {f : Chan → Chan} (hm : Nat.lor 9444732965739290427392 μ = μ) (h₀ : s₀.Follows μ s) :
    s₀.Follows μ (State.updChan s c f) := by
  refine State.Follows.lift hm h₀ ?_
  have h := State.Follows.refl 9444732965739290427392 s
  unfold State.updChan
  repeat' first
    | (with_reducible assumption)
    | dsimp only
    | ((with_reducible apply State.Follows.keep) <;> first | exact trivial | exact rfl | skip)

theorem State.hkaCount_follows {μ : Nat} {s₀ : State} {s : State} {off k : Nat} (hm : Nat.lor 16 μ = μ) (h₀ : s₀.Follows μ s) :
    s₀.Follows μ (State.hkaCount s off k) := by
  refine State.Follows.lift hm h₀ ?_
  have h := State.Follows.refl 16 s
  unfold State.hkaCount
  repeat' first
    | (with_reducible assumption)
    | (exact (rfl : Nat.lor _ _ = _))
    | (with_reducible refine State.countBy_follows ?_ ?_)
    | (with_reducible apply State.Follows.ite)

theorem State.latchInj_follows {μ : Nat} {s₀ : State} {s : State} (hm : Nat.lor 9444732965739290427392 μ = μ) (h₀ : s₀.Follows μ s) :
    s₀.Follows μ (State.latchInj s) := by
  refine State.Follows.lift hm h₀ ?_
  have h := State.Follows.refl 9444732965739290427392 s
  unfold State.latchInj
  repeat' first
    | (with_reducible assumption)
    | dsimp only
    | ((with_reducible apply State.Follows.keep) <;> first | exact trivial | exact rfl | skip)

theorem State.beginSlot_follows {μ : Nat} {s₀ : State} {s : State} {k : Nat} (hm : Nat.lor 9444732965739290427392 μ = μ) (h₀ : s₀.Follows μ s) :
    s₀.Follows μ (State.beginSlot s k) := by
  refine State.Follows.lift hm h₀ ?_
  have h := State.Follows.refl 9444732965739290427392 s
  unfold State.beginSlot
  repeat' first
    | (with_reducible assumption)
    | (exact (rfl : Nat.lor _ _ = _))
    | (with_reducible refine State.updSlice_follows ?_ ?_)
    | split
    | dsimp only
    | ((with_reducible apply State.Follows.keep) <;> first | exact trivial | exact rfl | skip)

theorem State.injTrigger_follows {μ : Nat} {s₀ : State} {s : State} {j : Nat} (hm : Nat.lor 9444732965739290427392 μ = μ) (h₀ : s₀.Follows μ s) :
    s₀.Follows μ (State.injTrigger s j) := by
  refine State.Follows.lift hm h₀ ?_
  have h := State.Follows.refl 9444732965739290427392 s
  unfold State.injTrigger
  repeat' first
    | (with_reducible assumption)
    | (exact (rfl : Nat.lor _ _ = _))
    | (with_reducible refine State.beginSlot_follows ?_ ?_)
    | (with_reducible apply State.Follows.ite)
    | ((with_reducible apply State.Follows.keep) <;> first | exact trivial | exact rfl | skip)

theorem State.injSource_follows {μ : Nat} {s₀ : State} {s : State} {src : Nat} (hm : Nat.lor 9444732965739290427392 μ = μ) (h₀ : s₀.Follows μ s) :
    s₀.Follows μ (State.injSource s src) := by
  refine State.Follows.lift hm h₀ ?_
  have h := State.Follows.refl 9444732965739290427392 s
  unfold State.injSource
  repeat' first
    | (with_reducible assumption)
    | (exact (rfl : Nat.lor _ _ = _))
    | (with_reducible refine State.injTrigger_follows ?_ ?_)
    | (with_reducible apply State.Follows.ite)
    | (with_reducible refine State.Follows.foldl _ ?_ ?_)
    | (intro _ _ _)

theorem State.injWrite_follows {μ : Nat} {s₀ : State} {s : State} {v : Nat} (hm : Nat.lor 9444732965739290427392 μ = μ) (h₀ : s₀.Follows μ s) :
    s₀.Follows μ (State.injWrite s v) := by
  refine State.Follows.lift hm h₀ ?_
  have h := State.Follows.refl 9444732965739290427392 s
  unfold State.injWrite
  repeat' first
    | (with_reducible assumption)
    | (exact (rfl : Nat.lor _ _ = _))
    | (with_reducible refine State.injTrigger_follows ?_ ?_)
    | (with_reducible apply State.Follows.ite)
    | (with_reducible refine State.Follows.foldl _ ?_ ?_)
    | (intro _ _ _)

theorem execHkaInjTrigWrite_follows {μ : Nat} {s₀ : State} {port : Port} {value : Nat} {s : State} (hm : Nat.lor 9444732965739290427392 μ = μ) (h₀ : s₀.Follows μ s) :
    s₀.Ends μ (execHkaInjTrigWrite port value s) := by
  refine State.Ends.lift hm h₀ ?_
  have h := State.Follows.refl 9444732965739290427392 s
  unfold execHkaInjTrigWrite
  repeat' first
    | (with_reducible assumption)
    | (exact (rfl : Nat.lor _ _ = _))
    | (with_reducible refine State.injWrite_follows ?_ ?_)
    | (with_reducible apply State.Ends.next)

theorem State.spareIdle_follows {μ : Nat} {s₀ : State} {s : State} (hm : Nat.lor 9444732965739290427392 μ = μ) (h₀ : s₀.Follows μ s) :
    s₀.Follows μ (State.spareIdle s) := by
  refine State.Follows.lift hm h₀ ?_
  have h := State.Follows.refl 9444732965739290427392 s
  unfold State.spareIdle
  repeat' first
    | (with_reducible assumption)
    | dsimp only
    | ((with_reducible apply State.Follows.keep) <;> first | exact trivial | exact rfl | skip)

theorem State.retireConverter_follows {μ : Nat} {s₀ : State} {s : State} {k cause : Nat} (hm : Nat.lor 9444886088126621025048 μ = μ) (h₀ : s₀.Follows μ s) :
    s₀.Follows μ (State.retireConverter s k cause) := by
  refine State.Follows.lift hm h₀ ?_
  have h := State.Follows.refl 9444886088126621025048 s
  unfold State.retireConverter
  repeat' first
    | (with_reducible assumption)
    | (exact (rfl : Nat.lor _ _ = _))
    | (with_reducible refine State.logEvent_follows ?_ ?_)
    | (with_reducible refine State.spareIdle_follows ?_ ?_)
    | (with_reducible refine State.updSlice_follows ?_ ?_)
    | (with_reducible apply State.Follows.ite)
    | dsimp only
    | ((with_reducible apply State.Follows.keep) <;> first | exact trivial | exact rfl | skip)

theorem State.register_follows {μ : Nat} {s₀ : State} {s : State} {c x : Nat} {code : Int} {regular : Bool} (hm : Nat.lor 9444732965739290427392 μ = μ) (h₀ : s₀.Follows μ s) :
    s₀.Follows μ (State.register s c x code regular) := by
  refine State.Follows.lift hm h₀ ?_
  have h := State.Follows.refl 9444732965739290427392 s
  unfold State.register
  repeat' first
    | (with_reducible assumption)
    | (exact (rfl : Nat.lor _ _ = _))
    | (with_reducible refine State.updChan_follows ?_ ?_)

theorem State.convertEntry_follows {μ : Nat} {s₀ : State} {s : State} {k x : Nat} {code : Int} {overload : Bool} (hm : Nat.lor 9444886088126621025048 μ = μ) (h₀ : s₀.Follows μ s) :
    s₀.Follows μ (State.convertEntry s k x code overload) := by
  refine State.Follows.lift hm h₀ ?_
  have h := State.Follows.refl 9444886088126621025048 s
  unfold State.convertEntry
  repeat' first
    | (with_reducible assumption)
    | (exact (rfl : Nat.lor _ _ = _))
    | (with_reducible refine State.beginSlot_follows ?_ ?_)
    | (with_reducible refine State.hkaCount_follows ?_ ?_)
    | (with_reducible refine State.register_follows ?_ ?_)
    | (with_reducible refine State.retireConverter_follows ?_ ?_)
    | (with_reducible refine State.updSlice_follows ?_ ?_)
    | (with_reducible apply State.Follows.ite)
    | split
    | dsimp only
    | ((with_reducible apply State.Follows.keep) <;> first | exact trivial | exact rfl | skip)

theorem State.convertPattern_follows {μ : Nat} {s₀ : State} {s : State} {x : Nat} {code : Int} {overload : Bool} (hm : Nat.lor 9444886088126621025048 μ = μ) (h₀ : s₀.Follows μ s) :
    s₀.Follows μ (State.convertPattern s x code overload) := by
  refine State.Follows.lift hm h₀ ?_
  have h := State.Follows.refl 9444886088126621025048 s
  unfold State.convertPattern
  repeat' first
    | (with_reducible assumption)
    | (exact (rfl : Nat.lor _ _ = _))
    | (with_reducible refine State.retireConverter_follows ?_ ?_)
    | (with_reducible apply State.Follows.ite)
    | split
    | dsimp only
    | ((with_reducible apply State.Follows.keep) <;> first | exact trivial | exact rfl | skip)

theorem execConversionSlot_follows {μ : Nat} {s₀ : State} {slice : Nat} {code : Int} {overload : Bool} {s : State} (hm : Nat.lor 9444886088126621025048 μ = μ) (h₀ : s₀.Follows μ s) :
    s₀.Ends μ (execConversionSlot slice code overload s) := by
  refine State.Ends.lift hm h₀ ?_
  have h := State.Follows.refl 9444886088126621025048 s
  unfold execConversionSlot
  repeat' first
    | (with_reducible assumption)
    | (exact (rfl : Nat.lor _ _ = _))
    | (with_reducible refine State.convertEntry_follows ?_ ?_)
    | (with_reducible refine State.convertPattern_follows ?_ ?_)
    | (with_reducible apply State.Ends.next)
    | (with_reducible apply State.Follows.ite)
    | split
    | dsimp only
    | ((with_reducible apply State.Follows.keep) <;> first | exact trivial | exact rfl | skip)

theorem execSlotTimeout_follows {μ : Nat} {s₀ : State} {slice : Nat} {s : State} (hm : Nat.lor 9444886088126621025048 μ = μ) (h₀ : s₀.Follows μ s) :
    s₀.Ends μ (execSlotTimeout slice s) := by
  refine State.Ends.lift hm h₀ ?_
  have h := State.Follows.refl 9444886088126621025048 s
  unfold execSlotTimeout
  repeat' first
    | (with_reducible assumption)
    | (exact (rfl : Nat.lor _ _ = _))
    | (with_reducible refine State.retireConverter_follows ?_ ?_)
    | (with_reducible apply State.Ends.next)
    | (with_reducible apply State.Follows.ite)

theorem execSpareVisitStart_follows {μ : Nat} {s₀ : State} {s : State} (hm : Nat.lor 9444732965739290427392 μ = μ) (h₀ : s₀.Follows μ s) :
    s₀.Ends μ (execSpareVisitStart s) := by
  refine State.Ends.lift hm h₀ ?_
  have h := State.Follows.refl 9444732965739290427392 s
  unfold execSpareVisitStart
  repeat' first
    | (with_reducible assumption)
    | (exact (rfl : Nat.lor _ _ = _))
    | (with_reducible refine State.spareIdle_follows ?_ ?_)
    | (with_reducible apply State.Ends.next)
    | (with_reducible apply State.Follows.ite)
    | split
    | dsimp only
    | ((with_reducible apply State.Follows.keep) <;> first | exact trivial | exact rfl | skip)

theorem State.visitRoundEnd_follows {μ : Nat} {s₀ : State} {s : State} (hm : Nat.lor 9444886088126621025048 μ = μ) (h₀ : s₀.Follows μ s) :
    s₀.Follows μ (State.visitRoundEnd s) := by
  refine State.Follows.lift hm h₀ ?_
  have h := State.Follows.refl 9444886088126621025048 s
  unfold State.visitRoundEnd
  repeat' first
    | (with_reducible assumption)
    | (exact (rfl : Nat.lor _ _ = _))
    | (with_reducible refine State.hkaCount_follows ?_ ?_)
    | (with_reducible refine State.retireConverter_follows ?_ ?_)
    | (with_reducible refine State.spareIdle_follows ?_ ?_)
    | (with_reducible refine State.updSlice_follows ?_ ?_)
    | (with_reducible apply State.Follows.ite)
    | ((with_reducible apply State.Follows.keep) <;> first | exact trivial | exact rfl | skip)

end Sys2Proof.Machine
end

