-- ==== Sys2Proof/Laws/FollowsReplica.lean ====
section
/-!
SUPPORT. The operations of Machine/Replica.lean keep the relation `State.Follows`. The number in a lemma is the mask of the
components that its operation may change.
-/
namespace Sys2Proof.Machine
open Sys2Proof

theorem State.flood_follows {μ : Nat} {s₀ : State} {s : State} {d : Digest} {skip : Option Nat} (hm : Nat.lor 1152921504640401432 μ = μ) (h₀ : s₀.Follows μ s) :
    s₀.Follows μ (State.flood s d skip) := by
  refine State.Follows.lift hm h₀ ?_
  have h := State.Follows.refl 1152921504640401432 s
  unfold State.flood
  repeat' first
    | (with_reducible assumption)
    | (exact (rfl : Nat.lor _ _ = _))
    | (with_reducible refine State.icpFrame_follows ?_ ?_)
    | (with_reducible refine State.Follows.foldl _ ?_ ?_)
    | (intro _ _ _)

theorem State.keepDigest_follows {μ : Nat} {s₀ : State} {s : State} {d : Digest} (hm : Nat.lor 9223372036854775808 μ = μ) (h₀ : s₀.Follows μ s) :
    s₀.Follows μ (State.keepDigest s d) := by
  refine State.Follows.lift hm h₀ ?_
  have h := State.Follows.refl 9223372036854775808 s
  unfold State.keepDigest
  repeat' first
    | (with_reducible assumption)
    | dsimp only
    | ((with_reducible apply State.Follows.keep) <;> first | exact trivial | exact rfl | skip)

theorem State.voteReload_follows {μ : Nat} {s₀ : State} {s : State} {i g r v : Nat} (hm : Nat.lor 153130083911992088 μ = μ) (h₀ : s₀.Follows μ s) :
    s₀.Follows μ (State.voteReload s i g r v) := by
  refine State.Follows.lift hm h₀ ?_
  have h := State.Follows.refl 153130083911992088 s
  unfold State.voteReload
  repeat' first
    | (with_reducible assumption)
    | (exact (rfl : Nat.lor _ _ = _))
    | (with_reducible refine State.count_follows ?_ ?_)
    | (with_reducible refine State.logEvent_follows ?_ ?_)
    | (with_reducible refine State.wldReload_follows ?_ ?_)

theorem State.voteOutcome_follows {μ : Nat} {s₀ : State} {s : State} {i g r : Nat} {own : Digest} {vs : List Digest} (hm : Nat.lor 4764824898432402200 μ = μ) (h₀ : s₀.Follows μ s) :
    s₀.Follows μ (State.voteOutcome s i g r own vs) := by
  refine State.Follows.lift hm h₀ ?_
  have h := State.Follows.refl 4764824898432402200 s
  unfold State.voteOutcome
  repeat' first
    | (with_reducible assumption)
    | (exact (rfl : Nat.lor _ _ = _))
    | (with_reducible refine State.logEvent_follows ?_ ?_)
    | (with_reducible refine State.updInst_follows ?_ ?_)
    | (with_reducible refine State.voteReload_follows ?_ ?_)
    | (with_reducible apply State.Follows.ite)
    | (with_reducible refine State.Follows.foldl _ ?_ ?_)
    | split
    | (intro _ _ _)
    | dsimp only
    | ((with_reducible apply State.Follows.keep) <;> first | exact trivial | exact rfl | skip)

theorem State.evaluateRound_follows {μ : Nat} {s₀ : State} {s : State} {i : Nat} (hm : Nat.lor 4764824898432402200 μ = μ) (h₀ : s₀.Follows μ s) :
    s₀.Follows μ (State.evaluateRound s i) := by
  refine State.Follows.lift hm h₀ ?_
  have h := State.Follows.refl 4764824898432402200 s
  unfold State.evaluateRound
  repeat' first
    | (with_reducible assumption)
    | (exact (rfl : Nat.lor _ _ = _))
    | (with_reducible refine State.count_follows ?_ ?_)
    | (with_reducible refine State.voteOutcome_follows ?_ ?_)
    | split
    | dsimp only
    | ((with_reducible apply State.Follows.keep) <;> first | exact trivial | exact rfl | skip)

theorem State.tryRound_follows {μ : Nat} {s₀ : State} {s : State} {i : Nat} (hm : Nat.lor 4764824898432402200 μ = μ) (h₀ : s₀.Follows μ s) :
    s₀.Follows μ (State.tryRound s i) := by
  refine State.Follows.lift hm h₀ ?_
  have h := State.Follows.refl 4764824898432402200 s
  unfold State.tryRound
  repeat' first
    | (with_reducible assumption)
    | (exact (rfl : Nat.lor _ _ = _))
    | (with_reducible refine State.evaluateRound_follows ?_ ?_)
    | (with_reducible apply State.Follows.ite)
    | split

theorem State.sendDigest_follows {μ : Nat} {s₀ : State} {s : State} {i : Nat} (hm : Nat.lor 15141118439927579416 μ = μ) (h₀ : s₀.Follows μ s) :
    s₀.Follows μ (State.sendDigest s i) := by
  refine State.Follows.lift hm h₀ ?_
  have h := State.Follows.refl 15141118439927579416 s
  unfold State.sendDigest
  repeat' first
    | (with_reducible assumption)
    | (exact (rfl : Nat.lor _ _ = _))
    | (with_reducible refine State.flood_follows ?_ ?_)
    | (with_reducible refine State.keepDigest_follows ?_ ?_)
    | (with_reducible refine State.tryRound_follows ?_ ?_)
    | (with_reducible apply State.Follows.ite)
    | ((with_reducible apply State.Follows.keep) <;> first | exact trivial | exact rfl | skip)

theorem State.takeDigest_follows {μ : Nat} {s₀ : State} {s : State} {port : Nat} {d : Digest} (hm : Nat.lor 15141118439927579416 μ = μ) (h₀ : s₀.Follows μ s) :
    s₀.Follows μ (State.takeDigest s port d) := by
  refine State.Follows.lift hm h₀ ?_
  have h := State.Follows.refl 15141118439927579416 s
  unfold State.takeDigest
  repeat' first
    | (with_reducible assumption)
    | (exact (rfl : Nat.lor _ _ = _))
    | (with_reducible refine State.flood_follows ?_ ?_)
    | (with_reducible refine State.keepDigest_follows ?_ ?_)
    | (with_reducible refine State.tryRound_follows ?_ ?_)
    | (with_reducible apply State.Follows.ite)
    | (with_reducible refine State.Follows.foldl _ ?_ ?_)
    | (intro _ _ _)

theorem execDigest_follows {μ : Nat} {s₀ : State} {port group inst : Nat} {complete voting : Bool} {hopsLeft interval round join modelId crc modular : Nat} {hash : BitVec 384} {s : State} (hm : Nat.lor 15141118439927579416 μ = μ) (h₀ : s₀.Follows μ s) :
    s₀.Ends μ (execDigest port group inst complete voting hopsLeft interval round join modelId crc modular hash s) := by
  refine State.Ends.lift hm h₀ ?_
  have h := State.Follows.refl 15141118439927579416 s
  unfold execDigest
  repeat' first
    | (with_reducible assumption)
    | (exact (rfl : Nat.lor _ _ = _))
    | (with_reducible refine State.takeDigest_follows ?_ ?_)
    | (with_reducible apply State.Ends.next)

theorem execDigestEvaluationTimeout_follows {μ : Nat} {s₀ : State} {inst : Nat} {s : State} (hm : Nat.lor 4764824898432402200 μ = μ) (h₀ : s₀.Follows μ s) :
    s₀.Ends μ (execDigestEvaluationTimeout inst s) := by
  refine State.Ends.lift hm h₀ ?_
  have h := State.Follows.refl 4764824898432402200 s
  unfold execDigestEvaluationTimeout
  repeat' first
    | (with_reducible assumption)
    | (exact (rfl : Nat.lor _ _ = _))
    | (with_reducible refine State.evaluateRound_follows ?_ ?_)
    | (with_reducible apply State.Ends.next)

theorem State.replicaSealed_follows {μ : Nat} {s₀ : State} {s : State} {i : Nat} (hm : Nat.lor 4611686018427387904 μ = μ) (h₀ : s₀.Follows μ s) :
    s₀.Follows μ (State.replicaSealed s i) := by
  refine State.Follows.lift hm h₀ ?_
  have h := State.Follows.refl 4611686018427387904 s
  unfold State.replicaSealed
  repeat' first
    | (with_reducible assumption)
    | ((with_reducible apply State.Follows.keep) <;> first | exact trivial | exact rfl | skip)

end Sys2Proof.Machine
end

