-- ==== Sys2Proof/Laws/FollowsSteps.lean ====
section
/-!
SUPPORT. The operations of Machine/Steps.lean keep the relation `State.Follows`. The number in a lemma is the mask of the
components that its operation may change.
-/
namespace Sys2Proof.Machine
open Sys2Proof

theorem State.smpCount_follows {μ : Nat} {s₀ : State} {s : State} {off : Nat} (hm : Nat.lor 16 μ = μ) (h₀ : s₀.Follows μ s) :
    s₀.Follows μ (State.smpCount s off) := by
  refine State.Follows.lift hm h₀ ?_
  have h := State.Follows.refl 16 s
  unfold State.smpCount
  repeat' first
    | (with_reducible assumption)
    | (exact (rfl : Nat.lor _ _ = _))
    | (with_reducible refine State.count_follows ?_ ?_)
    | (with_reducible apply State.Follows.ite)

theorem State.smpCount64_follows {μ : Nat} {s₀ : State} {s : State} {off k : Nat} (hm : Nat.lor 16 μ = μ) (h₀ : s₀.Follows μ s) :
    s₀.Follows μ (State.smpCount64 s off k) := by
  refine State.Follows.lift hm h₀ ?_
  have h := State.Follows.refl 16 s
  unfold State.smpCount64
  repeat' first
    | (with_reducible assumption)
    | (exact (rfl : Nat.lor _ _ = _))
    | (with_reducible refine State.count64By_follows ?_ ?_)
    | (with_reducible apply State.Follows.ite)

theorem State.seqRecord_follows {μ : Nat} {s₀ : State} {s : State} {i e : Nat} {ent : StepEnt} (hm : Nat.lor 153210348260819736 μ = μ) (h₀ : s₀.Follows μ s) :
    s₀.Follows μ (State.seqRecord s i e ent) := by
  refine State.Follows.lift hm h₀ ?_
  have h := State.Follows.refl 153210348260819736 s
  unfold State.seqRecord
  repeat' first
    | (with_reducible assumption)
    | (exact (rfl : Nat.lor _ _ = _))
    | (with_reducible refine State.count_follows ?_ ?_)
    | (with_reducible refine State.count64By_follows ?_ ?_)
    | (with_reducible refine State.lateEvent_follows ?_ ?_)
    | (with_reducible refine State.record_follows ?_ ?_)
    | (with_reducible refine State.smpCount_follows ?_ ?_)
    | (with_reducible refine State.updSeq_follows ?_ ?_)
    | (with_reducible apply State.Follows.ite)

theorem State.stepCheck_follows {μ : Nat} {s₀ : State} {s : State} {i : Nat} (hm : Nat.lor 153219144353841944 μ = μ) (h₀ : s₀.Follows μ s) :
    s₀.Follows μ (State.stepCheck s i) := by
  refine State.Follows.lift hm h₀ ?_
  have h := State.Follows.refl 153219144353841944 s
  unfold State.stepCheck
  repeat' first
    | (with_reducible assumption)
    | (exact (rfl : Nat.lor _ _ = _))
    | (with_reducible refine State.seqRecord_follows ?_ ?_)
    | (with_reducible refine State.updInst_follows ?_ ?_)
    | (with_reducible apply State.Follows.ite)
    | (with_reducible refine State.Follows.foldl _ ?_ ?_)
    | (intro _ _ _)

theorem State.coreClosed_follows {μ : Nat} {s₀ : State} {s : State} {n layer : Nat} (hm : Nat.lor 153219144353841944 μ = μ) (h₀ : s₀.Follows μ s) :
    s₀.Follows μ (State.coreClosed s n layer) := by
  refine State.Follows.lift hm h₀ ?_
  have h := State.Follows.refl 153219144353841944 s
  unfold State.coreClosed
  repeat' first
    | (with_reducible assumption)
    | (exact (rfl : Nat.lor _ _ = _))
    | (with_reducible refine State.stepCheck_follows ?_ ?_)
    | (with_reducible refine State.updInst_follows ?_ ?_)
    | (with_reducible apply State.Follows.ite)
    | split

end Sys2Proof.Machine
end

