-- ==== Sys2Proof/Laws/FollowsGrammar.lean ====
section
/-!
SUPPORT. The operations of Machine/Grammar.lean keep the relation `State.Follows`. The number in a lemma is the mask of the
components that its operation may change.
-/
namespace Sys2Proof.Machine
open Sys2Proof

theorem State.updGrm_follows {μ : Nat} {s₀ : State} {s : State} {g : Nat} {f : Grammar → Grammar} (hm : Nat.lor 2251799813685248 μ = μ) (h₀ : s₀.Follows μ s) :
    s₀.Follows μ (State.updGrm s g f) := by
  refine State.Follows.lift hm h₀ ?_
  have h := State.Follows.refl 2251799813685248 s
  unfold State.updGrm
  repeat' first
    | (with_reducible assumption)
    | ((with_reducible apply State.Follows.keep) <;> first | exact trivial | exact rfl | skip)

theorem State.grmEmpty_follows {μ : Nat} {s₀ : State} {s : State} {g : Nat} (hm : Nat.lor 6755399441055744 μ = μ) (h₀ : s₀.Follows μ s) :
    s₀.Follows μ (State.grmEmpty s g) := by
  refine State.Follows.lift hm h₀ ?_
  have h := State.Follows.refl 6755399441055744 s
  unfold State.grmEmpty
  repeat' first
    | (with_reducible assumption)
    | (exact (rfl : Nat.lor _ _ = _))
    | (with_reducible refine State.updGrm_follows ?_ ?_)
    | dsimp only
    | ((with_reducible apply State.Follows.keep) <;> first | exact trivial | exact rfl | skip)

theorem State.grmFail_follows {μ : Nat} {s₀ : State} {s : State} {g status : Nat} (hm : Nat.lor 177892185281135384 μ = μ) (h₀ : s₀.Follows μ s) :
    s₀.Follows μ (State.grmFail s g status) := by
  refine State.Follows.lift hm h₀ ?_
  have h := State.Follows.refl 177892185281135384 s
  unfold State.grmFail
  repeat' first
    | (with_reducible assumption)
    | (exact (rfl : Nat.lor _ _ = _))
    | (with_reducible refine State.finish_follows ?_ ?_)
    | (with_reducible refine State.grmEmpty_follows ?_ ?_)
    | (with_reducible refine State.logEvent_follows ?_ ?_)
    | (with_reducible refine State.updGrm_follows ?_ ?_)

theorem State.grmLoad_follows {μ : Nat} {s₀ : State} {s : State} {g : Nat} {port : Port} (hm : Nat.lor 2251799813685256 μ = μ) (h₀ : s₀.Follows μ s) :
    s₀.Follows μ (State.grmLoad s g port).1 := by
  refine State.Follows.lift hm h₀ ?_
  have h := State.Follows.refl 2251799813685256 s
  unfold State.grmLoad
  repeat' first
    | (with_reducible assumption)
    | (exact (rfl : Nat.lor _ _ = _))
    | (with_reducible refine State.emit_follows ?_ ?_)
    | (with_reducible refine State.updGrm_follows ?_ ?_)
    | (with_reducible apply State.Follows.ite_fst)

theorem State.grmUnloaded_follows {μ : Nat} {s₀ : State} {s : State} {g cause : Nat} (hm : Nat.lor 159877786771653400 μ = μ) (h₀ : s₀.Follows μ s) :
    s₀.Follows μ (State.grmUnloaded s g cause) := by
  refine State.Follows.lift hm h₀ ?_
  have h := State.Follows.refl 159877786771653400 s
  unfold State.grmUnloaded
  repeat' first
    | (with_reducible assumption)
    | (exact (rfl : Nat.lor _ _ = _))
    | (with_reducible refine State.grmEmpty_follows ?_ ?_)
    | (with_reducible refine State.logEvent_follows ?_ ?_)

theorem State.grmUnload_follows {μ : Nat} {s₀ : State} {s : State} {g : Nat} (hm : Nat.lor 159877786771653400 μ = μ) (h₀ : s₀.Follows μ s) :
    s₀.Follows μ (State.grmUnload s g).1 := by
  refine State.Follows.lift hm h₀ ?_
  have h := State.Follows.refl 159877786771653400 s
  unfold State.grmUnload
  repeat' first
    | (with_reducible assumption)
    | (exact (rfl : Nat.lor _ _ = _))
    | (with_reducible refine State.grmUnloaded_follows ?_ ?_)
    | (with_reducible refine State.updGrm_follows ?_ ?_)
    | (with_reducible apply State.Follows.ite_fst)
    | split

theorem State.grmCheck_follows {μ : Nat} {s₀ : State} {s : State} {g : Nat} {image : List Byte} (hm : Nat.lor 177892185281135384 μ = μ) (h₀ : s₀.Follows μ s) :
    s₀.Follows μ (State.grmCheck s g image) := by
  refine State.Follows.lift hm h₀ ?_
  have h := State.Follows.refl 177892185281135384 s
  unfold State.grmCheck
  repeat' first
    | (with_reducible assumption)
    | (exact (rfl : Nat.lor _ _ = _))
    | (with_reducible refine State.finish_follows ?_ ?_)
    | (with_reducible refine State.grmFail_follows ?_ ?_)
    | (with_reducible refine State.logEvent_follows ?_ ?_)
    | (with_reducible refine State.updGrm_follows ?_ ?_)
    | (with_reducible apply State.Follows.ite)

theorem execGrammarLoadComplete_follows {μ : Nat} {s₀ : State} {slot : Nat} {error : Bool} {image : List Byte} {s : State} (hm : Nat.lor 177892185281135384 μ = μ) (h₀ : s₀.Follows μ s) :
    s₀.Ends μ (execGrammarLoadComplete slot error image s) := by
  refine State.Ends.lift hm h₀ ?_
  have h := State.Follows.refl 177892185281135384 s
  unfold execGrammarLoadComplete
  repeat' first
    | (with_reducible assumption)
    | (exact (rfl : Nat.lor _ _ = _))
    | (with_reducible refine State.grmCheck_follows ?_ ?_)
    | (with_reducible refine State.grmFail_follows ?_ ?_)
    | (with_reducible apply State.Ends.next)
    | (with_reducible apply State.Follows.ite)

theorem State.grmTimeout_follows {μ : Nat} {s₀ : State} {s : State} {g : Nat} (hm : Nat.lor 177892185281135384 μ = μ) (h₀ : s₀.Follows μ s) :
    s₀.Follows μ (State.grmTimeout s g) := by
  refine State.Follows.lift hm h₀ ?_
  have h := State.Follows.refl 177892185281135384 s
  unfold State.grmTimeout
  repeat' first
    | (with_reducible assumption)
    | (exact (rfl : Nat.lor _ _ = _))
    | (with_reducible refine State.grmFail_follows ?_ ?_)
    | (with_reducible apply State.Follows.ite)

theorem execGrammarLoadTimeout_follows {μ : Nat} {s₀ : State} {slot : Nat} {s : State} (hm : Nat.lor 177892185281135384 μ = μ) (h₀ : s₀.Follows μ s) :
    s₀.Ends μ (execGrammarLoadTimeout slot s) := by
  refine State.Ends.lift hm h₀ ?_
  have h := State.Follows.refl 177892185281135384 s
  unfold execGrammarLoadTimeout
  repeat' first
    | (with_reducible assumption)
    | (exact (rfl : Nat.lor _ _ = _))
    | (with_reducible refine State.grmTimeout_follows ?_ ?_)
    | (with_reducible apply State.Ends.next)

theorem execGrmLoad_follows {μ : Nat} {s₀ : State} {slot : Nat} {port : Port} {s : State} (hm : Nat.lor 2251799813685256 μ = μ) (h₀ : s₀.Follows μ s) :
    s₀.Ends μ (execGrmLoad slot port s) := by
  refine State.Ends.lift hm h₀ ?_
  have h := State.Follows.refl 2251799813685256 s
  unfold execGrmLoad
  repeat' first
    | (with_reducible assumption)
    | (exact (rfl : Nat.lor _ _ = _))
    | (with_reducible refine State.grmLoad_follows ?_ ?_)
    | (with_reducible apply State.Ends.next)

theorem execGrmUnload_follows {μ : Nat} {s₀ : State} {slot : Nat} {port : Port} {s : State} (hm : Nat.lor 159877786771653400 μ = μ) (h₀ : s₀.Follows μ s) :
    s₀.Ends μ (execGrmUnload slot port s) := by
  refine State.Ends.lift hm h₀ ?_
  have h := State.Follows.refl 159877786771653400 s
  unfold execGrmUnload
  repeat' first
    | (with_reducible assumption)
    | (exact (rfl : Nat.lor _ _ = _))
    | (with_reducible refine State.grmUnload_follows ?_ ?_)
    | (with_reducible apply State.Ends.next)

theorem State.grmBoundary_follows {μ : Nat} {s₀ : State} {s : State} (hm : Nat.lor 159877786771653400 μ = μ) (h₀ : s₀.Follows μ s) :
    s₀.Follows μ (State.grmBoundary s) := by
  refine State.Follows.lift hm h₀ ?_
  have h := State.Follows.refl 159877786771653400 s
  unfold State.grmBoundary
  repeat' first
    | (with_reducible assumption)
    | (exact (rfl : Nat.lor _ _ = _))
    | (with_reducible refine State.grmUnloaded_follows ?_ ?_)
    | (with_reducible apply State.Follows.ite)
    | (with_reducible refine State.Follows.foldl _ ?_ ?_)
    | (intro _ _ _)

theorem State.grmLinkLost_follows {μ : Nat} {s₀ : State} {s : State} {p : Nat} (hm : Nat.lor 177892185281135384 μ = μ) (h₀ : s₀.Follows μ s) :
    s₀.Follows μ (State.grmLinkLost s p) := by
  refine State.Follows.lift hm h₀ ?_
  have h := State.Follows.refl 177892185281135384 s
  unfold State.grmLinkLost
  repeat' first
    | (with_reducible assumption)
    | (exact (rfl : Nat.lor _ _ = _))
    | (with_reducible refine State.grmTimeout_follows ?_ ?_)
    | (with_reducible apply State.Follows.ite)
    | (with_reducible refine State.Follows.foldl _ ?_ ?_)
    | (intro _ _ _)

theorem State.grmFetch_follows {μ : Nat} {s₀ : State} {s : State} {g st : Nat} (hm : Nat.lor 8 μ = μ) (h₀ : s₀.Follows μ s) :
    s₀.Follows μ (State.grmFetch s g st) := by
  refine State.Follows.lift hm h₀ ?_
  have h := State.Follows.refl 8 s
  unfold State.grmFetch
  repeat' first
    | (with_reducible assumption)
    | (exact (rfl : Nat.lor _ _ = _))
    | (with_reducible refine State.emit_follows ?_ ?_)
    | (with_reducible refine State.Follows.foldl _ ?_ ?_)
    | (intro _ _ _)

theorem State.grmReadFailed_follows {μ : Nat} {s₀ : State} {s : State} {g i q cause : Nat} (hm : Nat.lor 153219144353841944 μ = μ) (h₀ : s₀.Follows μ s) :
    s₀.Follows μ (State.grmReadFailed s g i q cause) := by
  refine State.Follows.lift hm h₀ ?_
  have h := State.Follows.refl 153219144353841944 s
  unfold State.grmReadFailed
  repeat' first
    | (with_reducible assumption)
    | (exact (rfl : Nat.lor _ _ = _))
    | (with_reducible refine State.logEvent_follows ?_ ?_)
    | (with_reducible refine State.smpCount_follows ?_ ?_)
    | (with_reducible refine State.stepCheck_follows ?_ ?_)
    | (with_reducible refine State.updSeq_follows ?_ ?_)

theorem execGrammarFetchComplete_follows {μ : Nat} {s₀ : State} {slot line : Nat} {error : Bool} {bytes : List Byte} {inst seq : Nat} {s : State} (hm : Nat.lor 157722743981212440 μ = μ) (h₀ : s₀.Follows μ s) :
    s₀.Ends μ (execGrammarFetchComplete slot line error bytes inst seq s) := by
  refine State.Ends.lift hm h₀ ?_
  have h := State.Follows.refl 157722743981212440 s
  unfold execGrammarFetchComplete
  repeat' first
    | (with_reducible assumption)
    | (exact (rfl : Nat.lor _ _ = _))
    | (with_reducible refine State.grmFetch_follows ?_ ?_)
    | (with_reducible refine State.grmReadFailed_follows ?_ ?_)
    | (with_reducible refine State.smpCount64_follows ?_ ?_)
    | (with_reducible apply State.Ends.next)
    | (with_reducible apply State.Follows.ite)
    | ((with_reducible apply State.Follows.keep) <;> first | exact trivial | exact rfl | skip)

theorem execGrammarReadTimeout_follows {μ : Nat} {s₀ : State} {slot inst seq : Nat} {s : State} (hm : Nat.lor 153219144353841944 μ = μ) (h₀ : s₀.Follows μ s) :
    s₀.Ends μ (execGrammarReadTimeout slot inst seq s) := by
  refine State.Ends.lift hm h₀ ?_
  have h := State.Follows.refl 153219144353841944 s
  unfold execGrammarReadTimeout
  repeat' first
    | (with_reducible assumption)
    | (exact (rfl : Nat.lor _ _ = _))
    | (with_reducible refine State.grmReadFailed_follows ?_ ?_)
    | (with_reducible apply State.Ends.next)

end Sys2Proof.Machine
end

