-- ==== Sys2Proof/Laws/FollowsPrefix.lean ====
section
/-!
SUPPORT. The operations of Machine/Prefix.lean keep the relation `State.Follows`. The number in a lemma is the mask of the
components that its operation may change.
-/
namespace Sys2Proof.Machine
open Sys2Proof

theorem State.updPfx_follows {μ : Nat} {s₀ : State} {s : State} {k : Nat} {f : Prefix → Prefix} (hm : Nat.lor 34359738368 μ = μ) (h₀ : s₀.Follows μ s) :
    s₀.Follows μ (State.updPfx s k f) := by
  refine State.Follows.lift hm h₀ ?_
  have h := State.Follows.refl 34359738368 s
  unfold State.updPfx
  repeat' first
    | (with_reducible assumption)
    | ((with_reducible apply State.Follows.keep) <;> first | exact trivial | exact rfl | skip)

theorem State.pfxEmpty_follows {μ : Nat} {s₀ : State} {s : State} {k : Nat} (hm : Nat.lor 51539607552 μ = μ) (h₀ : s₀.Follows μ s) :
    s₀.Follows μ (State.pfxEmpty s k) := by
  refine State.Follows.lift hm h₀ ?_
  have h := State.Follows.refl 51539607552 s
  unfold State.pfxEmpty
  repeat' first
    | (with_reducible assumption)
    | (exact (rfl : Nat.lor _ _ = _))
    | (with_reducible refine State.updPfx_follows ?_ ?_)
    | ((with_reducible apply State.Follows.keep) <;> first | exact trivial | exact rfl | skip)

theorem State.pfxFail_follows {μ : Nat} {s₀ : State} {s : State} {k i status : Nat} (hm : Nat.lor 153122421690336024 μ = μ) (h₀ : s₀.Follows μ s) :
    s₀.Follows μ (State.pfxFail s k i status) := by
  refine State.Follows.lift hm h₀ ?_
  have h := State.Follows.refl 153122421690336024 s
  unfold State.pfxFail
  repeat' first
    | (with_reducible assumption)
    | (exact (rfl : Nat.lor _ _ = _))
    | (with_reducible refine State.logEvent_follows ?_ ?_)
    | (with_reducible refine State.updPfx_follows ?_ ?_)

theorem State.pfxLoad_follows {μ : Nat} {s₀ : State} {s : State} {k : Nat} {port : Port} {i : Nat} (hm : Nat.lor 153122438870205208 μ = μ) (h₀ : s₀.Follows μ s) :
    s₀.Follows μ (State.pfxLoad s k port i).1 := by
  refine State.Follows.lift hm h₀ ?_
  have h := State.Follows.refl 153122438870205208 s
  unfold State.pfxLoad
  repeat' first
    | (with_reducible assumption)
    | (exact (rfl : Nat.lor _ _ = _))
    | (with_reducible refine State.emit_follows ?_ ?_)
    | (with_reducible refine State.pfxFail_follows ?_ ?_)
    | (with_reducible refine State.updPfx_follows ?_ ?_)
    | (with_reducible apply State.Follows.ite_fst)
    | ((with_reducible apply State.Follows.keep) <;> first | exact trivial | exact rfl | skip)

theorem State.pfxUnloaded_follows {μ : Nat} {s₀ : State} {s : State} {k cause : Nat} (hm : Nat.lor 153122438870205208 μ = μ) (h₀ : s₀.Follows μ s) :
    s₀.Follows μ (State.pfxUnloaded s k cause) := by
  refine State.Follows.lift hm h₀ ?_
  have h := State.Follows.refl 153122438870205208 s
  unfold State.pfxUnloaded
  repeat' first
    | (with_reducible assumption)
    | (exact (rfl : Nat.lor _ _ = _))
    | (with_reducible refine State.logEvent_follows ?_ ?_)
    | (with_reducible refine State.pfxEmpty_follows ?_ ?_)

theorem State.pfxUnload_follows {μ : Nat} {s₀ : State} {s : State} {k : Nat} (hm : Nat.lor 153122438870205208 μ = μ) (h₀ : s₀.Follows μ s) :
    s₀.Follows μ (State.pfxUnload s k).1 := by
  refine State.Follows.lift hm h₀ ?_
  have h := State.Follows.refl 153122438870205208 s
  unfold State.pfxUnload
  repeat' first
    | (with_reducible assumption)
    | (exact (rfl : Nat.lor _ _ = _))
    | (with_reducible refine State.pfxUnloaded_follows ?_ ?_)
    | (with_reducible refine State.updPfx_follows ?_ ?_)
    | (with_reducible apply State.Follows.ite_fst)
    | split

theorem State.pfxFetchFailed_follows {μ : Nat} {s₀ : State} {s : State} {k : Nat} (hm : Nat.lor 171136837379687192 μ = μ) (h₀ : s₀.Follows μ s) :
    s₀.Follows μ (State.pfxFetchFailed s k) := by
  refine State.Follows.lift hm h₀ ?_
  have h := State.Follows.refl 171136837379687192 s
  unfold State.pfxFetchFailed
  repeat' first
    | (with_reducible assumption)
    | (exact (rfl : Nat.lor _ _ = _))
    | (with_reducible refine State.finish_follows ?_ ?_)
    | (with_reducible refine State.pfxEmpty_follows ?_ ?_)
    | (with_reducible refine State.pfxFail_follows ?_ ?_)
    | (with_reducible apply State.Follows.ite)

theorem State.pfxLoaded_follows {μ : Nat} {s₀ : State} {s : State} {k : Nat} {image : List Byte} (hm : Nat.lor 171136822347301656 μ = μ) (h₀ : s₀.Follows μ s) :
    s₀.Follows μ (State.pfxLoaded s k image) := by
  refine State.Follows.lift hm h₀ ?_
  have h := State.Follows.refl 171136822347301656 s
  unfold State.pfxLoaded
  repeat' first
    | (with_reducible assumption)
    | (exact (rfl : Nat.lor _ _ = _))
    | (with_reducible refine State.finish_follows ?_ ?_)
    | (with_reducible refine State.logEvent_follows ?_ ?_)
    | (with_reducible refine State.updPfx_follows ?_ ?_)
    | (with_reducible refine State.writeSub_follows ?_ ?_)
    | (with_reducible apply State.Follows.ite)
    | (with_reducible refine State.Follows.foldl _ ?_ ?_)
    | (intro _ _ _)

theorem State.pfxBoundary_follows {μ : Nat} {s₀ : State} {s : State} {i : Nat} (hm : Nat.lor 153122438870205208 μ = μ) (h₀ : s₀.Follows μ s) :
    s₀.Follows μ (State.pfxBoundary s i) := by
  refine State.Follows.lift hm h₀ ?_
  have h := State.Follows.refl 153122438870205208 s
  unfold State.pfxBoundary
  repeat' first
    | (with_reducible assumption)
    | (exact (rfl : Nat.lor _ _ = _))
    | (with_reducible refine State.pfxUnloaded_follows ?_ ?_)
    | (with_reducible apply State.Follows.ite)
    | (with_reducible refine State.Follows.foldl _ ?_ ?_)
    | (intro _ _ _)

theorem State.pfxSealed_follows {μ : Nat} {s₀ : State} {s : State} {i : Nat} (hm : Nat.lor 171136837379687192 μ = μ) (h₀ : s₀.Follows μ s) :
    s₀.Follows μ (State.pfxSealed s i) := by
  refine State.Follows.lift hm h₀ ?_
  have h := State.Follows.refl 171136837379687192 s
  unfold State.pfxSealed
  repeat' first
    | (with_reducible assumption)
    | (exact (rfl : Nat.lor _ _ = _))
    | (with_reducible refine State.finish_follows ?_ ?_)
    | (with_reducible refine State.pfxUnloaded_follows ?_ ?_)
    | (with_reducible apply State.Follows.ite)
    | (with_reducible refine State.Follows.foldl _ ?_ ?_)
    | (intro _ _ _)

theorem State.pfxLinkLost_follows {μ : Nat} {s₀ : State} {s : State} {p : Nat} (hm : Nat.lor 171136837379687192 μ = μ) (h₀ : s₀.Follows μ s) :
    s₀.Follows μ (State.pfxLinkLost s p) := by
  refine State.Follows.lift hm h₀ ?_
  have h := State.Follows.refl 171136837379687192 s
  unfold State.pfxLinkLost
  repeat' first
    | (with_reducible assumption)
    | (exact (rfl : Nat.lor _ _ = _))
    | (with_reducible refine State.pfxFetchFailed_follows ?_ ?_)
    | (with_reducible apply State.Follows.ite)
    | (with_reducible refine State.Follows.foldl _ ?_ ?_)
    | (intro _ _ _)

theorem execPfxLoad_follows {μ : Nat} {s₀ : State} {slot : Nat} {port : Port} {inst : Nat} {s : State} (hm : Nat.lor 153122438870205208 μ = μ) (h₀ : s₀.Follows μ s) :
    s₀.Ends μ (execPfxLoad slot port inst s) := by
  refine State.Ends.lift hm h₀ ?_
  have h := State.Follows.refl 153122438870205208 s
  unfold execPfxLoad
  repeat' first
    | (with_reducible assumption)
    | (exact (rfl : Nat.lor _ _ = _))
    | (with_reducible refine State.pfxLoad_follows ?_ ?_)
    | (with_reducible apply State.Ends.next)

theorem execPfxUnload_follows {μ : Nat} {s₀ : State} {slot : Nat} {port : Port} {s : State} (hm : Nat.lor 153122438870205208 μ = μ) (h₀ : s₀.Follows μ s) :
    s₀.Ends μ (execPfxUnload slot port s) := by
  refine State.Ends.lift hm h₀ ?_
  have h := State.Follows.refl 153122438870205208 s
  unfold execPfxUnload
  repeat' first
    | (with_reducible assumption)
    | (exact (rfl : Nat.lor _ _ = _))
    | (with_reducible refine State.pfxUnload_follows ?_ ?_)
    | (with_reducible apply State.Ends.next)

theorem execPrefixLoadComplete_follows {μ : Nat} {s₀ : State} {slot : Nat} {image : List Byte} {s : State} (hm : Nat.lor 171136822347301656 μ = μ) (h₀ : s₀.Follows μ s) :
    s₀.Ends μ (execPrefixLoadComplete slot image s) := by
  refine State.Ends.lift hm h₀ ?_
  have h := State.Follows.refl 171136822347301656 s
  unfold execPrefixLoadComplete
  repeat' first
    | (with_reducible assumption)
    | (exact (rfl : Nat.lor _ _ = _))
    | (with_reducible refine State.pfxLoaded_follows ?_ ?_)
    | (with_reducible apply State.Ends.next)

theorem execPrefixFetchError_follows {μ : Nat} {s₀ : State} {slot : Nat} {s : State} (hm : Nat.lor 171136837379687192 μ = μ) (h₀ : s₀.Follows μ s) :
    s₀.Ends μ (execPrefixFetchError slot s) := by
  refine State.Ends.lift hm h₀ ?_
  have h := State.Follows.refl 171136837379687192 s
  unfold execPrefixFetchError
  repeat' first
    | (with_reducible assumption)
    | (exact (rfl : Nat.lor _ _ = _))
    | (with_reducible refine State.pfxFetchFailed_follows ?_ ?_)
    | (with_reducible apply State.Ends.next)

theorem execPrefixFetchTimeout_follows {μ : Nat} {s₀ : State} {slot : Nat} {s : State} (hm : Nat.lor 171136837379687192 μ = μ) (h₀ : s₀.Follows μ s) :
    s₀.Ends μ (execPrefixFetchTimeout slot s) := by
  refine State.Ends.lift hm h₀ ?_
  have h := State.Follows.refl 171136837379687192 s
  unfold execPrefixFetchTimeout
  repeat' first
    | (with_reducible assumption)
    | (exact (rfl : Nat.lor _ _ = _))
    | (with_reducible refine State.pfxFetchFailed_follows ?_ ?_)
    | (with_reducible apply State.Ends.next)

end Sys2Proof.Machine
end

