-- ==== Sys2Proof/Laws/FollowsCalib.lean ====
section
/-!
SUPPORT. The operations of Machine/Calib.lean keep the relation `State.Follows`. The number in a lemma is the mask of the
components that its operation may change.
-/
namespace Sys2Proof.Machine
open Sys2Proof

theorem execCalTurnDue_follows {μ : Nat} {s₀ : State} {core : Nat} {s : State} (hm : Nat.lor 294928 μ = μ) (h₀ : s₀.Follows μ s) :
    s₀.Ends μ (execCalTurnDue core s) := by
  refine State.Ends.lift hm h₀ ?_
  have h := State.Follows.refl 294928 s
  unfold execCalTurnDue
  repeat' first
    | (with_reducible assumption)
    | (exact (rfl : Nat.lor _ _ = _))
    | (with_reducible refine State.count_follows ?_ ?_)
    | (with_reducible refine State.updArr_follows ?_ ?_)
    | (with_reducible refine State.updCal_follows ?_ ?_)
    | (with_reducible apply State.Ends.next)
    | (with_reducible apply State.Ends.ite)
    | split

theorem execSpareArrayReady_follows {μ : Nat} {s₀ : State} {core : Nat} {frontOk backOk : Bool} {s : State} (hm : Nat.lor 572023678624996819736 μ = μ) (h₀ : s₀.Follows μ s) :
    s₀.Ends μ (execSpareArrayReady core frontOk backOk s) := by
  refine State.Ends.lift hm h₀ ?_
  have h := State.Follows.refl 572023678624996819736 s
  unfold execSpareArrayReady
  repeat' first
    | (with_reducible assumption)
    | (exact (rfl : Nat.lor _ _ = _))
    | (with_reducible refine State.arrayRetire_follows ?_ ?_)
    | (with_reducible refine State.updArr_follows ?_ ?_)
    | (with_reducible refine State.updCal_follows ?_ ?_)
    | (with_reducible apply State.Ends.next)
    | (with_reducible apply State.Ends.ite)

theorem execCalComparisonComplete_follows {μ : Nat} {s₀ : State} {core : Nat} {conv : List (List Nat)} {overs : List (Nat × Nat)} {s : State} (hm : Nat.lor 294928 μ = μ) (h₀ : s₀.Follows μ s) :
    s₀.Ends μ (execCalComparisonComplete core conv overs s) := by
  refine State.Ends.lift hm h₀ ?_
  have h := State.Follows.refl 294928 s
  unfold execCalComparisonComplete
  repeat' first
    | (with_reducible assumption)
    | (exact (rfl : Nat.lor _ _ = _))
    | (with_reducible refine State.arrCount_follows ?_ ?_)
    | (with_reducible refine State.updArr_follows ?_ ?_)
    | (with_reducible refine State.updCal_follows ?_ ?_)
    | (with_reducible apply State.Ends.next)
    | (with_reducible apply State.Ends.ite)
    | split
    | dsimp only

theorem execCalTurnLimit_follows {μ : Nat} {s₀ : State} {core : Nat} {s : State} (hm : Nat.lor 153122387330859800 μ = μ) (h₀ : s₀.Follows μ s) :
    s₀.Ends μ (execCalTurnLimit core s) := by
  refine State.Ends.lift hm h₀ ?_
  have h := State.Follows.refl 153122387330859800 s
  unfold execCalTurnLimit
  repeat' first
    | (with_reducible assumption)
    | (exact (rfl : Nat.lor _ _ = _))
    | (with_reducible refine State.abandonTurn_follows ?_ ?_)
    | (with_reducible refine State.updCal_follows ?_ ?_)
    | (with_reducible apply State.Ends.next)
    | (with_reducible apply State.Ends.ite)
    | (with_reducible apply State.Follows.ite)

theorem State.updStore_follows {μ : Nat} {s₀ : State} {s : State} {d : Nat} {f : CalStore → CalStore} (hm : Nat.lor 524288 μ = μ) (h₀ : s₀.Follows μ s) :
    s₀.Follows μ (State.updStore s d f) := by
  refine State.Follows.lift hm h₀ ?_
  have h := State.Follows.refl 524288 s
  unfold State.updStore
  repeat' first
    | (with_reducible assumption)
    | ((with_reducible apply State.Follows.keep) <;> first | exact trivial | exact rfl | skip)

theorem State.calQueue_follows {μ : Nat} {s₀ : State} {s : State} {n a : Nat} (hm : Nat.lor 524288 μ = μ) (h₀ : s₀.Follows μ s) :
    s₀.Follows μ (State.calQueue s n a) := by
  refine State.Follows.lift hm h₀ ?_
  have h := State.Follows.refl 524288 s
  unfold State.calQueue
  repeat' first
    | (with_reducible assumption)
    | (exact (rfl : Nat.lor _ _ = _))
    | (with_reducible refine State.updStore_follows ?_ ?_)
    | (with_reducible apply State.Follows.ite)

theorem State.applyFit_follows {μ : Nat} {s₀ : State} {s : State} {n a : Nat} (hm : Nat.lor 153122387330630424 μ = μ) (h₀ : s₀.Follows μ s) :
    s₀.Follows μ (State.applyFit s n a) := by
  refine State.Follows.lift hm h₀ ?_
  have h := State.Follows.refl 153122387330630424 s
  unfold State.applyFit
  repeat' first
    | (with_reducible assumption)
    | (exact (rfl : Nat.lor _ _ = _))
    | (with_reducible refine State.logLimited_follows ?_ ?_)
    | (with_reducible refine State.updArr_follows ?_ ?_)
    | (with_reducible apply State.Follows.ite)
    | split

theorem execCalFitComplete_follows {μ : Nat} {s₀ : State} {core : Nat} {s : State} (hm : Nat.lor 1162319488983702995736 μ = μ) (h₀ : s₀.Follows μ s) :
    s₀.Ends μ (execCalFitComplete core s) := by
  refine State.Ends.lift hm h₀ ?_
  have h := State.Follows.refl 1162319488983702995736 s
  unfold execCalFitComplete
  repeat' first
    | (with_reducible assumption)
    | (exact (rfl : Nat.lor _ _ = _))
    | (with_reducible refine State.advise_follows ?_ ?_)
    | (with_reducible refine State.applyFit_follows ?_ ?_)
    | (with_reducible refine State.arrCount_follows ?_ ?_)
    | (with_reducible refine State.arrayRetire_follows ?_ ?_)
    | (with_reducible refine State.calQueue_follows ?_ ?_)
    | (with_reducible refine State.count_follows ?_ ?_)
    | (with_reducible refine State.updArr_follows ?_ ?_)
    | (with_reducible refine State.updCal_follows ?_ ?_)
    | (with_reducible apply State.Ends.next)
    | (with_reducible apply State.Ends.ite)
    | (with_reducible apply State.Follows.ite)

theorem State.standIn_follows {μ : Nat} {s₀ : State} {s : State} {n p : Nat} (hm : Nat.lor 32768 μ = μ) (h₀ : s₀.Follows μ s) :
    s₀.Follows μ (State.standIn s n p) := by
  refine State.Follows.lift hm h₀ ?_
  have h := State.Follows.refl 32768 s
  unfold State.standIn
  repeat' first
    | (with_reducible assumption)
    | (exact (rfl : Nat.lor _ _ = _))
    | (with_reducible refine State.updArr_follows ?_ ?_)

theorem State.abandonCheck_follows {μ : Nat} {s₀ : State} {s : State} {n a : Nat} (hm : Nat.lor 32784 μ = μ) (h₀ : s₀.Follows μ s) :
    s₀.Follows μ (State.abandonCheck s n a) := by
  refine State.Follows.lift hm h₀ ?_
  have h := State.Follows.refl 32784 s
  unfold State.abandonCheck
  repeat' first
    | (with_reducible assumption)
    | (exact (rfl : Nat.lor _ _ = _))
    | (with_reducible refine State.arrCount_follows ?_ ?_)
    | (with_reducible refine State.updArr_follows ?_ ?_)
    | split

theorem State.yieldOr_follows {μ : Nat} {s₀ : State} {s : State} {n a : Nat} {go : State → State} (hm : Nat.lor 262160 μ = μ) (h₀ : s₀.Follows μ s) (hgo : ∀ t, s₀.Follows μ t → s₀.Follows μ (go t)) :
    s₀.Follows μ (State.yieldOr s n a go) := by
  unfold State.yieldOr
  repeat' first
    | (with_reducible assumption)
    | (apply hgo)
    | (exact lor_mid rfl hm)
    | (with_reducible refine State.count_follows ?_ ?_)
    | (with_reducible refine State.updCal_follows ?_ ?_)
    | (with_reducible apply State.Follows.ite)

theorem State.calBoundary_follows {μ : Nat} {s₀ : State} {s : State} {n a : Nat} (hm : Nat.lor 153122387331416856 μ = μ) (h₀ : s₀.Follows μ s) :
    s₀.Follows μ (State.calBoundary s n a) := by
  refine State.Follows.lift hm h₀ ?_
  have h := State.Follows.refl 153122387331416856 s
  unfold State.calBoundary
  repeat' first
    | (with_reducible assumption)
    | (exact (rfl : Nat.lor _ _ = _))
    | (with_reducible refine State.abandonCheck_follows ?_ ?_)
    | (with_reducible refine State.applyFit_follows ?_ ?_)
    | (with_reducible refine State.calQueue_follows ?_ ?_)
    | (with_reducible refine State.count_follows ?_ ?_)
    | (with_reducible refine State.endStand_follows ?_ ?_)
    | (with_reducible refine State.standIn_follows ?_ ?_)
    | (with_reducible refine State.updCal_follows ?_ ?_)
    | (with_reducible refine State.yieldOr_follows ?_ ?_ ?_)
    | (with_reducible apply State.Follows.ite)
    | split
    | (intro _ _)
    | dsimp only

theorem State.calBad_follows {μ : Nat} {s₀ : State} {s : State} {value : Nat} {port : Port} (hm : Nat.lor 153122387330597656 μ = μ) (h₀ : s₀.Follows μ s) :
    s₀.Follows μ (State.calBad s value port) := by
  refine State.Follows.lift hm h₀ ?_
  have h := State.Follows.refl 153122387330597656 s
  unfold State.calBad
  repeat' first
    | (with_reducible assumption)
    | (exact (rfl : Nat.lor _ _ = _))
    | (with_reducible refine State.logEvent_follows ?_ ?_)

theorem State.calPrioritise_follows {μ : Nat} {s₀ : State} {s : State} {n a : Nat} {port : Port} (hm : Nat.lor 153122387330859800 μ = μ) (h₀ : s₀.Follows μ s) :
    s₀.Follows μ (State.calPrioritise s n a port).1 := by
  refine State.Follows.lift hm h₀ ?_
  have h := State.Follows.refl 153122387330859800 s
  unfold State.calPrioritise
  repeat' first
    | (with_reducible assumption)
    | (exact (rfl : Nat.lor _ _ = _))
    | (with_reducible refine State.calBad_follows ?_ ?_)
    | (with_reducible refine State.toFront_follows ?_ ?_)
    | (with_reducible apply State.Follows.ite_fst)

theorem execCalPrioritise_follows {μ : Nat} {s₀ : State} {core pos : Nat} {port : Port} {s : State} (hm : Nat.lor 153122387330859800 μ = μ) (h₀ : s₀.Follows μ s) :
    s₀.Ends μ (execCalPrioritise core pos port s) := by
  refine State.Ends.lift hm h₀ ?_
  have h := State.Follows.refl 153122387330859800 s
  unfold execCalPrioritise
  repeat' first
    | (with_reducible assumption)
    | (exact (rfl : Nat.lor _ _ = _))
    | (with_reducible refine State.calPrioritise_follows ?_ ?_)
    | (with_reducible apply State.Ends.next)
    | (with_reducible apply State.Ends.ite)

theorem State.calSave_follows {μ : Nat} {s₀ : State} {s : State} {n key : Nat} (hm : Nat.lor 1572864 μ = μ) (h₀ : s₀.Follows μ s) :
    s₀.Follows μ (State.calSave s n key).1 := by
  refine State.Follows.lift hm h₀ ?_
  have h := State.Follows.refl 1572864 s
  unfold State.calSave
  repeat' first
    | (with_reducible assumption)
    | (exact (rfl : Nat.lor _ _ = _))
    | (with_reducible refine State.calQueue_follows ?_ ?_)
    | (with_reducible apply State.Follows.ite_fst)
    | (with_reducible refine State.Follows.foldl _ ?_ ?_)
    | (intro _ _ _)
    | dsimp only
    | ((with_reducible apply State.Follows.keep) <;> first | exact trivial | exact rfl | skip)

theorem execCalSave_follows {μ : Nat} {s₀ : State} {core : Nat} {port : Port} {s : State} (hm : Nat.lor 1572864 μ = μ) (h₀ : s₀.Follows μ s) :
    s₀.Ends μ (execCalSave core port s) := by
  refine State.Ends.lift hm h₀ ?_
  have h := State.Follows.refl 1572864 s
  unfold execCalSave
  repeat' first
    | (with_reducible assumption)
    | (exact (rfl : Nat.lor _ _ = _))
    | (with_reducible refine State.calSave_follows ?_ ?_)
    | (with_reducible apply State.Ends.next)
    | (with_reducible apply State.Ends.ite)

theorem State.hourlyEnd_follows {μ : Nat} {s₀ : State} {s : State} {d : Nat} (hm : Nat.lor 153122387331121944 μ = μ) (h₀ : s₀.Follows μ s) :
    s₀.Follows μ (State.hourlyEnd s d) := by
  refine State.Follows.lift hm h₀ ?_
  have h := State.Follows.refl 153122387331121944 s
  unfold State.hourlyEnd
  repeat' first
    | (with_reducible assumption)
    | (exact (rfl : Nat.lor _ _ = _))
    | (with_reducible refine State.logEvent_follows ?_ ?_)
    | (with_reducible refine State.updStore_follows ?_ ?_)

theorem execHourlySave_follows {μ : Nat} {s₀ : State} {s : State} (hm : Nat.lor 153122387331121944 μ = μ) (h₀ : s₀.Follows μ s) :
    s₀.Ends μ (execHourlySave s) := by
  refine State.Ends.lift hm h₀ ?_
  have h := State.Follows.refl 153122387331121944 s
  unfold execHourlySave
  repeat' first
    | (with_reducible assumption)
    | (exact (rfl : Nat.lor _ _ = _))
    | (with_reducible refine State.calQueue_follows ?_ ?_)
    | (with_reducible refine State.hourlyEnd_follows ?_ ?_)
    | (with_reducible refine State.updStore_follows ?_ ?_)
    | (with_reducible apply State.Ends.next)
    | (with_reducible apply State.Follows.ite)
    | (with_reducible refine State.Follows.foldl _ ?_ ?_)
    | (intro _ _ _)

theorem State.saveEnded_follows {μ : Nat} {s₀ : State} {s : State} {d key : Nat} {written : Bool} (hm : Nat.lor 171136785841652504 μ = μ) (h₀ : s₀.Follows μ s) :
    s₀.Follows μ (State.saveEnded s d key written) := by
  refine State.Follows.lift hm h₀ ?_
  have h := State.Follows.refl 171136785841652504 s
  unfold State.saveEnded
  repeat' first
    | (with_reducible assumption)
    | (exact (rfl : Nat.lor _ _ = _))
    | (with_reducible refine State.finish_follows ?_ ?_)
    | (with_reducible refine State.hourlyEnd_follows ?_ ?_)
    | (with_reducible refine State.updStore_follows ?_ ?_)
    | (with_reducible refine State.Follows.foldl _ ?_ ?_)
    | split
    | (intro _ _ _)
    | ((with_reducible apply State.Follows.keep) <;> first | exact trivial | exact rfl | skip)

theorem State.saveDropped_follows {μ : Nat} {s₀ : State} {s : State} {d key : Nat} (hm : Nat.lor 171136785841652504 μ = μ) (h₀ : s₀.Follows μ s) :
    s₀.Follows μ (State.saveDropped s d key) := by
  refine State.Follows.lift hm h₀ ?_
  have h := State.Follows.refl 171136785841652504 s
  unfold State.saveDropped
  repeat' first
    | (with_reducible assumption)
    | (exact (rfl : Nat.lor _ _ = _))
    | (with_reducible refine State.count_follows ?_ ?_)
    | (with_reducible refine State.logEvent_follows ?_ ?_)
    | (with_reducible refine State.saveEnded_follows ?_ ?_)
    | (with_reducible refine State.updStore_follows ?_ ?_)

theorem execCalRecordWriteComplete_follows {μ : Nat} {s₀ : State} {die : Nat} {verified : Bool} {s : State} (hm : Nat.lor 171136785841685272 μ = μ) (h₀ : s₀.Follows μ s) :
    s₀.Ends μ (execCalRecordWriteComplete die verified s) := by
  refine State.Ends.lift hm h₀ ?_
  have h := State.Follows.refl 171136785841685272 s
  unfold execCalRecordWriteComplete
  repeat' first
    | (with_reducible assumption)
    | (exact (rfl : Nat.lor _ _ = _))
    | (with_reducible refine State.count_follows ?_ ?_)
    | (with_reducible refine State.saveDropped_follows ?_ ?_)
    | (with_reducible refine State.saveEnded_follows ?_ ?_)
    | (with_reducible refine State.updArr_follows ?_ ?_)
    | (with_reducible refine State.updStore_follows ?_ ?_)
    | (with_reducible apply State.Ends.next)
    | (with_reducible apply State.Follows.ite)
    | split
    | dsimp only

theorem execSaveHoldExpiry_follows {μ : Nat} {s₀ : State} {die core pos : Nat} {s : State} (hm : Nat.lor 524288 μ = μ) (h₀ : s₀.Follows μ s) :
    s₀.Ends μ (execSaveHoldExpiry die core pos s) := by
  refine State.Ends.lift hm h₀ ?_
  have h := State.Follows.refl 524288 s
  unfold execSaveHoldExpiry
  repeat' first
    | (with_reducible assumption)
    | (exact (rfl : Nat.lor _ _ = _))
    | (with_reducible refine State.updStore_follows ?_ ?_)
    | (with_reducible apply State.Ends.next)

theorem State.takeRecord_follows {μ : Nat} {s₀ : State} {s : State} {d n a : Nat} (hm : Nat.lor 153122387330892568 μ = μ) (h₀ : s₀.Follows μ s) :
    s₀.Follows μ (State.takeRecord s d n a) := by
  refine State.Follows.lift hm h₀ ?_
  have h := State.Follows.refl 153122387330892568 s
  unfold State.takeRecord
  repeat' first
    | (with_reducible assumption)
    | (exact (rfl : Nat.lor _ _ = _))
    | (with_reducible refine State.logEvent_follows ?_ ?_)
    | (with_reducible refine State.toFront_follows ?_ ?_)
    | (with_reducible refine State.updArr_follows ?_ ?_)
    | (with_reducible apply State.Follows.ite)
    | split

theorem execCalPoolReadComplete_follows {μ : Nat} {s₀ : State} {die : Nat} {bad : List Nat} {s : State} (hm : Nat.lor 153122387331416856 μ = μ) (h₀ : s₀.Follows μ s) :
    s₀.Ends μ (execCalPoolReadComplete die bad s) := by
  refine State.Ends.lift hm h₀ ?_
  have h := State.Follows.refl 153122387331416856 s
  unfold execCalPoolReadComplete
  repeat' first
    | (with_reducible assumption)
    | (exact (rfl : Nat.lor _ _ = _))
    | (with_reducible refine State.logEvent_follows ?_ ?_)
    | (with_reducible refine State.setRegN_follows ?_ ?_)
    | (with_reducible refine State.takeRecord_follows ?_ ?_)
    | (with_reducible refine State.updStore_follows ?_ ?_)
    | (with_reducible apply State.Ends.next)
    | (with_reducible refine State.Follows.foldl _ ?_ ?_)
    | (intro _ _ _)

end Sys2Proof.Machine
end

