-- ==== Sys2Proof/Laws/FollowsCoreEvents.lean ====
section
/-!
SUPPORT. The operations of Machine/CoreEvents.lean keep the relation `State.Follows`. The number in a lemma is the mask of the
components that its operation may change.
-/
namespace Sys2Proof.Machine
open Sys2Proof

theorem execWaitTimeout_follows {μ : Nat} {s₀ : State} {core thread : Nat} {s : State} (hm : Nat.lor 10485760 μ = μ) (h₀ : s₀.Follows μ s) :
    s₀.Ends μ (execWaitTimeout core thread s) := by
  refine State.Ends.lift hm h₀ ?_
  have h := State.Follows.refl 10485760 s
  unfold execWaitTimeout
  repeat' first
    | (with_reducible assumption)
    | (exact (rfl : Nat.lor _ _ = _))
    | (with_reducible refine State.setP_follows ?_ ?_)
    | (with_reducible refine State.updCtx_follows ?_ ?_)
    | (with_reducible apply State.Ends.next)
    | (with_reducible apply State.Ends.ite)

theorem execThreadWatchdog_follows {μ : Nat} {s₀ : State} {core thread : Nat} {s : State} (hm : Nat.lor 153122387341083416 μ = μ) (h₀ : s₀.Follows μ s) :
    s₀.Ends μ (execThreadWatchdog core thread s) := by
  refine State.Ends.lift hm h₀ ?_
  have h := State.Follows.refl 153122387341083416 s
  unfold execThreadWatchdog
  repeat' first
    | (with_reducible assumption)
    | (exact (rfl : Nat.lor _ _ = _))
    | (with_reducible refine State.logEvent_follows ?_ ?_)
    | (with_reducible refine State.updCtx_follows ?_ ?_)
    | (with_reducible apply State.Ends.next)
    | (with_reducible apply State.Ends.ite)

theorem State.restrike_follows {μ : Nat} {s₀ : State} {s : State} {n id : Nat} (hm : Nat.lor 2129920 μ = μ) (h₀ : s₀.Follows μ s) :
    s₀.Follows μ (State.restrike s n id) := by
  refine State.Follows.lift hm h₀ ?_
  have h := State.Follows.refl 2129920 s
  unfold State.restrike
  repeat' first
    | (with_reducible assumption)
    | (exact (rfl : Nat.lor _ _ = _))
    | (with_reducible refine State.updArr_follows ?_ ?_)
    | (with_reducible refine State.updCore_follows ?_ ?_)
    | (with_reducible refine State.Follows.foldl _ ?_ ?_)
    | split
    | (intro _ _ _)

theorem State.resendXfer_follows {μ : Nat} {s₀ : State} {s : State} {n : Nat} {f : Flight} (hm : Nat.lor 156597942090728216 μ = μ) (h₀ : s₀.Follows μ s) :
    s₀.Follows μ (State.resendXfer s n f) := by
  refine State.Follows.lift hm h₀ ?_
  have h := State.Follows.refl 156597942090728216 s
  unfold State.resendXfer
  repeat' first
    | (with_reducible assumption)
    | (exact (rfl : Nat.lor _ _ = _))
    | (with_reducible refine State.freeBlocks_follows ?_ ?_)
    | (with_reducible refine State.sendXfer_follows ?_ ?_)
    | (with_reducible refine State.updFlight_follows ?_ ?_)
    | split
    | dsimp only
    | ((with_reducible apply State.Follows.keep) <;> first | exact trivial | exact rfl | skip)

theorem execParityFailure_follows {μ : Nat} {s₀ : State} {core flight path pos : Nat} {s : State} (hm : Nat.lor 572023678625613382424 μ = μ) (h₀ : s₀.Follows μ s) :
    s₀.Ends μ (execParityFailure core flight path pos s) := by
  refine State.Ends.lift hm h₀ ?_
  have h := State.Follows.refl 572023678625613382424 s
  unfold execParityFailure
  repeat' first
    | (with_reducible assumption)
    | (exact (rfl : Nat.lor _ _ = _))
    | (with_reducible refine State.arrayRetire_follows ?_ ?_)
    | (with_reducible refine State.coreCount_follows ?_ ?_)
    | (with_reducible refine State.coreRetire_follows ?_ ?_)
    | (with_reducible refine State.resendXfer_follows ?_ ?_)
    | (with_reducible refine State.restrike_follows ?_ ?_)
    | (with_reducible refine State.updCore_follows ?_ ?_)
    | (with_reducible refine State.updCtx_follows ?_ ?_)
    | (with_reducible refine State.updFlight_follows ?_ ?_)
    | (with_reducible apply State.Ends.next)
    | (with_reducible apply State.Ends.ite)
    | (with_reducible apply State.Follows.ite)
    | split

theorem execInstructionRetirement_follows {μ : Nat} {s₀ : State} {core flight : Nat} {s : State} (hm : Nat.lor 590448932746046735128 μ = μ) (h₀ : s₀.Follows μ s) :
    s₀.Ends μ (execInstructionRetirement core flight s) := by
  refine State.Ends.lift hm h₀ ?_
  have h := State.Follows.refl 590448932746046735128 s
  unfold execInstructionRetirement
  repeat' first
    | (with_reducible assumption)
    | (exact (rfl : Nat.lor _ _ = _))
    | (with_reducible refine State.retireWake_follows ?_ ?_)
    | (with_reducible refine State.updCore_follows ?_ ?_)
    | (with_reducible refine State.updRegion_follows ?_ ?_)
    | (with_reducible refine State.xferDone_follows ?_ ?_)
    | (with_reducible apply State.Ends.next)
    | (with_reducible apply State.Ends.ite)
    | (with_reducible apply State.Follows.ite)
    | split

theorem execCompletionFault_follows {μ : Nat} {s₀ : State} {core flight : Nat} {se : Bool} {s : State} (hm : Nat.lor 156597941453194008 μ = μ) (h₀ : s₀.Follows μ s) :
    s₀.Ends μ (execCompletionFault core flight se s) := by
  refine State.Ends.lift hm h₀ ?_
  have h := State.Follows.refl 156597941453194008 s
  unfold execCompletionFault
  repeat' first
    | (with_reducible assumption)
    | (exact (rfl : Nat.lor _ _ = _))
    | (with_reducible refine State.faultStall_follows ?_ ?_)
    | (with_reducible refine State.flightFault_follows ?_ ?_)
    | (with_reducible refine State.remoteFault_follows ?_ ?_)
    | (with_reducible apply State.Ends.next)
    | split

theorem State.mirror_follows {μ : Nat} {s₀ : State} {s : State} {n layer : Nat} {o : Opnd} (hm : Nat.lor 6291472 μ = μ) (h₀ : s₀.Follows μ s) :
    s₀.Follows μ (State.mirror s n layer o) := by
  refine State.Follows.lift hm h₀ ?_
  have h := State.Follows.refl 6291472 s
  unfold State.mirror
  repeat' first
    | (with_reducible assumption)
    | (exact (rfl : Nat.lor _ _ = _))
    | (with_reducible refine State.count_follows ?_ ?_)
    | (with_reducible refine State.updCluster_follows ?_ ?_)
    | (with_reducible refine State.updCore_follows ?_ ?_)

theorem State.repeatXfer_follows {μ : Nat} {s₀ : State} {s : State} {n : Nat} {x : Xfer} (hm : Nat.lor 156597942090760984 μ = μ) (h₀ : s₀.Follows μ s) :
    s₀.Follows μ (State.repeatXfer s n x) := by
  refine State.Follows.lift hm h₀ ?_
  have h := State.Follows.refl 156597942090760984 s
  unfold State.repeatXfer
  repeat' first
    | (with_reducible assumption)
    | (exact (rfl : Nat.lor _ _ = _))
    | (with_reducible refine State.enter_follows ?_ ?_)
    | (with_reducible refine State.sendXfer_follows ?_ ?_)
    | (with_reducible refine State.updArr_follows ?_ ?_)
    | (with_reducible apply State.Follows.ite)

theorem State.faultCore_follows {μ : Nat} {s₀ : State} {s : State} {n : Nat} (hm : Nat.lor 156597941440611096 μ = μ) (h₀ : s₀.Follows μ s) :
    s₀.Follows μ (State.faultCore s n) := by
  refine State.Follows.lift hm h₀ ?_
  have h := State.Follows.refl 156597941440611096 s
  unfold State.faultCore
  repeat' first
    | (with_reducible assumption)
    | (exact (rfl : Nat.lor _ _ = _))
    | (with_reducible refine State.faultStall_follows ?_ ?_)
    | (with_reducible refine State.updCore_follows ?_ ?_)

theorem State.restore_follows {μ : Nat} {s₀ : State} {s : State} {n : Nat} {fault : Bool} (hm : Nat.lor 156597942090760984 μ = μ) (h₀ : s₀.Follows μ s) :
    s₀.Follows μ (State.restore s n fault) := by
  refine State.Follows.lift hm h₀ ?_
  have h := State.Follows.refl 156597942090760984 s
  unfold State.restore
  repeat' first
    | (with_reducible assumption)
    | (exact (rfl : Nat.lor _ _ = _))
    | (with_reducible refine State.dropStrikes_follows ?_ ?_)
    | (with_reducible refine State.faultCore_follows ?_ ?_)
    | (with_reducible refine State.logEvent_follows ?_ ?_)
    | (with_reducible refine State.repeatXfer_follows ?_ ?_)
    | (with_reducible refine State.updCore_follows ?_ ?_)
    | (with_reducible refine State.wake_follows ?_ ?_)
    | (with_reducible apply State.Follows.ite)
    | (with_reducible refine State.Follows.foldl _ ?_ ?_)
    | split
    | (intro _ _ _)
    | dsimp only

theorem State.takeBoundary_follows {μ : Nat} {s₀ : State} {s : State} {n : Nat} (hm : Nat.lor 295301124323721347864 μ = μ) (h₀ : s₀.Follows μ s) :
    s₀.Follows μ (State.takeBoundary s n) := by
  refine State.Follows.lift hm h₀ ?_
  have h := State.Follows.refl 295301124323721347864 s
  unfold State.takeBoundary
  repeat' first
    | (with_reducible assumption)
    | (exact (rfl : Nat.lor _ _ = _))
    | (with_reducible refine State.addEvc_follows ?_ ?_)
    | (with_reducible refine State.coreClosed_follows ?_ ?_)
    | (with_reducible refine State.coreCount_follows ?_ ?_)
    | (with_reducible refine State.mirror_follows ?_ ?_)
    | (with_reducible refine State.updCore_follows ?_ ?_)
    | (with_reducible refine State.updTest_follows ?_ ?_)
    | split

theorem execLayerBoundary_follows {μ : Nat} {s₀ : State} {core : Nat} {s : State} (hm : Nat.lor 295304503121443586840 μ = μ) (h₀ : s₀.Follows μ s) :
    s₀.Ends μ (execLayerBoundary core s) := by
  refine State.Ends.lift hm h₀ ?_
  have h := State.Follows.refl 295304503121443586840 s
  unfold execLayerBoundary
  repeat' first
    | (with_reducible assumption)
    | (exact (rfl : Nat.lor _ _ = _))
    | (with_reducible refine State.count_follows ?_ ?_)
    | (with_reducible refine State.logEvent_follows ?_ ?_)
    | (with_reducible refine State.restore_follows ?_ ?_)
    | (with_reducible refine State.takeBoundary_follows ?_ ?_)
    | (with_reducible refine State.unresolved_follows ?_ ?_)
    | (with_reducible refine State.updCore_follows ?_ ?_)
    | (with_reducible apply State.Ends.next)
    | (with_reducible apply State.Ends.ite)
    | (with_reducible apply State.Follows.ite)

theorem State.freshArrays_follows {μ : Nat} {s₀ : State} {s : State} {n : Nat} (hm : Nat.lor 153122387330892568 μ = μ) (h₀ : s₀.Follows μ s) :
    s₀.Follows μ (State.freshArrays s n) := by
  refine State.Follows.lift hm h₀ ?_
  have h := State.Follows.refl 153122387330892568 s
  unfold State.freshArrays
  repeat' first
    | (with_reducible assumption)
    | (exact (rfl : Nat.lor _ _ = _))
    | (with_reducible refine State.takeRecord_follows ?_ ?_)
    | (with_reducible refine State.updArr_follows ?_ ?_)
    | (with_reducible refine State.updCal_follows ?_ ?_)
    | (with_reducible refine State.Follows.foldl _ ?_ ?_)
    | (intro _ _ _)

theorem execReserveCoreTakeover_follows {μ : Nat} {s₀ : State} {core : Nat} {s : State} (hm : Nat.lor 37050086089510126360 μ = μ) (h₀ : s₀.Follows μ s) :
    s₀.Ends μ (execReserveCoreTakeover core s) := by
  refine State.Ends.lift hm h₀ ?_
  have h := State.Follows.refl 37050086089510126360 s
  unfold execReserveCoreTakeover
  repeat' first
    | (with_reducible assumption)
    | (exact (rfl : Nat.lor _ _ = _))
    | (with_reducible refine State.count_follows ?_ ?_)
    | (with_reducible refine State.freshArrays_follows ?_ ?_)
    | (with_reducible refine State.loadCore_follows ?_ ?_)
    | (with_reducible refine State.logEvent_follows ?_ ?_)
    | (with_reducible refine State.regMax_follows ?_ ?_)
    | (with_reducible refine State.restore_follows ?_ ?_)
    | (with_reducible refine State.updCore_follows ?_ ?_)
    | (with_reducible apply State.Ends.next)
    | (with_reducible apply State.Ends.ite)
    | split
    | ((with_reducible apply State.Follows.keep) <;> first | exact trivial | exact rfl | skip)

end Sys2Proof.Machine
end

