-- ==== Sys2Proof/Laws/FollowsScratchpad.lean ====
section
/-!
SUPPORT. The operations of Machine/Scratchpad.lean keep the relation `State.Follows`. The number in a lemma is the mask of the
components that its operation may change.
-/
namespace Sys2Proof.Machine
open Sys2Proof

theorem execScrubPassStart_follows {μ : Nat} {s₀ : State} {core : Bool} {n mem : Nat} {s : State} (hm : Nat.lor 6291456 μ = μ) (h₀ : s₀.Follows μ s) :
    s₀.Ends μ (execScrubPassStart core n mem s) := by
  refine State.Ends.lift hm h₀ ?_
  have h := State.Follows.refl 6291456 s
  unfold execScrubPassStart
  repeat' first
    | (with_reducible assumption)
    | (exact (rfl : Nat.lor _ _ = _))
    | (with_reducible refine State.updCluster_follows ?_ ?_)
    | (with_reducible refine State.updCore_follows ?_ ?_)
    | (with_reducible apply State.Ends.next)
    | (with_reducible apply State.Ends.ite)

theorem State.scrubCore_follows {μ : Nat} {s₀ : State} {s : State} {n mem : Nat} {corrected uncorrectable : List Nat} (hm : Nat.lor 153122387332694808 μ = μ) (h₀ : s₀.Follows μ s) :
    s₀.Follows μ (State.scrubCore s n mem corrected uncorrectable) := by
  refine State.Follows.lift hm h₀ ?_
  have h := State.Follows.refl 153122387332694808 s
  unfold State.scrubCore
  repeat' first
    | (with_reducible assumption)
    | (exact (rfl : Nat.lor _ _ = _))
    | (with_reducible refine State.count_follows ?_ ?_)
    | (with_reducible refine State.countBy_follows ?_ ?_)
    | (with_reducible refine State.logLimited_follows ?_ ?_)
    | (with_reducible refine State.logLimitedFor_follows ?_ ?_)
    | (with_reducible refine State.updCore_follows ?_ ?_)
    | (with_reducible apply State.Follows.ite)
    | (with_reducible refine State.Follows.foldl _ ?_ ?_)
    | (intro _ _ _)

theorem State.scrubCluster_follows {μ : Nat} {s₀ : State} {s : State} {c : Nat} {corrected uncorrectable : List Nat} (hm : Nat.lor 153122387334791960 μ = μ) (h₀ : s₀.Follows μ s) :
    s₀.Follows μ (State.scrubCluster s c corrected uncorrectable) := by
  refine State.Follows.lift hm h₀ ?_
  have h := State.Follows.refl 153122387334791960 s
  unfold State.scrubCluster
  repeat' first
    | (with_reducible assumption)
    | (exact (rfl : Nat.lor _ _ = _))
    | (with_reducible refine State.count_follows ?_ ?_)
    | (with_reducible refine State.countBy_follows ?_ ?_)
    | (with_reducible refine State.logLimited_follows ?_ ?_)
    | (with_reducible refine State.logLimitedFor_follows ?_ ?_)
    | (with_reducible refine State.updCluster_follows ?_ ?_)
    | (with_reducible apply State.Follows.ite)
    | (with_reducible refine State.Follows.foldl _ ?_ ?_)
    | (intro _ _ _)

theorem execScrubRead_follows {μ : Nat} {s₀ : State} {core : Bool} {n mem : Nat} {corrected uncorrectable : List Nat} {s : State} (hm : Nat.lor 153122387336889112 μ = μ) (h₀ : s₀.Follows μ s) :
    s₀.Ends μ (execScrubRead core n mem corrected uncorrectable s) := by
  refine State.Ends.lift hm h₀ ?_
  have h := State.Follows.refl 153122387336889112 s
  unfold execScrubRead
  repeat' first
    | (with_reducible assumption)
    | (exact (rfl : Nat.lor _ _ = _))
    | (with_reducible refine State.scrubCluster_follows ?_ ?_)
    | (with_reducible refine State.scrubCore_follows ?_ ?_)
    | (with_reducible apply State.Ends.next)
    | (with_reducible apply State.Ends.ite)

theorem execScratchpadRestart_follows {μ : Nat} {s₀ : State} {core mem off : Nat} {s : State} (hm : Nat.lor 572023678624996819736 μ = μ) (h₀ : s₀.Follows μ s) :
    s₀.Ends μ (execScratchpadRestart core mem off s) := by
  refine State.Ends.lift hm h₀ ?_
  have h := State.Follows.refl 572023678624996819736 s
  unfold execScratchpadRestart
  repeat' first
    | (with_reducible assumption)
    | (exact (rfl : Nat.lor _ _ = _))
    | (with_reducible refine State.coreRetire_follows ?_ ?_)
    | (with_reducible refine State.count_follows ?_ ?_)
    | (with_reducible refine State.dropStrikes_follows ?_ ?_)
    | (with_reducible refine State.logEvent_follows ?_ ?_)
    | (with_reducible refine State.updCore_follows ?_ ?_)
    | (with_reducible apply State.Ends.next)
    | (with_reducible apply State.Ends.ite)
    | dsimp only
    | ((with_reducible apply State.Follows.keep) <;> first | exact trivial | exact rfl | skip)

theorem execRestoreComplete_follows {μ : Nat} {s₀ : State} {core : Nat} {s : State} (hm : Nat.lor 156597942090760984 μ = μ) (h₀ : s₀.Follows μ s) :
    s₀.Ends μ (execRestoreComplete core s) := by
  refine State.Ends.lift hm h₀ ?_
  have h := State.Follows.refl 156597942090760984 s
  unfold execRestoreComplete
  repeat' first
    | (with_reducible assumption)
    | (exact (rfl : Nat.lor _ _ = _))
    | (with_reducible refine State.restore_follows ?_ ?_)
    | (with_reducible refine State.updCore_follows ?_ ?_)
    | (with_reducible apply State.Ends.next)
    | (with_reducible apply State.Ends.ite)

theorem State.spmBad_follows {μ : Nat} {s₀ : State} {s : State} {n value : Nat} {port : Port} (hm : Nat.lor 153122387330597656 μ = μ) (h₀ : s₀.Follows μ s) :
    s₀.Follows μ (State.spmBad s n value port) := by
  refine State.Follows.lift hm h₀ ?_
  have h := State.Follows.refl 153122387330597656 s
  unfold State.spmBad
  repeat' first
    | (with_reducible assumption)
    | (exact (rfl : Nat.lor _ _ = _))
    | (with_reducible refine State.logEvent_follows ?_ ?_)

theorem State.cancelUnify_follows {μ : Nat} {s₀ : State} {s : State} {n cause : Nat} (hm : Nat.lor 153122387332694808 μ = μ) (h₀ : s₀.Follows μ s) :
    s₀.Follows μ (State.cancelUnify s n cause) := by
  refine State.Follows.lift hm h₀ ?_
  have h := State.Follows.refl 153122387332694808 s
  unfold State.cancelUnify
  repeat' first
    | (with_reducible assumption)
    | (exact (rfl : Nat.lor _ _ = _))
    | (with_reducible refine State.logEvent_follows ?_ ?_)
    | (with_reducible refine State.updCore_follows ?_ ?_)

theorem State.unify_follows {μ : Nat} {s₀ : State} {s : State} {n : Nat} {port : Port} (hm : Nat.lor 153122387332694808 μ = μ) (h₀ : s₀.Follows μ s) :
    s₀.Follows μ (State.unify s n port) := by
  refine State.Follows.lift hm h₀ ?_
  have h := State.Follows.refl 153122387332694808 s
  unfold State.unify
  repeat' first
    | (with_reducible assumption)
    | (exact (rfl : Nat.lor _ _ = _))
    | (with_reducible refine State.spmBad_follows ?_ ?_)
    | (with_reducible refine State.updCore_follows ?_ ?_)
    | (with_reducible apply State.Follows.ite)
    | split

theorem State.resume_follows {μ : Nat} {s₀ : State} {s : State} {n : Nat} {port : Port} (hm : Nat.lor 153122387332694808 μ = μ) (h₀ : s₀.Follows μ s) :
    s₀.Follows μ (State.resume s n port) := by
  refine State.Follows.lift hm h₀ ?_
  have h := State.Follows.refl 153122387332694808 s
  unfold State.resume
  repeat' first
    | (with_reducible assumption)
    | (exact (rfl : Nat.lor _ _ = _))
    | (with_reducible refine State.cancelUnify_follows ?_ ?_)
    | (with_reducible refine State.count_follows ?_ ?_)
    | (with_reducible refine State.spmBad_follows ?_ ?_)
    | (with_reducible refine State.updCore_follows ?_ ?_)
    | (with_reducible apply State.Follows.ite)
    | split

theorem execUnify_follows {μ : Nat} {s₀ : State} {core : Nat} {by_ : Port} {s : State} (hm : Nat.lor 153122387332694808 μ = μ) (h₀ : s₀.Follows μ s) :
    s₀.Ends μ (execUnify core by_ s) := by
  refine State.Ends.lift hm h₀ ?_
  have h := State.Follows.refl 153122387332694808 s
  unfold execUnify
  repeat' first
    | (with_reducible assumption)
    | (exact (rfl : Nat.lor _ _ = _))
    | (with_reducible refine State.unify_follows ?_ ?_)
    | (with_reducible apply State.Ends.next)

theorem execResume_follows {μ : Nat} {s₀ : State} {core : Nat} {by_ : Port} {s : State} (hm : Nat.lor 153122387332694808 μ = μ) (h₀ : s₀.Follows μ s) :
    s₀.Ends μ (execResume core by_ s) := by
  refine State.Ends.lift hm h₀ ?_
  have h := State.Follows.refl 153122387332694808 s
  unfold execResume
  repeat' first
    | (with_reducible assumption)
    | (exact (rfl : Nat.lor _ _ = _))
    | (with_reducible refine State.resume_follows ?_ ?_)
    | (with_reducible apply State.Ends.next)

theorem execUnifiedEntry_follows {μ : Nat} {s₀ : State} {core : Nat} {s : State} (hm : Nat.lor 2097152 μ = μ) (h₀ : s₀.Follows μ s) :
    s₀.Ends μ (execUnifiedEntry core s) := by
  refine State.Ends.lift hm h₀ ?_
  have h := State.Follows.refl 2097152 s
  unfold execUnifiedEntry
  repeat' first
    | (with_reducible assumption)
    | (exact (rfl : Nat.lor _ _ = _))
    | (with_reducible refine State.updCore_follows ?_ ?_)
    | (with_reducible apply State.Ends.next)
    | (with_reducible apply State.Ends.ite)

theorem State.testRefused_follows {μ : Nat} {s₀ : State} {s : State} {value status : Nat} {port : Port} (hm : Nat.lor 153122387330597656 μ = μ) (h₀ : s₀.Follows μ s) :
    s₀.Follows μ (State.testRefused s value status port).1 := by
  refine State.Follows.lift hm h₀ ?_
  have h := State.Follows.refl 153122387330597656 s
  unfold State.testRefused
  repeat' first
    | (with_reducible assumption)
    | (exact (rfl : Nat.lor _ _ = _))
    | (with_reducible refine State.logEvent_follows ?_ ?_)

theorem State.trimTest_follows {μ : Nat} {s₀ : State} {s : State} {j : Nat} (hm : Nat.lor 295319041965192905496 μ = μ) (h₀ : s₀.Follows μ s) :
    s₀.Follows μ (State.trimTest s j) := by
  refine State.Follows.lift hm h₀ ?_
  have h := State.Follows.refl 295319041965192905496 s
  unfold State.trimTest
  repeat' first
    | (with_reducible assumption)
    | (exact (rfl : Nat.lor _ _ = _))
    | (with_reducible refine State.endTest_follows ?_ ?_)
    | (with_reducible refine State.updTest_follows ?_ ?_)
    | (with_reducible apply State.Follows.ite)

theorem State.testStart_follows {μ : Nat} {s₀ : State} {s : State} {port : Port} {parts target spacing : Nat} (hm : Nat.lor 295319041965192905496 μ = μ) (h₀ : s₀.Follows μ s) :
    s₀.Follows μ (State.testStart s port parts target spacing).1 := by
  refine State.Follows.lift hm h₀ ?_
  have h := State.Follows.refl 295319041965192905496 s
  unfold State.testStart
  repeat' first
    | (with_reducible assumption)
    | (exact (rfl : Nat.lor _ _ = _))
    | (with_reducible refine State.testRefused_follows ?_ ?_)
    | (with_reducible refine State.trimTest_follows ?_ ?_)
    | (with_reducible refine State.updTest_follows ?_ ?_)
    | (with_reducible apply State.Follows.ite_fst)

theorem State.testAbort_follows {μ : Nat} {s₀ : State} {s : State} {port : Port} {target : Nat} (hm : Nat.lor 295319041965192905496 μ = μ) (h₀ : s₀.Follows μ s) :
    s₀.Follows μ (State.testAbort s port target).1 := by
  refine State.Follows.lift hm h₀ ?_
  have h := State.Follows.refl 295319041965192905496 s
  unfold State.testAbort
  repeat' first
    | (with_reducible assumption)
    | (exact (rfl : Nat.lor _ _ = _))
    | (with_reducible refine State.endTest_follows ?_ ?_)
    | (with_reducible refine State.testRefused_follows ?_ ?_)
    | (with_reducible refine State.updTest_follows ?_ ?_)
    | (with_reducible apply State.Follows.ite_fst)
    | split

theorem execFieldTestStart_follows {μ : Nat} {s₀ : State} {port : Port} {parts target spacing : Nat} {s : State} (hm : Nat.lor 295319041965192905496 μ = μ) (h₀ : s₀.Follows μ s) :
    s₀.Ends μ (execFieldTestStart port parts target spacing s) := by
  refine State.Ends.lift hm h₀ ?_
  have h := State.Follows.refl 295319041965192905496 s
  unfold execFieldTestStart
  repeat' first
    | (with_reducible assumption)
    | (exact (rfl : Nat.lor _ _ = _))
    | (with_reducible refine State.testStart_follows ?_ ?_)
    | (with_reducible apply State.Ends.next)

theorem execFieldTestAbort_follows {μ : Nat} {s₀ : State} {port : Port} {target : Nat} {s : State} (hm : Nat.lor 295319041965192905496 μ = μ) (h₀ : s₀.Follows μ s) :
    s₀.Ends μ (execFieldTestAbort port target s) := by
  refine State.Ends.lift hm h₀ ?_
  have h := State.Follows.refl 295319041965192905496 s
  unfold execFieldTestAbort
  repeat' first
    | (with_reducible assumption)
    | (exact (rfl : Nat.lor _ _ = _))
    | (with_reducible refine State.testAbort_follows ?_ ?_)
    | (with_reducible apply State.Ends.next)

theorem State.testRetires_follows {μ : Nat} {s₀ : State} {s : State} {target part pos : Nat} (hm : Nat.lor 572023678624996819736 μ = μ) (h₀ : s₀.Follows μ s) :
    s₀.Follows μ (State.testRetires s target part pos) := by
  refine State.Follows.lift hm h₀ ?_
  have h := State.Follows.refl 572023678624996819736 s
  unfold State.testRetires
  repeat' first
    | (with_reducible assumption)
    | (exact (rfl : Nat.lor _ _ = _))
    | (with_reducible refine State.arrayRetire_follows ?_ ?_)
    | (with_reducible refine State.coreRetire_follows ?_ ?_)
    | (with_reducible apply State.Follows.ite)
    | ((with_reducible apply State.Follows.keep) <;> first | exact trivial | exact rfl | skip)

theorem State.testResume_follows {μ : Nat} {s₀ : State} {s : State} {n : Nat} (hm : Nat.lor 2097168 μ = μ) (h₀ : s₀.Follows μ s) :
    s₀.Follows μ (State.testResume s n) := by
  refine State.Follows.lift hm h₀ ?_
  have h := State.Follows.refl 2097168 s
  unfold State.testResume
  repeat' first
    | (with_reducible assumption)
    | (exact (rfl : Nat.lor _ _ = _))
    | (with_reducible refine State.count_follows ?_ ?_)
    | (with_reducible refine State.updCore_follows ?_ ?_)
    | (with_reducible apply State.Follows.ite)

theorem execFieldTestSliceEnd_follows {μ : Nat} {s₀ : State} {target : Nat} {finished failed : Bool} {pos : Nat} {s : State} (hm : Nat.lor 572023678624996819740 μ = μ) (h₀ : s₀.Follows μ s) :
    s₀.Ends μ (execFieldTestSliceEnd target finished failed pos s) := by
  refine State.Ends.lift hm h₀ ?_
  have h := State.Follows.refl 572023678624996819740 s
  unfold execFieldTestSliceEnd
  repeat' first
    | (with_reducible assumption)
    | (exact (rfl : Nat.lor _ _ = _))
    | (with_reducible refine State.draw_follows ?_ ?_)
    | (with_reducible refine State.endTest_follows ?_ ?_)
    | (with_reducible refine State.logEvent_follows ?_ ?_)
    | (with_reducible refine State.testResume_follows ?_ ?_)
    | (with_reducible refine State.testRetires_follows ?_ ?_)
    | (with_reducible refine State.trimTest_follows ?_ ?_)
    | (with_reducible refine State.updArr_follows ?_ ?_)
    | (with_reducible refine State.updTest_follows ?_ ?_)
    | (with_reducible apply State.Ends.next)
    | (with_reducible apply State.Ends.ite)
    | (with_reducible apply State.Follows.ite)
    | split

theorem State.testsBoundary_follows {μ : Nat} {s₀ : State} {s : State} {i : Nat} (hm : Nat.lor 295147905179352825856 μ = μ) (h₀ : s₀.Follows μ s) :
    s₀.Follows μ (State.testsBoundary s i) := by
  refine State.Follows.lift hm h₀ ?_
  have h := State.Follows.refl 295147905179352825856 s
  unfold State.testsBoundary
  repeat' first
    | (with_reducible assumption)
    | (exact (rfl : Nat.lor _ _ = _))
    | (with_reducible refine State.updTest_follows ?_ ?_)
    | (with_reducible apply State.Follows.ite)
    | (with_reducible refine State.Follows.foldl _ ?_ ?_)
    | (intro _ _ _)

end Sys2Proof.Machine
end

