-- ==== Sys2Proof/Laws/FollowsStacks.lean ====
section
/-!
SUPPORT. The operations of Machine/Stacks.lean keep the relation `State.Follows`. The number in a lemma is the mask of the
components that its operation may change.
-/
namespace Sys2Proof.Machine
open Sys2Proof

theorem State.dieRetire_follows {μ : Nat} {s₀ : State} {s : State} {st d cause : Nat} (hm : Nat.lor 156597941438513944 μ = μ) (h₀ : s₀.Follows μ s) :
    s₀.Follows μ (State.dieRetire s st d cause) := by
  refine State.Follows.lift hm h₀ ?_
  have h := State.Follows.refl 156597941438513944 s
  unfold State.dieRetire
  repeat' first
    | (with_reducible assumption)
    | (exact (rfl : Nat.lor _ _ = _))
    | (with_reducible refine State.logEvent_follows ?_ ?_)
    | (with_reducible refine State.pedFail_follows ?_ ?_)
    | (with_reducible refine State.updPed_follows ?_ ?_)
    | (with_reducible apply State.Follows.ite)
    | split

theorem State.dieError_follows {μ : Nat} {s₀ : State} {s : State} {st d : Nat} (hm : Nat.lor 156597941438513944 μ = μ) (h₀ : s₀.Follows μ s) :
    s₀.Follows μ (State.dieError s st d) := by
  refine State.Follows.lift hm h₀ ?_
  have h := State.Follows.refl 156597941438513944 s
  unfold State.dieError
  repeat' first
    | (with_reducible assumption)
    | (exact (rfl : Nat.lor _ _ = _))
    | (with_reducible refine State.dieRetire_follows ?_ ?_)
    | (with_reducible refine State.pedCount_follows ?_ ?_)
    | (with_reducible refine State.updPed_follows ?_ ?_)
    | (with_reducible apply State.Follows.ite)

theorem execDramTimeout_follows {μ : Nat} {s₀ : State} {ped die : Nat} {s : State} (hm : Nat.lor 156597941438513944 μ = μ) (h₀ : s₀.Follows μ s) :
    s₀.Ends μ (execDramTimeout ped die s) := by
  refine State.Ends.lift hm h₀ ?_
  have h := State.Follows.refl 156597941438513944 s
  unfold execDramTimeout
  repeat' first
    | (with_reducible assumption)
    | (exact (rfl : Nat.lor _ _ = _))
    | (with_reducible refine State.dieError_follows ?_ ?_)
    | (with_reducible refine State.dieRetire_follows ?_ ?_)
    | (with_reducible refine State.updPed_follows ?_ ?_)
    | (with_reducible apply State.Ends.next)
    | (with_reducible apply State.Ends.ite)
    | (with_reducible apply State.Follows.ite)

theorem State.corrected_follows {μ : Nat} {s₀ : State} {s : State} {st code k : Nat} (hm : Nat.lor 153122387330597656 μ = μ) (h₀ : s₀.Follows μ s) :
    s₀.Follows μ (State.corrected s st code k) := by
  refine State.Follows.lift hm h₀ ?_
  have h := State.Follows.refl 153122387330597656 s
  unfold State.corrected
  repeat' first
    | (with_reducible assumption)
    | (exact (rfl : Nat.lor _ _ = _))
    | (with_reducible refine State.logLimitedFor_follows ?_ ?_)
    | (with_reducible refine State.pedCount_follows ?_ ?_)
    | (with_reducible apply State.Follows.ite)

theorem State.rebuild_follows {μ : Nat} {s₀ : State} {s : State} {st b : Nat} {bad : List Nat} (hm : Nat.lor 156597941438513944 μ = μ) (h₀ : s₀.Follows μ s) :
    s₀.Follows μ (State.rebuild s st b bad) := by
  refine State.Follows.lift hm h₀ ?_
  have h := State.Follows.refl 156597941438513944 s
  unfold State.rebuild
  repeat' first
    | (with_reducible assumption)
    | (exact (rfl : Nat.lor _ _ = _))
    | (with_reducible refine State.dieError_follows ?_ ?_)
    | (with_reducible refine State.logEvent_follows ?_ ?_)
    | (with_reducible refine State.logLimitedFor_follows ?_ ?_)
    | (with_reducible refine State.pedCount_follows ?_ ?_)
    | (with_reducible refine State.updPed_follows ?_ ?_)
    | (with_reducible apply State.Follows.ite)

theorem execDramAccessComplete_follows {μ : Nat} {s₀ : State} {ped addr : Nat} {write : Bool} {onDie secded : Nat} {bad : List Nat} {s : State} (hm : Nat.lor 156597941438513944 μ = μ) (h₀ : s₀.Follows μ s) :
    s₀.Ends μ (execDramAccessComplete ped addr write onDie secded bad s) := by
  refine State.Ends.lift hm h₀ ?_
  have h := State.Follows.refl 156597941438513944 s
  unfold execDramAccessComplete
  repeat' first
    | (with_reducible assumption)
    | (exact (rfl : Nat.lor _ _ = _))
    | (with_reducible refine State.corrected_follows ?_ ?_)
    | (with_reducible refine State.pedCount_follows ?_ ?_)
    | (with_reducible refine State.rebuild_follows ?_ ?_)
    | (with_reducible refine State.updPed_follows ?_ ?_)
    | (with_reducible apply State.Ends.next)
    | (with_reducible apply State.Ends.ite)
    | (with_reducible apply State.Follows.ite)

theorem execRefreshDue_follows {μ : Nat} {s₀ : State} {ped : Nat} {busy : Bool} {s : State} (hm : Nat.lor 2147483648 μ = μ) (h₀ : s₀.Follows μ s) :
    s₀.Ends μ (execRefreshDue ped busy s) := by
  refine State.Ends.lift hm h₀ ?_
  have h := State.Follows.refl 2147483648 s
  unfold execRefreshDue
  repeat' first
    | (with_reducible assumption)
    | (exact (rfl : Nat.lor _ _ = _))
    | (with_reducible refine State.updPed_follows ?_ ?_)
    | (with_reducible apply State.Ends.next)
    | (with_reducible apply State.Ends.ite)

theorem execPatrolPassStart_follows {μ : Nat} {s₀ : State} {ped : Nat} {s : State} (hm : Nat.lor 2147483664 μ = μ) (h₀ : s₀.Follows μ s) :
    s₀.Ends μ (execPatrolPassStart ped s) := by
  refine State.Ends.lift hm h₀ ?_
  have h := State.Follows.refl 2147483664 s
  unfold execPatrolPassStart
  repeat' first
    | (with_reducible assumption)
    | (exact (rfl : Nat.lor _ _ = _))
    | (with_reducible refine State.pedCount_follows ?_ ?_)
    | (with_reducible refine State.updPed_follows ?_ ?_)
    | (with_reducible apply State.Ends.next)
    | (with_reducible apply State.Ends.ite)
    | (with_reducible apply State.Follows.ite)

theorem State.refreshRate_follows {μ : Nat} {s₀ : State} {s : State} {st : Nat} {temp : Int} {forced : Bool} (hm : Nat.lor 153122389478081304 μ = μ) (h₀ : s₀.Follows μ s) :
    s₀.Follows μ (State.refreshRate s st temp forced) := by
  refine State.Follows.lift hm h₀ ?_
  have h := State.Follows.refl 153122389478081304 s
  unfold State.refreshRate
  repeat' first
    | (with_reducible assumption)
    | (exact (rfl : Nat.lor _ _ = _))
    | (with_reducible refine State.logEvent_follows ?_ ?_)
    | (with_reducible refine State.pedCount_follows ?_ ?_)
    | (with_reducible refine State.updPed_follows ?_ ?_)
    | (with_reducible apply State.Follows.ite)

theorem State.farRefused_follows {μ : Nat} {s₀ : State} {s : State} {port : Port} {i reg : Nat} (hm : Nat.lor 153122387330597656 μ = μ) (h₀ : s₀.Follows μ s) :
    s₀.Follows μ (State.farRefused s port i reg) := by
  refine State.Follows.lift hm h₀ ?_
  have h := State.Follows.refl 153122387330597656 s
  unfold State.farRefused
  repeat' first
    | (with_reducible assumption)
    | (exact (rfl : Nat.lor _ _ = _))
    | (with_reducible refine State.logEvent_follows ?_ ?_)

theorem State.ftrBase_follows {μ : Nat} {s₀ : State} {s : State} {port : Port} {i value : Nat} (hm : Nat.lor 153122387330597656 μ = μ) (h₀ : s₀.Follows μ s) :
    s₀.Follows μ (State.ftrBase s port i value) := by
  refine State.Follows.lift hm h₀ ?_
  have h := State.Follows.refl 153122387330597656 s
  unfold State.ftrBase
  repeat' first
    | (with_reducible assumption)
    | (exact (rfl : Nat.lor _ _ = _))
    | (with_reducible refine State.farRefused_follows ?_ ?_)
    | (with_reducible refine State.setReg64_follows ?_ ?_)
    | (with_reducible apply State.Follows.ite)

theorem State.ftrCtl_follows {μ : Nat} {s₀ : State} {s : State} {port : Port} {i value : Nat} (hm : Nat.lor 153122387330597656 μ = μ) (h₀ : s₀.Follows μ s) :
    s₀.Follows μ (State.ftrCtl s port i value) := by
  refine State.Follows.lift hm h₀ ?_
  have h := State.Follows.refl 153122387330597656 s
  unfold State.ftrCtl
  repeat' first
    | (with_reducible assumption)
    | (exact (rfl : Nat.lor _ _ = _))
    | (with_reducible refine State.farRefused_follows ?_ ?_)
    | (with_reducible refine State.setRegN_follows ?_ ?_)
    | (with_reducible apply State.Follows.ite)

theorem execFtrBaseWrite_follows {μ : Nat} {s₀ : State} {port : Port} {inst value : Nat} {s : State} (hm : Nat.lor 153122387330597656 μ = μ) (h₀ : s₀.Follows μ s) :
    s₀.Ends μ (execFtrBaseWrite port inst value s) := by
  refine State.Ends.lift hm h₀ ?_
  have h := State.Follows.refl 153122387330597656 s
  unfold execFtrBaseWrite
  repeat' first
    | (with_reducible assumption)
    | (exact (rfl : Nat.lor _ _ = _))
    | (with_reducible refine State.ftrBase_follows ?_ ?_)
    | (with_reducible apply State.Ends.next)

theorem execFtrCtlWrite_follows {μ : Nat} {s₀ : State} {port : Port} {inst value : Nat} {s : State} (hm : Nat.lor 153122387330597656 μ = μ) (h₀ : s₀.Follows μ s) :
    s₀.Ends μ (execFtrCtlWrite port inst value s) := by
  refine State.Ends.lift hm h₀ ?_
  have h := State.Follows.refl 153122387330597656 s
  unfold execFtrCtlWrite
  repeat' first
    | (with_reducible assumption)
    | (exact (rfl : Nat.lor _ _ = _))
    | (with_reducible refine State.ftrCtl_follows ?_ ?_)
    | (with_reducible apply State.Ends.next)

end Sys2Proof.Machine
end

