-- ==== Sys2Proof/Laws/FollowsSpills.lean ====
section
/-!
SUPPORT. The operations of Machine/Spills.lean keep the relation `State.Follows`. The number in a lemma is the mask of the
components that its operation may change.
-/
namespace Sys2Proof.Machine
open Sys2Proof

theorem State.updSpill_follows {μ : Nat} {s₀ : State} {s : State} {i q : Nat} {f : Spill → Spill} (hm : Nat.lor 68719476736 μ = μ) (h₀ : s₀.Follows μ s) :
    s₀.Follows μ (State.updSpill s i q f) := by
  refine State.Follows.lift hm h₀ ?_
  have h := State.Follows.refl 68719476736 s
  unfold State.updSpill
  repeat' first
    | (with_reducible assumption)
    | ((with_reducible apply State.Follows.keep) <;> first | exact trivial | exact rfl | skip)

theorem State.spillRefuse_follows {μ : Nat} {s₀ : State} {s : State} {i q cause : Nat} (hm : Nat.lor 153139979516642072 μ = μ) (h₀ : s₀.Follows μ s) :
    s₀.Follows μ (State.spillRefuse s i q cause) := by
  refine State.Follows.lift hm h₀ ?_
  have h := State.Follows.refl 153139979516642072 s
  unfold State.spillRefuse
  repeat' first
    | (with_reducible assumption)
    | (exact (rfl : Nat.lor _ _ = _))
    | (with_reducible refine State.logEvent_follows ?_ ?_)
    | (with_reducible refine State.updSeq_follows ?_ ?_)

theorem State.nameSpill_follows {μ : Nat} {s₀ : State} {s : State} {i q : Nat} (hm : Nat.lor 153140048236118808 μ = μ) (h₀ : s₀.Follows μ s) :
    s₀.Follows μ (State.nameSpill s i q) := by
  refine State.Follows.lift hm h₀ ?_
  have h := State.Follows.refl 153140048236118808 s
  unfold State.nameSpill
  repeat' first
    | (with_reducible assumption)
    | (exact (rfl : Nat.lor _ _ = _))
    | (with_reducible refine State.spillRefuse_follows ?_ ?_)
    | (with_reducible refine State.updSeq_follows ?_ ?_)
    | (with_reducible refine State.updSpill_follows ?_ ?_)
    | (with_reducible apply State.Follows.ite)

theorem execSpillComplete_follows {μ : Nat} {s₀ : State} {inst slot : Nat} {s : State} (hm : Nat.lor 17665200488472 μ = μ) (h₀ : s₀.Follows μ s) :
    s₀.Ends μ (execSpillComplete inst slot s) := by
  refine State.Ends.lift hm h₀ ?_
  have h := State.Follows.refl 17665200488472 s
  unfold execSpillComplete
  repeat' first
    | (with_reducible assumption)
    | (exact (rfl : Nat.lor _ _ = _))
    | (with_reducible refine State.count_follows ?_ ?_)
    | (with_reducible refine State.count64By_follows ?_ ?_)
    | (with_reducible refine State.emit_follows ?_ ?_)
    | (with_reducible refine State.updSeq_follows ?_ ?_)
    | (with_reducible refine State.updSpill_follows ?_ ?_)
    | (with_reducible apply State.Ends.next)
    | (with_reducible refine State.Follows.foldl _ ?_ ?_)
    | split
    | (intro _ _ _)
    | ((with_reducible apply State.Follows.keep) <;> first | exact trivial | exact rfl | skip)

theorem State.freeSpilled_follows {μ : Nat} {s₀ : State} {s : State} {i : Nat} (hm : Nat.lor 88046829584 μ = μ) (h₀ : s₀.Follows μ s) :
    s₀.Follows μ (State.freeSpilled s i) := by
  refine State.Follows.lift hm h₀ ?_
  have h := State.Follows.refl 88046829584 s
  unfold State.freeSpilled
  repeat' first
    | (with_reducible assumption)
    | (exact (rfl : Nat.lor _ _ = _))
    | (with_reducible refine State.freeFrames_follows ?_ ?_)
    | (with_reducible refine State.updSpill_follows ?_ ?_)
    | (with_reducible apply State.Follows.ite)
    | (with_reducible refine State.Follows.foldl _ ?_ ?_)
    | (intro _ _ _)

theorem State.spillCancel_follows {μ : Nat} {s₀ : State} {s : State} {i q : Nat} (hm : Nat.lor 68719476736 μ = μ) (h₀ : s₀.Follows μ s) :
    s₀.Follows μ (State.spillCancel s i q) := by
  refine State.Follows.lift hm h₀ ?_
  have h := State.Follows.refl 68719476736 s
  unfold State.spillCancel
  repeat' first
    | (with_reducible assumption)
    | ((with_reducible apply State.Follows.keep) <;> first | exact trivial | exact rfl | skip)

theorem State.restoreReads_follows {μ : Nat} {s₀ : State} {s : State} {i q : Nat} (hm : Nat.lor 8 μ = μ) (h₀ : s₀.Follows μ s) :
    s₀.Follows μ (State.restoreReads s i q) := by
  refine State.Follows.lift hm h₀ ?_
  have h := State.Follows.refl 8 s
  unfold State.restoreReads
  repeat' first
    | (with_reducible assumption)
    | (exact (rfl : Nat.lor _ _ = _))
    | (with_reducible refine State.emit_follows ?_ ?_)
    | (with_reducible refine State.Follows.foldl _ ?_ ?_)
    | split
    | (intro _ _ _)

theorem State.nameRestore_follows {μ : Nat} {s₀ : State} {s : State} {i q : Nat} (hm : Nat.lor 17678085390344 μ = μ) (h₀ : s₀.Follows μ s) :
    s₀.Follows μ (State.nameRestore s i q) := by
  refine State.Follows.lift hm h₀ ?_
  have h := State.Follows.refl 17678085390344 s
  unfold State.nameRestore
  repeat' first
    | (with_reducible assumption)
    | (exact (rfl : Nat.lor _ _ = _))
    | (with_reducible refine State.restoreReads_follows ?_ ?_)
    | (with_reducible refine State.updSeq_follows ?_ ?_)
    | (with_reducible refine State.updSpill_follows ?_ ?_)
    | ((with_reducible apply State.Follows.keep) <;> first | exact trivial | exact rfl | skip)

theorem State.frameBack_follows {μ : Nat} {s₀ : State} {s : State} {i f : Nat} {bs : List Byte} (hm : Nat.lor 2147483648 μ = μ) (h₀ : s₀.Follows μ s) :
    s₀.Follows μ (State.frameBack s i f bs) := by
  refine State.Follows.lift hm h₀ ?_
  have h := State.Follows.refl 2147483648 s
  unfold State.frameBack
  repeat' first
    | (with_reducible assumption)
    | (exact (rfl : Nat.lor _ _ = _))
    | (with_reducible refine State.updPed_follows ?_ ?_)
    | (with_reducible refine State.Follows.foldl _ ?_ ?_)
    | (intro _ _ _)

theorem State.stagedBack_follows {μ : Nat} {s₀ : State} {s : State} {i q n : Nat} {bs : List Byte} (hm : Nat.lor 2147483648 μ = μ) (h₀ : s₀.Follows μ s) :
    s₀.Follows μ (State.stagedBack s i q n bs) := by
  refine State.Follows.lift hm h₀ ?_
  have h := State.Follows.refl 2147483648 s
  unfold State.stagedBack
  repeat' first
    | (with_reducible assumption)
    | (exact (rfl : Nat.lor _ _ = _))
    | (with_reducible refine State.updPed_follows ?_ ?_)
    | (with_reducible refine State.Follows.foldl _ ?_ ?_)
    | (intro _ _ _)

theorem State.partsAt_follows {μ : Nat} {s₀ : State} {s : State} {i q b len : Nat} (hm : Nat.lor 8589934592 μ = μ) (h₀ : s₀.Follows μ s) :
    s₀.Follows μ (State.partsAt s i q b len) := by
  refine State.Follows.lift hm h₀ ?_
  have h := State.Follows.refl 8589934592 s
  unfold State.partsAt
  repeat' first
    | (with_reducible assumption)
    | dsimp only
    | ((with_reducible apply State.Follows.keep) <;> first | exact trivial | exact rfl | skip)

theorem execSpillRestoreComplete_follows {μ : Nat} {s₀ : State} {inst slot : Nat} {bytes : List Byte} {s : State} (hm : Nat.lor 17671642939408 μ = μ) (h₀ : s₀.Follows μ s) :
    s₀.Ends μ (execSpillRestoreComplete inst slot bytes s) := by
  refine State.Ends.lift hm h₀ ?_
  have h := State.Follows.refl 17671642939408 s
  unfold execSpillRestoreComplete
  repeat' first
    | (with_reducible assumption)
    | (exact (rfl : Nat.lor _ _ = _))
    | (with_reducible refine State.count_follows ?_ ?_)
    | (with_reducible refine State.count64By_follows ?_ ?_)
    | (with_reducible refine State.frameBack_follows ?_ ?_)
    | (with_reducible refine State.partsAt_follows ?_ ?_)
    | (with_reducible refine State.spillCancel_follows ?_ ?_)
    | (with_reducible refine State.stagedBack_follows ?_ ?_)
    | (with_reducible refine State.updSeq_follows ?_ ?_)
    | (with_reducible refine State.writePte_follows ?_ ?_)
    | (with_reducible apply State.Ends.next)
    | (with_reducible apply State.Follows.ite)
    | (with_reducible refine State.Follows.foldl _ ?_ ?_)
    | (intro _ _ _)

theorem State.farFailed_follows {μ : Nat} {s₀ : State} {s : State} {i q port cause : Nat} (hm : Nat.lor 153140048236118808 μ = μ) (h₀ : s₀.Follows μ s) :
    s₀.Follows μ (State.farFailed s i q port cause) := by
  refine State.Follows.lift hm h₀ ?_
  have h := State.Follows.refl 153140048236118808 s
  unfold State.farFailed
  repeat' first
    | (with_reducible assumption)
    | (exact (rfl : Nat.lor _ _ = _))
    | (with_reducible refine State.count_follows ?_ ?_)
    | (with_reducible refine State.logEvent_follows ?_ ?_)
    | (with_reducible refine State.spillCancel_follows ?_ ?_)
    | (with_reducible refine State.updSeq_follows ?_ ?_)
    | (with_reducible refine State.updSpill_follows ?_ ?_)
    | split

theorem State.retryRestores_follows {μ : Nat} {s₀ : State} {s : State} {i : Nat} (hm : Nat.lor 68719476744 μ = μ) (h₀ : s₀.Follows μ s) :
    s₀.Follows μ (State.retryRestores s i) := by
  refine State.Follows.lift hm h₀ ?_
  have h := State.Follows.refl 68719476744 s
  unfold State.retryRestores
  repeat' first
    | (with_reducible assumption)
    | (exact (rfl : Nat.lor _ _ = _))
    | (with_reducible refine State.restoreReads_follows ?_ ?_)
    | (with_reducible refine State.updSpill_follows ?_ ?_)
    | (with_reducible apply State.Follows.ite)
    | (with_reducible refine State.Follows.foldl _ ?_ ?_)
    | (intro _ _ _)

theorem State.settleFar_follows {μ : Nat} {s₀ : State} {s : State} {i : Nat} (hm : Nat.lor 288230376151711760 μ = μ) (h₀ : s₀.Follows μ s) :
    s₀.Follows μ (State.settleFar s i) := by
  refine State.Follows.lift hm h₀ ?_
  have h := State.Follows.refl 288230376151711760 s
  unfold State.settleFar
  repeat' first
    | (with_reducible assumption)
    | (exact (rfl : Nat.lor _ _ = _))
    | (with_reducible refine State.setRegN_follows ?_ ?_)
    | (with_reducible apply State.Follows.ite)
    | ((with_reducible apply State.Follows.keep) <;> first | exact trivial | exact rfl | skip)

theorem execFarTierLegError_follows {μ : Nat} {s₀ : State} {inst slot port : Nat} {s : State} (hm : Nat.lor 153140048236118808 μ = μ) (h₀ : s₀.Follows μ s) :
    s₀.Ends μ (execFarTierLegError inst slot port s) := by
  refine State.Ends.lift hm h₀ ?_
  have h := State.Follows.refl 153140048236118808 s
  unfold execFarTierLegError
  repeat' first
    | (with_reducible assumption)
    | (exact (rfl : Nat.lor _ _ = _))
    | (with_reducible refine State.farFailed_follows ?_ ?_)
    | (with_reducible apply State.Ends.next)

theorem execFarTierLinkWaitTimeout_follows {μ : Nat} {s₀ : State} {inst slot port : Nat} {s : State} (hm : Nat.lor 153140048236118808 μ = μ) (h₀ : s₀.Follows μ s) :
    s₀.Ends μ (execFarTierLinkWaitTimeout inst slot port s) := by
  refine State.Ends.lift hm h₀ ?_
  have h := State.Follows.refl 153140048236118808 s
  unfold execFarTierLinkWaitTimeout
  repeat' first
    | (with_reducible assumption)
    | (exact (rfl : Nat.lor _ _ = _))
    | (with_reducible refine State.farFailed_follows ?_ ?_)
    | (with_reducible apply State.Ends.next)

end Sys2Proof.Machine
end

