-- ==== Sys2Proof/Laws/FollowsSched.lean ====
section
/-!
SUPPORT. The operations of Machine/Sched.lean keep the relation `State.Follows`. The number in a lemma is the mask of the
components that its operation may change.
-/
namespace Sys2Proof.Machine
open Sys2Proof

theorem State.ringInvalid_follows {μ : Nat} {s₀ : State} {s : State} {kind ring : Nat} {port : Port} (hm : Nat.lor 153122387330597656 μ = μ) (h₀ : s₀.Follows μ s) :
    s₀.Follows μ (State.ringInvalid s kind ring port) := by
  refine State.Follows.lift hm h₀ ?_
  have h := State.Follows.refl 153122387330597656 s
  unfold State.ringInvalid
  repeat' first
    | (with_reducible assumption)
    | (exact (rfl : Nat.lor _ _ = _))
    | (with_reducible refine State.logEvent_follows ?_ ?_)

theorem State.sqFetch_follows {μ : Nat} {s₀ : State} {s : State} {r : Nat} (hm : Nat.lor 35184372088840 μ = μ) (h₀ : s₀.Follows μ s) :
    s₀.Follows μ (State.sqFetch s r) := by
  refine State.Follows.lift hm h₀ ?_
  have h := State.Follows.refl 35184372088840 s
  unfold State.sqFetch
  repeat' first
    | (with_reducible assumption)
    | (exact (rfl : Nat.lor _ _ = _))
    | (with_reducible refine State.emit_follows ?_ ?_)
    | (with_reducible apply State.Follows.ite)
    | ((with_reducible apply State.Follows.keep) <;> first | exact trivial | exact rfl | skip)

theorem State.sqDisable_follows {μ : Nat} {s₀ : State} {s : State} {r : Nat} (hm : Nat.lor 35184372088848 μ = μ) (h₀ : s₀.Follows μ s) :
    s₀.Follows μ (State.sqDisable s r) := by
  refine State.Follows.lift hm h₀ ?_
  have h := State.Follows.refl 35184372088848 s
  unfold State.sqDisable
  repeat' first
    | (with_reducible assumption)
    | (exact (rfl : Nat.lor _ _ = _))
    | (with_reducible refine State.setRegN_follows ?_ ?_)
    | dsimp only
    | ((with_reducible apply State.Follows.keep) <;> first | exact trivial | exact rfl | skip)

theorem State.sqCfg_follows {μ : Nat} {s₀ : State} {s : State} {r : Nat} {port : Port} {value : Nat} (hm : Nat.lor 153157571702686488 μ = μ) (h₀ : s₀.Follows μ s) :
    s₀.Follows μ (State.sqCfg s r port value) := by
  refine State.Follows.lift hm h₀ ?_
  have h := State.Follows.refl 153157571702686488 s
  unfold State.sqCfg
  repeat' first
    | (with_reducible assumption)
    | (exact (rfl : Nat.lor _ _ = _))
    | (with_reducible refine State.ringInvalid_follows ?_ ?_)
    | (with_reducible refine State.setRegN_follows ?_ ?_)
    | (with_reducible refine State.sqDisable_follows ?_ ?_)
    | (with_reducible apply State.Follows.ite)
    | dsimp only
    | ((with_reducible apply State.Follows.keep) <;> first | exact trivial | exact rfl | skip)

theorem State.sqTail_follows {μ : Nat} {s₀ : State} {s : State} {r : Nat} {port : Port} {value : Nat} (hm : Nat.lor 153157571702686488 μ = μ) (h₀ : s₀.Follows μ s) :
    s₀.Follows μ (State.sqTail s r port value) := by
  refine State.Follows.lift hm h₀ ?_
  have h := State.Follows.refl 153157571702686488 s
  unfold State.sqTail
  repeat' first
    | (with_reducible assumption)
    | (exact (rfl : Nat.lor _ _ = _))
    | (with_reducible refine State.ringInvalid_follows ?_ ?_)
    | (with_reducible refine State.setRegN_follows ?_ ?_)
    | (with_reducible refine State.sqFetch_follows ?_ ?_)
    | (with_reducible apply State.Follows.ite)

theorem State.rqDisable_follows {μ : Nat} {s₀ : State} {s : State} {r : Nat} (hm : Nat.lor 70368744177680 μ = μ) (h₀ : s₀.Follows μ s) :
    s₀.Follows μ (State.rqDisable s r) := by
  refine State.Follows.lift hm h₀ ?_
  have h := State.Follows.refl 70368744177680 s
  unfold State.rqDisable
  repeat' first
    | (with_reducible assumption)
    | (exact (rfl : Nat.lor _ _ = _))
    | (with_reducible refine State.setRegN_follows ?_ ?_)
    | (with_reducible refine State.updRec_follows ?_ ?_)

theorem State.rqCfg_follows {μ : Nat} {s₀ : State} {s : State} {r : Nat} {port : Port} {value : Nat} (hm : Nat.lor 153192756074775320 μ = μ) (h₀ : s₀.Follows μ s) :
    s₀.Follows μ (State.rqCfg s r port value) := by
  refine State.Follows.lift hm h₀ ?_
  have h := State.Follows.refl 153192756074775320 s
  unfold State.rqCfg
  repeat' first
    | (with_reducible assumption)
    | (exact (rfl : Nat.lor _ _ = _))
    | (with_reducible refine State.ringInvalid_follows ?_ ?_)
    | (with_reducible refine State.rqDisable_follows ?_ ?_)
    | (with_reducible refine State.setRegN_follows ?_ ?_)
    | (with_reducible apply State.Follows.ite)

theorem State.rqHead_follows {μ : Nat} {s₀ : State} {s : State} {r value : Nat} (hm : Nat.lor 16 μ = μ) (h₀ : s₀.Follows μ s) :
    s₀.Follows μ (State.rqHead s r value) := by
  refine State.Follows.lift hm h₀ ?_
  have h := State.Follows.refl 16 s
  unfold State.rqHead
  repeat' first
    | (with_reducible assumption)
    | (exact (rfl : Nat.lor _ _ = _))
    | (with_reducible refine State.setRegN_follows ?_ ?_)

theorem State.checkRequest_follows {μ : Nat} {s₀ : State} {s : State} {r : Nat} {d : Desc} {sampling : Bool} (hm : Nat.lor 153130083911992088 μ = μ) (h₀ : s₀.Follows μ s) :
    s₀.Follows μ (State.checkRequest s r d sampling).1 := by
  refine State.Follows.lift hm h₀ ?_
  have h := State.Follows.refl 153130083911992088 s
  unfold State.checkRequest
  repeat' first
    | (with_reducible assumption)
    | (exact (rfl : Nat.lor _ _ = _))
    | (with_reducible refine State.demand_follows ?_ ?_)
    | (with_reducible apply State.Follows.ite_fst)
    | (with_reducible refine State.Follows.of_fst (by assumption) ?_)
    | split

theorem State.sqAdvance_follows {μ : Nat} {s₀ : State} {s : State} {r : Nat} (hm : Nat.lor 9183121115185688 μ = μ) (h₀ : s₀.Follows μ s) :
    s₀.Follows μ (State.sqAdvance s r) := by
  refine State.Follows.lift hm h₀ ?_
  have h := State.Follows.refl 9183121115185688 s
  unfold State.sqAdvance
  repeat' first
    | (with_reducible assumption)
    | (exact (rfl : Nat.lor _ _ = _))
    | (with_reducible refine State.irqEvents_follows ?_ ?_)
    | (with_reducible refine State.setRegN_follows ?_ ?_)
    | (with_reducible refine State.sqFetch_follows ?_ ?_)
    | ((with_reducible apply State.Follows.keep) <;> first | exact trivial | exact rfl | skip)

theorem State.reject_follows {μ : Nat} {s₀ : State} {s : State} {r : Nat} {d : Desc} {status : Nat} (hm : Nat.lor 153368677935219480 μ = μ) (h₀ : s₀.Follows μ s) :
    s₀.Follows μ (State.reject s r d status) := by
  refine State.Follows.lift hm h₀ ?_
  have h := State.Follows.refl 153368677935219480 s
  unfold State.reject
  repeat' first
    | (with_reducible assumption)
    | (exact (rfl : Nat.lor _ _ = _))
    | (with_reducible refine State.count_follows ?_ ?_)
    | (with_reducible refine State.lateEvent_follows ?_ ?_)
    | (with_reducible refine State.logLimited_follows ?_ ?_)
    | (with_reducible refine State.queueRecord_follows ?_ ?_)
    | (with_reducible refine State.sqAdvance_follows ?_ ?_)
    | (with_reducible apply State.Follows.ite)

theorem State.fetchChunk_follows {μ : Nat} {s₀ : State} {s : State} {i q : Nat} (hm : Nat.lor 17592186044424 μ = μ) (h₀ : s₀.Follows μ s) :
    s₀.Follows μ (State.fetchChunk s i q) := by
  refine State.Follows.lift hm h₀ ?_
  have h := State.Follows.refl 17592186044424 s
  unfold State.fetchChunk
  repeat' first
    | (with_reducible assumption)
    | (exact (rfl : Nat.lor _ _ = _))
    | (with_reducible refine State.emit_follows ?_ ?_)
    | (with_reducible refine State.updSeq_follows ?_ ?_)
    | (with_reducible apply State.Follows.ite)

theorem State.accept_follows {μ : Nat} {s₀ : State} {s : State} {r : Nat} {d : Desc} (hm : Nat.lor 11452513114915352 μ = μ) (h₀ : s₀.Follows μ s) :
    s₀.Follows μ (State.accept s r d) := by
  refine State.Follows.lift hm h₀ ?_
  have h := State.Follows.refl 11452513114915352 s
  unfold State.accept
  repeat' first
    | (with_reducible assumption)
    | (exact (rfl : Nat.lor _ _ = _))
    | (with_reducible refine State.count64_follows ?_ ?_)
    | (with_reducible refine State.fetchChunk_follows ?_ ?_)
    | (with_reducible refine State.grmFetch_follows ?_ ?_)
    | (with_reducible refine State.sqAdvance_follows ?_ ?_)
    | (with_reducible apply State.Follows.ite)
    | split
    | dsimp only
    | ((with_reducible apply State.Follows.keep) <;> first | exact trivial | exact rfl | skip)

theorem State.tryHead_follows {μ : Nat} {s₀ : State} {s : State} {r : Nat} (hm : Nat.lor 153376374516613912 μ = μ) (h₀ : s₀.Follows μ s) :
    s₀.Follows μ (State.tryHead s r).1 := by
  refine State.Follows.lift hm h₀ ?_
  have h := State.Follows.refl 153376374516613912 s
  unfold State.tryHead
  repeat' first
    | (with_reducible assumption)
    | (exact (rfl : Nat.lor _ _ = _))
    | (with_reducible refine State.checkRequest_follows ?_ ?_)
    | (with_reducible refine State.emit_follows ?_ ?_)
    | (with_reducible refine State.reject_follows ?_ ?_)
    | (with_reducible apply State.Follows.ite_fst)
    | (with_reducible refine State.Follows.of_fst (by assumption) ?_)
    | split
    | dsimp only
    | ((with_reducible apply State.Follows.keep) <;> first | exact trivial | exact rfl | skip)

theorem State.descError_follows {μ : Nat} {s₀ : State} {s : State} {r : Nat} (hm : Nat.lor 153157571702686488 μ = μ) (h₀ : s₀.Follows μ s) :
    s₀.Follows μ (State.descError s r) := by
  refine State.Follows.lift hm h₀ ?_
  have h := State.Follows.refl 153157571702686488 s
  unfold State.descError
  repeat' first
    | (with_reducible assumption)
    | (exact (rfl : Nat.lor _ _ = _))
    | (with_reducible refine State.logEvent_follows ?_ ?_)
    | (with_reducible refine State.sqDisable_follows ?_ ?_)
    | ((with_reducible apply State.Follows.keep) <;> first | exact trivial | exact rfl | skip)

theorem execRequestDescriptor_follows {μ : Nat} {s₀ : State} {ring : Nat} {error : Bool} {bytes : List Byte} {s : State} (hm : Nat.lor 153376374516613912 μ = μ) (h₀ : s₀.Follows μ s) :
    s₀.Ends μ (execRequestDescriptor ring error bytes s) := by
  refine State.Ends.lift hm h₀ ?_
  have h := State.Follows.refl 153376374516613912 s
  unfold execRequestDescriptor
  repeat' first
    | (with_reducible assumption)
    | (exact (rfl : Nat.lor _ _ = _))
    | (with_reducible refine State.descError_follows ?_ ?_)
    | (with_reducible refine State.tryHead_follows ?_ ?_)
    | (with_reducible apply State.Ends.next)
    | (with_reducible apply State.Follows.ite)
    | ((with_reducible apply State.Follows.keep) <;> first | exact trivial | exact rfl | skip)

theorem execListFetchComplete_follows {μ : Nat} {s₀ : State} {ring : Nat} {error : Bool} {tokens : List Nat} {s : State} (hm : Nat.lor 153376374516613912 μ = μ) (h₀ : s₀.Follows μ s) :
    s₀.Ends μ (execListFetchComplete ring error tokens s) := by
  refine State.Ends.lift hm h₀ ?_
  have h := State.Follows.refl 153376374516613912 s
  unfold execListFetchComplete
  repeat' first
    | (with_reducible assumption)
    | (exact (rfl : Nat.lor _ _ = _))
    | (with_reducible refine State.reject_follows ?_ ?_)
    | (with_reducible refine State.tryHead_follows ?_ ?_)
    | (with_reducible apply State.Ends.next)
    | (with_reducible apply State.Follows.ite)
    | split
    | ((with_reducible apply State.Follows.keep) <;> first | exact trivial | exact rfl | skip)

theorem execRequestAccepted_follows {μ : Nat} {s₀ : State} {ring : Nat} {s : State} (hm : Nat.lor 155645766516343576 μ = μ) (h₀ : s₀.Follows μ s) :
    s₀.Ends μ (execRequestAccepted ring s) := by
  refine State.Ends.lift hm h₀ ?_
  have h := State.Follows.refl 155645766516343576 s
  unfold execRequestAccepted
  repeat' first
    | (with_reducible assumption)
    | (exact (rfl : Nat.lor _ _ = _))
    | (with_reducible refine State.accept_follows ?_ ?_)
    | (with_reducible refine State.tryHead_follows ?_ ?_)
    | (with_reducible apply State.Ends.next)
    | (with_reducible refine State.Follows.of_fst (by assumption) ?_)
    | split

theorem execPromptChunkFetch_follows {μ : Nat} {s₀ : State} {inst slot : Nat} {error : Bool} {tokens : List Nat} {s : State} (hm : Nat.lor 17592186044416 μ = μ) (h₀ : s₀.Follows μ s) :
    s₀.Ends μ (execPromptChunkFetch inst slot error tokens s) := by
  refine State.Ends.lift hm h₀ ?_
  have h := State.Follows.refl 17592186044416 s
  unfold execPromptChunkFetch
  repeat' first
    | (with_reducible assumption)
    | (exact (rfl : Nat.lor _ _ = _))
    | (with_reducible refine State.updSeq_follows ?_ ?_)
    | (with_reducible apply State.Ends.next)
    | (with_reducible apply State.Follows.ite)

theorem execRecordBatchWrite_follows {μ : Nat} {s₀ : State} {ring : Nat} {s : State} (hm : Nat.lor 70368744177672 μ = μ) (h₀ : s₀.Follows μ s) :
    s₀.Ends μ (execRecordBatchWrite ring s) := by
  refine State.Ends.lift hm h₀ ?_
  have h := State.Follows.refl 70368744177672 s
  unfold execRecordBatchWrite
  repeat' first
    | (with_reducible assumption)
    | (exact (rfl : Nat.lor _ _ = _))
    | (with_reducible refine State.emit_follows ?_ ?_)
    | (with_reducible refine State.updRec_follows ?_ ?_)
    | (with_reducible apply State.Ends.next)
    | (with_reducible apply State.Follows.ite)
    | (with_reducible refine State.Follows.foldl _ ?_ ?_)
    | (intro _ _ _)

theorem execRecordReadbackComplete_follows {μ : Nat} {s₀ : State} {ring : Nat} {s : State} (hm : Nat.lor 9095160184963608 μ = μ) (h₀ : s₀.Follows μ s) :
    s₀.Ends μ (execRecordReadbackComplete ring s) := by
  refine State.Ends.lift hm h₀ ?_
  have h := State.Follows.refl 9095160184963608 s
  unfold execRecordReadbackComplete
  repeat' first
    | (with_reducible assumption)
    | (exact (rfl : Nat.lor _ _ = _))
    | (with_reducible refine State.emit_follows ?_ ?_)
    | (with_reducible refine State.irqEvents_follows ?_ ?_)
    | (with_reducible refine State.serveEntries_follows ?_ ?_)
    | (with_reducible refine State.setRegN_follows ?_ ?_)
    | (with_reducible refine State.updRec_follows ?_ ?_)
    | (with_reducible apply State.Ends.next)
    | (with_reducible apply State.Follows.ite)

theorem State.retireSoon_follows {μ : Nat} {s₀ : State} {s : State} {i q status : Nat} (hm : Nat.lor 17660905521152 μ = μ) (h₀ : s₀.Follows μ s) :
    s₀.Follows μ (State.retireSoon s i q status) := by
  refine State.Follows.lift hm h₀ ?_
  have h := State.Follows.refl 17660905521152 s
  unfold State.retireSoon
  repeat' first
    | (with_reducible assumption)
    | (exact (rfl : Nat.lor _ _ = _))
    | (with_reducible refine State.updSeq_follows ?_ ?_)
    | (with_reducible refine State.updSpill_follows ?_ ?_)
    | (with_reducible apply State.Follows.ite)

theorem execDeadlinePassed_follows {μ : Nat} {s₀ : State} {inst slot : Nat} {s : State} (hm : Nat.lor 153140048236118808 μ = μ) (h₀ : s₀.Follows μ s) :
    s₀.Ends μ (execDeadlinePassed inst slot s) := by
  refine State.Ends.lift hm h₀ ?_
  have h := State.Follows.refl 153140048236118808 s
  unfold execDeadlinePassed
  repeat' first
    | (with_reducible assumption)
    | (exact (rfl : Nat.lor _ _ = _))
    | (with_reducible refine State.lateEvent_follows ?_ ?_)
    | (with_reducible refine State.retireSoon_follows ?_ ?_)
    | (with_reducible apply State.Ends.next)
    | (with_reducible apply State.Follows.ite)

theorem State.schDone_follows {μ : Nat} {s₀ : State} {s : State} {port : Port} {cmd i q status : Nat} (hm : Nat.lor 153966812260729624 μ = μ) (h₀ : s₀.Follows μ s) :
    s₀.Follows μ (State.schDone s port cmd i q status).1 := by
  refine State.Follows.lift hm h₀ ?_
  have h := State.Follows.refl 153966812260729624 s
  unfold State.schDone
  repeat' first
    | (with_reducible assumption)
    | (exact (rfl : Nat.lor _ _ = _))
    | (with_reducible refine State.logEvent_follows ?_ ?_)
    | (with_reducible apply State.Follows.ite)
    | ((with_reducible apply State.Follows.keep) <;> first | exact trivial | exact rfl | skip)

theorem State.evictSlot_follows {μ : Nat} {s₀ : State} {s : State} {i q : Nat} (hm : Nat.lor 153219213073318680 μ = μ) (h₀ : s₀.Follows μ s) :
    s₀.Follows μ (State.evictSlot s i q) := by
  refine State.Follows.lift hm h₀ ?_
  have h := State.Follows.refl 153219213073318680 s
  unfold State.evictSlot
  repeat' first
    | (with_reducible assumption)
    | (exact (rfl : Nat.lor _ _ = _))
    | (with_reducible refine State.evictedEvent_follows ?_ ?_)
    | (with_reducible refine State.retireSoon_follows ?_ ?_)
    | (with_reducible refine State.stepCheck_follows ?_ ?_)
    | (with_reducible apply State.Follows.ite)
    | dsimp only
    | ((with_reducible apply State.Follows.keep) <;> first | exact trivial | exact rfl | skip)

theorem State.schEvict_follows {μ : Nat} {s₀ : State} {s : State} {port : Port} {i q : Nat} (hm : Nat.lor 154063638003450648 μ = μ) (h₀ : s₀.Follows μ s) :
    s₀.Follows μ (State.schEvict s port i q).1 := by
  refine State.Follows.lift hm h₀ ?_
  have h := State.Follows.refl 154063638003450648 s
  unfold State.schEvict
  repeat' first
    | (with_reducible assumption)
    | (exact (rfl : Nat.lor _ _ = _))
    | (with_reducible refine State.evictSlot_follows ?_ ?_)
    | (with_reducible refine State.schDone_follows ?_ ?_)
    | (with_reducible apply State.Follows.ite_fst)

theorem State.schEvictAll_follows {μ : Nat} {s₀ : State} {s : State} {port : Port} {i : Nat} (hm : Nat.lor 154063638003450648 μ = μ) (h₀ : s₀.Follows μ s) :
    s₀.Follows μ (State.schEvictAll s port i).1 := by
  refine State.Follows.lift hm h₀ ?_
  have h := State.Follows.refl 154063638003450648 s
  unfold State.schEvictAll
  repeat' first
    | (with_reducible assumption)
    | (exact (rfl : Nat.lor _ _ = _))
    | (with_reducible refine State.evictSlot_follows ?_ ?_)
    | (with_reducible refine State.schDone_follows ?_ ?_)
    | (with_reducible apply State.Follows.ite_fst)
    | (with_reducible refine State.Follows.foldl _ ?_ ?_)
    | split
    | (intro _ _ _)

theorem State.schHold_follows {μ : Nat} {s₀ : State} {s : State} {port : Port} {i : Nat} (hm : Nat.lor 153975608353751832 μ = μ) (h₀ : s₀.Follows μ s) :
    s₀.Follows μ (State.schHold s port i).1 := by
  refine State.Follows.lift hm h₀ ?_
  have h := State.Follows.refl 153975608353751832 s
  unfold State.schHold
  repeat' first
    | (with_reducible assumption)
    | (exact (rfl : Nat.lor _ _ = _))
    | (with_reducible refine State.schDone_follows ?_ ?_)
    | (with_reducible refine State.updInst_follows ?_ ?_)
    | (with_reducible apply State.Follows.ite_fst)

theorem State.schRelease_follows {μ : Nat} {s₀ : State} {s : State} {port : Port} {i : Nat} (hm : Nat.lor 153975608353751832 μ = μ) (h₀ : s₀.Follows μ s) :
    s₀.Follows μ (State.schRelease s port i).1 := by
  refine State.Follows.lift hm h₀ ?_
  have h := State.Follows.refl 153975608353751832 s
  unfold State.schRelease
  repeat' first
    | (with_reducible assumption)
    | (exact (rfl : Nat.lor _ _ = _))
    | (with_reducible refine State.schDone_follows ?_ ?_)
    | (with_reducible refine State.updInst_follows ?_ ?_)
    | (with_reducible apply State.Follows.ite_fst)

theorem execStepLimitExpiry_follows {μ : Nat} {s₀ : State} {inst : Nat} {s : State} (hm : Nat.lor 156597941438513944 μ = μ) (h₀ : s₀.Follows μ s) :
    s₀.Ends μ (execStepLimitExpiry inst s) := by
  refine State.Ends.lift hm h₀ ?_
  have h := State.Follows.refl 156597941438513944 s
  unfold execStepLimitExpiry
  repeat' first
    | (with_reducible assumption)
    | (exact (rfl : Nat.lor _ _ = _))
    | (with_reducible refine State.stallIf_follows ?_ ?_)
    | (with_reducible apply State.Ends.next)
    | (with_reducible apply State.Follows.ite)

theorem execSqTailWrite_follows {μ : Nat} {s₀ : State} {ring : Nat} {port : Port} {value : Nat} {s : State} (hm : Nat.lor 153157571702686488 μ = μ) (h₀ : s₀.Follows μ s) :
    s₀.Ends μ (execSqTailWrite ring port value s) := by
  refine State.Ends.lift hm h₀ ?_
  have h := State.Follows.refl 153157571702686488 s
  unfold execSqTailWrite
  repeat' first
    | (with_reducible assumption)
    | (exact (rfl : Nat.lor _ _ = _))
    | (with_reducible refine State.sqTail_follows ?_ ?_)
    | (with_reducible apply State.Ends.next)

theorem execSqCfgWrite_follows {μ : Nat} {s₀ : State} {ring : Nat} {port : Port} {value : Nat} {s : State} (hm : Nat.lor 153157571702686488 μ = μ) (h₀ : s₀.Follows μ s) :
    s₀.Ends μ (execSqCfgWrite ring port value s) := by
  refine State.Ends.lift hm h₀ ?_
  have h := State.Follows.refl 153157571702686488 s
  unfold execSqCfgWrite
  repeat' first
    | (with_reducible assumption)
    | (exact (rfl : Nat.lor _ _ = _))
    | (with_reducible refine State.sqCfg_follows ?_ ?_)
    | (with_reducible apply State.Ends.next)

theorem execRqHeadWrite_follows {μ : Nat} {s₀ : State} {ring : Nat} {port : Port} {value : Nat} {s : State} (hm : Nat.lor 16 μ = μ) (h₀ : s₀.Follows μ s) :
    s₀.Ends μ (execRqHeadWrite ring port value s) := by
  refine State.Ends.lift hm h₀ ?_
  have h := State.Follows.refl 16 s
  unfold execRqHeadWrite
  repeat' first
    | (with_reducible assumption)
    | (exact (rfl : Nat.lor _ _ = _))
    | (with_reducible refine State.rqHead_follows ?_ ?_)
    | (with_reducible apply State.Ends.next)

theorem execRqCfgWrite_follows {μ : Nat} {s₀ : State} {ring : Nat} {port : Port} {value : Nat} {s : State} (hm : Nat.lor 153192756074775320 μ = μ) (h₀ : s₀.Follows μ s) :
    s₀.Ends μ (execRqCfgWrite ring port value s) := by
  refine State.Ends.lift hm h₀ ?_
  have h := State.Follows.refl 153192756074775320 s
  unfold execRqCfgWrite
  repeat' first
    | (with_reducible assumption)
    | (exact (rfl : Nat.lor _ _ = _))
    | (with_reducible refine State.rqCfg_follows ?_ ?_)
    | (with_reducible apply State.Ends.next)

theorem execEvict_follows {μ : Nat} {s₀ : State} {port : Port} {inst slot : Nat} {s : State} (hm : Nat.lor 154063638003450648 μ = μ) (h₀ : s₀.Follows μ s) :
    s₀.Ends μ (execEvict port inst slot s) := by
  refine State.Ends.lift hm h₀ ?_
  have h := State.Follows.refl 154063638003450648 s
  unfold execEvict
  repeat' first
    | (with_reducible assumption)
    | (exact (rfl : Nat.lor _ _ = _))
    | (with_reducible refine State.schEvict_follows ?_ ?_)
    | (with_reducible apply State.Ends.next)

theorem execEvictAll_follows {μ : Nat} {s₀ : State} {port : Port} {inst : Nat} {s : State} (hm : Nat.lor 154063638003450648 μ = μ) (h₀ : s₀.Follows μ s) :
    s₀.Ends μ (execEvictAll port inst s) := by
  refine State.Ends.lift hm h₀ ?_
  have h := State.Follows.refl 154063638003450648 s
  unfold execEvictAll
  repeat' first
    | (with_reducible assumption)
    | (exact (rfl : Nat.lor _ _ = _))
    | (with_reducible refine State.schEvictAll_follows ?_ ?_)
    | (with_reducible apply State.Ends.next)

theorem execHold_follows {μ : Nat} {s₀ : State} {port : Port} {inst : Nat} {s : State} (hm : Nat.lor 153975608353751832 μ = μ) (h₀ : s₀.Follows μ s) :
    s₀.Ends μ (execHold port inst s) := by
  refine State.Ends.lift hm h₀ ?_
  have h := State.Follows.refl 153975608353751832 s
  unfold execHold
  repeat' first
    | (with_reducible assumption)
    | (exact (rfl : Nat.lor _ _ = _))
    | (with_reducible refine State.schHold_follows ?_ ?_)
    | (with_reducible apply State.Ends.next)

theorem execRelease_follows {μ : Nat} {s₀ : State} {port : Port} {inst : Nat} {s : State} (hm : Nat.lor 153975608353751832 μ = μ) (h₀ : s₀.Follows μ s) :
    s₀.Ends μ (execRelease port inst s) := by
  refine State.Ends.lift hm h₀ ?_
  have h := State.Follows.refl 153975608353751832 s
  unfold execRelease
  repeat' first
    | (with_reducible assumption)
    | (exact (rfl : Nat.lor _ _ = _))
    | (with_reducible refine State.schRelease_follows ?_ ?_)
    | (with_reducible apply State.Ends.next)

end Sys2Proof.Machine
end

