-- ==== Sys2Proof/Laws/FollowsShutdown.lean ====
section
/-!
SUPPORT. The operations of Machine/Shutdown.lean keep the relation `State.Follows`. The number in a lemma is the mask of the
components that its operation may change.
-/
namespace Sys2Proof.Machine
open Sys2Proof

theorem State.shutdownEvict_follows {μ : Nat} {s₀ : State} {s : State} {i : Nat} (hm : Nat.lor 156597941438513944 μ = μ) (h₀ : s₀.Follows μ s) :
    s₀.Follows μ (State.shutdownEvict s i) := by
  refine State.Follows.lift hm h₀ ?_
  have h := State.Follows.refl 156597941438513944 s
  unfold State.shutdownEvict
  repeat' first
    | (with_reducible assumption)
    | (exact (rfl : Nat.lor _ _ = _))
    | (with_reducible refine State.evictedEvent_follows ?_ ?_)
    | (with_reducible refine State.freeOne_follows ?_ ?_)
    | (with_reducible refine State.freeSeq_follows ?_ ?_)
    | (with_reducible refine State.record_follows ?_ ?_)
    | (with_reducible refine State.updInst_follows ?_ ?_)
    | (with_reducible apply State.Follows.ite)
    | (with_reducible refine State.Follows.foldl _ ?_ ?_)
    | (intro _ _ _)
    | dsimp only
    | ((with_reducible apply State.Follows.keep) <;> first | exact trivial | exact rfl | skip)

theorem State.startShutdown_follows {μ : Nat} {s₀ : State} {s : State} (hm : Nat.lor 2361339839376261120792 μ = μ) (h₀ : s₀.Follows μ s) :
    s₀.Follows μ (State.startShutdown s) := by
  refine State.Follows.lift hm h₀ ?_
  have h := State.Follows.refl 2361339839376261120792 s
  unfold State.startShutdown
  repeat' first
    | (with_reducible assumption)
    | (exact (rfl : Nat.lor _ _ = _))
    | (with_reducible refine State.shutdownEvict_follows ?_ ?_)
    | (with_reducible apply State.Follows.ite)
    | (with_reducible refine State.Follows.foldl _ ?_ ?_)
    | (intro _ _ _)
    | dsimp only
    | ((with_reducible apply State.Follows.keep) <;> first | exact trivial | exact rfl | skip)

end Sys2Proof.Machine
end

