-- ==== Sys2Proof/Laws/FollowsBoundary.lean ====
section
/-!
SUPPORT. The operations of Machine/Boundary.lean keep the relation `State.Follows`. The number in a lemma is the mask of the
components that its operation may change.
-/
namespace Sys2Proof.Machine
open Sys2Proof

theorem State.commitParts_follows {μ : Nat} {s₀ : State} {s : State} {i q lc : Nat} (hm : Nat.lor 153122952118797080 μ = μ) (h₀ : s₀.Follows μ s) :
    s₀.Follows μ (State.commitParts s i q lc) := by
  refine State.Follows.lift hm h₀ ?_
  have h := State.Follows.refl 153122952118797080 s
  unfold State.commitParts
  repeat' first
    | (with_reducible assumption)
    | (exact (rfl : Nat.lor _ _ = _))
    | (with_reducible refine State.flushInto_follows ?_ ?_)
    | (with_reducible refine State.flushNoFrame_follows ?_ ?_)
    | (with_reducible refine State.pedCount_follows ?_ ?_)
    | (with_reducible apply State.Follows.ite)
    | (with_reducible refine State.Follows.foldl _ ?_ ?_)
    | split
    | (intro _ _ _)
    | ((with_reducible apply State.Follows.keep) <;> first | exact trivial | exact rfl | skip)

theorem State.incomplete_follows {μ : Nat} {s₀ : State} {s : State} {i q j : Nat} (hm : Nat.lor 153122387330597656 μ = μ) (h₀ : s₀.Follows μ s) :
    s₀.Follows μ (State.incomplete s i q j) := by
  refine State.Follows.lift hm h₀ ?_
  have h := State.Follows.refl 153122387330597656 s
  unfold State.incomplete
  repeat' first
    | (with_reducible assumption)
    | (exact (rfl : Nat.lor _ _ = _))
    | (with_reducible refine State.count_follows ?_ ?_)
    | (with_reducible refine State.logEvent_follows ?_ ?_)

theorem State.dropDraft_follows {μ : Nat} {s₀ : State} {s : State} {i q : Nat} (hm : Nat.lor 18689550188560 μ = μ) (h₀ : s₀.Follows μ s) :
    s₀.Follows μ (State.dropDraft s i q) := by
  refine State.Follows.lift hm h₀ ?_
  have h := State.Follows.refl 18689550188560 s
  unfold State.dropDraft
  repeat' first
    | (with_reducible assumption)
    | (exact (rfl : Nat.lor _ _ = _))
    | (with_reducible refine State.freeOne_follows ?_ ?_)
    | (with_reducible refine State.updSeq_follows ?_ ?_)
    | split

theorem State.commitDraft_follows {μ : Nat} {s₀ : State} {s : State} {i q l0 lc : Nat} {used : List Nat} (hm : Nat.lor 153141076880786200 μ = μ) (h₀ : s₀.Follows μ s) :
    s₀.Follows μ (State.commitDraft s i q l0 lc used) := by
  refine State.Follows.lift hm h₀ ?_
  have h := State.Follows.refl 153141076880786200 s
  unfold State.commitDraft
  repeat' first
    | (with_reducible assumption)
    | (exact (rfl : Nat.lor _ _ = _))
    | (with_reducible refine State.commitParts_follows ?_ ?_)
    | (with_reducible refine State.dropDraft_follows ?_ ?_)
    | (with_reducible refine State.incomplete_follows ?_ ?_)
    | (with_reducible refine State.updSeq_follows ?_ ?_)
    | split
    | dsimp only

theorem State.dueStatus_follows {μ : Nat} {s₀ : State} {s : State} {i q status : Nat} (hm : Nat.lor 17592186044416 μ = μ) (h₀ : s₀.Follows μ s) :
    s₀.Follows μ (State.dueStatus s i q status) := by
  refine State.Follows.lift hm h₀ ?_
  have h := State.Follows.refl 17592186044416 s
  unfold State.dueStatus
  repeat' first
    | (with_reducible assumption)
    | (exact (rfl : Nat.lor _ _ = _))
    | (with_reducible refine State.updSeq_follows ?_ ?_)

theorem State.commitOne_follows {μ : Nat} {s₀ : State} {s : State} {i e : Nat} {ent : StepEnt} (hm : Nat.lor 153141076880786200 μ = μ) (h₀ : s₀.Follows μ s) :
    s₀.Follows μ (State.commitOne s i e ent) := by
  refine State.Follows.lift hm h₀ ?_
  have h := State.Follows.refl 153141076880786200 s
  unfold State.commitOne
  repeat' first
    | (with_reducible assumption)
    | (exact (rfl : Nat.lor _ _ = _))
    | (with_reducible refine State.commitDraft_follows ?_ ?_)
    | (with_reducible refine State.commitParts_follows ?_ ?_)
    | (with_reducible refine State.dueStatus_follows ?_ ?_)
    | (with_reducible refine State.evictedEvent_follows ?_ ?_)
    | (with_reducible refine State.grmFetch_follows ?_ ?_)
    | (with_reducible refine State.incomplete_follows ?_ ?_)
    | (with_reducible refine State.updSeq_follows ?_ ?_)
    | (with_reducible apply State.Follows.ite)
    | split
    | dsimp only

theorem State.commitResults_follows {μ : Nat} {s₀ : State} {s : State} {i : Nat} (hm : Nat.lor 153149340397863704 μ = μ) (h₀ : s₀.Follows μ s) :
    s₀.Follows μ (State.commitResults s i) := by
  refine State.Follows.lift hm h₀ ?_
  have h := State.Follows.refl 153149340397863704 s
  unfold State.commitResults
  repeat' first
    | (with_reducible assumption)
    | (exact (rfl : Nat.lor _ _ = _))
    | (with_reducible refine State.commitParts_follows ?_ ?_)
    | (with_reducible refine State.dueStatus_follows ?_ ?_)
    | (with_reducible refine State.evictedEvent_follows ?_ ?_)
    | (with_reducible refine State.incomplete_follows ?_ ?_)
    | (with_reducible refine State.updInst_follows ?_ ?_)
    | (with_reducible refine State.updSeq_follows ?_ ?_)
    | (with_reducible apply State.Follows.ite)
    | (with_reducible refine State.Follows.foldl _ ?_ ?_)
    | split
    | (intro _ _ _)
    | dsimp only

theorem State.commitStage_follows {μ : Nat} {s₀ : State} {s : State} {i : Nat} (hm : Nat.lor 17592186044416 μ = μ) (h₀ : s₀.Follows μ s) :
    s₀.Follows μ (State.commitStage s i) := by
  refine State.Follows.lift hm h₀ ?_
  have h := State.Follows.refl 17592186044416 s
  unfold State.commitStage
  repeat' first
    | (with_reducible assumption)
    | (exact (rfl : Nat.lor _ _ = _))
    | (with_reducible refine State.updSeq_follows ?_ ?_)
    | (with_reducible refine State.Follows.foldl _ ?_ ?_)
    | (intro _ _ _)

theorem State.reportResults_follows {μ : Nat} {s₀ : State} {s : State} {i : Nat} {ents : List StepEnt} (hm : Nat.lor 8796093022208 μ = μ) (h₀ : s₀.Follows μ s) :
    s₀.Follows μ (State.reportResults s i ents) := by
  refine State.Follows.lift hm h₀ ?_
  have h := State.Follows.refl 8796093022208 s
  unfold State.reportResults
  repeat' first
    | (with_reducible assumption)
    | (exact (rfl : Nat.lor _ _ = _))
    | (with_reducible refine State.updInst_follows ?_ ?_)

theorem State.dropBuffers_follows {μ : Nat} {s₀ : State} {s : State} {i : Nat} (hm : Nat.lor 8388608 μ = μ) (h₀ : s₀.Follows μ s) :
    s₀.Follows μ (State.dropBuffers s i) := by
  refine State.Follows.lift hm h₀ ?_
  have h := State.Follows.refl 8388608 s
  unfold State.dropBuffers
  repeat' first
    | (with_reducible assumption)
    | dsimp only
    | ((with_reducible apply State.Follows.keep) <;> first | exact trivial | exact rfl | skip)

theorem State.commitStep_follows {μ : Nat} {s₀ : State} {s : State} {i : Nat} (hm : Nat.lor 153149872973808408 μ = μ) (h₀ : s₀.Follows μ s) :
    s₀.Follows μ (State.commitStep s i) := by
  refine State.Follows.lift hm h₀ ?_
  have h := State.Follows.refl 153149872973808408 s
  unfold State.commitStep
  repeat' first
    | (with_reducible assumption)
    | (exact (rfl : Nat.lor _ _ = _))
    | (with_reducible refine State.commitOne_follows ?_ ?_)
    | (with_reducible refine State.commitStage_follows ?_ ?_)
    | (with_reducible refine State.count64_follows ?_ ?_)
    | (with_reducible refine State.reportResults_follows ?_ ?_)
    | (with_reducible refine State.updInst_follows ?_ ?_)
    | (with_reducible apply State.Follows.ite)
    | (with_reducible refine State.Follows.foldl _ ?_ ?_)
    | (intro _ _ _)

theorem State.retireAtBoundary_follows {μ : Nat} {s₀ : State} {s : State} {i : Nat} (hm : Nat.lor 153148775609664280 μ = μ) (h₀ : s₀.Follows μ s) :
    s₀.Follows μ (State.retireAtBoundary s i) := by
  refine State.Follows.lift hm h₀ ?_
  have h := State.Follows.refl 153148775609664280 s
  unfold State.retireAtBoundary
  repeat' first
    | (with_reducible assumption)
    | (exact (rfl : Nat.lor _ _ = _))
    | (with_reducible refine State.count_follows ?_ ?_)
    | (with_reducible refine State.dueStatus_follows ?_ ?_)
    | (with_reducible refine State.evictedEvent_follows ?_ ?_)
    | (with_reducible refine State.lateEvent_follows ?_ ?_)
    | (with_reducible refine State.logEvent_follows ?_ ?_)
    | (with_reducible refine State.updInst_follows ?_ ?_)
    | (with_reducible apply State.Follows.ite)
    | (with_reducible refine State.Follows.foldl _ ?_ ?_)
    | split
    | (intro _ _ _)

theorem State.freeRetiring_follows {μ : Nat} {s₀ : State} {s : State} {i : Nat} (hm : Nat.lor 2340858108051472 μ = μ) (h₀ : s₀.Follows μ s) :
    s₀.Follows μ (State.freeRetiring s i) := by
  refine State.Follows.lift hm h₀ ?_
  have h := State.Follows.refl 2340858108051472 s
  unfold State.freeRetiring
  repeat' first
    | (with_reducible assumption)
    | (exact (rfl : Nat.lor _ _ = _))
    | (with_reducible refine State.freeSeq_follows ?_ ?_)
    | (with_reducible refine State.record_follows ?_ ?_)
    | (with_reducible apply State.Follows.ite)
    | (with_reducible refine State.Follows.foldl _ ?_ ?_)
    | split
    | (intro _ _ _)

theorem State.freePre_follows {μ : Nat} {s₀ : State} {s : State} {i : Nat} (hm : Nat.lor 19327352848 μ = μ) (h₀ : s₀.Follows μ s) :
    s₀.Follows μ (State.freePre s i) := by
  refine State.Follows.lift hm h₀ ?_
  have h := State.Follows.refl 19327352848 s
  unfold State.freePre
  repeat' first
    | (with_reducible assumption)
    | (exact (rfl : Nat.lor _ _ = _))
    | (with_reducible refine State.writePte_follows ?_ ?_)
    | (with_reducible apply State.Follows.ite)
    | (with_reducible refine State.Follows.foldl _ ?_ ?_)
    | (intro _ _ _)
    | dsimp only
    | ((with_reducible apply State.Follows.keep) <;> first | exact trivial | exact rfl | skip)

theorem State.pauseSeq_follows {μ : Nat} {s₀ : State} {s : State} {i q : Nat} (hm : Nat.lor 153210416980296472 μ = μ) (h₀ : s₀.Follows μ s) :
    s₀.Follows μ (State.pauseSeq s i q) := by
  refine State.Follows.lift hm h₀ ?_
  have h := State.Follows.refl 153210416980296472 s
  unfold State.pauseSeq
  repeat' first
    | (with_reducible assumption)
    | (exact (rfl : Nat.lor _ _ = _))
    | (with_reducible refine State.count_follows ?_ ?_)
    | (with_reducible refine State.logLimited_follows ?_ ?_)
    | (with_reducible refine State.nameSpill_follows ?_ ?_)
    | (with_reducible refine State.record_follows ?_ ?_)
    | (with_reducible refine State.updSeq_follows ?_ ?_)
    | (with_reducible apply State.Follows.ite)

theorem State.takeEntries_follows {μ : Nat} {s₀ : State} {s : State} {i : Nat} (hm : Nat.lor 87960930222080 μ = μ) (h₀ : s₀.Follows μ s) :
    s₀.Follows μ (State.takeEntries s i) := by
  refine State.Follows.lift hm h₀ ?_
  have h := State.Follows.refl 87960930222080 s
  unfold State.takeEntries
  repeat' first
    | (with_reducible assumption)
    | (exact (rfl : Nat.lor _ _ = _))
    | (with_reducible refine State.updRec_follows ?_ ?_)
    | (with_reducible refine State.updSeq_follows ?_ ?_)
    | (with_reducible apply State.Follows.ite)
    | (with_reducible refine State.Follows.foldl _ ?_ ?_)
    | (intro _ _ _)

theorem State.allocate_follows {μ : Nat} {s₀ : State} {s : State} {i q l0 l : Nat} (hm : Nat.lor 19327352848 μ = μ) (h₀ : s₀.Follows μ s) :
    s₀.Follows μ (State.allocate s i q l0 l).1 := by
  refine State.Follows.lift hm h₀ ?_
  have h := State.Follows.refl 19327352848 s
  unfold State.allocate
  repeat' first
    | (with_reducible assumption)
    | (exact (rfl : Nat.lor _ _ = _))
    | (with_reducible refine State.writePte_follows ?_ ?_)
    | (with_reducible refine State.Follows.foldl _ ?_ ?_)
    | split
    | (intro _ _ _)
    | dsimp only
    | ((with_reducible apply State.Follows.keep) <;> first | exact trivial | exact rfl | skip)

theorem State.admitSeq_follows {μ : Nat} {s₀ : State} {s : State} {i q : Nat} (hm : Nat.lor 45097156624 μ = μ) (h₀ : s₀.Follows μ s) :
    s₀.Follows μ (State.admitSeq s i q) := by
  refine State.Follows.lift hm h₀ ?_
  have h := State.Follows.refl 45097156624 s
  unfold State.admitSeq
  repeat' first
    | (with_reducible assumption)
    | (exact (rfl : Nat.lor _ _ = _))
    | (with_reducible refine State.partsAt_follows ?_ ?_)
    | (with_reducible refine State.writePte_follows ?_ ?_)
    | (with_reducible refine State.Follows.foldl _ ?_ ?_)
    | split
    | (intro _ _ _)
    | dsimp only
    | ((with_reducible apply State.Follows.keep) <;> first | exact trivial | exact rfl | skip)

theorem State.writeKvSeqs_follows {μ : Nat} {s₀ : State} {s : State} {i : Nat} {ents : List StepEnt} (hm : Nat.lor 4294967296 μ = μ) (h₀ : s₀.Follows μ s) :
    s₀.Follows μ (State.writeKvSeqs s i ents) := by
  refine State.Follows.lift hm h₀ ?_
  have h := State.Follows.refl 4294967296 s
  unfold State.writeKvSeqs
  repeat' first
    | (with_reducible assumption)
    | (with_reducible refine State.Follows.foldl _ ?_ ?_)
    | (intro _ _ _)
    | ((with_reducible apply State.Follows.keep) <;> first | exact trivial | exact rfl | skip)

theorem State.layStep_follows {μ : Nat} {s₀ : State} {s : State} {i : Nat} {ents : List StepEnt} (hm : Nat.lor 8800387989504 μ = μ) (h₀ : s₀.Follows μ s) :
    s₀.Follows μ (State.layStep s i ents) := by
  refine State.Follows.lift hm h₀ ?_
  have h := State.Follows.refl 8800387989504 s
  unfold State.layStep
  repeat' first
    | (with_reducible assumption)
    | (exact (rfl : Nat.lor _ _ = _))
    | (with_reducible refine State.updInst_follows ?_ ?_)
    | (with_reducible refine State.writeKvSeqs_follows ?_ ?_)

theorem State.takePick_follows {μ : Nat} {s₀ : State} {s : State} {i : Nat} {p : Pick} (hm : Nat.lor 26519275569168 μ = μ) (h₀ : s₀.Follows μ s) :
    s₀.Follows μ (State.takePick s i p) := by
  refine State.Follows.lift hm h₀ ?_
  have h := State.Follows.refl 26519275569168 s
  unfold State.takePick
  repeat' first
    | (with_reducible assumption)
    | (exact (rfl : Nat.lor _ _ = _))
    | (with_reducible refine State.admitSeq_follows ?_ ?_)
    | (with_reducible refine State.allocate_follows ?_ ?_)
    | (with_reducible refine State.partsAt_follows ?_ ?_)
    | (with_reducible refine State.spillCancel_follows ?_ ?_)
    | (with_reducible refine State.updInst_follows ?_ ?_)
    | (with_reducible refine State.updSeq_follows ?_ ?_)
    | (with_reducible apply State.Follows.ite)
    | split
    | dsimp only

theorem State.pickDraft_follows {μ : Nat} {s₀ : State} {s : State} {i d j : Nat} {e : StepEnt} {ps : List (Pick × List Nat × Nat × Bool)} (hm : Nat.lor 19327352848 μ = μ) (h₀ : s₀.Follows μ s) :
    s₀.Follows μ (State.pickDraft s i d j e ps).1 := by
  refine State.Follows.lift hm h₀ ?_
  have h := State.Follows.refl 19327352848 s
  unfold State.pickDraft
  repeat' first
    | (with_reducible assumption)
    | (exact (rfl : Nat.lor _ _ = _))
    | (with_reducible refine State.allocate_follows ?_ ?_)
    | (with_reducible apply State.Follows.ite_fst)
    | split

theorem State.layDraft_follows {μ : Nat} {s₀ : State} {s : State} {i d j : Nat} (hm : Nat.lor 26411901386768 μ = μ) (h₀ : s₀.Follows μ s) :
    s₀.Follows μ (State.layDraft s i d j).1 := by
  refine State.Follows.lift hm h₀ ?_
  have h := State.Follows.refl 26411901386768 s
  unfold State.layDraft
  repeat' first
    | (with_reducible assumption)
    | (exact (rfl : Nat.lor _ _ = _))
    | (with_reducible refine State.pickDraft_follows ?_ ?_)
    | (with_reducible refine State.updInst_follows ?_ ?_)
    | (with_reducible refine State.updSeq_follows ?_ ?_)
    | (with_reducible apply State.Follows.ite_fst)
    | (with_reducible refine State.Follows.foldl _ ?_ ?_)
    | (with_reducible refine State.Follows.foldl_fst _ ?_ ?_)
    | split
    | (intro _ _ _)
    | ((with_reducible apply State.Follows.keep) <;> first | exact trivial | exact rfl | skip)

theorem State.endDrafts_follows {μ : Nat} {s₀ : State} {s : State} {i d : Nat} (hm : Nat.lor 8800387989504 μ = μ) (h₀ : s₀.Follows μ s) :
    s₀.Follows μ (State.endDrafts s i d) := by
  refine State.Follows.lift hm h₀ ?_
  have h := State.Follows.refl 8800387989504 s
  unfold State.endDrafts
  repeat' first
    | (with_reducible assumption)
    | (exact (rfl : Nat.lor _ _ = _))
    | (with_reducible refine State.layStep_follows ?_ ?_)
    | (with_reducible refine State.updInst_follows ?_ ?_)

theorem State.nextDraftStep_follows {μ : Nat} {s₀ : State} {s : State} {i d j : Nat} (hm : Nat.lor 26411901386768 μ = μ) (h₀ : s₀.Follows μ s) :
    s₀.Follows μ (State.nextDraftStep s i d j) := by
  refine State.Follows.lift hm h₀ ?_
  have h := State.Follows.refl 26411901386768 s
  unfold State.nextDraftStep
  repeat' first
    | (with_reducible assumption)
    | (exact (rfl : Nat.lor _ _ = _))
    | (with_reducible refine State.endDrafts_follows ?_ ?_)
    | (with_reducible refine State.layDraft_follows ?_ ?_)
    | (with_reducible apply State.Follows.ite)
    | (with_reducible refine State.Follows.of_fst (by assumption) ?_)
    | split

theorem State.beginDrafts_follows {μ : Nat} {s₀ : State} {s : State} {i : Nat} (hm : Nat.lor 26411901386768 μ = μ) (h₀ : s₀.Follows μ s) :
    s₀.Follows μ (State.beginDrafts s i) := by
  refine State.Follows.lift hm h₀ ?_
  have h := State.Follows.refl 26411901386768 s
  unfold State.beginDrafts
  repeat' first
    | (with_reducible assumption)
    | (exact (rfl : Nat.lor _ _ = _))
    | (with_reducible refine State.endDrafts_follows ?_ ?_)
    | (with_reducible refine State.nextDraftStep_follows ?_ ?_)
    | (with_reducible apply State.Follows.ite)
    | split

theorem State.sendStep_follows {μ : Nat} {s₀ : State} {s : State} {i : Nat} (hm : Nat.lor 1152921504640401432 μ = μ) (h₀ : s₀.Follows μ s) :
    s₀.Follows μ (State.sendStep s i) := by
  refine State.Follows.lift hm h₀ ?_
  have h := State.Follows.refl 1152921504640401432 s
  unfold State.sendStep
  repeat' first
    | (with_reducible assumption)
    | (exact (rfl : Nat.lor _ _ = _))
    | (with_reducible refine State.icpMessage_follows ?_ ?_)
    | (with_reducible apply State.Follows.ite)
    | split

theorem State.sendResult_follows {μ : Nat} {s₀ : State} {s : State} {i : Nat} (hm : Nat.lor 1152930300733423640 μ = μ) (h₀ : s₀.Follows μ s) :
    s₀.Follows μ (State.sendResult s i) := by
  refine State.Follows.lift hm h₀ ?_
  have h := State.Follows.refl 1152930300733423640 s
  unfold State.sendResult
  repeat' first
    | (with_reducible assumption)
    | (exact (rfl : Nat.lor _ _ = _))
    | (with_reducible refine State.icpMessage_follows ?_ ?_)
    | (with_reducible refine State.updInst_follows ?_ ?_)
    | (with_reducible apply State.Follows.ite)
    | split

theorem State.sendShort_follows {μ : Nat} {s₀ : State} {s : State} {i : Nat} (hm : Nat.lor 1306052688064021272 μ = μ) (h₀ : s₀.Follows μ s) :
    s₀.Follows μ (State.sendShort s i) := by
  refine State.Follows.lift hm h₀ ?_
  have h := State.Follows.refl 1306052688064021272 s
  unfold State.sendShort
  repeat' first
    | (with_reducible assumption)
    | (exact (rfl : Nat.lor _ _ = _))
    | (with_reducible refine State.icpMessage_follows ?_ ?_)
    | (with_reducible refine State.logEvent_follows ?_ ?_)
    | (with_reducible refine State.updInst_follows ?_ ?_)
    | (with_reducible apply State.Follows.ite)
    | split

theorem State.stageAdmit_follows {μ : Nat} {s₀ : State} {s : State} {i q : Nat} {desc : List Byte} {list : List Nat} {ent : Option StepEnt} (hm : Nat.lor 2348601934086168 μ = μ) (h₀ : s₀.Follows μ s) :
    s₀.Follows μ (State.stageAdmit s i q desc list ent) := by
  refine State.Follows.lift hm h₀ ?_
  have h := State.Follows.refl 2348601934086168 s
  unfold State.stageAdmit
  repeat' first
    | (with_reducible assumption)
    | (exact (rfl : Nat.lor _ _ = _))
    | (with_reducible refine State.admitSeq_follows ?_ ?_)
    | (with_reducible refine State.grmFetch_follows ?_ ?_)
    | (with_reducible refine State.record_follows ?_ ?_)
    | (with_reducible refine State.updInst_follows ?_ ?_)
    | (with_reducible refine State.updSeq_follows ?_ ?_)
    | (with_reducible apply State.Follows.ite)
    | split
    | dsimp only
    | ((with_reducible apply State.Follows.keep) <;> first | exact trivial | exact rfl | skip)

theorem State.applyStep_follows {μ : Nat} {s₀ : State} {s : State} {i : Nat} (hm : Nat.lor 1308392515379921688 μ = μ) (h₀ : s₀.Follows μ s) :
    s₀.Follows μ (State.applyStep s i) := by
  refine State.Follows.lift hm h₀ ?_
  have h := State.Follows.refl 1308392515379921688 s
  unfold State.applyStep
  repeat' first
    | (with_reducible assumption)
    | (exact (rfl : Nat.lor _ _ = _))
    | (with_reducible refine State.allocate_follows ?_ ?_)
    | (with_reducible refine State.sendShort_follows ?_ ?_)
    | (with_reducible refine State.stageAdmit_follows ?_ ?_)
    | (with_reducible refine State.updInst_follows ?_ ?_)
    | (with_reducible refine State.updSeq_follows ?_ ?_)
    | (with_reducible refine State.writeKvSeqs_follows ?_ ?_)
    | (with_reducible apply State.Follows.ite)
    | (with_reducible refine State.Follows.foldl _ ?_ ?_)
    | split
    | (intro _ _ _)

theorem State.selectStep_follows {μ : Nat} {s₀ : State} {s : State} {i : Nat} (hm : Nat.lor 153219279645311768 μ = μ) (h₀ : s₀.Follows μ s) :
    s₀.Follows μ (State.selectStep s i) := by
  refine State.Follows.lift hm h₀ ?_
  have h := State.Follows.refl 153219279645311768 s
  unfold State.selectStep
  repeat' first
    | (with_reducible assumption)
    | (exact (rfl : Nat.lor _ _ = _))
    | (with_reducible refine State.beginDrafts_follows ?_ ?_)
    | (with_reducible refine State.layStep_follows ?_ ?_)
    | (with_reducible refine State.nameRestore_follows ?_ ?_)
    | (with_reducible refine State.nameSpill_follows ?_ ?_)
    | (with_reducible refine State.pauseSeq_follows ?_ ?_)
    | (with_reducible refine State.takeEntries_follows ?_ ?_)
    | (with_reducible refine State.takePick_follows ?_ ?_)
    | (with_reducible refine State.updInst_follows ?_ ?_)
    | (with_reducible refine State.updSeq_follows ?_ ?_)
    | (with_reducible refine State.writeKvSeqs_follows ?_ ?_)
    | (with_reducible apply State.Follows.ite)
    | (with_reducible refine State.Follows.foldl _ ?_ ?_)
    | (intro _ _ _)

theorem State.boundaryCommit_follows {μ : Nat} {s₀ : State} {s : State} {i : Nat} (hm : Nat.lor 15141137129477767960 μ = μ) (h₀ : s₀.Follows μ s) :
    s₀.Follows μ (State.boundaryCommit s i) := by
  refine State.Follows.lift hm h₀ ?_
  have h := State.Follows.refl 15141137129477767960 s
  unfold State.boundaryCommit
  repeat' first
    | (with_reducible assumption)
    | (exact (rfl : Nat.lor _ _ = _))
    | (with_reducible refine State.commitResults_follows ?_ ?_)
    | (with_reducible refine State.commitStep_follows ?_ ?_)
    | (with_reducible refine State.retireAtBoundary_follows ?_ ?_)
    | (with_reducible refine State.sendDigest_follows ?_ ?_)
    | (with_reducible apply State.Follows.ite)
    | split
    | ((with_reducible apply State.Follows.keep) <;> first | exact trivial | exact rfl | skip)

theorem State.boundaryFree_follows {μ : Nat} {s₀ : State} {s : State} {i : Nat} (hm : Nat.lor 290571234259763216 μ = μ) (h₀ : s₀.Follows μ s) :
    s₀.Follows μ (State.boundaryFree s i) := by
  refine State.Follows.lift hm h₀ ?_
  have h := State.Follows.refl 290571234259763216 s
  unfold State.boundaryFree
  repeat' first
    | (with_reducible assumption)
    | (exact (rfl : Nat.lor _ _ = _))
    | (with_reducible refine State.freePre_follows ?_ ?_)
    | (with_reducible refine State.freeRetiring_follows ?_ ?_)
    | (with_reducible refine State.freeSpilled_follows ?_ ?_)
    | (with_reducible refine State.settleFar_follows ?_ ?_)
    | split

theorem State.boundaryUnits_follows {μ : Nat} {s₀ : State} {s : State} {i : Nat} (hm : Nat.lor 295325827309154534168 μ = μ) (h₀ : s₀.Follows μ s) :
    s₀.Follows μ (State.boundaryUnits s i) := by
  refine State.Follows.lift hm h₀ ?_
  have h := State.Follows.refl 295325827309154534168 s
  unfold State.boundaryUnits
  repeat' first
    | (with_reducible assumption)
    | (exact (rfl : Nat.lor _ _ = _))
    | (with_reducible refine State.dropBuffers_follows ?_ ?_)
    | (with_reducible refine State.fmtBoundary_follows ?_ ?_)
    | (with_reducible refine State.grmBoundary_follows ?_ ?_)
    | (with_reducible refine State.pfxBoundary_follows ?_ ?_)
    | (with_reducible refine State.retryRestores_follows ?_ ?_)
    | (with_reducible refine State.testsBoundary_follows ?_ ?_)
    | (with_reducible refine State.weightBoundary_follows ?_ ?_)
    | dsimp only
    | ((with_reducible apply State.Follows.keep) <;> first | exact trivial | exact rfl | skip)

theorem State.boundaryShort_follows {μ : Nat} {s₀ : State} {s : State} {i : Nat} (hm : Nat.lor 153219213073318680 μ = μ) (h₀ : s₀.Follows μ s) :
    s₀.Follows μ (State.boundaryShort s i) := by
  refine State.Follows.lift hm h₀ ?_
  have h := State.Follows.refl 153219213073318680 s
  unfold State.boundaryShort
  repeat' first
    | (with_reducible assumption)
    | (exact (rfl : Nat.lor _ _ = _))
    | (with_reducible refine State.pauseSeq_follows ?_ ?_)
    | (with_reducible refine State.updInst_follows ?_ ?_)
    | (with_reducible apply State.Follows.ite)
    | (with_reducible refine State.Follows.foldl _ ?_ ?_)
    | (intro _ _ _)

theorem State.boundaryShutdown_follows {μ : Nat} {s₀ : State} {s : State} {i : Nat} (hm : Nat.lor 2361339839376261120792 μ = μ) (h₀ : s₀.Follows μ s) :
    s₀.Follows μ (State.boundaryShutdown s i) := by
  refine State.Follows.lift hm h₀ ?_
  have h := State.Follows.refl 2361339839376261120792 s
  unfold State.boundaryShutdown
  repeat' first
    | (with_reducible assumption)
    | (exact (rfl : Nat.lor _ _ = _))
    | (with_reducible refine State.shutdownEvict_follows ?_ ?_)
    | (with_reducible apply State.Follows.ite)
    | dsimp only
    | ((with_reducible apply State.Follows.keep) <;> first | exact trivial | exact rfl | skip)

theorem State.boundary_follows {μ : Nat} {s₀ : State} {s : State} {i : Nat} (hm : Nat.lor 2671786480186415055640 μ = μ) (h₀ : s₀.Follows μ s) :
    s₀.Follows μ (State.boundary s i) := by
  refine State.Follows.lift hm h₀ ?_
  have h := State.Follows.refl 2671786480186415055640 s
  unfold State.boundary
  repeat' first
    | (with_reducible assumption)
    | (exact (rfl : Nat.lor _ _ = _))
    | (with_reducible refine State.applyStep_follows ?_ ?_)
    | (with_reducible refine State.boundaryCommit_follows ?_ ?_)
    | (with_reducible refine State.boundaryFree_follows ?_ ?_)
    | (with_reducible refine State.boundaryShort_follows ?_ ?_)
    | (with_reducible refine State.boundaryShutdown_follows ?_ ?_)
    | (with_reducible refine State.boundaryUnits_follows ?_ ?_)
    | (with_reducible refine State.selectStep_follows ?_ ?_)
    | (with_reducible refine State.sendResult_follows ?_ ?_)
    | (with_reducible refine State.writeKvSeqs_follows ?_ ?_)
    | (with_reducible apply State.Follows.ite)

theorem execStepBoundary_follows {μ : Nat} {s₀ : State} {inst : Nat} {s : State} (hm : Nat.lor 2671786480186415055640 μ = μ) (h₀ : s₀.Follows μ s) :
    s₀.Ends μ (execStepBoundary inst s) := by
  refine State.Ends.lift hm h₀ ?_
  have h := State.Follows.refl 2671786480186415055640 s
  unfold execStepBoundary
  repeat' first
    | (with_reducible assumption)
    | (exact (rfl : Nat.lor _ _ = _))
    | (with_reducible refine State.boundary_follows ?_ ?_)
    | (with_reducible refine State.count64_follows ?_ ?_)
    | (with_reducible refine State.dropBuffers_follows ?_ ?_)
    | (with_reducible refine State.nextDraftStep_follows ?_ ?_)
    | (with_reducible refine State.sendDigest_follows ?_ ?_)
    | (with_reducible refine State.updInst_follows ?_ ?_)
    | (with_reducible refine State.weightBoundary_follows ?_ ?_)
    | (with_reducible apply State.Ends.next)
    | (with_reducible apply State.Follows.ite)

theorem State.beginStep_follows {μ : Nat} {s₀ : State} {s : State} {i : Nat} (hm : Nat.lor 1154073792840990744 μ = μ) (h₀ : s₀.Follows μ s) :
    s₀.Follows μ (State.beginStep s i) := by
  refine State.Follows.lift hm h₀ ?_
  have h := State.Follows.refl 1154073792840990744 s
  unfold State.beginStep
  repeat' first
    | (with_reducible assumption)
    | (exact (rfl : Nat.lor _ _ = _))
    | (with_reducible refine State.addEvc_follows ?_ ?_)
    | (with_reducible refine State.emit_follows ?_ ?_)
    | (with_reducible refine State.sendStep_follows ?_ ?_)
    | (with_reducible refine State.updInst_follows ?_ ?_)
    | (with_reducible refine State.updSeq_follows ?_ ?_)
    | (with_reducible apply State.Follows.ite)
    | (with_reducible refine State.Follows.foldl _ ?_ ?_)
    | split
    | (intro _ _ _)
    | dsimp only
    | ((with_reducible apply State.Follows.keep) <;> first | exact trivial | exact rfl | skip)

theorem State.draftsOver_follows {μ : Nat} {s₀ s t : State} {i : Nat} (hm : Nat.lor 9445887039536426385432 μ = μ) (h : s₀.Follows μ s)
    (e : s.draftsOver i = some t) : s₀.Follows μ t := by
  unfold State.draftsOver at e
  split at e
  · dsimp only at e
    split at e
    · cases e; exact h
    · split at e
      · cases e; exact State.endDrafts_follows (lor_mid rfl hm) h
      · cases e
  · cases e; exact h

theorem execStepStart_follows {μ : Nat} {s₀ : State} {inst : Nat} {delayed : Bool} {s : State} (hm : Nat.lor 9445887039536426385432 μ = μ) (h : s₀.Follows μ s) :
    s₀.Ends μ (execStepStart inst delayed s) := by
  unfold execStepStart
  with_reducible apply State.Ends.next
  dsimp only
  split
  · exact h
  · split
    · exact h
    · rename_i e
      have h1 := State.draftsOver_follows hm h e
      refine State.injSource_follows (lor_mid rfl hm) (State.beginStep_follows (lor_mid rfl hm) ?_)
      split
      · exact State.count_follows (lor_mid rfl hm) h1
      · exact h1

end Sys2Proof.Machine
end

