-- ==== Sys2Proof/Laws/FollowsLinks.lean ====
section
/-!
SUPPORT. The operations of Machine/Links.lean keep the relation `State.Follows`. The number in a lemma is the mask of the
components that its operation may change.
-/
namespace Sys2Proof.Machine
open Sys2Proof

theorem State.resync_follows {μ : Nat} {s₀ : State} {s : State} (hm : Nat.lor 2458965396544291608 μ = μ) (h₀ : s₀.Follows μ s) :
    s₀.Follows μ (State.resync s) := by
  refine State.Follows.lift hm h₀ ?_
  have h := State.Follows.refl 2458965396544291608 s
  unfold State.resync
  repeat' first
    | (with_reducible assumption)
    | (exact (rfl : Nat.lor _ _ = _))
    | (with_reducible refine State.logEvent_follows ?_ ?_)
    | (with_reducible apply State.Follows.ite)
    | split
    | dsimp only
    | ((with_reducible apply State.Follows.keep) <;> first | exact trivial | exact rfl | skip)

theorem State.takeOffset_follows {μ : Nat} {s₀ : State} {s : State} {n t1 t3 t4 : Nat} (hm : Nat.lor 2458965396544291609 μ = μ) (h₀ : s₀.Follows μ s) :
    s₀.Follows μ (State.takeOffset s n t1 t3 t4) := by
  refine State.Follows.lift hm h₀ ?_
  have h := State.Follows.refl 2458965396544291609 s
  unfold State.takeOffset
  repeat' first
    | (with_reducible assumption)
    | (exact (rfl : Nat.lor _ _ = _))
    | (with_reducible refine State.logEvent_follows ?_ ?_)
    | (with_reducible apply State.Follows.ite)
    | split
    | ((with_reducible apply State.Follows.keep) <;> first | exact trivial | exact rfl | skip)

theorem State.icpDown_follows {μ : Nat} {s₀ : State} {s : State} {n : Nat} {dest : IcpState} (hm : Nat.lor 4188356449581138712 μ = μ) (h₀ : s₀.Follows μ s) :
    s₀.Follows μ (State.icpDown s n dest) := by
  refine State.Follows.lift hm h₀ ?_
  have h := State.Follows.refl 4188356449581138712 s
  unfold State.icpDown
  repeat' first
    | (with_reducible assumption)
    | (exact (rfl : Nat.lor _ _ = _))
    | (with_reducible refine State.icpDiscard_follows ?_ ?_)
    | (with_reducible refine State.resync_follows ?_ ?_)
    | (with_reducible refine State.updIcp_follows ?_ ?_)
    | ((with_reducible apply State.Follows.keep) <;> first | exact trivial | exact rfl | skip)

theorem State.linkLost_follows {μ : Nat} {s₀ : State} {s : State} {n cause : Nat} (hm : Nat.lor 4188356449581138712 μ = μ) (h₀ : s₀.Follows μ s) :
    s₀.Follows μ (State.linkLost s n cause) := by
  refine State.Follows.lift hm h₀ ?_
  have h := State.Follows.refl 4188356449581138712 s
  unfold State.linkLost
  repeat' first
    | (with_reducible assumption)
    | (exact (rfl : Nat.lor _ _ = _))
    | (with_reducible refine State.count_follows ?_ ?_)
    | (with_reducible refine State.icpDown_follows ?_ ?_)
    | (with_reducible refine State.logEvent_follows ?_ ?_)

theorem State.icpResend_follows {μ : Nat} {s₀ : State} {s : State} {n : Nat} (hm : Nat.lor 4188356449581138712 μ = μ) (h₀ : s₀.Follows μ s) :
    s₀.Follows μ (State.icpResend s n) := by
  refine State.Follows.lift hm h₀ ?_
  have h := State.Follows.refl 4188356449581138712 s
  unfold State.icpResend
  repeat' first
    | (with_reducible assumption)
    | (exact (rfl : Nat.lor _ _ = _))
    | (with_reducible refine State.countBy_follows ?_ ?_)
    | (with_reducible refine State.linkLost_follows ?_ ?_)
    | (with_reducible refine State.logLimitedFor_follows ?_ ?_)
    | (with_reducible refine State.updIcp_follows ?_ ?_)
    | (with_reducible apply State.Follows.ite)

theorem execIcpenFlit_follows {μ : Nat} {s₀ : State} {n : Nat} {good nak : Bool} {type seq ack credit corrected uncorrectable : Nat} {s : State} (hm : Nat.lor 4188356449581138712 μ = μ) (h₀ : s₀.Follows μ s) :
    s₀.Ends μ (execIcpenFlit n good nak type seq ack credit corrected uncorrectable s) := by
  refine State.Ends.lift hm h₀ ?_
  have h := State.Follows.refl 4188356449581138712 s
  unfold execIcpenFlit
  repeat' first
    | (with_reducible assumption)
    | (exact (rfl : Nat.lor _ _ = _))
    | (with_reducible refine State.count_follows ?_ ?_)
    | (with_reducible refine State.count64_follows ?_ ?_)
    | (with_reducible refine State.count64By_follows ?_ ?_)
    | (with_reducible refine State.countBy_follows ?_ ?_)
    | (with_reducible refine State.icpPump_follows ?_ ?_)
    | (with_reducible refine State.icpResend_follows ?_ ?_)
    | (with_reducible refine State.updIcp_follows ?_ ?_)
    | (with_reducible apply State.Ends.next)
    | (with_reducible apply State.Follows.ite)

theorem execIcpenAckTimeout_follows {μ : Nat} {s₀ : State} {n : Nat} {s : State} (hm : Nat.lor 4188356449581138712 μ = μ) (h₀ : s₀.Follows μ s) :
    s₀.Ends μ (execIcpenAckTimeout n s) := by
  refine State.Ends.lift hm h₀ ?_
  have h := State.Follows.refl 4188356449581138712 s
  unfold execIcpenAckTimeout
  repeat' first
    | (with_reducible assumption)
    | (exact (rfl : Nat.lor _ _ = _))
    | (with_reducible refine State.icpResend_follows ?_ ?_)
    | (with_reducible apply State.Ends.next)
    | (with_reducible apply State.Follows.ite)

theorem execLinkSilenceTimeout_follows {μ : Nat} {s₀ : State} {n : Nat} {s : State} (hm : Nat.lor 4188356449581138712 μ = μ) (h₀ : s₀.Follows μ s) :
    s₀.Ends μ (execLinkSilenceTimeout n s) := by
  refine State.Ends.lift hm h₀ ?_
  have h := State.Follows.refl 4188356449581138712 s
  unfold execLinkSilenceTimeout
  repeat' first
    | (with_reducible assumption)
    | (exact (rfl : Nat.lor _ _ = _))
    | (with_reducible refine State.linkLost_follows ?_ ?_)
    | (with_reducible apply State.Ends.next)
    | (with_reducible apply State.Follows.ite)

theorem State.dropLane_follows {μ : Nat} {s₀ : State} {s : State} {n lane cause : Nat} (hm : Nat.lor 4188356449581138712 μ = μ) (h₀ : s₀.Follows μ s) :
    s₀.Follows μ (State.dropLane s n lane cause) := by
  refine State.Follows.lift hm h₀ ?_
  have h := State.Follows.refl 4188356449581138712 s
  unfold State.dropLane
  repeat' first
    | (with_reducible assumption)
    | (exact (rfl : Nat.lor _ _ = _))
    | (with_reducible refine State.count_follows ?_ ?_)
    | (with_reducible refine State.linkLost_follows ?_ ?_)
    | (with_reducible refine State.logEvent_follows ?_ ?_)
    | (with_reducible refine State.updIcp_follows ?_ ?_)
    | (with_reducible apply State.Follows.ite)

theorem execLaneDrop_follows {μ : Nat} {s₀ : State} {n lane cause : Nat} {s : State} (hm : Nat.lor 4188356449581138712 μ = μ) (h₀ : s₀.Follows μ s) :
    s₀.Ends μ (execLaneDrop n lane cause s) := by
  refine State.Ends.lift hm h₀ ?_
  have h := State.Follows.refl 4188356449581138712 s
  unfold execLaneDrop
  repeat' first
    | (with_reducible assumption)
    | (exact (rfl : Nat.lor _ _ = _))
    | (with_reducible refine State.dropLane_follows ?_ ?_)
    | (with_reducible refine State.icpFrame_follows ?_ ?_)
    | (with_reducible apply State.Ends.next)
    | (with_reducible apply State.Follows.ite)

theorem execLanedrop_follows {μ : Nat} {s₀ : State} {n lane : Nat} {s : State} (hm : Nat.lor 4188356449581138716 μ = μ) (h₀ : s₀.Follows μ s) :
    s₀.Ends μ (execLanedrop n lane s) := by
  refine State.Ends.lift hm h₀ ?_
  have h := State.Follows.refl 4188356449581138716 s
  unfold execLanedrop
  repeat' first
    | (with_reducible assumption)
    | (exact (rfl : Nat.lor _ _ = _))
    | (with_reducible refine State.draw_follows ?_ ?_)
    | (with_reducible refine State.dropLane_follows ?_ ?_)
    | (with_reducible apply State.Ends.next)
    | (with_reducible apply State.Follows.ite)

theorem State.sendHello_follows {μ : Nat} {s₀ : State} {s : State} {n : Nat} (hm : Nat.lor 1152921504640401432 μ = μ) (h₀ : s₀.Follows μ s) :
    s₀.Follows μ (State.sendHello s n) := by
  refine State.Follows.lift hm h₀ ?_
  have h := State.Follows.refl 1152921504640401432 s
  unfold State.sendHello
  repeat' first
    | (with_reducible assumption)
    | (exact (rfl : Nat.lor _ _ = _))
    | (with_reducible refine State.icpFrame_follows ?_ ?_)
    | (with_reducible refine State.updIcp_follows ?_ ?_)

theorem execHelloTimer_follows {μ : Nat} {s₀ : State} {n : Nat} {s : State} (hm : Nat.lor 1152921504640401432 μ = μ) (h₀ : s₀.Follows μ s) :
    s₀.Ends μ (execHelloTimer n s) := by
  refine State.Ends.lift hm h₀ ?_
  have h := State.Follows.refl 1152921504640401432 s
  unfold execHelloTimer
  repeat' first
    | (with_reducible assumption)
    | (exact (rfl : Nat.lor _ _ = _))
    | (with_reducible refine State.sendHello_follows ?_ ?_)
    | (with_reducible apply State.Ends.next)
    | (with_reducible apply State.Follows.ite)

theorem execDiscoveryBurst_follows {μ : Nat} {s₀ : State} {n : Nat} {s : State} (hm : Nat.lor 8 μ = μ) (h₀ : s₀.Follows μ s) :
    s₀.Ends μ (execDiscoveryBurst n s) := by
  refine State.Ends.lift hm h₀ ?_
  have h := State.Follows.refl 8 s
  unfold execDiscoveryBurst
  repeat' first
    | (with_reducible assumption)
    | (exact (rfl : Nat.lor _ _ = _))
    | (with_reducible refine State.emit_follows ?_ ?_)
    | (with_reducible apply State.Ends.next)
    | (with_reducible apply State.Follows.ite)

theorem execTrainingPatternDetected_follows {μ : Nat} {s₀ : State} {n : Nat} {s : State} (hm : Nat.lor 1152921504606846976 μ = μ) (h₀ : s₀.Follows μ s) :
    s₀.Ends μ (execTrainingPatternDetected n s) := by
  refine State.Ends.lift hm h₀ ?_
  have h := State.Follows.refl 1152921504606846976 s
  unfold execTrainingPatternDetected
  repeat' first
    | (with_reducible assumption)
    | (exact (rfl : Nat.lor _ _ = _))
    | (with_reducible refine State.updIcp_follows ?_ ?_)
    | (with_reducible apply State.Ends.next)
    | (with_reducible apply State.Follows.ite)

theorem execTrainingTimeout_follows {μ : Nat} {s₀ : State} {n : Nat} {s : State} (hm : Nat.lor 1152921504606846976 μ = μ) (h₀ : s₀.Follows μ s) :
    s₀.Ends μ (execTrainingTimeout n s) := by
  refine State.Ends.lift hm h₀ ?_
  have h := State.Follows.refl 1152921504606846976 s
  unfold execTrainingTimeout
  repeat' first
    | (with_reducible assumption)
    | (exact (rfl : Nat.lor _ _ = _))
    | (with_reducible refine State.updIcp_follows ?_ ?_)
    | (with_reducible apply State.Ends.next)
    | (with_reducible apply State.Follows.ite)

theorem execTrainingComplete_follows {μ : Nat} {s₀ : State} {n rev lanes : Nat} {s : State} (hm : Nat.lor 1152921504640401432 μ = μ) (h₀ : s₀.Follows μ s) :
    s₀.Ends μ (execTrainingComplete n rev lanes s) := by
  refine State.Ends.lift hm h₀ ?_
  have h := State.Follows.refl 1152921504640401432 s
  unfold execTrainingComplete
  repeat' first
    | (with_reducible assumption)
    | (exact (rfl : Nat.lor _ _ = _))
    | (with_reducible refine State.sendHello_follows ?_ ?_)
    | (with_reducible refine State.updIcp_follows ?_ ?_)
    | (with_reducible apply State.Ends.next)
    | (with_reducible apply State.Follows.ite)

theorem execHelloTimeout_follows {μ : Nat} {s₀ : State} {n : Nat} {s : State} (hm : Nat.lor 4188356449581138712 μ = μ) (h₀ : s₀.Follows μ s) :
    s₀.Ends μ (execHelloTimeout n s) := by
  refine State.Ends.lift hm h₀ ?_
  have h := State.Follows.refl 4188356449581138712 s
  unfold execHelloTimeout
  repeat' first
    | (with_reducible assumption)
    | (exact (rfl : Nat.lor _ _ = _))
    | (with_reducible refine State.icpDown_follows ?_ ?_)
    | (with_reducible apply State.Ends.next)
    | (with_reducible apply State.Follows.ite)

theorem State.drawMany_follows {μ : Nat} {s₀ s : State} {k : Nat} (hm : Nat.lor 4 μ = μ) (h₀ : s₀.Follows μ s) : s₀.Follows μ (s.drawMany k) := by
  refine State.Follows.lift hm h₀ ?_
  have h := State.Follows.refl 4 s
  exact ⟨h.pending, h.out, Nat.le_trans h.draws (Nat.le_add_right _ _), h.part, h.log, h.ring, h.regs, rfl⟩

theorem State.beginAuth_follows {μ : Nat} {s₀ : State} {s : State} {n : Nat} {peerHello : List Byte} (hm : Nat.lor 1152921504640401436 μ = μ) (h₀ : s₀.Follows μ s) :
    s₀.Follows μ (State.beginAuth s n peerHello) := by
  refine State.Follows.lift hm h₀ ?_
  have h := State.Follows.refl 1152921504640401436 s
  unfold State.beginAuth
  repeat' first
    | (with_reducible assumption)
    | (exact (rfl : Nat.lor _ _ = _))
    | (with_reducible refine State.drawMany_follows ?_ ?_)
    | (with_reducible refine State.icpFrame_follows ?_ ?_)
    | (with_reducible refine State.updIcp_follows ?_ ?_)

theorem State.trySign_follows {μ : Nat} {s₀ : State} {s : State} {n : Nat} (hm : Nat.lor 1152921504640401432 μ = μ) (h₀ : s₀.Follows μ s) :
    s₀.Follows μ (State.trySign s n) := by
  refine State.Follows.lift hm h₀ ?_
  have h := State.Follows.refl 1152921504640401432 s
  unfold State.trySign
  repeat' first
    | (with_reducible assumption)
    | (exact (rfl : Nat.lor _ _ = _))
    | (with_reducible refine State.icpFrame_follows ?_ ?_)
    | (with_reducible refine State.updIcp_follows ?_ ?_)
    | (with_reducible apply State.Follows.ite)

theorem State.authFail_follows {μ : Nat} {s₀ : State} {s : State} {n cause : Nat} (hm : Nat.lor 4188356449581138712 μ = μ) (h₀ : s₀.Follows μ s) :
    s₀.Follows μ (State.authFail s n cause) := by
  refine State.Follows.lift hm h₀ ?_
  have h := State.Follows.refl 4188356449581138712 s
  unfold State.authFail
  repeat' first
    | (with_reducible assumption)
    | (exact (rfl : Nat.lor _ _ = _))
    | (with_reducible refine State.count_follows ?_ ?_)
    | (with_reducible refine State.icpDown_follows ?_ ?_)
    | (with_reducible refine State.logEvent_follows ?_ ?_)
    | (with_reducible refine State.updIcp_follows ?_ ?_)

theorem State.sendPlan_follows {μ : Nat} {s₀ : State} {s : State} {i : Nat} (hm : Nat.lor 1152921504640401432 μ = μ) (h₀ : s₀.Follows μ s) :
    s₀.Follows μ (State.sendPlan s i) := by
  refine State.Follows.lift hm h₀ ?_
  have h := State.Follows.refl 1152921504640401432 s
  unfold State.sendPlan
  repeat' first
    | (with_reducible assumption)
    | (exact (rfl : Nat.lor _ _ = _))
    | (with_reducible refine State.icpMessage_follows ?_ ?_)
    | (with_reducible apply State.Follows.ite)
    | split

theorem State.icpEnter_follows {μ : Nat} {s₀ : State} {s : State} {n : Nat} (hm : Nat.lor 3611886901184693016 μ = μ) (h₀ : s₀.Follows μ s) :
    s₀.Follows μ (State.icpEnter s n) := by
  refine State.Follows.lift hm h₀ ?_
  have h := State.Follows.refl 3611886901184693016 s
  unfold State.icpEnter
  repeat' first
    | (with_reducible assumption)
    | (exact (rfl : Nat.lor _ _ = _))
    | (with_reducible refine State.checkRoutes_follows ?_ ?_)
    | (with_reducible refine State.logEvent_follows ?_ ?_)
    | (with_reducible refine State.resync_follows ?_ ?_)
    | (with_reducible refine State.sendPlan_follows ?_ ?_)
    | (with_reducible refine State.updIcp_follows ?_ ?_)
    | (with_reducible apply State.Follows.ite)
    | (with_reducible refine State.Follows.foldl _ ?_ ?_)
    | split
    | (intro _ _ _)

theorem State.adoptPeer_follows {μ : Nat} {s₀ : State} {s : State} {n cause : Nat} (hm : Nat.lor 75561475612815508112152 μ = μ) (h₀ : s₀.Follows μ s) :
    s₀.Follows μ (State.adoptPeer s n cause) := by
  refine State.Follows.lift hm h₀ ?_
  have h := State.Follows.refl 75561475612815508112152 s
  unfold State.adoptPeer
  repeat' first
    | (with_reducible assumption)
    | (exact (rfl : Nat.lor _ _ = _))
    | (with_reducible refine State.icpEnter_follows ?_ ?_)
    | (with_reducible refine State.logEvent_follows ?_ ?_)
    | (with_reducible refine State.storeWrite_follows ?_ ?_)
    | (with_reducible refine State.updIcp_follows ?_ ?_)

theorem State.authAccepted_follows {μ : Nat} {s₀ : State} {s : State} {n : Nat} (hm : Nat.lor 75561475612815508112152 μ = μ) (h₀ : s₀.Follows μ s) :
    s₀.Follows μ (State.authAccepted s n) := by
  refine State.Follows.lift hm h₀ ?_
  have h := State.Follows.refl 75561475612815508112152 s
  unfold State.authAccepted
  repeat' first
    | (with_reducible assumption)
    | (exact (rfl : Nat.lor _ _ = _))
    | (with_reducible refine State.adoptPeer_follows ?_ ?_)
    | (with_reducible refine State.icpEnter_follows ?_ ?_)
    | (with_reducible refine State.logEvent_follows ?_ ?_)
    | (with_reducible refine State.updIcp_follows ?_ ?_)
    | (with_reducible apply State.Follows.ite)

theorem State.authConclude_follows {μ : Nat} {s₀ : State} {s : State} {n : Nat} (hm : Nat.lor 75562052082363904557848 μ = μ) (h₀ : s₀.Follows μ s) :
    s₀.Follows μ (State.authConclude s n) := by
  refine State.Follows.lift hm h₀ ?_
  have h := State.Follows.refl 75562052082363904557848 s
  unfold State.authConclude
  repeat' first
    | (with_reducible assumption)
    | (exact (rfl : Nat.lor _ _ = _))
    | (with_reducible refine State.authAccepted_follows ?_ ?_)
    | (with_reducible refine State.authFail_follows ?_ ?_)
    | (with_reducible apply State.Follows.ite)
    | split
    | dsimp only

theorem execAuthShare_follows {μ : Nat} {s₀ : State} {n : Nat} {payload : List Byte} {s : State} (hm : Nat.lor 1152921504640401432 μ = μ) (h₀ : s₀.Follows μ s) :
    s₀.Ends μ (execAuthShare n payload s) := by
  refine State.Ends.lift hm h₀ ?_
  have h := State.Follows.refl 1152921504640401432 s
  unfold execAuthShare
  repeat' first
    | (with_reducible assumption)
    | (exact (rfl : Nat.lor _ _ = _))
    | (with_reducible refine State.trySign_follows ?_ ?_)
    | (with_reducible refine State.updIcp_follows ?_ ?_)
    | (with_reducible apply State.Ends.next)
    | (with_reducible apply State.Follows.ite)

theorem execAuthCert_follows {μ : Nat} {s₀ : State} {n : Nat} {payload : List Byte} {s : State} (hm : Nat.lor 1152921504640401432 μ = μ) (h₀ : s₀.Follows μ s) :
    s₀.Ends μ (execAuthCert n payload s) := by
  refine State.Ends.lift hm h₀ ?_
  have h := State.Follows.refl 1152921504640401432 s
  unfold execAuthCert
  repeat' first
    | (with_reducible assumption)
    | (exact (rfl : Nat.lor _ _ = _))
    | (with_reducible refine State.trySign_follows ?_ ?_)
    | (with_reducible refine State.updIcp_follows ?_ ?_)
    | (with_reducible apply State.Ends.next)
    | (with_reducible apply State.Follows.ite)

theorem execAuthSig_follows {μ : Nat} {s₀ : State} {n : Nat} {payload : List Byte} {s : State} (hm : Nat.lor 75562052082363904557848 μ = μ) (h₀ : s₀.Follows μ s) :
    s₀.Ends μ (execAuthSig n payload s) := by
  refine State.Ends.lift hm h₀ ?_
  have h := State.Follows.refl 75562052082363904557848 s
  unfold execAuthSig
  repeat' first
    | (with_reducible assumption)
    | (exact (rfl : Nat.lor _ _ = _))
    | (with_reducible refine State.authConclude_follows ?_ ?_)
    | (with_reducible refine State.icpFrame_follows ?_ ?_)
    | (with_reducible refine State.updIcp_follows ?_ ?_)
    | (with_reducible apply State.Ends.next)
    | (with_reducible apply State.Follows.ite)

theorem execAuthResult_follows {μ : Nat} {s₀ : State} {n result : Nat} {s : State} (hm : Nat.lor 75562052082363904557848 μ = μ) (h₀ : s₀.Follows μ s) :
    s₀.Ends μ (execAuthResult n result s) := by
  refine State.Ends.lift hm h₀ ?_
  have h := State.Follows.refl 75562052082363904557848 s
  unfold execAuthResult
  repeat' first
    | (with_reducible assumption)
    | (exact (rfl : Nat.lor _ _ = _))
    | (with_reducible refine State.authConclude_follows ?_ ?_)
    | (with_reducible refine State.updIcp_follows ?_ ?_)
    | (with_reducible apply State.Ends.next)
    | (with_reducible apply State.Follows.ite)

theorem execAuthTimeout_follows {μ : Nat} {s₀ : State} {n : Nat} {s : State} (hm : Nat.lor 4188356449581138712 μ = μ) (h₀ : s₀.Follows μ s) :
    s₀.Ends μ (execAuthTimeout n s) := by
  refine State.Ends.lift hm h₀ ?_
  have h := State.Follows.refl 4188356449581138712 s
  unfold execAuthTimeout
  repeat' first
    | (with_reducible assumption)
    | (exact (rfl : Nat.lor _ _ = _))
    | (with_reducible refine State.authFail_follows ?_ ?_)
    | (with_reducible apply State.Ends.next)
    | (with_reducible apply State.Follows.ite)

theorem execAuthHoldExpiry_follows {μ : Nat} {s₀ : State} {n : Nat} {s : State} (hm : Nat.lor 1152921504606846976 μ = μ) (h₀ : s₀.Follows μ s) :
    s₀.Ends μ (execAuthHoldExpiry n s) := by
  refine State.Ends.lift hm h₀ ?_
  have h := State.Follows.refl 1152921504606846976 s
  unfold execAuthHoldExpiry
  repeat' first
    | (with_reducible assumption)
    | (exact (rfl : Nat.lor _ _ = _))
    | (with_reducible refine State.updIcp_follows ?_ ?_)
    | (with_reducible apply State.Ends.next)

theorem execLinkRekey_follows {μ : Nat} {s₀ : State} {n : Nat} {s : State} (hm : Nat.lor 1152921504640401436 μ = μ) (h₀ : s₀.Follows μ s) :
    s₀.Ends μ (execLinkRekey n s) := by
  refine State.Ends.lift hm h₀ ?_
  have h := State.Follows.refl 1152921504640401436 s
  unfold execLinkRekey
  repeat' first
    | (with_reducible assumption)
    | (exact (rfl : Nat.lor _ _ = _))
    | (with_reducible refine State.drawMany_follows ?_ ?_)
    | (with_reducible refine State.icpFrame_follows ?_ ?_)
    | (with_reducible refine State.updIcp_follows ?_ ?_)
    | (with_reducible apply State.Ends.next)
    | (with_reducible apply State.Follows.ite)

theorem State.greet_follows {μ : Nat} {s₀ : State} {s : State} {n : Nat} {bs : List Byte} (hm : Nat.lor 1306043891970999068 μ = μ) (h₀ : s₀.Follows μ s) :
    s₀.Follows μ (State.greet s n bs) := by
  refine State.Follows.lift hm h₀ ?_
  have h := State.Follows.refl 1306043891970999068 s
  unfold State.greet
  repeat' first
    | (with_reducible assumption)
    | (exact (rfl : Nat.lor _ _ = _))
    | (with_reducible refine State.beginAuth_follows ?_ ?_)
    | (with_reducible refine State.logEvent_follows ?_ ?_)
    | (with_reducible refine State.updIcp_follows ?_ ?_)
    | (with_reducible apply State.Follows.ite)

theorem execHello_follows {μ : Nat} {s₀ : State} {n : Nat} {payload : List Byte} {s : State} (hm : Nat.lor 3611886901184693021 μ = μ) (h₀ : s₀.Follows μ s) :
    s₀.Ends μ (execHello n payload s) := by
  refine State.Ends.lift hm h₀ ?_
  have h := State.Follows.refl 3611886901184693021 s
  unfold execHello
  repeat' first
    | (with_reducible assumption)
    | (exact (rfl : Nat.lor _ _ = _))
    | (with_reducible refine State.greet_follows ?_ ?_)
    | (with_reducible refine State.resync_follows ?_ ?_)
    | (with_reducible refine State.takeOffset_follows ?_ ?_)
    | (with_reducible refine State.updIcp_follows ?_ ?_)
    | (with_reducible apply State.Ends.next)
    | (with_reducible apply State.Follows.ite)

theorem State.icpBad_follows {μ : Nat} {s₀ : State} {s : State} {n v : Nat} {port : Port} (hm : Nat.lor 153122387330597656 μ = μ) (h₀ : s₀.Follows μ s) :
    s₀.Follows μ (State.icpBad s n v port) := by
  refine State.Follows.lift hm h₀ ?_
  have h := State.Follows.refl 153122387330597656 s
  unfold State.icpBad
  repeat' first
    | (with_reducible assumption)
    | (exact (rfl : Nat.lor _ _ = _))
    | (with_reducible refine State.logEvent_follows ?_ ?_)

theorem State.icpAdopt_follows {μ : Nat} {s₀ : State} {s : State} {n : Nat} {port : Port} (hm : Nat.lor 75561475612815508112152 μ = μ) (h₀ : s₀.Follows μ s) :
    s₀.Follows μ (State.icpAdopt s n port) := by
  refine State.Follows.lift hm h₀ ?_
  have h := State.Follows.refl 75561475612815508112152 s
  unfold State.icpAdopt
  repeat' first
    | (with_reducible assumption)
    | (exact (rfl : Nat.lor _ _ = _))
    | (with_reducible refine State.adoptPeer_follows ?_ ?_)
    | (with_reducible refine State.icpBad_follows ?_ ?_)
    | (with_reducible apply State.Follows.ite)

theorem State.icpReject_follows {μ : Nat} {s₀ : State} {s : State} {n : Nat} {port : Port} (hm : Nat.lor 4188356449581138712 μ = μ) (h₀ : s₀.Follows μ s) :
    s₀.Follows μ (State.icpReject s n port) := by
  refine State.Follows.lift hm h₀ ?_
  have h := State.Follows.refl 4188356449581138712 s
  unfold State.icpReject
  repeat' first
    | (with_reducible assumption)
    | (exact (rfl : Nat.lor _ _ = _))
    | (with_reducible refine State.icpBad_follows ?_ ?_)
    | (with_reducible refine State.icpDown_follows ?_ ?_)
    | (with_reducible refine State.updIcp_follows ?_ ?_)
    | (with_reducible apply State.Follows.ite)

theorem State.icpRetrain_follows {μ : Nat} {s₀ : State} {s : State} {n : Nat} {port : Port} (hm : Nat.lor 4188356449581138712 μ = μ) (h₀ : s₀.Follows μ s) :
    s₀.Follows μ (State.icpRetrain s n port) := by
  refine State.Follows.lift hm h₀ ?_
  have h := State.Follows.refl 4188356449581138712 s
  unfold State.icpRetrain
  repeat' first
    | (with_reducible assumption)
    | (exact (rfl : Nat.lor _ _ = _))
    | (with_reducible refine State.icpBad_follows ?_ ?_)
    | (with_reducible refine State.icpDown_follows ?_ ?_)
    | (with_reducible refine State.updIcp_follows ?_ ?_)
    | (with_reducible apply State.Follows.ite)

theorem execAdopt_follows {μ : Nat} {s₀ : State} {n : Nat} {port : Port} {s : State} (hm : Nat.lor 75561475612815508112152 μ = μ) (h₀ : s₀.Follows μ s) :
    s₀.Ends μ (execAdopt n port s) := by
  refine State.Ends.lift hm h₀ ?_
  have h := State.Follows.refl 75561475612815508112152 s
  unfold execAdopt
  repeat' first
    | (with_reducible assumption)
    | (exact (rfl : Nat.lor _ _ = _))
    | (with_reducible refine State.icpAdopt_follows ?_ ?_)
    | (with_reducible apply State.Ends.next)

theorem execReject_follows {μ : Nat} {s₀ : State} {n : Nat} {port : Port} {s : State} (hm : Nat.lor 4188356449581138712 μ = μ) (h₀ : s₀.Follows μ s) :
    s₀.Ends μ (execReject n port s) := by
  refine State.Ends.lift hm h₀ ?_
  have h := State.Follows.refl 4188356449581138712 s
  unfold execReject
  repeat' first
    | (with_reducible assumption)
    | (exact (rfl : Nat.lor _ _ = _))
    | (with_reducible refine State.icpReject_follows ?_ ?_)
    | (with_reducible apply State.Ends.next)

theorem execRetrain_follows {μ : Nat} {s₀ : State} {n : Nat} {port : Port} {s : State} (hm : Nat.lor 4188356449581138712 μ = μ) (h₀ : s₀.Follows μ s) :
    s₀.Ends μ (execRetrain n port s) := by
  refine State.Ends.lift hm h₀ ?_
  have h := State.Follows.refl 4188356449581138712 s
  unfold execRetrain
  repeat' first
    | (with_reducible assumption)
    | (exact (rfl : Nat.lor _ _ = _))
    | (with_reducible refine State.icpRetrain_follows ?_ ?_)
    | (with_reducible apply State.Ends.next)

theorem State.portSealed_follows {μ : Nat} {s₀ : State} {s : State} {n : Nat} (hm : Nat.lor 4188356449581138712 μ = μ) (h₀ : s₀.Follows μ s) :
    s₀.Follows μ (State.portSealed s n) := by
  refine State.Follows.lift hm h₀ ?_
  have h := State.Follows.refl 4188356449581138712 s
  unfold State.portSealed
  repeat' first
    | (with_reducible assumption)
    | (exact (rfl : Nat.lor _ _ = _))
    | (with_reducible refine State.icpDown_follows ?_ ?_)
    | (with_reducible refine State.updIcp_follows ?_ ?_)

theorem execIcpenDataMessage_follows {μ : Nat} {s₀ : State} {n stream op fmt dec : Nat} {bytes : List Byte} {s : State} (hm : Nat.lor 1729382256943824904 μ = μ) (h₀ : s₀.Follows μ s) :
    s₀.Ends μ (execIcpenDataMessage n stream op fmt dec bytes s) := by
  refine State.Ends.lift hm h₀ ?_
  have h := State.Follows.refl 1729382256943824904 s
  unfold execIcpenDataMessage
  repeat' first
    | (with_reducible assumption)
    | (exact (rfl : Nat.lor _ _ = _))
    | (with_reducible refine State.icpRead_follows ?_ ?_)
    | (with_reducible refine State.updMsg_follows ?_ ?_)
    | (with_reducible apply State.Ends.next)
    | (with_reducible apply State.Follows.ite)
    | split
    | dsimp only
    | ((with_reducible apply State.Follows.keep) <;> first | exact trivial | exact rfl | skip)

theorem State.forwardUp_follows {μ : Nat} {s₀ : State} {s : State} {i stream : Nat} {bs : List Byte} (hm : Nat.lor 1152921504640401432 μ = μ) (h₀ : s₀.Follows μ s) :
    s₀.Follows μ (State.forwardUp s i stream bs) := by
  refine State.Follows.lift hm h₀ ?_
  have h := State.Follows.refl 1152921504640401432 s
  unfold State.forwardUp
  repeat' first
    | (with_reducible assumption)
    | (exact (rfl : Nat.lor _ _ = _))
    | (with_reducible refine State.icpMessage_follows ?_ ?_)
    | (with_reducible apply State.Follows.ite)
    | split

theorem State.takeSeqMsg_follows {μ : Nat} {s₀ : State} {s : State} {n len : Nat} (hm : Nat.lor 1152921504606846976 μ = μ) (h₀ : s₀.Follows μ s) :
    s₀.Follows μ (State.takeSeqMsg s n len) := by
  refine State.Follows.lift hm h₀ ?_
  have h := State.Follows.refl 1152921504606846976 s
  unfold State.takeSeqMsg
  repeat' first
    | (with_reducible assumption)
    | (exact (rfl : Nat.lor _ _ = _))
    | (with_reducible refine State.updIcp_follows ?_ ?_)

theorem execPlan_follows {μ : Nat} {s₀ : State} {n inst maxSeqs frames pfxFrames gen : Nat} {s : State} (hm : Nat.lor 1152930300733423640 μ = μ) (h₀ : s₀.Follows μ s) :
    s₀.Ends μ (execPlan n inst maxSeqs frames pfxFrames gen s) := by
  refine State.Ends.lift hm h₀ ?_
  have h := State.Follows.refl 1152930300733423640 s
  unfold execPlan
  repeat' first
    | (with_reducible assumption)
    | (exact (rfl : Nat.lor _ _ = _))
    | (with_reducible refine State.forwardUp_follows ?_ ?_)
    | (with_reducible refine State.takeSeqMsg_follows ?_ ?_)
    | (with_reducible refine State.updInst_follows ?_ ?_)
    | (with_reducible apply State.Ends.next)
    | (with_reducible apply State.Follows.ite)
    | (with_reducible refine State.Follows.foldl _ ?_ ?_)
    | (intro _ _ _)

theorem execStep_follows {μ : Nat} {s₀ : State} {n : Nat} {block : List Byte} {descs : List (Nat × List Byte × List Nat)} {s : State} (hm : Nat.lor 1152930300699869184 μ = μ) (h₀ : s₀.Follows μ s) :
    s₀.Ends μ (execStep n block descs s) := by
  refine State.Ends.lift hm h₀ ?_
  have h := State.Follows.refl 1152930300699869184 s
  unfold execStep
  repeat' first
    | (with_reducible assumption)
    | (exact (rfl : Nat.lor _ _ = _))
    | (with_reducible refine State.takeSeqMsg_follows ?_ ?_)
    | (with_reducible refine State.updInst_follows ?_ ?_)
    | (with_reducible apply State.Ends.next)
    | (with_reducible apply State.Follows.ite)
    | (with_reducible refine State.Follows.foldl _ ?_ ?_)
    | (intro _ _ _)

theorem execResult_follows {μ : Nat} {s₀ : State} {n : Nat} {entries : List (Nat × Nat × Nat × Nat × Bool)} {s : State} (hm : Nat.lor 1152930300733423640 μ = μ) (h₀ : s₀.Follows μ s) :
    s₀.Ends μ (execResult n entries s) := by
  refine State.Ends.lift hm h₀ ?_
  have h := State.Follows.refl 1152930300733423640 s
  unfold execResult
  repeat' first
    | (with_reducible assumption)
    | (exact (rfl : Nat.lor _ _ = _))
    | (with_reducible refine State.forwardUp_follows ?_ ?_)
    | (with_reducible refine State.takeSeqMsg_follows ?_ ?_)
    | (with_reducible refine State.updInst_follows ?_ ?_)
    | (with_reducible apply State.Ends.next)
    | (with_reducible apply State.Follows.ite)
    | (with_reducible refine State.Follows.foldl _ ?_ ?_)
    | (intro _ _ _)

theorem execShort_follows {μ : Nat} {s₀ : State} {n : Nat} {slots : List Nat} {s : State} (hm : Nat.lor 1306052688064021272 μ = μ) (h₀ : s₀.Follows μ s) :
    s₀.Ends μ (execShort n slots s) := by
  refine State.Ends.lift hm h₀ ?_
  have h := State.Follows.refl 1306052688064021272 s
  unfold execShort
  repeat' first
    | (with_reducible assumption)
    | (exact (rfl : Nat.lor _ _ = _))
    | (with_reducible refine State.forwardUp_follows ?_ ?_)
    | (with_reducible refine State.logEvent_follows ?_ ?_)
    | (with_reducible refine State.takeSeqMsg_follows ?_ ?_)
    | (with_reducible refine State.updInst_follows ?_ ?_)
    | (with_reducible apply State.Ends.next)
    | (with_reducible apply State.Follows.ite)
    | (with_reducible refine State.Follows.foldl _ ?_ ?_)
    | (intro _ _ _)

end Sys2Proof.Machine
end

