-- ==== Sys2Proof/Laws/FollowsSecurity.lean ====
section
/-!
SUPPORT. The operations of Machine/Security.lean keep the relation `State.Follows`. The number in a lemma is the mask of the
components that its operation may change.
-/
namespace Sys2Proof.Machine
open Sys2Proof

theorem State.spdmError_follows {μ : Nat} {s₀ : State} {s : State} {transport code : Nat} (hm : Nat.lor 8 μ = μ) (h₀ : s₀.Follows μ s) :
    s₀.Follows μ (State.spdmError s transport code) := by
  refine State.Follows.lift hm h₀ ?_
  have h := State.Follows.refl 8 s
  unfold State.spdmError
  repeat' first
    | (with_reducible assumption)
    | (exact (rfl : Nat.lor _ _ = _))
    | (with_reducible refine State.emit_follows ?_ ?_)

theorem State.spdmReply_follows {μ : Nat} {s₀ : State} {s : State} {transport code : Nat} {fields : List Nat} (hm : Nat.lor 8 μ = μ) (h₀ : s₀.Follows μ s) :
    s₀.Follows μ (State.spdmReply s transport code fields) := by
  refine State.Follows.lift hm h₀ ?_
  have h := State.Follows.refl 8 s
  unfold State.spdmReply
  repeat' first
    | (with_reducible assumption)
    | (exact (rfl : Nat.lor _ _ = _))
    | (with_reducible refine State.emit_follows ?_ ?_)
    | (with_reducible refine State.spdmError_follows ?_ ?_)
    | (with_reducible apply State.Follows.ite)

theorem execGetVersion_follows {μ : Nat} {s₀ : State} {transport : Nat} {s : State} (hm : Nat.lor 8 μ = μ) (h₀ : s₀.Follows μ s) :
    s₀.Ends μ (execGetVersion transport s) := by
  refine State.Ends.lift hm h₀ ?_
  have h := State.Follows.refl 8 s
  unfold execGetVersion
  repeat' first
    | (with_reducible assumption)
    | (exact (rfl : Nat.lor _ _ = _))
    | (with_reducible refine State.emit_follows ?_ ?_)
    | (with_reducible apply State.Ends.next)

theorem execGetCapabilities_follows {μ : Nat} {s₀ : State} {transport : Nat} {s : State} (hm : Nat.lor 8 μ = μ) (h₀ : s₀.Follows μ s) :
    s₀.Ends μ (execGetCapabilities transport s) := by
  refine State.Ends.lift hm h₀ ?_
  have h := State.Follows.refl 8 s
  unfold execGetCapabilities
  repeat' first
    | (with_reducible assumption)
    | (exact (rfl : Nat.lor _ _ = _))
    | (with_reducible refine State.emit_follows ?_ ?_)
    | (with_reducible apply State.Ends.next)

theorem execNegotiateAlgorithms_follows {μ : Nat} {s₀ : State} {transport : Nat} {s : State} (hm : Nat.lor 8 μ = μ) (h₀ : s₀.Follows μ s) :
    s₀.Ends μ (execNegotiateAlgorithms transport s) := by
  refine State.Ends.lift hm h₀ ?_
  have h := State.Follows.refl 8 s
  unfold execNegotiateAlgorithms
  repeat' first
    | (with_reducible assumption)
    | (exact (rfl : Nat.lor _ _ = _))
    | (with_reducible refine State.emit_follows ?_ ?_)
    | (with_reducible apply State.Ends.next)

theorem execGetDigests_follows {μ : Nat} {s₀ : State} {transport : Nat} {s : State} (hm : Nat.lor 8 μ = μ) (h₀ : s₀.Follows μ s) :
    s₀.Ends μ (execGetDigests transport s) := by
  refine State.Ends.lift hm h₀ ?_
  have h := State.Follows.refl 8 s
  unfold execGetDigests
  repeat' first
    | (with_reducible assumption)
    | (exact (rfl : Nat.lor _ _ = _))
    | (with_reducible refine State.spdmReply_follows ?_ ?_)
    | (with_reducible apply State.Ends.next)

theorem execGetCertificate_follows {μ : Nat} {s₀ : State} {transport slot off len : Nat} {s : State} (hm : Nat.lor 8 μ = μ) (h₀ : s₀.Follows μ s) :
    s₀.Ends μ (execGetCertificate transport slot off len s) := by
  refine State.Ends.lift hm h₀ ?_
  have h := State.Follows.refl 8 s
  unfold execGetCertificate
  repeat' first
    | (with_reducible assumption)
    | (exact (rfl : Nat.lor _ _ = _))
    | (with_reducible refine State.spdmError_follows ?_ ?_)
    | (with_reducible refine State.spdmReply_follows ?_ ?_)
    | (with_reducible apply State.Ends.next)
    | (with_reducible apply State.Follows.ite)

theorem execChallenge_follows {μ : Nat} {s₀ : State} {transport slot : Nat} {s : State} (hm : Nat.lor 12 μ = μ) (h₀ : s₀.Follows μ s) :
    s₀.Ends μ (execChallenge transport slot s) := by
  refine State.Ends.lift hm h₀ ?_
  have h := State.Follows.refl 12 s
  unfold execChallenge
  repeat' first
    | (with_reducible assumption)
    | (exact (rfl : Nat.lor _ _ = _))
    | (with_reducible refine State.draw_follows ?_ ?_)
    | (with_reducible refine State.emit_follows ?_ ?_)
    | (with_reducible refine State.spdmError_follows ?_ ?_)
    | (with_reducible apply State.Ends.next)
    | (with_reducible apply State.Follows.ite)

theorem execGetMeasurements_follows {μ : Nat} {s₀ : State} {transport operation : Nat} {signed : Bool} {s : State} (hm : Nat.lor 12 μ = μ) (h₀ : s₀.Follows μ s) :
    s₀.Ends μ (execGetMeasurements transport operation signed s) := by
  refine State.Ends.lift hm h₀ ?_
  have h := State.Follows.refl 12 s
  unfold execGetMeasurements
  repeat' first
    | (with_reducible assumption)
    | (exact (rfl : Nat.lor _ _ = _))
    | (with_reducible refine State.draw_follows ?_ ?_)
    | (with_reducible refine State.emit_follows ?_ ?_)
    | (with_reducible refine State.spdmError_follows ?_ ?_)
    | (with_reducible apply State.Ends.next)
    | (with_reducible apply State.Follows.ite)

theorem State.updSession_follows {μ : Nat} {s₀ : State} {s : State} {k : Nat} {f : Session → Session} (hm : Nat.lor 75557863725914323419136 μ = μ) (h₀ : s₀.Follows μ s) :
    s₀.Follows μ (State.updSession s k f) := by
  refine State.Follows.lift hm h₀ ?_
  have h := State.Follows.refl 75557863725914323419136 s
  unfold State.updSession
  repeat' first
    | (with_reducible assumption)
    | dsimp only
    | ((with_reducible apply State.Follows.keep) <;> first | exact trivial | exact rfl | skip)

theorem State.sessionFail_follows {μ : Nat} {s₀ : State} {s : State} {k cause : Nat} (hm : Nat.lor 75558016848301654016792 μ = μ) (h₀ : s₀.Follows μ s) :
    s₀.Follows μ (State.sessionFail s k cause) := by
  refine State.Follows.lift hm h₀ ?_
  have h := State.Follows.refl 75558016848301654016792 s
  unfold State.sessionFail
  repeat' first
    | (with_reducible assumption)
    | (exact (rfl : Nat.lor _ _ = _))
    | (with_reducible refine State.count_follows ?_ ?_)
    | (with_reducible refine State.logEvent_follows ?_ ?_)
    | (with_reducible refine State.updSession_follows ?_ ?_)

theorem State.dropSessions_follows {μ : Nat} {s₀ : State} {s : State} {p : Session → Bool} (hm : Nat.lor 75557863725914323419136 μ = μ) (h₀ : s₀.Follows μ s) :
    s₀.Follows μ (State.dropSessions s p) := by
  refine State.Follows.lift hm h₀ ?_
  have h := State.Follows.refl 75557863725914323419136 s
  unfold State.dropSessions
  repeat' first
    | (with_reducible assumption)
    | dsimp only
    | ((with_reducible apply State.Follows.keep) <;> first | exact trivial | exact rfl | skip)

theorem execKeyExchange_follows {μ : Nat} {s₀ : State} {transport : Nat} {s : State} (hm : Nat.lor 75557863725914323419148 μ = μ) (h₀ : s₀.Follows μ s) :
    s₀.Ends μ (execKeyExchange transport s) := by
  refine State.Ends.lift hm h₀ ?_
  have h := State.Follows.refl 75557863725914323419148 s
  unfold execKeyExchange
  repeat' first
    | (with_reducible assumption)
    | (exact (rfl : Nat.lor _ _ = _))
    | (with_reducible refine State.draw_follows ?_ ?_)
    | (with_reducible refine State.emit_follows ?_ ?_)
    | (with_reducible refine State.spdmError_follows ?_ ?_)
    | (with_reducible refine State.updSession_follows ?_ ?_)
    | (with_reducible apply State.Ends.next)
    | (with_reducible apply State.Follows.ite)
    | split

theorem State.inSession_follows {μ : Nat} {s₀ : State} {s : State} {transport k phase cause : Nat} {ok : Bool} {f : State → State} (hm : Nat.lor 75558016848301654016792 μ = μ) (h₀ : s₀.Follows μ s) (hf : ∀ t, s₀.Follows μ t → s₀.Follows μ (f t)) :
    s₀.Follows μ (State.inSession s transport k phase cause ok f) := by
  unfold State.inSession
  repeat' first
    | (with_reducible assumption)
    | (apply hf)
    | (exact lor_mid rfl hm)
    | (with_reducible refine State.sessionFail_follows ?_ ?_)
    | (with_reducible refine State.spdmError_follows ?_ ?_)
    | (with_reducible apply State.Follows.ite)

theorem execFinish_follows {μ : Nat} {s₀ : State} {transport session : Nat} {ok : Bool} {s : State} (hm : Nat.lor 75558016848301654016792 μ = μ) (h₀ : s₀.Follows μ s) :
    s₀.Ends μ (execFinish transport session ok s) := by
  refine State.Ends.lift hm h₀ ?_
  have h := State.Follows.refl 75558016848301654016792 s
  unfold execFinish
  repeat' first
    | (with_reducible assumption)
    | (exact (rfl : Nat.lor _ _ = _))
    | (with_reducible refine State.emit_follows ?_ ?_)
    | (with_reducible refine State.inSession_follows ?_ ?_ ?_)
    | (with_reducible refine State.updSession_follows ?_ ?_)
    | (with_reducible apply State.Ends.next)
    | (intro _ _)

theorem execHeartbeat_follows {μ : Nat} {s₀ : State} {transport session : Nat} {ok : Bool} {s : State} (hm : Nat.lor 75558016848301654016792 μ = μ) (h₀ : s₀.Follows μ s) :
    s₀.Ends μ (execHeartbeat transport session ok s) := by
  refine State.Ends.lift hm h₀ ?_
  have h := State.Follows.refl 75558016848301654016792 s
  unfold execHeartbeat
  repeat' first
    | (with_reducible assumption)
    | (exact (rfl : Nat.lor _ _ = _))
    | (with_reducible refine State.emit_follows ?_ ?_)
    | (with_reducible refine State.inSession_follows ?_ ?_ ?_)
    | (with_reducible apply State.Ends.next)
    | (intro _ _)

theorem execKeyUpdate_follows {μ : Nat} {s₀ : State} {transport session : Nat} {ok : Bool} {s : State} (hm : Nat.lor 75558016848301654016792 μ = μ) (h₀ : s₀.Follows μ s) :
    s₀.Ends μ (execKeyUpdate transport session ok s) := by
  refine State.Ends.lift hm h₀ ?_
  have h := State.Follows.refl 75558016848301654016792 s
  unfold execKeyUpdate
  repeat' first
    | (with_reducible assumption)
    | (exact (rfl : Nat.lor _ _ = _))
    | (with_reducible refine State.emit_follows ?_ ?_)
    | (with_reducible refine State.inSession_follows ?_ ?_ ?_)
    | (with_reducible refine State.updSession_follows ?_ ?_)
    | (with_reducible apply State.Ends.next)
    | (intro _ _)

theorem execEndSession_follows {μ : Nat} {s₀ : State} {transport session : Nat} {ok : Bool} {s : State} (hm : Nat.lor 75558016848301654016792 μ = μ) (h₀ : s₀.Follows μ s) :
    s₀.Ends μ (execEndSession transport session ok s) := by
  refine State.Ends.lift hm h₀ ?_
  have h := State.Follows.refl 75558016848301654016792 s
  unfold execEndSession
  repeat' first
    | (with_reducible assumption)
    | (exact (rfl : Nat.lor _ _ = _))
    | (with_reducible refine State.emit_follows ?_ ?_)
    | (with_reducible refine State.inSession_follows ?_ ?_ ?_)
    | (with_reducible refine State.updSession_follows ?_ ?_)
    | (with_reducible apply State.Ends.next)
    | (intro _ _)

theorem execSpdmUnsupportedRequest_follows {μ : Nat} {s₀ : State} {transport code : Nat} {s : State} (hm : Nat.lor 8 μ = μ) (h₀ : s₀.Follows μ s) :
    s₀.Ends μ (execSpdmUnsupportedRequest transport code s) := by
  refine State.Ends.lift hm h₀ ?_
  have h := State.Follows.refl 8 s
  unfold execSpdmUnsupportedRequest
  repeat' first
    | (with_reducible assumption)
    | (exact (rfl : Nat.lor _ _ = _))
    | (with_reducible refine State.emit_follows ?_ ?_)
    | (with_reducible refine State.spdmError_follows ?_ ?_)
    | (with_reducible apply State.Ends.next)
    | (with_reducible apply State.Follows.ite)

theorem State.vendor_follows {μ : Nat} {s₀ : State} {s : State} {transport status : Nat} {more : List Nat} (hm : Nat.lor 8 μ = μ) (h₀ : s₀.Follows μ s) :
    s₀.Follows μ (State.vendor s transport status more) := by
  refine State.Follows.lift hm h₀ ?_
  have h := State.Follows.refl 8 s
  unfold State.vendor
  repeat' first
    | (with_reducible assumption)
    | (exact (rfl : Nat.lor _ _ = _))
    | (with_reducible refine State.spdmReply_follows ?_ ?_)

theorem State.enrolStart_follows {μ : Nat} {s₀ : State} {s : State} {transport : Nat} {session : Option Nat} {count : Nat} {hashes : List (BitVec 384)} (hm : Nat.lor 75557863725914323419144 μ = μ) (h₀ : s₀.Follows μ s) :
    s₀.Follows μ (State.enrolStart s transport session count hashes) := by
  refine State.Follows.lift hm h₀ ?_
  have h := State.Follows.refl 75557863725914323419144 s
  unfold State.enrolStart
  repeat' first
    | (with_reducible assumption)
    | (exact (rfl : Nat.lor _ _ = _))
    | (with_reducible refine State.spdmError_follows ?_ ?_)
    | (with_reducible refine State.vendor_follows ?_ ?_)
    | (with_reducible apply State.Follows.ite)
    | split
    | dsimp only
    | ((with_reducible apply State.Follows.keep) <;> first | exact trivial | exact rfl | skip)

theorem execEnrol_follows {μ : Nat} {s₀ : State} {transport : Nat} {session : Option Nat} {count : Nat} {hashes : List (BitVec 384)} {s : State} (hm : Nat.lor 75557863725914323419144 μ = μ) (h₀ : s₀.Follows μ s) :
    s₀.Ends μ (execEnrol transport session count hashes s) := by
  refine State.Ends.lift hm h₀ ?_
  have h := State.Follows.refl 75557863725914323419144 s
  unfold execEnrol
  repeat' first
    | (with_reducible assumption)
    | (exact (rfl : Nat.lor _ _ = _))
    | (with_reducible refine State.enrolStart_follows ?_ ?_)
    | (with_reducible apply State.Ends.next)

theorem execEnrolComplete_follows {μ : Nat} {s₀ : State} {s : State} (hm : Nat.lor 75558016848301654016792 μ = μ) (h₀ : s₀.Follows μ s) :
    s₀.Ends μ (execEnrolComplete s) := by
  refine State.Ends.lift hm h₀ ?_
  have h := State.Follows.refl 75558016848301654016792 s
  unfold execEnrolComplete
  repeat' first
    | (with_reducible assumption)
    | (exact (rfl : Nat.lor _ _ = _))
    | (with_reducible refine State.logEvent_follows ?_ ?_)
    | (with_reducible refine State.vendor_follows ?_ ?_)
    | (with_reducible apply State.Ends.next)
    | split
    | dsimp only
    | ((with_reducible apply State.Follows.keep) <;> first | exact trivial | exact rfl | skip)

theorem execOwnerProve_follows {μ : Nat} {s₀ : State} {transport : Nat} {session : Option Nat} {slot : Nat} {key sig : List Byte} {s : State} (hm : Nat.lor 75558016848301654016792 μ = μ) (h₀ : s₀.Follows μ s) :
    s₀.Ends μ (execOwnerProve transport session slot key sig s) := by
  refine State.Ends.lift hm h₀ ?_
  have h := State.Follows.refl 75558016848301654016792 s
  unfold execOwnerProve
  repeat' first
    | (with_reducible assumption)
    | (exact (rfl : Nat.lor _ _ = _))
    | (with_reducible refine State.sessionFail_follows ?_ ?_)
    | (with_reducible refine State.updSession_follows ?_ ?_)
    | (with_reducible refine State.vendor_follows ?_ ?_)
    | (with_reducible apply State.Ends.next)
    | (with_reducible apply State.Follows.ite)
    | split

theorem execRevoke_follows {μ : Nat} {s₀ : State} {transport : Nat} {session : Option Nat} {slot : Nat} {s : State} (hm : Nat.lor 75557863725914323419144 μ = μ) (h₀ : s₀.Follows μ s) :
    s₀.Ends μ (execRevoke transport session slot s) := by
  refine State.Ends.lift hm h₀ ?_
  have h := State.Follows.refl 75557863725914323419144 s
  unfold execRevoke
  repeat' first
    | (with_reducible assumption)
    | (exact (rfl : Nat.lor _ _ = _))
    | (with_reducible refine State.vendor_follows ?_ ?_)
    | (with_reducible apply State.Ends.next)
    | (with_reducible apply State.Follows.ite)
    | split
    | dsimp only
    | ((with_reducible apply State.Follows.keep) <;> first | exact trivial | exact rfl | skip)

theorem execSetWeightKey_follows {μ : Nat} {s₀ : State} {transport : Nat} {session : Option Nat} {slot : Nat} {key : BitVec 512} {s : State} (hm : Nat.lor 37779084985344492307224 μ = μ) (h₀ : s₀.Follows μ s) :
    s₀.Ends μ (execSetWeightKey transport session slot key s) := by
  refine State.Ends.lift hm h₀ ?_
  have h := State.Follows.refl 37779084985344492307224 s
  unfold execSetWeightKey
  repeat' first
    | (with_reducible assumption)
    | (exact (rfl : Nat.lor _ _ = _))
    | (with_reducible refine State.logEvent_follows ?_ ?_)
    | (with_reducible refine State.vendor_follows ?_ ?_)
    | (with_reducible apply State.Ends.next)
    | (with_reducible apply State.Follows.ite)
    | ((with_reducible apply State.Follows.keep) <;> first | exact trivial | exact rfl | skip)

theorem execClearWeightKey_follows {μ : Nat} {s₀ : State} {transport : Nat} {session : Option Nat} {slot : Nat} {s : State} (hm : Nat.lor 37779084985344492307224 μ = μ) (h₀ : s₀.Follows μ s) :
    s₀.Ends μ (execClearWeightKey transport session slot s) := by
  refine State.Ends.lift hm h₀ ?_
  have h := State.Follows.refl 37779084985344492307224 s
  unfold execClearWeightKey
  repeat' first
    | (with_reducible assumption)
    | (exact (rfl : Nat.lor _ _ = _))
    | (with_reducible refine State.logEvent_follows ?_ ?_)
    | (with_reducible refine State.vendor_follows ?_ ?_)
    | (with_reducible apply State.Ends.next)
    | (with_reducible apply State.Follows.ite)
    | split
    | ((with_reducible apply State.Follows.keep) <;> first | exact trivial | exact rfl | skip)

theorem State.renewNonce_follows {μ : Nat} {s₀ : State} {s : State} (hm : Nat.lor 75557863725914323419140 μ = μ) (h₀ : s₀.Follows μ s) :
    s₀.Follows μ (State.renewNonce s) := by
  refine State.Follows.lift hm h₀ ?_
  have h := State.Follows.refl 75557863725914323419140 s
  unfold State.renewNonce
  repeat' first
    | (with_reducible assumption)
    | (exact (rfl : Nat.lor _ _ = _))
    | (with_reducible refine State.draw_follows ?_ ?_)
    | dsimp only
    | ((with_reducible apply State.Follows.keep) <;> first | exact trivial | exact rfl | skip)

theorem State.unlockAnswer_follows {μ : Nat} {s₀ : State} {s : State} {source status : Nat} (hm : Nat.lor 75557863725914323419144 μ = μ) (h₀ : s₀.Follows μ s) :
    s₀.Follows μ (State.unlockAnswer s source status) := by
  refine State.Follows.lift hm h₀ ?_
  have h := State.Follows.refl 75557863725914323419144 s
  unfold State.unlockAnswer
  repeat' first
    | (with_reducible assumption)
    | (exact (rfl : Nat.lor _ _ = _))
    | (with_reducible refine State.vendor_follows ?_ ?_)
    | (with_reducible apply State.Follows.ite)
    | dsimp only
    | ((with_reducible apply State.Follows.keep) <;> first | exact trivial | exact rfl | skip)

theorem State.unlockSubmit_follows {μ : Nat} {s₀ : State} {s : State} {source : Nat} {token : List Byte} (hm : Nat.lor 75557863725914323419144 μ = μ) (h₀ : s₀.Follows μ s) :
    s₀.Follows μ (State.unlockSubmit s source token) := by
  refine State.Follows.lift hm h₀ ?_
  have h := State.Follows.refl 75557863725914323419144 s
  unfold State.unlockSubmit
  repeat' first
    | (with_reducible assumption)
    | (exact (rfl : Nat.lor _ _ = _))
    | (with_reducible refine State.spdmError_follows ?_ ?_)
    | (with_reducible refine State.unlockAnswer_follows ?_ ?_)
    | (with_reducible apply State.Follows.ite)
    | dsimp only
    | ((with_reducible apply State.Follows.keep) <;> first | exact trivial | exact rfl | skip)

theorem execDebugUnlock_follows {μ : Nat} {s₀ : State} {source : Nat} {token : List Byte} {s : State} (hm : Nat.lor 75557863725914323419144 μ = μ) (h₀ : s₀.Follows μ s) :
    s₀.Ends μ (execDebugUnlock source token s) := by
  refine State.Ends.lift hm h₀ ?_
  have h := State.Follows.refl 75557863725914323419144 s
  unfold execDebugUnlock
  repeat' first
    | (with_reducible assumption)
    | (exact (rfl : Nat.lor _ _ = _))
    | (with_reducible refine State.unlockSubmit_follows ?_ ?_)
    | (with_reducible apply State.Ends.next)

theorem execUnlockVerifyComplete_follows {μ : Nat} {s₀ : State} {s : State} (hm : Nat.lor 75558016848301654016796 μ = μ) (h₀ : s₀.Follows μ s) :
    s₀.Ends μ (execUnlockVerifyComplete s) := by
  refine State.Ends.lift hm h₀ ?_
  have h := State.Follows.refl 75558016848301654016796 s
  unfold execUnlockVerifyComplete
  repeat' first
    | (with_reducible assumption)
    | (exact (rfl : Nat.lor _ _ = _))
    | (with_reducible refine State.count_follows ?_ ?_)
    | (with_reducible refine State.logEvent_follows ?_ ?_)
    | (with_reducible refine State.renewNonce_follows ?_ ?_)
    | (with_reducible refine State.unlockAnswer_follows ?_ ?_)
    | (with_reducible apply State.Ends.next)
    | (with_reducible apply State.Follows.ite)
    | split
    | dsimp only
    | ((with_reducible apply State.Follows.keep) <;> first | exact trivial | exact rfl | skip)

theorem execLockoutExpiry_follows {μ : Nat} {s₀ : State} {s : State} (hm : Nat.lor 75557863725914323419136 μ = μ) (h₀ : s₀.Follows μ s) :
    s₀.Ends μ (execLockoutExpiry s) := by
  refine State.Ends.lift hm h₀ ?_
  have h := State.Follows.refl 75557863725914323419136 s
  unfold execLockoutExpiry
  repeat' first
    | (with_reducible assumption)
    | (with_reducible apply State.Ends.next)
    | dsimp only
    | ((with_reducible apply State.Follows.keep) <;> first | exact trivial | exact rfl | skip)

theorem State.relock_follows {μ : Nat} {s₀ : State} {s : State} (hm : Nat.lor 75557863725914323419136 μ = μ) (h₀ : s₀.Follows μ s) :
    s₀.Follows μ (State.relock s) := by
  refine State.Follows.lift hm h₀ ?_
  have h := State.Follows.refl 75557863725914323419136 s
  unfold State.relock
  repeat' first
    | (with_reducible assumption)
    | dsimp only
    | ((with_reducible apply State.Follows.keep) <;> first | exact trivial | exact rfl | skip)

theorem execRelock_follows {μ : Nat} {s₀ : State} {s : State} (hm : Nat.lor 75557863725914323419136 μ = μ) (h₀ : s₀.Follows μ s) :
    s₀.Ends μ (execRelock s) := by
  refine State.Ends.lift hm h₀ ?_
  have h := State.Follows.refl 75557863725914323419136 s
  unfold execRelock
  repeat' first
    | (with_reducible assumption)
    | (exact (rfl : Nat.lor _ _ = _))
    | (with_reducible refine State.relock_follows ?_ ?_)
    | (with_reducible apply State.Ends.next)

theorem execNewNonce_follows {μ : Nat} {s₀ : State} {s : State} (hm : Nat.lor 75557863725914323419140 μ = μ) (h₀ : s₀.Follows μ s) :
    s₀.Ends μ (execNewNonce s) := by
  refine State.Ends.lift hm h₀ ?_
  have h := State.Follows.refl 75557863725914323419140 s
  unfold execNewNonce
  repeat' first
    | (with_reducible assumption)
    | (exact (rfl : Nat.lor _ _ = _))
    | (with_reducible refine State.renewNonce_follows ?_ ?_)
    | (with_reducible apply State.Ends.next)

theorem execIdcode_follows {μ : Nat} {s₀ : State} {s : State} (hm : Nat.lor 151115727451828646838280 μ = μ) (h₀ : s₀.Follows μ s) :
    s₀.Ends μ (execIdcode s) := by
  refine State.Ends.lift hm h₀ ?_
  have h := State.Follows.refl 151115727451828646838280 s
  unfold execIdcode
  repeat' first
    | (with_reducible assumption)
    | (exact (rfl : Nat.lor _ _ = _))
    | (with_reducible refine State.emit_follows ?_ ?_)
    | (with_reducible apply State.Ends.next)
    | ((with_reducible apply State.Follows.keep) <;> first | exact trivial | exact rfl | skip)

theorem State.tapBypass_follows {μ : Nat} {s₀ : State} {s : State} (hm : Nat.lor 151115727451828646838280 μ = μ) (h₀ : s₀.Follows μ s) :
    s₀.Follows μ (State.tapBypass s) := by
  refine State.Follows.lift hm h₀ ?_
  have h := State.Follows.refl 151115727451828646838280 s
  unfold State.tapBypass
  repeat' first
    | (with_reducible assumption)
    | (exact (rfl : Nat.lor _ _ = _))
    | (with_reducible refine State.emit_follows ?_ ?_)
    | ((with_reducible apply State.Follows.keep) <;> first | exact trivial | exact rfl | skip)

theorem execBypass_follows {μ : Nat} {s₀ : State} {s : State} (hm : Nat.lor 151115727451828646838280 μ = μ) (h₀ : s₀.Follows μ s) :
    s₀.Ends μ (execBypass s) := by
  refine State.Ends.lift hm h₀ ?_
  have h := State.Follows.refl 151115727451828646838280 s
  unfold execBypass
  repeat' first
    | (with_reducible assumption)
    | (exact (rfl : Nat.lor _ _ = _))
    | (with_reducible refine State.tapBypass_follows ?_ ?_)
    | (with_reducible apply State.Ends.next)

theorem execSamplePreload_follows {μ : Nat} {s₀ : State} {pins preload : Nat} {s : State} (hm : Nat.lor 453347182355485940514824 μ = μ) (h₀ : s₀.Follows μ s) :
    s₀.Ends μ (execSamplePreload pins preload s) := by
  refine State.Ends.lift hm h₀ ?_
  have h := State.Follows.refl 453347182355485940514824 s
  unfold execSamplePreload
  repeat' first
    | (with_reducible assumption)
    | (exact (rfl : Nat.lor _ _ = _))
    | (with_reducible refine State.emit_follows ?_ ?_)
    | (with_reducible apply State.Ends.next)
    | ((with_reducible apply State.Follows.keep) <;> first | exact trivial | exact rfl | skip)

theorem execExtest_follows {μ : Nat} {s₀ : State} {s : State} (hm : Nat.lor 151115727451828646838280 μ = μ) (h₀ : s₀.Follows μ s) :
    s₀.Ends μ (execExtest s) := by
  refine State.Ends.lift hm h₀ ?_
  have h := State.Follows.refl 151115727451828646838280 s
  unfold execExtest
  repeat' first
    | (with_reducible assumption)
    | (exact (rfl : Nat.lor _ _ = _))
    | (with_reducible refine State.tapBypass_follows ?_ ?_)
    | (with_reducible apply State.Ends.next)
    | (with_reducible apply State.Follows.ite)
    | ((with_reducible apply State.Follows.keep) <;> first | exact trivial | exact rfl | skip)

theorem execIeee11496Instructions_follows {μ : Nat} {s₀ : State} {s : State} (hm : Nat.lor 151115727451828646838280 μ = μ) (h₀ : s₀.Follows μ s) :
    s₀.Ends μ (execIeee11496Instructions s) := by
  refine State.Ends.lift hm h₀ ?_
  have h := State.Follows.refl 151115727451828646838280 s
  unfold execIeee11496Instructions
  repeat' first
    | (with_reducible assumption)
    | (exact (rfl : Nat.lor _ _ = _))
    | (with_reducible refine State.tapBypass_follows ?_ ?_)
    | (with_reducible apply State.Ends.next)
    | (with_reducible apply State.Follows.ite)
    | ((with_reducible apply State.Follows.keep) <;> first | exact trivial | exact rfl | skip)

end Sys2Proof.Machine
end

