-- ==== Sys2Proof/Laws/FollowsThermal.lean ====
section
/-!
SUPPORT. The operations of Machine/Thermal.lean keep the relation `State.Follows`. The number in a lemma is the mask of the
components that its operation may change.
-/
namespace Sys2Proof.Machine
open Sys2Proof

theorem State.judge_follows {μ : Nat} {s₀ : State} {s : State} {c : Nat} (hm : Nat.lor 9444886088126621025048 μ = μ) (h₀ : s₀.Follows μ s) :
    s₀.Follows μ (State.judge s c) := by
  refine State.Follows.lift hm h₀ ?_
  have h := State.Follows.refl 9444886088126621025048 s
  unfold State.judge
  repeat' first
    | (with_reducible assumption)
    | (exact (rfl : Nat.lor _ _ = _))
    | (with_reducible refine State.logEvent_follows ?_ ?_)
    | (with_reducible refine State.updChan_follows ?_ ?_)
    | (with_reducible apply State.Follows.ite)

theorem State.breakBalance_follows {μ : Nat} {s₀ : State} {s : State} {c : Nat} (hm : Nat.lor 9444886088126621025048 μ = μ) (h₀ : s₀.Follows μ s) :
    s₀.Follows μ (State.breakBalance s c) := by
  refine State.Follows.lift hm h₀ ?_
  have h := State.Follows.refl 9444886088126621025048 s
  unfold State.breakBalance
  repeat' first
    | (with_reducible assumption)
    | (exact (rfl : Nat.lor _ _ = _))
    | (with_reducible refine State.logEvent_follows ?_ ?_)
    | (with_reducible refine State.updChan_follows ?_ ?_)
    | (with_reducible apply State.Follows.ite)

theorem State.passRoundEnd_follows {μ : Nat} {s₀ : State} {s : State} (hm : Nat.lor 9444886088126621025048 μ = μ) (h₀ : s₀.Follows μ s) :
    s₀.Follows μ (State.passRoundEnd s) := by
  refine State.Follows.lift hm h₀ ?_
  have h := State.Follows.refl 9444886088126621025048 s
  unfold State.passRoundEnd
  repeat' first
    | (with_reducible assumption)
    | (exact (rfl : Nat.lor _ _ = _))
    | (with_reducible refine State.breakBalance_follows ?_ ?_)
    | (with_reducible refine State.spareIdle_follows ?_ ?_)
    | (with_reducible apply State.Follows.ite)
    | (with_reducible refine State.Follows.foldl _ ?_ ?_)
    | (intro _ _ _)
    | dsimp only
    | ((with_reducible apply State.Follows.keep) <;> first | exact trivial | exact rfl | skip)

theorem State.balance_follows {μ : Nat} {s₀ : State} {s : State} (hm : Nat.lor 9444886088126621025048 μ = μ) (h₀ : s₀.Follows μ s) :
    s₀.Follows μ (State.balance s) := by
  refine State.Follows.lift hm h₀ ?_
  have h := State.Follows.refl 9444886088126621025048 s
  unfold State.balance
  repeat' first
    | (with_reducible assumption)
    | (exact (rfl : Nat.lor _ _ = _))
    | (with_reducible refine State.logEvent_follows ?_ ?_)
    | (with_reducible refine State.spareIdle_follows ?_ ?_)
    | (with_reducible apply State.Follows.ite)
    | split
    | dsimp only
    | ((with_reducible apply State.Follows.keep) <;> first | exact trivial | exact rfl | skip)

theorem State.takeCoolant_follows {μ : Nat} {s₀ : State} {s : State} (hm : Nat.lor 18889619053865911452440 μ = μ) (h₀ : s₀.Follows μ s) :
    s₀.Follows μ (State.takeCoolant s) := by
  refine State.Follows.lift hm h₀ ?_
  have h := State.Follows.refl 18889619053865911452440 s
  unfold State.takeCoolant
  repeat' first
    | (with_reducible assumption)
    | (exact (rfl : Nat.lor _ _ = _))
    | (with_reducible refine State.logEvent_follows ?_ ?_)
    | (with_reducible apply State.Follows.ite)
    | split
    | dsimp only
    | ((with_reducible apply State.Follows.keep) <;> first | exact trivial | exact rfl | skip)

theorem State.setForcing_follows {μ : Nat} {s₀ : State} {s : State} (hm : Nat.lor 18889465931478580854800 μ = μ) (h₀ : s₀.Follows μ s) :
    s₀.Follows μ (State.setForcing s) := by
  refine State.Follows.lift hm h₀ ?_
  have h := State.Follows.refl 18889465931478580854800 s
  unfold State.setForcing
  repeat' first
    | (with_reducible assumption)
    | (exact (rfl : Nat.lor _ _ = _))
    | (with_reducible refine State.hkaCount_follows ?_ ?_)
    | (with_reducible apply State.Follows.ite)
    | (with_reducible refine State.Follows.foldl _ ?_ ?_)
    | (intro _ _ _)
    | dsimp only
    | ((with_reducible apply State.Follows.keep) <;> first | exact trivial | exact rfl | skip)

theorem State.advance_follows {μ : Nat} {s₀ : State} {s : State} {p : List Int} {num den k : Nat} (hm : Nat.lor 18889465931478580854784 μ = μ) (h₀ : s₀.Follows μ s) :
    s₀.Follows μ (State.advance s p num den k) := by
  refine State.Follows.lift hm h₀ ?_
  have h := State.Follows.refl 18889465931478580854784 s
  unfold State.advance
  repeat' first
    | (with_reducible assumption)
    | dsimp only
    | ((with_reducible apply State.Follows.keep) <;> first | exact trivial | exact rfl | skip)

theorem State.advanceGap_follows {μ : Nat} {s₀ : State} {s : State} {p : List Int} {ns : Nat} (hm : Nat.lor 18889465931478580854784 μ = μ) (h₀ : s₀.Follows μ s) :
    s₀.Follows μ (State.advanceGap s p ns) := by
  refine State.Follows.lift hm h₀ ?_
  have h := State.Follows.refl 18889465931478580854784 s
  unfold State.advanceGap
  repeat' first
    | (with_reducible assumption)
    | (exact (rfl : Nat.lor _ _ = _))
    | (with_reducible refine State.advance_follows ?_ ?_)
    | (with_reducible apply State.Follows.ite)

theorem State.modelRound_follows {μ : Nat} {s₀ : State} {s : State} {a : Activity} (hm : Nat.lor 18889465931478580854784 μ = μ) (h₀ : s₀.Follows μ s) :
    s₀.Follows μ (State.modelRound s a) := by
  refine State.Follows.lift hm h₀ ?_
  have h := State.Follows.refl 18889465931478580854784 s
  unfold State.modelRound
  repeat' first
    | (with_reducible assumption)
    | (exact (rfl : Nat.lor _ _ = _))
    | (with_reducible refine State.advance_follows ?_ ?_)
    | (with_reducible apply State.Follows.ite)
    | split
    | dsimp only
    | ((with_reducible apply State.Follows.keep) <;> first | exact trivial | exact rfl | skip)

theorem State.setLevel_follows {μ : Nat} {s₀ : State} {s : State} {i : Nat} (hm : Nat.lor 18889619053865911452440 μ = μ) (h₀ : s₀.Follows μ s) :
    s₀.Follows μ (State.setLevel s i) := by
  refine State.Follows.lift hm h₀ ?_
  have h := State.Follows.refl 18889619053865911452440 s
  unfold State.setLevel
  repeat' first
    | (with_reducible assumption)
    | (exact (rfl : Nat.lor _ _ = _))
    | (with_reducible refine State.hkaCount_follows ?_ ?_)
    | (with_reducible refine State.logEvent_follows ?_ ?_)
    | (with_reducible refine State.logLimited_follows ?_ ?_)
    | (with_reducible apply State.Follows.ite)
    | dsimp only
    | ((with_reducible apply State.Follows.keep) <;> first | exact trivial | exact rfl | skip)

theorem State.shutdownCount_follows {μ : Nat} {s₀ : State} {s : State} (hm : Nat.lor 21250805770854841975576 μ = μ) (h₀ : s₀.Follows μ s) :
    s₀.Follows μ (State.shutdownCount s) := by
  refine State.Follows.lift hm h₀ ?_
  have h := State.Follows.refl 21250805770854841975576 s
  unfold State.shutdownCount
  repeat' first
    | (with_reducible assumption)
    | (exact (rfl : Nat.lor _ _ = _))
    | (with_reducible refine State.logEvent_follows ?_ ?_)
    | (with_reducible refine State.startShutdown_follows ?_ ?_)
    | (with_reducible apply State.Follows.ite)
    | split
    | dsimp only
    | ((with_reducible apply State.Follows.keep) <;> first | exact trivial | exact rfl | skip)

theorem State.thermLimits_follows {μ : Nat} {s₀ : State} {s : State} {before : Map TNode} (hm : Nat.lor 2361183241434822606864 μ = μ) (h₀ : s₀.Follows μ s) :
    s₀.Follows μ (State.thermLimits s before) := by
  refine State.Follows.lift hm h₀ ?_
  have h := State.Follows.refl 2361183241434822606864 s
  unfold State.thermLimits
  repeat' first
    | (with_reducible assumption)
    | (exact (rfl : Nat.lor _ _ = _))
    | (with_reducible refine State.hkaCount_follows ?_ ?_)
    | (with_reducible apply State.Follows.ite)
    | dsimp only
    | ((with_reducible apply State.Follows.keep) <;> first | exact trivial | exact rfl | skip)

theorem State.holdTemps_follows {μ : Nat} {s₀ : State} {s : State} (hm : Nat.lor 153122387330859800 μ = μ) (h₀ : s₀.Follows μ s) :
    s₀.Follows μ (State.holdTemps s) := by
  refine State.Follows.lift hm h₀ ?_
  have h := State.Follows.refl 153122387330859800 s
  unfold State.holdTemps
  repeat' first
    | (with_reducible assumption)
    | (exact (rfl : Nat.lor _ _ = _))
    | (with_reducible refine State.logEvent_follows ?_ ?_)
    | (with_reducible apply State.Follows.ite)
    | (with_reducible refine State.Follows.foldl _ ?_ ?_)
    | (intro _ _ _)
    | ((with_reducible apply State.Follows.keep) <;> first | exact trivial | exact rfl | skip)

theorem State.takeRefresh_follows {μ : Nat} {s₀ : State} {s : State} (hm : Nat.lor 153122389478081304 μ = μ) (h₀ : s₀.Follows μ s) :
    s₀.Follows μ (State.takeRefresh s) := by
  refine State.Follows.lift hm h₀ ?_
  have h := State.Follows.refl 153122389478081304 s
  unfold State.takeRefresh
  repeat' first
    | (with_reducible assumption)
    | (exact (rfl : Nat.lor _ _ = _))
    | (with_reducible refine State.refreshRate_follows ?_ ?_)
    | (with_reducible refine State.Follows.foldl _ ?_ ?_)
    | (intro _ _ _)

theorem State.takeInput_follows {μ : Nat} {s₀ : State} {s : State} (hm : Nat.lor 2361183241434822606848 μ = μ) (h₀ : s₀.Follows μ s) :
    s₀.Follows μ (State.takeInput s) := by
  refine State.Follows.lift hm h₀ ?_
  have h := State.Follows.refl 2361183241434822606848 s
  unfold State.takeInput
  repeat' first
    | (with_reducible assumption)
    | split
    | dsimp only
    | ((with_reducible apply State.Follows.keep) <;> first | exact trivial | exact rfl | skip)

theorem State.nextRound_follows {μ : Nat} {s₀ : State} {s : State} (hm : Nat.lor 9444732965739290427392 μ = μ) (h₀ : s₀.Follows μ s) :
    s₀.Follows μ (State.nextRound s) := by
  refine State.Follows.lift hm h₀ ?_
  have h := State.Follows.refl 9444732965739290427392 s
  unfold State.nextRound
  repeat' first
    | (with_reducible assumption)
    | (exact (rfl : Nat.lor _ _ = _))
    | (with_reducible refine State.beginSlot_follows ?_ ?_)
    | (with_reducible refine State.latchInj_follows ?_ ?_)
    | (with_reducible refine State.Follows.foldl _ ?_ ?_)
    | split
    | (intro _ _ _)
    | ((with_reducible apply State.Follows.keep) <;> first | exact trivial | exact rfl | skip)

theorem State.roundEnd_follows {μ : Nat} {s₀ : State} {s : State} {a : Activity} {oscPpm : Int} (hm : Nat.lor 35417905219463777878808 μ = μ) (h₀ : s₀.Follows μ s) :
    s₀.Follows μ (State.roundEnd s a oscPpm) := by
  refine State.Follows.lift hm h₀ ?_
  have h := State.Follows.refl 35417905219463777878808 s
  unfold State.roundEnd
  repeat' first
    | (with_reducible assumption)
    | (exact (rfl : Nat.lor _ _ = _))
    | (with_reducible refine State.balance_follows ?_ ?_)
    | (with_reducible refine State.count64_follows ?_ ?_)
    | (with_reducible refine State.holdTemps_follows ?_ ?_)
    | (with_reducible refine State.judge_follows ?_ ?_)
    | (with_reducible refine State.modelRound_follows ?_ ?_)
    | (with_reducible refine State.nextRound_follows ?_ ?_)
    | (with_reducible refine State.passRoundEnd_follows ?_ ?_)
    | (with_reducible refine State.setForcing_follows ?_ ?_)
    | (with_reducible refine State.setLevel_follows ?_ ?_)
    | (with_reducible refine State.shutdownCount_follows ?_ ?_)
    | (with_reducible refine State.takeCoolant_follows ?_ ?_)
    | (with_reducible refine State.takeInput_follows ?_ ?_)
    | (with_reducible refine State.takeRefresh_follows ?_ ?_)
    | (with_reducible refine State.thermLimits_follows ?_ ?_)
    | (with_reducible refine State.visitRoundEnd_follows ?_ ?_)
    | (with_reducible apply State.Follows.ite)
    | (with_reducible refine State.Follows.foldl _ ?_ ?_)
    | (intro _ _ _)
    | dsimp only
    | ((with_reducible apply State.Follows.keep) <;> first | exact trivial | exact rfl | skip)

theorem execRoundEnd_follows {μ : Nat} {s₀ : State} {cores conversions sram frieze lanes : List Nat} {oscPpm : Int} {s : State} (hm : Nat.lor 35417905219463777878808 μ = μ) (h₀ : s₀.Follows μ s) :
    s₀.Ends μ (execRoundEnd cores conversions sram frieze lanes oscPpm s) := by
  refine State.Ends.lift hm h₀ ?_
  have h := State.Follows.refl 35417905219463777878808 s
  unfold execRoundEnd
  repeat' first
    | (with_reducible assumption)
    | (exact (rfl : Nat.lor _ _ = _))
    | (with_reducible refine State.roundEnd_follows ?_ ?_)
    | (with_reducible apply State.Ends.next)
    | (with_reducible apply State.Follows.ite)

end Sys2Proof.Machine
end

