-- ==== Sys2Proof/Laws/FollowsPower.lean ====
section
/-!
SUPPORT. The operations of Machine/Power.lean keep the relation `State.Follows`. The number in a lemma is the mask of the
components that its operation may change.
-/
namespace Sys2Proof.Machine
open Sys2Proof

theorem State.pwrCount_follows {μ : Nat} {s₀ : State} {s : State} {off k : Nat} {wide : Bool} (hm : Nat.lor 16 μ = μ) (h₀ : s₀.Follows μ s) :
    s₀.Follows μ (State.pwrCount s off k wide) := by
  refine State.Follows.lift hm h₀ ?_
  have h := State.Follows.refl 16 s
  unfold State.pwrCount
  repeat' first
    | (with_reducible assumption)
    | (exact (rfl : Nat.lor _ _ = _))
    | (with_reducible refine State.count64By_follows ?_ ?_)
    | (with_reducible refine State.countBy_follows ?_ ?_)
    | (with_reducible apply State.Follows.ite)

theorem State.updPwr_follows {μ : Nat} {s₀ : State} {s : State} {f : Pwr → Pwr} (hm : Nat.lor 2361183241434822606848 μ = μ) (h₀ : s₀.Follows μ s) :
    s₀.Follows μ (State.updPwr s f) := by
  refine State.Follows.lift hm h₀ ?_
  have h := State.Follows.refl 2361183241434822606848 s
  unfold State.updPwr
  repeat' first
    | (with_reducible assumption)
    | ((with_reducible apply State.Follows.keep) <;> first | exact trivial | exact rfl | skip)

theorem State.updClk_follows {μ : Nat} {s₀ : State} {s : State} {f : Clk → Clk} (hm : Nat.lor 4722366482869645213696 μ = μ) (h₀ : s₀.Follows μ s) :
    s₀.Follows μ (State.updClk s f) := by
  refine State.Follows.lift hm h₀ ?_
  have h := State.Follows.refl 4722366482869645213696 s
  unfold State.updClk
  repeat' first
    | (with_reducible assumption)
    | ((with_reducible apply State.Follows.keep) <;> first | exact trivial | exact rfl | skip)

theorem State.updDomain_follows {μ : Nat} {s₀ : State} {s : State} {d : Nat} {f : Domain → Domain} (hm : Nat.lor 1180591620717411303424 μ = μ) (h₀ : s₀.Follows μ s) :
    s₀.Follows μ (State.updDomain s d f) := by
  refine State.Follows.lift hm h₀ ?_
  have h := State.Follows.refl 1180591620717411303424 s
  unfold State.updDomain
  repeat' first
    | (with_reducible assumption)
    | ((with_reducible apply State.Follows.keep) <;> first | exact trivial | exact rfl | skip)

theorem State.coldReset_follows {μ : Nat} {s₀ s : State} (hm : Nat.lor 604462909807314587352051 μ = μ) (h₀ : s₀.Follows μ s) : s₀.Follows μ s.coldReset := by
  refine State.Follows.lift hm h₀ ?_
  have h := State.Follows.refl 604462909807314587352051 s
  unfold State.coldReset
  exact ⟨h.pending, h.out, h.draws, h.part, fun _ => ⟨Nat.zero_le _, Nat.zero_le _, Nat.two_pow_pos 32⟩,
    fun _ => ⟨Nat.zero_le _, fun _ => Nat.zero_lt_succ 63⟩, fun _ => rfl, rfl⟩

theorem execVinValidBegins_follows {μ : Nat} {s₀ : State} {s : State} (hm : Nat.lor 7083549724304467820544 μ = μ) (h₀ : s₀.Follows μ s) :
    s₀.Ends μ (execVinValidBegins s) := by
  refine State.Ends.lift hm h₀ ?_
  have h := State.Follows.refl 7083549724304467820544 s
  unfold execVinValidBegins
  repeat' first
    | (with_reducible assumption)
    | (exact (rfl : Nat.lor _ _ = _))
    | (with_reducible refine State.updClk_follows ?_ ?_)
    | (with_reducible refine State.updPwr_follows ?_ ?_)
    | (with_reducible apply State.Ends.next)
    | (with_reducible apply State.Follows.ite)

theorem execInputValid_follows {μ : Nat} {s₀ : State} {s : State} (hm : Nat.lor 2361183241434822606848 μ = μ) (h₀ : s₀.Follows μ s) :
    s₀.Ends μ (execInputValid s) := by
  refine State.Ends.lift hm h₀ ?_
  have h := State.Follows.refl 2361183241434822606848 s
  unfold execInputValid
  repeat' first
    | (with_reducible assumption)
    | (exact (rfl : Nat.lor _ _ = _))
    | (with_reducible refine State.updPwr_follows ?_ ?_)
    | (with_reducible apply State.Ends.next)
    | (with_reducible apply State.Follows.ite)

theorem execRailsInRegulation_follows {μ : Nat} {s₀ s : State} {slotId strap : Nat} (hm : Nat.lor 2361183241434822607872 μ = μ) (h₀ : s₀.Follows μ s) :
    s₀.Ends μ (execRailsInRegulation slotId strap s) := by
  refine State.Ends.lift hm h₀ ?_
  have h := State.Follows.refl 2361183241434822607872 s
  unfold execRailsInRegulation
  refine State.Ends.next (State.Follows.ite (State.updPwr_follows rfl ?_) h)
  exact ⟨h.pending, h.out, h.draws, h.part, h.log, h.ring, h.regs, rfl⟩

theorem State.checkIdentity_follows {μ : Nat} {s₀ : State} {s : State} {ok : Bool} (hm : Nat.lor 113336795588871485128704 μ = μ) (h₀ : s₀.Follows μ s) :
    s₀.Follows μ (State.checkIdentity s ok) := by
  refine State.Follows.lift hm h₀ ?_
  have h := State.Follows.refl 113336795588871485128704 s
  unfold State.checkIdentity
  repeat' first
    | (with_reducible assumption)
    | (with_reducible apply State.Follows.ite)
    | split
    | dsimp only
    | ((with_reducible apply State.Follows.keep) <;> first | exact trivial | exact rfl | skip)

theorem State.restoreStore_follows {μ : Nat} {s₀ : State} {s : State} (hm : Nat.lor 1152921504606855168 μ = μ) (h₀ : s₀.Follows μ s) :
    s₀.Follows μ (State.restoreStore s) := by
  refine State.Follows.lift hm h₀ ?_
  have h := State.Follows.refl 1152921504606855168 s
  unfold State.restoreStore
  repeat' first
    | (with_reducible assumption)
    | (with_reducible refine State.Follows.foldl _ ?_ ?_)
    | (intro _ _ _)
    | ((with_reducible apply State.Follows.keep) <;> first | exact trivial | exact rfl | skip)

theorem execFriezePllLock_follows {μ : Nat} {s₀ : State} {identityOk : Bool} {s : State} (hm : Nat.lor 129866384322807180829471 μ = μ) (h₀ : s₀.Follows μ s) :
    s₀.Ends μ (execFriezePllLock identityOk s) := by
  refine State.Ends.lift hm h₀ ?_
  have h := State.Follows.refl 129866384322807180829471 s
  unfold execFriezePllLock
  repeat' first
    | (with_reducible assumption)
    | (exact (rfl : Nat.lor _ _ = _))
    | (with_reducible refine State.checkIdentity_follows ?_ ?_)
    | (with_reducible refine State.latchInj_follows ?_ ?_)
    | (with_reducible refine State.logEvent_follows ?_ ?_)
    | (with_reducible refine State.renewNonce_follows ?_ ?_)
    | (with_reducible refine State.restoreStore_follows ?_ ?_)
    | (with_reducible refine State.updClk_follows ?_ ?_)
    | (with_reducible refine State.updPwr_follows ?_ ?_)
    | (with_reducible apply State.Ends.next)
    | (with_reducible apply State.Follows.ite)
    | split
    | dsimp only
    | ((with_reducible apply State.Follows.keep) <;> first | exact trivial | exact rfl | skip)

theorem execCorePllLock_follows {μ : Nat} {s₀ : State} {s : State} (hm : Nat.lor 7083549724304474112000 μ = μ) (h₀ : s₀.Follows μ s) :
    s₀.Ends μ (execCorePllLock s) := by
  refine State.Ends.lift hm h₀ ?_
  have h := State.Follows.refl 7083549724304474112000 s
  unfold execCorePllLock
  repeat' first
    | (with_reducible assumption)
    | (exact (rfl : Nat.lor _ _ = _))
    | (with_reducible refine State.updClk_follows ?_ ?_)
    | (with_reducible refine State.updPwr_follows ?_ ?_)
    | (with_reducible apply State.Ends.next)
    | (with_reducible apply State.Follows.ite)
    | dsimp only
    | ((with_reducible apply State.Follows.keep) <;> first | exact trivial | exact rfl | skip)

theorem execDawnComplete_follows {μ : Nat} {s₀ : State} {us : Nat} {s : State} (hm : Nat.lor 2361336363824300688152 μ = μ) (h₀ : s₀.Follows μ s) :
    s₀.Ends μ (execDawnComplete us s) := by
  refine State.Ends.lift hm h₀ ?_
  have h := State.Follows.refl 2361336363824300688152 s
  unfold execDawnComplete
  repeat' first
    | (with_reducible assumption)
    | (exact (rfl : Nat.lor _ _ = _))
    | (with_reducible refine State.logEvent_follows ?_ ?_)
    | (with_reducible refine State.updPed_follows ?_ ?_)
    | (with_reducible refine State.updPwr_follows ?_ ?_)
    | (with_reducible apply State.Ends.next)
    | (with_reducible apply State.Follows.ite)
    | (with_reducible refine State.Follows.foldl _ ?_ ?_)
    | split
    | (intro _ _ _)
    | dsimp only

theorem execInputOutOfRange_follows {μ : Nat} {s₀ : State} {mv : Nat} {high : Bool} {s : State} (hm : Nat.lor 11806069329561443631896 μ = μ) (h₀ : s₀.Follows μ s) :
    s₀.Ends μ (execInputOutOfRange mv high s) := by
  refine State.Ends.lift hm h₀ ?_
  have h := State.Follows.refl 11806069329561443631896 s
  unfold execInputOutOfRange
  repeat' first
    | (with_reducible assumption)
    | (exact (rfl : Nat.lor _ _ = _))
    | (with_reducible refine State.injSource_follows ?_ ?_)
    | (with_reducible refine State.logLimited_follows ?_ ?_)
    | (with_reducible refine State.updPwr_follows ?_ ?_)
    | (with_reducible apply State.Ends.next)
    | (with_reducible apply State.Follows.ite)

theorem execInputWarningCleared_follows {μ : Nat} {s₀ : State} {s : State} (hm : Nat.lor 2361183241434822606848 μ = μ) (h₀ : s₀.Follows μ s) :
    s₀.Ends μ (execInputWarningCleared s) := by
  refine State.Ends.lift hm h₀ ?_
  have h := State.Follows.refl 2361183241434822606848 s
  unfold execInputWarningCleared
  repeat' first
    | (with_reducible assumption)
    | (exact (rfl : Nat.lor _ _ = _))
    | (with_reducible refine State.updPwr_follows ?_ ?_)
    | (with_reducible apply State.Ends.next)

theorem execInputTrip_follows {μ : Nat} {s₀ : State} {value cause : Nat} {s : State} (hm : Nat.lor 604462909807314587352051 μ = μ) (h₀ : s₀.Follows μ s) :
    s₀.Ends μ (execInputTrip value cause s) := by
  refine State.Ends.lift hm h₀ ?_
  have h := State.Follows.refl 604462909807314587352051 s
  unfold execInputTrip
  repeat' first
    | (with_reducible assumption)
    | (exact (rfl : Nat.lor _ _ = _))
    | (with_reducible refine State.coldReset_follows ?_ ?_)
    | (with_reducible refine State.updPwr_follows ?_ ?_)
    | (with_reducible apply State.Ends.next)
    | (with_reducible apply State.Follows.ite)

theorem execTripRestart_follows {μ : Nat} {s₀ : State} {now : Nat} {s : State} (hm : Nat.lor 7083549724304467820544 μ = μ) (h₀ : s₀.Follows μ s) :
    s₀.Ends μ (execTripRestart now s) := by
  refine State.Ends.lift hm h₀ ?_
  have h := State.Follows.refl 7083549724304467820544 s
  unfold execTripRestart
  repeat' first
    | (with_reducible assumption)
    | (exact (rfl : Nat.lor _ _ = _))
    | (with_reducible refine State.updClk_follows ?_ ?_)
    | (with_reducible refine State.updPwr_follows ?_ ?_)
    | (with_reducible apply State.Ends.next)
    | (with_reducible apply State.Follows.ite)

theorem execVinBelow20V_follows {μ : Nat} {s₀ : State} {s : State} (hm : Nat.lor 604462909807314587352051 μ = μ) (h₀ : s₀.Follows μ s) :
    s₀.Ends μ (execVinBelow20V s) := by
  refine State.Ends.lift hm h₀ ?_
  have h := State.Follows.refl 604462909807314587352051 s
  unfold execVinBelow20V
  repeat' first
    | (with_reducible assumption)
    | (exact (rfl : Nat.lor _ _ = _))
    | (with_reducible refine State.coldReset_follows ?_ ?_)
    | (with_reducible refine State.updPwr_follows ?_ ?_)
    | (with_reducible apply State.Ends.next)
    | ((with_reducible apply State.Follows.keep) <;> first | exact trivial | exact rfl | skip)

theorem execPowerPhaseLost_follows {μ : Nat} {s₀ : State} {rail phase cause : Nat} {s : State} (hm : Nat.lor 11806069329561443631896 μ = μ) (h₀ : s₀.Follows μ s) :
    s₀.Ends μ (execPowerPhaseLost rail phase cause s) := by
  refine State.Ends.lift hm h₀ ?_
  have h := State.Follows.refl 11806069329561443631896 s
  unfold execPowerPhaseLost
  repeat' first
    | (with_reducible assumption)
    | (exact (rfl : Nat.lor _ _ = _))
    | (with_reducible refine State.injSource_follows ?_ ?_)
    | (with_reducible refine State.logEvent_follows ?_ ?_)
    | (with_reducible refine State.pwrCount_follows ?_ ?_)
    | (with_reducible refine State.updPwr_follows ?_ ?_)
    | (with_reducible apply State.Ends.next)
    | (with_reducible apply State.Follows.ite)

theorem State.ballastTick_follows {μ : Nat} {s₀ : State} {s : State} (hm : Nat.lor 11805916207174113034256 μ = μ) (h₀ : s₀.Follows μ s) :
    s₀.Follows μ (State.ballastTick s) := by
  refine State.Follows.lift hm h₀ ?_
  have h := State.Follows.refl 11805916207174113034256 s
  unfold State.ballastTick
  repeat' first
    | (with_reducible assumption)
    | (exact (rfl : Nat.lor _ _ = _))
    | (with_reducible refine State.injSource_follows ?_ ?_)
    | (with_reducible refine State.pwrCount_follows ?_ ?_)
    | (with_reducible refine State.updPwr_follows ?_ ?_)
    | (with_reducible apply State.Follows.ite)

theorem execGovernorTick_follows {μ : Nat} {s₀ : State} {demand load govW govE : Nat} {limit : Option Nat} {paces : List (Nat × Nat)} {s : State} (hm : Nat.lor 11806069329561443631896 μ = μ) (h₀ : s₀.Follows μ s) :
    s₀.Ends μ (execGovernorTick demand load govW govE limit paces s) := by
  refine State.Ends.lift hm h₀ ?_
  have h := State.Follows.refl 11806069329561443631896 s
  unfold execGovernorTick
  repeat' first
    | (with_reducible assumption)
    | (exact (rfl : Nat.lor _ _ = _))
    | (with_reducible refine State.ballastTick_follows ?_ ?_)
    | (with_reducible refine State.logLimited_follows ?_ ?_)
    | (with_reducible refine State.pwrCount_follows ?_ ?_)
    | (with_reducible refine State.updPwr_follows ?_ ?_)
    | (with_reducible apply State.Ends.next)
    | (with_reducible apply State.Follows.ite)
    | split

theorem execShutdown_follows {μ : Nat} {s₀ : State} {port : Port} {s : State} (hm : Nat.lor 2361339839376261120792 μ = μ) (h₀ : s₀.Follows μ s) :
    s₀.Ends μ (execShutdown port s) := by
  refine State.Ends.lift hm h₀ ?_
  have h := State.Follows.refl 2361339839376261120792 s
  unfold execShutdown
  repeat' first
    | (with_reducible assumption)
    | (exact (rfl : Nat.lor _ _ = _))
    | (with_reducible refine State.startShutdown_follows ?_ ?_)
    | (with_reducible apply State.Ends.next)
    | (with_reducible apply State.Follows.ite)

theorem execShutdownRailsOff_follows {μ : Nat} {s₀ : State} {s : State} (hm : Nat.lor 604462909807314587352051 μ = μ) (h₀ : s₀.Follows μ s) :
    s₀.Ends μ (execShutdownRailsOff s) := by
  refine State.Ends.lift hm h₀ ?_
  have h := State.Follows.refl 604462909807314587352051 s
  unfold execShutdownRailsOff
  repeat' first
    | (with_reducible assumption)
    | (exact (rfl : Nat.lor _ _ = _))
    | (with_reducible refine State.coldReset_follows ?_ ?_)
    | (with_reducible refine State.updPwr_follows ?_ ?_)
    | (with_reducible apply State.Ends.next)
    | (with_reducible apply State.Follows.ite)

theorem State.domainTo_follows {μ : Nat} {s₀ : State} {s : State} {d st : Nat} (hm : Nat.lor 1180744743104741901080 μ = μ) (h₀ : s₀.Follows μ s) :
    s₀.Follows μ (State.domainTo s d st) := by
  refine State.Follows.lift hm h₀ ?_
  have h := State.Follows.refl 1180744743104741901080 s
  unfold State.domainTo
  repeat' first
    | (with_reducible assumption)
    | (exact (rfl : Nat.lor _ _ = _))
    | (with_reducible refine State.logLimited_follows ?_ ?_)
    | (with_reducible refine State.pwrCount_follows ?_ ?_)
    | (with_reducible refine State.updDomain_follows ?_ ?_)

theorem State.clusterMidnight_follows {μ : Nat} {s₀ : State} {s : State} {c : Nat} (hm : Nat.lor 295319041965216269080 μ = μ) (h₀ : s₀.Follows μ s) :
    s₀.Follows μ (State.clusterMidnight s c) := by
  refine State.Follows.lift hm h₀ ?_
  have h := State.Follows.refl 295319041965216269080 s
  unfold State.clusterMidnight
  repeat' first
    | (with_reducible assumption)
    | (exact (rfl : Nat.lor _ _ = _))
    | (with_reducible refine State.abandonTurn_follows ?_ ?_)
    | (with_reducible refine State.abortTest_follows ?_ ?_)
    | (with_reducible refine State.updArr_follows ?_ ?_)
    | (with_reducible refine State.updCal_follows ?_ ?_)
    | (with_reducible refine State.updCore_follows ?_ ?_)
    | (with_reducible refine State.Follows.foldl _ ?_ ?_)
    | split
    | (intro _ _ _)
    | dsimp only
    | ((with_reducible apply State.Follows.keep) <;> first | exact trivial | exact rfl | skip)

theorem State.friezeMidnight_follows {μ : Nat} {s₀ : State} {s : State} (hm : Nat.lor 75557869355416013504512 μ = μ) (h₀ : s₀.Follows μ s) :
    s₀.Follows μ (State.friezeMidnight s) := by
  refine State.Follows.lift hm h₀ ?_
  have h := State.Follows.refl 75557869355416013504512 s
  unfold State.friezeMidnight
  repeat' first
    | (with_reducible assumption)
    | (exact (rfl : Nat.lor _ _ = _))
    | (with_reducible refine State.dropSessions_follows ?_ ?_)
    | dsimp only
    | ((with_reducible apply State.Follows.keep) <;> first | exact trivial | exact rfl | skip)

theorem State.enterState_follows {μ : Nat} {s₀ : State} {s : State} {d st : Nat} (hm : Nat.lor 81756146500968286290712 μ = μ) (h₀ : s₀.Follows μ s) :
    s₀.Follows μ (State.enterState s d st) := by
  refine State.Follows.lift hm h₀ ?_
  have h := State.Follows.refl 81756146500968286290712 s
  unfold State.enterState
  repeat' first
    | (with_reducible assumption)
    | (exact (rfl : Nat.lor _ _ = _))
    | (with_reducible refine State.clusterMidnight_follows ?_ ?_)
    | (with_reducible refine State.domainTo_follows ?_ ?_)
    | (with_reducible refine State.friezeMidnight_follows ?_ ?_)
    | (with_reducible refine State.updClk_follows ?_ ?_)
    | (with_reducible apply State.Follows.ite)

theorem execPowerStateEntry_follows {μ : Nat} {s₀ : State} {domain kind next : Nat} {paces : List Nat} {s : State} (hm : Nat.lor 81756146500968286290712 μ = μ) (h₀ : s₀.Follows μ s) :
    s₀.Ends μ (execPowerStateEntry domain kind next paces s) := by
  refine State.Ends.lift hm h₀ ?_
  have h := State.Follows.refl 81756146500968286290712 s
  unfold execPowerStateEntry
  repeat' first
    | (with_reducible assumption)
    | (exact (rfl : Nat.lor _ _ = _))
    | (with_reducible refine State.enterState_follows ?_ ?_)
    | (with_reducible refine State.updDomain_follows ?_ ?_)
    | (with_reducible apply State.Ends.next)
    | (with_reducible apply State.Follows.ite)

theorem State.wakeDomain_follows {μ : Nat} {s₀ : State} {s : State} {d : Nat} (hm : Nat.lor 1180591620717411303424 μ = μ) (h₀ : s₀.Follows μ s) :
    s₀.Follows μ (State.wakeDomain s d) := by
  refine State.Follows.lift hm h₀ ?_
  have h := State.Follows.refl 1180591620717411303424 s
  unfold State.wakeDomain
  repeat' first
    | (with_reducible assumption)
    | (exact (rfl : Nat.lor _ _ = _))
    | (with_reducible refine State.updDomain_follows ?_ ?_)
    | (with_reducible apply State.Follows.ite)
    | (with_reducible refine State.Follows.foldl _ ?_ ?_)
    | (intro _ _ _)

theorem execWakeStart_follows {μ : Nat} {s₀ : State} {domain : Nat} {delayed : Bool} {s : State} (hm : Nat.lor 1180591620717411303440 μ = μ) (h₀ : s₀.Follows μ s) :
    s₀.Ends μ (execWakeStart domain delayed s) := by
  refine State.Ends.lift hm h₀ ?_
  have h := State.Follows.refl 1180591620717411303440 s
  unfold execWakeStart
  repeat' first
    | (with_reducible assumption)
    | (exact (rfl : Nat.lor _ _ = _))
    | (with_reducible refine State.pwrCount_follows ?_ ?_)
    | (with_reducible refine State.updDomain_follows ?_ ?_)
    | (with_reducible refine State.wakeDomain_follows ?_ ?_)
    | (with_reducible apply State.Ends.next)
    | (with_reducible apply State.Follows.ite)

theorem State.clusterWake_follows {μ : Nat} {s₀ : State} {s : State} {c : Nat} (hm : Nat.lor 2097152 μ = μ) (h₀ : s₀.Follows μ s) :
    s₀.Follows μ (State.clusterWake s c) := by
  refine State.Follows.lift hm h₀ ?_
  have h := State.Follows.refl 2097152 s
  unfold State.clusterWake
  repeat' first
    | (with_reducible assumption)
    | (exact (rfl : Nat.lor _ _ = _))
    | (with_reducible refine State.loadCore_follows ?_ ?_)
    | (with_reducible refine State.startThreads_follows ?_ ?_)
    | (with_reducible apply State.Follows.ite)
    | (with_reducible refine State.Follows.foldl _ ?_ ?_)
    | split
    | (intro _ _ _)

theorem State.friezeWake_follows {μ : Nat} {s₀ : State} {s : State} {spent : Nat} {identityOk : Bool} (hm : Nat.lor 132226261520352213467136 μ = μ) (h₀ : s₀.Follows μ s) :
    s₀.Follows μ (State.friezeWake s spent identityOk) := by
  refine State.Follows.lift hm h₀ ?_
  have h := State.Follows.refl 132226261520352213467136 s
  unfold State.friezeWake
  repeat' first
    | (with_reducible assumption)
    | (exact (rfl : Nat.lor _ _ = _))
    | (with_reducible refine State.advanceGap_follows ?_ ?_)
    | (with_reducible refine State.checkIdentity_follows ?_ ?_)
    | (with_reducible refine State.loadEngines_follows ?_ ?_)
    | (with_reducible apply State.Follows.ite)
    | (with_reducible refine State.Follows.foldl _ ?_ ?_)
    | (intro _ _ _)
    | dsimp only
    | ((with_reducible apply State.Follows.keep) <;> first | exact trivial | exact rfl | skip)

theorem execWakeComplete_follows {μ : Nat} {s₀ : State} {domain us : Nat} {identityOk : Bool} {s : State} (hm : Nat.lor 140490555987761425285912 μ = μ) (h₀ : s₀.Follows μ s) :
    s₀.Ends μ (execWakeComplete domain us identityOk s) := by
  refine State.Ends.lift hm h₀ ?_
  have h := State.Follows.refl 140490555987761425285912 s
  unfold execWakeComplete
  repeat' first
    | (with_reducible assumption)
    | (exact (rfl : Nat.lor _ _ = _))
    | (with_reducible refine State.clusterWake_follows ?_ ?_)
    | (with_reducible refine State.domainTo_follows ?_ ?_)
    | (with_reducible refine State.friezeWake_follows ?_ ?_)
    | (with_reducible refine State.logEvent_follows ?_ ?_)
    | (with_reducible refine State.updClk_follows ?_ ?_)
    | (with_reducible refine State.updDomain_follows ?_ ?_)
    | (with_reducible refine State.updPwr_follows ?_ ?_)
    | (with_reducible apply State.Ends.next)
    | (with_reducible apply State.Follows.ite)

theorem execCrystalLock_follows {μ : Nat} {s₀ : State} {s : State} (hm : Nat.lor 4722366482869645213696 μ = μ) (h₀ : s₀.Follows μ s) :
    s₀.Ends μ (execCrystalLock s) := by
  refine State.Ends.lift hm h₀ ?_
  have h := State.Follows.refl 4722366482869645213696 s
  unfold execCrystalLock
  repeat' first
    | (with_reducible assumption)
    | (exact (rfl : Nat.lor _ _ = _))
    | (with_reducible refine State.updClk_follows ?_ ?_)
    | (with_reducible apply State.Ends.next)
    | (with_reducible apply State.Follows.ite)

theorem execCrystalTimeout_follows {μ : Nat} {s₀ : State} {s : State} (hm : Nat.lor 4722519605256975811352 μ = μ) (h₀ : s₀.Follows μ s) :
    s₀.Ends μ (execCrystalTimeout s) := by
  refine State.Ends.lift hm h₀ ?_
  have h := State.Follows.refl 4722519605256975811352 s
  unfold execCrystalTimeout
  repeat' first
    | (with_reducible assumption)
    | (exact (rfl : Nat.lor _ _ = _))
    | (with_reducible refine State.logEvent_follows ?_ ?_)
    | (with_reducible refine State.updClk_follows ?_ ?_)
    | (with_reducible apply State.Ends.next)
    | (with_reducible apply State.Follows.ite)

theorem execCrystalStopped_follows {μ : Nat} {s₀ : State} {s : State} (hm : Nat.lor 4722519605256975811352 μ = μ) (h₀ : s₀.Follows μ s) :
    s₀.Ends μ (execCrystalStopped s) := by
  refine State.Ends.lift hm h₀ ?_
  have h := State.Follows.refl 4722519605256975811352 s
  unfold execCrystalStopped
  repeat' first
    | (with_reducible assumption)
    | (exact (rfl : Nat.lor _ _ = _))
    | (with_reducible refine State.logEvent_follows ?_ ?_)
    | (with_reducible refine State.updClk_follows ?_ ?_)
    | (with_reducible apply State.Ends.next)
    | (with_reducible apply State.Follows.ite)

theorem execReferenceLost_follows {μ : Nat} {s₀ : State} {s : State} (hm : Nat.lor 14167252570996266238744 μ = μ) (h₀ : s₀.Follows μ s) :
    s₀.Ends μ (execReferenceLost s) := by
  refine State.Ends.lift hm h₀ ?_
  have h := State.Follows.refl 14167252570996266238744 s
  unfold execReferenceLost
  repeat' first
    | (with_reducible assumption)
    | (exact (rfl : Nat.lor _ _ = _))
    | (with_reducible refine State.logEvent_follows ?_ ?_)
    | (with_reducible refine State.nextRound_follows ?_ ?_)
    | (with_reducible refine State.updClk_follows ?_ ?_)
    | (with_reducible apply State.Ends.next)
    | (with_reducible apply State.Follows.ite)

theorem execReferenceReturn_follows {μ : Nat} {s₀ : State} {s : State} (hm : Nat.lor 24792424035065637371904 μ = μ) (h₀ : s₀.Follows μ s) :
    s₀.Ends μ (execReferenceReturn s) := by
  refine State.Ends.lift hm h₀ ?_
  have h := State.Follows.refl 24792424035065637371904 s
  unfold execReferenceReturn
  repeat' first
    | (with_reducible assumption)
    | (exact (rfl : Nat.lor _ _ = _))
    | (with_reducible refine State.advanceGap_follows ?_ ?_)
    | (with_reducible refine State.updClk_follows ?_ ?_)
    | (with_reducible refine State.updDomain_follows ?_ ?_)
    | (with_reducible apply State.Ends.next)
    | (with_reducible apply State.Follows.ite)
    | (with_reducible refine State.Follows.foldl _ ?_ ?_)
    | (intro _ _ _)

end Sys2Proof.Machine
end

