-- ==== Sys2Proof/Laws/FollowsSampler.lean ====
section
/-!
SUPPORT. The operations of Machine/Sampler.lean keep the relation `State.Follows`. The number in a lemma is the mask of the
components that its operation may change.
-/
namespace Sys2Proof.Machine
open Sys2Proof

theorem State.refuseSlice_follows {μ : Nat} {s₀ : State} {s : State} {h : Handoff} {row cause : Nat} (hm : Nat.lor 156597941469971224 μ = μ) (h₀ : s₀.Follows μ s) :
    s₀.Follows μ (State.refuseSlice s h row cause) := by
  refine State.Follows.lift hm h₀ ?_
  have h := State.Follows.refl 156597941469971224 s
  unfold State.refuseSlice
  repeat' first
    | (with_reducible assumption)
    | (exact (rfl : Nat.lor _ _ = _))
    | (with_reducible refine State.logEvent_follows ?_ ?_)
    | (with_reducible refine State.remoteFault_follows ?_ ?_)
    | ((with_reducible apply State.Follows.keep) <;> first | exact trivial | exact rfl | skip)

theorem State.sliceTaken_follows {μ : Nat} {s₀ : State} {s : State} {h : Handoff} (hm : Nat.lor 590448932746063512344 μ = μ) (h₀ : s₀.Follows μ s) :
    s₀.Follows μ (State.sliceTaken s h) := by
  refine State.Follows.lift hm h₀ ?_
  have h := State.Follows.refl 590448932746063512344 s
  unfold State.sliceTaken
  repeat' first
    | (with_reducible assumption)
    | (exact (rfl : Nat.lor _ _ = _))
    | (with_reducible refine State.retireWake_follows ?_ ?_)
    | (with_reducible apply State.Follows.ite)
    | dsimp only
    | ((with_reducible apply State.Follows.keep) <;> first | exact trivial | exact rfl | skip)

theorem State.takeSlice_follows {μ : Nat} {s₀ : State} {s : State} {h : Handoff} {i : Nat} (hm : Nat.lor 590452408300175622936 μ = μ) (h₀ : s₀.Follows μ s) :
    s₀.Follows μ (State.takeSlice s h i) := by
  refine State.Follows.lift hm h₀ ?_
  have h := State.Follows.refl 590452408300175622936 s
  unfold State.takeSlice
  repeat' first
    | (with_reducible assumption)
    | (exact (rfl : Nat.lor _ _ = _))
    | (with_reducible refine State.refuseSlice_follows ?_ ?_)
    | (with_reducible refine State.sliceTaken_follows ?_ ?_)
    | (with_reducible refine State.smpCount_follows ?_ ?_)
    | (with_reducible apply State.Follows.ite)
    | split
    | dsimp only
    | ((with_reducible apply State.Follows.keep) <;> first | exact trivial | exact rfl | skip)

theorem execHandoffSlice_follows {μ : Nat} {s₀ : State} {core flight : Nat} {s : State} (hm : Nat.lor 590452408300175622936 μ = μ) (h₀ : s₀.Follows μ s) :
    s₀.Ends μ (execHandoffSlice core flight s) := by
  refine State.Ends.lift hm h₀ ?_
  have h := State.Follows.refl 590452408300175622936 s
  unfold execHandoffSlice
  repeat' first
    | (with_reducible assumption)
    | (exact (rfl : Nat.lor _ _ = _))
    | (with_reducible refine State.takeSlice_follows ?_ ?_)
    | (with_reducible apply State.Ends.next)
    | split

theorem State.grmTouch_follows {μ : Nat} {s₀ : State} {s : State} {g st : Nat} (hm : Nat.lor 4503599627370512 μ = μ) (h₀ : s₀.Follows μ s) :
    s₀.Follows μ (State.grmTouch s g st) := by
  refine State.Follows.lift hm h₀ ?_
  have h := State.Follows.refl 4503599627370512 s
  unfold State.grmTouch
  repeat' first
    | (with_reducible assumption)
    | (exact (rfl : Nat.lor _ _ = _))
    | (with_reducible refine State.smpCount64_follows ?_ ?_)
    | dsimp only
    | ((with_reducible apply State.Follows.keep) <;> first | exact trivial | exact rfl | skip)

theorem State.rowCounts_follows {μ : Nat} {s₀ : State} {s : State} {i unit cycles : Nat} {nan dead : Bool} (hm : Nat.lor 153122387330597656 μ = μ) (h₀ : s₀.Follows μ s) :
    s₀.Follows μ (State.rowCounts s i unit cycles nan dead) := by
  refine State.Follows.lift hm h₀ ?_
  have h := State.Follows.refl 153122387330597656 s
  unfold State.rowCounts
  repeat' first
    | (with_reducible assumption)
    | (exact (rfl : Nat.lor _ _ = _))
    | (with_reducible refine State.logLimited_follows ?_ ?_)
    | (with_reducible refine State.smpCount_follows ?_ ?_)
    | (with_reducible refine State.smpCount64_follows ?_ ?_)
    | (with_reducible apply State.Follows.ite)

theorem State.fetchTentative_follows {μ : Nat} {s₀ : State} {s : State} {m q : Nat} (hm : Nat.lor 8 μ = μ) (h₀ : s₀.Follows μ s) :
    s₀.Follows μ (State.fetchTentative s m q) := by
  refine State.Follows.lift hm h₀ ?_
  have h := State.Follows.refl 8 s
  unfold State.fetchTentative
  repeat' first
    | (with_reducible assumption)
    | (exact (rfl : Nat.lor _ _ = _))
    | (with_reducible refine State.grmFetch_follows ?_ ?_)
    | (with_reducible apply State.Follows.ite)

theorem State.rowDone_follows {μ : Nat} {s₀ : State} {s : State} {i row : Nat} {r : StepRow} {slot m q : Nat} {allowed : Nat → Bool} {dead : Bool} (hm : Nat.lor 154265879423484700 μ = μ) (h₀ : s₀.Follows μ s) :
    s₀.Follows μ (State.rowDone s i row r slot m q allowed dead) := by
  refine State.Follows.lift hm h₀ ?_
  have h := State.Follows.refl 154265879423484700 s
  unfold State.rowDone
  repeat' first
    | (with_reducible assumption)
    | (exact (rfl : Nat.lor _ _ = _))
    | (with_reducible refine State.draw_follows ?_ ?_)
    | (with_reducible refine State.fetchTentative_follows ?_ ?_)
    | (with_reducible refine State.rowCounts_follows ?_ ?_)
    | (with_reducible refine State.updSeq_follows ?_ ?_)
    | (with_reducible apply State.Follows.ite)
    | split
    | ((with_reducible apply State.Follows.keep) <;> first | exact trivial | exact rfl | skip)

theorem execSampleRowComplete_follows {μ : Nat} {s₀ : State} {inst row : Nat} {s : State} (hm : Nat.lor 158848643888055068 μ = μ) (h₀ : s₀.Follows μ s) :
    s₀.Ends μ (execSampleRowComplete inst row s) := by
  refine State.Ends.lift hm h₀ ?_
  have h := State.Follows.refl 158848643888055068 s
  unfold execSampleRowComplete
  repeat' first
    | (with_reducible assumption)
    | (exact (rfl : Nat.lor _ _ = _))
    | (with_reducible refine State.grmFetch_follows ?_ ?_)
    | (with_reducible refine State.grmTouch_follows ?_ ?_)
    | (with_reducible refine State.logEvent_follows ?_ ?_)
    | (with_reducible refine State.rowDone_follows ?_ ?_)
    | (with_reducible refine State.stepCheck_follows ?_ ?_)
    | (with_reducible apply State.Ends.next)
    | (with_reducible apply State.Follows.ite)
    | split
    | dsimp only

end Sys2Proof.Machine
end

