-- ==== Sys2Proof/Laws/FollowsTile.lean ====
section
/-!
SUPPORT. The operations of Machine/Tile.lean keep the relation `State.Follows`. The number in a lemma is the mask of the
components that its operation may change.
-/
namespace Sys2Proof.Machine
open Sys2Proof

theorem State.swapTaken_follows {μ : Nat} {s₀ : State} {s : State} {n p : Nat} (hm : Nat.lor 590448932746046735128 μ = μ) (h₀ : s₀.Follows μ s) :
    s₀.Follows μ (State.swapTaken s n p) := by
  refine State.Follows.lift hm h₀ ?_
  have h := State.Follows.refl 590448932746046735128 s
  unfold State.swapTaken
  repeat' first
    | (with_reducible assumption)
    | (exact (rfl : Nat.lor _ _ = _))
    | (with_reducible refine State.retireWake_follows ?_ ?_)
    | (with_reducible refine State.updCore_follows ?_ ?_)
    | (with_reducible refine State.Follows.foldl _ ?_ ?_)
    | (intro _ _ _)

theorem State.swapArr_follows {μ : Nat} {s₀ : State} {s : State} {n a : Nat} (hm : Nat.lor 590448932746047030040 μ = μ) (h₀ : s₀.Follows μ s) :
    s₀.Follows μ (State.swapArr s n a) := by
  refine State.Follows.lift hm h₀ ?_
  have h := State.Follows.refl 590448932746047030040 s
  unfold State.swapArr
  repeat' first
    | (with_reducible assumption)
    | (exact (rfl : Nat.lor _ _ = _))
    | (with_reducible refine State.abandonCheck_follows ?_ ?_)
    | (with_reducible refine State.swapTaken_follows ?_ ?_)
    | (with_reducible refine State.updArr_follows ?_ ?_)
    | (with_reducible refine State.updCal_follows ?_ ?_)
    | (with_reducible apply State.Follows.ite)
    | (with_reducible refine State.Follows.foldl _ ?_ ?_)
    | (intro _ _ _)

theorem State.swapBoundary_follows {μ : Nat} {s₀ : State} {s : State} {n a : Nat} (hm : Nat.lor 590448932746047030040 μ = μ) (h₀ : s₀.Follows μ s) :
    s₀.Follows μ (State.swapBoundary s n a) := by
  refine State.Follows.lift hm h₀ ?_
  have h := State.Follows.refl 590448932746047030040 s
  unfold State.swapBoundary
  repeat' first
    | (with_reducible assumption)
    | (exact (rfl : Nat.lor _ _ = _))
    | (with_reducible refine State.arrCount_follows ?_ ?_)
    | (with_reducible refine State.swapArr_follows ?_ ?_)
    | (with_reducible apply State.Follows.ite)

theorem State.takeTemp_follows {μ : Nat} {s₀ : State} {s : State} {n : Nat} (hm : Nat.lor 262144 μ = μ) (h₀ : s₀.Follows μ s) :
    s₀.Follows μ (State.takeTemp s n) := by
  refine State.Follows.lift hm h₀ ?_
  have h := State.Follows.refl 262144 s
  unfold State.takeTemp
  repeat' first
    | (with_reducible assumption)
    | (exact (rfl : Nat.lor _ _ = _))
    | (with_reducible refine State.updCal_follows ?_ ?_)
    | (with_reducible apply State.Follows.ite)

theorem State.takeRatio_follows {μ : Nat} {s₀ : State} {s : State} {half : Nat} (hm : Nat.lor 2361183241434822606848 μ = μ) (h₀ : s₀.Follows μ s) :
    s₀.Follows μ (State.takeRatio s half) := by
  refine State.Follows.lift hm h₀ ?_
  have h := State.Follows.refl 2361183241434822606848 s
  unfold State.takeRatio
  repeat' first
    | (with_reducible assumption)
    | (with_reducible apply State.Follows.ite)
    | dsimp only
    | ((with_reducible apply State.Follows.keep) <;> first | exact trivial | exact rfl | skip)

theorem State.takePacing_follows {μ : Nat} {s₀ : State} {s : State} {n : Nat} (hm : Nat.lor 153122388404339480 μ = μ) (h₀ : s₀.Follows μ s) :
    s₀.Follows μ (State.takePacing s n) := by
  refine State.Follows.lift hm h₀ ?_
  have h := State.Follows.refl 153122388404339480 s
  unfold State.takePacing
  repeat' first
    | (with_reducible assumption)
    | (exact (rfl : Nat.lor _ _ = _))
    | (with_reducible refine State.logEvent_follows ?_ ?_)
    | (with_reducible apply State.Follows.ite)
    | split
    | ((with_reducible apply State.Follows.keep) <;> first | exact trivial | exact rfl | skip)

theorem execTileBoundary_follows {μ : Nat} {s₀ : State} {core pos : Nat} {s : State} (hm : Nat.lor 2951632174181943903000 μ = μ) (h₀ : s₀.Follows μ s) :
    s₀.Ends μ (execTileBoundary core pos s) := by
  refine State.Ends.lift hm h₀ ?_
  have h := State.Follows.refl 2951632174181943903000 s
  unfold execTileBoundary
  repeat' first
    | (with_reducible assumption)
    | (exact (rfl : Nat.lor _ _ = _))
    | (with_reducible refine State.calBoundary_follows ?_ ?_)
    | (with_reducible refine State.swapBoundary_follows ?_ ?_)
    | (with_reducible refine State.takePacing_follows ?_ ?_)
    | (with_reducible refine State.takeRatio_follows ?_ ?_)
    | (with_reducible refine State.takeTemp_follows ?_ ?_)
    | (with_reducible apply State.Ends.next)
    | (with_reducible apply State.Follows.ite)

theorem State.testRead_follows {μ : Nat} {s₀ : State} {s : State} {n a value : Nat} (hm : Nat.lor 153122387330630424 μ = μ) (h₀ : s₀.Follows μ s) :
    s₀.Follows μ (State.testRead s n a value) := by
  refine State.Follows.lift hm h₀ ?_
  have h := State.Follows.refl 153122387330630424 s
  unfold State.testRead
  repeat' first
    | (with_reducible assumption)
    | (exact (rfl : Nat.lor _ _ = _))
    | (with_reducible refine State.logEvent_follows ?_ ?_)
    | (with_reducible refine State.updArr_follows ?_ ?_)
    | (with_reducible apply State.Follows.ite)

theorem execArrayTestRead_follows {μ : Nat} {s₀ : State} {core pos value : Nat} {s : State} (hm : Nat.lor 153122387330630424 μ = μ) (h₀ : s₀.Follows μ s) :
    s₀.Ends μ (execArrayTestRead core pos value s) := by
  refine State.Ends.lift hm h₀ ?_
  have h := State.Follows.refl 153122387330630424 s
  unfold execArrayTestRead
  repeat' first
    | (with_reducible assumption)
    | (exact (rfl : Nat.lor _ _ = _))
    | (with_reducible refine State.testRead_follows ?_ ?_)
    | (with_reducible apply State.Ends.next)
    | (with_reducible apply State.Follows.ite)

theorem State.spmRefused_follows {μ : Nat} {s₀ : State} {s : State} {n : Nat} {port : Port} (hm : Nat.lor 153122387332694808 μ = μ) (h₀ : s₀.Follows μ s) :
    s₀.Follows μ (State.spmRefused s n port) := by
  refine State.Follows.lift hm h₀ ?_
  have h := State.Follows.refl 153122387332694808 s
  unfold State.spmRefused
  repeat' first
    | (with_reducible assumption)
    | (exact (rfl : Nat.lor _ _ = _))
    | (with_reducible refine State.logEvent_follows ?_ ?_)
    | (with_reducible refine State.updCore_follows ?_ ?_)

theorem State.spmAddr_follows {μ : Nat} {s₀ : State} {s : State} {n : Nat} {port : Port} {value : Nat} (hm : Nat.lor 153122387332694808 μ = μ) (h₀ : s₀.Follows μ s) :
    s₀.Follows μ (State.spmAddr s n port value) := by
  refine State.Follows.lift hm h₀ ?_
  have h := State.Follows.refl 153122387332694808 s
  unfold State.spmAddr
  repeat' first
    | (with_reducible assumption)
    | (exact (rfl : Nat.lor _ _ = _))
    | (with_reducible refine State.setReg64_follows ?_ ?_)
    | (with_reducible refine State.setRegN_follows ?_ ?_)
    | (with_reducible refine State.spmRefused_follows ?_ ?_)
    | (with_reducible refine State.updCore_follows ?_ ?_)
    | (with_reducible apply State.Follows.ite)

theorem execSpmAccAddrWrite_follows {μ : Nat} {s₀ : State} {core : Nat} {port : Port} {value : Nat} {s : State} (hm : Nat.lor 153122387332694808 μ = μ) (h₀ : s₀.Follows μ s) :
    s₀.Ends μ (execSpmAccAddrWrite core port value s) := by
  refine State.Ends.lift hm h₀ ?_
  have h := State.Follows.refl 153122387332694808 s
  unfold execSpmAccAddrWrite
  repeat' first
    | (with_reducible assumption)
    | (exact (rfl : Nat.lor _ _ = _))
    | (with_reducible refine State.spmAddr_follows ?_ ?_)
    | (with_reducible apply State.Ends.next)
    | (with_reducible apply State.Follows.ite)

theorem State.spmData_follows {μ : Nat} {s₀ : State} {s : State} {n : Nat} {port : Port} {value : Nat} (hm : Nat.lor 153122387332694872 μ = μ) (h₀ : s₀.Follows μ s) :
    s₀.Follows μ (State.spmData s n port value) := by
  refine State.Follows.lift hm h₀ ?_
  have h := State.Follows.refl 153122387332694872 s
  unfold State.spmData
  repeat' first
    | (with_reducible assumption)
    | (exact (rfl : Nat.lor _ _ = _))
    | (with_reducible refine State.setReg64_follows ?_ ?_)
    | (with_reducible refine State.spmRefused_follows ?_ ?_)
    | (with_reducible refine State.updCore_follows ?_ ?_)
    | (with_reducible apply State.Follows.ite)
    | ((with_reducible apply State.Follows.keep) <;> first | exact trivial | exact rfl | skip)

theorem execSpmAccDataHiWrite_follows {μ : Nat} {s₀ : State} {core : Nat} {port : Port} {value : Nat} {s : State} (hm : Nat.lor 153122387332694872 μ = μ) (h₀ : s₀.Follows μ s) :
    s₀.Ends μ (execSpmAccDataHiWrite core port value s) := by
  refine State.Ends.lift hm h₀ ?_
  have h := State.Follows.refl 153122387332694872 s
  unfold execSpmAccDataHiWrite
  repeat' first
    | (with_reducible assumption)
    | (exact (rfl : Nat.lor _ _ = _))
    | (with_reducible refine State.spmData_follows ?_ ?_)
    | (with_reducible apply State.Ends.next)
    | (with_reducible apply State.Follows.ite)

theorem State.fatalWrite_follows {μ : Nat} {s₀ s : State} {value : Nat} (hm : Nat.lor 272 μ = μ) (h₀ : s₀.Follows μ s) : s₀.Follows μ (s.fatalWrite value) := by
  refine State.Follows.lift hm h₀ ?_
  have h := State.Follows.refl 272 s
  unfold State.fatalWrite
  split
  · exact State.keepRegs_follows rfl
      (State.log_follows (l := { s.log with fatal := [] }) rfl h (fun k => ⟨k.1, Nat.zero_le _, k.2.2⟩))
  · exact h

theorem execFatalCountWrite_follows {μ : Nat} {s₀ : State} {port : Port} {value : Nat} {s : State} (hm : Nat.lor 272 μ = μ) (h₀ : s₀.Follows μ s) :
    s₀.Ends μ (execFatalCountWrite port value s) := by
  refine State.Ends.lift hm h₀ ?_
  have h := State.Follows.refl 272 s
  unfold execFatalCountWrite
  repeat' first
    | (with_reducible assumption)
    | (exact (rfl : Nat.lor _ _ = _))
    | (with_reducible refine State.fatalWrite_follows ?_ ?_)
    | (with_reducible apply State.Ends.next)

end Sys2Proof.Machine
end

