-- ==== Sys2Proof/Laws/FollowsRegRead.lean ====
section
/-!
SUPPORT. The operations of Machine/RegRead.lean keep the relation `State.Follows`. The number in a lemma is the mask of the
components that its operation may change.
-/
namespace Sys2Proof.Machine
open Sys2Proof

theorem State.readReg_follows {μ : Nat} {s₀ : State} {s : State} {port : Port} {off : Nat} (hm : Nat.lor 36 μ = μ) (h₀ : s₀.Follows μ s) :
    s₀.Follows μ (State.readReg s port off).1 := by
  refine State.Follows.lift hm h₀ ?_
  have h := State.Follows.refl 36 s
  unfold State.readReg
  repeat' first
    | (with_reducible assumption)
    | (exact (rfl : Nat.lor _ _ = _))
    | (with_reducible refine State.draw_follows ?_ ?_)
    | (with_reducible apply State.Follows.ite)
    | split
    | dsimp only
    | ((with_reducible apply State.Follows.keep) <;> first | exact trivial | exact rfl | skip)

end Sys2Proof.Machine
end

