-- ==== Sys2Proof/Laws/FollowsSeal.lean ====
section
/-!
SUPPORT. The operations of Machine/Seal.lean keep the relation `State.Follows`. The number in a lemma is the mask of the
components that its operation may change.
-/
namespace Sys2Proof.Machine
open Sys2Proof

theorem State.releaseCore_follows {μ : Nat} {s₀ : State} {s : State} {n : Nat} (hm : Nat.lor 295319041965211812632 μ = μ) (h₀ : s₀.Follows μ s) :
    s₀.Follows μ (State.releaseCore s n) := by
  refine State.Follows.lift hm h₀ ?_
  have h := State.Follows.refl 295319041965211812632 s
  unfold State.releaseCore
  repeat' first
    | (with_reducible assumption)
    | (exact (rfl : Nat.lor _ _ = _))
    | (with_reducible refine State.dropStrikes_follows ?_ ?_)
    | (with_reducible refine State.endTest_follows ?_ ?_)
    | (with_reducible refine State.updCore_follows ?_ ?_)
    | (with_reducible refine State.updTest_follows ?_ ?_)
    | split
    | ((with_reducible apply State.Follows.keep) <;> first | exact trivial | exact rfl | skip)

theorem State.releasePlan_follows {μ : Nat} {s₀ : State} {s : State} {i : Nat} (hm : Nat.lor 171137883204223768 μ = μ) (h₀ : s₀.Follows μ s) :
    s₀.Follows μ (State.releasePlan s i) := by
  refine State.Follows.lift hm h₀ ?_
  have h := State.Follows.refl 171137883204223768 s
  unfold State.releasePlan
  repeat' first
    | (with_reducible assumption)
    | (exact (rfl : Nat.lor _ _ = _))
    | (with_reducible refine State.pfxSealed_follows ?_ ?_)
    | (with_reducible refine State.setRegN_follows ?_ ?_)
    | split
    | dsimp only
    | ((with_reducible apply State.Follows.keep) <;> first | exact trivial | exact rfl | skip)

theorem State.placeCore_follows {μ : Nat} {s₀ : State} {s : State} {n i : Nat} (hm : Nat.lor 2097152 μ = μ) (h₀ : s₀.Follows μ s) :
    s₀.Follows μ (State.placeCore s n i) := by
  refine State.Follows.lift hm h₀ ?_
  have h := State.Follows.refl 2097152 s
  unfold State.placeCore
  repeat' first
    | (with_reducible assumption)
    | (exact (rfl : Nat.lor _ _ = _))
    | (with_reducible refine State.updCore_follows ?_ ?_)

theorem State.grantPlan_follows {μ : Nat} {s₀ : State} {s : State} {i : Nat} {m : MemPlan} (hm : Nat.lor 2147483648 μ = μ) (h₀ : s₀.Follows μ s) :
    s₀.Follows μ (State.grantPlan s i m) := by
  refine State.Follows.lift hm h₀ ?_
  have h := State.Follows.refl 2147483648 s
  unfold State.grantPlan
  repeat' first
    | (with_reducible assumption)
    | (exact (rfl : Nat.lor _ _ = _))
    | (with_reducible refine State.updPed_follows ?_ ?_)
    | (with_reducible refine State.Follows.foldl _ ?_ ?_)
    | (intro _ _ _)

theorem State.pairCores_follows {μ : Nat} {s₀ : State} {s : State} {i : Nat} {red : Bool} (hm : Nat.lor 153122387332694808 μ = μ) (h₀ : s₀.Follows μ s) :
    s₀.Follows μ (State.pairCores s i red) := by
  refine State.Follows.lift hm h₀ ?_
  have h := State.Follows.refl 153122387332694808 s
  unfold State.pairCores
  repeat' first
    | (with_reducible assumption)
    | (exact (rfl : Nat.lor _ _ = _))
    | (with_reducible refine State.logEvent_follows ?_ ?_)
    | (with_reducible refine State.updCore_follows ?_ ?_)
    | (with_reducible apply State.Follows.ite)
    | (with_reducible refine State.Follows.foldl _ ?_ ?_)
    | (intro _ _ _)

theorem State.restartInst_follows {μ : Nat} {s₀ : State} {s : State} {i : Nat} {cores : List Nat} (hm : Nat.lor 8796095152128 μ = μ) (h₀ : s₀.Follows μ s) :
    s₀.Follows μ (State.restartInst s i cores) := by
  refine State.Follows.lift hm h₀ ?_
  have h := State.Follows.refl 8796095152128 s
  unfold State.restartInst
  repeat' first
    | (with_reducible assumption)
    | (exact (rfl : Nat.lor _ _ = _))
    | (with_reducible refine State.dropStrikes_follows ?_ ?_)
    | (with_reducible refine State.startThreads_follows ?_ ?_)
    | (with_reducible refine State.updInst_follows ?_ ?_)
    | (with_reducible apply State.Follows.ite)
    | (with_reducible refine State.Follows.foldl _ ?_ ?_)
    | (intro _ _ _)

theorem State.affectInst_follows {μ : Nat} {s₀ : State} {s : State} {i : Nat} {kept : List Nat} (hm : Nat.lor 4782833799386071832 μ = μ) (h₀ : s₀.Follows μ s) :
    s₀.Follows μ (State.affectInst s i kept) := by
  refine State.Follows.lift hm h₀ ?_
  have h := State.Follows.refl 4782833799386071832 s
  unfold State.affectInst
  repeat' first
    | (with_reducible assumption)
    | (exact (rfl : Nat.lor _ _ = _))
    | (with_reducible refine State.cancelUnify_follows ?_ ?_)
    | (with_reducible refine State.fmtSealed_follows ?_ ?_)
    | (with_reducible refine State.pairCores_follows ?_ ?_)
    | (with_reducible refine State.replicaSealed_follows ?_ ?_)
    | (with_reducible refine State.restartInst_follows ?_ ?_)
    | (with_reducible refine State.updArr_follows ?_ ?_)
    | (with_reducible refine State.updCore_follows ?_ ?_)
    | (with_reducible refine State.updInst_follows ?_ ?_)
    | (with_reducible refine State.updWInst_follows ?_ ?_)
    | (with_reducible apply State.Follows.ite)
    | (with_reducible refine State.Follows.foldl _ ?_ ?_)
    | (intro _ _ _)

theorem State.sealHard_follows {μ : Nat} {s₀ : State} {s : State} {aff : List Nat} {o n : Map (Option SealedInst)} (hm : Nat.lor 299933085335495611160 μ = μ) (h₀ : s₀.Follows μ s) :
    s₀.Follows μ (State.sealHard s aff o n) := by
  refine State.Follows.lift hm h₀ ?_
  have h := State.Follows.refl 299933085335495611160 s
  unfold State.sealHard
  repeat' first
    | (with_reducible assumption)
    | (exact (rfl : Nat.lor _ _ = _))
    | (with_reducible refine State.fmtSealed_follows ?_ ?_)
    | (with_reducible refine State.freeSeq_follows ?_ ?_)
    | (with_reducible refine State.grantPlan_follows ?_ ?_)
    | (with_reducible refine State.placeCore_follows ?_ ?_)
    | (with_reducible refine State.releaseCore_follows ?_ ?_)
    | (with_reducible refine State.releasePlan_follows ?_ ?_)
    | (with_reducible refine State.weightsDropped_follows ?_ ?_)
    | (with_reducible apply State.Follows.ite)
    | (with_reducible refine State.Follows.foldl _ ?_ ?_)
    | split
    | (intro _ _ _)
    | dsimp only
    | ((with_reducible apply State.Follows.keep) <;> first | exact trivial | exact rfl | skip)

theorem State.sealDevice_follows {μ : Nat} {s₀ : State} {s : State} {st : StagedImage} (hm : Nat.lor 4188356449581142808 μ = μ) (h₀ : s₀.Follows μ s) :
    s₀.Follows μ (State.sealDevice s st) := by
  refine State.Follows.lift hm h₀ ?_
  have h := State.Follows.refl 4188356449581142808 s
  unfold State.sealDevice
  repeat' first
    | (with_reducible assumption)
    | (exact (rfl : Nat.lor _ _ = _))
    | (with_reducible refine State.portSealed_follows ?_ ?_)
    | (with_reducible apply State.Follows.ite)
    | (with_reducible refine State.Follows.foldl _ ?_ ?_)
    | (intro _ _ _)
    | dsimp only
    | ((with_reducible apply State.Follows.keep) <;> first | exact trivial | exact rfl | skip)

theorem State.sealRecord_follows {μ : Nat} {s₀ : State} {s : State} {st : StagedImage} (hm : Nat.lor 75557863725914323431552 μ = μ) (h₀ : s₀.Follows μ s) :
    s₀.Follows μ (State.sealRecord s st) := by
  refine State.Follows.lift hm h₀ ?_
  have h := State.Follows.refl 75557863725914323431552 s
  unfold State.sealRecord
  repeat' first
    | (with_reducible assumption)
    | (exact (rfl : Nat.lor _ _ = _))
    | (with_reducible refine State.storeWrite_follows ?_ ?_)
    | (with_reducible apply State.Follows.ite)
    | split
    | dsimp only
    | ((with_reducible apply State.Follows.keep) <;> first | exact trivial | exact rfl | skip)

theorem State.sealRoutes_follows {μ : Nat} {s₀ : State} {s : State} {aff : List Nat} (hm : Nat.lor 1306043891937444632 μ = μ) (h₀ : s₀.Follows μ s) :
    s₀.Follows μ (State.sealRoutes s aff) := by
  refine State.Follows.lift hm h₀ ?_
  have h := State.Follows.refl 1306043891937444632 s
  unfold State.sealRoutes
  repeat' first
    | (with_reducible assumption)
    | (exact (rfl : Nat.lor _ _ = _))
    | (with_reducible refine State.checkRoutes_follows ?_ ?_)
    | (with_reducible apply State.Follows.ite)
    | (with_reducible refine State.Follows.foldl _ ?_ ?_)
    | (intro _ _ _)

theorem State.sealEnd_follows {μ : Nat} {s₀ : State} {s : State} {aff : List Nat} {st : StagedImage} (hm : Nat.lor 1324065987061893912 μ = μ) (h₀ : s₀.Follows μ s) :
    s₀.Follows μ (State.sealEnd s aff st) := by
  refine State.Follows.lift hm h₀ ?_
  have h := State.Follows.refl 1324065987061893912 s
  unfold State.sealEnd
  repeat' first
    | (with_reducible assumption)
    | (exact (rfl : Nat.lor _ _ = _))
    | (with_reducible refine State.armIdle_follows ?_ ?_)
    | (with_reducible refine State.autoLoad_follows ?_ ?_)
    | (with_reducible refine State.finish_follows ?_ ?_)
    | (with_reducible refine State.logEvent_follows ?_ ?_)
    | (with_reducible refine State.sendPlan_follows ?_ ?_)
    | (with_reducible apply State.Follows.ite)
    | (with_reducible refine State.Follows.foldl _ ?_ ?_)
    | (intro _ _ _)
    | dsimp only
    | ((with_reducible apply State.Follows.keep) <;> first | exact trivial | exact rfl | skip)

theorem execSealApplyComplete_follows {μ : Nat} {s₀ : State} {s : State} (hm : Nat.lor 75861832036515976575896 μ = μ) (h₀ : s₀.Follows μ s) :
    s₀.Ends μ (execSealApplyComplete s) := by
  refine State.Ends.lift hm h₀ ?_
  have h := State.Follows.refl 75861832036515976575896 s
  unfold execSealApplyComplete
  repeat' first
    | (with_reducible assumption)
    | (exact (rfl : Nat.lor _ _ = _))
    | (with_reducible refine State.affectInst_follows ?_ ?_)
    | (with_reducible refine State.sealDevice_follows ?_ ?_)
    | (with_reducible refine State.sealEnd_follows ?_ ?_)
    | (with_reducible refine State.sealHard_follows ?_ ?_)
    | (with_reducible refine State.sealRecord_follows ?_ ?_)
    | (with_reducible refine State.sealRoutes_follows ?_ ?_)
    | (with_reducible apply State.Ends.next)
    | (with_reducible apply State.Ends.ite)
    | (with_reducible apply State.Follows.ite)
    | (with_reducible refine State.Follows.foldl _ ?_ ?_)
    | (intro _ _ _)
    | dsimp only
    | ((with_reducible apply State.Follows.keep) <;> first | exact trivial | exact rfl | skip)

end Sys2Proof.Machine
end

