-- ==== Sys2Proof/Laws/FollowsHostOps.lean ====
section
/-!
SUPPORT. The operations of Machine/HostOps.lean keep the relation `State.Follows`. The number in a lemma is the mask of the
components that its operation may change.
-/
namespace Sys2Proof.Machine
open Sys2Proof

/-- An update of the command ring that keeps its bound. -/
theorem State.cmd_follows {μ : Nat} {s₀ s : State} {c : CmdRing} (hm : Nat.lor 18014398509481984 μ = μ) (h₀ : s₀.Follows μ s)
    (k : s.RingOk → c.inProgress.length ≤ 64 ∧ (c.reading = true → c.inProgress.length < 64)) : s₀.Follows μ { s with cmd := c } := by
  refine State.Follows.lift hm h₀ ?_
  have h := State.Follows.refl 18014398509481984 s
  exact ⟨h.pending, h.out, h.draws, h.part, h.log, fun x => k (h.ring x), h.regs, rfl⟩

theorem State.cmdFetch_follows {μ : Nat} {s₀ s : State} (hm : Nat.lor 18014398509481992 μ = μ) (h₀ : s₀.Follows μ s) : s₀.Follows μ s.cmdFetch := by
  refine State.Follows.lift hm h₀ ?_
  have h := State.Follows.refl 18014398509481992 s
  unfold State.cmdFetch
  dsimp only
  split
  · exact h
  · rename_i hc
    simp only [Bool.or_eq_true, decide_eq_true_eq, not_or, Nat.not_le] at hc
    exact State.emit_follows rfl (State.cmd_follows rfl h (fun k => ⟨k.1, fun _ => hc.2⟩))

theorem State.cmdDisable_follows {μ : Nat} {s₀ s : State} (hm : Nat.lor 18014398509482000 μ = μ) (h₀ : s₀.Follows μ s) : s₀.Follows μ s.cmdDisable := by
  refine State.Follows.lift hm h₀ ?_
  have h := State.Follows.refl 18014398509482000 s
  unfold State.cmdDisable
  refine State.setRegN_follows rfl (State.cmd_follows rfl h (fun k => ⟨?_, fun x => by cases x⟩))
  rw [List.length_map]
  exact k.1

theorem State.cmdCfg_follows {μ : Nat} {s₀ s : State} {port : Port} {value : Nat} (hm : Nat.lor 171136785840079640 μ = μ) (h₀ : s₀.Follows μ s) :
    s₀.Follows μ (s.cmdCfg port value) := by
  refine State.Follows.lift hm h₀ ?_
  have h := State.Follows.refl 171136785840079640 s
  unfold State.cmdCfg
  dsimp only
  split
  · split
    · exact h
    · exact State.setRegN_follows rfl (State.cmdDisable_follows rfl h)
  · split
    · exact State.setRegN_follows rfl h
    · split
      · exact State.ringInvalid_follows rfl (State.setRegN_follows rfl h)
      · refine State.cmd_follows rfl (State.setRegN_follows rfl (State.setRegN_follows rfl (State.setRegN_follows rfl h))) ?_
        exact fun k => ⟨k.1, fun x => by cases x⟩

theorem State.cmdTail_follows {μ : Nat} {s₀ : State} {s : State} {port : Port} {value : Nat} (hm : Nat.lor 171136785840079640 μ = μ) (h₀ : s₀.Follows μ s) :
    s₀.Follows μ (State.cmdTail s port value) := by
  refine State.Follows.lift hm h₀ ?_
  have h := State.Follows.refl 171136785840079640 s
  unfold State.cmdTail
  repeat' first
    | (with_reducible assumption)
    | (exact (rfl : Nat.lor _ _ = _))
    | (with_reducible refine State.cmdFetch_follows ?_ ?_)
    | (with_reducible refine State.ringInvalid_follows ?_ ?_)
    | (with_reducible refine State.setRegN_follows ?_ ?_)
    | (with_reducible apply State.Follows.ite)

theorem State.evrLost_follows {μ : Nat} {s₀ s : State} (hm : Nat.lor 36028797018964224 μ = μ) (h₀ : s₀.Follows μ s) : s₀.Follows μ s.evrLost := by
  refine State.Follows.lift hm h₀ ?_
  have h := State.Follows.refl 36028797018964224 s
  unfold State.evrLost
  refine ⟨h.pending, h.out, h.draws, h.part, fun x => ?_, h.ring, h.regs, rfl⟩
  refine ⟨?_, (h.log x).2.1, (h.log x).2.2⟩
  dsimp only
  rw [List.length_map, List.length_zipIdx]
  exact (h.log x).1

theorem State.evrDisable_follows {μ : Nat} {s₀ : State} {s : State} (hm : Nat.lor 36028797018964240 μ = μ) (h₀ : s₀.Follows μ s) :
    s₀.Follows μ (State.evrDisable s) := by
  refine State.Follows.lift hm h₀ ?_
  have h := State.Follows.refl 36028797018964240 s
  unfold State.evrDisable
  repeat' first
    | (with_reducible assumption)
    | (exact (rfl : Nat.lor _ _ = _))
    | (with_reducible refine State.evrLost_follows ?_ ?_)
    | (with_reducible refine State.setRegN_follows ?_ ?_)

theorem State.evrCfg_follows {μ : Nat} {s₀ : State} {s : State} {port : Port} {value : Nat} (hm : Nat.lor 189151184349561624 μ = μ) (h₀ : s₀.Follows μ s) :
    s₀.Follows μ (State.evrCfg s port value) := by
  refine State.Follows.lift hm h₀ ?_
  have h := State.Follows.refl 189151184349561624 s
  unfold State.evrCfg
  repeat' first
    | (with_reducible assumption)
    | (exact (rfl : Nat.lor _ _ = _))
    | (with_reducible refine State.evrDisable_follows ?_ ?_)
    | (with_reducible refine State.ringInvalid_follows ?_ ?_)
    | (with_reducible refine State.setRegN_follows ?_ ?_)
    | (with_reducible apply State.Follows.ite)

theorem State.evrHead_follows {μ : Nat} {s₀ : State} {s : State} {value : Nat} (hm : Nat.lor 16 μ = μ) (h₀ : s₀.Follows μ s) :
    s₀.Follows μ (State.evrHead s value) := by
  refine State.Follows.lift hm h₀ ?_
  have h := State.Follows.refl 16 s
  unfold State.evrHead
  repeat' first
    | (with_reducible assumption)
    | (exact (rfl : Nat.lor _ _ = _))
    | (with_reducible refine State.setRegN_follows ?_ ?_)

theorem State.cmdReadFailed_follows {μ : Nat} {s₀ s : State} (hm : Nat.lor 171136785840079640 μ = μ) (h₀ : s₀.Follows μ s) : s₀.Follows μ s.cmdReadFailed := by
  refine State.Follows.lift hm h₀ ?_
  have h := State.Follows.refl 171136785840079640 s
  unfold State.cmdReadFailed
  split
  · exact h
  · exact State.logEvent_follows rfl (State.cmd_follows rfl (State.cmdDisable_follows rfl h) id)

theorem State.readbackFailed_follows {μ : Nat} {s₀ : State} {s : State} {r : Nat} (hm : Nat.lor 70368744177664 μ = μ) (h₀ : s₀.Follows μ s) :
    s₀.Follows μ (State.readbackFailed s r) := by
  refine State.Follows.lift hm h₀ ?_
  have h := State.Follows.refl 70368744177664 s
  unfold State.readbackFailed
  repeat' first
    | (with_reducible assumption)
    | (exact (rfl : Nat.lor _ _ = _))
    | (with_reducible refine State.updRec_follows ?_ ?_)

theorem State.readFailed_follows {μ : Nat} {s₀ s : State} {u : ReadUnit} (hm : Nat.lor 214201480171752216 μ = μ) (h₀ : s₀.Follows μ s) : s₀.Follows μ (s.readFailed u) := by
  refine State.Follows.lift hm h₀ ?_
  have h := State.Follows.refl 214201480171752216 s
  cases u
  · exact State.armFetchFail_follows rfl h
  · exact nextOr_follows h (execBindFetchComplete_follows rfl h)
  · exact nextOr_follows h (execTileRecordFetched_follows rfl h)
  · exact State.pfxFetchFailed_follows rfl h
  · exact nextOr_follows h (execGrammarLoadComplete_follows rfl h)
  · exact State.grmReadFailed_follows rfl h
  · exact nextOr_follows h (execRequestDescriptor_follows rfl h)
  · exact nextOr_follows h (execListFetchComplete_follows rfl h)
  · exact nextOr_follows h (execPromptChunkFetch_follows rfl h)
  · exact State.cmdReadFailed_follows rfl h
  · exact State.farFailed_follows rfl h
  · exact State.readbackFailed_follows rfl h
  · exact State.evrLost_follows rfl h

theorem State.otherPort_follows {μ : Nat} {s₀ : State} {s : State} {p : Nat} (hm : Nat.lor 9007199254741512 μ = μ) (h₀ : s₀.Follows μ s) :
    s₀.Follows μ (State.otherPort s p) := by
  refine State.Follows.lift hm h₀ ?_
  have h := State.Follows.refl 9007199254741512 s
  unfold State.otherPort
  repeat' first
    | (with_reducible assumption)
    | (exact (rfl : Nat.lor _ _ = _))
    | (with_reducible refine State.irqEvents_follows ?_ ?_)
    | (with_reducible apply State.Follows.ite)

theorem State.ringsResume_follows {μ : Nat} {s₀ : State} {s : State} (hm : Nat.lor 18049582881570824 μ = μ) (h₀ : s₀.Follows μ s) :
    s₀.Follows μ (State.ringsResume s) := by
  refine State.Follows.lift hm h₀ ?_
  have h := State.Follows.refl 18049582881570824 s
  unfold State.ringsResume
  repeat' first
    | (with_reducible assumption)
    | (exact (rfl : Nat.lor _ _ = _))
    | (with_reducible refine State.cmdFetch_follows ?_ ?_)
    | (with_reducible refine State.sqFetch_follows ?_ ?_)
    | (with_reducible refine State.Follows.foldl _ ?_ ?_)
    | (intro _ _ _)

theorem State.portDown_follows {μ : Nat} {s₀ : State} {s : State} {p cause : Nat} (hm : Nat.lor 214201480171752216 μ = μ) (h₀ : s₀.Follows μ s) :
    s₀.Follows μ (State.portDown s p cause) := by
  refine State.Follows.lift hm h₀ ?_
  have h := State.Follows.refl 214201480171752216 s
  unfold State.portDown
  repeat' first
    | (with_reducible assumption)
    | (exact (rfl : Nat.lor _ _ = _))
    | (with_reducible refine State.armLinkLost_follows ?_ ?_)
    | (with_reducible refine State.count_follows ?_ ?_)
    | (with_reducible refine State.grmLinkLost_follows ?_ ?_)
    | (with_reducible refine State.logEvent_follows ?_ ?_)
    | (with_reducible refine State.mgmtCause_follows ?_ ?_)
    | (with_reducible refine State.otherPort_follows ?_ ?_)
    | (with_reducible refine State.pfxLinkLost_follows ?_ ?_)
    | (with_reducible refine State.readFailed_follows ?_ ?_)
    | (with_reducible refine State.setBits_follows ?_ ?_)
    | (with_reducible apply State.Follows.ite)
    | (with_reducible refine State.Follows.foldl _ ?_ ?_)
    | (intro _ _ _)
    | ((with_reducible apply State.Follows.keep) <;> first | exact trivial | exact rfl | skip)

theorem State.portUp_follows {μ : Nat} {s₀ : State} {s : State} {p speed width : Nat} {msix mask master : Bool} (hm : Nat.lor 171171970212168472 μ = μ) (h₀ : s₀.Follows μ s) :
    s₀.Follows μ (State.portUp s p speed width msix mask master) := by
  refine State.Follows.lift hm h₀ ?_
  have h := State.Follows.refl 171171970212168472 s
  unfold State.portUp
  repeat' first
    | (with_reducible assumption)
    | (exact (rfl : Nat.lor _ _ = _))
    | (with_reducible refine State.logEvent_follows ?_ ?_)
    | (with_reducible refine State.mgmtCause_follows ?_ ?_)
    | (with_reducible refine State.otherPort_follows ?_ ?_)
    | (with_reducible refine State.ringsResume_follows ?_ ?_)
    | (with_reducible refine State.setBits_follows ?_ ?_)
    | (with_reducible apply State.Follows.ite)
    | ((with_reducible apply State.Follows.keep) <;> first | exact trivial | exact rfl | skip)

theorem State.portEvict_follows {μ : Nat} {s₀ : State} {s : State} {i q : Nat} (hm : Nat.lor 17660905521168 μ = μ) (h₀ : s₀.Follows μ s) :
    s₀.Follows μ (State.portEvict s i q) := by
  refine State.Follows.lift hm h₀ ?_
  have h := State.Follows.refl 17660905521168 s
  unfold State.portEvict
  repeat' first
    | (with_reducible assumption)
    | (exact (rfl : Nat.lor _ _ = _))
    | (with_reducible refine State.count_follows ?_ ?_)
    | (with_reducible refine State.retireSoon_follows ?_ ?_)

theorem State.farPortReset_follows {μ : Nat} {s₀ : State} {s : State} {i : Nat} (hm : Nat.lor 288254634126999568 μ = μ) (h₀ : s₀.Follows μ s) :
    s₀.Follows μ (State.farPortReset s i) := by
  refine State.Follows.lift hm h₀ ?_
  have h := State.Follows.refl 288254634126999568 s
  unfold State.farPortReset
  repeat' first
    | (with_reducible assumption)
    | (exact (rfl : Nat.lor _ _ = _))
    | (with_reducible refine State.portEvict_follows ?_ ?_)
    | (with_reducible refine State.queueReload_follows ?_ ?_)
    | (with_reducible refine State.settleFar_follows ?_ ?_)
    | (with_reducible refine State.updWInst_follows ?_ ?_)
    | (with_reducible apply State.Follows.ite)
    | (with_reducible refine State.Follows.foldl _ ?_ ?_)
    | (intro _ _ _)
    | ((with_reducible apply State.Follows.keep) <;> first | exact trivial | exact rfl | skip)

theorem State.grmPortReset_follows {μ : Nat} {s₀ : State} {s : State} {g : Nat} (hm : Nat.lor 159895447677174552 μ = μ) (h₀ : s₀.Follows μ s) :
    s₀.Follows μ (State.grmPortReset s g) := by
  refine State.Follows.lift hm h₀ ?_
  have h := State.Follows.refl 159895447677174552 s
  unfold State.grmPortReset
  repeat' first
    | (with_reducible assumption)
    | (exact (rfl : Nat.lor _ _ = _))
    | (with_reducible refine State.grmUnloaded_follows ?_ ?_)
    | (with_reducible refine State.portEvict_follows ?_ ?_)
    | (with_reducible refine State.updGrm_follows ?_ ?_)
    | (with_reducible apply State.Follows.ite)
    | (with_reducible refine State.Follows.foldl _ ?_ ?_)
    | (intro _ _ _)

theorem State.holdersReset_follows {μ : Nat} {s₀ : State} {s : State} {p : Nat} (hm : Nat.lor 502282269054993176 μ = μ) (h₀ : s₀.Follows μ s) :
    s₀.Follows μ (State.holdersReset s p) := by
  refine State.Follows.lift hm h₀ ?_
  have h := State.Follows.refl 502282269054993176 s
  unfold State.holdersReset
  repeat' first
    | (with_reducible assumption)
    | (exact (rfl : Nat.lor _ _ = _))
    | (with_reducible refine State.cmdDisable_follows ?_ ?_)
    | (with_reducible refine State.evrDisable_follows ?_ ?_)
    | (with_reducible refine State.farPortReset_follows ?_ ?_)
    | (with_reducible refine State.grmPortReset_follows ?_ ?_)
    | (with_reducible refine State.rqDisable_follows ?_ ?_)
    | (with_reducible refine State.sqDisable_follows ?_ ?_)
    | (with_reducible refine State.updWSlot_follows ?_ ?_)
    | (with_reducible apply State.Follows.ite)
    | (with_reducible refine State.Follows.foldl _ ?_ ?_)
    | (intro _ _ _)

theorem State.portClear_follows {μ : Nat} {s₀ s : State} {p : Nat} (hm : Nat.lor 9007199254741104 μ = μ) (h₀ : s₀.Follows μ s) : s₀.Follows μ (s.portClear p) := by
  refine State.Follows.lift hm h₀ ?_
  have h := State.Follows.refl 9007199254741104 s
  unfold State.portClear
  exact ⟨h.pending, h.out, h.draws, h.part, h.log, h.ring, fun k => Map.wf_keep _ (h.regs k), rfl⟩

theorem State.portGiveUp_follows {μ : Nat} {s₀ : State} {s : State} {p : Nat} (hm : Nat.lor 214201480171752216 μ = μ) (h₀ : s₀.Follows μ s) :
    s₀.Follows μ (State.portGiveUp s p) := by
  refine State.Follows.lift hm h₀ ?_
  have h := State.Follows.refl 214201480171752216 s
  unfold State.portGiveUp
  repeat' first
    | (with_reducible assumption)
    | (exact (rfl : Nat.lor _ _ = _))
    | (with_reducible refine State.armLinkLost_follows ?_ ?_)
    | (with_reducible refine State.grmLinkLost_follows ?_ ?_)
    | (with_reducible refine State.pfxLinkLost_follows ?_ ?_)
    | (with_reducible refine State.readFailed_follows ?_ ?_)
    | (with_reducible refine State.Follows.foldl _ ?_ ?_)
    | (intro _ _ _)

theorem State.portReset_follows {μ : Nat} {s₀ : State} {s : State} {p : Nat} {down : Bool} (hm : Nat.lor 75558366157770646883192 μ = μ) (h₀ : s₀.Follows μ s) :
    s₀.Follows μ (State.portReset s p down) := by
  refine State.Follows.lift hm h₀ ?_
  have h := State.Follows.refl 75558366157770646883192 s
  unfold State.portReset
  repeat' first
    | (with_reducible assumption)
    | (exact (rfl : Nat.lor _ _ = _))
    | (with_reducible refine State.count_follows ?_ ?_)
    | (with_reducible refine State.dropSessions_follows ?_ ?_)
    | (with_reducible refine State.holdersReset_follows ?_ ?_)
    | (with_reducible refine State.otherPort_follows ?_ ?_)
    | (with_reducible refine State.portClear_follows ?_ ?_)
    | (with_reducible refine State.portDown_follows ?_ ?_)
    | (with_reducible refine State.portGiveUp_follows ?_ ?_)
    | (with_reducible apply State.Follows.ite)

theorem State.abortTests_follows {μ : Nat} {s₀ : State} {s : State} (hm : Nat.lor 295319041965192905496 μ = μ) (h₀ : s₀.Follows μ s) :
    s₀.Follows μ (State.abortTests s) := by
  refine State.Follows.lift hm h₀ ?_
  have h := State.Follows.refl 295319041965192905496 s
  unfold State.abortTests
  repeat' first
    | (with_reducible assumption)
    | (exact (rfl : Nat.lor _ _ = _))
    | (with_reducible refine State.endTest_follows ?_ ?_)
    | (with_reducible apply State.Follows.ite)
    | (with_reducible refine State.Follows.foldl _ ?_ ?_)
    | (intro _ _ _)

theorem State.abandonTurns_follows {μ : Nat} {s₀ : State} {s : State} (hm : Nat.lor 153122387330892568 μ = μ) (h₀ : s₀.Follows μ s) :
    s₀.Follows μ (State.abandonTurns s) := by
  refine State.Follows.lift hm h₀ ?_
  have h := State.Follows.refl 153122387330892568 s
  unfold State.abandonTurns
  repeat' first
    | (with_reducible assumption)
    | (exact (rfl : Nat.lor _ _ = _))
    | (with_reducible refine State.abandonTurn_follows ?_ ?_)
    | (with_reducible refine State.endStand_follows ?_ ?_)
    | (with_reducible apply State.Follows.ite)
    | (with_reducible refine State.Follows.foldl _ ?_ ?_)
    | (intro _ _ _)

theorem State.resetAll_follows {μ : Nat} {s₀ s : State} {port : Nat} (hm : Nat.lor 566517957247693234363376 μ = μ) (h₀ : s₀.Follows μ s) : s₀.Follows μ (s.resetAll port) := by
  refine State.Follows.lift hm h₀ ?_
  have h := State.Follows.refl 566517957247693234363376 s
  unfold State.resetAll
  exact ⟨h.pending, h.out, h.draws, h.part, h.log, fun _ => ⟨Nat.zero_le _, fun _ => Nat.zero_lt_succ 63⟩,
    fun k => Map.wf_keep _ (h.regs k), rfl⟩

theorem State.deviceReset_follows {μ : Nat} {s₀ s : State} {port : Nat} (hm : Nat.lor 566517957247693234363384 μ = μ) (h₀ : s₀.Follows μ s) : s₀.Follows μ (s.deviceReset port) := by
  refine State.Follows.lift hm h₀ ?_
  have h := State.Follows.refl 566517957247693234363384 s
  unfold State.deviceReset
  refine State.Follows.ite h (State.latchInj_follows rfl (State.resetAll_follows rfl (State.abandonTurns_follows rfl
    (State.abortTests_follows rfl (State.cmd_follows rfl h ?_)))))
  exact fun _ => ⟨Nat.zero_le _, fun _ => Nat.zero_lt_succ 63⟩

end Sys2Proof.Machine
end

