-- ==== Sys2Proof/Laws/FollowsRegWrite.lean ====
section
/-!
SUPPORT. The operations of Machine/RegWrite.lean keep the relation `State.Follows`. The number in a lemma is the mask of the
components that its operation may change.
-/
namespace Sys2Proof.Machine
open Sys2Proof

theorem State.armCmd_follows {μ : Nat} {s₀ : State} {s : State} {port : Port} {v : Nat} (hm : Nat.lor 171136785840098072 μ = μ) (h₀ : s₀.Follows μ s) :
    s₀.Follows μ (State.armCmd s port v) := by
  refine State.Follows.lift hm h₀ ?_
  have h := State.Follows.refl 171136785840098072 s
  unfold State.armCmd
  repeat' first
    | (with_reducible assumption)
    | (exact (rfl : Nat.lor _ _ = _))
    | (with_reducible refine State.armDiscard_follows ?_ ?_)
    | (with_reducible refine State.armLoad_follows ?_ ?_)
    | (with_reducible refine State.armSeal_follows ?_ ?_)
    | (with_reducible refine State.logEvent_follows ?_ ?_)
    | split

theorem State.schCmdWrite_follows {μ : Nat} {s₀ : State} {s : State} {port : Port} {v : Nat} (hm : Nat.lor 154063638003450648 μ = μ) (h₀ : s₀.Follows μ s) :
    s₀.Follows μ (State.schCmdWrite s port v) := by
  refine State.Follows.lift hm h₀ ?_
  have h := State.Follows.refl 154063638003450648 s
  unfold State.schCmdWrite
  repeat' first
    | (with_reducible assumption)
    | (exact (rfl : Nat.lor _ _ = _))
    | (with_reducible refine State.logEvent_follows ?_ ?_)
    | (with_reducible refine State.schEvict_follows ?_ ?_)
    | (with_reducible refine State.schEvictAll_follows ?_ ?_)
    | (with_reducible refine State.schHold_follows ?_ ?_)
    | (with_reducible refine State.schRelease_follows ?_ ?_)
    | split

theorem State.grmCmd_follows {μ : Nat} {s₀ : State} {s : State} {port : Port} {v : Nat} (hm : Nat.lor 159877786771653400 μ = μ) (h₀ : s₀.Follows μ s) :
    s₀.Follows μ (State.grmCmd s port v) := by
  refine State.Follows.lift hm h₀ ?_
  have h := State.Follows.refl 159877786771653400 s
  unfold State.grmCmd
  repeat' first
    | (with_reducible assumption)
    | (exact (rfl : Nat.lor _ _ = _))
    | (with_reducible refine State.grmLoad_follows ?_ ?_)
    | (with_reducible refine State.grmUnload_follows ?_ ?_)
    | (with_reducible refine State.logEvent_follows ?_ ?_)
    | split

theorem State.wldCmd_follows {μ : Nat} {s₀ : State} {s : State} {port : Port} {v : Nat} (hm : Nat.lor 171144482421474072 μ = μ) (h₀ : s₀.Follows μ s) :
    s₀.Follows μ (State.wldCmd s port v) := by
  refine State.Follows.lift hm h₀ ?_
  have h := State.Follows.refl 171144482421474072 s
  unfold State.wldCmd
  repeat' first
    | (with_reducible assumption)
    | (exact (rfl : Nat.lor _ _ = _))
    | (with_reducible refine State.logEvent_follows ?_ ?_)
    | (with_reducible refine State.wldBind_follows ?_ ?_)
    | (with_reducible refine State.wldLoad_follows ?_ ?_)
    | (with_reducible refine State.wldReload_follows ?_ ?_)
    | (with_reducible refine State.wldSwitch_follows ?_ ?_)
    | (with_reducible refine State.wldUnbind_follows ?_ ?_)
    | (with_reducible refine State.wldUnload_follows ?_ ?_)
    | split

theorem State.fmtCtl_follows {μ : Nat} {s₀ : State} {s : State} {port : Port} {v : Nat} (hm : Nat.lor 153122387330794264 μ = μ) (h₀ : s₀.Follows μ s) :
    s₀.Follows μ (State.fmtCtl s port v) := by
  refine State.Follows.lift hm h₀ ?_
  have h := State.Follows.refl 153122387330794264 s
  unfold State.fmtCtl
  repeat' first
    | (with_reducible assumption)
    | (exact (rfl : Nat.lor _ _ = _))
    | (with_reducible refine State.logEvent_follows ?_ ?_)
    | (with_reducible refine State.resetFallback_follows ?_ ?_)
    | split

theorem State.pfxCtl_follows {μ : Nat} {s₀ : State} {s : State} {k : Nat} {port : Port} {v : Nat} (hm : Nat.lor 153122438870205208 μ = μ) (h₀ : s₀.Follows μ s) :
    s₀.Follows μ (State.pfxCtl s k port v) := by
  refine State.Follows.lift hm h₀ ?_
  have h := State.Follows.refl 153122438870205208 s
  unfold State.pfxCtl
  repeat' first
    | (with_reducible assumption)
    | (exact (rfl : Nat.lor _ _ = _))
    | (with_reducible refine State.logEvent_follows ?_ ?_)
    | (with_reducible refine State.pfxLoad_follows ?_ ?_)
    | (with_reducible refine State.pfxUnload_follows ?_ ?_)
    | split

theorem State.testCmd_follows {μ : Nat} {s₀ : State} {s : State} {port : Port} {v spacing : Nat} (hm : Nat.lor 295319041965192905496 μ = μ) (h₀ : s₀.Follows μ s) :
    s₀.Follows μ (State.testCmd s port v spacing).1 := by
  refine State.Follows.lift hm h₀ ?_
  have h := State.Follows.refl 295319041965192905496 s
  unfold State.testCmd
  repeat' first
    | (with_reducible assumption)
    | (exact (rfl : Nat.lor _ _ = _))
    | (with_reducible refine State.testAbort_follows ?_ ?_)
    | (with_reducible refine State.testRefused_follows ?_ ?_)
    | (with_reducible refine State.testStart_follows ?_ ?_)
    | split

theorem State.pwrCmd_follows {μ : Nat} {s₀ : State} {s : State} {v : Nat} (hm : Nat.lor 2361339839376261120792 μ = μ) (h₀ : s₀.Follows μ s) :
    s₀.Follows μ (State.pwrCmd s v) := by
  refine State.Follows.lift hm h₀ ?_
  have h := State.Follows.refl 2361339839376261120792 s
  unfold State.pwrCmd
  repeat' first
    | (with_reducible assumption)
    | (exact (rfl : Nat.lor _ _ = _))
    | (with_reducible refine State.startShutdown_follows ?_ ?_)
    | (with_reducible apply State.Follows.ite)

theorem State.secCmd_follows {μ : Nat} {s₀ : State} {s : State} {v : Nat} (hm : Nat.lor 75557863725914323419140 μ = μ) (h₀ : s₀.Follows μ s) :
    s₀.Follows μ (State.secCmd s v) := by
  refine State.Follows.lift hm h₀ ?_
  have h := State.Follows.refl 75557863725914323419140 s
  unfold State.secCmd
  repeat' first
    | (with_reducible assumption)
    | (exact (rfl : Nat.lor _ _ = _))
    | (with_reducible refine State.relock_follows ?_ ?_)
    | (with_reducible refine State.renewNonce_follows ?_ ?_)
    | split

theorem State.icpCtl_follows {μ : Nat} {s₀ : State} {s : State} {n : Nat} {port : Port} {v : Nat} (hm : Nat.lor 75562052082363904557848 μ = μ) (h₀ : s₀.Follows μ s) :
    s₀.Follows μ (State.icpCtl s n port v) := by
  refine State.Follows.lift hm h₀ ?_
  have h := State.Follows.refl 75562052082363904557848 s
  unfold State.icpCtl
  repeat' first
    | (with_reducible assumption)
    | (exact (rfl : Nat.lor _ _ = _))
    | (with_reducible refine State.icpAdopt_follows ?_ ?_)
    | (with_reducible refine State.icpBad_follows ?_ ?_)
    | (with_reducible refine State.icpReject_follows ?_ ?_)
    | (with_reducible refine State.icpRetrain_follows ?_ ?_)
    | split

theorem State.calCmd_follows {μ : Nat} {s₀ : State} {s : State} {n : Nat} {port : Port} {v : Nat} (hm : Nat.lor 153122387332432664 μ = μ) (h₀ : s₀.Follows μ s) :
    s₀.Follows μ (State.calCmd s n port v) := by
  refine State.Follows.lift hm h₀ ?_
  have h := State.Follows.refl 153122387332432664 s
  unfold State.calCmd
  repeat' first
    | (with_reducible assumption)
    | (exact (rfl : Nat.lor _ _ = _))
    | (with_reducible refine State.calBad_follows ?_ ?_)
    | (with_reducible refine State.calSave_follows ?_ ?_)
    | (with_reducible refine State.toFront_follows ?_ ?_)
    | (with_reducible apply State.Follows.ite)
    | split

theorem State.spmCtl_follows {μ : Nat} {s₀ : State} {s : State} {n : Nat} {port : Port} {v : Nat} (hm : Nat.lor 153122387332694808 μ = μ) (h₀ : s₀.Follows μ s) :
    s₀.Follows μ (State.spmCtl s n port v) := by
  refine State.Follows.lift hm h₀ ?_
  have h := State.Follows.refl 153122387332694808 s
  unfold State.spmCtl
  repeat' first
    | (with_reducible assumption)
    | (exact (rfl : Nat.lor _ _ = _))
    | (with_reducible refine State.resume_follows ?_ ?_)
    | (with_reducible refine State.spmBad_follows ?_ ?_)
    | (with_reducible refine State.unify_follows ?_ ?_)
    | split

theorem State.irqMap_follows {μ : Nat} {s₀ : State} {s : State} {src v : Nat} (hm : Nat.lor 9007199254741528 μ = μ) (h₀ : s₀.Follows μ s) :
    s₀.Follows μ (State.irqMap s src v) := by
  refine State.Follows.lift hm h₀ ?_
  have h := State.Follows.refl 9007199254741528 s
  unfold State.irqMap
  repeat' first
    | (with_reducible assumption)
    | (exact (rfl : Nat.lor _ _ = _))
    | (with_reducible refine State.raiseIrq_follows ?_ ?_)
    | (with_reducible refine State.setRegN_follows ?_ ?_)
    | (with_reducible apply State.Follows.ite)

theorem State.hstReset_follows {μ : Nat} {s₀ : State} {s : State} {port : Port} {v : Nat} (hm : Nat.lor 566517957247693234363384 μ = μ) (h₀ : s₀.Follows μ s) :
    s₀.Follows μ (State.hstReset s port v) := by
  refine State.Follows.lift hm h₀ ?_
  have h := State.Follows.refl 566517957247693234363384 s
  unfold State.hstReset
  repeat' first
    | (with_reducible assumption)
    | (exact (rfl : Nat.lor _ _ = _))
    | (with_reducible refine State.deviceReset_follows ?_ ?_)
    | (with_reducible refine State.logEvent_follows ?_ ?_)
    | (with_reducible apply State.Follows.ite)

theorem State.writeHigh_follows {μ : Nat} {s₀ : State} {s : State} {r : RegRow} {port : Port} {off v : Nat} (hm : Nat.lor 153122387332694872 μ = μ) (h₀ : s₀.Follows μ s) :
    s₀.Follows μ (State.writeHigh s r port off v) := by
  refine State.Follows.lift hm h₀ ?_
  have h := State.Follows.refl 153122387332694872 s
  unfold State.writeHigh
  repeat' first
    | (with_reducible assumption)
    | (exact (rfl : Nat.lor _ _ = _))
    | (with_reducible refine State.ftrBase_follows ?_ ?_)
    | (with_reducible refine State.setReg64_follows ?_ ?_)
    | (with_reducible refine State.spmData_follows ?_ ?_)
    | (with_reducible apply State.Follows.ite)
    | ((with_reducible apply State.Follows.keep) <;> first | exact trivial | exact rfl | skip)

theorem State.takeWrite_follows {μ : Nat} {s₀ : State} {s : State} {r : RegRow} {port : Port} {off v : Nat} (hm : Nat.lor 153122387332694872 μ = μ) (h₀ : s₀.Follows μ s) :
    s₀.Follows μ (State.takeWrite s r port off v) := by
  refine State.Follows.lift hm h₀ ?_
  have h := State.Follows.refl 153122387332694872 s
  unfold State.takeWrite
  repeat' first
    | (with_reducible assumption)
    | (exact (rfl : Nat.lor _ _ = _))
    | (with_reducible refine State.logEvent_follows ?_ ?_)
    | (with_reducible refine State.setRegN_follows ?_ ?_)
    | (with_reducible refine State.writeHigh_follows ?_ ?_)
    | (with_reducible apply State.Follows.ite)
    | split
    | ((with_reducible apply State.Follows.keep) <;> first | exact trivial | exact rfl | skip)

theorem State.writeAct_follows {μ : Nat} {s₀ : State} {s : State} {r : RegRow} {port : Port} {off v raw : Nat} (hm : Nat.lor 566517957247693234363388 μ = μ) (h₀ : s₀.Follows μ s) :
    s₀.Follows μ (State.writeAct s r port off v raw) := by
  refine State.Follows.lift hm h₀ ?_
  have h := State.Follows.refl 566517957247693234363388 s
  unfold State.writeAct
  repeat' first
    | (with_reducible assumption)
    | (exact (rfl : Nat.lor _ _ = _))
    | (with_reducible refine State.armCmd_follows ?_ ?_)
    | (with_reducible refine State.calCmd_follows ?_ ?_)
    | (with_reducible refine State.cmdCfg_follows ?_ ?_)
    | (with_reducible refine State.cmdTail_follows ?_ ?_)
    | (with_reducible refine State.evrCfg_follows ?_ ?_)
    | (with_reducible refine State.evrHead_follows ?_ ?_)
    | (with_reducible refine State.fatalWrite_follows ?_ ?_)
    | (with_reducible refine State.fmtCtl_follows ?_ ?_)
    | (with_reducible refine State.ftrCtl_follows ?_ ?_)
    | (with_reducible refine State.grmCmd_follows ?_ ?_)
    | (with_reducible refine State.hstReset_follows ?_ ?_)
    | (with_reducible refine State.icpCtl_follows ?_ ?_)
    | (with_reducible refine State.injWrite_follows ?_ ?_)
    | (with_reducible refine State.irqMap_follows ?_ ?_)
    | (with_reducible refine State.pfxCtl_follows ?_ ?_)
    | (with_reducible refine State.pwrCmd_follows ?_ ?_)
    | (with_reducible refine State.rqCfg_follows ?_ ?_)
    | (with_reducible refine State.rqHead_follows ?_ ?_)
    | (with_reducible refine State.schCmdWrite_follows ?_ ?_)
    | (with_reducible refine State.secCmd_follows ?_ ?_)
    | (with_reducible refine State.setRegN_follows ?_ ?_)
    | (with_reducible refine State.spmAddr_follows ?_ ?_)
    | (with_reducible refine State.spmCtl_follows ?_ ?_)
    | (with_reducible refine State.sqCfg_follows ?_ ?_)
    | (with_reducible refine State.sqTail_follows ?_ ?_)
    | (with_reducible refine State.takeWrite_follows ?_ ?_)
    | (with_reducible refine State.testCmd_follows ?_ ?_)
    | (with_reducible refine State.testRead_follows ?_ ?_)
    | (with_reducible refine State.unlockSubmit_follows ?_ ?_)
    | (with_reducible refine State.wldCmd_follows ?_ ?_)
    | (with_reducible apply State.Follows.ite)
    | dsimp only
    | ((with_reducible apply State.Follows.keep) <;> first | exact trivial | exact rfl | skip)

theorem State.writeReg_follows {μ : Nat} {s₀ : State} {s : State} {port : Port} {off value : Nat} (hm : Nat.lor 566517957247693234363388 μ = μ) (h₀ : s₀.Follows μ s) :
    s₀.Follows μ (State.writeReg s port off value) := by
  refine State.Follows.lift hm h₀ ?_
  have h := State.Follows.refl 566517957247693234363388 s
  unfold State.writeReg
  repeat' first
    | (with_reducible assumption)
    | (exact (rfl : Nat.lor _ _ = _))
    | (with_reducible refine State.writeAct_follows ?_ ?_)
    | (with_reducible apply State.Follows.ite)
    | split

theorem State.badAccess_follows {μ : Nat} {s₀ : State} {s : State} {port : Port} {bar off size : Nat} {write : Bool} (hm : Nat.lor 153122387330597656 μ = μ) (h₀ : s₀.Follows μ s) :
    s₀.Follows μ (State.badAccess s port bar off size write) := by
  refine State.Follows.lift hm h₀ ?_
  have h := State.Follows.refl 153122387330597656 s
  unfold State.badAccess
  repeat' first
    | (with_reducible assumption)
    | (exact (rfl : Nat.lor _ _ = _))
    | (with_reducible refine State.logEvent_follows ?_ ?_)

theorem State.writeDoorbell_follows {μ : Nat} {s₀ : State} {s : State} {port : Port} {off size value : Nat} (hm : Nat.lor 566517957247693234363388 μ = μ) (h₀ : s₀.Follows μ s) :
    s₀.Follows μ (State.writeDoorbell s port off size value) := by
  refine State.Follows.lift hm h₀ ?_
  have h := State.Follows.refl 566517957247693234363388 s
  unfold State.writeDoorbell
  repeat' first
    | (with_reducible assumption)
    | (exact (rfl : Nat.lor _ _ = _))
    | (with_reducible refine State.badAccess_follows ?_ ?_)
    | (with_reducible refine State.writeReg_follows ?_ ?_)
    | (with_reducible apply State.Follows.ite)

theorem State.writeBar0_follows {μ : Nat} {s₀ : State} {s : State} {port : Port} {off size value : Nat} (hm : Nat.lor 566517957247693234363388 μ = μ) (h₀ : s₀.Follows μ s) :
    s₀.Follows μ (State.writeBar0 s port off size value) := by
  refine State.Follows.lift hm h₀ ?_
  have h := State.Follows.refl 566517957247693234363388 s
  unfold State.writeBar0
  repeat' first
    | (with_reducible assumption)
    | (exact (rfl : Nat.lor _ _ = _))
    | (with_reducible refine State.badAccess_follows ?_ ?_)
    | (with_reducible refine State.writeReg_follows ?_ ?_)
    | (with_reducible apply State.Follows.ite)

theorem State.readBar0_follows {μ : Nat} {s₀ : State} {s : State} {port : Port} {off size : Nat} (hm : Nat.lor 153122387330597692 μ = μ) (h₀ : s₀.Follows μ s) :
    s₀.Follows μ (State.readBar0 s port off size).1 := by
  refine State.Follows.lift hm h₀ ?_
  have h := State.Follows.refl 153122387330597692 s
  unfold State.readBar0
  repeat' first
    | (with_reducible assumption)
    | (exact (rfl : Nat.lor _ _ = _))
    | (with_reducible refine State.badAccess_follows ?_ ?_)
    | (with_reducible refine State.readReg_follows ?_ ?_)
    | (with_reducible apply State.Follows.ite_fst)

theorem State.hostRead_follows {μ : Nat} {s₀ : State} {s : State} {port : Port} {bar off size : Nat} (hm : Nat.lor 153122387330597692 μ = μ) (h₀ : s₀.Follows μ s) :
    s₀.Follows μ (State.hostRead s port bar off size) := by
  refine State.Follows.lift hm h₀ ?_
  have h := State.Follows.refl 153122387330597692 s
  unfold State.hostRead
  repeat' first
    | (with_reducible assumption)
    | (exact (rfl : Nat.lor _ _ = _))
    | (with_reducible refine State.emit_follows ?_ ?_)
    | (with_reducible refine State.readBar0_follows ?_ ?_)
    | (with_reducible apply State.Follows.ite)
    | (with_reducible apply State.Follows.ite_fst)

theorem execRegisterWrite_follows {μ : Nat} {s₀ : State} {port : Port} {bar off size value : Nat} {s : State} (hm : Nat.lor 566517957247693234363388 μ = μ) (h₀ : s₀.Follows μ s) :
    s₀.Ends μ (execRegisterWrite port bar off size value s) := by
  refine State.Ends.lift hm h₀ ?_
  have h := State.Follows.refl 566517957247693234363388 s
  unfold execRegisterWrite
  repeat' first
    | (with_reducible assumption)
    | (exact (rfl : Nat.lor _ _ = _))
    | (with_reducible refine State.writeBar0_follows ?_ ?_)
    | (with_reducible refine State.writeDoorbell_follows ?_ ?_)
    | (with_reducible apply State.Ends.next)
    | (with_reducible apply State.Follows.ite)

theorem execLowRegisterRead_follows {μ : Nat} {s₀ : State} {port : Port} {off size : Nat} {s : State} (hm : Nat.lor 153122387330597692 μ = μ) (h₀ : s₀.Follows μ s) :
    s₀.Ends μ (execLowRegisterRead port off size s) := by
  refine State.Ends.lift hm h₀ ?_
  have h := State.Follows.refl 153122387330597692 s
  unfold execLowRegisterRead
  repeat' first
    | (with_reducible assumption)
    | (exact (rfl : Nat.lor _ _ = _))
    | (with_reducible refine State.hostRead_follows ?_ ?_)
    | (with_reducible apply State.Ends.next)

theorem execMisalignedRead_follows {μ : Nat} {s₀ : State} {port : Port} {bar off size : Nat} {s : State} (hm : Nat.lor 153122387330597692 μ = μ) (h₀ : s₀.Follows μ s) :
    s₀.Ends μ (execMisalignedRead port bar off size s) := by
  refine State.Ends.lift hm h₀ ?_
  have h := State.Follows.refl 153122387330597692 s
  unfold execMisalignedRead
  repeat' first
    | (with_reducible assumption)
    | (exact (rfl : Nat.lor _ _ = _))
    | (with_reducible refine State.hostRead_follows ?_ ?_)
    | (with_reducible apply State.Ends.next)

theorem execRegister_follows {μ : Nat} {s₀ : State} {port : Port} {write : Bool} {off value : Nat} {s : State} (hm : Nat.lor 566517957247693234363388 μ = μ) (h₀ : s₀.Follows μ s) :
    s₀.Ends μ (execRegister port write off value s) := by
  refine State.Ends.lift hm h₀ ?_
  have h := State.Follows.refl 566517957247693234363388 s
  unfold execRegister
  repeat' first
    | (with_reducible assumption)
    | (exact (rfl : Nat.lor _ _ = _))
    | (with_reducible refine State.hostRead_follows ?_ ?_)
    | (with_reducible refine State.writeBar0_follows ?_ ?_)
    | (with_reducible apply State.Ends.next)
    | (with_reducible apply State.Follows.ite)

end Sys2Proof.Machine
end

