-- ==== Sys2Proof/Laws/FollowsCommandRing.lean ====
section
/-!
SUPPORT. The operations of Machine/CommandRing.lean keep the relation `State.Follows`. The number in a lemma is the mask of the
components that its operation may change.
-/
namespace Sys2Proof.Machine
open Sys2Proof

theorem State.ringWrite64_follows {μ : Nat} {s₀ : State} {s : State} {lo v : Nat} (hm : Nat.lor 566517957247693234363388 μ = μ) (h₀ : s₀.Follows μ s) :
    s₀.Follows μ (State.ringWrite64 s lo v) := by
  refine State.Follows.lift hm h₀ ?_
  have h := State.Follows.refl 566517957247693234363388 s
  unfold State.ringWrite64
  repeat' first
    | (with_reducible assumption)
    | (exact (rfl : Nat.lor _ _ = _))
    | (with_reducible refine State.writeReg_follows ?_ ?_)

theorem State.farTier_follows {μ : Nat} {s₀ : State} {s : State} {i port : Nat} {valid : Bool} {base : Nat} (hm : Nat.lor 566517957247693234363388 μ = μ) (h₀ : s₀.Follows μ s) :
    s₀.Follows μ (State.farTier s i port valid base).1 := by
  refine State.Follows.lift hm h₀ ?_
  have h := State.Follows.refl 566517957247693234363388 s
  unfold State.farTier
  repeat' first
    | (with_reducible assumption)
    | (exact (rfl : Nat.lor _ _ = _))
    | (with_reducible refine State.ringWrite64_follows ?_ ?_)
    | (with_reducible refine State.writeReg_follows ?_ ?_)

theorem State.ringTest_follows {μ : Nat} {s₀ : State} {s : State} {value spacing : Nat} (hm : Nat.lor 295319041965192905496 μ = μ) (h₀ : s₀.Follows μ s) :
    s₀.Follows μ (State.ringTest s value spacing).1 := by
  refine State.Follows.lift hm h₀ ?_
  have h := State.Follows.refl 295319041965192905496 s
  unfold State.ringTest
  repeat' first
    | (with_reducible assumption)
    | (exact (rfl : Nat.lor _ _ = _))
    | (with_reducible refine State.testCmd_follows ?_ ?_)
    | (with_reducible apply State.Follows.ite_fst)
    | (with_reducible refine State.Follows.of_fst (by assumption) ?_)
    | split

theorem State.runCmd_follows {μ : Nat} {s₀ : State} {s : State} {entry : Nat} {c : CmdFields} (hm : Nat.lor 566517957247693234363388 μ = μ) (h₀ : s₀.Follows μ s) :
    s₀.Follows μ (State.runCmd s entry c).1 := by
  refine State.Follows.lift hm h₀ ?_
  have h := State.Follows.refl 566517957247693234363388 s
  unfold State.runCmd
  repeat' first
    | (with_reducible assumption)
    | (exact (rfl : Nat.lor _ _ = _))
    | (with_reducible refine State.armDiscard_follows ?_ ?_)
    | (with_reducible refine State.armLoad_follows ?_ ?_)
    | (with_reducible refine State.armSeal_follows ?_ ?_)
    | (with_reducible refine State.calPrioritise_follows ?_ ?_)
    | (with_reducible refine State.calSave_follows ?_ ?_)
    | (with_reducible refine State.farTier_follows ?_ ?_)
    | (with_reducible refine State.grmLoad_follows ?_ ?_)
    | (with_reducible refine State.grmUnload_follows ?_ ?_)
    | (with_reducible refine State.pfxLoad_follows ?_ ?_)
    | (with_reducible refine State.pfxUnload_follows ?_ ?_)
    | (with_reducible refine State.resetFallback_follows ?_ ?_)
    | (with_reducible refine State.ringTest_follows ?_ ?_)
    | (with_reducible refine State.ringWrite64_follows ?_ ?_)
    | (with_reducible refine State.schEvict_follows ?_ ?_)
    | (with_reducible refine State.schEvictAll_follows ?_ ?_)
    | (with_reducible refine State.schHold_follows ?_ ?_)
    | (with_reducible refine State.schRelease_follows ?_ ?_)
    | (with_reducible refine State.wldBind_follows ?_ ?_)
    | (with_reducible refine State.wldLoad_follows ?_ ?_)
    | (with_reducible refine State.wldReload_follows ?_ ?_)
    | (with_reducible refine State.wldSwitch_follows ?_ ?_)
    | (with_reducible refine State.wldUnbind_follows ?_ ?_)
    | (with_reducible refine State.wldUnload_follows ?_ ?_)
    | (with_reducible refine State.writeReg_follows ?_ ?_)
    | split
    | dsimp only
    | ((with_reducible apply State.Follows.keep) <;> first | exact trivial | exact rfl | skip)

theorem State.cmdFailed_follows {μ : Nat} {s₀ : State} {s : State} {c : CmdFields} {st : Nat} (hm : Nat.lor 153122387330597656 μ = μ) (h₀ : s₀.Follows μ s) :
    s₀.Follows μ (State.cmdFailed s c st) := by
  refine State.Follows.lift hm h₀ ?_
  have h := State.Follows.refl 153122387330597656 s
  unfold State.cmdFailed
  repeat' first
    | (with_reducible assumption)
    | (exact (rfl : Nat.lor _ _ = _))
    | (with_reducible refine State.logLimited_follows ?_ ?_)
    | (with_reducible apply State.Follows.ite)

theorem State.cmdTake_follows {μ : Nat} {s₀ s : State} {entry seq : Nat} (hm : Nat.lor 18014398509481984 μ = μ) (h₀ : s₀.Follows μ s) (r : s.cmd.reading = true) :
    s₀.Follows μ (s.cmdTake entry seq) := by
  refine State.Follows.lift hm h₀ ?_
  have h := State.Follows.refl 18014398509481984 s
  refine State.cmd_follows rfl h (fun k => ⟨?_, fun x => by cases x⟩)
  have := k.2 r
  rw [List.length_append, List.length_singleton]
  omega

theorem State.cmdSettle_follows {μ : Nat} {s₀ s : State} {stays : Option (Nat × Nat)} (hm : Nat.lor 18014398509481984 μ = μ) (h₀ : s₀.Follows μ s) :
    s₀.Follows μ (s.cmdSettle stays) := by
  refine State.Follows.lift hm h₀ ?_
  have h := State.Follows.refl 18014398509481984 s
  refine State.cmd_follows rfl h (fun k => ?_)
  have hl := List.length_filterMap_le (fun c : RingCmd =>
    if c.opcode == issuing then stays.map (fun k => { c with opcode := k.1, key := k.2 }) else some c) s.cmd.inProgress
  exact ⟨Nat.le_trans hl k.1, fun r => Nat.lt_of_le_of_lt hl (k.2 r)⟩

theorem State.cmdIssue_follows {μ : Nat} {s₀ : State} {s : State} {entry : Nat} {c : CmdFields} (hm : Nat.lor 566517957247693234363388 μ = μ) (h₀ : s₀.Follows μ s) :
    s₀.Follows μ (State.cmdIssue s entry c) := by
  refine State.Follows.lift hm h₀ ?_
  have h := State.Follows.refl 566517957247693234363388 s
  unfold State.cmdIssue
  repeat' first
    | (with_reducible assumption)
    | (exact (rfl : Nat.lor _ _ = _))
    | (with_reducible refine State.cmdFailed_follows ?_ ?_)
    | (with_reducible refine State.cmdSettle_follows ?_ ?_)
    | (with_reducible refine State.runCmd_follows ?_ ?_)
    | (with_reducible refine State.writeCompletion_follows ?_ ?_)
    | (with_reducible refine State.Follows.of_fst (by assumption) ?_)
    | split

theorem State.ringReset_follows {μ : Nat} {s₀ : State} {s : State} {entry : Nat} {c : CmdFields} (hm : Nat.lor 566517957247693234363384 μ = μ) (h₀ : s₀.Follows μ s) :
    s₀.Follows μ (State.ringReset s entry c) := by
  refine State.Follows.lift hm h₀ ?_
  have h := State.Follows.refl 566517957247693234363384 s
  unfold State.ringReset
  repeat' first
    | (with_reducible assumption)
    | (exact (rfl : Nat.lor _ _ = _))
    | (with_reducible refine State.cmdFailed_follows ?_ ?_)
    | (with_reducible refine State.cmdSettle_follows ?_ ?_)
    | (with_reducible refine State.deviceReset_follows ?_ ?_)
    | (with_reducible refine State.emit_follows ?_ ?_)
    | (with_reducible refine State.writeCompletion_follows ?_ ?_)
    | split
    | dsimp only

theorem State.cmdEntry_follows {μ : Nat} {s₀ s : State} {e : List Byte} (hm : Nat.lor 566517957247693234363388 μ = μ) (h₀ : s₀.Follows μ s) : s₀.Follows μ (s.cmdEntry e) := by
  refine State.Follows.lift hm h₀ ?_
  have h := State.Follows.refl 566517957247693234363388 s
  unfold State.cmdEntry
  split
  · exact h
  · rename_i hr
    simp only [Bool.not_eq_true, Bool.not_eq_false'] at hr
    split
    · exact State.cmdReadFailed_follows rfl h
    · have hs := State.setRegN_follows (off := Reg.CMD_HEAD) rfl
        (v := (s.regN Reg.CMD_HEAD + 1) % ringSize ((s.cmdTake (s.regN Reg.CMD_HEAD) (cmdFields e).seq).regN Reg.CMD_CFG))
        (State.cmdTake_follows (entry := s.regN Reg.CMD_HEAD) (seq := (cmdFields e).seq) rfl h hr)
      exact State.Follows.ite (State.ringReset_follows rfl hs) (State.cmdFetch_follows rfl (State.cmdIssue_follows rfl hs))

theorem execCommandEntry_follows {μ : Nat} {s₀ : State} {entry : List Byte} {s : State} (hm : Nat.lor 566517957247693234363388 μ = μ) (h₀ : s₀.Follows μ s) :
    s₀.Ends μ (execCommandEntry entry s) := by
  refine State.Ends.lift hm h₀ ?_
  have h := State.Follows.refl 566517957247693234363388 s
  unfold execCommandEntry
  repeat' first
    | (with_reducible assumption)
    | (exact (rfl : Nat.lor _ _ = _))
    | (with_reducible refine State.cmdEntry_follows ?_ ?_)
    | (with_reducible apply State.Ends.next)

theorem execCommandRingNop_follows {μ : Nat} {s₀ : State} {entry seq : Nat} {s : State} (hm : Nat.lor 566517957247693234363388 μ = μ) (h₀ : s₀.Follows μ s) :
    s₀.Ends μ (execCommandRingNop entry seq s) := by
  refine State.Ends.lift hm h₀ ?_
  have h := State.Follows.refl 566517957247693234363388 s
  unfold execCommandRingNop
  repeat' first
    | (with_reducible assumption)
    | (exact (rfl : Nat.lor _ _ = _))
    | (with_reducible refine State.cmdEntry_follows ?_ ?_)
    | (with_reducible apply State.Ends.next)
    | (with_reducible apply State.Follows.ite)

theorem execWakeHint_follows {μ : Nat} {s₀ : State} {time : Nat} {s : State} (hm : Nat.lor 2361183241434822606848 μ = μ) (h₀ : s₀.Follows μ s) :
    s₀.Ends μ (execWakeHint time s) := by
  refine State.Ends.lift hm h₀ ?_
  have h := State.Follows.refl 2361183241434822606848 s
  unfold execWakeHint
  repeat' first
    | (with_reducible assumption)
    | (with_reducible apply State.Ends.next)
    | dsimp only
    | ((with_reducible apply State.Follows.keep) <;> first | exact trivial | exact rfl | skip)

theorem execFarTier_follows {μ : Nat} {s₀ : State} {inst port : Nat} {valid : Bool} {base : Nat} {s : State} (hm : Nat.lor 566517957247693234363388 μ = μ) (h₀ : s₀.Follows μ s) :
    s₀.Ends μ (execFarTier inst port valid base s) := by
  refine State.Ends.lift hm h₀ ?_
  have h := State.Follows.refl 566517957247693234363388 s
  unfold execFarTier
  repeat' first
    | (with_reducible assumption)
    | (exact (rfl : Nat.lor _ _ = _))
    | (with_reducible refine State.farTier_follows ?_ ?_)
    | (with_reducible apply State.Ends.next)
    | (with_reducible apply State.Follows.ite)

end Sys2Proof.Machine
end

