-- ==== Sys2Proof/Laws/FollowsHost.lean ====
section
/-!
SUPPORT. The operations of Machine/Host.lean keep the relation `State.Follows`. The number in a lemma is the mask of the
components that its operation may change.
-/
namespace Sys2Proof.Machine
open Sys2Proof

theorem execDeviceReset_follows {μ : Nat} {s₀ : State} {by_ : Port} {s : State} (hm : Nat.lor 566517957247693234363384 μ = μ) (h₀ : s₀.Follows μ s) :
    s₀.Ends μ (execDeviceReset by_ s) := by
  refine State.Ends.lift hm h₀ ?_
  have h := State.Follows.refl 566517957247693234363384 s
  unfold execDeviceReset
  repeat' first
    | (with_reducible assumption)
    | (exact (rfl : Nat.lor _ _ = _))
    | (with_reducible refine State.deviceReset_follows ?_ ?_)
    | (with_reducible apply State.Ends.next)

theorem execPerstAssertion_follows {μ : Nat} {s₀ : State} {port : Nat} {s : State} (hm : Nat.lor 75558366157770646883192 μ = μ) (h₀ : s₀.Follows μ s) :
    s₀.Ends μ (execPerstAssertion port s) := by
  refine State.Ends.lift hm h₀ ?_
  have h := State.Follows.refl 75558366157770646883192 s
  unfold execPerstAssertion
  repeat' first
    | (with_reducible assumption)
    | (exact (rfl : Nat.lor _ _ = _))
    | (with_reducible refine State.portReset_follows ?_ ?_)
    | (with_reducible apply State.Ends.next)
    | (with_reducible apply State.Follows.ite)
    | dsimp only
    | ((with_reducible apply State.Follows.keep) <;> first | exact trivial | exact rfl | skip)

theorem execPerstDeassertion_follows {μ : Nat} {s₀ : State} {port : Nat} {s : State} (hm : Nat.lor 9007199254740992 μ = μ) (h₀ : s₀.Follows μ s) :
    s₀.Ends μ (execPerstDeassertion port s) := by
  refine State.Ends.lift hm h₀ ?_
  have h := State.Follows.refl 9007199254740992 s
  unfold execPerstDeassertion
  repeat' first
    | (with_reducible assumption)
    | (with_reducible apply State.Ends.next)
    | (with_reducible apply State.Follows.ite)
    | ((with_reducible apply State.Follows.keep) <;> first | exact trivial | exact rfl | skip)

theorem execHotReset_follows {μ : Nat} {s₀ : State} {port : Nat} {s : State} (hm : Nat.lor 75558366157770646883192 μ = μ) (h₀ : s₀.Follows μ s) :
    s₀.Ends μ (execHotReset port s) := by
  refine State.Ends.lift hm h₀ ?_
  have h := State.Follows.refl 75558366157770646883192 s
  unfold execHotReset
  repeat' first
    | (with_reducible assumption)
    | (exact (rfl : Nat.lor _ _ = _))
    | (with_reducible refine State.portReset_follows ?_ ?_)
    | (with_reducible apply State.Ends.next)
    | (with_reducible apply State.Follows.ite)

theorem execFunctionLevelReset_follows {μ : Nat} {s₀ : State} {port : Nat} {s : State} (hm : Nat.lor 75558366157770646883192 μ = μ) (h₀ : s₀.Follows μ s) :
    s₀.Ends μ (execFunctionLevelReset port s) := by
  refine State.Ends.lift hm h₀ ?_
  have h := State.Follows.refl 75558366157770646883192 s
  unfold execFunctionLevelReset
  repeat' first
    | (with_reducible assumption)
    | (exact (rfl : Nat.lor _ _ = _))
    | (with_reducible refine State.portReset_follows ?_ ?_)
    | (with_reducible apply State.Ends.next)
    | (with_reducible apply State.Follows.ite)

theorem execD3hotToD0_follows {μ : Nat} {s₀ : State} {port : Nat} {s : State} (hm : Nat.lor 75558366157770646883192 μ = μ) (h₀ : s₀.Follows μ s) :
    s₀.Ends μ (execD3hotToD0 port s) := by
  refine State.Ends.lift hm h₀ ?_
  have h := State.Follows.refl 75558366157770646883192 s
  unfold execD3hotToD0
  repeat' first
    | (with_reducible assumption)
    | (exact (rfl : Nat.lor _ _ = _))
    | (with_reducible refine State.portReset_follows ?_ ?_)
    | (with_reducible apply State.Ends.next)
    | (with_reducible apply State.Follows.ite)

theorem execD0ToD3hot_follows {μ : Nat} {s₀ : State} {port : Nat} {s : State} (hm : Nat.lor 9007199254740992 μ = μ) (h₀ : s₀.Follows μ s) :
    s₀.Ends μ (execD0ToD3hot port s) := by
  refine State.Ends.lift hm h₀ ?_
  have h := State.Follows.refl 9007199254740992 s
  unfold execD0ToD3hot
  repeat' first
    | (with_reducible assumption)
    | (with_reducible apply State.Ends.next)
    | (with_reducible apply State.Follows.ite)
    | ((with_reducible apply State.Follows.keep) <;> first | exact trivial | exact rfl | skip)

theorem execPortLinkUp_follows {μ : Nat} {s₀ : State} {port speed width : Nat} {msixEnable funcMask busMaster : Bool} {s : State} (hm : Nat.lor 171171970212168472 μ = μ) (h₀ : s₀.Follows μ s) :
    s₀.Ends μ (execPortLinkUp port speed width msixEnable funcMask busMaster s) := by
  refine State.Ends.lift hm h₀ ?_
  have h := State.Follows.refl 171171970212168472 s
  unfold execPortLinkUp
  repeat' first
    | (with_reducible assumption)
    | (exact (rfl : Nat.lor _ _ = _))
    | (with_reducible refine State.portUp_follows ?_ ?_)
    | (with_reducible apply State.Ends.next)

theorem execPortLinkDown_follows {μ : Nat} {s₀ : State} {port : Nat} {cause : LinkDownCause} {s : State} (hm : Nat.lor 214201480171752216 μ = μ) (h₀ : s₀.Follows μ s) :
    s₀.Ends μ (execPortLinkDown port cause s) := by
  refine State.Ends.lift hm h₀ ?_
  have h := State.Follows.refl 214201480171752216 s
  unfold execPortLinkDown
  repeat' first
    | (with_reducible assumption)
    | (exact (rfl : Nat.lor _ _ = _))
    | (with_reducible refine State.portDown_follows ?_ ?_)
    | (with_reducible apply State.Ends.next)

theorem execCompletionTimeout_follows {μ : Nat} {s₀ : State} {unit : ReadUnit} {s : State} (hm : Nat.lor 214201480171752216 μ = μ) (h₀ : s₀.Follows μ s) :
    s₀.Ends μ (execCompletionTimeout unit s) := by
  refine State.Ends.lift hm h₀ ?_
  have h := State.Follows.refl 214201480171752216 s
  unfold execCompletionTimeout
  repeat' first
    | (with_reducible assumption)
    | (exact (rfl : Nat.lor _ _ = _))
    | (with_reducible refine State.readFailed_follows ?_ ?_)
    | (with_reducible apply State.Ends.next)

theorem execCmdCfgWrite_follows {μ : Nat} {s₀ : State} {port : Port} {value : Nat} {s : State} (hm : Nat.lor 171136785840079640 μ = μ) (h₀ : s₀.Follows μ s) :
    s₀.Ends μ (execCmdCfgWrite port value s) := by
  refine State.Ends.lift hm h₀ ?_
  have h := State.Follows.refl 171136785840079640 s
  unfold execCmdCfgWrite
  repeat' first
    | (with_reducible assumption)
    | (exact (rfl : Nat.lor _ _ = _))
    | (with_reducible refine State.cmdCfg_follows ?_ ?_)
    | (with_reducible apply State.Ends.next)

theorem execCmdTailWrite_follows {μ : Nat} {s₀ : State} {port : Port} {value : Nat} {s : State} (hm : Nat.lor 171136785840079640 μ = μ) (h₀ : s₀.Follows μ s) :
    s₀.Ends μ (execCmdTailWrite port value s) := by
  refine State.Ends.lift hm h₀ ?_
  have h := State.Follows.refl 171136785840079640 s
  unfold execCmdTailWrite
  repeat' first
    | (with_reducible assumption)
    | (exact (rfl : Nat.lor _ _ = _))
    | (with_reducible refine State.cmdTail_follows ?_ ?_)
    | (with_reducible apply State.Ends.next)

theorem execEvrCfgWrite_follows {μ : Nat} {s₀ : State} {port : Port} {value : Nat} {s : State} (hm : Nat.lor 189151184349561624 μ = μ) (h₀ : s₀.Follows μ s) :
    s₀.Ends μ (execEvrCfgWrite port value s) := by
  refine State.Ends.lift hm h₀ ?_
  have h := State.Follows.refl 189151184349561624 s
  unfold execEvrCfgWrite
  repeat' first
    | (with_reducible assumption)
    | (exact (rfl : Nat.lor _ _ = _))
    | (with_reducible refine State.evrCfg_follows ?_ ?_)
    | (with_reducible apply State.Ends.next)

theorem execEvrHeadWrite_follows {μ : Nat} {s₀ : State} {port : Port} {value : Nat} {s : State} (hm : Nat.lor 16 μ = μ) (h₀ : s₀.Follows μ s) :
    s₀.Ends μ (execEvrHeadWrite port value s) := by
  refine State.Ends.lift hm h₀ ?_
  have h := State.Follows.refl 16 s
  unfold execEvrHeadWrite
  repeat' first
    | (with_reducible assumption)
    | (exact (rfl : Nat.lor _ _ = _))
    | (with_reducible refine State.evrHead_follows ?_ ?_)
    | (with_reducible apply State.Ends.next)

theorem State.bar4Locked_follows {μ : Nat} {s₀ : State} {s : State} {p off : Nat} (hm : Nat.lor 153122387330597656 μ = μ) (h₀ : s₀.Follows μ s) :
    s₀.Follows μ (State.bar4Locked s p off) := by
  refine State.Follows.lift hm h₀ ?_
  have h := State.Follows.refl 153122387330597656 s
  unfold State.bar4Locked
  repeat' first
    | (with_reducible assumption)
    | (exact (rfl : Nat.lor _ _ = _))
    | (with_reducible refine State.logLimited_follows ?_ ?_)

theorem execBar4Read_follows {μ : Nat} {s₀ : State} {port off size : Nat} {s : State} (hm : Nat.lor 153122387330597656 μ = μ) (h₀ : s₀.Follows μ s) :
    s₀.Ends μ (execBar4Read port off size s) := by
  refine State.Ends.lift hm h₀ ?_
  have h := State.Follows.refl 153122387330597656 s
  unfold execBar4Read
  repeat' first
    | (with_reducible assumption)
    | (exact (rfl : Nat.lor _ _ = _))
    | (with_reducible refine State.bar4Locked_follows ?_ ?_)
    | (with_reducible refine State.emit_follows ?_ ?_)
    | (with_reducible refine State.pedCount_follows ?_ ?_)
    | (with_reducible apply State.Ends.next)
    | (with_reducible apply State.Follows.ite)

theorem State.bar4Store_follows {μ : Nat} {s₀ : State} {s : State} {p off : Nat} {data : List Byte} (hm : Nat.lor 2147483648 μ = μ) (h₀ : s₀.Follows μ s) :
    s₀.Follows μ (State.bar4Store s p off data) := by
  refine State.Follows.lift hm h₀ ?_
  have h := State.Follows.refl 2147483648 s
  unfold State.bar4Store
  repeat' first
    | (with_reducible assumption)
    | (exact (rfl : Nat.lor _ _ = _))
    | (with_reducible refine State.updPed_follows ?_ ?_)
    | (with_reducible apply State.Follows.ite)
    | (with_reducible refine State.Follows.foldl _ ?_ ?_)
    | split
    | (intro _ _ _)

theorem execBar4Write_follows {μ : Nat} {s₀ : State} {port off : Nat} {data : List Byte} {s : State} (hm : Nat.lor 153122389478081304 μ = μ) (h₀ : s₀.Follows μ s) :
    s₀.Ends μ (execBar4Write port off data s) := by
  refine State.Ends.lift hm h₀ ?_
  have h := State.Follows.refl 153122389478081304 s
  unfold execBar4Write
  repeat' first
    | (with_reducible assumption)
    | (exact (rfl : Nat.lor _ _ = _))
    | (with_reducible refine State.bar4Locked_follows ?_ ?_)
    | (with_reducible refine State.bar4Store_follows ?_ ?_)
    | (with_reducible apply State.Ends.next)
    | (with_reducible apply State.Follows.ite)

theorem execIrqHoldExpiry_follows {μ : Nat} {s₀ : State} {source : Nat} {s : State} (hm : Nat.lor 9007199254741512 μ = μ) (h₀ : s₀.Follows μ s) :
    s₀.Ends μ (execIrqHoldExpiry source s) := by
  refine State.Ends.lift hm h₀ ?_
  have h := State.Follows.refl 9007199254741512 s
  unfold execIrqHoldExpiry
  repeat' first
    | (with_reducible assumption)
    | (exact (rfl : Nat.lor _ _ = _))
    | (with_reducible refine State.raiseIrq_follows ?_ ?_)
    | (with_reducible apply State.Ends.next)
    | (with_reducible apply State.Follows.ite)

theorem execMsixPendingSend_follows {μ : Nat} {s₀ : State} {port vector : Nat} {s : State} (hm : Nat.lor 9007199254741000 μ = μ) (h₀ : s₀.Follows μ s) :
    s₀.Ends μ (execMsixPendingSend port vector s) := by
  refine State.Ends.lift hm h₀ ?_
  have h := State.Follows.refl 9007199254741000 s
  unfold execMsixPendingSend
  repeat' first
    | (with_reducible assumption)
    | (exact (rfl : Nat.lor _ _ = _))
    | (with_reducible refine State.deliverMsix_follows ?_ ?_)
    | (with_reducible apply State.Ends.next)
    | (with_reducible apply State.Follows.ite)
    | ((with_reducible apply State.Follows.keep) <;> first | exact trivial | exact rfl | skip)

theorem markCopied_length (wants : Nat → Bool) (k : Nat) (es : List LogEntry) : (markCopied wants k es).length = es.length := by
  induction es generalizing k with
  | nil => cases k <;> rfl
  | cons e es ih =>
    cases k with
    | zero => rfl
    | succ k =>
      unfold markCopied
      split <;> simp [ih]

theorem execEventRingCopy_follows {μ : Nat} {s₀ s : State} (hm : Nat.lor 36028797018964232 μ = μ) (h₀ : s₀.Follows μ s) : s₀.Ends μ (execEventRingCopy s) := by
  refine State.Ends.lift hm h₀ ?_
  have h := State.Follows.refl 36028797018964232 s
  unfold execEventRingCopy
  refine State.Ends.next (State.Follows.ite h ?_)
  have hf : s.Follows 36028797018964232 (((s.log.entries.filter (fun e => !e.copied && s.evrWants (eventClass e.code))).take s.evrRoom
      |>.zipIdx).foldl (fun (t : State) x => t.emit (.hostWrite (bits (s.regN Reg.EVR_CFG) 8 8)
        (s.reg64 Reg.EVR_BASE_LO / 4096 * 4096 + 32 * ((s.regN Reg.EVR_TAIL + x.2) % 2 ^ bits (s.regN Reg.EVR_CFG) 4 0))
        { x.1 with copied := true : LogEntry }.bytes)) s) :=
    State.Follows.foldl _ h (fun u x hu => State.emit_follows rfl hu)
  have he := State.emit_follows rfl (o := .hostRead (bits (s.regN Reg.EVR_CFG) 8 8) (s.reg64 Reg.EVR_BASE_LO / 4096 * 4096 +
    32 * ((s.regN Reg.EVR_TAIL + (((s.log.entries.filter (fun e => !e.copied && s.evrWants (eventClass e.code))).take
      s.evrRoom).length - 1)) % 2 ^ bits (s.regN Reg.EVR_CFG) 4 0)) 32) hf
  exact ⟨he.pending, he.out, he.draws, he.part, fun x => by
    obtain ⟨k1, k2, k3⟩ := h.log x
    refine ⟨?_, k2, k3⟩
    show (markCopied _ _ _).length ≤ 4096
    rw [markCopied_length]; exact k1, he.ring, he.regs, (show State.erase 36028797018964232 _ = State.erase 36028797018964232 _ from he.same)⟩

theorem execEventRingReadbackComplete_follows {μ : Nat} {s₀ : State} {s : State} (hm : Nat.lor 45035996273705496 μ = μ) (h₀ : s₀.Follows μ s) :
    s₀.Ends μ (execEventRingReadbackComplete s) := by
  refine State.Ends.lift hm h₀ ?_
  have h := State.Follows.refl 45035996273705496 s
  unfold execEventRingReadbackComplete
  repeat' first
    | (with_reducible assumption)
    | (exact (rfl : Nat.lor _ _ = _))
    | (with_reducible refine State.irqEvents_follows ?_ ?_)
    | (with_reducible refine State.setRegN_follows ?_ ?_)
    | (with_reducible apply State.Ends.next)
    | (with_reducible apply State.Follows.ite)
    | dsimp only
    | ((with_reducible apply State.Follows.keep) <;> first | exact trivial | exact rfl | skip)

theorem execSetEndpointId_follows {μ : Nat} {s₀ : State} {eid : Nat} {s : State} (hm : Nat.lor 72057594037927944 μ = μ) (h₀ : s₀.Follows μ s) :
    s₀.Ends μ (execSetEndpointId eid s) := by
  refine State.Ends.lift hm h₀ ?_
  have h := State.Follows.refl 72057594037927944 s
  unfold execSetEndpointId
  repeat' first
    | (with_reducible assumption)
    | (exact (rfl : Nat.lor _ _ = _))
    | (with_reducible refine State.emit_follows ?_ ?_)
    | (with_reducible apply State.Ends.next)
    | (with_reducible apply State.Follows.ite)
    | ((with_reducible apply State.Follows.keep) <;> first | exact trivial | exact rfl | skip)

theorem execGetEndpointId_follows {μ : Nat} {s₀ : State} {s : State} (hm : Nat.lor 8 μ = μ) (h₀ : s₀.Follows μ s) :
    s₀.Ends μ (execGetEndpointId s) := by
  refine State.Ends.lift hm h₀ ?_
  have h := State.Follows.refl 8 s
  unfold execGetEndpointId
  repeat' first
    | (with_reducible assumption)
    | (exact (rfl : Nat.lor _ _ = _))
    | (with_reducible refine State.emit_follows ?_ ?_)
    | (with_reducible apply State.Ends.next)

theorem execGetMctpVersionSupport_follows {μ : Nat} {s₀ : State} {s : State} (hm : Nat.lor 8 μ = μ) (h₀ : s₀.Follows μ s) :
    s₀.Ends μ (execGetMctpVersionSupport s) := by
  refine State.Ends.lift hm h₀ ?_
  have h := State.Follows.refl 8 s
  unfold execGetMctpVersionSupport
  repeat' first
    | (with_reducible assumption)
    | (exact (rfl : Nat.lor _ _ = _))
    | (with_reducible refine State.emit_follows ?_ ?_)
    | (with_reducible apply State.Ends.next)

theorem execGetMessageTypeSupport_follows {μ : Nat} {s₀ : State} {s : State} (hm : Nat.lor 8 μ = μ) (h₀ : s₀.Follows μ s) :
    s₀.Ends μ (execGetMessageTypeSupport s) := by
  refine State.Ends.lift hm h₀ ?_
  have h := State.Follows.refl 8 s
  unfold execGetMessageTypeSupport
  repeat' first
    | (with_reducible assumption)
    | (exact (rfl : Nat.lor _ _ = _))
    | (with_reducible refine State.emit_follows ?_ ?_)
    | (with_reducible apply State.Ends.next)

theorem execUnsupportedMessageType_follows {μ : Nat} {s₀ : State} {type : Nat} {s : State} (hm : Nat.lor 8 μ = μ) (h₀ : s₀.Follows μ s) :
    s₀.Ends μ (execUnsupportedMessageType type s) := by
  refine State.Ends.lift hm h₀ ?_
  have h := State.Follows.refl 8 s
  unfold execUnsupportedMessageType
  repeat' first
    | (with_reducible assumption)
    | (exact (rfl : Nat.lor _ _ = _))
    | (with_reducible refine State.emit_follows ?_ ?_)
    | (with_reducible apply State.Ends.next)
    | (with_reducible apply State.Follows.ite)

theorem State.smbusError_follows {μ : Nat} {s₀ : State} {s : State} {requester cause : Nat} (hm : Nat.lor 153122387330597656 μ = μ) (h₀ : s₀.Follows μ s) :
    s₀.Follows μ (State.smbusError s requester cause) := by
  refine State.Follows.lift hm h₀ ?_
  have h := State.Follows.refl 153122387330597656 s
  unfold State.smbusError
  repeat' first
    | (with_reducible assumption)
    | (exact (rfl : Nat.lor _ _ = _))
    | (with_reducible refine State.emit_follows ?_ ?_)
    | (with_reducible refine State.logLimited_follows ?_ ?_)

theorem State.mgmtForm_follows {μ : Nat} {s₀ : State} {s : State} {requester : Nat} {form : MgmtForm} {f : State → State} (hm : Nat.lor 153122387330597656 μ = μ) (h₀ : s₀.Follows μ s) (hf : ∀ t, s₀.Follows μ t → s₀.Follows μ (f t)) :
    s₀.Follows μ (State.mgmtForm s requester form f) := by
  unfold State.mgmtForm
  repeat' first
    | (with_reducible assumption)
    | (apply hf)
    | (with_reducible refine State.smbusError_follows ?_ ?_)
    | split

theorem State.mgmtRead_follows {μ : Nat} {s₀ : State} {s : State} {off : Nat} (hm : Nat.lor 153122387330597692 μ = μ) (h₀ : s₀.Follows μ s) :
    s₀.Follows μ (State.mgmtRead s off).1 := by
  refine State.Follows.lift hm h₀ ?_
  have h := State.Follows.refl 153122387330597692 s
  unfold State.mgmtRead
  repeat' first
    | (with_reducible assumption)
    | (exact (rfl : Nat.lor _ _ = _))
    | (with_reducible refine State.readBar0_follows ?_ ?_)

theorem execRead32_follows {μ : Nat} {s₀ : State} {requester : Nat} {form : MgmtForm} {off : Nat} {s : State} (hm : Nat.lor 153122387330597692 μ = μ) (h₀ : s₀.Follows μ s) :
    s₀.Ends μ (execRead32 requester form off s) := by
  refine State.Ends.lift hm h₀ ?_
  have h := State.Follows.refl 153122387330597692 s
  unfold execRead32
  repeat' first
    | (with_reducible assumption)
    | (exact (rfl : Nat.lor _ _ = _))
    | (with_reducible refine State.emit_follows ?_ ?_)
    | (with_reducible refine State.mgmtForm_follows ?_ ?_ ?_)
    | (with_reducible refine State.mgmtRead_follows ?_ ?_)
    | (with_reducible apply State.Ends.next)
    | (intro _ _)

theorem execWrite32_follows {μ : Nat} {s₀ : State} {requester : Nat} {form : MgmtForm} {off value : Nat} {s : State} (hm : Nat.lor 566517957247693234363388 μ = μ) (h₀ : s₀.Follows μ s) :
    s₀.Ends μ (execWrite32 requester form off value s) := by
  refine State.Ends.lift hm h₀ ?_
  have h := State.Follows.refl 566517957247693234363388 s
  unfold execWrite32
  repeat' first
    | (with_reducible assumption)
    | (exact (rfl : Nat.lor _ _ = _))
    | (with_reducible refine State.emit_follows ?_ ?_)
    | (with_reducible refine State.mgmtForm_follows ?_ ?_ ?_)
    | (with_reducible refine State.writeBar0_follows ?_ ?_)
    | (with_reducible apply State.Ends.next)
    | split
    | (intro _ _)

theorem execReadBlock_follows {μ : Nat} {s₀ : State} {requester : Nat} {form : MgmtForm} {off count : Nat} {s : State} (hm : Nat.lor 153122387330597692 μ = μ) (h₀ : s₀.Follows μ s) :
    s₀.Ends μ (execReadBlock requester form off count s) := by
  refine State.Ends.lift hm h₀ ?_
  have h := State.Follows.refl 153122387330597692 s
  unfold execReadBlock
  repeat' first
    | (with_reducible assumption)
    | (exact (rfl : Nat.lor _ _ = _))
    | (with_reducible refine State.emit_follows ?_ ?_)
    | (with_reducible refine State.mgmtForm_follows ?_ ?_ ?_)
    | (with_reducible refine State.mgmtRead_follows ?_ ?_)
    | (with_reducible apply State.Ends.next)
    | (with_reducible refine State.Follows.foldl_fst _ ?_ ?_)
    | (intro _ _ _)
    | (intro _ _)

theorem execAlertResponse_follows {μ : Nat} {s₀ : State} {s : State} (hm : Nat.lor 144115188075855880 μ = μ) (h₀ : s₀.Follows μ s) :
    s₀.Ends μ (execAlertResponse s) := by
  refine State.Ends.lift hm h₀ ?_
  have h := State.Follows.refl 144115188075855880 s
  unfold execAlertResponse
  repeat' first
    | (with_reducible assumption)
    | (exact (rfl : Nat.lor _ _ = _))
    | (with_reducible refine State.emit_follows ?_ ?_)
    | (with_reducible apply State.Ends.next)
    | (with_reducible apply State.Follows.ite)
    | ((with_reducible apply State.Follows.keep) <;> first | exact trivial | exact rfl | skip)

theorem execDoeDiscovery_follows {μ : Nat} {s₀ : State} {index : Nat} {s : State} (hm : Nat.lor 8 μ = μ) (h₀ : s₀.Follows μ s) :
    s₀.Ends μ (execDoeDiscovery index s) := by
  refine State.Ends.lift hm h₀ ?_
  have h := State.Follows.refl 8 s
  unfold execDoeDiscovery
  repeat' first
    | (with_reducible assumption)
    | (exact (rfl : Nat.lor _ _ = _))
    | (with_reducible refine State.emit_follows ?_ ?_)
    | (with_reducible apply State.Ends.next)

end Sys2Proof.Machine
end

