-- ==== Sys2Proof/Laws/Exec.lean ====
section
/-!
SUPPORT. Every command answers a next state that keeps the relation `State.Follows` with the mask of what the command may
change: one citation an arm.
-/
namespace Sys2Proof.Machine
open Sys2Proof

/-- A component's place in a mask. -/
def Comp.place : Comp → Nat
  | .time => 0
  | .timeRuns => 1
  | .freeCtr => 2
  | .out => 3
  | .regs => 4
  | .latchHi => 5
  | .heldLow => 6
  | .rwlLocked => 7
  | .log => 8
  | .irq => 9
  | .fuses => 10
  | .arm => 11
  | .img => 12
  | .armFloor => 13
  | .heldSeal => 14
  | .arrays => 15
  | .fmts => 16
  | .fmtResets => 17
  | .cals => 18
  | .calStores => 19
  | .calSaves => 20
  | .cores => 21
  | .clusters => 22
  | .engines => 23
  | .handoffs => 24
  | .msgs => 25
  | .nextMsg => 26
  | .lanes => 27
  | .slices => 28
  | .unreachable => 29
  | .paced => 30
  | .peds => 31
  | .kvSeqs => 32
  | .parts => 33
  | .kvPools => 34
  | .prefixes => 35
  | .spills => 36
  | .emptyMarks => 37
  | .flushing => 38
  | .noFrame => 39
  | .wslots => 40
  | .winsts => 41
  | .wloads => 42
  | .insts => 43
  | .seqs => 44
  | .subRings => 45
  | .recRings => 46
  | .subLast => 47
  | .schStatus => 48
  | .schCmd => 49
  | .smpRows => 50
  | .grammars => 51
  | .grmCache => 52
  | .ports => 53
  | .cmd => 54
  | .evrInFlight => 55
  | .mgmtEid => 56
  | .araMask => 57
  | .ftrStale => 58
  | .icpIn => 59
  | .icps => 60
  | .sync => 61
  | .replicas => 62
  | .digests => 63
  | .reserves => 64
  | .takeovers => 65
  | .arrTakeovers => 66
  | .unbacked => 67
  | .tests => 68
  | .advice => 69
  | .domains => 70
  | .pwr => 71
  | .clk => 72
  | .hka => 73
  | .thm => 74
  | .weightKeys => 75
  | .sec => 76
  | .tapIr => 77
  | .tapCells => 78

/-- The mask of a list of components. -/
def Comp.mask : List Comp → Nat
  | [] => 0
  | p :: ps => Nat.lor (2 ^ p.place) (Comp.mask ps)

/-- The component at a place. -/
def Comp.at (k : Nat) : Comp := (Comp.all[k]?).getD .time

theorem Comp.at_place (p : Comp) : Comp.at p.place = p := by cases p <;> rfl

theorem Comp.place_inj {p q : Comp} (h : p.place = q.place) : p = q := by
  rw [← Comp.at_place p, h, Comp.at_place q]

theorem Comp.testBit_mask {p : Comp} {ps : List Comp} (h : p ∉ ps) : (Comp.mask ps).testBit p.place = false := by
  induction ps with
  | nil => exact Nat.zero_testBit _
  | cons q ps ih =>
    rw [List.mem_cons, not_or] at h
    show (2 ^ q.place ||| Comp.mask ps).testBit p.place = false
    rw [Nat.testBit_or, ih h.2, Bool.or_false, Nat.testBit_two_pow, decide_eq_false_iff_not]
    exact fun e => h.1 (Comp.place_inj e).symm

theorem of_bif_eq {α : Type} {b : Bool} {d x y : α} (hb : b = false) (e : (bif b then d else x) = (bif b then d else y)) :
    x = y := by subst hb; exact e

/-- States that are equal outside a mask agree on each component outside it. -/
theorem State.agreesAt_of_erase {ps : List Comp} {s t : State} (e : t.erase (Comp.mask ps) = s.erase (Comp.mask ps)) {p : Comp}
    (h : p ∉ ps) : s.agreesAt t p := by
  have hb := Comp.testBit_mask h
  cases p
  · exact of_bif_eq hb (congrArg State.time e)
  · exact of_bif_eq hb (congrArg State.timeRuns e)
  · exact of_bif_eq hb (congrArg State.freeCtr e)
  · exact of_bif_eq hb (congrArg State.out e)
  · exact of_bif_eq hb (congrArg State.regs e)
  · exact of_bif_eq hb (congrArg State.latchHi e)
  · exact of_bif_eq hb (congrArg State.heldLow e)
  · exact of_bif_eq hb (congrArg State.rwlLocked e)
  · exact of_bif_eq hb (congrArg State.log e)
  · exact of_bif_eq hb (congrArg State.irq e)
  · exact of_bif_eq hb (congrArg State.fuses e)
  · exact of_bif_eq hb (congrArg State.arm e)
  · exact of_bif_eq hb (congrArg State.img e)
  · exact of_bif_eq hb (congrArg State.armFloor e)
  · exact of_bif_eq hb (congrArg State.heldSeal e)
  · exact of_bif_eq hb (congrArg State.arrays e)
  · exact of_bif_eq hb (congrArg State.fmts e)
  · exact of_bif_eq hb (congrArg State.fmtResets e)
  · exact of_bif_eq hb (congrArg State.cals e)
  · exact of_bif_eq hb (congrArg State.calStores e)
  · exact of_bif_eq hb (congrArg State.calSaves e)
  · exact of_bif_eq hb (congrArg State.cores e)
  · exact of_bif_eq hb (congrArg State.clusters e)
  · exact of_bif_eq hb (congrArg State.engines e)
  · exact of_bif_eq hb (congrArg State.handoffs e)
  · exact of_bif_eq hb (congrArg State.msgs e)
  · exact of_bif_eq hb (congrArg State.nextMsg e)
  · exact of_bif_eq hb (congrArg State.lanes e)
  · exact of_bif_eq hb (congrArg State.slices e)
  · exact of_bif_eq hb (congrArg State.unreachable e)
  · exact of_bif_eq hb (congrArg State.paced e)
  · exact of_bif_eq hb (congrArg State.peds e)
  · exact of_bif_eq hb (congrArg State.kvSeqs e)
  · exact of_bif_eq hb (congrArg State.parts e)
  · exact of_bif_eq hb (congrArg State.kvPools e)
  · exact of_bif_eq hb (congrArg State.prefixes e)
  · exact of_bif_eq hb (congrArg State.spills e)
  · exact of_bif_eq hb (congrArg State.emptyMarks e)
  · exact of_bif_eq hb (congrArg State.flushing e)
  · exact of_bif_eq hb (congrArg State.noFrame e)
  · exact of_bif_eq hb (congrArg State.wslots e)
  · exact of_bif_eq hb (congrArg State.winsts e)
  · exact of_bif_eq hb (congrArg State.wloads e)
  · exact of_bif_eq hb (congrArg State.insts e)
  · exact of_bif_eq hb (congrArg State.seqs e)
  · exact of_bif_eq hb (congrArg State.subRings e)
  · exact of_bif_eq hb (congrArg State.recRings e)
  · exact of_bif_eq hb (congrArg State.subLast e)
  · exact of_bif_eq hb (congrArg State.schStatus e)
  · exact of_bif_eq hb (congrArg State.schCmd e)
  · exact of_bif_eq hb (congrArg State.smpRows e)
  · exact of_bif_eq hb (congrArg State.grammars e)
  · exact of_bif_eq hb (congrArg State.grmCache e)
  · exact of_bif_eq hb (congrArg State.ports e)
  · exact of_bif_eq hb (congrArg State.cmd e)
  · exact of_bif_eq hb (congrArg State.evrInFlight e)
  · exact of_bif_eq hb (congrArg State.mgmtEid e)
  · exact of_bif_eq hb (congrArg State.araMask e)
  · exact of_bif_eq hb (congrArg State.ftrStale e)
  · exact of_bif_eq hb (congrArg State.icpIn e)
  · exact of_bif_eq hb (congrArg State.icps e)
  · exact of_bif_eq hb (congrArg State.sync e)
  · exact of_bif_eq hb (congrArg State.replicas e)
  · exact of_bif_eq hb (congrArg State.digests e)
  · exact of_bif_eq hb (congrArg State.reserves e)
  · exact of_bif_eq hb (congrArg State.takeovers e)
  · exact of_bif_eq hb (congrArg State.arrTakeovers e)
  · exact of_bif_eq hb (congrArg State.unbacked e)
  · exact of_bif_eq hb (congrArg State.tests e)
  · exact of_bif_eq hb (congrArg State.advice e)
  · exact of_bif_eq hb (congrArg State.domains e)
  · exact of_bif_eq hb (congrArg State.pwr e)
  · exact of_bif_eq hb (congrArg State.clk e)
  · exact of_bif_eq hb (congrArg State.hka e)
  · exact of_bif_eq hb (congrArg State.thm e)
  · exact of_bif_eq hb (congrArg State.weightKeys e)
  · exact of_bif_eq hb (congrArg State.sec e)
  · exact of_bif_eq hb (congrArg State.tapIr e)
  · exact of_bif_eq hb (congrArg State.tapCells e)

/-- The outcome of `exec` is a next state, and that state follows the state it started from. -/
theorem exec_ends (c : Instr) (s : State) : s.Ends (Comp.mask (touches c)) (exec c s) := by
  have h := State.Follows.refl (Comp.mask (touches c)) s
  match c with
  | .registerWrite port bar off size value =>
    exact exec_registerWrite port bar off size value s ▸ execRegisterWrite_follows (port := port) (bar := bar) (off := off) (size := size) (value := value) 
      (show Nat.lor 566517957247693234363388 (Comp.mask (Comp.allBut [.time, .timeRuns, .fuses, .armFloor, .slices, .unreachable, .reserves, .unbacked, .weightKeys])) = Comp.mask (Comp.allBut [.time, .timeRuns, .fuses, .armFloor, .slices, .unreachable, .reserves, .unbacked, .weightKeys]) from rfl) h
  | .lowRegisterRead port off size =>
    exact exec_lowRegisterRead port off size s ▸ execLowRegisterRead_follows (port := port) (off := off) (size := size) 
      (show Nat.lor 153122387330597692 (Comp.mask (Comp.withEvents [.freeCtr, .latchHi])) = Comp.mask (Comp.withEvents [.freeCtr, .latchHi]) from rfl) h
  | .misalignedRead port bar off size =>
    exact exec_misalignedRead port bar off size s ▸ execMisalignedRead_follows (port := port) (bar := bar) (off := off) (size := size) 
      (show Nat.lor 153122387330597692 (Comp.mask (Comp.withEvents [.freeCtr, .latchHi])) = Comp.mask (Comp.withEvents [.freeCtr, .latchHi]) from rfl) h
  | .inputValid =>
    exact exec_inputValid s ▸ execInputValid_follows 
      (show Nat.lor 2361183241434822606848 (Comp.mask ([.pwr])) = Comp.mask ([.pwr]) from rfl) h
  | .railsInRegulation slotId strap =>
    exact exec_railsInRegulation slotId strap s ▸ execRailsInRegulation_follows (slotId := slotId) (strap := strap) 
      (show Nat.lor 2361183241434822607872 (Comp.mask ([.fuses, .pwr])) = Comp.mask ([.fuses, .pwr]) from rfl) h
  | .friezePllLock identityOk =>
    exact exec_friezePllLock identityOk s ▸ execFriezePllLock_follows (identityOk := identityOk) 
      (show Nat.lor 129866384322807180829471 (Comp.mask (Comp.withEvents [.time, .timeRuns, .freeCtr, .armFloor, .icps, .pwr, .clk, .hka, .weightKeys, .sec])) = Comp.mask (Comp.withEvents [.time, .timeRuns, .freeCtr, .armFloor, .icps, .pwr, .clk, .hka, .weightKeys, .sec]) from rfl) h
  | .corePllLock =>
    exact exec_corePllLock s ▸ execCorePllLock_follows 
      (show Nat.lor 7083549724304474112000 (Comp.mask ([.cores, .clusters, .pwr, .clk])) = Comp.mask ([.cores, .clusters, .pwr, .clk]) from rfl) h
  | .calPoolReadComplete die bad =>
    exact exec_calPoolReadComplete die bad s ▸ execCalPoolReadComplete_follows (die := die) (bad := bad) 
      (show Nat.lor 153122387331416856 (Comp.mask (Comp.withEvents [.arrays, .cals, .calStores])) = Comp.mask (Comp.withEvents [.arrays, .cals, .calStores]) from rfl) h
  | .dawnComplete us =>
    exact exec_dawnComplete us s ▸ execDawnComplete_follows (us := us) 
      (show Nat.lor 2361336363824300688152 (Comp.mask (Comp.withEvents [.peds, .pwr])) = Comp.mask (Comp.withEvents [.peds, .pwr]) from rfl) h
  | .inputOutOfRange mv high =>
    exact exec_inputOutOfRange mv high s ▸ execInputOutOfRange_follows (mv := mv) (high := high) 
      (show Nat.lor 11806069329561443631896 (Comp.mask (Comp.withEvents [.pwr, .hka])) = Comp.mask (Comp.withEvents [.pwr, .hka]) from rfl) h
  | .inputTrip value cause =>
    exact exec_inputTrip value cause s ▸ execInputTrip_follows (value := value) (cause := cause) 
      (show Nat.lor 604462909807314587352051 (Comp.mask (Comp.allBut [.freeCtr, .out, .fuses])) = Comp.mask (Comp.allBut [.freeCtr, .out, .fuses]) from rfl) h
  | .tripRestart now =>
    exact exec_tripRestart now s ▸ execTripRestart_follows (now := now) 
      (show Nat.lor 7083549724304467820544 (Comp.mask ([.pwr, .clk])) = Comp.mask ([.pwr, .clk]) from rfl) h
  | .vinBelow20V =>
    exact exec_vinBelow20V s ▸ execVinBelow20V_follows 
      (show Nat.lor 604462909807314587352051 (Comp.mask (Comp.allBut [.freeCtr, .out, .fuses])) = Comp.mask (Comp.allBut [.freeCtr, .out, .fuses]) from rfl) h
  | .powerPhaseLost rail phase cause =>
    exact exec_powerPhaseLost rail phase cause s ▸ execPowerPhaseLost_follows (rail := rail) (phase := phase) (cause := cause) 
      (show Nat.lor 11806069329561443631896 (Comp.mask (Comp.withEvents [.pwr, .hka])) = Comp.mask (Comp.withEvents [.pwr, .hka]) from rfl) h
  | .governorTick demand load govW govE limit paces =>
    exact exec_governorTick demand load govW govE limit paces s ▸ execGovernorTick_follows (demand := demand) (load := load) (govW := govW) (govE := govE) (limit := limit) (paces := paces) 
      (show Nat.lor 11806069329561443631896 (Comp.mask (Comp.withEvents [.pwr, .hka])) = Comp.mask (Comp.withEvents [.pwr, .hka]) from rfl) h
  | .shutdown port =>
    exact exec_shutdown port s ▸ execShutdown_follows (port := port) 
      (show Nat.lor 2361339839376261120792 (Comp.mask (Comp.withStalls [.pwr])) = Comp.mask (Comp.withStalls [.pwr]) from rfl) h
  | .shutdownRailsOff =>
    exact exec_shutdownRailsOff s ▸ execShutdownRailsOff_follows 
      (show Nat.lor 604462909807314587352051 (Comp.mask (Comp.allBut [.freeCtr, .out, .fuses])) = Comp.mask (Comp.allBut [.freeCtr, .out, .fuses]) from rfl) h
  | .powerStateEntry domain kind next paces =>
    exact exec_powerStateEntry domain kind next paces s ▸ execPowerStateEntry_follows (domain := domain) (kind := kind) (next := next) (paces := paces) 
      (show Nat.lor 81756146500968286290712 (Comp.mask (Comp.withEvents [.arrays, .cals, .cores, .clusters, .engines, .handoffs, .peds, .smpRows, .grmCache, .cmd, .tests, .domains, .clk, .sec])) = Comp.mask (Comp.withEvents [.arrays, .cals, .cores, .clusters, .engines, .handoffs, .peds, .smpRows, .grmCache, .cmd, .tests, .domains, .clk, .sec]) from rfl) h
  | .wakeStart domain delayed =>
    exact exec_wakeStart domain delayed s ▸ execWakeStart_follows (domain := domain) (delayed := delayed) 
      (show Nat.lor 1180591620717411303440 (Comp.mask ([.regs, .domains])) = Comp.mask ([.regs, .domains]) from rfl) h
  | .wakeComplete domain us identityOk =>
    exact exec_wakeComplete domain us identityOk s ▸ execWakeComplete_follows (domain := domain) (us := us) (identityOk := identityOk) 
      (show Nat.lor 140490555987761425285912 (Comp.mask (Comp.withEvents [.cores, .peds, .domains, .pwr, .clk, .thm, .weightKeys, .sec])) = Comp.mask (Comp.withEvents [.cores, .peds, .domains, .pwr, .clk, .thm, .weightKeys, .sec]) from rfl) h
  | .crystalLock =>
    exact exec_crystalLock s ▸ execCrystalLock_follows 
      (show Nat.lor 4722366482869645213696 (Comp.mask ([.clk])) = Comp.mask ([.clk]) from rfl) h
  | .crystalTimeout =>
    exact exec_crystalTimeout s ▸ execCrystalTimeout_follows 
      (show Nat.lor 4722519605256975811352 (Comp.mask (Comp.withEvents [.clk])) = Comp.mask (Comp.withEvents [.clk]) from rfl) h
  | .crystalStopped =>
    exact exec_crystalStopped s ▸ execCrystalStopped_follows 
      (show Nat.lor 4722519605256975811352 (Comp.mask (Comp.withEvents [.clk])) = Comp.mask (Comp.withEvents [.clk]) from rfl) h
  | .referenceLost =>
    exact exec_referenceLost s ▸ execReferenceLost_follows 
      (show Nat.lor 14167252570996266238744 (Comp.mask (Comp.withEvents [.clk, .hka])) = Comp.mask (Comp.withEvents [.clk, .hka]) from rfl) h
  | .referenceReturn =>
    exact exec_referenceReturn s ▸ execReferenceReturn_follows 
      (show Nat.lor 24792424035065637371904 (Comp.mask ([.domains, .clk, .thm])) = Comp.mask ([.domains, .clk, .thm]) from rfl) h
  | .deviceReset by_ =>
    exact exec_deviceReset by_ s ▸ execDeviceReset_follows (by_ := by_) 
      (show Nat.lor 566517957247693234363384 (Comp.mask (Comp.allBut [.time, .timeRuns, .freeCtr, .fuses, .armFloor, .slices, .unreachable, .reserves, .unbacked, .weightKeys])) = Comp.mask (Comp.allBut [.time, .timeRuns, .freeCtr, .fuses, .armFloor, .slices, .unreachable, .reserves, .unbacked, .weightKeys]) from rfl) h
  | .perstAssertion port =>
    exact exec_perstAssertion port s ▸ execPerstAssertion_follows (port := port) 
      (show Nat.lor 75558366157770646883192 (Comp.mask (Comp.withEvents [.latchHi, .heldLow, .arm, .peds, .kvPools, .prefixes, .spills, .wslots, .winsts, .wloads, .insts, .seqs, .subRings, .recRings, .subLast, .grammars, .grmCache, .cmd, .evrInFlight, .ftrStale, .sec])) = Comp.mask (Comp.withEvents [.latchHi, .heldLow, .arm, .peds, .kvPools, .prefixes, .spills, .wslots, .winsts, .wloads, .insts, .seqs, .subRings, .recRings, .subLast, .grammars, .grmCache, .cmd, .evrInFlight, .ftrStale, .sec]) from rfl) h
  | .hotReset port =>
    exact exec_hotReset port s ▸ execHotReset_follows (port := port) 
      (show Nat.lor 75558366157770646883192 (Comp.mask (Comp.withEvents [.latchHi, .heldLow, .arm, .peds, .kvPools, .prefixes, .spills, .wslots, .winsts, .wloads, .insts, .seqs, .subRings, .recRings, .subLast, .grammars, .grmCache, .cmd, .evrInFlight, .ftrStale, .sec])) = Comp.mask (Comp.withEvents [.latchHi, .heldLow, .arm, .peds, .kvPools, .prefixes, .spills, .wslots, .winsts, .wloads, .insts, .seqs, .subRings, .recRings, .subLast, .grammars, .grmCache, .cmd, .evrInFlight, .ftrStale, .sec]) from rfl) h
  | .functionLevelReset port =>
    exact exec_functionLevelReset port s ▸ execFunctionLevelReset_follows (port := port) 
      (show Nat.lor 75558366157770646883192 (Comp.mask (Comp.withEvents [.latchHi, .heldLow, .arm, .peds, .kvPools, .prefixes, .spills, .wslots, .winsts, .wloads, .insts, .seqs, .subRings, .recRings, .subLast, .grammars, .grmCache, .cmd, .evrInFlight, .ftrStale, .sec])) = Comp.mask (Comp.withEvents [.latchHi, .heldLow, .arm, .peds, .kvPools, .prefixes, .spills, .wslots, .winsts, .wloads, .insts, .seqs, .subRings, .recRings, .subLast, .grammars, .grmCache, .cmd, .evrInFlight, .ftrStale, .sec]) from rfl) h
  | .d3hotToD0 port =>
    exact exec_d3hotToD0 port s ▸ execD3hotToD0_follows (port := port) 
      (show Nat.lor 75558366157770646883192 (Comp.mask (Comp.withEvents [.latchHi, .heldLow, .arm, .peds, .kvPools, .prefixes, .spills, .wslots, .winsts, .wloads, .insts, .seqs, .subRings, .recRings, .subLast, .grammars, .grmCache, .cmd, .evrInFlight, .ftrStale, .sec])) = Comp.mask (Comp.withEvents [.latchHi, .heldLow, .arm, .peds, .kvPools, .prefixes, .spills, .wslots, .winsts, .wloads, .insts, .seqs, .subRings, .recRings, .subLast, .grammars, .grmCache, .cmd, .evrInFlight, .ftrStale, .sec]) from rfl) h
  | .perstDeassertion port =>
    exact exec_perstDeassertion port s ▸ execPerstDeassertion_follows (port := port) 
      (show Nat.lor 9007199254740992 (Comp.mask ([.ports])) = Comp.mask ([.ports]) from rfl) h
  | .portLinkUp port speed width msixEnable funcMask busMaster =>
    exact exec_portLinkUp port speed width msixEnable funcMask busMaster s ▸ execPortLinkUp_follows (port := port) (speed := speed) (width := width) (msixEnable := msixEnable) (funcMask := funcMask) (busMaster := busMaster) 
      (show Nat.lor 171171970212168472 (Comp.mask (Comp.withEvents [.subRings, .cmd])) = Comp.mask (Comp.withEvents [.subRings, .cmd]) from rfl) h
  | .portLinkDown port cause =>
    exact exec_portLinkDown port cause s ▸ execPortLinkDown_follows (port := port) (cause := cause) 
      (show Nat.lor 214201480171752216 (Comp.mask (Comp.withEvents [.arm, .peds, .kvPools, .prefixes, .spills, .wslots, .winsts, .wloads, .insts, .seqs, .subRings, .recRings, .subLast, .grammars, .grmCache, .cmd, .evrInFlight])) = Comp.mask (Comp.withEvents [.arm, .peds, .kvPools, .prefixes, .spills, .wslots, .winsts, .wloads, .insts, .seqs, .subRings, .recRings, .subLast, .grammars, .grmCache, .cmd, .evrInFlight]) from rfl) h
  | .completionTimeout unit =>
    exact exec_completionTimeout unit s ▸ execCompletionTimeout_follows (unit := unit) 
      (show Nat.lor 214201480171752216 (Comp.mask (Comp.withEvents [.arm, .peds, .kvPools, .prefixes, .spills, .wslots, .winsts, .wloads, .insts, .seqs, .subRings, .recRings, .subLast, .grammars, .grmCache, .cmd, .evrInFlight])) = Comp.mask (Comp.withEvents [.arm, .peds, .kvPools, .prefixes, .spills, .wslots, .winsts, .wloads, .insts, .seqs, .subRings, .recRings, .subLast, .grammars, .grmCache, .cmd, .evrInFlight]) from rfl) h
  | .armLoad port =>
    exact exec_armLoad port s ▸ execArmLoad_follows (port := port) 
      (show Nat.lor 153122387330599704 (Comp.mask (Comp.withEvents [.arm])) = Comp.mask (Comp.withEvents [.arm]) from rfl) h
  | .armSeal port =>
    exact exec_armSeal port s ▸ execArmSeal_follows (port := port) 
      (show Nat.lor 153122387330616088 (Comp.mask (Comp.withEvents [.arm, .heldSeal])) = Comp.mask (Comp.withEvents [.arm, .heldSeal]) from rfl) h
  | .armDiscard port =>
    exact exec_armDiscard port s ▸ execArmDiscard_follows (port := port) 
      (show Nat.lor 171136785840081688 (Comp.mask (Comp.withEvents [.arm, .cmd])) = Comp.mask (Comp.withEvents [.arm, .cmd]) from rfl) h
  | .imageFetchComplete image =>
    exact exec_imageFetchComplete image s ▸ execImageFetchComplete_follows (image := image) 
      (show Nat.lor 2048 (Comp.mask ([.arm])) = Comp.mask ([.arm]) from rfl) h
  | .imageFetchError =>
    exact exec_imageFetchError s ▸ execImageFetchError_follows 
      (show Nat.lor 171136785840081688 (Comp.mask (Comp.withEvents [.arm, .cmd])) = Comp.mask (Comp.withEvents [.arm, .cmd]) from rfl) h
  | .imageFetchTimeout =>
    exact exec_imageFetchTimeout s ▸ execImageFetchTimeout_follows 
      (show Nat.lor 171136785840081688 (Comp.mask (Comp.withEvents [.arm, .cmd])) = Comp.mask (Comp.withEvents [.arm, .cmd]) from rfl) h
  | .validationComplete =>
    exact exec_validationComplete s ▸ execValidationComplete_follows 
      (show Nat.lor 171136785840081688 (Comp.mask (Comp.withEvents [.arm, .cmd])) = Comp.mask (Comp.withEvents [.arm, .cmd]) from rfl) h
  | .sealApplyComplete =>
    exact exec_sealApplyComplete s ▸ execSealApplyComplete_follows 
      (show Nat.lor 75861832036515976575896 (Comp.mask (Comp.withEvents [.rwlLocked, .arm, .img, .armFloor, .heldSeal, .arrays, .fmts, .fmtResets, .cores, .handoffs, .msgs, .paced, .peds, .kvSeqs, .parts, .kvPools, .prefixes, .spills, .emptyMarks, .flushing, .noFrame, .wslots, .winsts, .wloads, .insts, .seqs, .recRings, .grammars, .cmd, .icpIn, .icps, .sync, .replicas, .tests, .sec])) = Comp.mask (Comp.withEvents [.rwlLocked, .arm, .img, .armFloor, .heldSeal, .arrays, .fmts, .fmtResets, .cores, .handoffs, .msgs, .paced, .peds, .kvSeqs, .parts, .kvPools, .prefixes, .spills, .emptyMarks, .flushing, .noFrame, .wslots, .winsts, .wloads, .insts, .seqs, .recRings, .grammars, .cmd, .icpIn, .icps, .sync, .replicas, .tests, .sec]) from rfl) h
  | .strikeLatch core pos =>
    exact exec_strikeLatch core pos s ▸ execStrikeLatch_follows (core := core) (pos := pos) 
      (show Nat.lor 153122387333055256 (Comp.mask (Comp.withEvents [.arrays, .fmts, .cals, .cores])) = Comp.mask (Comp.withEvents [.arrays, .fmts, .cals, .cores]) from rfl) h
  | .strikeBoundary core pos conv overs =>
    exact exec_strikeBoundary core pos conv overs s ▸ execStrikeBoundary_follows (core := core) (pos := pos) (conv := conv) (overs := overs) 
      (show Nat.lor 2195472 (Comp.mask ([.regs, .arrays, .fmts, .cores])) = Comp.mask ([.regs, .arrays, .fmts, .cores]) from rfl) h
  | .laneCorrectionReady core pos =>
    exact exec_laneCorrectionReady core pos s ▸ execLaneCorrectionReady_follows (core := core) (pos := pos) 
      (show Nat.lor 2129920 (Comp.mask ([.arrays, .cores])) = Comp.mask ([.arrays, .cores]) from rfl) h
  | .fallbackComplete core pos =>
    exact exec_fallbackComplete core pos s ▸ execFallbackComplete_follows (core := core) (pos := pos) 
      (show Nat.lor 2129936 (Comp.mask ([.regs, .arrays, .cores])) = Comp.mask ([.regs, .arrays, .cores]) from rfl) h
  | .groupResultWrite core =>
    exact exec_groupResultWrite core s ▸ execGroupResultWrite_follows (core := core) 
      (show Nat.lor 590448932746046735128 (Comp.mask (Comp.withEvents [.cores, .engines, .advice])) = Comp.mask (Comp.withEvents [.cores, .engines, .advice]) from rfl) h
  | .tileBoundary core pos =>
    exact exec_tileBoundary core pos s ▸ execTileBoundary_follows (core := core) (pos := pos) 
      (show Nat.lor 2951632174181943903000 (Comp.mask (Comp.withEvents [.arrays, .cals, .calStores, .cores, .engines, .paced, .advice, .pwr])) = Comp.mask (Comp.withEvents [.arrays, .cals, .calStores, .cores, .engines, .paced, .advice, .pwr]) from rfl) h
  | .planeLoadStart core pos =>
    exact exec_planeLoadStart core pos s ▸ execPlaneLoadStart_follows (core := core) (pos := pos) 
      (show Nat.lor 32768 (Comp.mask ([.arrays])) = Comp.mask ([.arrays]) from rfl) h
  | .planeRowWritten core pos parityOk =>
    exact exec_planeRowWritten core pos parityOk s ▸ execPlaneRowWritten_follows (core := core) (pos := pos) (parityOk := parityOk) 
      (show Nat.lor 572023678624996819736 (Comp.mask (Comp.withStalls [.arrays, .cals, .cores, .handoffs, .msgs, .cmd, .reserves, .takeovers, .arrTakeovers, .unbacked, .tests])) = Comp.mask (Comp.withStalls [.arrays, .cals, .cores, .handoffs, .msgs, .cmd, .reserves, .takeovers, .arrTakeovers, .unbacked, .tests]) from rfl) h
  | .planeLoadComplete core pos =>
    exact exec_planeLoadComplete core pos s ▸ execPlaneLoadComplete_follows (core := core) (pos := pos) 
      (show Nat.lor 664235909040884974360 (Comp.mask (Comp.withEvents [.arrays, .cores, .engines, .arrTakeovers, .advice])) = Comp.mask (Comp.withEvents [.arrays, .cores, .engines, .arrTakeovers, .advice]) from rfl) h
  | .arrayTestRead core pos value =>
    exact exec_arrayTestRead core pos value s ▸ execArrayTestRead_follows (core := core) (pos := pos) (value := value) 
      (show Nat.lor 153122387330630424 (Comp.mask (Comp.withEvents [.arrays])) = Comp.mask (Comp.withEvents [.arrays]) from rfl) h
  | .arrayTestReadDone core pos =>
    exact exec_arrayTestReadDone core pos s ▸ execArrayTestReadDone_follows (core := core) (pos := pos) 
      (show Nat.lor 32768 (Comp.mask ([.arrays])) = Comp.mask ([.arrays]) from rfl) h
  | .tileCheckComplete core pos =>
    exact exec_tileCheckComplete core pos s ▸ execTileCheckComplete_follows (core := core) (pos := pos) 
      (show Nat.lor 1162319488983702536984 (Comp.mask (Comp.withStalls [.arrays, .fmts, .cals, .cores, .handoffs, .msgs, .cmd, .reserves, .takeovers, .arrTakeovers, .unbacked, .tests, .advice])) = Comp.mask (Comp.withStalls [.arrays, .fmts, .cals, .cores, .handoffs, .msgs, .cmd, .reserves, .takeovers, .arrTakeovers, .unbacked, .tests, .advice]) from rfl) h
  | .groupCompare core =>
    exact exec_groupCompare core s ▸ execGroupCompare_follows (core := core) 
      (show Nat.lor 2097168 (Comp.mask ([.regs, .cores])) = Comp.mask ([.regs, .cores]) from rfl) h
  | .arbitrationComplete primary missP missS =>
    exact exec_arbitrationComplete primary missP missS s ▸ execArbitrationComplete_follows (primary := primary) (missP := missP) (missS := missS) 
      (show Nat.lor 572023678624996819736 (Comp.mask (Comp.withStalls [.arrays, .cals, .cores, .handoffs, .msgs, .cmd, .reserves, .takeovers, .arrTakeovers, .unbacked, .tests])) = Comp.mask (Comp.withStalls [.arrays, .cals, .cores, .handoffs, .msgs, .cmd, .reserves, .takeovers, .arrTakeovers, .unbacked, .tests]) from rfl) h
  | .layerPassComplete inst layer =>
    exact exec_layerPassComplete inst layer s ▸ execLayerPassComplete_follows (inst := inst) (layer := layer) 
      (show Nat.lor 153122387330663192 (Comp.mask (Comp.withEvents [.fmts])) = Comp.mask (Comp.withEvents [.fmts]) from rfl) h
  | .resetFallback inst port =>
    exact exec_resetFallback inst port s ▸ execResetFallback_follows (inst := inst) (port := port) 
      (show Nat.lor 153122387330794264 (Comp.mask (Comp.withEvents [.fmts, .fmtResets])) = Comp.mask (Comp.withEvents [.fmts, .fmtResets]) from rfl) h
  | .calTurnDue core =>
    exact exec_calTurnDue core s ▸ execCalTurnDue_follows (core := core) 
      (show Nat.lor 294928 (Comp.mask ([.regs, .arrays, .cals])) = Comp.mask ([.regs, .arrays, .cals]) from rfl) h
  | .spareArrayReady core frontOk backOk =>
    exact exec_spareArrayReady core frontOk backOk s ▸ execSpareArrayReady_follows (core := core) (frontOk := frontOk) (backOk := backOk) 
      (show Nat.lor 572023678624996819736 (Comp.mask (Comp.withStalls [.arrays, .cals, .cores, .handoffs, .msgs, .cmd, .reserves, .takeovers, .arrTakeovers, .unbacked, .tests])) = Comp.mask (Comp.withStalls [.arrays, .cals, .cores, .handoffs, .msgs, .cmd, .reserves, .takeovers, .arrTakeovers, .unbacked, .tests]) from rfl) h
  | .calComparisonComplete core conv overs =>
    exact exec_calComparisonComplete core conv overs s ▸ execCalComparisonComplete_follows (core := core) (conv := conv) (overs := overs) 
      (show Nat.lor 294928 (Comp.mask ([.regs, .arrays, .cals])) = Comp.mask ([.regs, .arrays, .cals]) from rfl) h
  | .calFitComplete core =>
    exact exec_calFitComplete core s ▸ execCalFitComplete_follows (core := core) 
      (show Nat.lor 1162319488983702995736 (Comp.mask (Comp.withStalls [.arrays, .cals, .calStores, .cores, .handoffs, .msgs, .cmd, .reserves, .takeovers, .arrTakeovers, .unbacked, .tests, .advice])) = Comp.mask (Comp.withStalls [.arrays, .cals, .calStores, .cores, .handoffs, .msgs, .cmd, .reserves, .takeovers, .arrTakeovers, .unbacked, .tests, .advice]) from rfl) h
  | .calTurnLimit core =>
    exact exec_calTurnLimit core s ▸ execCalTurnLimit_follows (core := core) 
      (show Nat.lor 153122387330859800 (Comp.mask (Comp.withEvents [.cals])) = Comp.mask (Comp.withEvents [.cals]) from rfl) h
  | .calPrioritise core pos port =>
    exact exec_calPrioritise core pos port s ▸ execCalPrioritise_follows (core := core) (pos := pos) (port := port) 
      (show Nat.lor 153122387330859800 (Comp.mask (Comp.withEvents [.cals])) = Comp.mask (Comp.withEvents [.cals]) from rfl) h
  | .calSave core port =>
    exact exec_calSave core port s ▸ execCalSave_follows (core := core) (port := port) 
      (show Nat.lor 1572864 (Comp.mask ([.calStores, .calSaves])) = Comp.mask ([.calStores, .calSaves]) from rfl) h
  | .hourlySave =>
    exact exec_hourlySave s ▸ execHourlySave_follows 
      (show Nat.lor 153122387331121944 (Comp.mask (Comp.withEvents [.calStores])) = Comp.mask (Comp.withEvents [.calStores]) from rfl) h
  | .calRecordWriteComplete die verified =>
    exact exec_calRecordWriteComplete die verified s ▸ execCalRecordWriteComplete_follows (die := die) (verified := verified) 
      (show Nat.lor 171136785841685272 (Comp.mask (Comp.withEvents [.arrays, .calStores, .calSaves, .cmd])) = Comp.mask (Comp.withEvents [.arrays, .calStores, .calSaves, .cmd]) from rfl) h
  | .saveHoldExpiry die core pos =>
    exact exec_saveHoldExpiry die core pos s ▸ execSaveHoldExpiry_follows (die := die) (core := core) (pos := pos) 
      (show Nat.lor 524288 (Comp.mask ([.calStores])) = Comp.mask ([.calStores]) from rfl) h
  | .waitTimeout core thread =>
    exact exec_waitTimeout core thread s ▸ execWaitTimeout_follows (core := core) (thread := thread) 
      (show Nat.lor 10485760 (Comp.mask ([.cores, .engines])) = Comp.mask ([.cores, .engines]) from rfl) h
  | .threadWatchdog core thread =>
    exact exec_threadWatchdog core thread s ▸ execThreadWatchdog_follows (core := core) (thread := thread) 
      (show Nat.lor 153122387341083416 (Comp.mask (Comp.withEvents [.cores, .engines])) = Comp.mask (Comp.withEvents [.cores, .engines]) from rfl) h
  | .parityFailure core flight path pos =>
    exact exec_parityFailure core flight path pos s ▸ execParityFailure_follows (core := core) (flight := flight) (path := path) (pos := pos) 
      (show Nat.lor 572023678625613382424 (Comp.mask (Comp.withStalls [.arrays, .cals, .cores, .clusters, .engines, .handoffs, .msgs, .nextMsg, .unreachable, .cmd, .reserves, .takeovers, .arrTakeovers, .unbacked, .tests])) = Comp.mask (Comp.withStalls [.arrays, .cals, .cores, .clusters, .engines, .handoffs, .msgs, .nextMsg, .unreachable, .cmd, .reserves, .takeovers, .arrTakeovers, .unbacked, .tests]) from rfl) h
  | .instructionRetirement core flight =>
    exact exec_instructionRetirement core flight s ▸ execInstructionRetirement_follows (core := core) (flight := flight) 
      (show Nat.lor 590448932746046735128 (Comp.mask (Comp.withEvents [.cores, .engines, .advice])) = Comp.mask (Comp.withEvents [.cores, .engines, .advice]) from rfl) h
  | .completionFault core flight se =>
    exact exec_completionFault core flight se s ▸ execCompletionFault_follows (core := core) (flight := flight) (se := se) 
      (show Nat.lor 156597941453194008 (Comp.mask (Comp.withStalls [.cores, .clusters, .engines])) = Comp.mask (Comp.withStalls [.cores, .clusters, .engines]) from rfl) h
  | .layerBoundary core =>
    exact exec_layerBoundary core s ▸ execLayerBoundary_follows (core := core) 
      (show Nat.lor 295304503121443586840 (Comp.mask (Comp.withStalls [.arrays, .cores, .clusters, .engines, .msgs, .nextMsg, .unreachable, .tests])) = Comp.mask (Comp.withStalls [.arrays, .cores, .clusters, .engines, .msgs, .nextMsg, .unreachable, .tests]) from rfl) h
  | .nop u w =>
    exact exec_nop u w s ▸ execNop_follows (u := u) (w := w) 
      (show Nat.lor 590452408300154651416 (Comp.mask (Comp.withStalls [.cores, .engines, .advice])) = Comp.mask (Comp.withStalls [.cores, .engines, .advice]) from rfl) h
  | .halt u w =>
    exact exec_halt u w s ▸ execHalt_follows (u := u) (w := w) 
      (show Nat.lor 590452408300154651416 (Comp.mask (Comp.withStalls [.cores, .engines, .advice])) = Comp.mask (Comp.withStalls [.cores, .engines, .advice]) from rfl) h
  | .fence u w =>
    exact exec_fence u w s ▸ execFence_follows (u := u) (w := w) 
      (show Nat.lor 590452408300154651416 (Comp.mask (Comp.withStalls [.cores, .engines, .advice])) = Comp.mask (Comp.withStalls [.cores, .engines, .advice]) from rfl) h
  | .layer u w =>
    exact exec_layer u w s ▸ execLayer_follows (u := u) (w := w) 
      (show Nat.lor 590452408300154651416 (Comp.mask (Comp.withStalls [.cores, .engines, .advice])) = Comp.mask (Comp.withStalls [.cores, .engines, .advice]) from rfl) h
  | .wait u w =>
    exact exec_wait u w s ▸ execWait_follows (u := u) (w := w) 
      (show Nat.lor 590452408300154651416 (Comp.mask (Comp.withStalls [.cores, .engines, .advice])) = Comp.mask (Comp.withStalls [.cores, .engines, .advice]) from rfl) h
  | .signal u w =>
    exact exec_signal u w s ▸ execSignal_follows (u := u) (w := w) 
      (show Nat.lor 590452408300792185624 (Comp.mask (Comp.withStalls [.cores, .engines, .msgs, .nextMsg, .unreachable, .advice])) = Comp.mask (Comp.withStalls [.cores, .engines, .msgs, .nextMsg, .unreachable, .advice]) from rfl) h
  | .sread u w =>
    exact exec_sread u w s ▸ execSread_follows (u := u) (w := w) 
      (show Nat.lor 590452408300154651416 (Comp.mask (Comp.withStalls [.cores, .engines, .advice])) = Comp.mask (Comp.withStalls [.cores, .engines, .advice]) from rfl) h
  | .br u w =>
    exact exec_br u w s ▸ execBr_follows (u := u) (w := w) 
      (show Nat.lor 590452408300154651416 (Comp.mask (Comp.withStalls [.cores, .engines, .advice])) = Comp.mask (Comp.withStalls [.cores, .engines, .advice]) from rfl) h
  | .call u w =>
    exact exec_call u w s ▸ execCall_follows (u := u) (w := w) 
      (show Nat.lor 590452408300154651416 (Comp.mask (Comp.withStalls [.cores, .engines, .advice])) = Comp.mask (Comp.withStalls [.cores, .engines, .advice]) from rfl) h
  | .jr u w =>
    exact exec_jr u w s ▸ execJr_follows (u := u) (w := w) 
      (show Nat.lor 590452408300154651416 (Comp.mask (Comp.withStalls [.cores, .engines, .advice])) = Comp.mask (Comp.withStalls [.cores, .engines, .advice]) from rfl) h
  | .loop u w =>
    exact exec_loop u w s ▸ execLoop_follows (u := u) (w := w) 
      (show Nat.lor 590452408300154651416 (Comp.mask (Comp.withStalls [.cores, .engines, .advice])) = Comp.mask (Comp.withStalls [.cores, .engines, .advice]) from rfl) h
  | .add u w =>
    exact exec_add u w s ▸ execAdd_follows (u := u) (w := w) 
      (show Nat.lor 590452408300154651416 (Comp.mask (Comp.withStalls [.cores, .engines, .advice])) = Comp.mask (Comp.withStalls [.cores, .engines, .advice]) from rfl) h
  | .sub u w =>
    exact exec_sub u w s ▸ execSub_follows (u := u) (w := w) 
      (show Nat.lor 590452408300154651416 (Comp.mask (Comp.withStalls [.cores, .engines, .advice])) = Comp.mask (Comp.withStalls [.cores, .engines, .advice]) from rfl) h
  | .mul u w =>
    exact exec_mul u w s ▸ execMul_follows (u := u) (w := w) 
      (show Nat.lor 590452408300154651416 (Comp.mask (Comp.withStalls [.cores, .engines, .advice])) = Comp.mask (Comp.withStalls [.cores, .engines, .advice]) from rfl) h
  | .and u w =>
    exact exec_and u w s ▸ execAnd_follows (u := u) (w := w) 
      (show Nat.lor 590452408300154651416 (Comp.mask (Comp.withStalls [.cores, .engines, .advice])) = Comp.mask (Comp.withStalls [.cores, .engines, .advice]) from rfl) h
  | .or u w =>
    exact exec_or u w s ▸ execOr_follows (u := u) (w := w) 
      (show Nat.lor 590452408300154651416 (Comp.mask (Comp.withStalls [.cores, .engines, .advice])) = Comp.mask (Comp.withStalls [.cores, .engines, .advice]) from rfl) h
  | .xor u w =>
    exact exec_xor u w s ▸ execXor_follows (u := u) (w := w) 
      (show Nat.lor 590452408300154651416 (Comp.mask (Comp.withStalls [.cores, .engines, .advice])) = Comp.mask (Comp.withStalls [.cores, .engines, .advice]) from rfl) h
  | .shl u w =>
    exact exec_shl u w s ▸ execShl_follows (u := u) (w := w) 
      (show Nat.lor 590452408300154651416 (Comp.mask (Comp.withStalls [.cores, .engines, .advice])) = Comp.mask (Comp.withStalls [.cores, .engines, .advice]) from rfl) h
  | .shr u w =>
    exact exec_shr u w s ▸ execShr_follows (u := u) (w := w) 
      (show Nat.lor 590452408300154651416 (Comp.mask (Comp.withStalls [.cores, .engines, .advice])) = Comp.mask (Comp.withStalls [.cores, .engines, .advice]) from rfl) h
  | .sar u w =>
    exact exec_sar u w s ▸ execSar_follows (u := u) (w := w) 
      (show Nat.lor 590452408300154651416 (Comp.mask (Comp.withStalls [.cores, .engines, .advice])) = Comp.mask (Comp.withStalls [.cores, .engines, .advice]) from rfl) h
  | .min u w =>
    exact exec_min u w s ▸ execMin_follows (u := u) (w := w) 
      (show Nat.lor 590452408300154651416 (Comp.mask (Comp.withStalls [.cores, .engines, .advice])) = Comp.mask (Comp.withStalls [.cores, .engines, .advice]) from rfl) h
  | .max u w =>
    exact exec_max u w s ▸ execMax_follows (u := u) (w := w) 
      (show Nat.lor 590452408300154651416 (Comp.mask (Comp.withStalls [.cores, .engines, .advice])) = Comp.mask (Comp.withStalls [.cores, .engines, .advice]) from rfl) h
  | .movi u w =>
    exact exec_movi u w s ▸ execMovi_follows (u := u) (w := w) 
      (show Nat.lor 590452408300154651416 (Comp.mask (Comp.withStalls [.cores, .engines, .advice])) = Comp.mask (Comp.withStalls [.cores, .engines, .advice]) from rfl) h
  | .movhi u w =>
    exact exec_movhi u w s ▸ execMovhi_follows (u := u) (w := w) 
      (show Nat.lor 590452408300154651416 (Comp.mask (Comp.withStalls [.cores, .engines, .advice])) = Comp.mask (Comp.withStalls [.cores, .engines, .advice]) from rfl) h
  | .cmpeq u w =>
    exact exec_cmpeq u w s ▸ execCmpeq_follows (u := u) (w := w) 
      (show Nat.lor 590452408300154651416 (Comp.mask (Comp.withStalls [.cores, .engines, .advice])) = Comp.mask (Comp.withStalls [.cores, .engines, .advice]) from rfl) h
  | .cmpne u w =>
    exact exec_cmpne u w s ▸ execCmpne_follows (u := u) (w := w) 
      (show Nat.lor 590452408300154651416 (Comp.mask (Comp.withStalls [.cores, .engines, .advice])) = Comp.mask (Comp.withStalls [.cores, .engines, .advice]) from rfl) h
  | .cmplt u w =>
    exact exec_cmplt u w s ▸ execCmplt_follows (u := u) (w := w) 
      (show Nat.lor 590452408300154651416 (Comp.mask (Comp.withStalls [.cores, .engines, .advice])) = Comp.mask (Comp.withStalls [.cores, .engines, .advice]) from rfl) h
  | .cmple u w =>
    exact exec_cmple u w s ▸ execCmple_follows (u := u) (w := w) 
      (show Nat.lor 590452408300154651416 (Comp.mask (Comp.withStalls [.cores, .engines, .advice])) = Comp.mask (Comp.withStalls [.cores, .engines, .advice]) from rfl) h
  | .cmpltu u w =>
    exact exec_cmpltu u w s ▸ execCmpltu_follows (u := u) (w := w) 
      (show Nat.lor 590452408300154651416 (Comp.mask (Comp.withStalls [.cores, .engines, .advice])) = Comp.mask (Comp.withStalls [.cores, .engines, .advice]) from rfl) h
  | .pand u w =>
    exact exec_pand u w s ▸ execPand_follows (u := u) (w := w) 
      (show Nat.lor 590452408300154651416 (Comp.mask (Comp.withStalls [.cores, .engines, .advice])) = Comp.mask (Comp.withStalls [.cores, .engines, .advice]) from rfl) h
  | .por u w =>
    exact exec_por u w s ▸ execPor_follows (u := u) (w := w) 
      (show Nat.lor 590452408300154651416 (Comp.mask (Comp.withStalls [.cores, .engines, .advice])) = Comp.mask (Comp.withStalls [.cores, .engines, .advice]) from rfl) h
  | .pnot u w =>
    exact exec_pnot u w s ▸ execPnot_follows (u := u) (w := w) 
      (show Nat.lor 590452408300154651416 (Comp.mask (Comp.withStalls [.cores, .engines, .advice])) = Comp.mask (Comp.withStalls [.cores, .engines, .advice]) from rfl) h
  | .vadd u w =>
    exact exec_vadd u w s ▸ execVadd_follows (u := u) (w := w) 
      (show Nat.lor 590452408300154651416 (Comp.mask (Comp.withStalls [.cores, .engines, .advice])) = Comp.mask (Comp.withStalls [.cores, .engines, .advice]) from rfl) h
  | .vsub u w =>
    exact exec_vsub u w s ▸ execVsub_follows (u := u) (w := w) 
      (show Nat.lor 590452408300154651416 (Comp.mask (Comp.withStalls [.cores, .engines, .advice])) = Comp.mask (Comp.withStalls [.cores, .engines, .advice]) from rfl) h
  | .vmul u w =>
    exact exec_vmul u w s ▸ execVmul_follows (u := u) (w := w) 
      (show Nat.lor 590452408300154651416 (Comp.mask (Comp.withStalls [.cores, .engines, .advice])) = Comp.mask (Comp.withStalls [.cores, .engines, .advice]) from rfl) h
  | .vfma u w =>
    exact exec_vfma u w s ▸ execVfma_follows (u := u) (w := w) 
      (show Nat.lor 590452408300154651416 (Comp.mask (Comp.withStalls [.cores, .engines, .advice])) = Comp.mask (Comp.withStalls [.cores, .engines, .advice]) from rfl) h
  | .vmax u w =>
    exact exec_vmax u w s ▸ execVmax_follows (u := u) (w := w) 
      (show Nat.lor 590452408300154651416 (Comp.mask (Comp.withStalls [.cores, .engines, .advice])) = Comp.mask (Comp.withStalls [.cores, .engines, .advice]) from rfl) h
  | .vmin u w =>
    exact exec_vmin u w s ▸ execVmin_follows (u := u) (w := w) 
      (show Nat.lor 590452408300154651416 (Comp.mask (Comp.withStalls [.cores, .engines, .advice])) = Comp.mask (Comp.withStalls [.cores, .engines, .advice]) from rfl) h
  | .vcvt u w =>
    exact exec_vcvt u w s ▸ execVcvt_follows (u := u) (w := w) 
      (show Nat.lor 590452408300154651416 (Comp.mask (Comp.withStalls [.cores, .engines, .advice])) = Comp.mask (Comp.withStalls [.cores, .engines, .advice]) from rfl) h
  | .vdiv u w =>
    exact exec_vdiv u w s ▸ execVdiv_follows (u := u) (w := w) 
      (show Nat.lor 590452408300154651416 (Comp.mask (Comp.withStalls [.cores, .engines, .advice])) = Comp.mask (Comp.withStalls [.cores, .engines, .advice]) from rfl) h
  | .vrcp u w =>
    exact exec_vrcp u w s ▸ execVrcp_follows (u := u) (w := w) 
      (show Nat.lor 590452408300154651416 (Comp.mask (Comp.withStalls [.cores, .engines, .advice])) = Comp.mask (Comp.withStalls [.cores, .engines, .advice]) from rfl) h
  | .vsqrt u w =>
    exact exec_vsqrt u w s ▸ execVsqrt_follows (u := u) (w := w) 
      (show Nat.lor 590452408300154651416 (Comp.mask (Comp.withStalls [.cores, .engines, .advice])) = Comp.mask (Comp.withStalls [.cores, .engines, .advice]) from rfl) h
  | .vrsqrt u w =>
    exact exec_vrsqrt u w s ▸ execVrsqrt_follows (u := u) (w := w) 
      (show Nat.lor 590452408300154651416 (Comp.mask (Comp.withStalls [.cores, .engines, .advice])) = Comp.mask (Comp.withStalls [.cores, .engines, .advice]) from rfl) h
  | .vexp u w =>
    exact exec_vexp u w s ▸ execVexp_follows (u := u) (w := w) 
      (show Nat.lor 590452408300154651416 (Comp.mask (Comp.withStalls [.cores, .engines, .advice])) = Comp.mask (Comp.withStalls [.cores, .engines, .advice]) from rfl) h
  | .vexp2 u w =>
    exact exec_vexp2 u w s ▸ execVexp2_follows (u := u) (w := w) 
      (show Nat.lor 590452408300154651416 (Comp.mask (Comp.withStalls [.cores, .engines, .advice])) = Comp.mask (Comp.withStalls [.cores, .engines, .advice]) from rfl) h
  | .vlog u w =>
    exact exec_vlog u w s ▸ execVlog_follows (u := u) (w := w) 
      (show Nat.lor 590452408300154651416 (Comp.mask (Comp.withStalls [.cores, .engines, .advice])) = Comp.mask (Comp.withStalls [.cores, .engines, .advice]) from rfl) h
  | .vtanh u w =>
    exact exec_vtanh u w s ▸ execVtanh_follows (u := u) (w := w) 
      (show Nat.lor 590452408300154651416 (Comp.mask (Comp.withStalls [.cores, .engines, .advice])) = Comp.mask (Comp.withStalls [.cores, .engines, .advice]) from rfl) h
  | .vsig u w =>
    exact exec_vsig u w s ▸ execVsig_follows (u := u) (w := w) 
      (show Nat.lor 590452408300154651416 (Comp.mask (Comp.withStalls [.cores, .engines, .advice])) = Comp.mask (Comp.withStalls [.cores, .engines, .advice]) from rfl) h
  | .vsilu u w =>
    exact exec_vsilu u w s ▸ execVsilu_follows (u := u) (w := w) 
      (show Nat.lor 590452408300154651416 (Comp.mask (Comp.withStalls [.cores, .engines, .advice])) = Comp.mask (Comp.withStalls [.cores, .engines, .advice]) from rfl) h
  | .vgelu u w =>
    exact exec_vgelu u w s ▸ execVgelu_follows (u := u) (w := w) 
      (show Nat.lor 590452408300154651416 (Comp.mask (Comp.withStalls [.cores, .engines, .advice])) = Comp.mask (Comp.withStalls [.cores, .engines, .advice]) from rfl) h
  | .vrope u w =>
    exact exec_vrope u w s ▸ execVrope_follows (u := u) (w := w) 
      (show Nat.lor 590452408300154651416 (Comp.mask (Comp.withStalls [.cores, .engines, .advice])) = Comp.mask (Comp.withStalls [.cores, .engines, .advice]) from rfl) h
  | .vsum u w =>
    exact exec_vsum u w s ▸ execVsum_follows (u := u) (w := w) 
      (show Nat.lor 590452408300154651416 (Comp.mask (Comp.withStalls [.cores, .engines, .advice])) = Comp.mask (Comp.withStalls [.cores, .engines, .advice]) from rfl) h
  | .vrmax u w =>
    exact exec_vrmax u w s ▸ execVrmax_follows (u := u) (w := w) 
      (show Nat.lor 590452408300154651416 (Comp.mask (Comp.withStalls [.cores, .engines, .advice])) = Comp.mask (Comp.withStalls [.cores, .engines, .advice]) from rfl) h
  | .vdot u w =>
    exact exec_vdot u w s ▸ execVdot_follows (u := u) (w := w) 
      (show Nat.lor 590452408300154651416 (Comp.mask (Comp.withStalls [.cores, .engines, .advice])) = Comp.mask (Comp.withStalls [.cores, .engines, .advice]) from rfl) h
  | .viadd u w =>
    exact exec_viadd u w s ▸ execViadd_follows (u := u) (w := w) 
      (show Nat.lor 590452408300154651416 (Comp.mask (Comp.withStalls [.cores, .engines, .advice])) = Comp.mask (Comp.withStalls [.cores, .engines, .advice]) from rfl) h
  | .visub u w =>
    exact exec_visub u w s ▸ execVisub_follows (u := u) (w := w) 
      (show Nat.lor 590452408300154651416 (Comp.mask (Comp.withStalls [.cores, .engines, .advice])) = Comp.mask (Comp.withStalls [.cores, .engines, .advice]) from rfl) h
  | .vimul u w =>
    exact exec_vimul u w s ▸ execVimul_follows (u := u) (w := w) 
      (show Nat.lor 590452408300154651416 (Comp.mask (Comp.withStalls [.cores, .engines, .advice])) = Comp.mask (Comp.withStalls [.cores, .engines, .advice]) from rfl) h
  | .viand u w =>
    exact exec_viand u w s ▸ execViand_follows (u := u) (w := w) 
      (show Nat.lor 590452408300154651416 (Comp.mask (Comp.withStalls [.cores, .engines, .advice])) = Comp.mask (Comp.withStalls [.cores, .engines, .advice]) from rfl) h
  | .vior u w =>
    exact exec_vior u w s ▸ execVior_follows (u := u) (w := w) 
      (show Nat.lor 590452408300154651416 (Comp.mask (Comp.withStalls [.cores, .engines, .advice])) = Comp.mask (Comp.withStalls [.cores, .engines, .advice]) from rfl) h
  | .vixor u w =>
    exact exec_vixor u w s ▸ execVixor_follows (u := u) (w := w) 
      (show Nat.lor 590452408300154651416 (Comp.mask (Comp.withStalls [.cores, .engines, .advice])) = Comp.mask (Comp.withStalls [.cores, .engines, .advice]) from rfl) h
  | .vishl u w =>
    exact exec_vishl u w s ▸ execVishl_follows (u := u) (w := w) 
      (show Nat.lor 590452408300154651416 (Comp.mask (Comp.withStalls [.cores, .engines, .advice])) = Comp.mask (Comp.withStalls [.cores, .engines, .advice]) from rfl) h
  | .visar u w =>
    exact exec_visar u w s ▸ execVisar_follows (u := u) (w := w) 
      (show Nat.lor 590452408300154651416 (Comp.mask (Comp.withStalls [.cores, .engines, .advice])) = Comp.mask (Comp.withStalls [.cores, .engines, .advice]) from rfl) h
  | .strike u w =>
    exact exec_strike u w s ▸ execStrike_follows (u := u) (w := w) 
      (show Nat.lor 590452408300154684184 (Comp.mask (Comp.withStalls [.arrays, .cores, .engines, .advice])) = Comp.mask (Comp.withStalls [.arrays, .cores, .engines, .advice]) from rfl) h
  | .gset u w =>
    exact exec_gset u w s ▸ execGset_follows (u := u) (w := w) 
      (show Nat.lor 590452408300154651416 (Comp.mask (Comp.withStalls [.cores, .engines, .advice])) = Comp.mask (Comp.withStalls [.cores, .engines, .advice]) from rfl) h
  | .pload u w =>
    exact exec_pload u w s ▸ execPload_follows (u := u) (w := w) 
      (show Nat.lor 590452408300154684184 (Comp.mask (Comp.withStalls [.arrays, .cores, .engines, .advice])) = Comp.mask (Comp.withStalls [.arrays, .cores, .engines, .advice]) from rfl) h
  | .pswap u w =>
    exact exec_pswap u w s ▸ execPswap_follows (u := u) (w := w) 
      (show Nat.lor 590452408300154684184 (Comp.mask (Comp.withStalls [.arrays, .cores, .engines, .advice])) = Comp.mask (Comp.withStalls [.arrays, .cores, .engines, .advice]) from rfl) h
  | .chisel u w =>
    exact exec_chisel u w s ▸ execChisel_follows (u := u) (w := w) 
      (show Nat.lor 590452408300154651416 (Comp.mask (Comp.withStalls [.cores, .engines, .advice])) = Comp.mask (Comp.withStalls [.cores, .engines, .advice]) from rfl) h
  | .move u w =>
    exact exec_move u w s ▸ execMove_follows (u := u) (w := w) 
      (show Nat.lor 590452408300796379928 (Comp.mask (Comp.withStalls [.cores, .clusters, .engines, .msgs, .nextMsg, .unreachable, .advice])) = Comp.mask (Comp.withStalls [.cores, .clusters, .engines, .msgs, .nextMsg, .unreachable, .advice]) from rfl) h
  | .push u w =>
    exact exec_push u w s ▸ execPush_follows (u := u) (w := w) 
      (show Nat.lor 590452408300796379928 (Comp.mask (Comp.withStalls [.cores, .clusters, .engines, .msgs, .nextMsg, .unreachable, .advice])) = Comp.mask (Comp.withStalls [.cores, .clusters, .engines, .msgs, .nextMsg, .unreachable, .advice]) from rfl) h
  | .pop u w =>
    exact exec_pop u w s ▸ execPop_follows (u := u) (w := w) 
      (show Nat.lor 590452408300154651416 (Comp.mask (Comp.withStalls [.cores, .engines, .advice])) = Comp.mask (Comp.withStalls [.cores, .engines, .advice]) from rfl) h
  | .drop u w =>
    exact exec_drop u w s ▸ execDrop_follows (u := u) (w := w) 
      (show Nat.lor 590452408300154651416 (Comp.mask (Comp.withStalls [.cores, .engines, .advice])) = Comp.mask (Comp.withStalls [.cores, .engines, .advice]) from rfl) h
  | .sedispatch u w =>
    exact exec_sedispatch u w s ▸ execSedispatch_follows (u := u) (w := w) 
      (show Nat.lor 590452408300796379928 (Comp.mask (Comp.withStalls [.cores, .clusters, .engines, .msgs, .nextMsg, .unreachable, .advice])) = Comp.mask (Comp.withStalls [.cores, .clusters, .engines, .msgs, .nextMsg, .unreachable, .advice]) from rfl) h
  | .shand u w =>
    exact exec_shand u w s ▸ execShand_follows (u := u) (w := w) 
      (show Nat.lor 590452408300796379928 (Comp.mask (Comp.withStalls [.cores, .clusters, .engines, .msgs, .nextMsg, .unreachable, .advice])) = Comp.mask (Comp.withStalls [.cores, .clusters, .engines, .msgs, .nextMsg, .unreachable, .advice]) from rfl) h
  | .engineThreadStart ped =>
    exact exec_engineThreadStart ped s ▸ execEngineThreadStart_follows (ped := ped) 
      (show Nat.lor 2155872272 (Comp.mask ([.regs, .engines, .peds])) = Comp.mask ([.regs, .engines, .peds]) from rfl) h
  | .pgatherK u w =>
    exact exec_pgatherK u w s ▸ execPgatherK_follows (u := u) (w := w) 
      (show Nat.lor 590452408300154651416 (Comp.mask (Comp.withStalls [.cores, .engines, .advice])) = Comp.mask (Comp.withStalls [.cores, .engines, .advice]) from rfl) h
  | .pgatherV u w =>
    exact exec_pgatherV u w s ▸ execPgatherV_follows (u := u) (w := w) 
      (show Nat.lor 590452408300154651416 (Comp.mask (Comp.withStalls [.cores, .engines, .advice])) = Comp.mask (Comp.withStalls [.cores, .engines, .advice]) from rfl) h
  | .sinit u w =>
    exact exec_sinit u w s ▸ execSinit_follows (u := u) (w := w) 
      (show Nat.lor 590452408300154651416 (Comp.mask (Comp.withStalls [.cores, .engines, .advice])) = Comp.mask (Comp.withStalls [.cores, .engines, .advice]) from rfl) h
  | .sstep u w =>
    exact exec_sstep u w s ▸ execSstep_follows (u := u) (w := w) 
      (show Nat.lor 590452408300154651420 (Comp.mask (Comp.withStalls [.freeCtr, .cores, .engines, .advice])) = Comp.mask (Comp.withStalls [.freeCtr, .cores, .engines, .advice]) from rfl) h
  | .sacc u w =>
    exact exec_sacc u w s ▸ execSacc_follows (u := u) (w := w) 
      (show Nat.lor 590452408300154651420 (Comp.mask (Comp.withStalls [.freeCtr, .cores, .engines, .advice])) = Comp.mask (Comp.withStalls [.freeCtr, .cores, .engines, .advice]) from rfl) h
  | .snorm u w =>
    exact exec_snorm u w s ▸ execSnorm_follows (u := u) (w := w) 
      (show Nat.lor 590452408300154651420 (Comp.mask (Comp.withStalls [.freeCtr, .cores, .engines, .advice])) = Comp.mask (Comp.withStalls [.freeCtr, .cores, .engines, .advice]) from rfl) h
  | .scomb u w =>
    exact exec_scomb u w s ▸ execScomb_follows (u := u) (w := w) 
      (show Nat.lor 590452408300154651420 (Comp.mask (Comp.withStalls [.freeCtr, .cores, .engines, .advice])) = Comp.mask (Comp.withStalls [.freeCtr, .cores, .engines, .advice]) from rfl) h
  | .seret u w =>
    exact exec_seret u w s ▸ execSeret_follows (u := u) (w := w) 
      (show Nat.lor 590452408300154651416 (Comp.mask (Comp.withStalls [.cores, .engines, .advice])) = Comp.mask (Comp.withStalls [.cores, .engines, .advice]) from rfl) h
  | .scrubPassStart core n mem =>
    exact exec_scrubPassStart core n mem s ▸ execScrubPassStart_follows (core := core) (n := n) (mem := mem) 
      (show Nat.lor 6291456 (Comp.mask ([.cores, .clusters])) = Comp.mask ([.cores, .clusters]) from rfl) h
  | .scrubRead core n mem corrected uncorrectable =>
    exact exec_scrubRead core n mem corrected uncorrectable s ▸ execScrubRead_follows (core := core) (n := n) (mem := mem) (corrected := corrected) (uncorrectable := uncorrectable) 
      (show Nat.lor 153122387336889112 (Comp.mask (Comp.withEvents [.cores, .clusters])) = Comp.mask (Comp.withEvents [.cores, .clusters]) from rfl) h
  | .scratchpadRestart core mem off =>
    exact exec_scratchpadRestart core mem off s ▸ execScratchpadRestart_follows (core := core) (mem := mem) (off := off) 
      (show Nat.lor 572023678624996819736 (Comp.mask (Comp.withStalls [.arrays, .cals, .cores, .handoffs, .msgs, .cmd, .reserves, .takeovers, .arrTakeovers, .unbacked, .tests])) = Comp.mask (Comp.withStalls [.arrays, .cals, .cores, .handoffs, .msgs, .cmd, .reserves, .takeovers, .arrTakeovers, .unbacked, .tests]) from rfl) h
  | .restoreComplete core =>
    exact exec_restoreComplete core s ▸ execRestoreComplete_follows (core := core) 
      (show Nat.lor 156597942090760984 (Comp.mask (Comp.withStalls [.arrays, .cores, .clusters, .engines, .msgs, .nextMsg, .unreachable])) = Comp.mask (Comp.withStalls [.arrays, .cores, .clusters, .engines, .msgs, .nextMsg, .unreachable]) from rfl) h
  | .unify core by_ =>
    exact exec_unify core by_ s ▸ execUnify_follows (core := core) (by_ := by_) 
      (show Nat.lor 153122387332694808 (Comp.mask (Comp.withEvents [.cores])) = Comp.mask (Comp.withEvents [.cores]) from rfl) h
  | .resume core by_ =>
    exact exec_resume core by_ s ▸ execResume_follows (core := core) (by_ := by_) 
      (show Nat.lor 153122387332694808 (Comp.mask (Comp.withEvents [.cores])) = Comp.mask (Comp.withEvents [.cores]) from rfl) h
  | .unifiedEntry core =>
    exact exec_unifiedEntry core s ▸ execUnifiedEntry_follows (core := core) 
      (show Nat.lor 2097152 (Comp.mask ([.cores])) = Comp.mask ([.cores]) from rfl) h
  | .spmAccAddrWrite core port value =>
    exact exec_spmAccAddrWrite core port value s ▸ execSpmAccAddrWrite_follows (core := core) (port := port) (value := value) 
      (show Nat.lor 153122387332694808 (Comp.mask (Comp.withEvents [.cores])) = Comp.mask (Comp.withEvents [.cores]) from rfl) h
  | .spmAccDataHiWrite core port value =>
    exact exec_spmAccDataHiWrite core port value s ▸ execSpmAccDataHiWrite_follows (core := core) (port := port) (value := value) 
      (show Nat.lor 153122387332694872 (Comp.mask (Comp.withEvents [.heldLow, .cores])) = Comp.mask (Comp.withEvents [.heldLow, .cores]) from rfl) h
  | .transitBlockGrant cluster =>
    exact exec_transitBlockGrant cluster s ▸ execTransitBlockGrant_follows (cluster := cluster) 
      (show Nat.lor 6291456 (Comp.mask ([.cores, .clusters])) = Comp.mask ([.cores, .clusters]) from rfl) h
  | .write msg =>
    exact exec_write msg s ▸ execWrite_follows (msg := msg) 
      (show Nat.lor 1306044727348429592 (Comp.mask (Comp.withEvents [.cores, .clusters, .msgs, .peds, .parts, .flushing, .noFrame, .icps])) = Comp.mask (Comp.withEvents [.cores, .clusters, .msgs, .peds, .parts, .flushing, .noFrame, .icps]) from rfl) h
  | .read msg far =>
    exact exec_read msg far s ▸ execRead_follows (msg := msg) (far := far) 
      (show Nat.lor 1882511241348383512 (Comp.mask (Comp.withEvents [.clusters, .msgs, .winsts, .wloads, .icpIn, .icps])) = Comp.mask (Comp.withEvents [.clusters, .msgs, .winsts, .wloads, .icpIn, .icps]) from rfl) h
  | .fabricSignal msg =>
    exact exec_fabricSignal msg s ▸ execFabricSignal_follows (msg := msg) 
      (show Nat.lor 44040216 (Comp.mask ([.out, .regs, .cores, .engines, .msgs])) = Comp.mask ([.out, .regs, .cores, .engines, .msgs]) from rfl) h
  | .dispatch msg =>
    exact exec_dispatch msg s ▸ execDispatch_follows (msg := msg) 
      (show Nat.lor 2197815320 (Comp.mask ([.out, .regs, .handoffs, .msgs, .peds])) = Comp.mask ([.out, .regs, .handoffs, .msgs, .peds]) from rfl) h
  | .register port write off value =>
    exact exec_register port write off value s ▸ execRegister_follows (port := port) (write := write) (off := off) (value := value) 
      (show Nat.lor 566517957247693234363388 (Comp.mask (Comp.allBut [.time, .timeRuns, .fuses, .armFloor, .slices, .unreachable, .reserves, .unbacked, .weightKeys])) = Comp.mask (Comp.allBut [.time, .timeRuns, .fuses, .armFloor, .slices, .unreachable, .reserves, .unbacked, .weightKeys]) from rfl) h
  | .data msg =>
    exact exec_data msg s ▸ execData_follows (msg := msg) 
      (show Nat.lor 39845888 (Comp.mask ([.cores, .clusters, .msgs])) = Comp.mask ([.cores, .clusters, .msgs]) from rfl) h
  | .ack msg =>
    exact exec_ack msg s ▸ execAck_follows (msg := msg) 
      (show Nat.lor 39845888 (Comp.mask ([.cores, .clusters, .msgs])) = Comp.mask ([.cores, .clusters, .msgs]) from rfl) h
  | .nack msg =>
    exact exec_nack msg s ▸ execNack_follows (msg := msg) 
      (show Nat.lor 156597941486748440 (Comp.mask (Comp.withStalls [.cores, .clusters, .engines, .msgs])) = Comp.mask (Comp.withStalls [.cores, .clusters, .engines, .msgs]) from rfl) h
  | .fabricFlit router net port num good kind resent age =>
    exact exec_fabricFlit router net port num good kind resent age s ▸ execFabricFlit_follows (router := router) (net := net) (port := port) (num := num) (good := good) (kind := kind) (resent := resent) (age := age) 
      (show Nat.lor 153122387766805272 (Comp.mask (Comp.withEvents [.msgs, .lanes, .slices])) = Comp.mask (Comp.withEvents [.msgs, .lanes, .slices]) from rfl) h
  | .linkAckTimeout router net port resent =>
    exact exec_linkAckTimeout router net port resent s ▸ execLinkAckTimeout_follows (router := router) (net := net) (port := port) (resent := resent) 
      (show Nat.lor 153122387330597656 (Comp.mask (Comp.withEvents [])) = Comp.mask (Comp.withEvents []) from rfl) h
  | .linkLivenessTimeout router net port =>
    exact exec_linkLivenessTimeout router net port s ▸ execLinkLivenessTimeout_follows (router := router) (net := net) (port := port) 
      (show Nat.lor 153122387766805272 (Comp.mask (Comp.withEvents [.msgs, .lanes, .slices])) = Comp.mask (Comp.withEvents [.msgs, .lanes, .slices]) from rfl) h
  | .idleFlitTimer router net port =>
    exact exec_idleFlitTimer router net port s ▸ execIdleFlitTimer_follows (router := router) (net := net) (port := port) 
      (show Nat.lor 8 (Comp.mask ([.out])) = Comp.mask ([.out]) from rfl) h
  | .urgencyPromotion msg =>
    exact exec_urgencyPromotion msg s ▸ execUrgencyPromotion_follows (msg := msg) 
      (show Nat.lor 33554448 (Comp.mask ([.regs, .msgs])) = Comp.mask ([.regs, .msgs]) from rfl) h
  | .requestTimeout msg =>
    exact exec_requestTimeout msg s ▸ execRequestTimeout_follows (msg := msg) 
      (show Nat.lor 156597941486748440 (Comp.mask (Comp.withStalls [.cores, .clusters, .engines, .msgs])) = Comp.mask (Comp.withStalls [.cores, .clusters, .engines, .msgs]) from rfl) h
  | .dramAccessComplete ped addr write onDie secded bad =>
    exact exec_dramAccessComplete ped addr write onDie secded bad s ▸ execDramAccessComplete_follows (ped := ped) (addr := addr) (write := write) (onDie := onDie) (secded := secded) (bad := bad) 
      (show Nat.lor 156597941438513944 (Comp.mask (Comp.withStalls [])) = Comp.mask (Comp.withStalls []) from rfl) h
  | .dramTimeout ped die =>
    exact exec_dramTimeout ped die s ▸ execDramTimeout_follows (ped := ped) (die := die) 
      (show Nat.lor 156597941438513944 (Comp.mask (Comp.withStalls [])) = Comp.mask (Comp.withStalls []) from rfl) h
  | .refreshDue ped busy =>
    exact exec_refreshDue ped busy s ▸ execRefreshDue_follows (ped := ped) (busy := busy) 
      (show Nat.lor 2147483648 (Comp.mask ([.peds])) = Comp.mask ([.peds]) from rfl) h
  | .patrolPassStart ped =>
    exact exec_patrolPassStart ped s ▸ execPatrolPassStart_follows (ped := ped) 
      (show Nat.lor 2147483664 (Comp.mask ([.regs, .peds])) = Comp.mask ([.regs, .peds]) from rfl) h
  | .ftrBaseWrite port inst value =>
    exact exec_ftrBaseWrite port inst value s ▸ execFtrBaseWrite_follows (port := port) (inst := inst) (value := value) 
      (show Nat.lor 153122387330597656 (Comp.mask (Comp.withEvents [])) = Comp.mask (Comp.withEvents []) from rfl) h
  | .ftrCtlWrite port inst value =>
    exact exec_ftrCtlWrite port inst value s ▸ execFtrCtlWrite_follows (port := port) (inst := inst) (value := value) 
      (show Nat.lor 153122387330597656 (Comp.mask (Comp.withEvents [])) = Comp.mask (Comp.withEvents []) from rfl) h
  | .spillComplete inst slot =>
    exact exec_spillComplete inst slot s ▸ execSpillComplete_follows (inst := inst) (slot := slot) 
      (show Nat.lor 17665200488472 (Comp.mask ([.out, .regs, .kvSeqs, .spills, .seqs])) = Comp.mask ([.out, .regs, .kvSeqs, .spills, .seqs]) from rfl) h
  | .spillRestoreComplete inst slot bytes =>
    exact exec_spillRestoreComplete inst slot bytes s ▸ execSpillRestoreComplete_follows (inst := inst) (slot := slot) (bytes := bytes) 
      (show Nat.lor 17671642939408 (Comp.mask ([.regs, .peds, .parts, .spills, .seqs])) = Comp.mask ([.regs, .peds, .parts, .spills, .seqs]) from rfl) h
  | .farTierLegError inst slot port =>
    exact exec_farTierLegError inst slot port s ▸ execFarTierLegError_follows (inst := inst) (slot := slot) (port := port) 
      (show Nat.lor 153140048236118808 (Comp.mask (Comp.withEvents [.spills, .seqs])) = Comp.mask (Comp.withEvents [.spills, .seqs]) from rfl) h
  | .farTierLinkWaitTimeout inst slot port =>
    exact exec_farTierLinkWaitTimeout inst slot port s ▸ execFarTierLinkWaitTimeout_follows (inst := inst) (slot := slot) (port := port) 
      (show Nat.lor 153140048236118808 (Comp.mask (Comp.withEvents [.spills, .seqs])) = Comp.mask (Comp.withEvents [.spills, .seqs]) from rfl) h
  | .kvFlushComplete inst slot sub =>
    exact exec_kvFlushComplete inst slot sub s ▸ execKvFlushComplete_follows (inst := inst) (slot := slot) (sub := sub) 
      (show Nat.lor 285648879640 (Comp.mask ([.out, .regs, .msgs, .peds, .parts, .flushing])) = Comp.mask ([.out, .regs, .msgs, .peds, .parts, .flushing]) from rfl) h
  | .walkerLineFetch ped =>
    exact exec_walkerLineFetch ped s ▸ execWalkerLineFetch_follows (ped := ped) 
      (show Nat.lor 2147483648 (Comp.mask ([.peds])) = Comp.mask ([.peds]) from rfl) h
  | .pageBufferPrefetch ped thread value =>
    exact exec_pageBufferPrefetch ped thread value s ▸ execPageBufferPrefetch_follows (ped := ped) (thread := thread) (value := value) 
      (show Nat.lor 8388608 (Comp.mask ([.engines])) = Comp.mask ([.engines]) from rfl) h
  | .pfxLoad slot port inst =>
    exact exec_pfxLoad slot port inst s ▸ execPfxLoad_follows (slot := slot) (port := port) (inst := inst) 
      (show Nat.lor 153122438870205208 (Comp.mask (Comp.withEvents [.kvPools, .prefixes])) = Comp.mask (Comp.withEvents [.kvPools, .prefixes]) from rfl) h
  | .pfxUnload slot port =>
    exact exec_pfxUnload slot port s ▸ execPfxUnload_follows (slot := slot) (port := port) 
      (show Nat.lor 153122438870205208 (Comp.mask (Comp.withEvents [.kvPools, .prefixes])) = Comp.mask (Comp.withEvents [.kvPools, .prefixes]) from rfl) h
  | .prefixLoadComplete slot image =>
    exact exec_prefixLoadComplete slot image s ▸ execPrefixLoadComplete_follows (slot := slot) (image := image) 
      (show Nat.lor 171136822347301656 (Comp.mask (Comp.withEvents [.peds, .prefixes, .cmd])) = Comp.mask (Comp.withEvents [.peds, .prefixes, .cmd]) from rfl) h
  | .prefixFetchError slot =>
    exact exec_prefixFetchError slot s ▸ execPrefixFetchError_follows (slot := slot) 
      (show Nat.lor 171136837379687192 (Comp.mask (Comp.withEvents [.kvPools, .prefixes, .cmd])) = Comp.mask (Comp.withEvents [.kvPools, .prefixes, .cmd]) from rfl) h
  | .prefixFetchTimeout slot =>
    exact exec_prefixFetchTimeout slot s ▸ execPrefixFetchTimeout_follows (slot := slot) 
      (show Nat.lor 171136837379687192 (Comp.mask (Comp.withEvents [.kvPools, .prefixes, .cmd])) = Comp.mask (Comp.withEvents [.kvPools, .prefixes, .cmd]) from rfl) h
  | .bind slot port =>
    exact exec_bind slot port s ▸ execBind_follows (slot := slot) (port := port) 
      (show Nat.lor 153125685865480984 (Comp.mask (Comp.withEvents [.wslots, .winsts])) = Comp.mask (Comp.withEvents [.wslots, .winsts]) from rfl) h
  | .unbind slot port =>
    exact exec_unbind slot port s ▸ execUnbind_follows (slot := slot) (port := port) 
      (show Nat.lor 153125685865480984 (Comp.mask (Comp.withEvents [.wslots, .winsts])) = Comp.mask (Comp.withEvents [.wslots, .winsts]) from rfl) h
  | .load slot inst port =>
    exact exec_load slot inst port s ▸ execLoad_follows (slot := slot) (inst := inst) (port := port) 
      (show Nat.lor 153130083911992088 (Comp.mask (Comp.withEvents [.wslots, .winsts, .wloads])) = Comp.mask (Comp.withEvents [.wslots, .winsts, .wloads]) from rfl) h
  | .unload slot inst port =>
    exact exec_unload slot inst port s ▸ execUnload_follows (slot := slot) (inst := inst) (port := port) 
      (show Nat.lor 153125685865480984 (Comp.mask (Comp.withEvents [.wslots, .winsts])) = Comp.mask (Comp.withEvents [.wslots, .winsts]) from rfl) h
  | .switch slot inst nextStep port =>
    exact exec_switch slot inst nextStep port s ▸ execSwitch_follows (slot := slot) (inst := inst) (nextStep := nextStep) (port := port) 
      (show Nat.lor 171144482421474072 (Comp.mask (Comp.withEvents [.wslots, .winsts, .wloads, .cmd])) = Comp.mask (Comp.withEvents [.wslots, .winsts, .wloads, .cmd]) from rfl) h
  | .reload slot inst port =>
    exact exec_reload slot inst port s ▸ execReload_follows (slot := slot) (inst := inst) (port := port) 
      (show Nat.lor 153130083911992088 (Comp.mask (Comp.withEvents [.wslots, .winsts, .wloads])) = Comp.mask (Comp.withEvents [.wslots, .winsts, .wloads]) from rfl) h
  | .bindFetchComplete slot error header sections =>
    exact exec_bindFetchComplete slot error header sections s ▸ execBindFetchComplete_follows (slot := slot) (error := error) (header := header) (sections := sections) 
      (show Nat.lor 171140084374962968 (Comp.mask (Comp.withEvents [.wslots, .winsts, .cmd])) = Comp.mask (Comp.withEvents [.wslots, .winsts, .cmd]) from rfl) h
  | .bindFetchTimeout slot =>
    exact exec_bindFetchTimeout slot s ▸ execBindFetchTimeout_follows (slot := slot) 
      (show Nat.lor 171140084374962968 (Comp.mask (Comp.withEvents [.wslots, .winsts, .cmd])) = Comp.mask (Comp.withEvents [.wslots, .winsts, .cmd]) from rfl) h
  | .loadQueueHead =>
    exact exec_loadQueueHead s ▸ execLoadQueueHead_follows 
      (show Nat.lor 171144482421474072 (Comp.mask (Comp.withEvents [.wslots, .winsts, .wloads, .cmd])) = Comp.mask (Comp.withEvents [.wslots, .winsts, .wloads, .cmd]) from rfl) h
  | .tileRecordFetched error bytes farError =>
    exact exec_tileRecordFetched error bytes farError s ▸ execTileRecordFetched_follows (error := error) (bytes := bytes) (farError := farError) 
      (show Nat.lor 171144484568957720 (Comp.mask (Comp.withEvents [.peds, .wslots, .winsts, .wloads, .cmd])) = Comp.mask (Comp.withEvents [.peds, .wslots, .winsts, .wloads, .cmd]) from rfl) h
  | .setLoadComplete =>
    exact exec_setLoadComplete s ▸ execSetLoadComplete_follows 
      (show Nat.lor 171144484571087640 (Comp.mask (Comp.withEvents [.arrays, .cores, .peds, .wslots, .winsts, .wloads, .cmd])) = Comp.mask (Comp.withEvents [.arrays, .cores, .peds, .wslots, .winsts, .wloads, .cmd]) from rfl) h
  | .loadTimeout slot inst =>
    exact exec_loadTimeout slot inst s ▸ execLoadTimeout_follows (slot := slot) (inst := inst) 
      (show Nat.lor 171144482421474072 (Comp.mask (Comp.withEvents [.wslots, .winsts, .wloads, .cmd])) = Comp.mask (Comp.withEvents [.wslots, .winsts, .wloads, .cmd]) from rfl) h
  | .sqTailWrite ring port value =>
    exact exec_sqTailWrite ring port value s ▸ execSqTailWrite_follows (ring := ring) (port := port) (value := value) 
      (show Nat.lor 153157571702686488 (Comp.mask (Comp.withEvents [.subRings])) = Comp.mask (Comp.withEvents [.subRings]) from rfl) h
  | .sqCfgWrite ring port value =>
    exact exec_sqCfgWrite ring port value s ▸ execSqCfgWrite_follows (ring := ring) (port := port) (value := value) 
      (show Nat.lor 153157571702686488 (Comp.mask (Comp.withEvents [.subRings])) = Comp.mask (Comp.withEvents [.subRings]) from rfl) h
  | .rqHeadWrite ring port value =>
    exact exec_rqHeadWrite ring port value s ▸ execRqHeadWrite_follows (ring := ring) (port := port) (value := value) 
      (show Nat.lor 16 (Comp.mask ([.regs])) = Comp.mask ([.regs]) from rfl) h
  | .rqCfgWrite ring port value =>
    exact exec_rqCfgWrite ring port value s ▸ execRqCfgWrite_follows (ring := ring) (port := port) (value := value) 
      (show Nat.lor 153192756074775320 (Comp.mask (Comp.withEvents [.recRings])) = Comp.mask (Comp.withEvents [.recRings]) from rfl) h
  | .cmdTailWrite port value =>
    exact exec_cmdTailWrite port value s ▸ execCmdTailWrite_follows (port := port) (value := value) 
      (show Nat.lor 171136785840079640 (Comp.mask (Comp.withEvents [.cmd])) = Comp.mask (Comp.withEvents [.cmd]) from rfl) h
  | .evrHeadWrite port value =>
    exact exec_evrHeadWrite port value s ▸ execEvrHeadWrite_follows (port := port) (value := value) 
      (show Nat.lor 16 (Comp.mask ([.regs])) = Comp.mask ([.regs]) from rfl) h
  | .requestDescriptor ring error bytes =>
    exact exec_requestDescriptor ring error bytes s ▸ execRequestDescriptor_follows (ring := ring) (error := error) (bytes := bytes) 
      (show Nat.lor 153376374516613912 (Comp.mask (Comp.withEvents [.wslots, .winsts, .wloads, .subRings, .recRings, .subLast])) = Comp.mask (Comp.withEvents [.wslots, .winsts, .wloads, .subRings, .recRings, .subLast]) from rfl) h
  | .listFetchComplete ring error tokens =>
    exact exec_listFetchComplete ring error tokens s ▸ execListFetchComplete_follows (ring := ring) (error := error) (tokens := tokens) 
      (show Nat.lor 153376374516613912 (Comp.mask (Comp.withEvents [.wslots, .winsts, .wloads, .subRings, .recRings, .subLast])) = Comp.mask (Comp.withEvents [.wslots, .winsts, .wloads, .subRings, .recRings, .subLast]) from rfl) h
  | .requestAccepted ring =>
    exact exec_requestAccepted ring s ▸ execRequestAccepted_follows (ring := ring) 
      (show Nat.lor 155645766516343576 (Comp.mask (Comp.withEvents [.wslots, .winsts, .wloads, .seqs, .subRings, .recRings, .subLast, .grammars])) = Comp.mask (Comp.withEvents [.wslots, .winsts, .wloads, .seqs, .subRings, .recRings, .subLast, .grammars]) from rfl) h
  | .stepBoundary inst =>
    exact exec_stepBoundary inst s ▸ execStepBoundary_follows (inst := inst) 
      (show Nat.lor 2671786480186415055640 (Comp.mask (Comp.withStalls [.fmts, .fmtResets, .engines, .msgs, .wslots, .winsts, .wloads, .grmCache, .cmd, .ftrStale, .icps, .replicas, .digests, .tests, .pwr])) = Comp.mask (Comp.withStalls [.fmts, .fmtResets, .engines, .msgs, .wslots, .winsts, .wloads, .grmCache, .cmd, .ftrStale, .icps, .replicas, .digests, .tests, .pwr]) from rfl) h
  | .stepStart inst delayed =>
    exact exec_stepStart inst delayed s ▸ execStepStart_follows (inst := inst) (delayed := delayed) 
      (show Nat.lor 9445887039536426385432 (Comp.mask ([.out, .regs, .cores, .clusters, .engines, .msgs, .kvSeqs, .insts, .seqs, .smpRows, .icps, .hka])) = Comp.mask ([.out, .regs, .cores, .clusters, .engines, .msgs, .kvSeqs, .insts, .seqs, .smpRows, .icps, .hka]) from rfl) h
  | .promptChunkFetch inst slot error tokens =>
    exact exec_promptChunkFetch inst slot error tokens s ▸ execPromptChunkFetch_follows (inst := inst) (slot := slot) (error := error) (tokens := tokens) 
      (show Nat.lor 17592186044416 (Comp.mask ([.seqs])) = Comp.mask ([.seqs]) from rfl) h
  | .recordBatchWrite ring =>
    exact exec_recordBatchWrite ring s ▸ execRecordBatchWrite_follows (ring := ring) 
      (show Nat.lor 70368744177672 (Comp.mask ([.out, .recRings])) = Comp.mask ([.out, .recRings]) from rfl) h
  | .recordReadbackComplete ring =>
    exact exec_recordReadbackComplete ring s ▸ execRecordReadbackComplete_follows (ring := ring) 
      (show Nat.lor 9095160184963608 (Comp.mask ([.out, .regs, .irq, .seqs, .recRings, .ports])) = Comp.mask ([.out, .regs, .irq, .seqs, .recRings, .ports]) from rfl) h
  | .stepLimitExpiry inst =>
    exact exec_stepLimitExpiry inst s ▸ execStepLimitExpiry_follows (inst := inst) 
      (show Nat.lor 156597941438513944 (Comp.mask (Comp.withStalls [])) = Comp.mask (Comp.withStalls []) from rfl) h
  | .evict port inst slot =>
    exact exec_evict port inst slot s ▸ execEvict_follows (port := port) (inst := inst) (slot := slot) 
      (show Nat.lor 154063638003450648 (Comp.mask (Comp.withEvents [.spills, .insts, .seqs, .recRings, .schStatus, .schCmd])) = Comp.mask (Comp.withEvents [.spills, .insts, .seqs, .recRings, .schStatus, .schCmd]) from rfl) h
  | .evictAll port inst =>
    exact exec_evictAll port inst s ▸ execEvictAll_follows (port := port) (inst := inst) 
      (show Nat.lor 154063638003450648 (Comp.mask (Comp.withEvents [.spills, .insts, .seqs, .recRings, .schStatus, .schCmd])) = Comp.mask (Comp.withEvents [.spills, .insts, .seqs, .recRings, .schStatus, .schCmd]) from rfl) h
  | .hold port inst =>
    exact exec_hold port inst s ▸ execHold_follows (port := port) (inst := inst) 
      (show Nat.lor 153975608353751832 (Comp.mask (Comp.withEvents [.insts, .schStatus, .schCmd])) = Comp.mask (Comp.withEvents [.insts, .schStatus, .schCmd]) from rfl) h
  | .release port inst =>
    exact exec_release port inst s ▸ execRelease_follows (port := port) (inst := inst) 
      (show Nat.lor 153975608353751832 (Comp.mask (Comp.withEvents [.insts, .schStatus, .schCmd])) = Comp.mask (Comp.withEvents [.insts, .schStatus, .schCmd]) from rfl) h
  | .handoffSlice core flight =>
    exact exec_handoffSlice core flight s ▸ execHandoffSlice_follows (core := core) (flight := flight) 
      (show Nat.lor 590452408300175622936 (Comp.mask (Comp.withStalls [.cores, .clusters, .engines, .handoffs, .advice])) = Comp.mask (Comp.withStalls [.cores, .clusters, .engines, .handoffs, .advice]) from rfl) h
  | .sampleRowComplete inst row =>
    exact exec_sampleRowComplete inst row s ▸ execSampleRowComplete_follows (inst := inst) (row := row) 
      (show Nat.lor 158848643888055068 (Comp.mask (Comp.withEvents [.freeCtr, .insts, .seqs, .recRings, .smpRows, .grmCache])) = Comp.mask (Comp.withEvents [.freeCtr, .insts, .seqs, .recRings, .smpRows, .grmCache]) from rfl) h
  | .grammarFetchComplete slot line error bytes inst seq =>
    exact exec_grammarFetchComplete slot line error bytes inst seq s ▸ execGrammarFetchComplete_follows (slot := slot) (line := line) (error := error) (bytes := bytes) (inst := inst) (seq := seq) 
      (show Nat.lor 157722743981212440 (Comp.mask (Comp.withEvents [.insts, .seqs, .recRings, .grmCache])) = Comp.mask (Comp.withEvents [.insts, .seqs, .recRings, .grmCache]) from rfl) h
  | .grammarReadTimeout slot inst seq =>
    exact exec_grammarReadTimeout slot inst seq s ▸ execGrammarReadTimeout_follows (slot := slot) (inst := inst) (seq := seq) 
      (show Nat.lor 153219144353841944 (Comp.mask (Comp.withEvents [.insts, .seqs, .recRings])) = Comp.mask (Comp.withEvents [.insts, .seqs, .recRings]) from rfl) h
  | .grmLoad slot port =>
    exact exec_grmLoad slot port s ▸ execGrmLoad_follows (slot := slot) (port := port) 
      (show Nat.lor 2251799813685256 (Comp.mask ([.out, .grammars])) = Comp.mask ([.out, .grammars]) from rfl) h
  | .grmUnload slot port =>
    exact exec_grmUnload slot port s ▸ execGrmUnload_follows (slot := slot) (port := port) 
      (show Nat.lor 159877786771653400 (Comp.mask (Comp.withEvents [.grammars, .grmCache])) = Comp.mask (Comp.withEvents [.grammars, .grmCache]) from rfl) h
  | .grammarLoadComplete slot error image =>
    exact exec_grammarLoadComplete slot error image s ▸ execGrammarLoadComplete_follows (slot := slot) (error := error) (image := image) 
      (show Nat.lor 177892185281135384 (Comp.mask (Comp.withEvents [.grammars, .grmCache, .cmd])) = Comp.mask (Comp.withEvents [.grammars, .grmCache, .cmd]) from rfl) h
  | .grammarLoadTimeout slot =>
    exact exec_grammarLoadTimeout slot s ▸ execGrammarLoadTimeout_follows (slot := slot) 
      (show Nat.lor 177892185281135384 (Comp.mask (Comp.withEvents [.grammars, .grmCache, .cmd])) = Comp.mask (Comp.withEvents [.grammars, .grmCache, .cmd]) from rfl) h
  | .bar4Read port off size =>
    exact exec_bar4Read port off size s ▸ execBar4Read_follows (port := port) (off := off) (size := size) 
      (show Nat.lor 153122387330597656 (Comp.mask (Comp.withEvents [])) = Comp.mask (Comp.withEvents []) from rfl) h
  | .bar4Write port off data =>
    exact exec_bar4Write port off data s ▸ execBar4Write_follows (port := port) (off := off) (data := data) 
      (show Nat.lor 153122389478081304 (Comp.mask (Comp.withEvents [.peds])) = Comp.mask (Comp.withEvents [.peds]) from rfl) h
  | .commandEntry entry =>
    exact exec_commandEntry entry s ▸ execCommandEntry_follows (entry := entry) 
      (show Nat.lor 566517957247693234363388 (Comp.mask (Comp.allBut [.time, .timeRuns, .fuses, .armFloor, .slices, .unreachable, .reserves, .unbacked, .weightKeys])) = Comp.mask (Comp.allBut [.time, .timeRuns, .fuses, .armFloor, .slices, .unreachable, .reserves, .unbacked, .weightKeys]) from rfl) h
  | .commandRingNop entry seq =>
    exact exec_commandRingNop entry seq s ▸ execCommandRingNop_follows (entry := entry) (seq := seq) 
      (show Nat.lor 566517957247693234363388 (Comp.mask (Comp.allBut [.time, .timeRuns, .fuses, .armFloor, .slices, .unreachable, .reserves, .unbacked, .weightKeys])) = Comp.mask (Comp.allBut [.time, .timeRuns, .fuses, .armFloor, .slices, .unreachable, .reserves, .unbacked, .weightKeys]) from rfl) h
  | .wakeHint time =>
    exact exec_wakeHint time s ▸ execWakeHint_follows (time := time) 
      (show Nat.lor 2361183241434822606848 (Comp.mask ([.pwr])) = Comp.mask ([.pwr]) from rfl) h
  | .farTier inst port valid base =>
    exact exec_farTier inst port valid base s ▸ execFarTier_follows (inst := inst) (port := port) (valid := valid) (base := base) 
      (show Nat.lor 566517957247693234363388 (Comp.mask (Comp.allBut [.time, .timeRuns, .fuses, .armFloor, .slices, .unreachable, .reserves, .unbacked, .weightKeys])) = Comp.mask (Comp.allBut [.time, .timeRuns, .fuses, .armFloor, .slices, .unreachable, .reserves, .unbacked, .weightKeys]) from rfl) h
  | .irqHoldExpiry source =>
    exact exec_irqHoldExpiry source s ▸ execIrqHoldExpiry_follows (source := source) 
      (show Nat.lor 9007199254741512 (Comp.mask ([.out, .irq, .ports])) = Comp.mask ([.out, .irq, .ports]) from rfl) h
  | .msixPendingSend port vector =>
    exact exec_msixPendingSend port vector s ▸ execMsixPendingSend_follows (port := port) (vector := vector) 
      (show Nat.lor 9007199254741000 (Comp.mask ([.out, .ports])) = Comp.mask ([.out, .ports]) from rfl) h
  | .eventRingCopy =>
    exact exec_eventRingCopy s ▸ execEventRingCopy_follows 
      (show Nat.lor 36028797018964232 (Comp.mask ([.out, .log, .evrInFlight])) = Comp.mask ([.out, .log, .evrInFlight]) from rfl) h
  | .setEndpointId eid =>
    exact exec_setEndpointId eid s ▸ execSetEndpointId_follows (eid := eid) 
      (show Nat.lor 72057594037927944 (Comp.mask ([.out, .mgmtEid])) = Comp.mask ([.out, .mgmtEid]) from rfl) h
  | .getEndpointId =>
    exact exec_getEndpointId s ▸ execGetEndpointId_follows 
      (show Nat.lor 8 (Comp.mask ([.out])) = Comp.mask ([.out]) from rfl) h
  | .getMctpVersionSupport =>
    exact exec_getMctpVersionSupport s ▸ execGetMctpVersionSupport_follows 
      (show Nat.lor 8 (Comp.mask ([.out])) = Comp.mask ([.out]) from rfl) h
  | .getMessageTypeSupport =>
    exact exec_getMessageTypeSupport s ▸ execGetMessageTypeSupport_follows 
      (show Nat.lor 8 (Comp.mask ([.out])) = Comp.mask ([.out]) from rfl) h
  | .unsupportedMessageType type =>
    exact exec_unsupportedMessageType type s ▸ execUnsupportedMessageType_follows (type := type) 
      (show Nat.lor 8 (Comp.mask ([.out])) = Comp.mask ([.out]) from rfl) h
  | .read32 requester form off =>
    exact exec_read32 requester form off s ▸ execRead32_follows (requester := requester) (form := form) (off := off) 
      (show Nat.lor 153122387330597692 (Comp.mask (Comp.withEvents [.freeCtr, .latchHi])) = Comp.mask (Comp.withEvents [.freeCtr, .latchHi]) from rfl) h
  | .write32 requester form off value =>
    exact exec_write32 requester form off value s ▸ execWrite32_follows (requester := requester) (form := form) (off := off) (value := value) 
      (show Nat.lor 566517957247693234363388 (Comp.mask (Comp.allBut [.time, .timeRuns, .fuses, .armFloor, .slices, .unreachable, .reserves, .unbacked, .weightKeys])) = Comp.mask (Comp.allBut [.time, .timeRuns, .fuses, .armFloor, .slices, .unreachable, .reserves, .unbacked, .weightKeys]) from rfl) h
  | .readBlock requester form off count =>
    exact exec_readBlock requester form off count s ▸ execReadBlock_follows (requester := requester) (form := form) (off := off) (count := count) 
      (show Nat.lor 153122387330597692 (Comp.mask (Comp.withEvents [.freeCtr, .latchHi])) = Comp.mask (Comp.withEvents [.freeCtr, .latchHi]) from rfl) h
  | .alertResponse =>
    exact exec_alertResponse s ▸ execAlertResponse_follows 
      (show Nat.lor 144115188075855880 (Comp.mask ([.out, .araMask])) = Comp.mask ([.out, .araMask]) from rfl) h
  | .icpenFlit n good nak type seq ack credit corrected uncorrectable =>
    exact exec_icpenFlit n good nak type seq ack credit corrected uncorrectable s ▸ execIcpenFlit_follows (n := n) (good := good) (nak := nak) (type := type) (seq := seq) (ack := ack) (credit := credit) (corrected := corrected) (uncorrectable := uncorrectable) 
      (show Nat.lor 4188356449581138712 (Comp.mask (Comp.withEvents [.msgs, .insts, .icpIn, .icps, .sync])) = Comp.mask (Comp.withEvents [.msgs, .insts, .icpIn, .icps, .sync]) from rfl) h
  | .icpenAckTimeout n =>
    exact exec_icpenAckTimeout n s ▸ execIcpenAckTimeout_follows (n := n) 
      (show Nat.lor 4188356449581138712 (Comp.mask (Comp.withEvents [.msgs, .insts, .icpIn, .icps, .sync])) = Comp.mask (Comp.withEvents [.msgs, .insts, .icpIn, .icps, .sync]) from rfl) h
  | .linkSilenceTimeout n =>
    exact exec_linkSilenceTimeout n s ▸ execLinkSilenceTimeout_follows (n := n) 
      (show Nat.lor 4188356449581138712 (Comp.mask (Comp.withEvents [.msgs, .insts, .icpIn, .icps, .sync])) = Comp.mask (Comp.withEvents [.msgs, .insts, .icpIn, .icps, .sync]) from rfl) h
  | .laneDrop n lane cause =>
    exact exec_laneDrop n lane cause s ▸ execLaneDrop_follows (n := n) (lane := lane) (cause := cause) 
      (show Nat.lor 4188356449581138712 (Comp.mask (Comp.withEvents [.msgs, .insts, .icpIn, .icps, .sync])) = Comp.mask (Comp.withEvents [.msgs, .insts, .icpIn, .icps, .sync]) from rfl) h
  | .lanedrop n lane =>
    exact exec_lanedrop n lane s ▸ execLanedrop_follows (n := n) (lane := lane) 
      (show Nat.lor 4188356449581138716 (Comp.mask (Comp.withEvents [.freeCtr, .msgs, .insts, .icpIn, .icps, .sync])) = Comp.mask (Comp.withEvents [.freeCtr, .msgs, .insts, .icpIn, .icps, .sync]) from rfl) h
  | .discoveryBurst n =>
    exact exec_discoveryBurst n s ▸ execDiscoveryBurst_follows (n := n) 
      (show Nat.lor 8 (Comp.mask ([.out])) = Comp.mask ([.out]) from rfl) h
  | .trainingPatternDetected n =>
    exact exec_trainingPatternDetected n s ▸ execTrainingPatternDetected_follows (n := n) 
      (show Nat.lor 1152921504606846976 (Comp.mask ([.icps])) = Comp.mask ([.icps]) from rfl) h
  | .trainingTimeout n =>
    exact exec_trainingTimeout n s ▸ execTrainingTimeout_follows (n := n) 
      (show Nat.lor 1152921504606846976 (Comp.mask ([.icps])) = Comp.mask ([.icps]) from rfl) h
  | .trainingComplete n rev lanes =>
    exact exec_trainingComplete n rev lanes s ▸ execTrainingComplete_follows (n := n) (rev := rev) (lanes := lanes) 
      (show Nat.lor 1152921504640401432 (Comp.mask ([.out, .regs, .msgs, .icps])) = Comp.mask ([.out, .regs, .msgs, .icps]) from rfl) h
  | .hello n payload =>
    exact exec_hello n payload s ▸ execHello_follows (n := n) (payload := payload) 
      (show Nat.lor 3611886901184693021 (Comp.mask (Comp.withEvents [.time, .freeCtr, .msgs, .icps, .sync])) = Comp.mask (Comp.withEvents [.time, .freeCtr, .msgs, .icps, .sync]) from rfl) h
  | .helloTimer n =>
    exact exec_helloTimer n s ▸ execHelloTimer_follows (n := n) 
      (show Nat.lor 1152921504640401432 (Comp.mask ([.out, .regs, .msgs, .icps])) = Comp.mask ([.out, .regs, .msgs, .icps]) from rfl) h
  | .helloTimeout n =>
    exact exec_helloTimeout n s ▸ execHelloTimeout_follows (n := n) 
      (show Nat.lor 4188356449581138712 (Comp.mask (Comp.withEvents [.msgs, .insts, .icpIn, .icps, .sync])) = Comp.mask (Comp.withEvents [.msgs, .insts, .icpIn, .icps, .sync]) from rfl) h
  | .authShare n payload =>
    exact exec_authShare n payload s ▸ execAuthShare_follows (n := n) (payload := payload) 
      (show Nat.lor 1152921504640401432 (Comp.mask ([.out, .regs, .msgs, .icps])) = Comp.mask ([.out, .regs, .msgs, .icps]) from rfl) h
  | .authCert n payload =>
    exact exec_authCert n payload s ▸ execAuthCert_follows (n := n) (payload := payload) 
      (show Nat.lor 1152921504640401432 (Comp.mask ([.out, .regs, .msgs, .icps])) = Comp.mask ([.out, .regs, .msgs, .icps]) from rfl) h
  | .authSig n payload =>
    exact exec_authSig n payload s ▸ execAuthSig_follows (n := n) (payload := payload) 
      (show Nat.lor 75562052082363904557848 (Comp.mask (Comp.withEvents [.msgs, .insts, .icpIn, .icps, .sync, .sec])) = Comp.mask (Comp.withEvents [.msgs, .insts, .icpIn, .icps, .sync, .sec]) from rfl) h
  | .authResult n result =>
    exact exec_authResult n result s ▸ execAuthResult_follows (n := n) (result := result) 
      (show Nat.lor 75562052082363904557848 (Comp.mask (Comp.withEvents [.msgs, .insts, .icpIn, .icps, .sync, .sec])) = Comp.mask (Comp.withEvents [.msgs, .insts, .icpIn, .icps, .sync, .sec]) from rfl) h
  | .authTimeout n =>
    exact exec_authTimeout n s ▸ execAuthTimeout_follows (n := n) 
      (show Nat.lor 4188356449581138712 (Comp.mask (Comp.withEvents [.msgs, .insts, .icpIn, .icps, .sync])) = Comp.mask (Comp.withEvents [.msgs, .insts, .icpIn, .icps, .sync]) from rfl) h
  | .authHoldExpiry n =>
    exact exec_authHoldExpiry n s ▸ execAuthHoldExpiry_follows (n := n) 
      (show Nat.lor 1152921504606846976 (Comp.mask ([.icps])) = Comp.mask ([.icps]) from rfl) h
  | .linkRekey n =>
    exact exec_linkRekey n s ▸ execLinkRekey_follows (n := n) 
      (show Nat.lor 1152921504640401436 (Comp.mask ([.freeCtr, .out, .regs, .msgs, .icps])) = Comp.mask ([.freeCtr, .out, .regs, .msgs, .icps]) from rfl) h
  | .adopt n port =>
    exact exec_adopt n port s ▸ execAdopt_follows (n := n) (port := port) 
      (show Nat.lor 75561475612815508112152 (Comp.mask (Comp.withEvents [.msgs, .icps, .sync, .sec])) = Comp.mask (Comp.withEvents [.msgs, .icps, .sync, .sec]) from rfl) h
  | .reject n port =>
    exact exec_reject n port s ▸ execReject_follows (n := n) (port := port) 
      (show Nat.lor 4188356449581138712 (Comp.mask (Comp.withEvents [.msgs, .insts, .icpIn, .icps, .sync])) = Comp.mask (Comp.withEvents [.msgs, .insts, .icpIn, .icps, .sync]) from rfl) h
  | .retrain n port =>
    exact exec_retrain n port s ▸ execRetrain_follows (n := n) (port := port) 
      (show Nat.lor 4188356449581138712 (Comp.mask (Comp.withEvents [.msgs, .insts, .icpIn, .icps, .sync])) = Comp.mask (Comp.withEvents [.msgs, .insts, .icpIn, .icps, .sync]) from rfl) h
  | .icpenDataMessage n stream op fmt dec bytes =>
    exact exec_icpenDataMessage n stream op fmt dec bytes s ▸ execIcpenDataMessage_follows (n := n) (stream := stream) (op := op) (fmt := fmt) (dec := dec) (bytes := bytes) 
      (show Nat.lor 1729382256943824904 (Comp.mask ([.out, .msgs, .icpIn, .icps])) = Comp.mask ([.out, .msgs, .icpIn, .icps]) from rfl) h
  | .plan n inst maxSeqs frames pfxFrames gen =>
    exact exec_plan n inst maxSeqs frames pfxFrames gen s ▸ execPlan_follows (n := n) (inst := inst) (maxSeqs := maxSeqs) (frames := frames) (pfxFrames := pfxFrames) (gen := gen) 
      (show Nat.lor 1152930300733423640 (Comp.mask ([.out, .regs, .msgs, .insts, .icps])) = Comp.mask ([.out, .regs, .msgs, .insts, .icps]) from rfl) h
  | .step n block descs =>
    exact exec_step n block descs s ▸ execStep_follows (n := n) (block := block) (descs := descs) 
      (show Nat.lor 1152930300699869184 (Comp.mask ([.insts, .icps])) = Comp.mask ([.insts, .icps]) from rfl) h
  | .result n entries =>
    exact exec_result n entries s ▸ execResult_follows (n := n) (entries := entries) 
      (show Nat.lor 1152930300733423640 (Comp.mask ([.out, .regs, .msgs, .insts, .icps])) = Comp.mask ([.out, .regs, .msgs, .insts, .icps]) from rfl) h
  | .short n slots =>
    exact exec_short n slots s ▸ execShort_follows (n := n) (slots := slots) 
      (show Nat.lor 1306052688064021272 (Comp.mask (Comp.withEvents [.msgs, .insts, .icps])) = Comp.mask (Comp.withEvents [.msgs, .insts, .icps]) from rfl) h
  | .digest port group inst complete voting hopsLeft interval round join modelId crc modular hash =>
    exact exec_digest port group inst complete voting hopsLeft interval round join modelId crc modular hash s ▸ execDigest_follows (port := port) (group := group) (inst := inst) (complete := complete) (voting := voting) (hopsLeft := hopsLeft) (interval := interval) (round := round) (join := join) (modelId := modelId) (crc := crc) (modular := modular) (hash := hash) 
      (show Nat.lor 15141118439927579416 (Comp.mask (Comp.withEvents [.msgs, .wslots, .winsts, .wloads, .insts, .icps, .replicas, .digests])) = Comp.mask (Comp.withEvents [.msgs, .wslots, .winsts, .wloads, .insts, .icps, .replicas, .digests]) from rfl) h
  | .digestEvaluationTimeout inst =>
    exact exec_digestEvaluationTimeout inst s ▸ execDigestEvaluationTimeout_follows (inst := inst) 
      (show Nat.lor 4764824898432402200 (Comp.mask (Comp.withEvents [.wslots, .winsts, .wloads, .insts, .replicas])) = Comp.mask (Comp.withEvents [.wslots, .winsts, .wloads, .insts, .replicas]) from rfl) h
  | .frontPlaneReady core sumsOk =>
    exact exec_frontPlaneReady core sumsOk s ▸ execFrontPlaneReady_follows (core := core) (sumsOk := sumsOk) 
      (show Nat.lor 572023678624996819736 (Comp.mask (Comp.withStalls [.arrays, .cals, .cores, .handoffs, .msgs, .cmd, .reserves, .takeovers, .arrTakeovers, .unbacked, .tests])) = Comp.mask (Comp.withStalls [.arrays, .cals, .cores, .handoffs, .msgs, .cmd, .reserves, .takeovers, .arrTakeovers, .unbacked, .tests]) from rfl) h
  | .reserveCoreTakeover core =>
    exact exec_reserveCoreTakeover core s ▸ execReserveCoreTakeover_follows (core := core) 
      (show Nat.lor 37050086089510126360 (Comp.mask (Comp.withStalls [.arrays, .cals, .cores, .clusters, .engines, .msgs, .nextMsg, .unreachable, .takeovers])) = Comp.mask (Comp.withStalls [.arrays, .cals, .cores, .clusters, .engines, .msgs, .nextMsg, .unreachable, .takeovers]) from rfl) h
  | .fatalCountWrite port value =>
    exact exec_fatalCountWrite port value s ▸ execFatalCountWrite_follows (port := port) (value := value) 
      (show Nat.lor 272 (Comp.mask ([.regs, .log])) = Comp.mask ([.regs, .log]) from rfl) h
  | .fieldTestStart port parts target spacing =>
    exact exec_fieldTestStart port parts target spacing s ▸ execFieldTestStart_follows (port := port) (parts := parts) (target := target) (spacing := spacing) 
      (show Nat.lor 295319041965192905496 (Comp.mask (Comp.withEvents [.cmd, .tests])) = Comp.mask (Comp.withEvents [.cmd, .tests]) from rfl) h
  | .fieldTestAbort port target =>
    exact exec_fieldTestAbort port target s ▸ execFieldTestAbort_follows (port := port) (target := target) 
      (show Nat.lor 295319041965192905496 (Comp.mask (Comp.withEvents [.cmd, .tests])) = Comp.mask (Comp.withEvents [.cmd, .tests]) from rfl) h
  | .fieldTestSliceEnd target finished failed pos =>
    exact exec_fieldTestSliceEnd target finished failed pos s ▸ execFieldTestSliceEnd_follows (target := target) (finished := finished) (failed := failed) (pos := pos) 
      (show Nat.lor 572023678624996819740 (Comp.mask (Comp.withStalls [.freeCtr, .arrays, .cals, .cores, .handoffs, .msgs, .cmd, .reserves, .takeovers, .arrTakeovers, .unbacked, .tests])) = Comp.mask (Comp.withStalls [.freeCtr, .arrays, .cals, .cores, .handoffs, .msgs, .cmd, .reserves, .takeovers, .arrTakeovers, .unbacked, .tests]) from rfl) h
  | .conversionSlot slice code overload =>
    exact exec_conversionSlot slice code overload s ▸ execConversionSlot_follows (slice := slice) (code := code) (overload := overload) 
      (show Nat.lor 9444886088126621025048 (Comp.mask (Comp.withEvents [.hka])) = Comp.mask (Comp.withEvents [.hka]) from rfl) h
  | .slotTimeout slice =>
    exact exec_slotTimeout slice s ▸ execSlotTimeout_follows (slice := slice) 
      (show Nat.lor 9444886088126621025048 (Comp.mask (Comp.withEvents [.hka])) = Comp.mask (Comp.withEvents [.hka]) from rfl) h
  | .roundEnd cores conversions sram frieze lanes oscPpm =>
    exact exec_roundEnd cores conversions sram frieze lanes oscPpm s ▸ execRoundEnd_follows (cores := cores) (conversions := conversions) (sram := sram) (frieze := frieze) (lanes := lanes) (oscPpm := oscPpm) 
      (show Nat.lor 35417905219463777878808 (Comp.mask (Comp.withStalls [.cals, .pwr, .clk, .hka, .thm])) = Comp.mask (Comp.withStalls [.cals, .pwr, .clk, .hka, .thm]) from rfl) h
  | .hkaInjTrigWrite port value =>
    exact exec_hkaInjTrigWrite port value s ▸ execHkaInjTrigWrite_follows (port := port) (value := value) 
      (show Nat.lor 9444732965739290427392 (Comp.mask ([.hka])) = Comp.mask ([.hka]) from rfl) h
  | .spareVisitStart =>
    exact exec_spareVisitStart s ▸ execSpareVisitStart_follows 
      (show Nat.lor 9444732965739290427392 (Comp.mask ([.hka])) = Comp.mask ([.hka]) from rfl) h
  | .getVersion transport =>
    exact exec_getVersion transport s ▸ execGetVersion_follows (transport := transport) 
      (show Nat.lor 8 (Comp.mask ([.out])) = Comp.mask ([.out]) from rfl) h
  | .getCapabilities transport =>
    exact exec_getCapabilities transport s ▸ execGetCapabilities_follows (transport := transport) 
      (show Nat.lor 8 (Comp.mask ([.out])) = Comp.mask ([.out]) from rfl) h
  | .negotiateAlgorithms transport =>
    exact exec_negotiateAlgorithms transport s ▸ execNegotiateAlgorithms_follows (transport := transport) 
      (show Nat.lor 8 (Comp.mask ([.out])) = Comp.mask ([.out]) from rfl) h
  | .getDigests transport =>
    exact exec_getDigests transport s ▸ execGetDigests_follows (transport := transport) 
      (show Nat.lor 8 (Comp.mask ([.out])) = Comp.mask ([.out]) from rfl) h
  | .getCertificate transport slot off len =>
    exact exec_getCertificate transport slot off len s ▸ execGetCertificate_follows (transport := transport) (slot := slot) (off := off) (len := len) 
      (show Nat.lor 8 (Comp.mask ([.out])) = Comp.mask ([.out]) from rfl) h
  | .challenge transport slot =>
    exact exec_challenge transport slot s ▸ execChallenge_follows (transport := transport) (slot := slot) 
      (show Nat.lor 12 (Comp.mask ([.freeCtr, .out])) = Comp.mask ([.freeCtr, .out]) from rfl) h
  | .getMeasurements transport operation signed =>
    exact exec_getMeasurements transport operation signed s ▸ execGetMeasurements_follows (transport := transport) (operation := operation) (signed := signed) 
      (show Nat.lor 12 (Comp.mask ([.freeCtr, .out])) = Comp.mask ([.freeCtr, .out]) from rfl) h
  | .keyExchange transport =>
    exact exec_keyExchange transport s ▸ execKeyExchange_follows (transport := transport) 
      (show Nat.lor 75557863725914323419148 (Comp.mask ([.freeCtr, .out, .sec])) = Comp.mask ([.freeCtr, .out, .sec]) from rfl) h
  | .finish transport session ok =>
    exact exec_finish transport session ok s ▸ execFinish_follows (transport := transport) (session := session) (ok := ok) 
      (show Nat.lor 75558016848301654016792 (Comp.mask (Comp.withEvents [.sec])) = Comp.mask (Comp.withEvents [.sec]) from rfl) h
  | .heartbeat transport session ok =>
    exact exec_heartbeat transport session ok s ▸ execHeartbeat_follows (transport := transport) (session := session) (ok := ok) 
      (show Nat.lor 75558016848301654016792 (Comp.mask (Comp.withEvents [.sec])) = Comp.mask (Comp.withEvents [.sec]) from rfl) h
  | .keyUpdate transport session ok =>
    exact exec_keyUpdate transport session ok s ▸ execKeyUpdate_follows (transport := transport) (session := session) (ok := ok) 
      (show Nat.lor 75558016848301654016792 (Comp.mask (Comp.withEvents [.sec])) = Comp.mask (Comp.withEvents [.sec]) from rfl) h
  | .endSession transport session ok =>
    exact exec_endSession transport session ok s ▸ execEndSession_follows (transport := transport) (session := session) (ok := ok) 
      (show Nat.lor 75558016848301654016792 (Comp.mask (Comp.withEvents [.sec])) = Comp.mask (Comp.withEvents [.sec]) from rfl) h
  | .spdmUnsupportedRequest transport code =>
    exact exec_spdmUnsupportedRequest transport code s ▸ execSpdmUnsupportedRequest_follows (transport := transport) (code := code) 
      (show Nat.lor 8 (Comp.mask ([.out])) = Comp.mask ([.out]) from rfl) h
  | .enrol transport session count hashes =>
    exact exec_enrol transport session count hashes s ▸ execEnrol_follows (transport := transport) (session := session) (count := count) (hashes := hashes) 
      (show Nat.lor 75557863725914323419144 (Comp.mask ([.out, .sec])) = Comp.mask ([.out, .sec]) from rfl) h
  | .enrolComplete =>
    exact exec_enrolComplete s ▸ execEnrolComplete_follows 
      (show Nat.lor 75558016848301654016792 (Comp.mask (Comp.withEvents [.sec])) = Comp.mask (Comp.withEvents [.sec]) from rfl) h
  | .ownerProve transport session slot key sig =>
    exact exec_ownerProve transport session slot key sig s ▸ execOwnerProve_follows (transport := transport) (session := session) (slot := slot) (key := key) (sig := sig) 
      (show Nat.lor 75558016848301654016792 (Comp.mask (Comp.withEvents [.sec])) = Comp.mask (Comp.withEvents [.sec]) from rfl) h
  | .revoke transport session slot =>
    exact exec_revoke transport session slot s ▸ execRevoke_follows (transport := transport) (session := session) (slot := slot) 
      (show Nat.lor 75557863725914323419144 (Comp.mask ([.out, .sec])) = Comp.mask ([.out, .sec]) from rfl) h
  | .setWeightKey transport session slot key =>
    exact exec_setWeightKey transport session slot key s ▸ execSetWeightKey_follows (transport := transport) (session := session) (slot := slot) (key := key) 
      (show Nat.lor 37779084985344492307224 (Comp.mask (Comp.withEvents [.weightKeys])) = Comp.mask (Comp.withEvents [.weightKeys]) from rfl) h
  | .clearWeightKey transport session slot =>
    exact exec_clearWeightKey transport session slot s ▸ execClearWeightKey_follows (transport := transport) (session := session) (slot := slot) 
      (show Nat.lor 37779084985344492307224 (Comp.mask (Comp.withEvents [.weightKeys])) = Comp.mask (Comp.withEvents [.weightKeys]) from rfl) h
  | .debugUnlock source token =>
    exact exec_debugUnlock source token s ▸ execDebugUnlock_follows (source := source) (token := token) 
      (show Nat.lor 75557863725914323419144 (Comp.mask ([.out, .sec])) = Comp.mask ([.out, .sec]) from rfl) h
  | .unlockVerifyComplete =>
    exact exec_unlockVerifyComplete s ▸ execUnlockVerifyComplete_follows 
      (show Nat.lor 75558016848301654016796 (Comp.mask (Comp.withEvents [.freeCtr, .sec])) = Comp.mask (Comp.withEvents [.freeCtr, .sec]) from rfl) h
  | .lockoutExpiry =>
    exact exec_lockoutExpiry s ▸ execLockoutExpiry_follows 
      (show Nat.lor 75557863725914323419136 (Comp.mask ([.sec])) = Comp.mask ([.sec]) from rfl) h
  | .relock =>
    exact exec_relock s ▸ execRelock_follows 
      (show Nat.lor 75557863725914323419136 (Comp.mask ([.sec])) = Comp.mask ([.sec]) from rfl) h
  | .newNonce =>
    exact exec_newNonce s ▸ execNewNonce_follows 
      (show Nat.lor 75557863725914323419140 (Comp.mask ([.freeCtr, .sec])) = Comp.mask ([.freeCtr, .sec]) from rfl) h
  | .storeWriteComplete record ok =>
    exact exec_storeWriteComplete record ok s ▸ execStoreWriteComplete_follows (record := record) (ok := ok) 
      (show Nat.lor 75557863725914323419136 (Comp.mask ([.sec])) = Comp.mask ([.sec]) from rfl) h
  | .idcode =>
    exact exec_idcode s ▸ execIdcode_follows 
      (show Nat.lor 151115727451828646838280 (Comp.mask ([.out, .tapIr])) = Comp.mask ([.out, .tapIr]) from rfl) h
  | .bypass =>
    exact exec_bypass s ▸ execBypass_follows 
      (show Nat.lor 151115727451828646838280 (Comp.mask ([.out, .tapIr])) = Comp.mask ([.out, .tapIr]) from rfl) h
  | .samplePreload pins preload =>
    exact exec_samplePreload pins preload s ▸ execSamplePreload_follows (pins := pins) (preload := preload) 
      (show Nat.lor 453347182355485940514824 (Comp.mask ([.out, .tapIr, .tapCells])) = Comp.mask ([.out, .tapIr, .tapCells]) from rfl) h
  | .extest =>
    exact exec_extest s ▸ execExtest_follows 
      (show Nat.lor 151115727451828646838280 (Comp.mask ([.out, .tapIr])) = Comp.mask ([.out, .tapIr]) from rfl) h
  | .deadlinePassed inst slot =>
    exact exec_deadlinePassed inst slot s ▸ execDeadlinePassed_follows (inst := inst) (slot := slot) 
      (show Nat.lor 153140048236118808 (Comp.mask (Comp.withEvents [.spills, .seqs])) = Comp.mask (Comp.withEvents [.spills, .seqs]) from rfl) h
  | .backPlaneReady core sumsOk =>
    exact exec_backPlaneReady core sumsOk s ▸ execBackPlaneReady_follows (core := core) (sumsOk := sumsOk) 
      (show Nat.lor 572023678624996819736 (Comp.mask (Comp.withStalls [.arrays, .cals, .cores, .handoffs, .msgs, .cmd, .reserves, .takeovers, .arrTakeovers, .unbacked, .tests])) = Comp.mask (Comp.withStalls [.arrays, .cals, .cores, .handoffs, .msgs, .cmd, .reserves, .takeovers, .arrTakeovers, .unbacked, .tests]) from rfl) h
  | .cmdCfgWrite port value =>
    exact exec_cmdCfgWrite port value s ▸ execCmdCfgWrite_follows (port := port) (value := value) 
      (show Nat.lor 171136785840079640 (Comp.mask (Comp.withEvents [.cmd])) = Comp.mask (Comp.withEvents [.cmd]) from rfl) h
  | .evrCfgWrite port value =>
    exact exec_evrCfgWrite port value s ▸ execEvrCfgWrite_follows (port := port) (value := value) 
      (show Nat.lor 189151184349561624 (Comp.mask (Comp.withEvents [.evrInFlight])) = Comp.mask (Comp.withEvents [.evrInFlight]) from rfl) h
  | .eventRingReadbackComplete =>
    exact exec_eventRingReadbackComplete s ▸ execEventRingReadbackComplete_follows 
      (show Nat.lor 45035996273705496 (Comp.mask ([.out, .regs, .irq, .ports, .evrInFlight])) = Comp.mask ([.out, .regs, .irq, .ports, .evrInFlight]) from rfl) h
  | .d0ToD3hot port =>
    exact exec_d0ToD3hot port s ▸ execD0ToD3hot_follows (port := port) 
      (show Nat.lor 9007199254740992 (Comp.mask ([.ports])) = Comp.mask ([.ports]) from rfl) h
  | .doeDiscovery index =>
    exact exec_doeDiscovery index s ▸ execDoeDiscovery_follows (index := index) 
      (show Nat.lor 8 (Comp.mask ([.out])) = Comp.mask ([.out]) from rfl) h
  | .vinValidBegins =>
    exact exec_vinValidBegins s ▸ execVinValidBegins_follows 
      (show Nat.lor 7083549724304467820544 (Comp.mask ([.pwr, .clk])) = Comp.mask ([.pwr, .clk]) from rfl) h
  | .inputWarningCleared =>
    exact exec_inputWarningCleared s ▸ execInputWarningCleared_follows 
      (show Nat.lor 2361183241434822606848 (Comp.mask ([.pwr])) = Comp.mask ([.pwr]) from rfl) h
  | .ieee11496Instructions =>
    exact exec_ieee11496Instructions s ▸ execIeee11496Instructions_follows 
      (show Nat.lor 151115727451828646838280 (Comp.mask ([.out, .tapIr])) = Comp.mask ([.out, .tapIr]) from rfl) h

end Sys2Proof.Machine
end

