-- ==== Sys2Proof/Laws/State.lean ====
section
/-!
SUPPORT. The components of a state after each of the shared operations of Machine/Ops.lean, and what a register reads after a
write: no later proof unfolds a record update.
-/
namespace Sys2Proof.Machine
open Sys2Proof

@[simp] theorem State.emit_time (s : State) (o : Out) : (s.emit o).time = s.time := rfl
@[simp] theorem State.emit_timeRuns (s : State) (o : Out) : (s.emit o).timeRuns = s.timeRuns := rfl
@[simp] theorem State.emit_freeCtr (s : State) (o : Out) : (s.emit o).freeCtr = s.freeCtr := rfl
@[simp] theorem State.emit_regs (s : State) (o : Out) : (s.emit o).regs = s.regs := rfl
@[simp] theorem State.emit_latchHi (s : State) (o : Out) : (s.emit o).latchHi = s.latchHi := rfl
@[simp] theorem State.emit_heldLow (s : State) (o : Out) : (s.emit o).heldLow = s.heldLow := rfl
@[simp] theorem State.emit_rwlLocked (s : State) (o : Out) : (s.emit o).rwlLocked = s.rwlLocked := rfl
@[simp] theorem State.emit_log (s : State) (o : Out) : (s.emit o).log = s.log := rfl
@[simp] theorem State.emit_irq (s : State) (o : Out) : (s.emit o).irq = s.irq := rfl
@[simp] theorem State.emit_fuses (s : State) (o : Out) : (s.emit o).fuses = s.fuses := rfl
@[simp] theorem State.emit_arm (s : State) (o : Out) : (s.emit o).arm = s.arm := rfl
@[simp] theorem State.emit_img (s : State) (o : Out) : (s.emit o).img = s.img := rfl
@[simp] theorem State.emit_armFloor (s : State) (o : Out) : (s.emit o).armFloor = s.armFloor := rfl
@[simp] theorem State.emit_heldSeal (s : State) (o : Out) : (s.emit o).heldSeal = s.heldSeal := rfl
@[simp] theorem State.emit_arrays (s : State) (o : Out) : (s.emit o).arrays = s.arrays := rfl
@[simp] theorem State.emit_fmts (s : State) (o : Out) : (s.emit o).fmts = s.fmts := rfl
@[simp] theorem State.emit_fmtResets (s : State) (o : Out) : (s.emit o).fmtResets = s.fmtResets := rfl
@[simp] theorem State.emit_cals (s : State) (o : Out) : (s.emit o).cals = s.cals := rfl
@[simp] theorem State.emit_calStores (s : State) (o : Out) : (s.emit o).calStores = s.calStores := rfl
@[simp] theorem State.emit_calSaves (s : State) (o : Out) : (s.emit o).calSaves = s.calSaves := rfl
@[simp] theorem State.emit_cores (s : State) (o : Out) : (s.emit o).cores = s.cores := rfl
@[simp] theorem State.emit_clusters (s : State) (o : Out) : (s.emit o).clusters = s.clusters := rfl
@[simp] theorem State.emit_engines (s : State) (o : Out) : (s.emit o).engines = s.engines := rfl
@[simp] theorem State.emit_handoffs (s : State) (o : Out) : (s.emit o).handoffs = s.handoffs := rfl
@[simp] theorem State.emit_msgs (s : State) (o : Out) : (s.emit o).msgs = s.msgs := rfl
@[simp] theorem State.emit_nextMsg (s : State) (o : Out) : (s.emit o).nextMsg = s.nextMsg := rfl
@[simp] theorem State.emit_lanes (s : State) (o : Out) : (s.emit o).lanes = s.lanes := rfl
@[simp] theorem State.emit_slices (s : State) (o : Out) : (s.emit o).slices = s.slices := rfl
@[simp] theorem State.emit_unreachable (s : State) (o : Out) : (s.emit o).unreachable = s.unreachable := rfl
@[simp] theorem State.emit_paced (s : State) (o : Out) : (s.emit o).paced = s.paced := rfl
@[simp] theorem State.emit_peds (s : State) (o : Out) : (s.emit o).peds = s.peds := rfl
@[simp] theorem State.emit_kvSeqs (s : State) (o : Out) : (s.emit o).kvSeqs = s.kvSeqs := rfl
@[simp] theorem State.emit_parts (s : State) (o : Out) : (s.emit o).parts = s.parts := rfl
@[simp] theorem State.emit_kvPools (s : State) (o : Out) : (s.emit o).kvPools = s.kvPools := rfl
@[simp] theorem State.emit_prefixes (s : State) (o : Out) : (s.emit o).prefixes = s.prefixes := rfl
@[simp] theorem State.emit_spills (s : State) (o : Out) : (s.emit o).spills = s.spills := rfl
@[simp] theorem State.emit_emptyMarks (s : State) (o : Out) : (s.emit o).emptyMarks = s.emptyMarks := rfl
@[simp] theorem State.emit_flushing (s : State) (o : Out) : (s.emit o).flushing = s.flushing := rfl
@[simp] theorem State.emit_noFrame (s : State) (o : Out) : (s.emit o).noFrame = s.noFrame := rfl
@[simp] theorem State.emit_wslots (s : State) (o : Out) : (s.emit o).wslots = s.wslots := rfl
@[simp] theorem State.emit_winsts (s : State) (o : Out) : (s.emit o).winsts = s.winsts := rfl
@[simp] theorem State.emit_wloads (s : State) (o : Out) : (s.emit o).wloads = s.wloads := rfl
@[simp] theorem State.emit_insts (s : State) (o : Out) : (s.emit o).insts = s.insts := rfl
@[simp] theorem State.emit_seqs (s : State) (o : Out) : (s.emit o).seqs = s.seqs := rfl
@[simp] theorem State.emit_subRings (s : State) (o : Out) : (s.emit o).subRings = s.subRings := rfl
@[simp] theorem State.emit_recRings (s : State) (o : Out) : (s.emit o).recRings = s.recRings := rfl
@[simp] theorem State.emit_subLast (s : State) (o : Out) : (s.emit o).subLast = s.subLast := rfl
@[simp] theorem State.emit_schStatus (s : State) (o : Out) : (s.emit o).schStatus = s.schStatus := rfl
@[simp] theorem State.emit_schCmd (s : State) (o : Out) : (s.emit o).schCmd = s.schCmd := rfl
@[simp] theorem State.emit_smpRows (s : State) (o : Out) : (s.emit o).smpRows = s.smpRows := rfl
@[simp] theorem State.emit_grammars (s : State) (o : Out) : (s.emit o).grammars = s.grammars := rfl
@[simp] theorem State.emit_grmCache (s : State) (o : Out) : (s.emit o).grmCache = s.grmCache := rfl
@[simp] theorem State.emit_ports (s : State) (o : Out) : (s.emit o).ports = s.ports := rfl
@[simp] theorem State.emit_cmd (s : State) (o : Out) : (s.emit o).cmd = s.cmd := rfl
@[simp] theorem State.emit_evrInFlight (s : State) (o : Out) : (s.emit o).evrInFlight = s.evrInFlight := rfl
@[simp] theorem State.emit_mgmtEid (s : State) (o : Out) : (s.emit o).mgmtEid = s.mgmtEid := rfl
@[simp] theorem State.emit_araMask (s : State) (o : Out) : (s.emit o).araMask = s.araMask := rfl
@[simp] theorem State.emit_ftrStale (s : State) (o : Out) : (s.emit o).ftrStale = s.ftrStale := rfl
@[simp] theorem State.emit_icpIn (s : State) (o : Out) : (s.emit o).icpIn = s.icpIn := rfl
@[simp] theorem State.emit_icps (s : State) (o : Out) : (s.emit o).icps = s.icps := rfl
@[simp] theorem State.emit_sync (s : State) (o : Out) : (s.emit o).sync = s.sync := rfl
@[simp] theorem State.emit_replicas (s : State) (o : Out) : (s.emit o).replicas = s.replicas := rfl
@[simp] theorem State.emit_digests (s : State) (o : Out) : (s.emit o).digests = s.digests := rfl
@[simp] theorem State.emit_reserves (s : State) (o : Out) : (s.emit o).reserves = s.reserves := rfl
@[simp] theorem State.emit_takeovers (s : State) (o : Out) : (s.emit o).takeovers = s.takeovers := rfl
@[simp] theorem State.emit_arrTakeovers (s : State) (o : Out) : (s.emit o).arrTakeovers = s.arrTakeovers := rfl
@[simp] theorem State.emit_unbacked (s : State) (o : Out) : (s.emit o).unbacked = s.unbacked := rfl
@[simp] theorem State.emit_tests (s : State) (o : Out) : (s.emit o).tests = s.tests := rfl
@[simp] theorem State.emit_advice (s : State) (o : Out) : (s.emit o).advice = s.advice := rfl
@[simp] theorem State.emit_domains (s : State) (o : Out) : (s.emit o).domains = s.domains := rfl
@[simp] theorem State.emit_pwr (s : State) (o : Out) : (s.emit o).pwr = s.pwr := rfl
@[simp] theorem State.emit_clk (s : State) (o : Out) : (s.emit o).clk = s.clk := rfl
@[simp] theorem State.emit_hka (s : State) (o : Out) : (s.emit o).hka = s.hka := rfl
@[simp] theorem State.emit_thm (s : State) (o : Out) : (s.emit o).thm = s.thm := rfl
@[simp] theorem State.emit_weightKeys (s : State) (o : Out) : (s.emit o).weightKeys = s.weightKeys := rfl
@[simp] theorem State.emit_sec (s : State) (o : Out) : (s.emit o).sec = s.sec := rfl
@[simp] theorem State.emit_tapIr (s : State) (o : Out) : (s.emit o).tapIr = s.tapIr := rfl
@[simp] theorem State.emit_tapCells (s : State) (o : Out) : (s.emit o).tapCells = s.tapCells := rfl
@[simp] theorem State.emit_pending (s : State) (o : Out) : (s.emit o).pending = s.pending := rfl

@[simp] theorem State.draw_time (s : State) : (s.draw).time = s.time := rfl
@[simp] theorem State.draw_timeRuns (s : State) : (s.draw).timeRuns = s.timeRuns := rfl
@[simp] theorem State.draw_out (s : State) : (s.draw).out = s.out := rfl
@[simp] theorem State.draw_regs (s : State) : (s.draw).regs = s.regs := rfl
@[simp] theorem State.draw_latchHi (s : State) : (s.draw).latchHi = s.latchHi := rfl
@[simp] theorem State.draw_heldLow (s : State) : (s.draw).heldLow = s.heldLow := rfl
@[simp] theorem State.draw_rwlLocked (s : State) : (s.draw).rwlLocked = s.rwlLocked := rfl
@[simp] theorem State.draw_log (s : State) : (s.draw).log = s.log := rfl
@[simp] theorem State.draw_irq (s : State) : (s.draw).irq = s.irq := rfl
@[simp] theorem State.draw_fuses (s : State) : (s.draw).fuses = s.fuses := rfl
@[simp] theorem State.draw_arm (s : State) : (s.draw).arm = s.arm := rfl
@[simp] theorem State.draw_img (s : State) : (s.draw).img = s.img := rfl
@[simp] theorem State.draw_armFloor (s : State) : (s.draw).armFloor = s.armFloor := rfl
@[simp] theorem State.draw_heldSeal (s : State) : (s.draw).heldSeal = s.heldSeal := rfl
@[simp] theorem State.draw_arrays (s : State) : (s.draw).arrays = s.arrays := rfl
@[simp] theorem State.draw_fmts (s : State) : (s.draw).fmts = s.fmts := rfl
@[simp] theorem State.draw_fmtResets (s : State) : (s.draw).fmtResets = s.fmtResets := rfl
@[simp] theorem State.draw_cals (s : State) : (s.draw).cals = s.cals := rfl
@[simp] theorem State.draw_calStores (s : State) : (s.draw).calStores = s.calStores := rfl
@[simp] theorem State.draw_calSaves (s : State) : (s.draw).calSaves = s.calSaves := rfl
@[simp] theorem State.draw_cores (s : State) : (s.draw).cores = s.cores := rfl
@[simp] theorem State.draw_clusters (s : State) : (s.draw).clusters = s.clusters := rfl
@[simp] theorem State.draw_engines (s : State) : (s.draw).engines = s.engines := rfl
@[simp] theorem State.draw_handoffs (s : State) : (s.draw).handoffs = s.handoffs := rfl
@[simp] theorem State.draw_msgs (s : State) : (s.draw).msgs = s.msgs := rfl
@[simp] theorem State.draw_nextMsg (s : State) : (s.draw).nextMsg = s.nextMsg := rfl
@[simp] theorem State.draw_lanes (s : State) : (s.draw).lanes = s.lanes := rfl
@[simp] theorem State.draw_slices (s : State) : (s.draw).slices = s.slices := rfl
@[simp] theorem State.draw_unreachable (s : State) : (s.draw).unreachable = s.unreachable := rfl
@[simp] theorem State.draw_paced (s : State) : (s.draw).paced = s.paced := rfl
@[simp] theorem State.draw_peds (s : State) : (s.draw).peds = s.peds := rfl
@[simp] theorem State.draw_kvSeqs (s : State) : (s.draw).kvSeqs = s.kvSeqs := rfl
@[simp] theorem State.draw_parts (s : State) : (s.draw).parts = s.parts := rfl
@[simp] theorem State.draw_kvPools (s : State) : (s.draw).kvPools = s.kvPools := rfl
@[simp] theorem State.draw_prefixes (s : State) : (s.draw).prefixes = s.prefixes := rfl
@[simp] theorem State.draw_spills (s : State) : (s.draw).spills = s.spills := rfl
@[simp] theorem State.draw_emptyMarks (s : State) : (s.draw).emptyMarks = s.emptyMarks := rfl
@[simp] theorem State.draw_flushing (s : State) : (s.draw).flushing = s.flushing := rfl
@[simp] theorem State.draw_noFrame (s : State) : (s.draw).noFrame = s.noFrame := rfl
@[simp] theorem State.draw_wslots (s : State) : (s.draw).wslots = s.wslots := rfl
@[simp] theorem State.draw_winsts (s : State) : (s.draw).winsts = s.winsts := rfl
@[simp] theorem State.draw_wloads (s : State) : (s.draw).wloads = s.wloads := rfl
@[simp] theorem State.draw_insts (s : State) : (s.draw).insts = s.insts := rfl
@[simp] theorem State.draw_seqs (s : State) : (s.draw).seqs = s.seqs := rfl
@[simp] theorem State.draw_subRings (s : State) : (s.draw).subRings = s.subRings := rfl
@[simp] theorem State.draw_recRings (s : State) : (s.draw).recRings = s.recRings := rfl
@[simp] theorem State.draw_subLast (s : State) : (s.draw).subLast = s.subLast := rfl
@[simp] theorem State.draw_schStatus (s : State) : (s.draw).schStatus = s.schStatus := rfl
@[simp] theorem State.draw_schCmd (s : State) : (s.draw).schCmd = s.schCmd := rfl
@[simp] theorem State.draw_smpRows (s : State) : (s.draw).smpRows = s.smpRows := rfl
@[simp] theorem State.draw_grammars (s : State) : (s.draw).grammars = s.grammars := rfl
@[simp] theorem State.draw_grmCache (s : State) : (s.draw).grmCache = s.grmCache := rfl
@[simp] theorem State.draw_ports (s : State) : (s.draw).ports = s.ports := rfl
@[simp] theorem State.draw_cmd (s : State) : (s.draw).cmd = s.cmd := rfl
@[simp] theorem State.draw_evrInFlight (s : State) : (s.draw).evrInFlight = s.evrInFlight := rfl
@[simp] theorem State.draw_mgmtEid (s : State) : (s.draw).mgmtEid = s.mgmtEid := rfl
@[simp] theorem State.draw_araMask (s : State) : (s.draw).araMask = s.araMask := rfl
@[simp] theorem State.draw_ftrStale (s : State) : (s.draw).ftrStale = s.ftrStale := rfl
@[simp] theorem State.draw_icpIn (s : State) : (s.draw).icpIn = s.icpIn := rfl
@[simp] theorem State.draw_icps (s : State) : (s.draw).icps = s.icps := rfl
@[simp] theorem State.draw_sync (s : State) : (s.draw).sync = s.sync := rfl
@[simp] theorem State.draw_replicas (s : State) : (s.draw).replicas = s.replicas := rfl
@[simp] theorem State.draw_digests (s : State) : (s.draw).digests = s.digests := rfl
@[simp] theorem State.draw_reserves (s : State) : (s.draw).reserves = s.reserves := rfl
@[simp] theorem State.draw_takeovers (s : State) : (s.draw).takeovers = s.takeovers := rfl
@[simp] theorem State.draw_arrTakeovers (s : State) : (s.draw).arrTakeovers = s.arrTakeovers := rfl
@[simp] theorem State.draw_unbacked (s : State) : (s.draw).unbacked = s.unbacked := rfl
@[simp] theorem State.draw_tests (s : State) : (s.draw).tests = s.tests := rfl
@[simp] theorem State.draw_advice (s : State) : (s.draw).advice = s.advice := rfl
@[simp] theorem State.draw_domains (s : State) : (s.draw).domains = s.domains := rfl
@[simp] theorem State.draw_pwr (s : State) : (s.draw).pwr = s.pwr := rfl
@[simp] theorem State.draw_clk (s : State) : (s.draw).clk = s.clk := rfl
@[simp] theorem State.draw_hka (s : State) : (s.draw).hka = s.hka := rfl
@[simp] theorem State.draw_thm (s : State) : (s.draw).thm = s.thm := rfl
@[simp] theorem State.draw_weightKeys (s : State) : (s.draw).weightKeys = s.weightKeys := rfl
@[simp] theorem State.draw_sec (s : State) : (s.draw).sec = s.sec := rfl
@[simp] theorem State.draw_tapIr (s : State) : (s.draw).tapIr = s.tapIr := rfl
@[simp] theorem State.draw_tapCells (s : State) : (s.draw).tapCells = s.tapCells := rfl
@[simp] theorem State.draw_pending (s : State) : (s.draw).pending = s.pending := rfl

@[simp] theorem State.setReg_time (s : State) (off : Nat) (v : W32) : (s.setReg off v).time = s.time := rfl
@[simp] theorem State.setReg_timeRuns (s : State) (off : Nat) (v : W32) : (s.setReg off v).timeRuns = s.timeRuns := rfl
@[simp] theorem State.setReg_freeCtr (s : State) (off : Nat) (v : W32) : (s.setReg off v).freeCtr = s.freeCtr := rfl
@[simp] theorem State.setReg_out (s : State) (off : Nat) (v : W32) : (s.setReg off v).out = s.out := rfl
@[simp] theorem State.setReg_latchHi (s : State) (off : Nat) (v : W32) : (s.setReg off v).latchHi = s.latchHi := rfl
@[simp] theorem State.setReg_heldLow (s : State) (off : Nat) (v : W32) : (s.setReg off v).heldLow = s.heldLow := rfl
@[simp] theorem State.setReg_rwlLocked (s : State) (off : Nat) (v : W32) : (s.setReg off v).rwlLocked = s.rwlLocked := rfl
@[simp] theorem State.setReg_log (s : State) (off : Nat) (v : W32) : (s.setReg off v).log = s.log := rfl
@[simp] theorem State.setReg_irq (s : State) (off : Nat) (v : W32) : (s.setReg off v).irq = s.irq := rfl
@[simp] theorem State.setReg_fuses (s : State) (off : Nat) (v : W32) : (s.setReg off v).fuses = s.fuses := rfl
@[simp] theorem State.setReg_arm (s : State) (off : Nat) (v : W32) : (s.setReg off v).arm = s.arm := rfl
@[simp] theorem State.setReg_img (s : State) (off : Nat) (v : W32) : (s.setReg off v).img = s.img := rfl
@[simp] theorem State.setReg_armFloor (s : State) (off : Nat) (v : W32) : (s.setReg off v).armFloor = s.armFloor := rfl
@[simp] theorem State.setReg_heldSeal (s : State) (off : Nat) (v : W32) : (s.setReg off v).heldSeal = s.heldSeal := rfl
@[simp] theorem State.setReg_arrays (s : State) (off : Nat) (v : W32) : (s.setReg off v).arrays = s.arrays := rfl
@[simp] theorem State.setReg_fmts (s : State) (off : Nat) (v : W32) : (s.setReg off v).fmts = s.fmts := rfl
@[simp] theorem State.setReg_fmtResets (s : State) (off : Nat) (v : W32) : (s.setReg off v).fmtResets = s.fmtResets := rfl
@[simp] theorem State.setReg_cals (s : State) (off : Nat) (v : W32) : (s.setReg off v).cals = s.cals := rfl
@[simp] theorem State.setReg_calStores (s : State) (off : Nat) (v : W32) : (s.setReg off v).calStores = s.calStores := rfl
@[simp] theorem State.setReg_calSaves (s : State) (off : Nat) (v : W32) : (s.setReg off v).calSaves = s.calSaves := rfl
@[simp] theorem State.setReg_cores (s : State) (off : Nat) (v : W32) : (s.setReg off v).cores = s.cores := rfl
@[simp] theorem State.setReg_clusters (s : State) (off : Nat) (v : W32) : (s.setReg off v).clusters = s.clusters := rfl
@[simp] theorem State.setReg_engines (s : State) (off : Nat) (v : W32) : (s.setReg off v).engines = s.engines := rfl
@[simp] theorem State.setReg_handoffs (s : State) (off : Nat) (v : W32) : (s.setReg off v).handoffs = s.handoffs := rfl
@[simp] theorem State.setReg_msgs (s : State) (off : Nat) (v : W32) : (s.setReg off v).msgs = s.msgs := rfl
@[simp] theorem State.setReg_nextMsg (s : State) (off : Nat) (v : W32) : (s.setReg off v).nextMsg = s.nextMsg := rfl
@[simp] theorem State.setReg_lanes (s : State) (off : Nat) (v : W32) : (s.setReg off v).lanes = s.lanes := rfl
@[simp] theorem State.setReg_slices (s : State) (off : Nat) (v : W32) : (s.setReg off v).slices = s.slices := rfl
@[simp] theorem State.setReg_unreachable (s : State) (off : Nat) (v : W32) : (s.setReg off v).unreachable = s.unreachable := rfl
@[simp] theorem State.setReg_paced (s : State) (off : Nat) (v : W32) : (s.setReg off v).paced = s.paced := rfl
@[simp] theorem State.setReg_peds (s : State) (off : Nat) (v : W32) : (s.setReg off v).peds = s.peds := rfl
@[simp] theorem State.setReg_kvSeqs (s : State) (off : Nat) (v : W32) : (s.setReg off v).kvSeqs = s.kvSeqs := rfl
@[simp] theorem State.setReg_parts (s : State) (off : Nat) (v : W32) : (s.setReg off v).parts = s.parts := rfl
@[simp] theorem State.setReg_kvPools (s : State) (off : Nat) (v : W32) : (s.setReg off v).kvPools = s.kvPools := rfl
@[simp] theorem State.setReg_prefixes (s : State) (off : Nat) (v : W32) : (s.setReg off v).prefixes = s.prefixes := rfl
@[simp] theorem State.setReg_spills (s : State) (off : Nat) (v : W32) : (s.setReg off v).spills = s.spills := rfl
@[simp] theorem State.setReg_emptyMarks (s : State) (off : Nat) (v : W32) : (s.setReg off v).emptyMarks = s.emptyMarks := rfl
@[simp] theorem State.setReg_flushing (s : State) (off : Nat) (v : W32) : (s.setReg off v).flushing = s.flushing := rfl
@[simp] theorem State.setReg_noFrame (s : State) (off : Nat) (v : W32) : (s.setReg off v).noFrame = s.noFrame := rfl
@[simp] theorem State.setReg_wslots (s : State) (off : Nat) (v : W32) : (s.setReg off v).wslots = s.wslots := rfl
@[simp] theorem State.setReg_winsts (s : State) (off : Nat) (v : W32) : (s.setReg off v).winsts = s.winsts := rfl
@[simp] theorem State.setReg_wloads (s : State) (off : Nat) (v : W32) : (s.setReg off v).wloads = s.wloads := rfl
@[simp] theorem State.setReg_insts (s : State) (off : Nat) (v : W32) : (s.setReg off v).insts = s.insts := rfl
@[simp] theorem State.setReg_seqs (s : State) (off : Nat) (v : W32) : (s.setReg off v).seqs = s.seqs := rfl
@[simp] theorem State.setReg_subRings (s : State) (off : Nat) (v : W32) : (s.setReg off v).subRings = s.subRings := rfl
@[simp] theorem State.setReg_recRings (s : State) (off : Nat) (v : W32) : (s.setReg off v).recRings = s.recRings := rfl
@[simp] theorem State.setReg_subLast (s : State) (off : Nat) (v : W32) : (s.setReg off v).subLast = s.subLast := rfl
@[simp] theorem State.setReg_schStatus (s : State) (off : Nat) (v : W32) : (s.setReg off v).schStatus = s.schStatus := rfl
@[simp] theorem State.setReg_schCmd (s : State) (off : Nat) (v : W32) : (s.setReg off v).schCmd = s.schCmd := rfl
@[simp] theorem State.setReg_smpRows (s : State) (off : Nat) (v : W32) : (s.setReg off v).smpRows = s.smpRows := rfl
@[simp] theorem State.setReg_grammars (s : State) (off : Nat) (v : W32) : (s.setReg off v).grammars = s.grammars := rfl
@[simp] theorem State.setReg_grmCache (s : State) (off : Nat) (v : W32) : (s.setReg off v).grmCache = s.grmCache := rfl
@[simp] theorem State.setReg_ports (s : State) (off : Nat) (v : W32) : (s.setReg off v).ports = s.ports := rfl
@[simp] theorem State.setReg_cmd (s : State) (off : Nat) (v : W32) : (s.setReg off v).cmd = s.cmd := rfl
@[simp] theorem State.setReg_evrInFlight (s : State) (off : Nat) (v : W32) : (s.setReg off v).evrInFlight = s.evrInFlight := rfl
@[simp] theorem State.setReg_mgmtEid (s : State) (off : Nat) (v : W32) : (s.setReg off v).mgmtEid = s.mgmtEid := rfl
@[simp] theorem State.setReg_araMask (s : State) (off : Nat) (v : W32) : (s.setReg off v).araMask = s.araMask := rfl
@[simp] theorem State.setReg_ftrStale (s : State) (off : Nat) (v : W32) : (s.setReg off v).ftrStale = s.ftrStale := rfl
@[simp] theorem State.setReg_icpIn (s : State) (off : Nat) (v : W32) : (s.setReg off v).icpIn = s.icpIn := rfl
@[simp] theorem State.setReg_icps (s : State) (off : Nat) (v : W32) : (s.setReg off v).icps = s.icps := rfl
@[simp] theorem State.setReg_sync (s : State) (off : Nat) (v : W32) : (s.setReg off v).sync = s.sync := rfl
@[simp] theorem State.setReg_replicas (s : State) (off : Nat) (v : W32) : (s.setReg off v).replicas = s.replicas := rfl
@[simp] theorem State.setReg_digests (s : State) (off : Nat) (v : W32) : (s.setReg off v).digests = s.digests := rfl
@[simp] theorem State.setReg_reserves (s : State) (off : Nat) (v : W32) : (s.setReg off v).reserves = s.reserves := rfl
@[simp] theorem State.setReg_takeovers (s : State) (off : Nat) (v : W32) : (s.setReg off v).takeovers = s.takeovers := rfl
@[simp] theorem State.setReg_arrTakeovers (s : State) (off : Nat) (v : W32) : (s.setReg off v).arrTakeovers = s.arrTakeovers := rfl
@[simp] theorem State.setReg_unbacked (s : State) (off : Nat) (v : W32) : (s.setReg off v).unbacked = s.unbacked := rfl
@[simp] theorem State.setReg_tests (s : State) (off : Nat) (v : W32) : (s.setReg off v).tests = s.tests := rfl
@[simp] theorem State.setReg_advice (s : State) (off : Nat) (v : W32) : (s.setReg off v).advice = s.advice := rfl
@[simp] theorem State.setReg_domains (s : State) (off : Nat) (v : W32) : (s.setReg off v).domains = s.domains := rfl
@[simp] theorem State.setReg_pwr (s : State) (off : Nat) (v : W32) : (s.setReg off v).pwr = s.pwr := rfl
@[simp] theorem State.setReg_clk (s : State) (off : Nat) (v : W32) : (s.setReg off v).clk = s.clk := rfl
@[simp] theorem State.setReg_hka (s : State) (off : Nat) (v : W32) : (s.setReg off v).hka = s.hka := rfl
@[simp] theorem State.setReg_thm (s : State) (off : Nat) (v : W32) : (s.setReg off v).thm = s.thm := rfl
@[simp] theorem State.setReg_weightKeys (s : State) (off : Nat) (v : W32) : (s.setReg off v).weightKeys = s.weightKeys := rfl
@[simp] theorem State.setReg_sec (s : State) (off : Nat) (v : W32) : (s.setReg off v).sec = s.sec := rfl
@[simp] theorem State.setReg_tapIr (s : State) (off : Nat) (v : W32) : (s.setReg off v).tapIr = s.tapIr := rfl
@[simp] theorem State.setReg_tapCells (s : State) (off : Nat) (v : W32) : (s.setReg off v).tapCells = s.tapCells := rfl
@[simp] theorem State.setReg_pending (s : State) (off : Nat) (v : W32) : (s.setReg off v).pending = s.pending := rfl

@[simp] theorem State.emit_out (s : State) (o : Out) : (s.emit o).out = s.out ++ [o] := rfl

/-- What `State.Follows` says of one component that its mask leaves out. -/
theorem State.Follows.at {m : Nat} {s t : State} (h : s.Follows m t) {α : Type} (f : State → α) (k : Nat)
    (d : α) (e : ∀ x : State, f (x.erase m) = bif m.testBit k then d else f x) (hb : m.testBit k = false) : f t = f s := by
  have g := congrArg f h.same
  rw [e t, e s, hb] at g
  exact g

@[simp] theorem State.countBy_time (s : State) (off n : Nat) : (s.countBy off n).time = s.time := rfl
@[simp] theorem State.countBy_timeRuns (s : State) (off n : Nat) : (s.countBy off n).timeRuns = s.timeRuns := rfl
@[simp] theorem State.countBy_freeCtr (s : State) (off n : Nat) : (s.countBy off n).freeCtr = s.freeCtr := rfl
@[simp] theorem State.countBy_out (s : State) (off n : Nat) : (s.countBy off n).out = s.out := rfl
@[simp] theorem State.countBy_latchHi (s : State) (off n : Nat) : (s.countBy off n).latchHi = s.latchHi := rfl
@[simp] theorem State.countBy_heldLow (s : State) (off n : Nat) : (s.countBy off n).heldLow = s.heldLow := rfl
@[simp] theorem State.countBy_rwlLocked (s : State) (off n : Nat) : (s.countBy off n).rwlLocked = s.rwlLocked := rfl
@[simp] theorem State.countBy_log (s : State) (off n : Nat) : (s.countBy off n).log = s.log := rfl
@[simp] theorem State.countBy_irq (s : State) (off n : Nat) : (s.countBy off n).irq = s.irq := rfl
@[simp] theorem State.countBy_fuses (s : State) (off n : Nat) : (s.countBy off n).fuses = s.fuses := rfl
@[simp] theorem State.countBy_arm (s : State) (off n : Nat) : (s.countBy off n).arm = s.arm := rfl
@[simp] theorem State.countBy_img (s : State) (off n : Nat) : (s.countBy off n).img = s.img := rfl
@[simp] theorem State.countBy_armFloor (s : State) (off n : Nat) : (s.countBy off n).armFloor = s.armFloor := rfl
@[simp] theorem State.countBy_heldSeal (s : State) (off n : Nat) : (s.countBy off n).heldSeal = s.heldSeal := rfl
@[simp] theorem State.countBy_arrays (s : State) (off n : Nat) : (s.countBy off n).arrays = s.arrays := rfl
@[simp] theorem State.countBy_fmts (s : State) (off n : Nat) : (s.countBy off n).fmts = s.fmts := rfl
@[simp] theorem State.countBy_fmtResets (s : State) (off n : Nat) : (s.countBy off n).fmtResets = s.fmtResets := rfl
@[simp] theorem State.countBy_cals (s : State) (off n : Nat) : (s.countBy off n).cals = s.cals := rfl
@[simp] theorem State.countBy_calStores (s : State) (off n : Nat) : (s.countBy off n).calStores = s.calStores := rfl
@[simp] theorem State.countBy_calSaves (s : State) (off n : Nat) : (s.countBy off n).calSaves = s.calSaves := rfl
@[simp] theorem State.countBy_cores (s : State) (off n : Nat) : (s.countBy off n).cores = s.cores := rfl
@[simp] theorem State.countBy_clusters (s : State) (off n : Nat) : (s.countBy off n).clusters = s.clusters := rfl
@[simp] theorem State.countBy_engines (s : State) (off n : Nat) : (s.countBy off n).engines = s.engines := rfl
@[simp] theorem State.countBy_handoffs (s : State) (off n : Nat) : (s.countBy off n).handoffs = s.handoffs := rfl
@[simp] theorem State.countBy_msgs (s : State) (off n : Nat) : (s.countBy off n).msgs = s.msgs := rfl
@[simp] theorem State.countBy_nextMsg (s : State) (off n : Nat) : (s.countBy off n).nextMsg = s.nextMsg := rfl
@[simp] theorem State.countBy_lanes (s : State) (off n : Nat) : (s.countBy off n).lanes = s.lanes := rfl
@[simp] theorem State.countBy_slices (s : State) (off n : Nat) : (s.countBy off n).slices = s.slices := rfl
@[simp] theorem State.countBy_unreachable (s : State) (off n : Nat) : (s.countBy off n).unreachable = s.unreachable := rfl
@[simp] theorem State.countBy_paced (s : State) (off n : Nat) : (s.countBy off n).paced = s.paced := rfl
@[simp] theorem State.countBy_peds (s : State) (off n : Nat) : (s.countBy off n).peds = s.peds := rfl
@[simp] theorem State.countBy_kvSeqs (s : State) (off n : Nat) : (s.countBy off n).kvSeqs = s.kvSeqs := rfl
@[simp] theorem State.countBy_parts (s : State) (off n : Nat) : (s.countBy off n).parts = s.parts := rfl
@[simp] theorem State.countBy_kvPools (s : State) (off n : Nat) : (s.countBy off n).kvPools = s.kvPools := rfl
@[simp] theorem State.countBy_prefixes (s : State) (off n : Nat) : (s.countBy off n).prefixes = s.prefixes := rfl
@[simp] theorem State.countBy_spills (s : State) (off n : Nat) : (s.countBy off n).spills = s.spills := rfl
@[simp] theorem State.countBy_emptyMarks (s : State) (off n : Nat) : (s.countBy off n).emptyMarks = s.emptyMarks := rfl
@[simp] theorem State.countBy_flushing (s : State) (off n : Nat) : (s.countBy off n).flushing = s.flushing := rfl
@[simp] theorem State.countBy_noFrame (s : State) (off n : Nat) : (s.countBy off n).noFrame = s.noFrame := rfl
@[simp] theorem State.countBy_wslots (s : State) (off n : Nat) : (s.countBy off n).wslots = s.wslots := rfl
@[simp] theorem State.countBy_winsts (s : State) (off n : Nat) : (s.countBy off n).winsts = s.winsts := rfl
@[simp] theorem State.countBy_wloads (s : State) (off n : Nat) : (s.countBy off n).wloads = s.wloads := rfl
@[simp] theorem State.countBy_insts (s : State) (off n : Nat) : (s.countBy off n).insts = s.insts := rfl
@[simp] theorem State.countBy_seqs (s : State) (off n : Nat) : (s.countBy off n).seqs = s.seqs := rfl
@[simp] theorem State.countBy_subRings (s : State) (off n : Nat) : (s.countBy off n).subRings = s.subRings := rfl
@[simp] theorem State.countBy_recRings (s : State) (off n : Nat) : (s.countBy off n).recRings = s.recRings := rfl
@[simp] theorem State.countBy_subLast (s : State) (off n : Nat) : (s.countBy off n).subLast = s.subLast := rfl
@[simp] theorem State.countBy_schStatus (s : State) (off n : Nat) : (s.countBy off n).schStatus = s.schStatus := rfl
@[simp] theorem State.countBy_schCmd (s : State) (off n : Nat) : (s.countBy off n).schCmd = s.schCmd := rfl
@[simp] theorem State.countBy_smpRows (s : State) (off n : Nat) : (s.countBy off n).smpRows = s.smpRows := rfl
@[simp] theorem State.countBy_grammars (s : State) (off n : Nat) : (s.countBy off n).grammars = s.grammars := rfl
@[simp] theorem State.countBy_grmCache (s : State) (off n : Nat) : (s.countBy off n).grmCache = s.grmCache := rfl
@[simp] theorem State.countBy_ports (s : State) (off n : Nat) : (s.countBy off n).ports = s.ports := rfl
@[simp] theorem State.countBy_cmd (s : State) (off n : Nat) : (s.countBy off n).cmd = s.cmd := rfl
@[simp] theorem State.countBy_evrInFlight (s : State) (off n : Nat) : (s.countBy off n).evrInFlight = s.evrInFlight := rfl
@[simp] theorem State.countBy_mgmtEid (s : State) (off n : Nat) : (s.countBy off n).mgmtEid = s.mgmtEid := rfl
@[simp] theorem State.countBy_araMask (s : State) (off n : Nat) : (s.countBy off n).araMask = s.araMask := rfl
@[simp] theorem State.countBy_ftrStale (s : State) (off n : Nat) : (s.countBy off n).ftrStale = s.ftrStale := rfl
@[simp] theorem State.countBy_icpIn (s : State) (off n : Nat) : (s.countBy off n).icpIn = s.icpIn := rfl
@[simp] theorem State.countBy_icps (s : State) (off n : Nat) : (s.countBy off n).icps = s.icps := rfl
@[simp] theorem State.countBy_sync (s : State) (off n : Nat) : (s.countBy off n).sync = s.sync := rfl
@[simp] theorem State.countBy_replicas (s : State) (off n : Nat) : (s.countBy off n).replicas = s.replicas := rfl
@[simp] theorem State.countBy_digests (s : State) (off n : Nat) : (s.countBy off n).digests = s.digests := rfl
@[simp] theorem State.countBy_reserves (s : State) (off n : Nat) : (s.countBy off n).reserves = s.reserves := rfl
@[simp] theorem State.countBy_takeovers (s : State) (off n : Nat) : (s.countBy off n).takeovers = s.takeovers := rfl
@[simp] theorem State.countBy_arrTakeovers (s : State) (off n : Nat) : (s.countBy off n).arrTakeovers = s.arrTakeovers := rfl
@[simp] theorem State.countBy_unbacked (s : State) (off n : Nat) : (s.countBy off n).unbacked = s.unbacked := rfl
@[simp] theorem State.countBy_tests (s : State) (off n : Nat) : (s.countBy off n).tests = s.tests := rfl
@[simp] theorem State.countBy_advice (s : State) (off n : Nat) : (s.countBy off n).advice = s.advice := rfl
@[simp] theorem State.countBy_domains (s : State) (off n : Nat) : (s.countBy off n).domains = s.domains := rfl
@[simp] theorem State.countBy_pwr (s : State) (off n : Nat) : (s.countBy off n).pwr = s.pwr := rfl
@[simp] theorem State.countBy_clk (s : State) (off n : Nat) : (s.countBy off n).clk = s.clk := rfl
@[simp] theorem State.countBy_hka (s : State) (off n : Nat) : (s.countBy off n).hka = s.hka := rfl
@[simp] theorem State.countBy_thm (s : State) (off n : Nat) : (s.countBy off n).thm = s.thm := rfl
@[simp] theorem State.countBy_weightKeys (s : State) (off n : Nat) : (s.countBy off n).weightKeys = s.weightKeys := rfl
@[simp] theorem State.countBy_sec (s : State) (off n : Nat) : (s.countBy off n).sec = s.sec := rfl
@[simp] theorem State.countBy_tapIr (s : State) (off n : Nat) : (s.countBy off n).tapIr = s.tapIr := rfl
@[simp] theorem State.countBy_tapCells (s : State) (off n : Nat) : (s.countBy off n).tapCells = s.tapCells := rfl
@[simp] theorem State.countBy_pending (s : State) (off n : Nat) : (s.countBy off n).pending = s.pending :=
  (State.countBy_follows rfl (State.Follows.refl 16 s)).pending

@[simp] theorem State.count_time (s : State) (off : Nat) : (s.count off).time = s.time := rfl
@[simp] theorem State.count_timeRuns (s : State) (off : Nat) : (s.count off).timeRuns = s.timeRuns := rfl
@[simp] theorem State.count_freeCtr (s : State) (off : Nat) : (s.count off).freeCtr = s.freeCtr := rfl
@[simp] theorem State.count_out (s : State) (off : Nat) : (s.count off).out = s.out := rfl
@[simp] theorem State.count_latchHi (s : State) (off : Nat) : (s.count off).latchHi = s.latchHi := rfl
@[simp] theorem State.count_heldLow (s : State) (off : Nat) : (s.count off).heldLow = s.heldLow := rfl
@[simp] theorem State.count_rwlLocked (s : State) (off : Nat) : (s.count off).rwlLocked = s.rwlLocked := rfl
@[simp] theorem State.count_log (s : State) (off : Nat) : (s.count off).log = s.log := rfl
@[simp] theorem State.count_irq (s : State) (off : Nat) : (s.count off).irq = s.irq := rfl
@[simp] theorem State.count_fuses (s : State) (off : Nat) : (s.count off).fuses = s.fuses := rfl
@[simp] theorem State.count_arm (s : State) (off : Nat) : (s.count off).arm = s.arm := rfl
@[simp] theorem State.count_img (s : State) (off : Nat) : (s.count off).img = s.img := rfl
@[simp] theorem State.count_armFloor (s : State) (off : Nat) : (s.count off).armFloor = s.armFloor := rfl
@[simp] theorem State.count_heldSeal (s : State) (off : Nat) : (s.count off).heldSeal = s.heldSeal := rfl
@[simp] theorem State.count_arrays (s : State) (off : Nat) : (s.count off).arrays = s.arrays := rfl
@[simp] theorem State.count_fmts (s : State) (off : Nat) : (s.count off).fmts = s.fmts := rfl
@[simp] theorem State.count_fmtResets (s : State) (off : Nat) : (s.count off).fmtResets = s.fmtResets := rfl
@[simp] theorem State.count_cals (s : State) (off : Nat) : (s.count off).cals = s.cals := rfl
@[simp] theorem State.count_calStores (s : State) (off : Nat) : (s.count off).calStores = s.calStores := rfl
@[simp] theorem State.count_calSaves (s : State) (off : Nat) : (s.count off).calSaves = s.calSaves := rfl
@[simp] theorem State.count_cores (s : State) (off : Nat) : (s.count off).cores = s.cores := rfl
@[simp] theorem State.count_clusters (s : State) (off : Nat) : (s.count off).clusters = s.clusters := rfl
@[simp] theorem State.count_engines (s : State) (off : Nat) : (s.count off).engines = s.engines := rfl
@[simp] theorem State.count_handoffs (s : State) (off : Nat) : (s.count off).handoffs = s.handoffs := rfl
@[simp] theorem State.count_msgs (s : State) (off : Nat) : (s.count off).msgs = s.msgs := rfl
@[simp] theorem State.count_nextMsg (s : State) (off : Nat) : (s.count off).nextMsg = s.nextMsg := rfl
@[simp] theorem State.count_lanes (s : State) (off : Nat) : (s.count off).lanes = s.lanes := rfl
@[simp] theorem State.count_slices (s : State) (off : Nat) : (s.count off).slices = s.slices := rfl
@[simp] theorem State.count_unreachable (s : State) (off : Nat) : (s.count off).unreachable = s.unreachable := rfl
@[simp] theorem State.count_paced (s : State) (off : Nat) : (s.count off).paced = s.paced := rfl
@[simp] theorem State.count_peds (s : State) (off : Nat) : (s.count off).peds = s.peds := rfl
@[simp] theorem State.count_kvSeqs (s : State) (off : Nat) : (s.count off).kvSeqs = s.kvSeqs := rfl
@[simp] theorem State.count_parts (s : State) (off : Nat) : (s.count off).parts = s.parts := rfl
@[simp] theorem State.count_kvPools (s : State) (off : Nat) : (s.count off).kvPools = s.kvPools := rfl
@[simp] theorem State.count_prefixes (s : State) (off : Nat) : (s.count off).prefixes = s.prefixes := rfl
@[simp] theorem State.count_spills (s : State) (off : Nat) : (s.count off).spills = s.spills := rfl
@[simp] theorem State.count_emptyMarks (s : State) (off : Nat) : (s.count off).emptyMarks = s.emptyMarks := rfl
@[simp] theorem State.count_flushing (s : State) (off : Nat) : (s.count off).flushing = s.flushing := rfl
@[simp] theorem State.count_noFrame (s : State) (off : Nat) : (s.count off).noFrame = s.noFrame := rfl
@[simp] theorem State.count_wslots (s : State) (off : Nat) : (s.count off).wslots = s.wslots := rfl
@[simp] theorem State.count_winsts (s : State) (off : Nat) : (s.count off).winsts = s.winsts := rfl
@[simp] theorem State.count_wloads (s : State) (off : Nat) : (s.count off).wloads = s.wloads := rfl
@[simp] theorem State.count_insts (s : State) (off : Nat) : (s.count off).insts = s.insts := rfl
@[simp] theorem State.count_seqs (s : State) (off : Nat) : (s.count off).seqs = s.seqs := rfl
@[simp] theorem State.count_subRings (s : State) (off : Nat) : (s.count off).subRings = s.subRings := rfl
@[simp] theorem State.count_recRings (s : State) (off : Nat) : (s.count off).recRings = s.recRings := rfl
@[simp] theorem State.count_subLast (s : State) (off : Nat) : (s.count off).subLast = s.subLast := rfl
@[simp] theorem State.count_schStatus (s : State) (off : Nat) : (s.count off).schStatus = s.schStatus := rfl
@[simp] theorem State.count_schCmd (s : State) (off : Nat) : (s.count off).schCmd = s.schCmd := rfl
@[simp] theorem State.count_smpRows (s : State) (off : Nat) : (s.count off).smpRows = s.smpRows := rfl
@[simp] theorem State.count_grammars (s : State) (off : Nat) : (s.count off).grammars = s.grammars := rfl
@[simp] theorem State.count_grmCache (s : State) (off : Nat) : (s.count off).grmCache = s.grmCache := rfl
@[simp] theorem State.count_ports (s : State) (off : Nat) : (s.count off).ports = s.ports := rfl
@[simp] theorem State.count_cmd (s : State) (off : Nat) : (s.count off).cmd = s.cmd := rfl
@[simp] theorem State.count_evrInFlight (s : State) (off : Nat) : (s.count off).evrInFlight = s.evrInFlight := rfl
@[simp] theorem State.count_mgmtEid (s : State) (off : Nat) : (s.count off).mgmtEid = s.mgmtEid := rfl
@[simp] theorem State.count_araMask (s : State) (off : Nat) : (s.count off).araMask = s.araMask := rfl
@[simp] theorem State.count_ftrStale (s : State) (off : Nat) : (s.count off).ftrStale = s.ftrStale := rfl
@[simp] theorem State.count_icpIn (s : State) (off : Nat) : (s.count off).icpIn = s.icpIn := rfl
@[simp] theorem State.count_icps (s : State) (off : Nat) : (s.count off).icps = s.icps := rfl
@[simp] theorem State.count_sync (s : State) (off : Nat) : (s.count off).sync = s.sync := rfl
@[simp] theorem State.count_replicas (s : State) (off : Nat) : (s.count off).replicas = s.replicas := rfl
@[simp] theorem State.count_digests (s : State) (off : Nat) : (s.count off).digests = s.digests := rfl
@[simp] theorem State.count_reserves (s : State) (off : Nat) : (s.count off).reserves = s.reserves := rfl
@[simp] theorem State.count_takeovers (s : State) (off : Nat) : (s.count off).takeovers = s.takeovers := rfl
@[simp] theorem State.count_arrTakeovers (s : State) (off : Nat) : (s.count off).arrTakeovers = s.arrTakeovers := rfl
@[simp] theorem State.count_unbacked (s : State) (off : Nat) : (s.count off).unbacked = s.unbacked := rfl
@[simp] theorem State.count_tests (s : State) (off : Nat) : (s.count off).tests = s.tests := rfl
@[simp] theorem State.count_advice (s : State) (off : Nat) : (s.count off).advice = s.advice := rfl
@[simp] theorem State.count_domains (s : State) (off : Nat) : (s.count off).domains = s.domains := rfl
@[simp] theorem State.count_pwr (s : State) (off : Nat) : (s.count off).pwr = s.pwr := rfl
@[simp] theorem State.count_clk (s : State) (off : Nat) : (s.count off).clk = s.clk := rfl
@[simp] theorem State.count_hka (s : State) (off : Nat) : (s.count off).hka = s.hka := rfl
@[simp] theorem State.count_thm (s : State) (off : Nat) : (s.count off).thm = s.thm := rfl
@[simp] theorem State.count_weightKeys (s : State) (off : Nat) : (s.count off).weightKeys = s.weightKeys := rfl
@[simp] theorem State.count_sec (s : State) (off : Nat) : (s.count off).sec = s.sec := rfl
@[simp] theorem State.count_tapIr (s : State) (off : Nat) : (s.count off).tapIr = s.tapIr := rfl
@[simp] theorem State.count_tapCells (s : State) (off : Nat) : (s.count off).tapCells = s.tapCells := rfl
@[simp] theorem State.count_pending (s : State) (off : Nat) : (s.count off).pending = s.pending :=
  (State.count_follows rfl (State.Follows.refl 16 s)).pending

@[simp] theorem State.irqEvents_time (s : State) (src n : Nat) : (s.irqEvents src n).time = s.time :=
  (State.irqEvents_follows rfl (State.Follows.refl 9007199254741512 s)).at State.time 0 State.reset.time (fun _ => rfl) rfl
@[simp] theorem State.irqEvents_timeRuns (s : State) (src n : Nat) : (s.irqEvents src n).timeRuns = s.timeRuns :=
  (State.irqEvents_follows rfl (State.Follows.refl 9007199254741512 s)).at State.timeRuns 1 State.reset.timeRuns (fun _ => rfl) rfl
@[simp] theorem State.irqEvents_freeCtr (s : State) (src n : Nat) : (s.irqEvents src n).freeCtr = s.freeCtr :=
  (State.irqEvents_follows rfl (State.Follows.refl 9007199254741512 s)).at State.freeCtr 2 State.reset.freeCtr (fun _ => rfl) rfl
@[simp] theorem State.irqEvents_regs (s : State) (src n : Nat) : (s.irqEvents src n).regs = s.regs :=
  (State.irqEvents_follows rfl (State.Follows.refl 9007199254741512 s)).at State.regs 4 State.reset.regs (fun _ => rfl) rfl
@[simp] theorem State.irqEvents_latchHi (s : State) (src n : Nat) : (s.irqEvents src n).latchHi = s.latchHi :=
  (State.irqEvents_follows rfl (State.Follows.refl 9007199254741512 s)).at State.latchHi 5 State.reset.latchHi (fun _ => rfl) rfl
@[simp] theorem State.irqEvents_heldLow (s : State) (src n : Nat) : (s.irqEvents src n).heldLow = s.heldLow :=
  (State.irqEvents_follows rfl (State.Follows.refl 9007199254741512 s)).at State.heldLow 6 State.reset.heldLow (fun _ => rfl) rfl
@[simp] theorem State.irqEvents_rwlLocked (s : State) (src n : Nat) : (s.irqEvents src n).rwlLocked = s.rwlLocked :=
  (State.irqEvents_follows rfl (State.Follows.refl 9007199254741512 s)).at State.rwlLocked 7 State.reset.rwlLocked (fun _ => rfl) rfl
@[simp] theorem State.irqEvents_log (s : State) (src n : Nat) : (s.irqEvents src n).log = s.log :=
  (State.irqEvents_follows rfl (State.Follows.refl 9007199254741512 s)).at State.log 8 State.reset.log (fun _ => rfl) rfl
@[simp] theorem State.irqEvents_fuses (s : State) (src n : Nat) : (s.irqEvents src n).fuses = s.fuses :=
  (State.irqEvents_follows rfl (State.Follows.refl 9007199254741512 s)).at State.fuses 10 State.reset.fuses (fun _ => rfl) rfl
@[simp] theorem State.irqEvents_arm (s : State) (src n : Nat) : (s.irqEvents src n).arm = s.arm :=
  (State.irqEvents_follows rfl (State.Follows.refl 9007199254741512 s)).at State.arm 11 State.reset.arm (fun _ => rfl) rfl
@[simp] theorem State.irqEvents_img (s : State) (src n : Nat) : (s.irqEvents src n).img = s.img :=
  (State.irqEvents_follows rfl (State.Follows.refl 9007199254741512 s)).at State.img 12 State.reset.img (fun _ => rfl) rfl
@[simp] theorem State.irqEvents_armFloor (s : State) (src n : Nat) : (s.irqEvents src n).armFloor = s.armFloor :=
  (State.irqEvents_follows rfl (State.Follows.refl 9007199254741512 s)).at State.armFloor 13 State.reset.armFloor (fun _ => rfl) rfl
@[simp] theorem State.irqEvents_heldSeal (s : State) (src n : Nat) : (s.irqEvents src n).heldSeal = s.heldSeal :=
  (State.irqEvents_follows rfl (State.Follows.refl 9007199254741512 s)).at State.heldSeal 14 State.reset.heldSeal (fun _ => rfl) rfl
@[simp] theorem State.irqEvents_arrays (s : State) (src n : Nat) : (s.irqEvents src n).arrays = s.arrays :=
  (State.irqEvents_follows rfl (State.Follows.refl 9007199254741512 s)).at State.arrays 15 State.reset.arrays (fun _ => rfl) rfl
@[simp] theorem State.irqEvents_fmts (s : State) (src n : Nat) : (s.irqEvents src n).fmts = s.fmts :=
  (State.irqEvents_follows rfl (State.Follows.refl 9007199254741512 s)).at State.fmts 16 State.reset.fmts (fun _ => rfl) rfl
@[simp] theorem State.irqEvents_fmtResets (s : State) (src n : Nat) : (s.irqEvents src n).fmtResets = s.fmtResets :=
  (State.irqEvents_follows rfl (State.Follows.refl 9007199254741512 s)).at State.fmtResets 17 State.reset.fmtResets (fun _ => rfl) rfl
@[simp] theorem State.irqEvents_cals (s : State) (src n : Nat) : (s.irqEvents src n).cals = s.cals :=
  (State.irqEvents_follows rfl (State.Follows.refl 9007199254741512 s)).at State.cals 18 State.reset.cals (fun _ => rfl) rfl
@[simp] theorem State.irqEvents_calStores (s : State) (src n : Nat) : (s.irqEvents src n).calStores = s.calStores :=
  (State.irqEvents_follows rfl (State.Follows.refl 9007199254741512 s)).at State.calStores 19 State.reset.calStores (fun _ => rfl) rfl
@[simp] theorem State.irqEvents_calSaves (s : State) (src n : Nat) : (s.irqEvents src n).calSaves = s.calSaves :=
  (State.irqEvents_follows rfl (State.Follows.refl 9007199254741512 s)).at State.calSaves 20 State.reset.calSaves (fun _ => rfl) rfl
@[simp] theorem State.irqEvents_cores (s : State) (src n : Nat) : (s.irqEvents src n).cores = s.cores :=
  (State.irqEvents_follows rfl (State.Follows.refl 9007199254741512 s)).at State.cores 21 State.reset.cores (fun _ => rfl) rfl
@[simp] theorem State.irqEvents_clusters (s : State) (src n : Nat) : (s.irqEvents src n).clusters = s.clusters :=
  (State.irqEvents_follows rfl (State.Follows.refl 9007199254741512 s)).at State.clusters 22 State.reset.clusters (fun _ => rfl) rfl
@[simp] theorem State.irqEvents_engines (s : State) (src n : Nat) : (s.irqEvents src n).engines = s.engines :=
  (State.irqEvents_follows rfl (State.Follows.refl 9007199254741512 s)).at State.engines 23 State.reset.engines (fun _ => rfl) rfl
@[simp] theorem State.irqEvents_handoffs (s : State) (src n : Nat) : (s.irqEvents src n).handoffs = s.handoffs :=
  (State.irqEvents_follows rfl (State.Follows.refl 9007199254741512 s)).at State.handoffs 24 State.reset.handoffs (fun _ => rfl) rfl
@[simp] theorem State.irqEvents_msgs (s : State) (src n : Nat) : (s.irqEvents src n).msgs = s.msgs :=
  (State.irqEvents_follows rfl (State.Follows.refl 9007199254741512 s)).at State.msgs 25 State.reset.msgs (fun _ => rfl) rfl
@[simp] theorem State.irqEvents_nextMsg (s : State) (src n : Nat) : (s.irqEvents src n).nextMsg = s.nextMsg :=
  (State.irqEvents_follows rfl (State.Follows.refl 9007199254741512 s)).at State.nextMsg 26 State.reset.nextMsg (fun _ => rfl) rfl
@[simp] theorem State.irqEvents_lanes (s : State) (src n : Nat) : (s.irqEvents src n).lanes = s.lanes :=
  (State.irqEvents_follows rfl (State.Follows.refl 9007199254741512 s)).at State.lanes 27 State.reset.lanes (fun _ => rfl) rfl
@[simp] theorem State.irqEvents_slices (s : State) (src n : Nat) : (s.irqEvents src n).slices = s.slices :=
  (State.irqEvents_follows rfl (State.Follows.refl 9007199254741512 s)).at State.slices 28 State.reset.slices (fun _ => rfl) rfl
@[simp] theorem State.irqEvents_unreachable (s : State) (src n : Nat) : (s.irqEvents src n).unreachable = s.unreachable :=
  (State.irqEvents_follows rfl (State.Follows.refl 9007199254741512 s)).at State.unreachable 29 State.reset.unreachable (fun _ => rfl) rfl
@[simp] theorem State.irqEvents_paced (s : State) (src n : Nat) : (s.irqEvents src n).paced = s.paced :=
  (State.irqEvents_follows rfl (State.Follows.refl 9007199254741512 s)).at State.paced 30 State.reset.paced (fun _ => rfl) rfl
@[simp] theorem State.irqEvents_peds (s : State) (src n : Nat) : (s.irqEvents src n).peds = s.peds :=
  (State.irqEvents_follows rfl (State.Follows.refl 9007199254741512 s)).at State.peds 31 State.reset.peds (fun _ => rfl) rfl
@[simp] theorem State.irqEvents_kvSeqs (s : State) (src n : Nat) : (s.irqEvents src n).kvSeqs = s.kvSeqs :=
  (State.irqEvents_follows rfl (State.Follows.refl 9007199254741512 s)).at State.kvSeqs 32 State.reset.kvSeqs (fun _ => rfl) rfl
@[simp] theorem State.irqEvents_parts (s : State) (src n : Nat) : (s.irqEvents src n).parts = s.parts :=
  (State.irqEvents_follows rfl (State.Follows.refl 9007199254741512 s)).at State.parts 33 State.reset.parts (fun _ => rfl) rfl
@[simp] theorem State.irqEvents_kvPools (s : State) (src n : Nat) : (s.irqEvents src n).kvPools = s.kvPools :=
  (State.irqEvents_follows rfl (State.Follows.refl 9007199254741512 s)).at State.kvPools 34 State.reset.kvPools (fun _ => rfl) rfl
@[simp] theorem State.irqEvents_prefixes (s : State) (src n : Nat) : (s.irqEvents src n).prefixes = s.prefixes :=
  (State.irqEvents_follows rfl (State.Follows.refl 9007199254741512 s)).at State.prefixes 35 State.reset.prefixes (fun _ => rfl) rfl
@[simp] theorem State.irqEvents_spills (s : State) (src n : Nat) : (s.irqEvents src n).spills = s.spills :=
  (State.irqEvents_follows rfl (State.Follows.refl 9007199254741512 s)).at State.spills 36 State.reset.spills (fun _ => rfl) rfl
@[simp] theorem State.irqEvents_emptyMarks (s : State) (src n : Nat) : (s.irqEvents src n).emptyMarks = s.emptyMarks :=
  (State.irqEvents_follows rfl (State.Follows.refl 9007199254741512 s)).at State.emptyMarks 37 State.reset.emptyMarks (fun _ => rfl) rfl
@[simp] theorem State.irqEvents_flushing (s : State) (src n : Nat) : (s.irqEvents src n).flushing = s.flushing :=
  (State.irqEvents_follows rfl (State.Follows.refl 9007199254741512 s)).at State.flushing 38 State.reset.flushing (fun _ => rfl) rfl
@[simp] theorem State.irqEvents_noFrame (s : State) (src n : Nat) : (s.irqEvents src n).noFrame = s.noFrame :=
  (State.irqEvents_follows rfl (State.Follows.refl 9007199254741512 s)).at State.noFrame 39 State.reset.noFrame (fun _ => rfl) rfl
@[simp] theorem State.irqEvents_wslots (s : State) (src n : Nat) : (s.irqEvents src n).wslots = s.wslots :=
  (State.irqEvents_follows rfl (State.Follows.refl 9007199254741512 s)).at State.wslots 40 State.reset.wslots (fun _ => rfl) rfl
@[simp] theorem State.irqEvents_winsts (s : State) (src n : Nat) : (s.irqEvents src n).winsts = s.winsts :=
  (State.irqEvents_follows rfl (State.Follows.refl 9007199254741512 s)).at State.winsts 41 State.reset.winsts (fun _ => rfl) rfl
@[simp] theorem State.irqEvents_wloads (s : State) (src n : Nat) : (s.irqEvents src n).wloads = s.wloads :=
  (State.irqEvents_follows rfl (State.Follows.refl 9007199254741512 s)).at State.wloads 42 State.reset.wloads (fun _ => rfl) rfl
@[simp] theorem State.irqEvents_insts (s : State) (src n : Nat) : (s.irqEvents src n).insts = s.insts :=
  (State.irqEvents_follows rfl (State.Follows.refl 9007199254741512 s)).at State.insts 43 State.reset.insts (fun _ => rfl) rfl
@[simp] theorem State.irqEvents_seqs (s : State) (src n : Nat) : (s.irqEvents src n).seqs = s.seqs :=
  (State.irqEvents_follows rfl (State.Follows.refl 9007199254741512 s)).at State.seqs 44 State.reset.seqs (fun _ => rfl) rfl
@[simp] theorem State.irqEvents_subRings (s : State) (src n : Nat) : (s.irqEvents src n).subRings = s.subRings :=
  (State.irqEvents_follows rfl (State.Follows.refl 9007199254741512 s)).at State.subRings 45 State.reset.subRings (fun _ => rfl) rfl
@[simp] theorem State.irqEvents_recRings (s : State) (src n : Nat) : (s.irqEvents src n).recRings = s.recRings :=
  (State.irqEvents_follows rfl (State.Follows.refl 9007199254741512 s)).at State.recRings 46 State.reset.recRings (fun _ => rfl) rfl
@[simp] theorem State.irqEvents_subLast (s : State) (src n : Nat) : (s.irqEvents src n).subLast = s.subLast :=
  (State.irqEvents_follows rfl (State.Follows.refl 9007199254741512 s)).at State.subLast 47 State.reset.subLast (fun _ => rfl) rfl
@[simp] theorem State.irqEvents_schStatus (s : State) (src n : Nat) : (s.irqEvents src n).schStatus = s.schStatus :=
  (State.irqEvents_follows rfl (State.Follows.refl 9007199254741512 s)).at State.schStatus 48 State.reset.schStatus (fun _ => rfl) rfl
@[simp] theorem State.irqEvents_schCmd (s : State) (src n : Nat) : (s.irqEvents src n).schCmd = s.schCmd :=
  (State.irqEvents_follows rfl (State.Follows.refl 9007199254741512 s)).at State.schCmd 49 State.reset.schCmd (fun _ => rfl) rfl
@[simp] theorem State.irqEvents_smpRows (s : State) (src n : Nat) : (s.irqEvents src n).smpRows = s.smpRows :=
  (State.irqEvents_follows rfl (State.Follows.refl 9007199254741512 s)).at State.smpRows 50 State.reset.smpRows (fun _ => rfl) rfl
@[simp] theorem State.irqEvents_grammars (s : State) (src n : Nat) : (s.irqEvents src n).grammars = s.grammars :=
  (State.irqEvents_follows rfl (State.Follows.refl 9007199254741512 s)).at State.grammars 51 State.reset.grammars (fun _ => rfl) rfl
@[simp] theorem State.irqEvents_grmCache (s : State) (src n : Nat) : (s.irqEvents src n).grmCache = s.grmCache :=
  (State.irqEvents_follows rfl (State.Follows.refl 9007199254741512 s)).at State.grmCache 52 State.reset.grmCache (fun _ => rfl) rfl
@[simp] theorem State.irqEvents_cmd (s : State) (src n : Nat) : (s.irqEvents src n).cmd = s.cmd :=
  (State.irqEvents_follows rfl (State.Follows.refl 9007199254741512 s)).at State.cmd 54 State.reset.cmd (fun _ => rfl) rfl
@[simp] theorem State.irqEvents_evrInFlight (s : State) (src n : Nat) : (s.irqEvents src n).evrInFlight = s.evrInFlight :=
  (State.irqEvents_follows rfl (State.Follows.refl 9007199254741512 s)).at State.evrInFlight 55 State.reset.evrInFlight (fun _ => rfl) rfl
@[simp] theorem State.irqEvents_mgmtEid (s : State) (src n : Nat) : (s.irqEvents src n).mgmtEid = s.mgmtEid :=
  (State.irqEvents_follows rfl (State.Follows.refl 9007199254741512 s)).at State.mgmtEid 56 State.reset.mgmtEid (fun _ => rfl) rfl
@[simp] theorem State.irqEvents_araMask (s : State) (src n : Nat) : (s.irqEvents src n).araMask = s.araMask :=
  (State.irqEvents_follows rfl (State.Follows.refl 9007199254741512 s)).at State.araMask 57 State.reset.araMask (fun _ => rfl) rfl
@[simp] theorem State.irqEvents_ftrStale (s : State) (src n : Nat) : (s.irqEvents src n).ftrStale = s.ftrStale :=
  (State.irqEvents_follows rfl (State.Follows.refl 9007199254741512 s)).at State.ftrStale 58 State.reset.ftrStale (fun _ => rfl) rfl
@[simp] theorem State.irqEvents_icpIn (s : State) (src n : Nat) : (s.irqEvents src n).icpIn = s.icpIn :=
  (State.irqEvents_follows rfl (State.Follows.refl 9007199254741512 s)).at State.icpIn 59 State.reset.icpIn (fun _ => rfl) rfl
@[simp] theorem State.irqEvents_icps (s : State) (src n : Nat) : (s.irqEvents src n).icps = s.icps :=
  (State.irqEvents_follows rfl (State.Follows.refl 9007199254741512 s)).at State.icps 60 State.reset.icps (fun _ => rfl) rfl
@[simp] theorem State.irqEvents_sync (s : State) (src n : Nat) : (s.irqEvents src n).sync = s.sync :=
  (State.irqEvents_follows rfl (State.Follows.refl 9007199254741512 s)).at State.sync 61 State.reset.sync (fun _ => rfl) rfl
@[simp] theorem State.irqEvents_replicas (s : State) (src n : Nat) : (s.irqEvents src n).replicas = s.replicas :=
  (State.irqEvents_follows rfl (State.Follows.refl 9007199254741512 s)).at State.replicas 62 State.reset.replicas (fun _ => rfl) rfl
@[simp] theorem State.irqEvents_digests (s : State) (src n : Nat) : (s.irqEvents src n).digests = s.digests :=
  (State.irqEvents_follows rfl (State.Follows.refl 9007199254741512 s)).at State.digests 63 State.reset.digests (fun _ => rfl) rfl
@[simp] theorem State.irqEvents_reserves (s : State) (src n : Nat) : (s.irqEvents src n).reserves = s.reserves :=
  (State.irqEvents_follows rfl (State.Follows.refl 9007199254741512 s)).at State.reserves 64 State.reset.reserves (fun _ => rfl) rfl
@[simp] theorem State.irqEvents_takeovers (s : State) (src n : Nat) : (s.irqEvents src n).takeovers = s.takeovers :=
  (State.irqEvents_follows rfl (State.Follows.refl 9007199254741512 s)).at State.takeovers 65 State.reset.takeovers (fun _ => rfl) rfl
@[simp] theorem State.irqEvents_arrTakeovers (s : State) (src n : Nat) : (s.irqEvents src n).arrTakeovers = s.arrTakeovers :=
  (State.irqEvents_follows rfl (State.Follows.refl 9007199254741512 s)).at State.arrTakeovers 66 State.reset.arrTakeovers (fun _ => rfl) rfl
@[simp] theorem State.irqEvents_unbacked (s : State) (src n : Nat) : (s.irqEvents src n).unbacked = s.unbacked :=
  (State.irqEvents_follows rfl (State.Follows.refl 9007199254741512 s)).at State.unbacked 67 State.reset.unbacked (fun _ => rfl) rfl
@[simp] theorem State.irqEvents_tests (s : State) (src n : Nat) : (s.irqEvents src n).tests = s.tests :=
  (State.irqEvents_follows rfl (State.Follows.refl 9007199254741512 s)).at State.tests 68 State.reset.tests (fun _ => rfl) rfl
@[simp] theorem State.irqEvents_advice (s : State) (src n : Nat) : (s.irqEvents src n).advice = s.advice :=
  (State.irqEvents_follows rfl (State.Follows.refl 9007199254741512 s)).at State.advice 69 State.reset.advice (fun _ => rfl) rfl
@[simp] theorem State.irqEvents_domains (s : State) (src n : Nat) : (s.irqEvents src n).domains = s.domains :=
  (State.irqEvents_follows rfl (State.Follows.refl 9007199254741512 s)).at State.domains 70 State.reset.domains (fun _ => rfl) rfl
@[simp] theorem State.irqEvents_pwr (s : State) (src n : Nat) : (s.irqEvents src n).pwr = s.pwr :=
  (State.irqEvents_follows rfl (State.Follows.refl 9007199254741512 s)).at State.pwr 71 State.reset.pwr (fun _ => rfl) rfl
@[simp] theorem State.irqEvents_clk (s : State) (src n : Nat) : (s.irqEvents src n).clk = s.clk :=
  (State.irqEvents_follows rfl (State.Follows.refl 9007199254741512 s)).at State.clk 72 State.reset.clk (fun _ => rfl) rfl
@[simp] theorem State.irqEvents_hka (s : State) (src n : Nat) : (s.irqEvents src n).hka = s.hka :=
  (State.irqEvents_follows rfl (State.Follows.refl 9007199254741512 s)).at State.hka 73 State.reset.hka (fun _ => rfl) rfl
@[simp] theorem State.irqEvents_thm (s : State) (src n : Nat) : (s.irqEvents src n).thm = s.thm :=
  (State.irqEvents_follows rfl (State.Follows.refl 9007199254741512 s)).at State.thm 74 State.reset.thm (fun _ => rfl) rfl
@[simp] theorem State.irqEvents_weightKeys (s : State) (src n : Nat) : (s.irqEvents src n).weightKeys = s.weightKeys :=
  (State.irqEvents_follows rfl (State.Follows.refl 9007199254741512 s)).at State.weightKeys 75 State.reset.weightKeys (fun _ => rfl) rfl
@[simp] theorem State.irqEvents_sec (s : State) (src n : Nat) : (s.irqEvents src n).sec = s.sec :=
  (State.irqEvents_follows rfl (State.Follows.refl 9007199254741512 s)).at State.sec 76 State.reset.sec (fun _ => rfl) rfl
@[simp] theorem State.irqEvents_tapIr (s : State) (src n : Nat) : (s.irqEvents src n).tapIr = s.tapIr :=
  (State.irqEvents_follows rfl (State.Follows.refl 9007199254741512 s)).at State.tapIr 77 State.reset.tapIr (fun _ => rfl) rfl
@[simp] theorem State.irqEvents_tapCells (s : State) (src n : Nat) : (s.irqEvents src n).tapCells = s.tapCells :=
  (State.irqEvents_follows rfl (State.Follows.refl 9007199254741512 s)).at State.tapCells 78 State.reset.tapCells (fun _ => rfl) rfl
@[simp] theorem State.irqEvents_pending (s : State) (src n : Nat) : (s.irqEvents src n).pending = s.pending :=
  (State.irqEvents_follows rfl (State.Follows.refl 9007199254741512 s)).pending

@[simp] theorem State.logEvent_time (s : State) (code : Nat) (fs : List (Nat × Nat)) : (s.logEvent code fs).time = s.time :=
  (State.logEvent_follows rfl (State.Follows.refl 153122387330597656 s)).at State.time 0 State.reset.time (fun _ => rfl) rfl
@[simp] theorem State.logEvent_timeRuns (s : State) (code : Nat) (fs : List (Nat × Nat)) : (s.logEvent code fs).timeRuns = s.timeRuns :=
  (State.logEvent_follows rfl (State.Follows.refl 153122387330597656 s)).at State.timeRuns 1 State.reset.timeRuns (fun _ => rfl) rfl
@[simp] theorem State.logEvent_freeCtr (s : State) (code : Nat) (fs : List (Nat × Nat)) : (s.logEvent code fs).freeCtr = s.freeCtr :=
  (State.logEvent_follows rfl (State.Follows.refl 153122387330597656 s)).at State.freeCtr 2 State.reset.freeCtr (fun _ => rfl) rfl
@[simp] theorem State.logEvent_latchHi (s : State) (code : Nat) (fs : List (Nat × Nat)) : (s.logEvent code fs).latchHi = s.latchHi :=
  (State.logEvent_follows rfl (State.Follows.refl 153122387330597656 s)).at State.latchHi 5 State.reset.latchHi (fun _ => rfl) rfl
@[simp] theorem State.logEvent_heldLow (s : State) (code : Nat) (fs : List (Nat × Nat)) : (s.logEvent code fs).heldLow = s.heldLow :=
  (State.logEvent_follows rfl (State.Follows.refl 153122387330597656 s)).at State.heldLow 6 State.reset.heldLow (fun _ => rfl) rfl
@[simp] theorem State.logEvent_rwlLocked (s : State) (code : Nat) (fs : List (Nat × Nat)) : (s.logEvent code fs).rwlLocked = s.rwlLocked :=
  (State.logEvent_follows rfl (State.Follows.refl 153122387330597656 s)).at State.rwlLocked 7 State.reset.rwlLocked (fun _ => rfl) rfl
@[simp] theorem State.logEvent_fuses (s : State) (code : Nat) (fs : List (Nat × Nat)) : (s.logEvent code fs).fuses = s.fuses :=
  (State.logEvent_follows rfl (State.Follows.refl 153122387330597656 s)).at State.fuses 10 State.reset.fuses (fun _ => rfl) rfl
@[simp] theorem State.logEvent_arm (s : State) (code : Nat) (fs : List (Nat × Nat)) : (s.logEvent code fs).arm = s.arm :=
  (State.logEvent_follows rfl (State.Follows.refl 153122387330597656 s)).at State.arm 11 State.reset.arm (fun _ => rfl) rfl
@[simp] theorem State.logEvent_img (s : State) (code : Nat) (fs : List (Nat × Nat)) : (s.logEvent code fs).img = s.img :=
  (State.logEvent_follows rfl (State.Follows.refl 153122387330597656 s)).at State.img 12 State.reset.img (fun _ => rfl) rfl
@[simp] theorem State.logEvent_armFloor (s : State) (code : Nat) (fs : List (Nat × Nat)) : (s.logEvent code fs).armFloor = s.armFloor :=
  (State.logEvent_follows rfl (State.Follows.refl 153122387330597656 s)).at State.armFloor 13 State.reset.armFloor (fun _ => rfl) rfl
@[simp] theorem State.logEvent_heldSeal (s : State) (code : Nat) (fs : List (Nat × Nat)) : (s.logEvent code fs).heldSeal = s.heldSeal :=
  (State.logEvent_follows rfl (State.Follows.refl 153122387330597656 s)).at State.heldSeal 14 State.reset.heldSeal (fun _ => rfl) rfl
@[simp] theorem State.logEvent_arrays (s : State) (code : Nat) (fs : List (Nat × Nat)) : (s.logEvent code fs).arrays = s.arrays :=
  (State.logEvent_follows rfl (State.Follows.refl 153122387330597656 s)).at State.arrays 15 State.reset.arrays (fun _ => rfl) rfl
@[simp] theorem State.logEvent_fmts (s : State) (code : Nat) (fs : List (Nat × Nat)) : (s.logEvent code fs).fmts = s.fmts :=
  (State.logEvent_follows rfl (State.Follows.refl 153122387330597656 s)).at State.fmts 16 State.reset.fmts (fun _ => rfl) rfl
@[simp] theorem State.logEvent_fmtResets (s : State) (code : Nat) (fs : List (Nat × Nat)) : (s.logEvent code fs).fmtResets = s.fmtResets :=
  (State.logEvent_follows rfl (State.Follows.refl 153122387330597656 s)).at State.fmtResets 17 State.reset.fmtResets (fun _ => rfl) rfl
@[simp] theorem State.logEvent_cals (s : State) (code : Nat) (fs : List (Nat × Nat)) : (s.logEvent code fs).cals = s.cals :=
  (State.logEvent_follows rfl (State.Follows.refl 153122387330597656 s)).at State.cals 18 State.reset.cals (fun _ => rfl) rfl
@[simp] theorem State.logEvent_calStores (s : State) (code : Nat) (fs : List (Nat × Nat)) : (s.logEvent code fs).calStores = s.calStores :=
  (State.logEvent_follows rfl (State.Follows.refl 153122387330597656 s)).at State.calStores 19 State.reset.calStores (fun _ => rfl) rfl
@[simp] theorem State.logEvent_calSaves (s : State) (code : Nat) (fs : List (Nat × Nat)) : (s.logEvent code fs).calSaves = s.calSaves :=
  (State.logEvent_follows rfl (State.Follows.refl 153122387330597656 s)).at State.calSaves 20 State.reset.calSaves (fun _ => rfl) rfl
@[simp] theorem State.logEvent_cores (s : State) (code : Nat) (fs : List (Nat × Nat)) : (s.logEvent code fs).cores = s.cores :=
  (State.logEvent_follows rfl (State.Follows.refl 153122387330597656 s)).at State.cores 21 State.reset.cores (fun _ => rfl) rfl
@[simp] theorem State.logEvent_clusters (s : State) (code : Nat) (fs : List (Nat × Nat)) : (s.logEvent code fs).clusters = s.clusters :=
  (State.logEvent_follows rfl (State.Follows.refl 153122387330597656 s)).at State.clusters 22 State.reset.clusters (fun _ => rfl) rfl
@[simp] theorem State.logEvent_engines (s : State) (code : Nat) (fs : List (Nat × Nat)) : (s.logEvent code fs).engines = s.engines :=
  (State.logEvent_follows rfl (State.Follows.refl 153122387330597656 s)).at State.engines 23 State.reset.engines (fun _ => rfl) rfl
@[simp] theorem State.logEvent_handoffs (s : State) (code : Nat) (fs : List (Nat × Nat)) : (s.logEvent code fs).handoffs = s.handoffs :=
  (State.logEvent_follows rfl (State.Follows.refl 153122387330597656 s)).at State.handoffs 24 State.reset.handoffs (fun _ => rfl) rfl
@[simp] theorem State.logEvent_msgs (s : State) (code : Nat) (fs : List (Nat × Nat)) : (s.logEvent code fs).msgs = s.msgs :=
  (State.logEvent_follows rfl (State.Follows.refl 153122387330597656 s)).at State.msgs 25 State.reset.msgs (fun _ => rfl) rfl
@[simp] theorem State.logEvent_nextMsg (s : State) (code : Nat) (fs : List (Nat × Nat)) : (s.logEvent code fs).nextMsg = s.nextMsg :=
  (State.logEvent_follows rfl (State.Follows.refl 153122387330597656 s)).at State.nextMsg 26 State.reset.nextMsg (fun _ => rfl) rfl
@[simp] theorem State.logEvent_lanes (s : State) (code : Nat) (fs : List (Nat × Nat)) : (s.logEvent code fs).lanes = s.lanes :=
  (State.logEvent_follows rfl (State.Follows.refl 153122387330597656 s)).at State.lanes 27 State.reset.lanes (fun _ => rfl) rfl
@[simp] theorem State.logEvent_slices (s : State) (code : Nat) (fs : List (Nat × Nat)) : (s.logEvent code fs).slices = s.slices :=
  (State.logEvent_follows rfl (State.Follows.refl 153122387330597656 s)).at State.slices 28 State.reset.slices (fun _ => rfl) rfl
@[simp] theorem State.logEvent_unreachable (s : State) (code : Nat) (fs : List (Nat × Nat)) : (s.logEvent code fs).unreachable = s.unreachable :=
  (State.logEvent_follows rfl (State.Follows.refl 153122387330597656 s)).at State.unreachable 29 State.reset.unreachable (fun _ => rfl) rfl
@[simp] theorem State.logEvent_paced (s : State) (code : Nat) (fs : List (Nat × Nat)) : (s.logEvent code fs).paced = s.paced :=
  (State.logEvent_follows rfl (State.Follows.refl 153122387330597656 s)).at State.paced 30 State.reset.paced (fun _ => rfl) rfl
@[simp] theorem State.logEvent_peds (s : State) (code : Nat) (fs : List (Nat × Nat)) : (s.logEvent code fs).peds = s.peds :=
  (State.logEvent_follows rfl (State.Follows.refl 153122387330597656 s)).at State.peds 31 State.reset.peds (fun _ => rfl) rfl
@[simp] theorem State.logEvent_kvSeqs (s : State) (code : Nat) (fs : List (Nat × Nat)) : (s.logEvent code fs).kvSeqs = s.kvSeqs :=
  (State.logEvent_follows rfl (State.Follows.refl 153122387330597656 s)).at State.kvSeqs 32 State.reset.kvSeqs (fun _ => rfl) rfl
@[simp] theorem State.logEvent_parts (s : State) (code : Nat) (fs : List (Nat × Nat)) : (s.logEvent code fs).parts = s.parts :=
  (State.logEvent_follows rfl (State.Follows.refl 153122387330597656 s)).at State.parts 33 State.reset.parts (fun _ => rfl) rfl
@[simp] theorem State.logEvent_kvPools (s : State) (code : Nat) (fs : List (Nat × Nat)) : (s.logEvent code fs).kvPools = s.kvPools :=
  (State.logEvent_follows rfl (State.Follows.refl 153122387330597656 s)).at State.kvPools 34 State.reset.kvPools (fun _ => rfl) rfl
@[simp] theorem State.logEvent_prefixes (s : State) (code : Nat) (fs : List (Nat × Nat)) : (s.logEvent code fs).prefixes = s.prefixes :=
  (State.logEvent_follows rfl (State.Follows.refl 153122387330597656 s)).at State.prefixes 35 State.reset.prefixes (fun _ => rfl) rfl
@[simp] theorem State.logEvent_spills (s : State) (code : Nat) (fs : List (Nat × Nat)) : (s.logEvent code fs).spills = s.spills :=
  (State.logEvent_follows rfl (State.Follows.refl 153122387330597656 s)).at State.spills 36 State.reset.spills (fun _ => rfl) rfl
@[simp] theorem State.logEvent_emptyMarks (s : State) (code : Nat) (fs : List (Nat × Nat)) : (s.logEvent code fs).emptyMarks = s.emptyMarks :=
  (State.logEvent_follows rfl (State.Follows.refl 153122387330597656 s)).at State.emptyMarks 37 State.reset.emptyMarks (fun _ => rfl) rfl
@[simp] theorem State.logEvent_flushing (s : State) (code : Nat) (fs : List (Nat × Nat)) : (s.logEvent code fs).flushing = s.flushing :=
  (State.logEvent_follows rfl (State.Follows.refl 153122387330597656 s)).at State.flushing 38 State.reset.flushing (fun _ => rfl) rfl
@[simp] theorem State.logEvent_noFrame (s : State) (code : Nat) (fs : List (Nat × Nat)) : (s.logEvent code fs).noFrame = s.noFrame :=
  (State.logEvent_follows rfl (State.Follows.refl 153122387330597656 s)).at State.noFrame 39 State.reset.noFrame (fun _ => rfl) rfl
@[simp] theorem State.logEvent_wslots (s : State) (code : Nat) (fs : List (Nat × Nat)) : (s.logEvent code fs).wslots = s.wslots :=
  (State.logEvent_follows rfl (State.Follows.refl 153122387330597656 s)).at State.wslots 40 State.reset.wslots (fun _ => rfl) rfl
@[simp] theorem State.logEvent_winsts (s : State) (code : Nat) (fs : List (Nat × Nat)) : (s.logEvent code fs).winsts = s.winsts :=
  (State.logEvent_follows rfl (State.Follows.refl 153122387330597656 s)).at State.winsts 41 State.reset.winsts (fun _ => rfl) rfl
@[simp] theorem State.logEvent_wloads (s : State) (code : Nat) (fs : List (Nat × Nat)) : (s.logEvent code fs).wloads = s.wloads :=
  (State.logEvent_follows rfl (State.Follows.refl 153122387330597656 s)).at State.wloads 42 State.reset.wloads (fun _ => rfl) rfl
@[simp] theorem State.logEvent_insts (s : State) (code : Nat) (fs : List (Nat × Nat)) : (s.logEvent code fs).insts = s.insts :=
  (State.logEvent_follows rfl (State.Follows.refl 153122387330597656 s)).at State.insts 43 State.reset.insts (fun _ => rfl) rfl
@[simp] theorem State.logEvent_seqs (s : State) (code : Nat) (fs : List (Nat × Nat)) : (s.logEvent code fs).seqs = s.seqs :=
  (State.logEvent_follows rfl (State.Follows.refl 153122387330597656 s)).at State.seqs 44 State.reset.seqs (fun _ => rfl) rfl
@[simp] theorem State.logEvent_subRings (s : State) (code : Nat) (fs : List (Nat × Nat)) : (s.logEvent code fs).subRings = s.subRings :=
  (State.logEvent_follows rfl (State.Follows.refl 153122387330597656 s)).at State.subRings 45 State.reset.subRings (fun _ => rfl) rfl
@[simp] theorem State.logEvent_recRings (s : State) (code : Nat) (fs : List (Nat × Nat)) : (s.logEvent code fs).recRings = s.recRings :=
  (State.logEvent_follows rfl (State.Follows.refl 153122387330597656 s)).at State.recRings 46 State.reset.recRings (fun _ => rfl) rfl
@[simp] theorem State.logEvent_subLast (s : State) (code : Nat) (fs : List (Nat × Nat)) : (s.logEvent code fs).subLast = s.subLast :=
  (State.logEvent_follows rfl (State.Follows.refl 153122387330597656 s)).at State.subLast 47 State.reset.subLast (fun _ => rfl) rfl
@[simp] theorem State.logEvent_schStatus (s : State) (code : Nat) (fs : List (Nat × Nat)) : (s.logEvent code fs).schStatus = s.schStatus :=
  (State.logEvent_follows rfl (State.Follows.refl 153122387330597656 s)).at State.schStatus 48 State.reset.schStatus (fun _ => rfl) rfl
@[simp] theorem State.logEvent_schCmd (s : State) (code : Nat) (fs : List (Nat × Nat)) : (s.logEvent code fs).schCmd = s.schCmd :=
  (State.logEvent_follows rfl (State.Follows.refl 153122387330597656 s)).at State.schCmd 49 State.reset.schCmd (fun _ => rfl) rfl
@[simp] theorem State.logEvent_smpRows (s : State) (code : Nat) (fs : List (Nat × Nat)) : (s.logEvent code fs).smpRows = s.smpRows :=
  (State.logEvent_follows rfl (State.Follows.refl 153122387330597656 s)).at State.smpRows 50 State.reset.smpRows (fun _ => rfl) rfl
@[simp] theorem State.logEvent_grammars (s : State) (code : Nat) (fs : List (Nat × Nat)) : (s.logEvent code fs).grammars = s.grammars :=
  (State.logEvent_follows rfl (State.Follows.refl 153122387330597656 s)).at State.grammars 51 State.reset.grammars (fun _ => rfl) rfl
@[simp] theorem State.logEvent_grmCache (s : State) (code : Nat) (fs : List (Nat × Nat)) : (s.logEvent code fs).grmCache = s.grmCache :=
  (State.logEvent_follows rfl (State.Follows.refl 153122387330597656 s)).at State.grmCache 52 State.reset.grmCache (fun _ => rfl) rfl
@[simp] theorem State.logEvent_cmd (s : State) (code : Nat) (fs : List (Nat × Nat)) : (s.logEvent code fs).cmd = s.cmd :=
  (State.logEvent_follows rfl (State.Follows.refl 153122387330597656 s)).at State.cmd 54 State.reset.cmd (fun _ => rfl) rfl
@[simp] theorem State.logEvent_evrInFlight (s : State) (code : Nat) (fs : List (Nat × Nat)) : (s.logEvent code fs).evrInFlight = s.evrInFlight :=
  (State.logEvent_follows rfl (State.Follows.refl 153122387330597656 s)).at State.evrInFlight 55 State.reset.evrInFlight (fun _ => rfl) rfl
@[simp] theorem State.logEvent_mgmtEid (s : State) (code : Nat) (fs : List (Nat × Nat)) : (s.logEvent code fs).mgmtEid = s.mgmtEid :=
  (State.logEvent_follows rfl (State.Follows.refl 153122387330597656 s)).at State.mgmtEid 56 State.reset.mgmtEid (fun _ => rfl) rfl
@[simp] theorem State.logEvent_ftrStale (s : State) (code : Nat) (fs : List (Nat × Nat)) : (s.logEvent code fs).ftrStale = s.ftrStale :=
  (State.logEvent_follows rfl (State.Follows.refl 153122387330597656 s)).at State.ftrStale 58 State.reset.ftrStale (fun _ => rfl) rfl
@[simp] theorem State.logEvent_icpIn (s : State) (code : Nat) (fs : List (Nat × Nat)) : (s.logEvent code fs).icpIn = s.icpIn :=
  (State.logEvent_follows rfl (State.Follows.refl 153122387330597656 s)).at State.icpIn 59 State.reset.icpIn (fun _ => rfl) rfl
@[simp] theorem State.logEvent_icps (s : State) (code : Nat) (fs : List (Nat × Nat)) : (s.logEvent code fs).icps = s.icps :=
  (State.logEvent_follows rfl (State.Follows.refl 153122387330597656 s)).at State.icps 60 State.reset.icps (fun _ => rfl) rfl
@[simp] theorem State.logEvent_sync (s : State) (code : Nat) (fs : List (Nat × Nat)) : (s.logEvent code fs).sync = s.sync :=
  (State.logEvent_follows rfl (State.Follows.refl 153122387330597656 s)).at State.sync 61 State.reset.sync (fun _ => rfl) rfl
@[simp] theorem State.logEvent_replicas (s : State) (code : Nat) (fs : List (Nat × Nat)) : (s.logEvent code fs).replicas = s.replicas :=
  (State.logEvent_follows rfl (State.Follows.refl 153122387330597656 s)).at State.replicas 62 State.reset.replicas (fun _ => rfl) rfl
@[simp] theorem State.logEvent_digests (s : State) (code : Nat) (fs : List (Nat × Nat)) : (s.logEvent code fs).digests = s.digests :=
  (State.logEvent_follows rfl (State.Follows.refl 153122387330597656 s)).at State.digests 63 State.reset.digests (fun _ => rfl) rfl
@[simp] theorem State.logEvent_reserves (s : State) (code : Nat) (fs : List (Nat × Nat)) : (s.logEvent code fs).reserves = s.reserves :=
  (State.logEvent_follows rfl (State.Follows.refl 153122387330597656 s)).at State.reserves 64 State.reset.reserves (fun _ => rfl) rfl
@[simp] theorem State.logEvent_takeovers (s : State) (code : Nat) (fs : List (Nat × Nat)) : (s.logEvent code fs).takeovers = s.takeovers :=
  (State.logEvent_follows rfl (State.Follows.refl 153122387330597656 s)).at State.takeovers 65 State.reset.takeovers (fun _ => rfl) rfl
@[simp] theorem State.logEvent_arrTakeovers (s : State) (code : Nat) (fs : List (Nat × Nat)) : (s.logEvent code fs).arrTakeovers = s.arrTakeovers :=
  (State.logEvent_follows rfl (State.Follows.refl 153122387330597656 s)).at State.arrTakeovers 66 State.reset.arrTakeovers (fun _ => rfl) rfl
@[simp] theorem State.logEvent_unbacked (s : State) (code : Nat) (fs : List (Nat × Nat)) : (s.logEvent code fs).unbacked = s.unbacked :=
  (State.logEvent_follows rfl (State.Follows.refl 153122387330597656 s)).at State.unbacked 67 State.reset.unbacked (fun _ => rfl) rfl
@[simp] theorem State.logEvent_tests (s : State) (code : Nat) (fs : List (Nat × Nat)) : (s.logEvent code fs).tests = s.tests :=
  (State.logEvent_follows rfl (State.Follows.refl 153122387330597656 s)).at State.tests 68 State.reset.tests (fun _ => rfl) rfl
@[simp] theorem State.logEvent_advice (s : State) (code : Nat) (fs : List (Nat × Nat)) : (s.logEvent code fs).advice = s.advice :=
  (State.logEvent_follows rfl (State.Follows.refl 153122387330597656 s)).at State.advice 69 State.reset.advice (fun _ => rfl) rfl
@[simp] theorem State.logEvent_domains (s : State) (code : Nat) (fs : List (Nat × Nat)) : (s.logEvent code fs).domains = s.domains :=
  (State.logEvent_follows rfl (State.Follows.refl 153122387330597656 s)).at State.domains 70 State.reset.domains (fun _ => rfl) rfl
@[simp] theorem State.logEvent_pwr (s : State) (code : Nat) (fs : List (Nat × Nat)) : (s.logEvent code fs).pwr = s.pwr :=
  (State.logEvent_follows rfl (State.Follows.refl 153122387330597656 s)).at State.pwr 71 State.reset.pwr (fun _ => rfl) rfl
@[simp] theorem State.logEvent_clk (s : State) (code : Nat) (fs : List (Nat × Nat)) : (s.logEvent code fs).clk = s.clk :=
  (State.logEvent_follows rfl (State.Follows.refl 153122387330597656 s)).at State.clk 72 State.reset.clk (fun _ => rfl) rfl
@[simp] theorem State.logEvent_hka (s : State) (code : Nat) (fs : List (Nat × Nat)) : (s.logEvent code fs).hka = s.hka :=
  (State.logEvent_follows rfl (State.Follows.refl 153122387330597656 s)).at State.hka 73 State.reset.hka (fun _ => rfl) rfl
@[simp] theorem State.logEvent_thm (s : State) (code : Nat) (fs : List (Nat × Nat)) : (s.logEvent code fs).thm = s.thm :=
  (State.logEvent_follows rfl (State.Follows.refl 153122387330597656 s)).at State.thm 74 State.reset.thm (fun _ => rfl) rfl
@[simp] theorem State.logEvent_weightKeys (s : State) (code : Nat) (fs : List (Nat × Nat)) : (s.logEvent code fs).weightKeys = s.weightKeys :=
  (State.logEvent_follows rfl (State.Follows.refl 153122387330597656 s)).at State.weightKeys 75 State.reset.weightKeys (fun _ => rfl) rfl
@[simp] theorem State.logEvent_sec (s : State) (code : Nat) (fs : List (Nat × Nat)) : (s.logEvent code fs).sec = s.sec :=
  (State.logEvent_follows rfl (State.Follows.refl 153122387330597656 s)).at State.sec 76 State.reset.sec (fun _ => rfl) rfl
@[simp] theorem State.logEvent_tapIr (s : State) (code : Nat) (fs : List (Nat × Nat)) : (s.logEvent code fs).tapIr = s.tapIr :=
  (State.logEvent_follows rfl (State.Follows.refl 153122387330597656 s)).at State.tapIr 77 State.reset.tapIr (fun _ => rfl) rfl
@[simp] theorem State.logEvent_tapCells (s : State) (code : Nat) (fs : List (Nat × Nat)) : (s.logEvent code fs).tapCells = s.tapCells :=
  (State.logEvent_follows rfl (State.Follows.refl 153122387330597656 s)).at State.tapCells 78 State.reset.tapCells (fun _ => rfl) rfl
@[simp] theorem State.logEvent_pending (s : State) (code : Nat) (fs : List (Nat × Nat)) : (s.logEvent code fs).pending = s.pending :=
  (State.logEvent_follows rfl (State.Follows.refl 153122387330597656 s)).pending

@[simp] theorem State.logLimitedFor_time (s : State) (span code scope k : Nat) (fs : Nat → List (Nat × Nat)) : (s.logLimitedFor span code scope k fs).time = s.time :=
  (State.logLimitedFor_follows rfl (State.Follows.refl 153122387330597656 s)).at State.time 0 State.reset.time (fun _ => rfl) rfl
@[simp] theorem State.logLimitedFor_timeRuns (s : State) (span code scope k : Nat) (fs : Nat → List (Nat × Nat)) : (s.logLimitedFor span code scope k fs).timeRuns = s.timeRuns :=
  (State.logLimitedFor_follows rfl (State.Follows.refl 153122387330597656 s)).at State.timeRuns 1 State.reset.timeRuns (fun _ => rfl) rfl
@[simp] theorem State.logLimitedFor_freeCtr (s : State) (span code scope k : Nat) (fs : Nat → List (Nat × Nat)) : (s.logLimitedFor span code scope k fs).freeCtr = s.freeCtr :=
  (State.logLimitedFor_follows rfl (State.Follows.refl 153122387330597656 s)).at State.freeCtr 2 State.reset.freeCtr (fun _ => rfl) rfl
@[simp] theorem State.logLimitedFor_latchHi (s : State) (span code scope k : Nat) (fs : Nat → List (Nat × Nat)) : (s.logLimitedFor span code scope k fs).latchHi = s.latchHi :=
  (State.logLimitedFor_follows rfl (State.Follows.refl 153122387330597656 s)).at State.latchHi 5 State.reset.latchHi (fun _ => rfl) rfl
@[simp] theorem State.logLimitedFor_heldLow (s : State) (span code scope k : Nat) (fs : Nat → List (Nat × Nat)) : (s.logLimitedFor span code scope k fs).heldLow = s.heldLow :=
  (State.logLimitedFor_follows rfl (State.Follows.refl 153122387330597656 s)).at State.heldLow 6 State.reset.heldLow (fun _ => rfl) rfl
@[simp] theorem State.logLimitedFor_rwlLocked (s : State) (span code scope k : Nat) (fs : Nat → List (Nat × Nat)) : (s.logLimitedFor span code scope k fs).rwlLocked = s.rwlLocked :=
  (State.logLimitedFor_follows rfl (State.Follows.refl 153122387330597656 s)).at State.rwlLocked 7 State.reset.rwlLocked (fun _ => rfl) rfl
@[simp] theorem State.logLimitedFor_fuses (s : State) (span code scope k : Nat) (fs : Nat → List (Nat × Nat)) : (s.logLimitedFor span code scope k fs).fuses = s.fuses :=
  (State.logLimitedFor_follows rfl (State.Follows.refl 153122387330597656 s)).at State.fuses 10 State.reset.fuses (fun _ => rfl) rfl
@[simp] theorem State.logLimitedFor_arm (s : State) (span code scope k : Nat) (fs : Nat → List (Nat × Nat)) : (s.logLimitedFor span code scope k fs).arm = s.arm :=
  (State.logLimitedFor_follows rfl (State.Follows.refl 153122387330597656 s)).at State.arm 11 State.reset.arm (fun _ => rfl) rfl
@[simp] theorem State.logLimitedFor_img (s : State) (span code scope k : Nat) (fs : Nat → List (Nat × Nat)) : (s.logLimitedFor span code scope k fs).img = s.img :=
  (State.logLimitedFor_follows rfl (State.Follows.refl 153122387330597656 s)).at State.img 12 State.reset.img (fun _ => rfl) rfl
@[simp] theorem State.logLimitedFor_armFloor (s : State) (span code scope k : Nat) (fs : Nat → List (Nat × Nat)) : (s.logLimitedFor span code scope k fs).armFloor = s.armFloor :=
  (State.logLimitedFor_follows rfl (State.Follows.refl 153122387330597656 s)).at State.armFloor 13 State.reset.armFloor (fun _ => rfl) rfl
@[simp] theorem State.logLimitedFor_heldSeal (s : State) (span code scope k : Nat) (fs : Nat → List (Nat × Nat)) : (s.logLimitedFor span code scope k fs).heldSeal = s.heldSeal :=
  (State.logLimitedFor_follows rfl (State.Follows.refl 153122387330597656 s)).at State.heldSeal 14 State.reset.heldSeal (fun _ => rfl) rfl
@[simp] theorem State.logLimitedFor_arrays (s : State) (span code scope k : Nat) (fs : Nat → List (Nat × Nat)) : (s.logLimitedFor span code scope k fs).arrays = s.arrays :=
  (State.logLimitedFor_follows rfl (State.Follows.refl 153122387330597656 s)).at State.arrays 15 State.reset.arrays (fun _ => rfl) rfl
@[simp] theorem State.logLimitedFor_fmts (s : State) (span code scope k : Nat) (fs : Nat → List (Nat × Nat)) : (s.logLimitedFor span code scope k fs).fmts = s.fmts :=
  (State.logLimitedFor_follows rfl (State.Follows.refl 153122387330597656 s)).at State.fmts 16 State.reset.fmts (fun _ => rfl) rfl
@[simp] theorem State.logLimitedFor_fmtResets (s : State) (span code scope k : Nat) (fs : Nat → List (Nat × Nat)) : (s.logLimitedFor span code scope k fs).fmtResets = s.fmtResets :=
  (State.logLimitedFor_follows rfl (State.Follows.refl 153122387330597656 s)).at State.fmtResets 17 State.reset.fmtResets (fun _ => rfl) rfl
@[simp] theorem State.logLimitedFor_cals (s : State) (span code scope k : Nat) (fs : Nat → List (Nat × Nat)) : (s.logLimitedFor span code scope k fs).cals = s.cals :=
  (State.logLimitedFor_follows rfl (State.Follows.refl 153122387330597656 s)).at State.cals 18 State.reset.cals (fun _ => rfl) rfl
@[simp] theorem State.logLimitedFor_calStores (s : State) (span code scope k : Nat) (fs : Nat → List (Nat × Nat)) : (s.logLimitedFor span code scope k fs).calStores = s.calStores :=
  (State.logLimitedFor_follows rfl (State.Follows.refl 153122387330597656 s)).at State.calStores 19 State.reset.calStores (fun _ => rfl) rfl
@[simp] theorem State.logLimitedFor_calSaves (s : State) (span code scope k : Nat) (fs : Nat → List (Nat × Nat)) : (s.logLimitedFor span code scope k fs).calSaves = s.calSaves :=
  (State.logLimitedFor_follows rfl (State.Follows.refl 153122387330597656 s)).at State.calSaves 20 State.reset.calSaves (fun _ => rfl) rfl
@[simp] theorem State.logLimitedFor_cores (s : State) (span code scope k : Nat) (fs : Nat → List (Nat × Nat)) : (s.logLimitedFor span code scope k fs).cores = s.cores :=
  (State.logLimitedFor_follows rfl (State.Follows.refl 153122387330597656 s)).at State.cores 21 State.reset.cores (fun _ => rfl) rfl
@[simp] theorem State.logLimitedFor_clusters (s : State) (span code scope k : Nat) (fs : Nat → List (Nat × Nat)) : (s.logLimitedFor span code scope k fs).clusters = s.clusters :=
  (State.logLimitedFor_follows rfl (State.Follows.refl 153122387330597656 s)).at State.clusters 22 State.reset.clusters (fun _ => rfl) rfl
@[simp] theorem State.logLimitedFor_engines (s : State) (span code scope k : Nat) (fs : Nat → List (Nat × Nat)) : (s.logLimitedFor span code scope k fs).engines = s.engines :=
  (State.logLimitedFor_follows rfl (State.Follows.refl 153122387330597656 s)).at State.engines 23 State.reset.engines (fun _ => rfl) rfl
@[simp] theorem State.logLimitedFor_handoffs (s : State) (span code scope k : Nat) (fs : Nat → List (Nat × Nat)) : (s.logLimitedFor span code scope k fs).handoffs = s.handoffs :=
  (State.logLimitedFor_follows rfl (State.Follows.refl 153122387330597656 s)).at State.handoffs 24 State.reset.handoffs (fun _ => rfl) rfl
@[simp] theorem State.logLimitedFor_msgs (s : State) (span code scope k : Nat) (fs : Nat → List (Nat × Nat)) : (s.logLimitedFor span code scope k fs).msgs = s.msgs :=
  (State.logLimitedFor_follows rfl (State.Follows.refl 153122387330597656 s)).at State.msgs 25 State.reset.msgs (fun _ => rfl) rfl
@[simp] theorem State.logLimitedFor_nextMsg (s : State) (span code scope k : Nat) (fs : Nat → List (Nat × Nat)) : (s.logLimitedFor span code scope k fs).nextMsg = s.nextMsg :=
  (State.logLimitedFor_follows rfl (State.Follows.refl 153122387330597656 s)).at State.nextMsg 26 State.reset.nextMsg (fun _ => rfl) rfl
@[simp] theorem State.logLimitedFor_lanes (s : State) (span code scope k : Nat) (fs : Nat → List (Nat × Nat)) : (s.logLimitedFor span code scope k fs).lanes = s.lanes :=
  (State.logLimitedFor_follows rfl (State.Follows.refl 153122387330597656 s)).at State.lanes 27 State.reset.lanes (fun _ => rfl) rfl
@[simp] theorem State.logLimitedFor_slices (s : State) (span code scope k : Nat) (fs : Nat → List (Nat × Nat)) : (s.logLimitedFor span code scope k fs).slices = s.slices :=
  (State.logLimitedFor_follows rfl (State.Follows.refl 153122387330597656 s)).at State.slices 28 State.reset.slices (fun _ => rfl) rfl
@[simp] theorem State.logLimitedFor_unreachable (s : State) (span code scope k : Nat) (fs : Nat → List (Nat × Nat)) : (s.logLimitedFor span code scope k fs).unreachable = s.unreachable :=
  (State.logLimitedFor_follows rfl (State.Follows.refl 153122387330597656 s)).at State.unreachable 29 State.reset.unreachable (fun _ => rfl) rfl
@[simp] theorem State.logLimitedFor_paced (s : State) (span code scope k : Nat) (fs : Nat → List (Nat × Nat)) : (s.logLimitedFor span code scope k fs).paced = s.paced :=
  (State.logLimitedFor_follows rfl (State.Follows.refl 153122387330597656 s)).at State.paced 30 State.reset.paced (fun _ => rfl) rfl
@[simp] theorem State.logLimitedFor_peds (s : State) (span code scope k : Nat) (fs : Nat → List (Nat × Nat)) : (s.logLimitedFor span code scope k fs).peds = s.peds :=
  (State.logLimitedFor_follows rfl (State.Follows.refl 153122387330597656 s)).at State.peds 31 State.reset.peds (fun _ => rfl) rfl
@[simp] theorem State.logLimitedFor_kvSeqs (s : State) (span code scope k : Nat) (fs : Nat → List (Nat × Nat)) : (s.logLimitedFor span code scope k fs).kvSeqs = s.kvSeqs :=
  (State.logLimitedFor_follows rfl (State.Follows.refl 153122387330597656 s)).at State.kvSeqs 32 State.reset.kvSeqs (fun _ => rfl) rfl
@[simp] theorem State.logLimitedFor_parts (s : State) (span code scope k : Nat) (fs : Nat → List (Nat × Nat)) : (s.logLimitedFor span code scope k fs).parts = s.parts :=
  (State.logLimitedFor_follows rfl (State.Follows.refl 153122387330597656 s)).at State.parts 33 State.reset.parts (fun _ => rfl) rfl
@[simp] theorem State.logLimitedFor_kvPools (s : State) (span code scope k : Nat) (fs : Nat → List (Nat × Nat)) : (s.logLimitedFor span code scope k fs).kvPools = s.kvPools :=
  (State.logLimitedFor_follows rfl (State.Follows.refl 153122387330597656 s)).at State.kvPools 34 State.reset.kvPools (fun _ => rfl) rfl
@[simp] theorem State.logLimitedFor_prefixes (s : State) (span code scope k : Nat) (fs : Nat → List (Nat × Nat)) : (s.logLimitedFor span code scope k fs).prefixes = s.prefixes :=
  (State.logLimitedFor_follows rfl (State.Follows.refl 153122387330597656 s)).at State.prefixes 35 State.reset.prefixes (fun _ => rfl) rfl
@[simp] theorem State.logLimitedFor_spills (s : State) (span code scope k : Nat) (fs : Nat → List (Nat × Nat)) : (s.logLimitedFor span code scope k fs).spills = s.spills :=
  (State.logLimitedFor_follows rfl (State.Follows.refl 153122387330597656 s)).at State.spills 36 State.reset.spills (fun _ => rfl) rfl
@[simp] theorem State.logLimitedFor_emptyMarks (s : State) (span code scope k : Nat) (fs : Nat → List (Nat × Nat)) : (s.logLimitedFor span code scope k fs).emptyMarks = s.emptyMarks :=
  (State.logLimitedFor_follows rfl (State.Follows.refl 153122387330597656 s)).at State.emptyMarks 37 State.reset.emptyMarks (fun _ => rfl) rfl
@[simp] theorem State.logLimitedFor_flushing (s : State) (span code scope k : Nat) (fs : Nat → List (Nat × Nat)) : (s.logLimitedFor span code scope k fs).flushing = s.flushing :=
  (State.logLimitedFor_follows rfl (State.Follows.refl 153122387330597656 s)).at State.flushing 38 State.reset.flushing (fun _ => rfl) rfl
@[simp] theorem State.logLimitedFor_noFrame (s : State) (span code scope k : Nat) (fs : Nat → List (Nat × Nat)) : (s.logLimitedFor span code scope k fs).noFrame = s.noFrame :=
  (State.logLimitedFor_follows rfl (State.Follows.refl 153122387330597656 s)).at State.noFrame 39 State.reset.noFrame (fun _ => rfl) rfl
@[simp] theorem State.logLimitedFor_wslots (s : State) (span code scope k : Nat) (fs : Nat → List (Nat × Nat)) : (s.logLimitedFor span code scope k fs).wslots = s.wslots :=
  (State.logLimitedFor_follows rfl (State.Follows.refl 153122387330597656 s)).at State.wslots 40 State.reset.wslots (fun _ => rfl) rfl
@[simp] theorem State.logLimitedFor_winsts (s : State) (span code scope k : Nat) (fs : Nat → List (Nat × Nat)) : (s.logLimitedFor span code scope k fs).winsts = s.winsts :=
  (State.logLimitedFor_follows rfl (State.Follows.refl 153122387330597656 s)).at State.winsts 41 State.reset.winsts (fun _ => rfl) rfl
@[simp] theorem State.logLimitedFor_wloads (s : State) (span code scope k : Nat) (fs : Nat → List (Nat × Nat)) : (s.logLimitedFor span code scope k fs).wloads = s.wloads :=
  (State.logLimitedFor_follows rfl (State.Follows.refl 153122387330597656 s)).at State.wloads 42 State.reset.wloads (fun _ => rfl) rfl
@[simp] theorem State.logLimitedFor_insts (s : State) (span code scope k : Nat) (fs : Nat → List (Nat × Nat)) : (s.logLimitedFor span code scope k fs).insts = s.insts :=
  (State.logLimitedFor_follows rfl (State.Follows.refl 153122387330597656 s)).at State.insts 43 State.reset.insts (fun _ => rfl) rfl
@[simp] theorem State.logLimitedFor_seqs (s : State) (span code scope k : Nat) (fs : Nat → List (Nat × Nat)) : (s.logLimitedFor span code scope k fs).seqs = s.seqs :=
  (State.logLimitedFor_follows rfl (State.Follows.refl 153122387330597656 s)).at State.seqs 44 State.reset.seqs (fun _ => rfl) rfl
@[simp] theorem State.logLimitedFor_subRings (s : State) (span code scope k : Nat) (fs : Nat → List (Nat × Nat)) : (s.logLimitedFor span code scope k fs).subRings = s.subRings :=
  (State.logLimitedFor_follows rfl (State.Follows.refl 153122387330597656 s)).at State.subRings 45 State.reset.subRings (fun _ => rfl) rfl
@[simp] theorem State.logLimitedFor_recRings (s : State) (span code scope k : Nat) (fs : Nat → List (Nat × Nat)) : (s.logLimitedFor span code scope k fs).recRings = s.recRings :=
  (State.logLimitedFor_follows rfl (State.Follows.refl 153122387330597656 s)).at State.recRings 46 State.reset.recRings (fun _ => rfl) rfl
@[simp] theorem State.logLimitedFor_subLast (s : State) (span code scope k : Nat) (fs : Nat → List (Nat × Nat)) : (s.logLimitedFor span code scope k fs).subLast = s.subLast :=
  (State.logLimitedFor_follows rfl (State.Follows.refl 153122387330597656 s)).at State.subLast 47 State.reset.subLast (fun _ => rfl) rfl
@[simp] theorem State.logLimitedFor_schStatus (s : State) (span code scope k : Nat) (fs : Nat → List (Nat × Nat)) : (s.logLimitedFor span code scope k fs).schStatus = s.schStatus :=
  (State.logLimitedFor_follows rfl (State.Follows.refl 153122387330597656 s)).at State.schStatus 48 State.reset.schStatus (fun _ => rfl) rfl
@[simp] theorem State.logLimitedFor_schCmd (s : State) (span code scope k : Nat) (fs : Nat → List (Nat × Nat)) : (s.logLimitedFor span code scope k fs).schCmd = s.schCmd :=
  (State.logLimitedFor_follows rfl (State.Follows.refl 153122387330597656 s)).at State.schCmd 49 State.reset.schCmd (fun _ => rfl) rfl
@[simp] theorem State.logLimitedFor_smpRows (s : State) (span code scope k : Nat) (fs : Nat → List (Nat × Nat)) : (s.logLimitedFor span code scope k fs).smpRows = s.smpRows :=
  (State.logLimitedFor_follows rfl (State.Follows.refl 153122387330597656 s)).at State.smpRows 50 State.reset.smpRows (fun _ => rfl) rfl
@[simp] theorem State.logLimitedFor_grammars (s : State) (span code scope k : Nat) (fs : Nat → List (Nat × Nat)) : (s.logLimitedFor span code scope k fs).grammars = s.grammars :=
  (State.logLimitedFor_follows rfl (State.Follows.refl 153122387330597656 s)).at State.grammars 51 State.reset.grammars (fun _ => rfl) rfl
@[simp] theorem State.logLimitedFor_grmCache (s : State) (span code scope k : Nat) (fs : Nat → List (Nat × Nat)) : (s.logLimitedFor span code scope k fs).grmCache = s.grmCache :=
  (State.logLimitedFor_follows rfl (State.Follows.refl 153122387330597656 s)).at State.grmCache 52 State.reset.grmCache (fun _ => rfl) rfl
@[simp] theorem State.logLimitedFor_cmd (s : State) (span code scope k : Nat) (fs : Nat → List (Nat × Nat)) : (s.logLimitedFor span code scope k fs).cmd = s.cmd :=
  (State.logLimitedFor_follows rfl (State.Follows.refl 153122387330597656 s)).at State.cmd 54 State.reset.cmd (fun _ => rfl) rfl
@[simp] theorem State.logLimitedFor_evrInFlight (s : State) (span code scope k : Nat) (fs : Nat → List (Nat × Nat)) : (s.logLimitedFor span code scope k fs).evrInFlight = s.evrInFlight :=
  (State.logLimitedFor_follows rfl (State.Follows.refl 153122387330597656 s)).at State.evrInFlight 55 State.reset.evrInFlight (fun _ => rfl) rfl
@[simp] theorem State.logLimitedFor_mgmtEid (s : State) (span code scope k : Nat) (fs : Nat → List (Nat × Nat)) : (s.logLimitedFor span code scope k fs).mgmtEid = s.mgmtEid :=
  (State.logLimitedFor_follows rfl (State.Follows.refl 153122387330597656 s)).at State.mgmtEid 56 State.reset.mgmtEid (fun _ => rfl) rfl
@[simp] theorem State.logLimitedFor_ftrStale (s : State) (span code scope k : Nat) (fs : Nat → List (Nat × Nat)) : (s.logLimitedFor span code scope k fs).ftrStale = s.ftrStale :=
  (State.logLimitedFor_follows rfl (State.Follows.refl 153122387330597656 s)).at State.ftrStale 58 State.reset.ftrStale (fun _ => rfl) rfl
@[simp] theorem State.logLimitedFor_icpIn (s : State) (span code scope k : Nat) (fs : Nat → List (Nat × Nat)) : (s.logLimitedFor span code scope k fs).icpIn = s.icpIn :=
  (State.logLimitedFor_follows rfl (State.Follows.refl 153122387330597656 s)).at State.icpIn 59 State.reset.icpIn (fun _ => rfl) rfl
@[simp] theorem State.logLimitedFor_icps (s : State) (span code scope k : Nat) (fs : Nat → List (Nat × Nat)) : (s.logLimitedFor span code scope k fs).icps = s.icps :=
  (State.logLimitedFor_follows rfl (State.Follows.refl 153122387330597656 s)).at State.icps 60 State.reset.icps (fun _ => rfl) rfl
@[simp] theorem State.logLimitedFor_sync (s : State) (span code scope k : Nat) (fs : Nat → List (Nat × Nat)) : (s.logLimitedFor span code scope k fs).sync = s.sync :=
  (State.logLimitedFor_follows rfl (State.Follows.refl 153122387330597656 s)).at State.sync 61 State.reset.sync (fun _ => rfl) rfl
@[simp] theorem State.logLimitedFor_replicas (s : State) (span code scope k : Nat) (fs : Nat → List (Nat × Nat)) : (s.logLimitedFor span code scope k fs).replicas = s.replicas :=
  (State.logLimitedFor_follows rfl (State.Follows.refl 153122387330597656 s)).at State.replicas 62 State.reset.replicas (fun _ => rfl) rfl
@[simp] theorem State.logLimitedFor_digests (s : State) (span code scope k : Nat) (fs : Nat → List (Nat × Nat)) : (s.logLimitedFor span code scope k fs).digests = s.digests :=
  (State.logLimitedFor_follows rfl (State.Follows.refl 153122387330597656 s)).at State.digests 63 State.reset.digests (fun _ => rfl) rfl
@[simp] theorem State.logLimitedFor_reserves (s : State) (span code scope k : Nat) (fs : Nat → List (Nat × Nat)) : (s.logLimitedFor span code scope k fs).reserves = s.reserves :=
  (State.logLimitedFor_follows rfl (State.Follows.refl 153122387330597656 s)).at State.reserves 64 State.reset.reserves (fun _ => rfl) rfl
@[simp] theorem State.logLimitedFor_takeovers (s : State) (span code scope k : Nat) (fs : Nat → List (Nat × Nat)) : (s.logLimitedFor span code scope k fs).takeovers = s.takeovers :=
  (State.logLimitedFor_follows rfl (State.Follows.refl 153122387330597656 s)).at State.takeovers 65 State.reset.takeovers (fun _ => rfl) rfl
@[simp] theorem State.logLimitedFor_arrTakeovers (s : State) (span code scope k : Nat) (fs : Nat → List (Nat × Nat)) : (s.logLimitedFor span code scope k fs).arrTakeovers = s.arrTakeovers :=
  (State.logLimitedFor_follows rfl (State.Follows.refl 153122387330597656 s)).at State.arrTakeovers 66 State.reset.arrTakeovers (fun _ => rfl) rfl
@[simp] theorem State.logLimitedFor_unbacked (s : State) (span code scope k : Nat) (fs : Nat → List (Nat × Nat)) : (s.logLimitedFor span code scope k fs).unbacked = s.unbacked :=
  (State.logLimitedFor_follows rfl (State.Follows.refl 153122387330597656 s)).at State.unbacked 67 State.reset.unbacked (fun _ => rfl) rfl
@[simp] theorem State.logLimitedFor_tests (s : State) (span code scope k : Nat) (fs : Nat → List (Nat × Nat)) : (s.logLimitedFor span code scope k fs).tests = s.tests :=
  (State.logLimitedFor_follows rfl (State.Follows.refl 153122387330597656 s)).at State.tests 68 State.reset.tests (fun _ => rfl) rfl
@[simp] theorem State.logLimitedFor_advice (s : State) (span code scope k : Nat) (fs : Nat → List (Nat × Nat)) : (s.logLimitedFor span code scope k fs).advice = s.advice :=
  (State.logLimitedFor_follows rfl (State.Follows.refl 153122387330597656 s)).at State.advice 69 State.reset.advice (fun _ => rfl) rfl
@[simp] theorem State.logLimitedFor_domains (s : State) (span code scope k : Nat) (fs : Nat → List (Nat × Nat)) : (s.logLimitedFor span code scope k fs).domains = s.domains :=
  (State.logLimitedFor_follows rfl (State.Follows.refl 153122387330597656 s)).at State.domains 70 State.reset.domains (fun _ => rfl) rfl
@[simp] theorem State.logLimitedFor_pwr (s : State) (span code scope k : Nat) (fs : Nat → List (Nat × Nat)) : (s.logLimitedFor span code scope k fs).pwr = s.pwr :=
  (State.logLimitedFor_follows rfl (State.Follows.refl 153122387330597656 s)).at State.pwr 71 State.reset.pwr (fun _ => rfl) rfl
@[simp] theorem State.logLimitedFor_clk (s : State) (span code scope k : Nat) (fs : Nat → List (Nat × Nat)) : (s.logLimitedFor span code scope k fs).clk = s.clk :=
  (State.logLimitedFor_follows rfl (State.Follows.refl 153122387330597656 s)).at State.clk 72 State.reset.clk (fun _ => rfl) rfl
@[simp] theorem State.logLimitedFor_hka (s : State) (span code scope k : Nat) (fs : Nat → List (Nat × Nat)) : (s.logLimitedFor span code scope k fs).hka = s.hka :=
  (State.logLimitedFor_follows rfl (State.Follows.refl 153122387330597656 s)).at State.hka 73 State.reset.hka (fun _ => rfl) rfl
@[simp] theorem State.logLimitedFor_thm (s : State) (span code scope k : Nat) (fs : Nat → List (Nat × Nat)) : (s.logLimitedFor span code scope k fs).thm = s.thm :=
  (State.logLimitedFor_follows rfl (State.Follows.refl 153122387330597656 s)).at State.thm 74 State.reset.thm (fun _ => rfl) rfl
@[simp] theorem State.logLimitedFor_weightKeys (s : State) (span code scope k : Nat) (fs : Nat → List (Nat × Nat)) : (s.logLimitedFor span code scope k fs).weightKeys = s.weightKeys :=
  (State.logLimitedFor_follows rfl (State.Follows.refl 153122387330597656 s)).at State.weightKeys 75 State.reset.weightKeys (fun _ => rfl) rfl
@[simp] theorem State.logLimitedFor_sec (s : State) (span code scope k : Nat) (fs : Nat → List (Nat × Nat)) : (s.logLimitedFor span code scope k fs).sec = s.sec :=
  (State.logLimitedFor_follows rfl (State.Follows.refl 153122387330597656 s)).at State.sec 76 State.reset.sec (fun _ => rfl) rfl
@[simp] theorem State.logLimitedFor_tapIr (s : State) (span code scope k : Nat) (fs : Nat → List (Nat × Nat)) : (s.logLimitedFor span code scope k fs).tapIr = s.tapIr :=
  (State.logLimitedFor_follows rfl (State.Follows.refl 153122387330597656 s)).at State.tapIr 77 State.reset.tapIr (fun _ => rfl) rfl
@[simp] theorem State.logLimitedFor_tapCells (s : State) (span code scope k : Nat) (fs : Nat → List (Nat × Nat)) : (s.logLimitedFor span code scope k fs).tapCells = s.tapCells :=
  (State.logLimitedFor_follows rfl (State.Follows.refl 153122387330597656 s)).at State.tapCells 78 State.reset.tapCells (fun _ => rfl) rfl
@[simp] theorem State.logLimitedFor_pending (s : State) (span code scope k : Nat) (fs : Nat → List (Nat × Nat)) : (s.logLimitedFor span code scope k fs).pending = s.pending :=
  (State.logLimitedFor_follows rfl (State.Follows.refl 153122387330597656 s)).pending

@[simp] theorem State.finish_time (s : State) (opcode key status : Nat) : (s.finish opcode key status).time = s.time :=
  (State.finish_follows rfl (State.Follows.refl 27021597764223496 s)).at State.time 0 State.reset.time (fun _ => rfl) rfl
@[simp] theorem State.finish_timeRuns (s : State) (opcode key status : Nat) : (s.finish opcode key status).timeRuns = s.timeRuns :=
  (State.finish_follows rfl (State.Follows.refl 27021597764223496 s)).at State.timeRuns 1 State.reset.timeRuns (fun _ => rfl) rfl
@[simp] theorem State.finish_freeCtr (s : State) (opcode key status : Nat) : (s.finish opcode key status).freeCtr = s.freeCtr :=
  (State.finish_follows rfl (State.Follows.refl 27021597764223496 s)).at State.freeCtr 2 State.reset.freeCtr (fun _ => rfl) rfl
@[simp] theorem State.finish_regs (s : State) (opcode key status : Nat) : (s.finish opcode key status).regs = s.regs :=
  (State.finish_follows rfl (State.Follows.refl 27021597764223496 s)).at State.regs 4 State.reset.regs (fun _ => rfl) rfl
@[simp] theorem State.finish_latchHi (s : State) (opcode key status : Nat) : (s.finish opcode key status).latchHi = s.latchHi :=
  (State.finish_follows rfl (State.Follows.refl 27021597764223496 s)).at State.latchHi 5 State.reset.latchHi (fun _ => rfl) rfl
@[simp] theorem State.finish_heldLow (s : State) (opcode key status : Nat) : (s.finish opcode key status).heldLow = s.heldLow :=
  (State.finish_follows rfl (State.Follows.refl 27021597764223496 s)).at State.heldLow 6 State.reset.heldLow (fun _ => rfl) rfl
@[simp] theorem State.finish_rwlLocked (s : State) (opcode key status : Nat) : (s.finish opcode key status).rwlLocked = s.rwlLocked :=
  (State.finish_follows rfl (State.Follows.refl 27021597764223496 s)).at State.rwlLocked 7 State.reset.rwlLocked (fun _ => rfl) rfl
@[simp] theorem State.finish_log (s : State) (opcode key status : Nat) : (s.finish opcode key status).log = s.log :=
  (State.finish_follows rfl (State.Follows.refl 27021597764223496 s)).at State.log 8 State.reset.log (fun _ => rfl) rfl
@[simp] theorem State.finish_fuses (s : State) (opcode key status : Nat) : (s.finish opcode key status).fuses = s.fuses :=
  (State.finish_follows rfl (State.Follows.refl 27021597764223496 s)).at State.fuses 10 State.reset.fuses (fun _ => rfl) rfl
@[simp] theorem State.finish_arm (s : State) (opcode key status : Nat) : (s.finish opcode key status).arm = s.arm :=
  (State.finish_follows rfl (State.Follows.refl 27021597764223496 s)).at State.arm 11 State.reset.arm (fun _ => rfl) rfl
@[simp] theorem State.finish_img (s : State) (opcode key status : Nat) : (s.finish opcode key status).img = s.img :=
  (State.finish_follows rfl (State.Follows.refl 27021597764223496 s)).at State.img 12 State.reset.img (fun _ => rfl) rfl
@[simp] theorem State.finish_armFloor (s : State) (opcode key status : Nat) : (s.finish opcode key status).armFloor = s.armFloor :=
  (State.finish_follows rfl (State.Follows.refl 27021597764223496 s)).at State.armFloor 13 State.reset.armFloor (fun _ => rfl) rfl
@[simp] theorem State.finish_heldSeal (s : State) (opcode key status : Nat) : (s.finish opcode key status).heldSeal = s.heldSeal :=
  (State.finish_follows rfl (State.Follows.refl 27021597764223496 s)).at State.heldSeal 14 State.reset.heldSeal (fun _ => rfl) rfl
@[simp] theorem State.finish_arrays (s : State) (opcode key status : Nat) : (s.finish opcode key status).arrays = s.arrays :=
  (State.finish_follows rfl (State.Follows.refl 27021597764223496 s)).at State.arrays 15 State.reset.arrays (fun _ => rfl) rfl
@[simp] theorem State.finish_fmts (s : State) (opcode key status : Nat) : (s.finish opcode key status).fmts = s.fmts :=
  (State.finish_follows rfl (State.Follows.refl 27021597764223496 s)).at State.fmts 16 State.reset.fmts (fun _ => rfl) rfl
@[simp] theorem State.finish_fmtResets (s : State) (opcode key status : Nat) : (s.finish opcode key status).fmtResets = s.fmtResets :=
  (State.finish_follows rfl (State.Follows.refl 27021597764223496 s)).at State.fmtResets 17 State.reset.fmtResets (fun _ => rfl) rfl
@[simp] theorem State.finish_cals (s : State) (opcode key status : Nat) : (s.finish opcode key status).cals = s.cals :=
  (State.finish_follows rfl (State.Follows.refl 27021597764223496 s)).at State.cals 18 State.reset.cals (fun _ => rfl) rfl
@[simp] theorem State.finish_calStores (s : State) (opcode key status : Nat) : (s.finish opcode key status).calStores = s.calStores :=
  (State.finish_follows rfl (State.Follows.refl 27021597764223496 s)).at State.calStores 19 State.reset.calStores (fun _ => rfl) rfl
@[simp] theorem State.finish_calSaves (s : State) (opcode key status : Nat) : (s.finish opcode key status).calSaves = s.calSaves :=
  (State.finish_follows rfl (State.Follows.refl 27021597764223496 s)).at State.calSaves 20 State.reset.calSaves (fun _ => rfl) rfl
@[simp] theorem State.finish_cores (s : State) (opcode key status : Nat) : (s.finish opcode key status).cores = s.cores :=
  (State.finish_follows rfl (State.Follows.refl 27021597764223496 s)).at State.cores 21 State.reset.cores (fun _ => rfl) rfl
@[simp] theorem State.finish_clusters (s : State) (opcode key status : Nat) : (s.finish opcode key status).clusters = s.clusters :=
  (State.finish_follows rfl (State.Follows.refl 27021597764223496 s)).at State.clusters 22 State.reset.clusters (fun _ => rfl) rfl
@[simp] theorem State.finish_engines (s : State) (opcode key status : Nat) : (s.finish opcode key status).engines = s.engines :=
  (State.finish_follows rfl (State.Follows.refl 27021597764223496 s)).at State.engines 23 State.reset.engines (fun _ => rfl) rfl
@[simp] theorem State.finish_handoffs (s : State) (opcode key status : Nat) : (s.finish opcode key status).handoffs = s.handoffs :=
  (State.finish_follows rfl (State.Follows.refl 27021597764223496 s)).at State.handoffs 24 State.reset.handoffs (fun _ => rfl) rfl
@[simp] theorem State.finish_msgs (s : State) (opcode key status : Nat) : (s.finish opcode key status).msgs = s.msgs :=
  (State.finish_follows rfl (State.Follows.refl 27021597764223496 s)).at State.msgs 25 State.reset.msgs (fun _ => rfl) rfl
@[simp] theorem State.finish_nextMsg (s : State) (opcode key status : Nat) : (s.finish opcode key status).nextMsg = s.nextMsg :=
  (State.finish_follows rfl (State.Follows.refl 27021597764223496 s)).at State.nextMsg 26 State.reset.nextMsg (fun _ => rfl) rfl
@[simp] theorem State.finish_lanes (s : State) (opcode key status : Nat) : (s.finish opcode key status).lanes = s.lanes :=
  (State.finish_follows rfl (State.Follows.refl 27021597764223496 s)).at State.lanes 27 State.reset.lanes (fun _ => rfl) rfl
@[simp] theorem State.finish_slices (s : State) (opcode key status : Nat) : (s.finish opcode key status).slices = s.slices :=
  (State.finish_follows rfl (State.Follows.refl 27021597764223496 s)).at State.slices 28 State.reset.slices (fun _ => rfl) rfl
@[simp] theorem State.finish_unreachable (s : State) (opcode key status : Nat) : (s.finish opcode key status).unreachable = s.unreachable :=
  (State.finish_follows rfl (State.Follows.refl 27021597764223496 s)).at State.unreachable 29 State.reset.unreachable (fun _ => rfl) rfl
@[simp] theorem State.finish_paced (s : State) (opcode key status : Nat) : (s.finish opcode key status).paced = s.paced :=
  (State.finish_follows rfl (State.Follows.refl 27021597764223496 s)).at State.paced 30 State.reset.paced (fun _ => rfl) rfl
@[simp] theorem State.finish_peds (s : State) (opcode key status : Nat) : (s.finish opcode key status).peds = s.peds :=
  (State.finish_follows rfl (State.Follows.refl 27021597764223496 s)).at State.peds 31 State.reset.peds (fun _ => rfl) rfl
@[simp] theorem State.finish_kvSeqs (s : State) (opcode key status : Nat) : (s.finish opcode key status).kvSeqs = s.kvSeqs :=
  (State.finish_follows rfl (State.Follows.refl 27021597764223496 s)).at State.kvSeqs 32 State.reset.kvSeqs (fun _ => rfl) rfl
@[simp] theorem State.finish_parts (s : State) (opcode key status : Nat) : (s.finish opcode key status).parts = s.parts :=
  (State.finish_follows rfl (State.Follows.refl 27021597764223496 s)).at State.parts 33 State.reset.parts (fun _ => rfl) rfl
@[simp] theorem State.finish_kvPools (s : State) (opcode key status : Nat) : (s.finish opcode key status).kvPools = s.kvPools :=
  (State.finish_follows rfl (State.Follows.refl 27021597764223496 s)).at State.kvPools 34 State.reset.kvPools (fun _ => rfl) rfl
@[simp] theorem State.finish_prefixes (s : State) (opcode key status : Nat) : (s.finish opcode key status).prefixes = s.prefixes :=
  (State.finish_follows rfl (State.Follows.refl 27021597764223496 s)).at State.prefixes 35 State.reset.prefixes (fun _ => rfl) rfl
@[simp] theorem State.finish_spills (s : State) (opcode key status : Nat) : (s.finish opcode key status).spills = s.spills :=
  (State.finish_follows rfl (State.Follows.refl 27021597764223496 s)).at State.spills 36 State.reset.spills (fun _ => rfl) rfl
@[simp] theorem State.finish_emptyMarks (s : State) (opcode key status : Nat) : (s.finish opcode key status).emptyMarks = s.emptyMarks :=
  (State.finish_follows rfl (State.Follows.refl 27021597764223496 s)).at State.emptyMarks 37 State.reset.emptyMarks (fun _ => rfl) rfl
@[simp] theorem State.finish_flushing (s : State) (opcode key status : Nat) : (s.finish opcode key status).flushing = s.flushing :=
  (State.finish_follows rfl (State.Follows.refl 27021597764223496 s)).at State.flushing 38 State.reset.flushing (fun _ => rfl) rfl
@[simp] theorem State.finish_noFrame (s : State) (opcode key status : Nat) : (s.finish opcode key status).noFrame = s.noFrame :=
  (State.finish_follows rfl (State.Follows.refl 27021597764223496 s)).at State.noFrame 39 State.reset.noFrame (fun _ => rfl) rfl
@[simp] theorem State.finish_wslots (s : State) (opcode key status : Nat) : (s.finish opcode key status).wslots = s.wslots :=
  (State.finish_follows rfl (State.Follows.refl 27021597764223496 s)).at State.wslots 40 State.reset.wslots (fun _ => rfl) rfl
@[simp] theorem State.finish_winsts (s : State) (opcode key status : Nat) : (s.finish opcode key status).winsts = s.winsts :=
  (State.finish_follows rfl (State.Follows.refl 27021597764223496 s)).at State.winsts 41 State.reset.winsts (fun _ => rfl) rfl
@[simp] theorem State.finish_wloads (s : State) (opcode key status : Nat) : (s.finish opcode key status).wloads = s.wloads :=
  (State.finish_follows rfl (State.Follows.refl 27021597764223496 s)).at State.wloads 42 State.reset.wloads (fun _ => rfl) rfl
@[simp] theorem State.finish_insts (s : State) (opcode key status : Nat) : (s.finish opcode key status).insts = s.insts :=
  (State.finish_follows rfl (State.Follows.refl 27021597764223496 s)).at State.insts 43 State.reset.insts (fun _ => rfl) rfl
@[simp] theorem State.finish_seqs (s : State) (opcode key status : Nat) : (s.finish opcode key status).seqs = s.seqs :=
  (State.finish_follows rfl (State.Follows.refl 27021597764223496 s)).at State.seqs 44 State.reset.seqs (fun _ => rfl) rfl
@[simp] theorem State.finish_subRings (s : State) (opcode key status : Nat) : (s.finish opcode key status).subRings = s.subRings :=
  (State.finish_follows rfl (State.Follows.refl 27021597764223496 s)).at State.subRings 45 State.reset.subRings (fun _ => rfl) rfl
@[simp] theorem State.finish_recRings (s : State) (opcode key status : Nat) : (s.finish opcode key status).recRings = s.recRings :=
  (State.finish_follows rfl (State.Follows.refl 27021597764223496 s)).at State.recRings 46 State.reset.recRings (fun _ => rfl) rfl
@[simp] theorem State.finish_subLast (s : State) (opcode key status : Nat) : (s.finish opcode key status).subLast = s.subLast :=
  (State.finish_follows rfl (State.Follows.refl 27021597764223496 s)).at State.subLast 47 State.reset.subLast (fun _ => rfl) rfl
@[simp] theorem State.finish_schStatus (s : State) (opcode key status : Nat) : (s.finish opcode key status).schStatus = s.schStatus :=
  (State.finish_follows rfl (State.Follows.refl 27021597764223496 s)).at State.schStatus 48 State.reset.schStatus (fun _ => rfl) rfl
@[simp] theorem State.finish_schCmd (s : State) (opcode key status : Nat) : (s.finish opcode key status).schCmd = s.schCmd :=
  (State.finish_follows rfl (State.Follows.refl 27021597764223496 s)).at State.schCmd 49 State.reset.schCmd (fun _ => rfl) rfl
@[simp] theorem State.finish_smpRows (s : State) (opcode key status : Nat) : (s.finish opcode key status).smpRows = s.smpRows :=
  (State.finish_follows rfl (State.Follows.refl 27021597764223496 s)).at State.smpRows 50 State.reset.smpRows (fun _ => rfl) rfl
@[simp] theorem State.finish_grammars (s : State) (opcode key status : Nat) : (s.finish opcode key status).grammars = s.grammars :=
  (State.finish_follows rfl (State.Follows.refl 27021597764223496 s)).at State.grammars 51 State.reset.grammars (fun _ => rfl) rfl
@[simp] theorem State.finish_grmCache (s : State) (opcode key status : Nat) : (s.finish opcode key status).grmCache = s.grmCache :=
  (State.finish_follows rfl (State.Follows.refl 27021597764223496 s)).at State.grmCache 52 State.reset.grmCache (fun _ => rfl) rfl
@[simp] theorem State.finish_evrInFlight (s : State) (opcode key status : Nat) : (s.finish opcode key status).evrInFlight = s.evrInFlight :=
  (State.finish_follows rfl (State.Follows.refl 27021597764223496 s)).at State.evrInFlight 55 State.reset.evrInFlight (fun _ => rfl) rfl
@[simp] theorem State.finish_mgmtEid (s : State) (opcode key status : Nat) : (s.finish opcode key status).mgmtEid = s.mgmtEid :=
  (State.finish_follows rfl (State.Follows.refl 27021597764223496 s)).at State.mgmtEid 56 State.reset.mgmtEid (fun _ => rfl) rfl
@[simp] theorem State.finish_araMask (s : State) (opcode key status : Nat) : (s.finish opcode key status).araMask = s.araMask :=
  (State.finish_follows rfl (State.Follows.refl 27021597764223496 s)).at State.araMask 57 State.reset.araMask (fun _ => rfl) rfl
@[simp] theorem State.finish_ftrStale (s : State) (opcode key status : Nat) : (s.finish opcode key status).ftrStale = s.ftrStale :=
  (State.finish_follows rfl (State.Follows.refl 27021597764223496 s)).at State.ftrStale 58 State.reset.ftrStale (fun _ => rfl) rfl
@[simp] theorem State.finish_icpIn (s : State) (opcode key status : Nat) : (s.finish opcode key status).icpIn = s.icpIn :=
  (State.finish_follows rfl (State.Follows.refl 27021597764223496 s)).at State.icpIn 59 State.reset.icpIn (fun _ => rfl) rfl
@[simp] theorem State.finish_icps (s : State) (opcode key status : Nat) : (s.finish opcode key status).icps = s.icps :=
  (State.finish_follows rfl (State.Follows.refl 27021597764223496 s)).at State.icps 60 State.reset.icps (fun _ => rfl) rfl
@[simp] theorem State.finish_sync (s : State) (opcode key status : Nat) : (s.finish opcode key status).sync = s.sync :=
  (State.finish_follows rfl (State.Follows.refl 27021597764223496 s)).at State.sync 61 State.reset.sync (fun _ => rfl) rfl
@[simp] theorem State.finish_replicas (s : State) (opcode key status : Nat) : (s.finish opcode key status).replicas = s.replicas :=
  (State.finish_follows rfl (State.Follows.refl 27021597764223496 s)).at State.replicas 62 State.reset.replicas (fun _ => rfl) rfl
@[simp] theorem State.finish_digests (s : State) (opcode key status : Nat) : (s.finish opcode key status).digests = s.digests :=
  (State.finish_follows rfl (State.Follows.refl 27021597764223496 s)).at State.digests 63 State.reset.digests (fun _ => rfl) rfl
@[simp] theorem State.finish_reserves (s : State) (opcode key status : Nat) : (s.finish opcode key status).reserves = s.reserves :=
  (State.finish_follows rfl (State.Follows.refl 27021597764223496 s)).at State.reserves 64 State.reset.reserves (fun _ => rfl) rfl
@[simp] theorem State.finish_takeovers (s : State) (opcode key status : Nat) : (s.finish opcode key status).takeovers = s.takeovers :=
  (State.finish_follows rfl (State.Follows.refl 27021597764223496 s)).at State.takeovers 65 State.reset.takeovers (fun _ => rfl) rfl
@[simp] theorem State.finish_arrTakeovers (s : State) (opcode key status : Nat) : (s.finish opcode key status).arrTakeovers = s.arrTakeovers :=
  (State.finish_follows rfl (State.Follows.refl 27021597764223496 s)).at State.arrTakeovers 66 State.reset.arrTakeovers (fun _ => rfl) rfl
@[simp] theorem State.finish_unbacked (s : State) (opcode key status : Nat) : (s.finish opcode key status).unbacked = s.unbacked :=
  (State.finish_follows rfl (State.Follows.refl 27021597764223496 s)).at State.unbacked 67 State.reset.unbacked (fun _ => rfl) rfl
@[simp] theorem State.finish_tests (s : State) (opcode key status : Nat) : (s.finish opcode key status).tests = s.tests :=
  (State.finish_follows rfl (State.Follows.refl 27021597764223496 s)).at State.tests 68 State.reset.tests (fun _ => rfl) rfl
@[simp] theorem State.finish_advice (s : State) (opcode key status : Nat) : (s.finish opcode key status).advice = s.advice :=
  (State.finish_follows rfl (State.Follows.refl 27021597764223496 s)).at State.advice 69 State.reset.advice (fun _ => rfl) rfl
@[simp] theorem State.finish_domains (s : State) (opcode key status : Nat) : (s.finish opcode key status).domains = s.domains :=
  (State.finish_follows rfl (State.Follows.refl 27021597764223496 s)).at State.domains 70 State.reset.domains (fun _ => rfl) rfl
@[simp] theorem State.finish_pwr (s : State) (opcode key status : Nat) : (s.finish opcode key status).pwr = s.pwr :=
  (State.finish_follows rfl (State.Follows.refl 27021597764223496 s)).at State.pwr 71 State.reset.pwr (fun _ => rfl) rfl
@[simp] theorem State.finish_clk (s : State) (opcode key status : Nat) : (s.finish opcode key status).clk = s.clk :=
  (State.finish_follows rfl (State.Follows.refl 27021597764223496 s)).at State.clk 72 State.reset.clk (fun _ => rfl) rfl
@[simp] theorem State.finish_hka (s : State) (opcode key status : Nat) : (s.finish opcode key status).hka = s.hka :=
  (State.finish_follows rfl (State.Follows.refl 27021597764223496 s)).at State.hka 73 State.reset.hka (fun _ => rfl) rfl
@[simp] theorem State.finish_thm (s : State) (opcode key status : Nat) : (s.finish opcode key status).thm = s.thm :=
  (State.finish_follows rfl (State.Follows.refl 27021597764223496 s)).at State.thm 74 State.reset.thm (fun _ => rfl) rfl
@[simp] theorem State.finish_weightKeys (s : State) (opcode key status : Nat) : (s.finish opcode key status).weightKeys = s.weightKeys :=
  (State.finish_follows rfl (State.Follows.refl 27021597764223496 s)).at State.weightKeys 75 State.reset.weightKeys (fun _ => rfl) rfl
@[simp] theorem State.finish_sec (s : State) (opcode key status : Nat) : (s.finish opcode key status).sec = s.sec :=
  (State.finish_follows rfl (State.Follows.refl 27021597764223496 s)).at State.sec 76 State.reset.sec (fun _ => rfl) rfl
@[simp] theorem State.finish_tapIr (s : State) (opcode key status : Nat) : (s.finish opcode key status).tapIr = s.tapIr :=
  (State.finish_follows rfl (State.Follows.refl 27021597764223496 s)).at State.tapIr 77 State.reset.tapIr (fun _ => rfl) rfl
@[simp] theorem State.finish_tapCells (s : State) (opcode key status : Nat) : (s.finish opcode key status).tapCells = s.tapCells :=
  (State.finish_follows rfl (State.Follows.refl 27021597764223496 s)).at State.tapCells 78 State.reset.tapCells (fun _ => rfl) rfl
@[simp] theorem State.finish_pending (s : State) (opcode key status : Nat) : (s.finish opcode key status).pending = s.pending :=
  (State.finish_follows rfl (State.Follows.refl 27021597764223496 s)).pending

/-- A register reads as it was written. -/
@[simp] theorem State.reg_setReg (s : State) (off : Nat) (v : W32) : (s.setReg off v).reg off = v := by
  unfold State.reg State.setReg
  rw [Map.get_put_self]
  rfl

/-- A write of one register leaves the others. -/
theorem State.reg_setReg_ne (s : State) {off a : Nat} (v : W32) (h : a ≠ off) : (s.setReg off v).reg a = s.reg a := by
  unfold State.reg State.setReg
  rw [Map.get_put_ne _ _ h]

end Sys2Proof.Machine
end

