-- ==== Sys2Proof/Laws/Isa.lean ====
section
/-!
SUPPORT. Issue of an instruction (07, R207–R209, R229, R259): when every condition holds, it is its effect on the state in
which it has taken its slot; and what taking the slot changes in its own thread and in the others.
-/
namespace Sys2Proof.Machine
open Sys2Proof

/-- An instruction that meets every condition of issue takes its slot and has its effect. -/
theorem issue_runs {s : State} {u : Exec} {w : Nat} {r : IssueReq} (eff : State → State)
    (h1 : s.issuable u = true) (h2 : s.barrierOpen u = false) (h3 : (s.ctx u).pc < s.progLenOf u)
    (h4 : r.existsOn u = true) (h5 : r.fieldsOk = true)
    (h6 : s.guardOn u w = true) (h7 : firstExc r.checks = none)
    (h8 : rangesClear (s.flightsOf u) r.reads r.writes = true) (h9 : r.unitFree = true)
    (h10 : tablesFit (s.flightsOf u) r.reads r.writes = true) : issue s u w r eff = eff (s.take u) := by
  unfold issue
  rw [if_neg (by simp [h1]), if_neg (by simp [h2]), if_neg (by omega), if_neg (by simp [h4]), if_neg (by simp [h5]),
    if_neg (by simp [h6])]
  rw [h7]
  dsimp only
  rw [if_neg (by simp [h8]), if_neg (by simp [h9, h10])]

/-- An instruction whose guard is off takes its slot and does nothing more (R229). -/
theorem issue_skips {s : State} {u : Exec} {w : Nat} {r : IssueReq} (eff : State → State)
    (h1 : s.issuable u = true) (h2 : s.barrierOpen u = false) (h3 : (s.ctx u).pc < s.progLenOf u)
    (h4 : r.existsOn u = true) (h5 : r.fieldsOk = true)
    (h6 : s.guardOn u w = false) : issue s u w r eff = s.take u := by
  unfold issue
  rw [if_neg (by simp [h1]), if_neg (by simp [h2]), if_neg (by omega), if_neg (by simp [h4]), if_neg (by simp [h5]),
    if_pos (by simp [h6])]

/-- With nothing read and nothing written in memory the range check passes. -/
@[simp] theorem rangesClear_nil (fl : List Flight) : rangesClear fl [] [] = true := rfl

@[simp] theorem State.ctx_updCtx (s : State) (u : Exec) (f : Thread → Thread) : (s.updCtx u f).ctx u = f (s.ctx u) := by
  cases u <;> simp [State.updCtx, State.updCore, State.ctx]

theorem State.ctx_updCtx_apart (s : State) {u v : Exec} (f : Thread → Thread) (h : threadsApart v u) :
    (s.updCtx u f).ctx v = s.ctx v := by
  cases u <;> cases v
  · rename_i n t n' t'
    by_cases e : n' = n
    · subst e
      rcases h with h | h
      · exact absurd rfl h
      · simp [State.updCtx, State.updCore, State.ctx, Map.get_upd_ne _ _ h]
    · simp [State.updCtx, State.updCore, State.ctx, Map.get_upd_ne _ _ e]
  · rfl
  · rfl
  · have h' : engKey _ _ ≠ engKey _ _ := h
    simp only [State.updCtx, State.ctx]
    rw [Map.get_upd_ne _ _ h']

/-- The operand memory of a unit is not its registers. -/
@[simp] theorem State.opMem_updCtx (s : State) (u v : Exec) (f : Thread → Thread) : (s.updCtx u f).opMem v = s.opMem v := by
  cases u <;> cases v
  · rename_i n t n' t'
    by_cases e : n' = n
    · subst e; simp [State.updCtx, State.updCore, State.opMem]
    · simp [State.updCtx, State.updCore, State.opMem, Map.get_upd_ne _ _ e]
  · rfl
  · rfl
  · rename_i p t p' t'
    by_cases e : engKey p' t' = engKey p t
    · simp [State.updCtx, State.opMem, e]
    · simp [State.updCtx, State.opMem, Map.get_upd_ne _ _ e]

theorem State.ctx_congr {s t : State} (hc : t.cores = s.cores) (he : t.engines = s.engines) (u : Exec) : t.ctx u = s.ctx u := by
  cases u <;> simp [State.ctx, hc, he]

theorem State.opMem_congr {s t : State} (hc : t.cores = s.cores) (he : t.engines = s.engines) (u : Exec) :
    t.opMem u = s.opMem u := by cases u <;> simp [State.opMem, hc, he]

theorem State.coreCount_cores (s : State) (n off k : Nat) (wide : Bool) :
    (s.coreCount n off k wide).cores = s.cores ∧ (s.coreCount n off k wide).engines = s.engines := by
  have h := State.coreCount_follows (lor_self _) (State.Follows.refl _ s) (n := n) (off := off) (k := k) (wide := wide)
  exact ⟨h.at State.cores 21 State.reset.cores (fun _ => rfl) rfl, h.at State.engines 23 State.reset.engines (fun _ => rfl) rfl⟩

theorem State.parityLogged_cores (s : State) (n path k : Nat) :
    (s.parityLogged n path k).cores = s.cores ∧ (s.parityLogged n path k).engines = s.engines := by
  have h := State.parityLogged_follows (lor_self _) (State.Follows.refl _ s) (n := n) (path := path) (k := k)
  exact ⟨h.at State.cores 21 State.reset.cores (fun _ => rfl) rfl, h.at State.engines 23 State.reset.engines (fun _ => rfl) rfl⟩

/-- The cores and engine threads after an issue: the thread has taken its slot, and its core names it as the last. -/
theorem State.take_cores (s : State) (u : Exec) :
    (s.take u).cores = (match u with
      | .core n t => ((s.updCtx u Thread.taken).updCore n (fun c => { c with lastIssue := t })).cores
      | .engine _ _ => s.cores) ∧
    (s.take u).engines = (s.updCtx u Thread.taken).engines := by
  cases u with
  | core n t =>
    unfold State.take
    dsimp only
    refine ⟨?_, ?_⟩
    · rw [(State.coreCount_cores _ _ _ _ _).1]
      simp only [State.updCore]
      rw [(State.parityLogged_cores _ _ _ _).1]
      rfl
    · rw [(State.coreCount_cores _ _ _ _ _).2]
      simp only [State.updCore]
      rw [(State.parityLogged_cores _ _ _ _).2]
      rfl
  | engine p t => exact ⟨rfl, rfl⟩

/-- The thread that issues. -/
@[simp] theorem State.ctx_take (s : State) (u : Exec) : (s.take u).ctx u = (s.ctx u).taken := by
  have h := s.take_cores u
  cases u with
  | core n t =>
    simp only [State.ctx, h.1]
    simp [State.updCtx, State.updCore, Thread.taken]
  | engine p t =>
    simp only [State.ctx, h.2]
    simp [State.updCtx, Thread.taken]

/-- The threads that do not issue. -/
theorem State.ctx_take_apart (s : State) {u v : Exec} (h : threadsApart v u) : (s.take u).ctx v = s.ctx v := by
  have k := s.take_cores u
  rw [show s.ctx v = (s.updCtx u Thread.taken).ctx v from (State.ctx_updCtx_apart s _ h).symm]
  cases u with
  | core n t =>
    cases v with
    | core n' t' =>
      simp only [State.ctx, k.1]
      simp only [State.updCore]
      rw [Map.get_upd]
      split
      · rename_i e; subst e; simp
      · rfl
    | engine p t' => simp only [State.ctx, k.2]
  | engine p t =>
    cases v with
    | core n' t' => simp only [State.ctx, k.1]; rfl
    | engine p' t' => simp only [State.ctx, k.2]

/-- Issue alone writes no operand memory. -/
@[simp] theorem State.opMem_take (s : State) (u v : Exec) : (s.take u).opMem v = s.opMem v := by
  have k := s.take_cores u
  rw [show s.opMem v = (s.updCtx u Thread.taken).opMem v from (State.opMem_updCtx s u v _).symm]
  cases u with
  | core n t =>
    cases v with
    | core n' t' =>
      simp only [State.opMem, k.1]
      simp only [State.updCore]
      rw [Map.get_upd]
      split
      · rename_i e; subst e; simp
      · rfl
    | engine p t' => simp only [State.opMem, k.2]
  | engine p t =>
    cases v with
    | core n' t' => simp only [State.opMem, k.1]; rfl
    | engine p' t' => simp only [State.opMem, k.2]

/-! ### Effects on the issuing thread -/

@[simp] theorem State.ctx_setS (s : State) (u : Exec) (r : Nat) (v : W64) :
    (s.setS u r v).ctx u = { s.ctx u with s := (s.ctx u).s.put r v } := by unfold State.setS; rw [State.ctx_updCtx]

@[simp] theorem State.ctx_setPc (s : State) (u : Exec) (pc : Nat) :
    (s.setPc u pc).ctx u = { s.ctx u with pc := pc % 8192 } := by unfold State.setPc; rw [State.ctx_updCtx]

theorem State.ctx_setS_apart (s : State) {u v : Exec} (r : Nat) (x : W64) (h : threadsApart v u) :
    (s.setS u r x).ctx v = s.ctx v := State.ctx_updCtx_apart s _ h

theorem State.ctx_setPc_apart (s : State) {u v : Exec} (pc : Nat) (h : threadsApart v u) :
    (s.setPc u pc).ctx v = s.ctx v := State.ctx_updCtx_apart s _ h

theorem State.ctx_setP_apart (s : State) {u v : Exec} (p : Nat) (x : Bool) (h : threadsApart v u) :
    (s.setP u p x).ctx v = s.ctx v := by
  unfold State.setP
  split
  · rfl
  · exact State.ctx_updCtx_apart s _ h

@[simp] theorem State.opMem_setS (s : State) (u v : Exec) (r : Nat) (x : W64) : (s.setS u r x).opMem v = s.opMem v :=
  State.opMem_updCtx _ _ _ _

@[simp] theorem State.opMem_setPc (s : State) (u v : Exec) (pc : Nat) : (s.setPc u pc).opMem v = s.opMem v :=
  State.opMem_updCtx _ _ _ _

@[simp] theorem State.opMem_setP (s : State) (u v : Exec) (p : Nat) (x : Bool) : (s.setP u p x).opMem v = s.opMem v := by
  unfold State.setP
  split
  · rfl
  · exact State.opMem_updCtx _ _ _ _

@[simp] theorem State.ctx_setOpMem (s : State) (u v : Exec) (m : Memory) : (s.setOpMem u m).ctx v = s.ctx v := by
  cases u <;> cases v
  · rename_i n t n' t'
    by_cases e : n' = n
    · subst e; simp [State.setOpMem, State.updCore, State.ctx]
    · simp [State.setOpMem, State.updCore, State.ctx, Map.get_upd_ne _ _ e]
  · rfl
  · rfl
  · rename_i p t p' t'
    by_cases e : engKey p' t' = engKey p t
    · simp [State.setOpMem, State.ctx, e]
    · simp [State.setOpMem, State.ctx, Map.get_upd_ne _ _ e]

@[simp] theorem State.opMem_setOpMem (s : State) (u : Exec) (m : Memory) : (s.setOpMem u m).opMem u = m := by
  cases u <;> simp [State.setOpMem, State.updCore, State.opMem]

/-- Entering an instruction in a core's list changes no register and no memory. -/
@[simp] theorem State.ctx_enter (s : State) (n t : Nat) (k : FlightKind) (r w : List Range) (e : Option Nat) (v : Exec) :
    (s.enter n t k r w e).ctx v = s.ctx v := by
  cases v with
  | core n' t' =>
    by_cases h : n' = n
    · subst h; simp [State.enter, State.updCore, State.ctx]
    · simp [State.enter, State.updCore, State.ctx, Map.get_upd_ne _ _ h]
  | engine p t' => rfl

@[simp] theorem State.opMem_enter (s : State) (n t : Nat) (k : FlightKind) (r w : List Range) (e : Option Nat) (v : Exec) :
    (s.enter n t k r w e).opMem v = s.opMem v := by
  cases v with
  | core n' t' =>
    by_cases h : n' = n
    · subst h; simp [State.enter, State.updCore, State.opMem]
    · simp [State.enter, State.updCore, State.opMem, Map.get_upd_ne _ _ h]
  | engine p t' => rfl

theorem State.vCounts_cores (s : State) (u : Exec) (rs : List VElem) :
    (s.vCounts u rs).cores = s.cores ∧ (s.vCounts u rs).engines = s.engines := by
  have h := State.vCounts_follows (lor_self _) (State.Follows.refl _ s) (u := u) (rs := rs)
  exact ⟨h.at State.cores 21 State.reset.cores (fun _ => rfl) rfl, h.at State.engines 23 State.reset.engines (fun _ => rfl) rfl⟩

/-! ### Event counters and the in-flight list -/

/-- What every step of a fold keeps, the fold keeps. -/
theorem foldl_keeps {α β : Type} (P : β → Prop) (f : β → α → β) (h : ∀ b a, P b → P (f b a)) (l : List α) (b : β) (hb : P b) :
    P (l.foldl f b) := by
  induction l generalizing b with
  | nil => exact hb
  | cons a l ih => exact ih _ (h b a hb)

/-- Everything a core holds but its threads. -/
def Core.bare (c : Core) : Core := { c with threads := {} }

@[simp] theorem State.bare_updCtx (s : State) (u : Exec) (f : Thread → Thread) (n : Nat) :
    ((s.updCtx u f).cores.get n).bare = (s.cores.get n).bare := by
  cases u with
  | core m t =>
    by_cases h : n = m
    · subst h; simp [State.updCtx, State.updCore, Core.bare]
    · simp [State.updCtx, State.updCore, Map.get_upd_ne _ _ h]
  | engine p t => rfl

@[simp] theorem State.bare_setP (s : State) (u : Exec) (p : Nat) (v : Bool) (n : Nat) :
    ((s.setP u p v).cores.get n).bare = (s.cores.get n).bare := by
  unfold State.setP
  split
  · rfl
  · exact State.bare_updCtx _ _ _ _

/-- Waking threads changes nothing else of a core. -/
@[simp] theorem State.bare_wake (s : State) (m n : Nat) : ((s.wake m).cores.get n).bare = (s.cores.get n).bare := by
  unfold State.wake
  refine foldl_keeps (fun b : State => (b.cores.get n).bare = (s.cores.get n).bare) _ ?_ _ _ rfl
  intro b a hb
  dsimp only
  split
  · rw [State.bare_setP, State.bare_updCtx]; exact hb
  · exact hb

theorem Core.evc_of_bare {c d : Core} (h : c.bare = d.bare) : c.evc = d.evc := by
  have := congrArg Core.evc h; exact this
theorem Core.flights_of_bare {c d : Core} (h : c.bare = d.bare) : c.flights = d.flights := by
  have := congrArg Core.flights h; exact this

@[simp] theorem State.evc_wake (s : State) (m n : Nat) : ((s.wake m).cores.get n).evc = (s.cores.get n).evc :=
  Core.evc_of_bare (State.bare_wake s m n)

@[simp] theorem State.flights_wake (s : State) (m n : Nat) : ((s.wake m).cores.get n).flights = (s.cores.get n).flights :=
  Core.flights_of_bare (State.bare_wake s m n)

@[simp] theorem State.regions_wake (s : State) (m n : Nat) : ((s.wake m).cores.get n).regions = (s.cores.get n).regions := by
  have := congrArg Core.regions (State.bare_wake s m n); exact this

@[simp] theorem State.ledMov_wake (s : State) (m n : Nat) : ((s.wake m).cores.get n).ledMov = (s.cores.get n).ledMov := by
  have := congrArg Core.ledMov (State.bare_wake s m n); exact this

/-- A counter after an addition (R215). -/
@[simp] theorem State.evc_addEvc (s : State) (n e k : Nat) :
    ((s.addEvc n e k).cores.get n).evc.get e = (s.cores.get n).evc.get e + BitVec.ofNat 32 k := by
  unfold State.addEvc
  rw [State.evc_wake]
  simp [State.updCore]

/-- A core's counters and in-flight list are not its threads' issue. -/
theorem State.bare_take (s : State) (u : Exec) (n : Nat) :
    ((s.take u).cores.get n).evc = (s.cores.get n).evc ∧ ((s.take u).cores.get n).flights = (s.cores.get n).flights := by
  have k := (s.take_cores u).1
  rw [k]
  cases u with
  | core m t =>
    dsimp only
    by_cases h : n = m
    · subst h; simp [State.updCtx, State.updCore]
    · simp [State.updCtx, State.updCore, Map.get_upd_ne _ _ h]
  | engine p t => exact ⟨rfl, rfl⟩

@[simp] theorem State.evc_take (s : State) (u : Exec) (n : Nat) : ((s.take u).cores.get n).evc = (s.cores.get n).evc :=
  (s.bare_take u n).1

@[simp] theorem State.flights_take (s : State) (u : Exec) (n : Nat) :
    ((s.take u).cores.get n).flights = (s.cores.get n).flights := (s.bare_take u n).2

/-- An instruction that retires is no longer in flight (R211). -/
theorem State.flights_retireWake (s : State) (n id : Nat) :
    ((s.retireWake n id).cores.get n).flights = (s.cores.get n).flights.filter (·.id != id) := by
  unfold State.retireWake
  split
  · rename_i h
    symm
    rw [List.filter_eq_self]
    intro f hf
    have := List.find?_eq_none.mp h f hf
    simpa using this
  · rename_i f h
    rw [State.flights_wake]
    simp only [State.updCore, Map.get_upd_self]
    rw [(State.parityLogged_cores _ _ _ _).1]
    unfold State.retire
    simp [State.updCore, h]

@[simp] theorem State.engines_updCtx_core (s : State) (n t : Nat) (f : Thread → Thread) :
    (s.updCtx (.core n t) f).engines = s.engines := rfl

@[simp] theorem State.engines_setP_core (s : State) (n t p : Nat) (v : Bool) : (s.setP (.core n t) p v).engines = s.engines := by
  unfold State.setP
  split <;> rfl

/-- Waking a core's threads is nothing to the stack engines. -/
@[simp] theorem State.engines_wake (s : State) (n : Nat) : (s.wake n).engines = s.engines := by
  unfold State.wake
  refine foldl_keeps (fun b : State => b.engines = s.engines) _ ?_ _ _ rfl
  intro b a hb
  dsimp only
  split
  · rw [State.engines_setP_core, State.engines_updCtx_core]; exact hb
  · exact hb

@[simp] theorem State.engines_retireWake (s : State) (n id : Nat) : (s.retireWake n id).engines = s.engines := by
  unfold State.retireWake
  split
  · rfl
  · rw [State.engines_wake]
    simp only [State.updCore]
    rw [(State.parityLogged_cores _ _ _ _).2]
    unfold State.retire
    split <;> rfl

/-- A request whose pair has a route in one piece enters the fabric (R296, R298). -/
theorem State.inject_enters (s : State) (b : MsgBody) (src dst : Nat)
    (h : (s.routeBad 0 (nodeRouter src) (nodeRouter dst) && s.routeBad 1 (nodeRouter src) (nodeRouter dst)) = false) :
    ∃ net, s.inject b src dst = ({ s with
      msgs := s.msgs ++ [({ id := s.nextMsg, body := b, src := src, dst := dst, net := net } : FabMsg)]
      nextMsg := s.nextMsg + 1 }, true) := by
  unfold State.inject
  rw [if_neg (by rw [h]; decide)]
  exact ⟨_, rfl⟩

@[simp] theorem State.inject_cores (s : State) (b : MsgBody) (src dst : Nat) : (s.inject b src dst).1.cores = s.cores := by
  have h := State.inject_follows (lor_self _) (State.Follows.refl _ s) (body := b) (src := src) (dst := dst)
  exact h.at State.cores 21 State.reset.cores (fun _ => rfl) rfl

end Sys2Proof.Machine
end

