-- ==== Sys2Proof/WellFormed.lean ====
section
/-!
DEFINITION. Which commands are well formed: every operand that numbers a unit, a slot or a register lies in the range the
spec gives it. A command outside these ranges cannot be sent; the meanings do not rely on it.
-/
namespace Sys2Proof

/-- A thread of a logical core (R201), or of a pedestal's stack engines (R253). -/
def Exec.wf : Exec → Bool
  | .core n t => decide (n < 160) && decide (t < 32)
  | .engine p t => decide (p < 8) && decide (t < 128)

/-- The operands of a command are in range. -/
def Instr.wf : Instr → Bool
  | .registerWrite _ bar₁ off₁ size₁ value₁ => (bar₁ == 0 || bar₁ == 2) && decide (off₁ < 268435456) && decide (1 ≤ size₁ ∧ size₁ ≤ 8) && decide (value₁ < 4294967296)
  | .lowRegisterRead _ off₁ size₁ => decide (off₁ < 268435456) && decide (1 ≤ size₁ ∧ size₁ ≤ 8)
  | .misalignedRead _ bar₁ off₁ size₁ => (bar₁ == 0 || bar₁ == 2) && decide (off₁ < 268435456) && decide (1 ≤ size₁ ∧ size₁ ≤ 8)
  | .inputValid => true
  | .railsInRegulation _ _ => true
  | .friezePllLock _ => true
  | .corePllLock => true
  | .calPoolReadComplete die₁ _ => decide (die₁ < 2)
  | .dawnComplete _ => true
  | .inputOutOfRange _ _ => true
  | .inputTrip value₁ _ => decide (value₁ < 4294967296)
  | .tripRestart _ => true
  | .vinBelow20V => true
  | .powerPhaseLost _ _ _ => true
  | .governorTick _ _ _ _ _ _ => true
  | .shutdown _ => true
  | .shutdownRailsOff => true
  | .powerStateEntry domain₁ _ _ _ => decide (domain₁ < 19)
  | .wakeStart domain₁ _ => decide (domain₁ < 19)
  | .wakeComplete domain₁ _ _ => decide (domain₁ < 19)
  | .crystalLock => true
  | .crystalTimeout => true
  | .crystalStopped => true
  | .referenceLost => true
  | .referenceReturn => true
  | .deviceReset _ => true
  | .perstAssertion port₁ => decide (port₁ < 2)
  | .hotReset port₁ => decide (port₁ < 2)
  | .functionLevelReset port₁ => decide (port₁ < 2)
  | .d3hotToD0 port₁ => decide (port₁ < 2)
  | .perstDeassertion port₁ => decide (port₁ < 2)
  | .portLinkUp port₁ _ _ _ _ _ => decide (port₁ < 2)
  | .portLinkDown port₁ _ => decide (port₁ < 2)
  | .completionTimeout _ => true
  | .armLoad _ => true
  | .armSeal _ => true
  | .armDiscard _ => true
  | .imageFetchComplete _ => true
  | .imageFetchError => true
  | .imageFetchTimeout => true
  | .validationComplete => true
  | .sealApplyComplete => true
  | .strikeLatch core₁ pos₁ => decide (core₁ < 160) && decide (pos₁ < 13)
  | .strikeBoundary core₁ pos₁ _ _ => decide (core₁ < 160) && decide (pos₁ < 13)
  | .laneCorrectionReady core₁ pos₁ => decide (core₁ < 160) && decide (pos₁ < 13)
  | .fallbackComplete core₁ pos₁ => decide (core₁ < 160) && decide (pos₁ < 13)
  | .groupResultWrite core₁ => decide (core₁ < 160)
  | .tileBoundary core₁ pos₁ => decide (core₁ < 160) && decide (pos₁ < 13)
  | .planeLoadStart core₁ pos₁ => decide (core₁ < 160) && decide (pos₁ < 13)
  | .planeRowWritten core₁ pos₁ _ => decide (core₁ < 160) && decide (pos₁ < 13)
  | .planeLoadComplete core₁ pos₁ => decide (core₁ < 160) && decide (pos₁ < 13)
  | .arrayTestRead core₁ pos₁ value₁ => decide (core₁ < 160) && decide (pos₁ < 13) && decide (value₁ < 4294967296)
  | .arrayTestReadDone core₁ pos₁ => decide (core₁ < 160) && decide (pos₁ < 13)
  | .tileCheckComplete core₁ pos₁ => decide (core₁ < 160) && decide (pos₁ < 13)
  | .groupCompare core₁ => decide (core₁ < 160)
  | .arbitrationComplete primary₁ _ _ => decide (primary₁ < 160)
  | .layerPassComplete inst₁ layer₁ => decide (inst₁ < 16) && decide (layer₁ < 1024)
  | .resetFallback inst₁ _ => decide (inst₁ < 16)
  | .calTurnDue core₁ => decide (core₁ < 160)
  | .spareArrayReady core₁ _ _ => decide (core₁ < 160)
  | .calComparisonComplete core₁ _ _ => decide (core₁ < 160)
  | .calFitComplete core₁ => decide (core₁ < 160)
  | .calTurnLimit core₁ => decide (core₁ < 160)
  | .calPrioritise core₁ pos₁ _ => decide (core₁ < 160) && decide (pos₁ < 256)
  | .calSave core₁ _ => decide (core₁ < 160)
  | .hourlySave => true
  | .calRecordWriteComplete die₁ _ => decide (die₁ < 2)
  | .saveHoldExpiry die₁ core₁ pos₁ => decide (die₁ < 2) && decide (core₁ < 160) && decide (pos₁ < 13)
  | .waitTimeout core₁ thread₁ => decide (core₁ < 160) && decide (thread₁ < 32)
  | .threadWatchdog core₁ thread₁ => decide (core₁ < 160) && decide (thread₁ < 32)
  | .parityFailure core₁ _ _ pos₁ => decide (core₁ < 160) && decide (pos₁ < 13)
  | .instructionRetirement core₁ _ => decide (core₁ < 160)
  | .completionFault core₁ _ _ => decide (core₁ < 160)
  | .layerBoundary core₁ => decide (core₁ < 160)
  | .nop u₁ w₁ => u₁.wf && decide (w₁ < 18014398509481984)
  | .halt u₁ w₁ => u₁.wf && decide (w₁ < 18014398509481984)
  | .fence u₁ w₁ => u₁.wf && decide (w₁ < 18014398509481984)
  | .layer u₁ w₁ => u₁.wf && decide (w₁ < 18014398509481984)
  | .wait u₁ w₁ => u₁.wf && decide (w₁ < 18014398509481984)
  | .signal u₁ w₁ => u₁.wf && decide (w₁ < 18014398509481984)
  | .sread u₁ w₁ => u₁.wf && decide (w₁ < 18014398509481984)
  | .br u₁ w₁ => u₁.wf && decide (w₁ < 18014398509481984)
  | .call u₁ w₁ => u₁.wf && decide (w₁ < 18014398509481984)
  | .jr u₁ w₁ => u₁.wf && decide (w₁ < 18014398509481984)
  | .loop u₁ w₁ => u₁.wf && decide (w₁ < 18014398509481984)
  | .add u₁ w₁ => u₁.wf && decide (w₁ < 18014398509481984)
  | .sub u₁ w₁ => u₁.wf && decide (w₁ < 18014398509481984)
  | .mul u₁ w₁ => u₁.wf && decide (w₁ < 18014398509481984)
  | .and u₁ w₁ => u₁.wf && decide (w₁ < 18014398509481984)
  | .or u₁ w₁ => u₁.wf && decide (w₁ < 18014398509481984)
  | .xor u₁ w₁ => u₁.wf && decide (w₁ < 18014398509481984)
  | .shl u₁ w₁ => u₁.wf && decide (w₁ < 18014398509481984)
  | .shr u₁ w₁ => u₁.wf && decide (w₁ < 18014398509481984)
  | .sar u₁ w₁ => u₁.wf && decide (w₁ < 18014398509481984)
  | .min u₁ w₁ => u₁.wf && decide (w₁ < 18014398509481984)
  | .max u₁ w₁ => u₁.wf && decide (w₁ < 18014398509481984)
  | .movi u₁ w₁ => u₁.wf && decide (w₁ < 18014398509481984)
  | .movhi u₁ w₁ => u₁.wf && decide (w₁ < 18014398509481984)
  | .cmpeq u₁ w₁ => u₁.wf && decide (w₁ < 18014398509481984)
  | .cmpne u₁ w₁ => u₁.wf && decide (w₁ < 18014398509481984)
  | .cmplt u₁ w₁ => u₁.wf && decide (w₁ < 18014398509481984)
  | .cmple u₁ w₁ => u₁.wf && decide (w₁ < 18014398509481984)
  | .cmpltu u₁ w₁ => u₁.wf && decide (w₁ < 18014398509481984)
  | .pand u₁ w₁ => u₁.wf && decide (w₁ < 18014398509481984)
  | .por u₁ w₁ => u₁.wf && decide (w₁ < 18014398509481984)
  | .pnot u₁ w₁ => u₁.wf && decide (w₁ < 18014398509481984)
  | .vadd u₁ w₁ => u₁.wf && decide (w₁ < 18014398509481984)
  | .vsub u₁ w₁ => u₁.wf && decide (w₁ < 18014398509481984)
  | .vmul u₁ w₁ => u₁.wf && decide (w₁ < 18014398509481984)
  | .vfma u₁ w₁ => u₁.wf && decide (w₁ < 18014398509481984)
  | .vmax u₁ w₁ => u₁.wf && decide (w₁ < 18014398509481984)
  | .vmin u₁ w₁ => u₁.wf && decide (w₁ < 18014398509481984)
  | .vcvt u₁ w₁ => u₁.wf && decide (w₁ < 18014398509481984)
  | .vdiv u₁ w₁ => u₁.wf && decide (w₁ < 18014398509481984)
  | .vrcp u₁ w₁ => u₁.wf && decide (w₁ < 18014398509481984)
  | .vsqrt u₁ w₁ => u₁.wf && decide (w₁ < 18014398509481984)
  | .vrsqrt u₁ w₁ => u₁.wf && decide (w₁ < 18014398509481984)
  | .vexp u₁ w₁ => u₁.wf && decide (w₁ < 18014398509481984)
  | .vexp2 u₁ w₁ => u₁.wf && decide (w₁ < 18014398509481984)
  | .vlog u₁ w₁ => u₁.wf && decide (w₁ < 18014398509481984)
  | .vtanh u₁ w₁ => u₁.wf && decide (w₁ < 18014398509481984)
  | .vsig u₁ w₁ => u₁.wf && decide (w₁ < 18014398509481984)
  | .vsilu u₁ w₁ => u₁.wf && decide (w₁ < 18014398509481984)
  | .vgelu u₁ w₁ => u₁.wf && decide (w₁ < 18014398509481984)
  | .vrope u₁ w₁ => u₁.wf && decide (w₁ < 18014398509481984)
  | .vsum u₁ w₁ => u₁.wf && decide (w₁ < 18014398509481984)
  | .vrmax u₁ w₁ => u₁.wf && decide (w₁ < 18014398509481984)
  | .vdot u₁ w₁ => u₁.wf && decide (w₁ < 18014398509481984)
  | .viadd u₁ w₁ => u₁.wf && decide (w₁ < 18014398509481984)
  | .visub u₁ w₁ => u₁.wf && decide (w₁ < 18014398509481984)
  | .vimul u₁ w₁ => u₁.wf && decide (w₁ < 18014398509481984)
  | .viand u₁ w₁ => u₁.wf && decide (w₁ < 18014398509481984)
  | .vior u₁ w₁ => u₁.wf && decide (w₁ < 18014398509481984)
  | .vixor u₁ w₁ => u₁.wf && decide (w₁ < 18014398509481984)
  | .vishl u₁ w₁ => u₁.wf && decide (w₁ < 18014398509481984)
  | .visar u₁ w₁ => u₁.wf && decide (w₁ < 18014398509481984)
  | .strike u₁ w₁ => u₁.wf && decide (w₁ < 18014398509481984)
  | .gset u₁ w₁ => u₁.wf && decide (w₁ < 18014398509481984)
  | .pload u₁ w₁ => u₁.wf && decide (w₁ < 18014398509481984)
  | .pswap u₁ w₁ => u₁.wf && decide (w₁ < 18014398509481984)
  | .chisel u₁ w₁ => u₁.wf && decide (w₁ < 18014398509481984)
  | .move u₁ w₁ => u₁.wf && decide (w₁ < 18014398509481984)
  | .push u₁ w₁ => u₁.wf && decide (w₁ < 18014398509481984)
  | .pop u₁ w₁ => u₁.wf && decide (w₁ < 18014398509481984)
  | .drop u₁ w₁ => u₁.wf && decide (w₁ < 18014398509481984)
  | .sedispatch u₁ w₁ => u₁.wf && decide (w₁ < 18014398509481984)
  | .shand u₁ w₁ => u₁.wf && decide (w₁ < 18014398509481984)
  | .engineThreadStart ped₁ => decide (ped₁ < 8)
  | .pgatherK u₁ w₁ => u₁.wf && decide (w₁ < 18014398509481984)
  | .pgatherV u₁ w₁ => u₁.wf && decide (w₁ < 18014398509481984)
  | .sinit u₁ w₁ => u₁.wf && decide (w₁ < 18014398509481984)
  | .sstep u₁ w₁ => u₁.wf && decide (w₁ < 18014398509481984)
  | .sacc u₁ w₁ => u₁.wf && decide (w₁ < 18014398509481984)
  | .snorm u₁ w₁ => u₁.wf && decide (w₁ < 18014398509481984)
  | .scomb u₁ w₁ => u₁.wf && decide (w₁ < 18014398509481984)
  | .seret u₁ w₁ => u₁.wf && decide (w₁ < 18014398509481984)
  | .scrubPassStart _ n₁ mem₁ => decide (n₁ < 160) && decide (mem₁ < 4)
  | .scrubRead _ n₁ mem₁ _ _ => decide (n₁ < 160) && decide (mem₁ < 4)
  | .scratchpadRestart core₁ _ _ => decide (core₁ < 160)
  | .restoreComplete core₁ => decide (core₁ < 160)
  | .unify core₁ _ => decide (core₁ < 160)
  | .resume core₁ _ => decide (core₁ < 160)
  | .unifiedEntry core₁ => decide (core₁ < 160)
  | .spmAccAddrWrite core₁ _ value₁ => decide (core₁ < 160) && decide (value₁ < 4294967296)
  | .spmAccDataHiWrite core₁ _ value₁ => decide (core₁ < 160) && decide (value₁ < 4294967296)
  | .transitBlockGrant cluster₁ => decide (cluster₁ < 16)
  | .write _ => true
  | .read _ _ => true
  | .fabricSignal _ => true
  | .dispatch _ => true
  | .register _ _ off₁ value₁ => decide (off₁ < 268435456) && decide (value₁ < 4294967296)
  | .data _ => true
  | .ack _ => true
  | .nack _ => true
  | .fabricFlit router₁ net₁ port₁ num₁ _ kind₁ _ _ => decide (router₁ < 16) && decide (net₁ < 2) && decide (port₁ < 32) && decide (num₁ < 4096) && decide (kind₁ < 8)
  | .linkAckTimeout router₁ net₁ port₁ _ => decide (router₁ < 16) && decide (net₁ < 2) && decide (port₁ < 32)
  | .linkLivenessTimeout router₁ net₁ port₁ => decide (router₁ < 16) && decide (net₁ < 2) && decide (port₁ < 32)
  | .idleFlitTimer router₁ net₁ port₁ => decide (router₁ < 16) && decide (net₁ < 2) && decide (port₁ < 32)
  | .urgencyPromotion _ => true
  | .requestTimeout _ => true
  | .dramAccessComplete ped₁ _ _ _ _ _ => decide (ped₁ < 8)
  | .dramTimeout ped₁ die₁ => decide (ped₁ < 8) && decide (die₁ < 12)
  | .refreshDue ped₁ _ => decide (ped₁ < 8)
  | .patrolPassStart ped₁ => decide (ped₁ < 8)
  | .ftrBaseWrite _ inst₁ value₁ => decide (inst₁ < 16) && decide (value₁ < 18446744073709551616)
  | .ftrCtlWrite _ inst₁ value₁ => decide (inst₁ < 16) && decide (value₁ < 4294967296)
  | .spillComplete inst₁ slot₁ => decide (inst₁ < 16) && decide (slot₁ < 4096)
  | .spillRestoreComplete inst₁ slot₁ _ => decide (inst₁ < 16) && decide (slot₁ < 4096)
  | .farTierLegError inst₁ slot₁ _ => decide (inst₁ < 16) && decide (slot₁ < 4096)
  | .farTierLinkWaitTimeout inst₁ slot₁ _ => decide (inst₁ < 16) && decide (slot₁ < 4096)
  | .kvFlushComplete inst₁ slot₁ _ => decide (inst₁ < 16) && decide (slot₁ < 4096)
  | .walkerLineFetch ped₁ => decide (ped₁ < 8)
  | .pageBufferPrefetch ped₁ thread₁ _ => decide (ped₁ < 8) && decide (thread₁ < 128)
  | .pfxLoad slot₁ _ inst₁ => decide (slot₁ < 8) && decide (inst₁ < 16)
  | .pfxUnload slot₁ _ => decide (slot₁ < 8)
  | .prefixLoadComplete slot₁ _ => decide (slot₁ < 8)
  | .prefixFetchError slot₁ => decide (slot₁ < 8)
  | .prefixFetchTimeout slot₁ => decide (slot₁ < 8)
  | .bind slot₁ _ => decide (slot₁ < 8)
  | .unbind slot₁ _ => decide (slot₁ < 8)
  | .load slot₁ inst₁ _ => decide (slot₁ < 8) && decide (inst₁ < 16)
  | .unload slot₁ inst₁ _ => decide (slot₁ < 8) && decide (inst₁ < 16)
  | .switch slot₁ inst₁ _ _ => decide (slot₁ < 8) && decide (inst₁ < 16)
  | .reload slot₁ inst₁ _ => decide (slot₁ < 8) && decide (inst₁ < 16)
  | .bindFetchComplete slot₁ _ _ _ => decide (slot₁ < 8)
  | .bindFetchTimeout slot₁ => decide (slot₁ < 8)
  | .loadQueueHead => true
  | .tileRecordFetched _ _ _ => true
  | .setLoadComplete => true
  | .loadTimeout slot₁ inst₁ => decide (slot₁ < 8) && decide (inst₁ < 16)
  | .sqTailWrite ring₁ _ value₁ => decide (ring₁ < 4) && decide (value₁ < 4294967296)
  | .sqCfgWrite ring₁ _ value₁ => decide (ring₁ < 4) && decide (value₁ < 4294967296)
  | .rqHeadWrite ring₁ _ value₁ => decide (ring₁ < 4) && decide (value₁ < 4294967296)
  | .rqCfgWrite ring₁ _ value₁ => decide (ring₁ < 4) && decide (value₁ < 4294967296)
  | .cmdTailWrite _ value₁ => decide (value₁ < 4294967296)
  | .evrHeadWrite _ value₁ => decide (value₁ < 4294967296)
  | .requestDescriptor ring₁ _ _ => decide (ring₁ < 4)
  | .listFetchComplete ring₁ _ _ => decide (ring₁ < 4)
  | .requestAccepted ring₁ => decide (ring₁ < 4)
  | .stepBoundary inst₁ => decide (inst₁ < 16)
  | .stepStart inst₁ _ => decide (inst₁ < 16)
  | .promptChunkFetch inst₁ slot₁ _ _ => decide (inst₁ < 16) && decide (slot₁ < 4096)
  | .recordBatchWrite ring₁ => decide (ring₁ < 4)
  | .recordReadbackComplete ring₁ => decide (ring₁ < 4)
  | .stepLimitExpiry inst₁ => decide (inst₁ < 16)
  | .evict _ inst₁ slot₁ => decide (inst₁ < 16) && decide (slot₁ < 4096)
  | .evictAll _ inst₁ => decide (inst₁ < 16)
  | .hold _ inst₁ => decide (inst₁ < 16)
  | .release _ inst₁ => decide (inst₁ < 16)
  | .handoffSlice core₁ _ => decide (core₁ < 160)
  | .sampleRowComplete inst₁ _ => decide (inst₁ < 16)
  | .grammarFetchComplete slot₁ _ _ _ inst₁ seq₁ => decide (slot₁ < 64) && decide (inst₁ < 16) && decide (seq₁ < 4096)
  | .grammarReadTimeout slot₁ inst₁ seq₁ => decide (slot₁ < 64) && decide (inst₁ < 16) && decide (seq₁ < 4096)
  | .grmLoad slot₁ _ => decide (slot₁ < 64)
  | .grmUnload slot₁ _ => decide (slot₁ < 64)
  | .grammarLoadComplete slot₁ _ _ => decide (slot₁ < 64)
  | .grammarLoadTimeout slot₁ => decide (slot₁ < 64)
  | .bar4Read port₁ _ size₁ => decide (port₁ < 2) && decide (1 ≤ size₁ ∧ size₁ ≤ 512)
  | .bar4Write port₁ _ _ => decide (port₁ < 2)
  | .commandEntry entry₁ => entry₁.length == 64
  | .commandRingNop _ _ => true
  | .wakeHint _ => true
  | .farTier inst₁ port₁ _ _ => decide (inst₁ < 16) && decide (port₁ < 4)
  | .irqHoldExpiry source₁ => decide (source₁ < 16)
  | .msixPendingSend port₁ vector₁ => decide (port₁ < 2) && decide (vector₁ < 64)
  | .eventRingCopy => true
  | .setEndpointId _ => true
  | .getEndpointId => true
  | .getMctpVersionSupport => true
  | .getMessageTypeSupport => true
  | .unsupportedMessageType _ => true
  | .read32 _ _ _ => true
  | .write32 _ _ _ value₁ => decide (value₁ < 4294967296)
  | .readBlock _ _ _ _ => true
  | .alertResponse => true
  | .icpenFlit n₁ _ _ _ _ _ _ _ _ => decide (n₁ < 12)
  | .icpenAckTimeout n₁ => decide (n₁ < 12)
  | .linkSilenceTimeout n₁ => decide (n₁ < 12)
  | .laneDrop n₁ lane₁ _ => decide (n₁ < 12) && decide (lane₁ < 4)
  | .lanedrop n₁ lane₁ => decide (n₁ < 12) && decide (lane₁ < 4)
  | .discoveryBurst n₁ => decide (n₁ < 12)
  | .trainingPatternDetected n₁ => decide (n₁ < 12)
  | .trainingTimeout n₁ => decide (n₁ < 12)
  | .trainingComplete n₁ _ _ => decide (n₁ < 12)
  | .hello n₁ _ => decide (n₁ < 12)
  | .helloTimer n₁ => decide (n₁ < 12)
  | .helloTimeout n₁ => decide (n₁ < 12)
  | .authShare n₁ _ => decide (n₁ < 12)
  | .authCert n₁ _ => decide (n₁ < 12)
  | .authSig n₁ _ => decide (n₁ < 12)
  | .authResult n₁ _ => decide (n₁ < 12)
  | .authTimeout n₁ => decide (n₁ < 12)
  | .authHoldExpiry n₁ => decide (n₁ < 12)
  | .linkRekey n₁ => decide (n₁ < 12)
  | .adopt n₁ _ => decide (n₁ < 12)
  | .reject n₁ _ => decide (n₁ < 12)
  | .retrain n₁ _ => decide (n₁ < 12)
  | .icpenDataMessage n₁ stream₁ _ _ _ _ => decide (n₁ < 12) && decide (stream₁ < 65536)
  | .plan n₁ inst₁ _ _ _ _ => decide (n₁ < 12) && decide (inst₁ < 16)
  | .step n₁ _ _ => decide (n₁ < 12)
  | .result n₁ _ => decide (n₁ < 12)
  | .short n₁ _ => decide (n₁ < 12)
  | .digest port₁ _ inst₁ _ _ _ _ _ _ _ _ _ _ => decide (port₁ < 12) && decide (inst₁ < 16)
  | .digestEvaluationTimeout inst₁ => decide (inst₁ < 16)
  | .frontPlaneReady core₁ _ => decide (core₁ < 160)
  | .reserveCoreTakeover core₁ => decide (core₁ < 160)
  | .fatalCountWrite _ value₁ => decide (value₁ < 4294967296)
  | .fieldTestStart _ parts₁ target₁ spacing₁ => decide (parts₁ < 256) && decide (target₁ < 256) && decide (spacing₁ < 256)
  | .fieldTestAbort _ target₁ => decide (target₁ < 256)
  | .fieldTestSliceEnd target₁ _ _ pos₁ => decide (target₁ < 256) && decide (pos₁ < 13)
  | .conversionSlot slice₁ _ _ => decide (slice₁ < 5)
  | .slotTimeout slice₁ => decide (slice₁ < 5)
  | .roundEnd _ _ _ _ _ _ => true
  | .hkaInjTrigWrite _ value₁ => decide (value₁ < 4294967296)
  | .spareVisitStart => true
  | .getVersion transport₁ => decide (transport₁ < 3)
  | .getCapabilities transport₁ => decide (transport₁ < 3)
  | .negotiateAlgorithms transport₁ => decide (transport₁ < 3)
  | .getDigests transport₁ => decide (transport₁ < 3)
  | .getCertificate transport₁ slot₁ _ _ => decide (transport₁ < 3) && decide (slot₁ < 8)
  | .challenge transport₁ slot₁ => decide (transport₁ < 3) && decide (slot₁ < 8)
  | .getMeasurements transport₁ _ _ => decide (transport₁ < 3)
  | .keyExchange transport₁ => decide (transport₁ < 3)
  | .finish transport₁ session₁ _ => decide (transport₁ < 3) && decide (session₁ < 256)
  | .heartbeat transport₁ session₁ _ => decide (transport₁ < 3) && decide (session₁ < 256)
  | .keyUpdate transport₁ session₁ _ => decide (transport₁ < 3) && decide (session₁ < 256)
  | .endSession transport₁ session₁ _ => decide (transport₁ < 3) && decide (session₁ < 256)
  | .spdmUnsupportedRequest transport₁ _ => decide (transport₁ < 3)
  | .enrol transport₁ _ _ _ => decide (transport₁ < 3)
  | .enrolComplete => true
  | .ownerProve transport₁ _ slot₁ _ _ => decide (transport₁ < 3) && decide (slot₁ < 256)
  | .revoke transport₁ _ slot₁ => decide (transport₁ < 3) && decide (slot₁ < 256)
  | .setWeightKey transport₁ _ slot₁ _ => decide (transport₁ < 3) && decide (slot₁ < 256)
  | .clearWeightKey transport₁ _ slot₁ => decide (transport₁ < 3) && decide (slot₁ < 256)
  | .debugUnlock source₁ _ => decide (source₁ < 6)
  | .unlockVerifyComplete => true
  | .lockoutExpiry => true
  | .relock => true
  | .newNonce => true
  | .storeWriteComplete record₁ _ => decide (record₁ < 14)
  | .idcode => true
  | .bypass => true
  | .samplePreload _ _ => true
  | .extest => true
  | .deadlinePassed inst₁ slot₁ => decide (inst₁ < 16) && decide (slot₁ < 4096)
  | .backPlaneReady core₁ _ => decide (core₁ < 160)
  | .cmdCfgWrite _ value₁ => decide (value₁ < 4294967296)
  | .evrCfgWrite _ value₁ => decide (value₁ < 4294967296)
  | .eventRingReadbackComplete => true
  | .d0ToD3hot port₁ => decide (port₁ < 2)
  | .doeDiscovery _ => true
  | .vinValidBegins => true
  | .inputWarningCleared => true
  | .ieee11496Instructions => true

/-- A well-formed command. -/
def Instr.WellFormed (i : Instr) : Prop := i.wf = true

end Sys2Proof
end

