-- ==== Sys2Proof/Tests/Slice0.lean ====
section
/-!
SUPPORT. Witnesses of hypotheses of the statements, ill-formed commands that WellFormed refuses, and small tests.
-/
namespace Sys2Proof.Tests
open Sys2Proof Sys2Proof.Machine Sys2Proof.Claims

theorem wit_IdleStepCountsTime : State.reset.pending = [] ∧ State.reset.timeRuns = false := by decide
theorem wit_IdleStepCountsTime_runs : ({ timeRuns := true } : State).pending = [] ∧ ({ timeRuns := true } : State).timeRuns = true := by
  decide

theorem wit_InvariantKept : State.reset.LogOk ∧ State.reset.RingOk ∧ State.reset.regs.wf = true := by
  refine ⟨⟨?_, ?_, ?_⟩, ⟨?_, ?_⟩, ?_⟩ <;> decide

theorem wit_CommandFrame : exec .inputValid State.reset = .next (nextOr State.reset (exec .inputValid State.reset)) ∧
    Comp.cores ∉ touches .inputValid := ⟨rfl, by decide⟩

theorem wit_QueueAndOutputKept : exec .inputValid State.reset = .next (nextOr State.reset (exec .inputValid State.reset)) ∧
    ∀ slot strap, Instr.inputValid ≠ .railsInRegulation slot strap := ⟨rfl, fun _ _ h => by cases h⟩

theorem wit_RegisterWrites_size : State.reset.portHere .a = true ∧ ¬(2 = 4 ∧ 8 % 4 = 0) ∧ ¬(2 = 8 ∧ 8 % 8 = 0) := by decide
set_option maxRecDepth 20000 in
theorem wit_RegisterWrites_none : regRow? 0x0FFFFFC = none := by decide
set_option maxRecDepth 20000 in
theorem wit_RegisterWrites_rw : ∃ r, plainReg State.reset Reg.ARM_LEN r ∧ r.acc = .rw ∧ r.half = .single :=
  ⟨_, ⟨rfl, rfl, by decide⟩, rfl, rfl⟩
set_option maxRecDepth 20000 in
theorem wit_RegisterWrites_w1c : ∃ r, plainReg State.reset Reg.HST_MGMT_STAT r ∧ r.acc = .w1c := ⟨_, ⟨rfl, rfl, by decide⟩, rfl⟩
set_option maxRecDepth 20000 in
theorem wit_RegisterWrites_ro : ∃ r, plainReg State.reset Reg.DEV_ID r ∧ r.acc = .ro := ⟨_, ⟨rfl, rfl, by decide⟩, rfl⟩
set_option maxRecDepth 20000 in
theorem wit_RegisterWrites_low : ∃ r, plainReg State.reset Reg.ARM_SRC_LO r ∧ r.acc = .rw ∧ r.half = .low :=
  ⟨_, ⟨rfl, rfl, by decide⟩, rfl, rfl⟩

theorem wit_RegisterReads_low : State.reset.portHere .a = true ∧ (∃ r, regRow? Reg.ARM_SRC_LO = some r ∧ r.half = .low) ∧
    Reg.ARM_SRC_LO % 4 = 0 ∧ cycleCounter Reg.ARM_SRC_LO = false ∧ ¬(0x60020 ≤ Reg.ARM_SRC_LO ∧ Reg.ARM_SRC_LO < 0x60030) ∧
    Reg.ARM_SRC_LO ≠ Reg.CLK_TRIM_PPB := ⟨rfl, ⟨_, rfl, rfl⟩, by decide⟩
theorem wit_RegisterReads_high : (∃ r, regRow? (Reg.ARM_SRC_LO + 4) = some r ∧ r.half = .high) ∧
    ((({} : Map (Option W32)).put (portKey .a (Reg.ARM_SRC_LO + 4)) (some 5)).get (portKey .a (Reg.ARM_SRC_LO + 4)) = some 5) ∧
    cycleCounter (Reg.ARM_SRC_LO + 4) = false :=
  ⟨⟨_, rfl, rfl⟩, by decide, by decide⟩
theorem wit_RegisterReads_misaligned : 0x102 % 4 ≠ 0 := by decide

/-- A state whose loader is past the dawn with ARM_LEN 256. -/
def loaderState (st : LoaderState) : State :=
  ({ pwr := { dawn := 6 }, arm := { state := st } } : State).setRegN Reg.ARM_LEN 256
theorem wit_LoaderCommands_load : (loaderState .idle).arm.state = .idle ∧ 6 ≤ (loaderState .idle).pwr.dawn ∧
    (loaderState .idle).regN Reg.ARM_LEN = 256 := by decide
theorem wit_LoaderCommands_seal : (loaderState .staged).arm.state = .staged ∧
    (loaderState .staged).arm.owner = (loaderState .staged).actsAs .a ∧
    ∀ i ∈ (loaderState .staged).armAffected, (loaderState .staged).residentIn i = false := by decide
theorem wit_LoaderCommands_foreign : (loaderState .staged).arm.state ≠ .idle ∧
    (loaderState .staged).arm.owner ≠ (loaderState .staged).actsAs .b := by decide

theorem wit_LoaderEvents_fetch : (loaderState .loading).arm.state = .loading ∧
    ([] : List Byte).length = (loaderState .loading).arm.len := by decide
theorem wit_LoaderEvents_validate : (loaderState .validating).arm.state = .validating ∧
    ∃ st off, validateImage (loaderState .validating).arm.image (loaderState .validating).arm.len (loaderState .validating).fuses
      (loaderState .validating).ownerKeys (loaderState .validating).armFloor (loaderState .validating).img = .error (st, off) :=
  ⟨rfl, _, _, rfl⟩
theorem wit_LoaderEvents_seal : (loaderState .sealing).arm.state = .sealing ∧ (loaderState .sealing).sealReady = true := by decide

/-- A core 0 with a program of 8 instructions and thread 0 RUNNABLE at 0. -/
def coreState : State :=
  { cores := ({} : Map Core).put 0 { progLen := 8, threads := ({} : Map Thread).put 0 { state := .runnable } } }
theorem wit_ScalarResults : Issues coreState (.core 0 0) (2 ^ 37) ∧ bits (2 ^ 37) 36 32 = 0 ∧ bits (2 ^ 37) 45 38 = 0 ∧
    bit (2 ^ 37) 37 = true := by
  refine ⟨?_, ?_⟩
  · unfold Issues; decide
  · decide

theorem wit_PredicateResults : Issues coreState (.core 0 0) (3 * 2 ^ 34) ∧ bits (3 * 2 ^ 34) 36 34 = 3 ∧
    bits (3 * 2 ^ 34) 49 45 = 0 ∧ bits (3 * 2 ^ 34) 41 38 = 0 ∧ bits (3 * 2 ^ 34) 33 32 = 0 := by
  refine ⟨?_, ?_⟩
  · unfold Issues; decide
  · decide

theorem wit_Branches : Issues coreState (.core 0 0) (8000 * 2 ^ 37) ∧ bits (8000 * 2 ^ 37) 28 0 = 0 := by
  refine ⟨?_, by decide⟩
  unfold Issues; decide
theorem wit_Branches_loop : (coreState.ctx (.core 0 0)).s.get 0 - 1 ≠ 0 := by decide
theorem wit_Branches_loopEnd :
    ((coreState.setS (.core 0 0) 1 1).ctx (.core 0 0)).s.get (bits (2 ^ 33) 36 33) - 1 = 0 ∧
    Issues (coreState.setS (.core 0 0) 1 1) (.core 0 0) (2 ^ 33) := by
  refine ⟨by decide, ?_⟩
  unfold Issues; decide
theorem wit_Branches_bounds : (coreState.setPc (.core 0 0) 8).issuable (.core 0 0) = true ∧
    (coreState.setPc (.core 0 0) 8).barrierOpen (.core 0 0) = false ∧
    (coreState.setPc (.core 0 0) 8).progLenOf (.core 0 0) ≤ ((coreState.setPc (.core 0 0) 8).ctx (.core 0 0)).pc := by decide

theorem wit_StatusAndEvents_sread : Issues coreState (.core 0 0) (2 ^ 42) ∧ bits (2 ^ 42) 35 0 = 0 ∧ bits (2 ^ 42) 45 42 = 1 := by
  refine ⟨?_, by decide⟩
  unfold Issues; decide
/-- The core of `coreState` in instance 0. -/
def placedState : State := coreState.updCore 0 (fun c => { c with inst := some 0 })
theorem wit_StatusAndEvents_step : Issues placedState (.core 0 0) (2 * 2 ^ 42) ∧ bits (2 * 2 ^ 42) 35 0 = 0 ∧
    bits (2 * 2 ^ 42) 45 42 = 2 ∧ placedState.instOf (.core 0 0) = some 0 := by
  refine ⟨?_, by decide⟩
  unfold Issues; decide
theorem wit_StatusAndEvents_core : bits 0 45 42 = 0 ∧ bits (3 * 2 ^ 42) 45 42 = 3 ∧ bits (4 * 2 ^ 42) 45 42 = 4 ∧
    bits (5 * 2 ^ 42) 45 42 = 5 ∧ bits (5 * 2 ^ 42) 35 0 = 0 ∧ (placedState.cores.get 0).inst = some 0 := by decide
theorem wit_StatusAndEvents_wait : Issues coreState (.core 0 0) 1 ∧
    ((coreState.cores.get 0).evc.get 0 - waitValueOf coreState (.core 0 0) 1).toNat < 2 ^ 31 ∧
    ¬((coreState.cores.get 0).evc.get 0 - waitValueOf coreState (.core 0 0) (2 ^ 27)).toNat < 2 ^ 31 := by
  refine ⟨?_, by decide⟩
  unfold Issues; decide
theorem wit_StatusAndEvents_signal : Issues coreState (.core 0 0) (2 * 2 ^ 44 + 2 ^ 30) ∧
    bits (2 * 2 ^ 44 + 2 ^ 30) 29 0 = 0 ∧ bits (2 * 2 ^ 44 + 2 ^ 30) 49 44 = 2 ∧
    coreState.signalTargets 0 (bits (2 * 2 ^ 44 + 2 ^ 30) 43 42) 0 = some [0] ∧ (coreState.cores.get 0).skipSig.get 0 = 0 := by
  refine ⟨?_, by decide⟩
  unfold Issues; decide
theorem wit_StatusAndEvents_reach : ∀ c ∈ [0], reachable coreState 0 c := by
  intro c hc
  simp only [List.mem_singleton] at hc
  subst hc
  unfold reachable
  decide

theorem wit_ControlInstructions_nop : Issues coreState (.core 0 0) 0 ∧ bits 0 49 0 = 0 := by
  refine ⟨?_, by decide⟩
  unfold Issues; decide
/-- Engine thread 0 of pedestal 0 busy in a program of 8 instructions, dispatched by core 0's flight 0. -/
def engineState : State :=
  { coreState with
    peds := ({} : Map Ped).put 0 { progLen := 8 }
    engines := ({} : Map EngThread).put 0 { busy := true, ctx := { state := .runnable } } }
theorem wit_ControlInstructions_engine : Issues engineState (.engine 0 0) 0 := by unfold Issues; decide
theorem wit_ControlInstructions_fence : Issues coreState (.core 0 0) 1 ∧ bits 1 49 4 = 0 ∧ bits 1 3 0 = 1 ∧
    ∀ f ∈ (coreState.cores.get 0).flights, f.thread = 0 → fenceHolds (bits 1 3 0) f = false := by
  refine ⟨?_, by decide⟩
  unfold Issues; decide
/-- A vector instruction of thread 0 in flight that writes memory. -/
def flyingState : State := coreState.updCore 0 (fun c => { c with flights := [{ kind := .vector, writes := [{}] }], nextFlight := 1 })
theorem wit_ControlInstructions_fenced : Issues flyingState (.core 0 0) 1 ∧
    ∃ f ∈ (flyingState.cores.get 0).flights, f.thread = 0 ∧ fenceHolds (bits 1 3 0) f = true := by
  refine ⟨?_, ?_⟩
  · unfold Issues; decide
  · exact ⟨_, List.mem_singleton.mpr rfl, by decide⟩
/-- Core 0 with one descriptor: 16 INT8 elements at byte 0 of the weight stage. -/
def descState : State := coreState.updCore 0 (fun c => { c with
  descs := ({} : Map (BitVec 128)).put 0 (BitVec.ofNat 128 (3 * 2 ^ 24 + 16 * 2 ^ 32 + 2 ^ 48)), descLen := 1, org := .normal })
theorem wit_ControlInstructions_layer : Issues descState (.core 0 0) 0 ∧
    (descState.resolve (.core 0 0) 0 false).mode = false ∧ (descState.resolve (.core 0 0) 0 false).desc = false ∧
    (descState.resolve (.core 0 0) 0 false).bounds = false ∧ (descState.resolve (.core 0 0) 0 false).o.bytes ≤ 65536 := by
  refine ⟨?_, by decide⟩
  unfold Issues; decide
theorem wit_ControlInstructions_chisel : Issues coreState (.core 0 0) (3 * 2 ^ 46) ∧ bits (3 * 2 ^ 46) 29 0 = 0 ∧
    1 ≤ bits (3 * 2 ^ 46) 49 46 ∧ bits (3 * 2 ^ 46) 49 46 ≤ 8 ∧
    ∀ g < 8, bits (3 * 2 ^ 46) (31 + 2 * g) (30 + 2 * g) ≠ 3 := by
  refine ⟨?_, by decide⟩
  unfold Issues; decide

/-- Core 0's thread 0 waits for EVC(2) to reach 1, with a timeout. -/
def waitingState : State := coreState.updCtx (.core 0 0) (fun t => { t with state := .waiting, waitE := 2, waitV := 1, waitP := 1, waitT := 5 })
theorem wit_ThreadAndInstructionEvents_wait : ((waitingState.cores.get 0).threads.get 0).state = .waiting ∧
    ((waitingState.cores.get 0).threads.get 0).waitT ≠ 0 ∧ ((waitingState.cores.get 0).threads.get 0).waitP < 8 ∧
    waitTrue ((waitingState.cores.get 0).evc.get 2) 1 = false ∧ ((waitingState.cores.get 0).threads.get 0).wdog = false := by decide
set_option maxRecDepth 20000 in
theorem wit_ThreadAndInstructionEvents_limit : waitingState.regN (Reg.CORE_WDOG 0) ≠ 0 := by decide
theorem wit_ThreadAndInstructionEvents_parity : ((coreState.cores.get 0).threads.get 0).canIssue = true ∧
    ((coreState.cores.get 0).threads.get 0).replays < 3 := by decide
theorem wit_ThreadAndInstructionEvents_flight : flyingState.flight 0 0 = some { kind := .vector, writes := [{}] } := by decide
/-- Core 0 with one instruction of a kind in flight. -/
def flightState (k : FlightKind) : State :=
  coreState.updCore 0 (fun c => { c with flights := [{ kind := k, acked := true, evc := some 2 }], nextFlight := 1 })
theorem wit_ThreadAndInstructionEvents_move : (flightState (.move {} 0 false)).flight 0 0
    = some { kind := .move {} 0 false, acked := true, evc := some 2 } := by decide
theorem wit_ThreadAndInstructionEvents_push : (flightState (.push 0 0 none {})).flight 0 0
    = some { kind := .push 0 0 none {}, acked := true, evc := some 2 } := by decide
theorem wit_ThreadAndInstructionEvents_dispatch : (flightState (.dispatch 0 0 {} {})).flight 0 0
    = some { kind := .dispatch 0 0 {} {}, acked := true, evc := some 2 } := by decide

/-- Core 0 with two descriptors of 16 FP32 elements and one of 16 INT32 elements in memory 1, apart. -/
def vectorState : State := coreState.updCore 0 (fun c => { c with
  descs := ((({} : Map (BitVec 128)).put 0 (BitVec.ofNat 128 (2 ^ 21 + 2 ^ 24 + 16 * 2 ^ 32 + 2 ^ 48))).put 1
    (BitVec.ofNat 128 (64 + 2 ^ 21 + 2 ^ 24 + 16 * 2 ^ 32 + 2 ^ 48))).put 2
    (BitVec.ofNat 128 (2 ^ 21 + 2 * 2 ^ 24 + 16 * 2 ^ 32 + 2 ^ 48)), descLen := 3, org := .normal })
theorem wit_VectorResults_float : MayIssue vectorState (.core 0 0) (2 ^ 16) ∧
    vTypes 0 (vectorState.resolve (.core 0 0) 0 false).o (vectorState.resolve (.core 0 0) 0 false).o
      (vectorState.resolve (.core 0 0) 32 true).o = true ∧ bits (2 ^ 16) 9 0 = 0 ∧ bits (2 ^ 16) 23 11 = 32 ∧
    clean (vectorState.resolve (.core 0 0) 0 false) ∧ clean (vectorState.resolve (.core 0 0) 32 true) ∧
    RangesOk vectorState (.core 0 0) [(vectorState.resolve (.core 0 0) 0 false).o.range] [(vectorState.resolve (.core 0 0) 32 true).o.range] ∧
    vectorState.queueFree (.core 0 0) 4 FlightKind.isVector = true := by
  unfold MayIssue clean RangesOk; decide
theorem wit_VectorResults_shape : ∃ f g, vShape 0 (vectorState.resolve (.core 0 0) 0 false).o
    (vectorState.resolve (.core 0 0) 0 false).o (vectorState.resolve (.core 0 0) 32 true).o false = some (f, g) := ⟨_, _, rfl⟩
theorem wit_VectorResults_integer : vTypes 0x20 (vectorState.resolve (.core 0 0) 64 false).o
    (vectorState.resolve (.core 0 0) 64 false).o (vectorState.resolve (.core 0 0) 64 true).o = true := by decide
theorem wit_VectorResults_elems : ¬inElems (vectorState.resolve (.core 0 0) 32 true).o 0 := by
  rintro ⟨k, _, h, _⟩
  have : memBase (vectorState.resolve (.core 0 0) 32 true).o.mem = 0x40000 := by decide
  omega

theorem wit_StrikesAndPlanes_gset : Issues coreState (.core 0 0) (2 ^ 35) ∧ bits (2 ^ 35) 8 0 = 0 ∧
    coreState.strikeFree 0 = true := by
  unfold Issues; decide
/-- Core 0 with descriptors of 512 BF16, 256 BF16 and 256 FP32 elements, and group 0 of position 0. -/
def strikeState : State := coreState.updCore 0 (fun c => { c with
  descs := ((({} : Map (BitVec 128)).put 0 (BitVec.ofNat 128 (2 ^ 21 + 512 * 2 ^ 32 + 2 ^ 48))).put 1
    (BitVec.ofNat 128 (4096 + 2 ^ 21 + 256 * 2 ^ 32 + 2 ^ 48))).put 2
    (BitVec.ofNat 128 (8192 + 2 ^ 21 + 2 ^ 24 + 256 * 2 ^ 32 + 2 ^ 48)), descLen := 3, org := .normal
  groups := ({} : Map Group).put 0 { defined := true, mask := 1, scale := 1, dst := 2 } })
theorem wit_StrikesAndPlanes_strike : MayIssue strikeState (.core 0 0) 0 ∧ clean (strikeState.resolve (.core 0 0) 0 false) ∧
    clean (strikeState.resolveAt (.core 0 0) 2 0 true) ∧ clean (strikeState.resolveAt (.core 0 0) 1 0 false) ∧
    groupOk ((strikeState.cores.get 0).groups.get 0) 1 (strikeState.resolveAt (.core 0 0) 1 0 false).o {}
      (strikeState.resolveAt (.core 0 0) 2 0 true).o = true ∧
    (strikeState.resolve (.core 0 0) 0 false).o.elems = 512 ∧
    RangesOk strikeState (.core 0 0) [(strikeState.resolve (.core 0 0) 0 false).o.range] [(strikeState.resolveAt (.core 0 0) 2 0 true).o.range] ∧
    strikeState.strikeFree 0 = true := by
  unfold MayIssue clean RangesOk; decide
/-- Core 0 with a descriptor of a 64 KiB weight-stage image. -/
def imageState : State := coreState.updCore 0 (fun c => { c with
  descs := ({} : Map (BitVec 128)).put 0 (BitVec.ofNat 128 (3 * 2 ^ 24 + 32768 * 2 ^ 32 + 2 * 2 ^ 48)), descLen := 1, org := .normal })
theorem wit_StrikesAndPlanes_pload : MayIssue imageState (.core 0 0) 0 ∧ clean (imageState.resolve (.core 0 0) 0 false) ∧
    (imageState.resolve (.core 0 0) 0 false).o.bytes = 65536 ∧ (imageState.resolve (.core 0 0) 0 false).o.mem = 0 ∧
    (imageState.resolve (.core 0 0) 0 false).o.type = 3 ∧
    (imageState.resolve (.core 0 0) 0 false).o.stride = (imageState.resolve (.core 0 0) 0 false).o.count ∧
    RangesOk imageState (.core 0 0) [(imageState.resolve (.core 0 0) 0 false).o.range] [] ∧
    imageState.queueFree (.core 0 0) 16 FlightKind.isLoad = true := by
  unfold MayIssue clean RangesOk; decide
theorem wit_StrikesAndPlanes_zero : bit (2 ^ 32) 32 = true ∧ bits (2 ^ 32) 45 33 = 0 ∧ bits (2 ^ 32) 49 46 < 12 := by decide
theorem wit_StrikesAndPlanes_pswap : MayIssue coreState (.core 0 0) (5 * 2 ^ 38) ∧ RangesOk coreState (.core 0 0) [] [] ∧
    counterOk (bit (5 * 2 ^ 38) 31) 0 ∧ bits (5 * 2 ^ 38) 30 0 = 0 ∧ bits (5 * 2 ^ 38) 49 38 ≠ 0 := by
  unfold MayIssue RangesOk counterOk; decide

/-- Core 0 in an instance, with a descriptor of 16 bytes of the weight stage and region 0 of 4 slots of 16 bytes in it,
slot 0 filled, its slot 1 at the head. -/
def regionState : State := coreState.updCore 0 (fun c => { c with
  descs := ({} : Map (BitVec 128)).put 0 (BitVec.ofNat 128 (3 * 2 ^ 24 + 16 * 2 ^ 32 + 2 ^ 48)), descLen := 1, org := .normal
  regions := ({} : Map Region).put 0 { configured := true, base := 4096, slotBytes := 16, slots := 4, head := 1, take := 0
                                       state := ({} : Map SlotState).put 0 .filled } })
theorem wit_MovesAndRegions_move : MayIssue regionState (.core 0 0) (2 ^ 32) ∧ clean (regionState.resolve (.core 0 0) 0 true) ∧
    (∀ p ∈ regionState.remoteChecks 0 0 16 false, p.2 = false) ∧
    RangesOk regionState (.core 0 0) [] [(regionState.resolve (.core 0 0) 0 true).o.range] ∧
    routeIn regionState (regionState.coreNode 0) (regionState.remoteNode 0 0) := by
  unfold MayIssue clean RangesOk routeIn; decide
theorem wit_MovesAndRegions_push : MayIssue regionState (.core 0 0) (2 ^ 45) ∧ clean (regionState.resolve (.core 0 0) 0 false) ∧
    (regionState.resolve (.core 0 0) 0 false).o.bytes = ((regionState.cores.get 0).regions.get 0).slotBytes ∧
    ((regionState.cores.get 0).regions.get 0).state.get 1 = .empty ∧
    RangesOk regionState (.core 0 0) [(regionState.resolve (.core 0 0) 0 false).o.range]
      [(((regionState.cores.get 0).regions.get 0).slotOpnd 1).range] := by
  unfold MayIssue clean RangesOk; decide
theorem wit_MovesAndRegions_pop : MayIssue regionState (.core 0 0) 0 ∧
    ((regionState.cores.get 0).regions.get 0).state.get 0 = .filled ∧
    RangesOk regionState (.core 0 0) [(((regionState.cores.get 0).regions.get 0).slotOpnd 0).range] [] := by
  unfold MayIssue RangesOk; decide
theorem wit_MovesAndRegions_drop : MayIssue (flightState (.pop 0 0)) (.core 0 0) 0 ∧ RangesOk (flightState (.pop 0 0)) (.core 0 0) [] [] ∧
    ((flightState (.pop 0 0)).cores.get 0).flights = [] ++ { kind := .pop 0 0, acked := true, evc := some 2 } :: [] := by
  unfold MayIssue RangesOk; decide

/-- Core 0 with a descriptor of 16 bytes of memory 0 and one of 16 BF16 elements; pedestal 0's program has entry 0 at 5. -/
def dispatchState : State :=
  { (coreState.updCore 0 (fun c => { c with
      descs := ((({} : Map (BitVec 128)).put 0 (BitVec.ofNat 128 (3 * 2 ^ 24 + 16 * 2 ^ 32 + 2 ^ 48))).put 1
        (BitVec.ofNat 128 (64 + 16 * 2 ^ 32 + 2 ^ 48))), descLen := 2, org := .normal })) with
    peds := ({} : Map Ped).put 0 { entries := ({} : Map (Option Nat)).put 0 (some 5) } }
theorem wit_DispatchesAndHandoffs_dispatch : MayIssue dispatchState (.core 0 0) (32 * 2 ^ 13) ∧ 0 < dispatchState.fuses.stackN ∧
    (dispatchState.peds.get 0).entries.get 0 = some 5 ∧ clean (dispatchState.resolve (.core 0 0) 0 false) ∧
    clean (dispatchState.resolve (.core 0 0) 32 true) ∧ (dispatchState.resolve (.core 0 0) 0 false).o.bytes ≤ 4096 ∧
    RangesOk dispatchState (.core 0 0) [(dispatchState.resolve (.core 0 0) 0 false).o.range] [(dispatchState.resolve (.core 0 0) 32 true).o.range] ∧
    routeIn dispatchState (dispatchState.coreNode 0) (stackNode 0) := by
  unfold MayIssue clean RangesOk routeIn; decide
theorem wit_DispatchesAndHandoffs_handoff : MayIssue dispatchState (.core 0 0) (32 * 2 ^ 37) ∧ clean (dispatchState.resolve (.core 0 0) 32 false) ∧
    (dispatchState.resolve (.core 0 0) 32 false).o.type ≤ 1 ∧
    RangesOk dispatchState (.core 0 0) [(dispatchState.resolve (.core 0 0) 32 false).o.range] [] ∧
    routeIn dispatchState (dispatchState.coreNode 0) (samplerNode 0) := by
  unfold MayIssue clean RangesOk routeIn; decide
theorem wit_DispatchesAndHandoffs_start :
    (({ peds := ({} : Map Ped).put 0 { waiting := [{}] } } : State).peds.get 0).waiting = [{}] ∧
    ∃ th, roundRobin 128 (({} : Ped).lastStarted) (fun k => !((State.reset.engines).get (engKey 0 k)).busy) = some th :=
  ⟨by decide, 0, by decide⟩
/-- The dispatch of core 0's flight 0 running on thread 0 of pedestal 0, with a 16-byte range and a 16-byte result. -/
def returnState : State :=
  { flightState (.dispatch 0 0 {} {}) with
    peds := ({} : Map Ped).put 0 { progLen := 8, descLen := 1, descs := ({} : Map (BitVec 128)).put 0 (BitVec.ofNat 128 (3 * 2 ^ 24 + 16 * 2 ^ 32 + 2 ^ 48)) }
    engines := ({} : Map EngThread).put 0 { busy := true, ctx := { state := .runnable }, job := { result := { count := 16, rows := 1, type := 3 } } } }
theorem wit_DispatchesAndHandoffs_return : MayIssue returnState (.engine 0 0) 0 ∧ clean (returnState.resolve (.engine 0 0) 0 false) ∧
    0 + (returnState.resolve (.engine 0 0) 0 false).o.bytes ≤ (returnState.engines.get (engKey 0 0)).job.result.bytes ∧
    RangesOk returnState (.engine 0 0) [] [] ∧ ∃ f ∈ (returnState.cores.get 0).flights, f.id = 0 := by
  unfold MayIssue clean RangesOk; decide

/-- Thread 0 of pedestal 0 with a softmax state of one row (d = 64), a row of 16 scores, 16 rows of 64 values and an output. -/
def softState : State :=
  let d := fun v : Nat => BitVec.ofNat 128 v
  let m := (((({} : Map (BitVec 128)).put 0 (d (2 ^ 24 + 68 * 2 ^ 32 + 2 ^ 48))).put 1 (d (512 + 2 ^ 24 + 16 * 2 ^ 32 + 2 ^ 48))).put 2
    (d (1024 + 2 ^ 24 + 64 * 2 ^ 32 + 16 * 2 ^ 48))).put 3 (d (8192 + 2 ^ 24 + 64 * 2 ^ 32 + 2 ^ 48))
  { engineState with peds := ({} : Map Ped).put 0 { progLen := 8, descLen := 4, descs := m } }
theorem wit_SoftmaxInstructions_state : MayIssue softState (.engine 0 0) 0 ∧ clean (softState.resolve (.engine 0 0) 0 true) ∧
    (softState.resolve (.engine 0 0) 0 true).o.type = 1 ∧ stateDim (softState.resolve (.engine 0 0) 0 true).o = 64 ∧
    RangesOk softState (.engine 0 0) [] [] := by
  unfold MayIssue clean RangesOk; decide
theorem wit_SoftmaxInstructions_scores : clean (softState.resolve (.engine 0 0) 32 true) ∧ bit (2 ^ 10) 10 = true ∧
    bits (2 ^ 10) 5 0 = 0 ∧ (softState.resolve (.engine 0 0) 32 true).o.rows = (softState.resolve (.engine 0 0) 0 true).o.rows ∧
    (softState.resolve (.engine 0 0) 32 true).o.count = 16 := by
  unfold clean; decide
theorem wit_SoftmaxInstructions_values : clean (softState.resolve (.engine 0 0) 64 false) ∧
    (softState.resolve (.engine 0 0) 64 false).o.rows = (softState.resolve (.engine 0 0) 32 false).o.count ∧
    (softState.resolve (.engine 0 0) 64 false).o.count = stateDim (softState.resolve (.engine 0 0) 0 true).o := by
  unfold clean; decide
theorem wit_SoftmaxInstructions_output : clean (softState.resolve (.engine 0 0) 96 true) ∧
    (softState.resolve (.engine 0 0) 96 true).o.rows = (softState.resolve (.engine 0 0) 0 true).o.rows ∧
    (softState.resolve (.engine 0 0) 96 true).o.count = stateDim (softState.resolve (.engine 0 0) 0 true).o := by
  unfold clean; decide
theorem wit_SoftmaxInstructions_masked : ∀ k, k < [0x3F800000].length → ¬(5 ≤ k ∧ k ≤ 3) := by decide
theorem wit_SoftmaxInstructions_unmasked : ∃ k, k < [0x3F800000].length ∧ 0 ≤ k ∧ k ≤ 3 := ⟨0, by decide⟩
theorem wit_SoftmaxInstructions_rows : ({ flags := 1 } : SoftRow).empty = true ∧ ({ flags := 0 } : SoftRow).empty = false := by decide

/-- One instruction of core 0 in flight, and its request in the fabric with a response. -/
def fabricState (k : FlightKind) (b : MsgBody) (r : Option MsgResp) (resent : Bool) : State :=
  { flightState k with msgs := [{ body := b, resp := r, resent := resent }], nextMsg := 1 }
theorem wit_TransferMessages_write : Serves (fabricState (.move {} 0 false) (.write 0 0) none false) 0
    { body := .write 0 0 } 0 { kind := .move {} 0 false, acked := true, evc := some 2 } {} 0 := by
  unfold Serves; decide
theorem wit_TransferMessages_peer : ∃ s : State, s.rPeer 0 (3 * 2 ^ 60) = some 1 ∧ (s.cores.get 1).retired = false :=
  ⟨{ placedState with img := { insts := ({} : Map (Option SealedInst)).put 0 (some { inst := { coreMap := 2 } }) } }, by decide⟩
theorem wit_TransferMessages_far : ∃ s : State, s.farPort 16 = some 0 ∧ s.usesTransit 0 (5 * 2 ^ 60) = false :=
  ⟨{ (State.reset.setRegN (Reg.FTR_CTL 16) 1) with ports := ({} : Map HostPort).put 0 { linkUp := true } }, by decide⟩
theorem wit_TransferMessages_read : Serves (fabricState (.move {} 0 true) (.read 0 0) none false) 0
    { body := .read 0 0 } 0 { kind := .move {} 0 true, acked := true, evc := some 2 } {} 0 ∧
    ((fabricState (.move {} 0 true) (.read 0 0) none false).clusters.get 0).badWord 0 0 = none := by
  unfold Serves; decide
theorem wit_TransferMessages_signal : (fabricState .vector (.signal 0 0 1 2 1) none false).msg 0 = some { body := .signal 0 0 1 2 1 } ∧
    ∀ x ∈ (fabricState .vector (.signal 0 0 1 2 1) none false).msgs, ¬(x.id < 0) := by decide
theorem wit_TransferMessages_dispatch : (fabricState (.dispatch 0 0 {} {}) (.dispatch 0 0) none false).flight 0 0
    = some { kind := .dispatch 0 0 {} {}, acked := true, evc := some 2 } := by decide
theorem wit_TransferMessages_data : (fabricState (.move {} 0 true) (.read 0 0) (some (.data [])) false).msg 0
    = some { body := .read 0 0, resp := some (.data []) } := by decide
theorem wit_TransferMessages_nack : (fabricState (.move {} 0 true) (.read 0 0) (some .nackFault) false).msg 0
    = some { body := .read 0 0, resp := some .nackFault } ∧
    (fabricState (.move {} 0 true) (.read 0 0) (some .nackFault) false).flight 0 0
    = some { kind := .move {} 0 true, acked := true, evc := some 2 } := by decide
theorem wit_TransferMessages_timeout : (fabricState (.move {} 0 true) (.read 0 0) none true).msg 0
    = some { body := .read 0 0, resent := true } := by decide

theorem wit_FabricLinks_lane : neighbour 0 1 = some 1 ∧ (State.reset.lanes.get (laneKey 0 0 1)).retired = false ∧
    State.reset.slices.get 0 = false ∧ kindKnown 0 = true ∧ 0 % 128 = (State.reset.lanes.get (laneKey 0 0 1)).expect := by decide
theorem wit_FabricLinks_gate : ({ domains := ({} : Map Domain).put 16 { state := 0 } } : State).halfGated 0 = false := by decide
theorem wit_FabricLinks_urgent : (fabricState .vector (.write 0 0) none false).msg 0 = some { body := .write 0 0 } := by decide
theorem wit_FabricLinks_grant : roundRobin 11 10 (fun p => [0].contains p && decide (0 < 8)) = some 0 := by decide

theorem wit_StackEvents_access : (State.reset.peds.get 0).selfRefresh = false ∧ (State.reset.peds.get 0).lost = [] ∧
    blockDie 0 = 1 ∧ dieBlock 0 2 = some 1 := by decide
theorem wit_StackEvents_timeout : ∃ p : Ped, p.selfRefresh = false ∧ p.state ≠ 3 ∧ p.retrying.get 1 = true ∧ p.dieTimeouts.get 1 = 3 :=
  ⟨{ retrying := ({} : Map Bool).put 1 true, dieTimeouts := ({} : Map Nat).put 1 3 }, by decide⟩
theorem wit_StackEvents_patrol : 0 < State.reset.fuses.stackN ∧ State.reset.farBusy 0 = false := by decide
theorem wit_StackEvents_busy : ({ wloads := [{ inst := 0, slot := 0, space := some 0 }], wslots := ({} : Map WSlot).put 0 { pkg := { setFar := 1 } } } : State).farBusy 0 = true := by decide

/-- An engine thread of core 0's instance 0: a plan of one layer and one head of 64 elements, and a sequence of 5 rows. -/
def pageState : State :=
  { engineState with
    cores := ({} : Map Core).put 0 { inst := some 0 }
    peds := ({} : Map Ped).put 0 { progLen := 8, descLen := 1, descs := ({} : Map (BitVec 128)).put 0 (BitVec.ofNat 128 (2 ^ 24 + 64 * 2 ^ 32 + 16 * 2 ^ 48)) }
    img := { insts := ({} : Map (Option SealedInst)).put 0 (some { inst := { maxSeqs := 1 }, mem := {} }) }
    kvSeqs := ({} : Map KvSeq).put (seqKey 0 0) { state := .active, l := 5 } }
theorem wit_PageGathers : MayIssue pageState (.engine 0 0) 0 ∧ clean (pageState.resolve (.engine 0 0) 0 true) ∧
    (pageState.resolve (.engine 0 0) 0 true).o.type = 1 ∧ (pageState.resolve (.engine 0 0) 0 true).o.rows = 16 ∧
    (pageState.resolve (.engine 0 0) 0 true).o.count = 64 ∧ (pageState.planOf 0).headDim = 64 ∧ (pageState.planOf 0).kvLayers = 1 ∧
    (pageState.planOf 0).kvHeads = 1 ∧ ((pageState.planOf 0).stackOf 0).1 = 0 ∧
    ((pageState.img.insts.get 0).map (·.inst.maxSeqs)).getD 0 = 1 ∧ RangesOk pageState (.engine 0 0) [] [] := by
  unfold MayIssue clean RangesOk; decide
theorem wit_PageGathers_source : (pageState.pageSrc 0 0 0 0).1 = .staging := by decide
theorem wit_PageGathers_poison : (pageState.pageSrc 0 0 0 1).1 = .empty ∧ pageState.pagePoisoned 0 0 0 1 = false := by decide

theorem wit_KeyValueFlush_flush : ∃ s : State, s.flushing.get (partKey 0 0 0) = some 3 ∧ s.kvFrame 0 0 0 = some 0 :=
  ⟨{ flushing := ({} : Map (Option Nat)).put (partKey 0 0 0) (some 3)
     img := { insts := ({} : Map (Option SealedInst)).put 0 (some { mem := { frames := 1, stagingSlots := 1 } }) }
     peds := ({} : Map Ped).put 0 { mem := ({} : Memory).put 3 0x40, plan := ({} : Map (List (Nat × Nat))).put 0 [(0, 1)] } },
   by decide, by decide⟩
theorem wit_KeyValueFlush_fetch : (({} : Map Ped).put 0 { fetching := [7] }).get 0 = { fetching := [7] } := by decide
theorem wit_KeyValueFlush_half : ((({ nextK := some (0, 0, 0, 1) } : EngThread)).nextK).isSome = true := by decide

theorem wit_BoundariesAndTakeovers_boundary : ∃ s : State, (s.cores.get 0).atBoundary = true ∧ (s.cores.get 0).paired = false ∧
    (s.cores.get 0).barrier.isSome = true ∧ (s.cores.get 0).org ≠ .draining ∧ s.testOf 0 = none :=
  ⟨{ cores := ({} : Map Core).put 0 { barrier := some (3, {}), org := .normal } }, by decide⟩
theorem wit_BoundariesAndTakeovers_takeover : ∃ s : State, (s.takeovers.find? (·.core == 0)).isSome = true ∧ (s.cores.get 0).flights = [] ∧
    (s.cores.get 0).inst = none :=
  ⟨{ takeovers := [{ core := 0, reserve := 0, cause := 0, decided := 0 }] }, by decide⟩

/-- Core 0 in an organisation state. -/
def orgState (o : OrgState) : State := { domains := ({} : Map Domain).put 16 { state := 0 }, cores := ({} : Map Core).put 0 { org := o, held := true } }
theorem wit_ScratchpadEvents_scrub : (orgState .normal).scrubStopped true 0 = false ∧ (orgState .normal).scrubStopped false 0 = false ∧
    ((orgState .normal).cores.get 0).poison.get 5 = false := by decide
theorem wit_ScratchpadEvents_pass : ∃ s : State, s.scrubStopped true 0 = false ∧ (s.cores.get 0).scrubbing.get 0 = true ∧
    s.scrubStopped false 0 = false ∧ (s.clusters.get 0).scrubbing = true :=
  ⟨{ domains := ({} : Map Domain).put 16 { state := 0 }, cores := ({} : Map Core).put 0 { scrubbing := ({} : Map Bool).put 0 true }, clusters := ({} : Map Cluster).put 0 { scrubbing := true } }, by decide⟩
theorem wit_ScratchpadEvents_org : ((orgState .normal).cores.get 0).retired = false ∧ ((orgState .normal).cores.get 0).org = .normal ∧
    ((orgState .normal).cores.get 0).restartedOnce = false ∧ ((orgState .unified).cores.get 0).org = .unified ∧
    ((orgState .draining).cores.get 0).org = .draining ∧ ((orgState .draining).cores.get 0).held = true ∧
    ((orgState .draining).cores.get 0).flights = [] ∧ ((orgState .normal).cores.get 0).testHold = false := by decide
theorem wit_ScratchpadEvents_restore : ∃ s : State, (s.cores.get 0).org = .restoring ∧ (s.cores.get 0).latest.isSome = true ∧
    s.bankBad (s.cores.get 0).mirror0 0 = false ∧ (s.cores.get 0).mirror0.xfers = [] ∧ (s.cores.get 0).mirror1.complete = false :=
  ⟨{ cores := ({} : Map Core).put 0 { org := .restoring, mirror0 := { complete := true } } }, by decide⟩

/-- Field test 0 runs at a target, in its slice, with parts 0 and 1 left. -/
def testingState (target : Nat) : State :=
  { tests := ({} : Map FieldTest).put 0 { status := 2, target := target, parts := 3, inSlice := true }
    cores := ({} : Map Core).put 0 { org := .unified, inst := some 0 }, reserves := ({} : Map Reserve).put 0 { available := true } }
theorem wit_FieldTests_start : ∃ s : State, s.testOf 0 = none ∧ s.testsRunning < 8 ∧ s.testState 0 = false ∧ (s.arr 0 12).stand = false :=
  ⟨{ fuses := { grade := 112 } }, by decide⟩
theorem wit_FieldTests_state : State.reset.testOf 200 = none ∧ State.reset.testsRunning < 8 ∧ State.reset.testState 200 = true := by decide
theorem wit_FieldTests_slice : (testingState 0).testOf 0 = some 0 ∧ ((testingState 0).cores.get 0).inst.isSome = true ∧
    ((testingState 0).cores.get 0).org = .unified ∧ ((testingState 0).tests.get 0).inSlice = true ∧
    ((testingState 0).tests.get 0).part = 0 ∧ partSlices 0 = 1 ∧ ((testingState 0).tests.get 0).parts - 2 ^ 0 = 2 ∧
    ((testingState 0).arr 0 12).stand = false := by decide
theorem wit_FieldTests_reserve : (testingState 0xF0).testOf 0xF0 = some 0 ∧ ((testingState 0xF0).tests.get 0).part < 7 := by decide

theorem wit_Spills_out : ∃ s : State, (s.spill 0 0).phase = .spilling ∧ s.farPort 0 = some 0 :=
  ⟨(({ spills := ({} : Map Spill).put 0 { phase := .spilling }, ports := ({} : Map HostPort).put 0 { linkUp := true } } : State).setRegN (Reg.FTR_CTL 0) 1), by decide, by decide⟩
theorem wit_Spills_back : (({ spills := ({} : Map Spill).put 0 { phase := .restoring } } : State).spill 0 0).phase = .restoring ∧
    0 * frameBytes {} + 0 = ([] : List Byte).length := by decide

theorem wit_DawnSequence_begin : State.reset.pwr.dawn = 0 ∧ State.reset.inputFree = true := by decide
/-- The dawn at one of its rows, on the RC oscillator. -/
def dawnState (n : Nat) : State := { pwr := { dawn := n }, clk := { rc := true } }
theorem wit_DawnSequence_rows : (dawnState 3).pwr.dawn = 3 ∧ (dawnState 4).clk.refLost = false ∧ (dawnState 2).clk.rc = true ∧
    (dawnState 2).clk.stays = false ∧ 2 ≤ (dawnState 2).pwr.dawn ∧ 0 < (dawnState 5).fuses.stackN ∧ ((dawnState 5).peds.get 0).state = 0 ∧
    (dawnState 5).pwr.dawnKind = 0 := by decide
theorem wit_DawnSequence_clocks : ({ pwr := { dawn := 6 } } : State).clk.rc = false ∧ ({ pwr := { dawn := 6 } } : State).clk.refLost = false ∧
    ({ clk := { refLost := true } } : State).clk.refLost = true := by decide

theorem wit_PowerSupervision_trip : (dawnState 6).pwr.dawn ≠ 0 ∧ 2 ≤ (dawnState 6).pwr.dawn ∧ (dawnState 6).pwr.shutting = false ∧
    (dawnState 6).pwr.lost.get 1 < (railPhases[1]?).getD 0 ∧ (dawnState 6).pwr.lost.get 1 = 0 := by decide
theorem wit_PowerSupervision_restart : ({ pwr := { trip := some (0, 0), faultN := true } } : State).pwr.trip.isSome = true ∧
    ({ pwr := { trip := some (0, 0), faultN := true } } : State).pwr.lockout = false ∧
    ({ pwr := { trip := some (0, 0), faultN := true } } : State).pwr.off = false := by decide
theorem wit_PowerSupervision_lockout : ([1, 2, 3].filter (fun t => decide (5 < t + 60000))).length = 3 := by decide
theorem wit_PowerSupervision_off : ({ pwr := { shutting := true } } : State).pwr.shutting = true := by decide

theorem wit_PowerStates_tick : ∃ s : State, 4 ≤ s.pwr.dawn ∧ s.clk.refLost = false ∧ s.clk.frieze = true ∧ s.pwr.shutting = false ∧
    s.pwr.env ≤ s.eMax + s.ramp :=
  ⟨{ pwr := { dawn := 6 }, clk := { frieze := true } }, by decide⟩
theorem wit_PowerStates_entry : ∃ s : State, 6 ≤ s.pwr.dawn ∧ s.clk.refLost = false ∧ (s.domains.get 0).state = 0 ∧
    s.chooseState 0 0 0 [] = 3 :=
  ⟨{ pwr := { dawn := 6 }, domains := ({} : Map Domain).put 0 { state := 0 }, fuses := { grade := 0 }, img := { power := { deepest := 3 } } }, by decide⟩
theorem wit_PowerStates_wake : ∃ s : State, (s.domains.get 3).state ≠ 0 ∧ (s.domains.get 3).waking = false ∧ (s.domains.get 4).waking = true :=
  ⟨{ domains := (({} : Map Domain).put 3 { state := 2 }).put 4 { state := 2, waking := true } }, by decide⟩

/-- Position 0 of core 0 with one original queued, one driven, or one waiting. -/
def strikeArr (q : List Strike) (d : List Drive) (w : List Strike) : State :=
  { arrays := ({} : Map Arr).put (arrKey 0 0) { queue := q, driven := d, waiting := w } }
theorem wit_ArrayStrikes_latch : (strikeArr [{ split := true, main := { codes := [1] } }] [] []).arrIssues 0 0 = true ∧
    ((strikeArr [{ split := true, main := { codes := [1] } }] [] []).arr 0 0).awaiting < 2 ∧
    ((strikeArr [{ split := true, main := { codes := [1] } }] [] []).arr 0 0).dueAhead
      ((strikeArr [{ split := true, main := { codes := [1] } }] [] []).thrOf 0).sampleInterval = false ∧ allZero [1] = false := by decide
theorem wit_ArrayStrikes_boundary : ((strikeArr [] [{ codes := [1] }] []).arr 0 0).driven = [{ codes := [1] }] ∧
    ({ codes := [1] } : Drive).kind = .orig := by decide
theorem wit_ArrayStrikes_lane : ((strikeArr [] [] [{ lane := [(0, 1)] }]).arr 0 0).waiting.find? (fun k => !k.lane.isEmpty && k.corr.isNone)
    = some { lane := [(0, 1)] } := by decide
theorem wit_ArrayStrikes_fallback : ((strikeArr [] [] [{ exact := [(0, 1)], main := { settled := true } }]).arr 0 0).waiting
      = [{ exact := [(0, 1)], main := { settled := true } }] ∧
    ({ settled := true } : Conv).needsFallback = false := by decide
theorem wit_ArrayStrikes_deliver : ({} : Strike).complete = false ∧ ({ main := { settled := true } } : Strike).complete = true := by decide

theorem wit_GroupResults_write : ∃ s : State, ((s.cores.get 0).jobs.find? (fun j => j.got.length == (maskPositions j.mask).length)).isSome = true ∧
    (s.cores.get 0).paired = false :=
  ⟨{ cores := ({} : Map Core).put 0 { jobs := [{ mask := 1, got := [(0, [], 0, 0, [])] }] } }, by decide⟩
/-- Cores 0 and 1 are a redundancy pair, each with a result to compare. -/
def pairState (r : RedState) : State :=
  { cores := (({} : Map Core).put 0 { paired := true, primary := true, partner := 1, redOut := [{}], red := r }).put 1 { paired := true, partner := 0, redOut := [{}] } }
theorem wit_GroupResults_pair : ((pairState .clean).cores.get 0).paired = true ∧ ((pairState .clean).cores.get 0).primary = true ∧
    ((pairState .clean).cores.get 0).suspended = false ∧ ((pairState .clean).cores.get 0).partner ≠ 0 ∧
    ((pairState .clean).cores.get 0).redOut = [{}] ∧ ((pairState .clean).cores.get 1).redOut = [{}] ∧
    ((pairState .arbitrate).cores.get 0).red = .arbitrate := by decide

/-- Position 0 of core 0 with one load, being written or not. -/
def loadArr (on : Bool) (rows : Nat) : State := { arrays := ({} : Map Arr).put (arrKey 0 0) { loads := [{ rows := rows }], loading := on } }
theorem wit_PlaneLoads_start : (List.range 13).any (fun b => ((loadArr false 0).arr 0 b).loading) = false ∧
    (loadArr false 0).nextLoad 0 = some (0, {}) ∧ (loadArr false 0).partnerArr 0 0 = none := by decide
theorem wit_PlaneLoads_row : ((loadArr true 5).arr 0 0).loading = true ∧ ((loadArr true 5).arr 0 0).loads = [{ rows := 5 }] ∧
    (loadArr true 5).partnerArr 0 0 = none ∧ ({ rows := 5 } : PlaneLoad).attempts < 3 := by decide
theorem wit_PlaneLoads_end : ((loadArr true 512).arr 0 0).loads = [{ rows := 512 }] := by decide
theorem wit_PlaneLoads_check : ({ check := some {} } : Arr).check = some {} ∧ ({ check := some {} } : Arr).driftN + 1 < 1024 ∧
    (State.reset.cals.get 0).checkOnly = false := by decide
theorem wit_PlaneLoads_test : ({ testPending := some (0, 3) } : Arr).testPending = some (0, 3) := by decide

/-- Core 0 with a calibration state. -/
def calState (c : Cal) : State := { cals := ({} : Map Cal).put 0 c }
theorem wit_CalibrationTurns_due : ((calState {}).cals.get 0).state = 0 ∧ ((calState {}).cores.get 0).retired = false ∧
    (calState {}).spareHeld 0 = false ∧ ((calState {}).arr 0 0).retired = false ∧
    ((calState { front := [7] }).cals.get 0).front.find? (fun a => !((calState { front := [7] }).arr 0 a).retired) = some 7 := by decide
theorem wit_CalibrationTurns_held :
    ({ arrays := ({} : Map Arr).put (arrKey 0 12) { retired := true } } : State).spareHeld 0 = true := by decide
theorem wit_CalibrationTurns_ready : ((calState { state := 1 }).cals.get 0).state = 1 ∧ ((calState { state := 1 }).cals.get 0).again = 0 := by decide
theorem wit_CalibrationTurns_compare : ((calState { state := 3, cmp := some (8, [1]) }).cals.get 0).cmp = some (8, [1]) ∧
    ((calState { state := 3, cmp := some (8, [1]) }).cals.get 0).state = 3 := by decide
theorem wit_CalibrationTurns_limit : ((calState { state := 4, comps := 1024 }).cals.get 0).state = 4 ∧
    1024 ≤ ((calState { state := 4, comps := 1024 }).cals.get 0).comps := by decide
theorem wit_CalibrationTurns_fit : ((calState { state := 5 }).cals.get 0).state = 5 ∧ ((calState { state := 5, target := 12 }).cals.get 0).target = 12 := by decide

/-- Die 0 with one entry to write. -/
def storeState : State := { calStores := ({} : Map CalStore).put 0 { queue := [(3, true), (16, false)] } }
theorem wit_StoredRecords_write : (storeState.calStores.get 0).queue.find? (fun q => !q.2) = some (16 * 1 + 0, false) := by decide
set_option maxRecDepth 20000 in
theorem wit_StoredRecords_slot : (storeState.calStores.get 0).freeSlot = some 0 := by decide
theorem wit_StoredRecords_pool : ({ arrays := ({} : Map Arr).put (arrKey 0 0) { needsCoef := true } } : State).calDie 0 = 0 ∧
    (({ arrays := ({} : Map Arr).put (arrKey 0 0) { needsCoef := true } } : State).arr 0 0).needsCoef = true := by decide
theorem wit_StoredRecords_prioritise : 0 < State.reset.fuses.grade ∧ (State.reset.arr 0 12).retired = false ∧
    12 ∉ (State.reset.cals.get 0).front ∧ (State.reset.cals.get 0).state = 0 := by decide
theorem wit_StoredRecords_security : ({ sec := { writes := [(1, 5)] } } : State).sec.writes.find? (fun w => w.1 == 1) = some (1, 5) := by decide

/-- Core 0 with array 3 and a calibration state. -/
def tileState (x : Arr) (c : Cal) : State :=
  { arrays := ({} : Map Arr).put (arrKey 0 3) x, cals := ({} : Map Cal).put 0 c }
theorem wit_TilesAndAccess_swap : TileEnds (tileState { swapPending := true } {}) 0 3 ∧
    ((tileState { swapPending := true } {}).arr 0 3).swapReady = true ∧ ((tileState {} {}).cals.get 0).state = 0 ∧
    ((tileState { swapPending := true, loading := true } {}).arr 0 3).swapReady = false := by decide
theorem wit_TilesAndAccess_stand : TileEnds (tileState {} { state := 2, target := 3 }) 0 3 ∧
    (tileState {} { state := 2, target := 3 }).loadDue 0 3 = false ∧
    ((tileState {} { state := 2, target := 3 }).cals.get 0).target = 3 := by decide
theorem wit_TilesAndAccess_open : State.reset.spmOpen 0 = true ∧ State.reset.testReadOk 0 12 (State.reset.debugOpen 2) = true ∧
    8 * bits 0x17FFF8 20 3 < 0x180000 := by decide
theorem wit_TilesAndAccess_closed : ({ cores := ({} : Map Core).put 0 { org := .normal } } : State).spmOpen 0 = false ∧
    ({ cores := ({} : Map Core).put 0 { org := .normal } } : State).testReadOk 0 12 true = false := by decide
set_option maxRecDepth 20000 in
theorem wit_TilesAndAccess_word : State.reset.regN (Reg.SPM_ACC_ADDR 159) % 8 = 0 ∧ State.reset.regN (Reg.SPM_ACC_ADDR 159) < 0x180000 := by decide

/-- Instance 0 has the sets of slots 0 and 1, slot 2 is bound. -/
def setState (l : List WLoad) : State :=
  { winsts := ({} : Map WInst).put 0 { sets := [{ slot := 0 }, { slot := 1, space := 1 }] }
    wslots := ({} : Map WSlot).put 2 { state := 2 }, wloads := l
    img := { insts := ({} : Map (Option SealedInst)).put 0 (some {}) } }
theorem wit_WeightCommands_bind : (setState []).slotResident 3 = false ∧ (setState []).slotLoading 3 = false ∧
    ((setState []).wslots.get 3).state ≠ 1 ∧ (setState []).slotResident 0 = true := by decide
theorem wit_WeightCommands_unbind : ((setState []).wslots.get 2).state = 2 ∧ (setState []).slotResident 2 = false ∧
    ∀ i, i < 16 → (setState []).hasInst i = true → ((setState []).winsts.get i).current ≠ 2 := by decide
theorem wit_WeightCommands_load : (setState []).hasInst 0 = true ∧ (setState []).loadOf 2 0 = none ∧
    (((setState []).winsts.get 0).setOf 2).isNone = true ∧ (setState []).wloads.length < 16 ∧
    (setState []).loadChecks 2 0 = some wShape := by decide
theorem wit_WeightCommands_unload : (((setState []).winsts.get 0).setOf 1).isSome = true ∧ (setState []).setIdle 0 1 = true ∧
    (setState []).setIdle 0 0 = false := by decide
theorem wit_WeightCommands_switch : ((setState []).winsts.get 0).pending = none ∧ ((setState []).winsts.get 0).draining = none ∧
    ((setState []).winsts.get 0).shape = none ∧ 1 ≠ ((setState []).winsts.get 0).current := by decide
theorem wit_WeightCommands_reload : (setState [{ slot := 2, space := some 1 }]).reloading 0 1 = false ∧
    (setState [{ slot := 2, space := some 1 }]).wloads = [{ slot := 2, space := some 1 }] := by decide

/-- Slot 0 is in a binding, slot 2 is bound with one unencrypted record, which a load brings to an instance with n spaces. -/
def loadState (l : List WLoad) (far : Bool) (n : Nat) : State :=
  { wslots := (({} : Map WSlot).put 2 { state := 2, pkg := { tiles := [{ far := far, mat := 1 }] } }).put 0 { state := 1 }
    wloads := l, img := { insts := ({} : Map (Option SealedInst)).put 0 (some {}) }
    winsts := ({} : Map WInst).put 0 { current := 5, shape := some { nsp := n }, sets := [{ slot := 4, space := 0 }] } }
theorem wit_WeightLoads_bind : ((loadState [] false 1).wslots.get 0).state = 1 := by decide
theorem wit_WeightLoads_check : checkPackage [] [] 0 devMaxVocab = .error wHeader := rfl
theorem wit_WeightLoads_head : (loadState [{ slot := 2 }] false 2).loadChecks 2 0 = none ∧
    (loadState [{ slot := 2 }] false 2).loadSpaces ((loadState [] false 2).wslots.get 2).pkg 0 = 2 ∧
    1 ∉ (loadState [{ slot := 2 }] false 2).spacesUsed 0 ∧ 0 ∈ (loadState [{ slot := 2 }] false 2).spacesUsed 0 := by decide
theorem wit_WeightLoads_lru : (loadState [{ slot := 2 }] false 1).lruIdle 0 = some { slot := 4, space := 0 } ∧
    ((loadState [] false 1).winsts.get 0).setOf 4 = some { slot := 4, space := 0 } := by decide
theorem wit_WeightLoads_record : (loadState [{ slot := 2, space := some 0 }] true 1).wloads = [{ slot := 2, space := some 0 }] ∧
    ((loadState [] true 1).wslots.get 2).pkg.tiles[0]? = some { far := true, mat := 1 } ∧
    ((loadState [] true 1).wslots.get 2).stale = false := by decide
set_option maxRecDepth 20000 in
theorem wit_WeightLoads_scales : scalesOk { cols := 0 } 0 [] [] = true := by decide
theorem wit_WeightLoads_length : (List.replicate recordLen (0 : Byte)).length = recordLen := List.length_replicate ..
theorem wit_WeightLoads_complete : ((loadState [] false 1).wslots.get 2).pkg.tiles.length ≤ 1 ∧
    (loadState [{ slot := 2 }] false 1).loadOf 2 0 = some { slot := 2 } := by decide

set_option maxRecDepth 20000 in
theorem wit_RingEnable_reset : bit (State.reset.regN (Reg.SQ_CFG 3)) 31 = false ∧ bit (State.reset.regN (Reg.RQ_CFG 3)) 31 = false ∧
    bit 0x80000006 31 = true ∧ State.reset.ringValid 6 16 0x80000006 (Reg.SQ_BASE_LO 3) = true ∧
    State.reset.ringValid 6 16 0x80000006 (Reg.RQ_BASE_LO 3) = true := by decide
set_option maxRecDepth 20000 in
theorem wit_RingEnable_others : bit (State.reset.regN Reg.CMD_CFG) 31 = false ∧ bit (State.reset.regN Reg.EVR_CFG) 15 = false ∧
    State.reset.ringValid 4 12 0x80000004 Reg.CMD_BASE_LO = true ∧ State.reset.ringValid 6 16 0x8006 Reg.EVR_BASE_LO = true := by decide
/-- Record ring 1 enabled with 64 entries and two records pending, on a port with a link. -/
def recState : State :=
  { regs := ({} : Map (Option W32)).put (Reg.RQ_CFG 1) (some 0x80000006)
    recRings := ({} : Map RecRing).put 1 { queue := [[1], [2]] }, ports := ({} : Map HostPort).put 0 { linkUp := true } }
set_option maxRecDepth 20000 in
theorem wit_RingEnable_records : bit (recState.regN (Reg.RQ_CFG 1)) 31 = true ∧ (recState.recRings.get 1).queue = [[1], [2]] ∧
    recState.regN (Reg.RQ_HEAD 1) = 0 ∧ recState.regN (Reg.RQ_TAIL 1) = 0 ∧ 1 ≤ bits (recState.regN (Reg.RQ_CFG 1)) 4 0 ∧
    (recState.ports.get (bits (recState.regN (Reg.RQ_CFG 1)) 8 8)).linkUp = true := by decide

/-- Submission ring 2 and the command ring enabled and empty. -/
def sqState : State :=
  { regs := (({} : Map (Option W32)).put (Reg.SQ_CFG 2) (some 0x80000006)).put Reg.CMD_CFG (some 0x80000004) }
set_option maxRecDepth 20000 in
theorem wit_RingsAndRecords_tail : bit (sqState.regN (Reg.SQ_CFG 2)) 31 = true ∧ sqState.regN (Reg.SQ_HEAD 2) = 0 ∧
    sqState.regN (Reg.SQ_TAIL 2) = 0 ∧ 2 ^ bits (sqState.regN (Reg.SQ_CFG 2)) 4 0 = 64 ∧
    (63 + 64 - 0) % 64 ≤ (0 + 64 - 0 - 1) % 64 ∧ (sqState.subRings.get 2).desc = none := by decide
set_option maxRecDepth 20000 in
theorem wit_RingsAndRecords_cmd : bit (sqState.regN Reg.CMD_CFG) 31 = true ∧ sqState.regN Reg.CMD_HEAD = 0 ∧ sqState.regN Reg.CMD_TAIL = 0 ∧
    2 ^ bits (sqState.regN Reg.CMD_CFG) 4 0 = 16 ∧ (15 + 16 - 0) % 16 ≤ (0 + 16 - 0 - 1) % 16 := by decide
set_option maxRecDepth 20000 in
theorem wit_RingsAndRecords_batch : 0 < min ((recState.regN (Reg.RQ_HEAD 1) % 64 + 64 - recState.regN (Reg.RQ_TAIL 1) - 1) % 64)
    (recState.recRings.get 1).queue.length := by decide
theorem wit_RingsAndRecords_readback : (({} : Map RecRing).put 1 { inFlight := 2, queue := [[1], [2]] }).get 1 =
    { inFlight := 2, queue := [[1], [2]] } := by decide

/-- Instance 0 sealed with four slots and its set resident; ring 0 holds a request for it. -/
def reqState (c : Chunk) (x : SubRing) : State :=
  { img := { insts := ({} : Map (Option SealedInst)).put 0 (some { inst := { maxSeqs := 4 }, mem := { frames := 9 } }) }
    winsts := ({} : Map WInst).put 0 { sets := [{}] }, subRings := ({} : Map SubRing).put 0 x
    seqs := ({} : Map Seq).put (seqKey 0 0) { state := .waiting, chunk := c } }
theorem wit_Requests_descriptor : ((reqState .none { reading := true }).subRings.get 0).reading = true ∧
    (reqState .none {}).pwr.shutting = false ∧ descShapeOk [] = false ∧ (reqState .none {}).entryFree 3 = true := by decide
/-- A descriptor for instance 0 with a prompt of one token. -/
def descBytes : List Byte := List.replicate 8 0 ++ [1] ++ List.replicate 15 0 ++ [1] ++ List.replicate 103 0
set_option maxRecDepth 20000 in
theorem wit_Requests_shape : descShapeOk descBytes = true ∧ samplingOk descBytes = true := by decide
theorem wit_Requests_pass : (reqState .none { reading := true }).checkRequest 0 (parseDesc descBytes 0) true = (reqState .none { reading := true }, .pass) := rfl
theorem wit_Requests_list : ((reqState .none { desc := some {}, listWait := true }).subRings.get 0).desc = some {} ∧
    ((reqState .none { desc := some {}, listWait := true }).subRings.get 0).listWait = true := by decide
theorem wit_Requests_listed : (reqState .none { desc := some {}, shape := true, sampling := true, list := [5] }).checkRequest 0 {} true
    = (reqState .none { desc := some {}, shape := true, sampling := true, list := [5] }, .pass) := rfl
theorem wit_Requests_accept : (reqState .none { desc := some {}, shape := true, sampling := true }).freeSlot 0 = some 1 ∧
    (reqState .none { desc := some {}, shape := true, sampling := true }).entryFree 0 = true := by decide
theorem wit_Requests_accepted : (reqState .none { desc := some {}, shape := true, sampling := true }).checkRequest 0 {} true
    = (reqState .none { desc := some {}, shape := true, sampling := true }, .pass) := rfl
theorem wit_Requests_slots : SlotsInRange (reqState .none {}) := by
  intro i x h
  by_cases hi : i = 0
  · subst hi
    have e : (reqState .none {}).img.insts.get 0 = some { inst := { maxSeqs := 4 }, mem := { frames := 9 } } := by decide
    rw [e] at h; cases h; decide
  · have e : (reqState .none {}).img.insts.get i = none := by
      show (({} : Map (Option SealedInst)).put 0 _).get i = none
      rw [Map.get_put_ne _ _ hi]; rfl
    rw [e] at h; cases h
theorem wit_Requests_chunk : ((reqState .fetching {}).seq 0 0).chunk = .fetching ∧ (reqState .fetching {}).chunkLen 0 ((reqState .fetching {}).seq 0 0) = 0 := by
  decide

/-- Instance 0 sealed, with one sequence and a run-time state. -/
def schState (x : Seq) (r : InstRun) : State :=
  { img := { insts := ({} : Map (Option SealedInst)).put 0 (some {}) }, seqs := ({} : Map Seq).put (seqKey 0 5) x
    insts := ({} : Map InstRun).put 0 r, regs := ({} : Map (Option W32)).put Reg.SCH_STEP_LIMIT (some 9) }
theorem wit_SchedulerCommands_evict : ((schState { state := .active, inStep := true } {}).seq 0 5).state = .active ∧
    (schState { state := .active, inStep := true } {}).isDraft 0 = false ∧ ((schState {} {}).seq 0 6).state = .free := by decide
theorem wit_SchedulerCommands_all : (schState { state := .active } {}).hasInst 0 = true ∧ 5 ∈ (schState { state := .active } {}).residents 0 := by decide
theorem wit_SchedulerCommands_release : ((schState {} { heldCmd := true }).insts.get 0).heldCmd = true := by decide
theorem wit_SchedulerCommands_deadline : ((schState { state := .waiting, desc := { deadline := some 7 } } {}).seq 0 5).desc.deadline.isSome = true ∧
    ((schState { state := .waiting, desc := { deadline := some 7 } } {}).seq 0 5).state = .waiting := by decide
theorem wit_SchedulerCommands_limit : ((schState {} { state := 1 }).insts.get 0).state = 1 ∧ ((schState {} { state := 1 }).insts.get 0).ended = false ∧
    (schState {} { state := 1 }).regN Reg.SCH_STEP_LIMIT ≠ 0 := by decide

/-- Instance 0 with a step of one entry and one row; core 0 hands over one logit. -/
def rowState (st : Nat) (sample : Bool) (row : SmpRow) : State :=
  { img := { insts := ({} : Map (Option SealedInst)).put 0 (some {}) }, seqs := ({} : Map Seq).put (seqKey 0 0) { state := .active, inStep := true }
    insts := ({} : Map InstRun).put 0 { state := st, ents := [{}], rows := [{ sample := sample }] }
    cores := ({} : Map Core).put 0 { inst := some 0 }, handoffs := [{ o := { count := 0, rows := 1 } }]
    smpRows := ({} : Map SmpRow).put (seqKey 0 0) row }
/-- The same with the instance's set resident. -/
def startState : State := { rowState 2 true {} with winsts := ({} : Map WInst).put 0 { sets := [{}] } }
theorem wit_StepsAndRows_start : (startState.insts.get 0).state = 2 ∧ (startState.insts.get 0).ents ≠ [] ∧
    startState.canBegin 0 = true ∧ startState.draftOf 0 = none := by decide
theorem wit_StepsAndRows_boundary : (rowState 0 true {}).hasInst 0 = true ∧ (rowState 0 true {}).isDraft 0 = false ∧
    ((rowState 0 true {}).insts.get 0).state = 0 := by decide
theorem wit_StepsAndRows_commit : ((rowState 1 true {}).seq 0 0).inStep = true ∧ ((rowState 1 true {}).seq 0 0).state ≠ .free := by decide
theorem wit_StepsAndRows_slice : (rowState 1 true {}).handoffs.find? (fun h => h.core == 0 && h.flight == 0) = some { o := { count := 0, rows := 1 } } ∧
    ((rowState 1 true {}).insts.get 0).rows[0]? = some { sample := true } ∧ (rowState 1 true {}).bufferUsed 0 + 4 * (rowState 1 true {}).vocabOf 0 ≤ 2 ^ 23 := by
  decide
theorem wit_StepsAndRows_row : (rowState 1 true { slices := [(0, [0])] }).rowOwner 0 0 = some (0, 0) ∧
    (rowState 1 true { slices := [(0, [0])] }).vocabOf 0 ≤ ((rowState 1 true { slices := [(0, [0])] }).smpRows.get (seqKey 0 0)).count := by decide
theorem wit_StepsAndRows_allowed : (rowState 1 true {}).rowAllowed ((rowState 1 true {}).seq 0 0) 0 = .inl (some (fun _ => true)) := rfl

theorem wit_ReplicaRounds_frame : ({ icps := ({} : Map IcpPort).put 3 { state := .active } } : State).digests.any (fun x => x.same {}) = false ∧
    (({ icps := ({} : Map IcpPort).put 3 { state := .active } } : State).icp 3).up = true ∧ (State.reset.icp 3).up = false := by decide
theorem wit_ReplicaRounds_awaits : (({ replicas := ({} : Map Replica).put 2 { awaiting := some 4 } } : State).replicas.get 2).awaiting = some 4 := by decide
theorem wit_ReplicaRounds_vote : 3 < 2 * (([{ modelId := 1 }, { modelId := 2 }, {}] : List Digest).filter
    (fun x => x.digest == ({} : Digest).digest)).length ∧ ({ digest := { c := 1 } } : Digest).digest ≠ ({} : Digest).digest := by decide

def fmtState (f : FmtLayer) : State :=
  { img := { insts := ({} : Map (Option SealedInst)).put 0 (some {}) }, fmts := ({} : Map FmtLayer).put (fmtKey 0 3) f }
theorem wit_FormatsAndTakeovers_window : (fmtState { win := { checks := 65536, conv := 1 } }).hasInst 0 = true ∧
    (fmtState { win := { checks := 65536, conv := 1 } }).sealedWide 0 3 = false ∧
    (fmtState { win := { checks := 65536, conv := 1 } }).satMetric 0 = false ∧
    ((fmtState { win := { checks := 65536, conv := 1 } }).fmts.get (fmtKey 0 3)).win.checks = 65536 := by decide
def takeState (k : ArrTakeover) : State := { arrTakeovers := [k] }
theorem wit_FormatsAndTakeovers_copy : (takeState { core := 2, pos := 11 }).arrTakeovers.find? (·.core == 2) = some { core := 2, pos := 11 } ∧
    (takeState { core := 2, pos := 11, front := true }).arrTakeovers.find? (·.core == 2) = some { core := 2, pos := 11, front := true } ∧
    ((takeState {}).arr 2 12).loads.any (·.first) = false := by decide
theorem wit_FormatsAndTakeovers_far : State.reset.farBusy 15 = false := by decide

/-- Housekeeping runs; slice 1 as given. -/
def hkaState (x : Slice) (h : Hka) : State :=
  { pwr := { dawn := 5 }, hka := { h with slices := ({} : Map Slice).put 1 x } }
theorem wit_HousekeepingConverter_slot : 4 ≤ (hkaState { done := 12 } {}).pwr.dawn ∧ (hkaState { done := 12 } {}).clk.refLost = false ∧
    ((hkaState {} {}).domains.get 18).state ≠ 3 ∧ (hkaState { done := 12 } {}).hka.role = 0 ∧
    ((hkaState { done := 12 } {}).hka.slices.get 1).done < 13 ∧ ((hkaState { inj := some 7 } {}).hka.slices.get 1).inj = some 7 := by decide
theorem wit_HousekeepingConverter_trigger : bit ((hkaState {} { injCfg := ({} : Map Nat).put 2 (2 ^ 31 + 2 ^ 4 + 1), conv := 4 }).injReg 2) 4 = true ∧
    bit ((hkaState {} { injCfg := ({} : Map Nat).put 2 (2 ^ 31 + 2 ^ 4 + 1), conv := 4 }).injReg 2) 31 = true ∧
    bit (hkaState {} { injCfg := ({} : Map Nat).put 2 (2 ^ 31 + 2 ^ 4 + 1), conv := 4 }).hka.conv 2 = true := by decide
theorem wit_HousekeepingConverter_visit : bit (({ (hkaState {} {}) with regs := ({} : Map (Option W32)).put Reg.HKA_CTL (some 2) } : State).regN
    Reg.HKA_CTL) 1 = true ∧ (hkaState {} {}).roundStart = true ∧ ((hkaState {} {}).hka.slices.get 0).retired = false := by decide
def roundState : State := { pwr := { dawn := 5 }, hka := { slices :=
  (((({} : Map Slice).put 0 { done := 16 }).put 1 { done := 16 }).put 2 { done := 16 }).put 3 { retired := true } } }
theorem wit_HousekeepingConverter_round : roundState.roundDone = true := by decide

/-- Instance 0 with 64 prefix frames; prefix slot 7 as given, its length 33 positions. -/
def pfxState (x : Prefix) : State :=
  { img := { insts := ({} : Map (Option SealedInst)).put 0 (some { mem := { prefixFrames := 64 } }) }
    prefixes := ({} : Map Prefix).put 7 x, regs := ({} : Map (Option W32)).put (Reg.PFX_LEN 7) (some 33) }
theorem wit_PrefixSlots_load : (pfxState {}).hasPrefixes = true ∧ ((pfxState {}).prefixes.get 7).state = .empty ∧ (pfxState {}).hasInst 0 = true ∧
    (pfxState {}).regF (Reg.PFX_LEN 7) 10 0 = 33 ∧ ((pfxState {}).freePfxFrames 0 3).length = 3 := by decide
theorem wit_PrefixSlots_unload : ((pfxState { state := .ready, frames := [1] }).prefixes.get 7).state = .ready ∧
    ((pfxState { state := .ready, refs := 2 }).prefixes.get 7).refs ≠ 0 := by decide
theorem wit_PrefixSlots_done : ((pfxState { state := .loading }).prefixes.get 7).state = .loading ∧
    ([] : List Byte).length = prefixBytes ((pfxState { state := .loading }).planOf 0) ((pfxState { state := .loading }).prefixes.get 7).len := by decide

def grmState (x : Grammar) : State := { grammars := ({} : Map Grammar).put 63 x, seqs := ({} : Map Seq).put (seqKey 1 2) { state := .active } }
theorem wit_GrammarSlots_load : (grmState {}).hasGrammar = true ∧ ((grmState {}).grammars.get 63).state = .empty ∧
    ((grmState { state := .loading }).grammars.get 63).state = .loading := by decide
theorem wit_GrammarSlots_unload : ((grmState { state := .ready }).grammars.get 63).state = .ready ∧
    ((grmState { state := .ready, refs := 1 }).grammars.get 63).refs ≠ 0 := by decide
theorem wit_GrammarSlots_header : grmHeaderOk [] ((grmState { state := .loading }).reg64 (Reg.GRM_LEN_LO 63)) = false := by decide
/-- A grammar of one state, one bitset of two tokens and no transition: 64 + 16 bytes of tables, the bitset from 128. -/
def smallGrammar : List Byte :=
  ([0x48, 0x47, 0x52, 0x4D, 1, 0, 64, 0, 192, 0, 0, 0, 0, 0, 0, 0, 2, 0, 0, 0, 1, 0, 0, 0, 1, 0, 0, 0, 0, 0, 0, 0,
    128, 0, 0, 0, 0, 0, 0, 0, 128, 0, 0, 0, 0, 0, 0, 0] : List Byte) ++ List.replicate 144 0
theorem wit_GrammarSlots_header_ok : grmHeaderOk smallGrammar 192 = true := by decide
theorem wit_GrammarSlots_ranges_ok : grmRangesOk smallGrammar 192 = true := by decide
theorem wit_GrammarSlots_ranges_bad : grmRangesOk smallGrammar 191 = false := by decide
theorem wit_GrammarSlots_tables : grmTablesOk 2 1 [(0, 0, 0, 0)] [] = true ∧ grmTablesOk 2 1 [(1, 0, 0, 0)] [] = false := by decide
theorem wit_GrammarSlots_read : ((grmState {}).seq 1 2).state = .active ∧ ((grmState {}).insts.get ((grmState {}).mainOf 1)).state ≠ 1 := by decide

/-- Port 1 as given; the clocks run. -/
def portState (x : HostPort) : State := { pwr := { dawn := 5 }, ports := ({} : Map HostPort).put 1 x, cmd := { reading := true } }
theorem wit_PortsAndResets_port : 1 < (portState { linkUp := true }).fuses.hostPorts ∧ ((portState { linkUp := true }).ports.get 1).linkUp = true ∧
    ((portState { training := true }).ports.get 1).training = true ∧ ((portState { training := true }).ports.get 1).linkUp = false ∧
    5 ≤ (portState {}).pwr.dawn ∧ State.reset.pwr.dawn < 5 := by decide
theorem wit_PortsAndResets_kept : keptReg Reg.CMD_HEAD = false ∧ keptReg Reg.FLT_INT_MAX = true := by decide
theorem wit_PortsAndResets_entry : (portState {}).cmd.reading = true ∧ (List.replicate 64 (0 : Byte)).length = 64 ∧
    (cmdFields (List.replicate 64 0)).opcode = 0 ∧ (cmdFields (List.replicate 64 0)).reserved = false := by decide

def openState : State := { sec := { locked := false }, peds := ({} : Map Ped).put 0 { state := 1 } }
theorem wit_HostServices_window : 1 < openState.fuses.hostPorts ∧ openState.debugOpen 0 = true ∧ ({ sec := { locked := true } } : State).debugOpen 0 = false ∧
    bit (openState.regN (Reg.HST_B4_SEL 1)) 31 = false ∧ openState.regN (Reg.HST_B4_SEL 1) % 8 < openState.fuses.stackN ∧
    (openState.peds.get 0).poisoned 0x9FFFFFFFC 1 = false := by decide
def irqState : State :=
  { regs := (({} : Map (Option W32)).put (Reg.HST_IRQ 15) (some 0xBF001000)).put (Reg.MSIX_TABLE 0 255) (some 0)
    irq := ({} : Map Irq).put 15 { pending := 1 }
    ports := ({} : Map HostPort).put 0 { linkUp := true, msixEnable := true, pba := 0x8000000000000000 } }
theorem wit_HostServices_irq : bit (irqState.regN (Reg.HST_IRQ 15)) 31 = true ∧ bits (irqState.regN (Reg.HST_IRQ 15)) 23 12 ≠ 0 ∧
    0 < (irqState.irq.get 15).pending := by decide
theorem wit_HostServices_msix : (irqState.ports.get 0).pba.getLsbD 63 = true ∧ (irqState.ports.get 0).linkUp = true ∧
    bit (irqState.regN (Reg.MSIX_TABLE 0 255)) 0 = false := by decide
def evrState (k : Nat) : State :=
  { regs := ({} : Map (Option W32)).put Reg.EVR_CFG (some 0xFFFF8006), ports := ({} : Map HostPort).put 0 { linkUp := true }
    log := { entries := [{ code := 0x1A01 }] }, evrInFlight := k }
theorem wit_HostServices_ring : bit ((evrState 0).regN Reg.EVR_CFG) 15 = true ∧ ((evrState 0).ports.get 0).linkUp = true ∧
    (evrState 3).evrInFlight ≠ 0 := by decide
theorem wit_HostServices_due : (evrState 0).evrRoom = 63 ∧ (evrState 0).evrWants (eventClass 0x1A01) = true := by decide
theorem wit_HostServices_mgmt : mgmtWritable Reg.PWR_CMD = true ∧ mgmtWritable Reg.CMD_CFG = false := by decide
theorem wit_HostServices_alert : ({ regs := (({} : Map (Option W32)).put Reg.HST_MGMT_STAT (some 8)).put Reg.HST_MGMT_EN (some 8) } : State).smbAlert = true ∧
    State.reset.smbAlert = false := by decide

/-- Icpen port 11 as given, which the image gives the role of a group peer. -/
def linkState (p : IcpPort) : State :=
  { icps := ({} : Map IcpPort).put 11 p, img := { ports := ({} : Map PortRole).put 11 { role := 1, peerSlot := 0xFF } } }
theorem wit_LinkTraining_flit : ((linkState { state := .active }).icp 11).up = true ∧ ((linkState { state := .degraded }).icp 11).trained = true ∧
    ((linkState { state := .hello, replay := [(4095, 16)] }).icp 11).replay ≠ [] := by decide
theorem wit_LinkTraining_lane : bit ((linkState { state := .active, lanes := 15 }).icp 11).lanes 3 = true ∧
    ((linkState { state := .active, lanes := 15 }).icp 11).lanes ≠ 2 ^ 3 ∧ ((linkState { state := .active, lanes := 8 }).icp 11).lanes = 2 ^ 3 := by decide
theorem wit_LinkTraining_train : ((linkState { state := .training, attempt := true, fails := 2 }).icp 11).attempt = true ∧
    1 ≤ ((linkState { state := .training }).icp 11).offer ∧ ((linkState { state := .training }).icp 11).hold = false := by decide
/-- The first bytes of a HELLO payload of generation 3, revision 3 and role 1. -/
theorem wit_LinkTraining_hello : let x := ((linkState { state := .hello, rev := 3 }).icp 11).note [1, 3, 3, 0, 1, 0] 0
    1 ≤ min (min 3 x.peerMaxRev) (genRev x.peerGen) ∧ x.peerRole = ((linkState {}).portRole 11).role := by decide

theorem wit_LinkExchange_auth : ((linkState { state := .auth, ownResult := some 0, adopted := 5, peerHash := 5 }).icp 11).ownResult = some 0 ∧
    ((linkState { state := .auth, ownResult := some 0, adopted := 5, peerHash := 5 }).icp 11).adopted ≠ 0 ∧
    ((linkState {}).portRole 11).peerSlot = 0xFF ∧ ((linkState { state := .auth }).icp 11).state = .auth ∧
    ((linkState { state := .auth }).icp 11).peerResult = none ∧ ((linkState {}).icp 11).state ≠ .auth := by decide
theorem wit_LinkExchange_key : ((linkState { state := .active, encrypted := true, keyRx := 2 ^ 36 }).icp 11).encrypted = true ∧
    2 ^ 36 ≤ ((linkState { state := .active, encrypted := true, keyRx := 2 ^ 36 }).icp 11).keyRx := by decide
theorem wit_LinkExchange_command : ((linkState { state := .quarantine, cause := 1 }).icp 11).state = .quarantine ∧
    ((linkState { state := .dark, rejected := true }).icp 11).rejected = true ∧ ((linkState { state := .hello }).icp 11).up = false := by decide
/-- Port 11 is the egress of instance 2, a first stage, and the ingress of instance 3. -/
def stageState : State :=
  { icps := ({} : Map IcpPort).put 11 { state := .active }, img := { insts := (({} : Map (Option SealedInst)).put 2
      (some { route := some { egressIcpen := true, egressPort := 11 } })).put 3 (some { route := some { ingressIcpen := true, ingressPort := 11 } }) } }
theorem wit_LinkExchange_stage : 2 ∈ stageState.stagesOn 11 false ∧ stageState.ingressIcpen 2 = false ∧ 3 ∈ stageState.stagesOn 11 true ∧
    stageState.streamWaiter 11 0xFEFF = none ∧ (stageState.icp 11).up = true := by decide

theorem wit_ReduceOnReceive : (({ op := 1, fmt := 3, dec := 2, bytes := [0x80, 0x3F] } : IcpMsg).into 0 [0x80, 0x3F]).isSome = true ∧
    ({ op := 2, fmt := 3, dec := 4, bytes := [0, 0, 0x80, 0x3F] } : IcpMsg).plain.length = 4 := by decide

/-- Session 3 as given; the identity is ready. -/
def secState (x : Session) : State := { sec := { identity := 1, sessions := ({} : Map Session).put 3 x } }
theorem wit_SecuritySessions_ready : (secState {}).sec.identity ≠ 2 ∧ ({ sec := { identity := 2 } } : State).sec.identity = 2 := by decide
theorem wit_SecuritySessions_session : (secState { phase := 1, transport := 2 }).sessionIs 2 3 1 = true ∧
    (secState { phase := 2, transport := 1 }).sessionIs 1 3 2 = true ∧ (secState { phase := 2, transport := 1 }).sessionIs 0 3 2 = false ∧
    ((secState {}).sec.sessions.get 0).phase = 0 := by decide
def fullState : State := { sec := { sessions :=
  (((({} : Map Session).put 0 { phase := 1 }).put 1 { phase := 1 }).put 2 { phase := 2 }).put 3 { phase := 1 } } }
theorem wit_SecuritySessions_full : ∀ j, j < 4 → (fullState.sec.sessions.get j).phase ≠ 0 := by decide

theorem wit_OwnersDebugAndTestPort_session : (secState { phase := 2, transport := 2, owner := some 1 }).secure 2 (some 3) = true ∧
    ((secState { phase := 2, transport := 2, owner := some 1 }).sec.sessions.get 3).owner = some 1 ∧
    (secState { phase := 1, transport := 2 }).secure 2 (some 3) = false ∧ (secState {}).enrolState ≠ 1 ∧ (secState {}).enrolState ≠ 2 ∧
    (secState {}).sec.enrol = none ∧ (secState {}).ownerKeys.map (·.1) ≠ [2] ∧ (secState {}).keyInUse 63 = false := by decide
/-- Slot 0 is fused with the hash of an all-zero key. -/
def ownerState : State := { sec := { identity := 1, sessions := ({} : Map Session).put 3 { phase := 2, transport := 2 }, banks := ⟨[(0, { commit := true, blown := true, valid := 1, hashes := ⟨[(0, Config.sha384 (List.replicate 96 0))]⟩ })]⟩ } }
theorem wit_OwnersDebugAndTestPort_prove : ownerState.secure 2 (some 3) = true ∧ ownerState.ownerKeyOk 0 (List.replicate 96 0) = true :=
  ⟨by decide, by
    have h : ownerState.ownerKeys = [(0, Config.sha384 (List.replicate 96 0))] := rfl
    simp [State.ownerKeyOk, h]⟩
theorem wit_OwnersDebugAndTestPort_fused : ∃ e, ({ sec := { enrol := some { hashes := [7] } } } : State).sec.enrol = some e ∧
    e.hashes[0]? = some 7 := ⟨_, rfl, rfl⟩
theorem wit_OwnersDebugAndTestPort_token : (List.replicate 200 (0 : Byte)).length = 200 ∧ State.reset.sec.verifying = none ∧ State.reset.sec.identity ≠ 2 ∧
    ({ sec := { verifying := some ([], 3) } } : State).unlockCheck [] = 2 :=
  ⟨List.length_replicate, rfl, by decide, rfl⟩
theorem wit_OwnersDebugAndTestPort_scope : ({ sec := { locked := true, scopes := 2 } } : State).debugOpen 1 = true ∧
    ({ sec := { locked := true, scopes := 1 } } : State).debugOpen 1 = false := by decide

/-! ### Ill-formed commands, one for each check -/

/-- Instruction words of more than 54 bits, and on threads that do not exist. -/
theorem test_illformed_words0 : ([
  .nop, .halt, .fence, .layer, .wait, .signal, .sread, .br, .call, .jr, .loop, .add, .sub, .mul, .and, .or, .xor,
  .shl, .shr, .sar, .min, .max, .movi, .movhi, .cmpeq, .cmpne, .cmplt, .cmple, .cmpltu, .pand, .por, .pnot, .vadd,
  .vsub, .vmul, .vfma, .vmax, .vmin, .vcvt, .vdiv, .vrcp, .vsqrt, .vrsqrt, .vexp, .vexp2, .vlog, .vtanh, .vsig,
  .vsilu, .vgelu] : List (Exec → Nat → Instr)).all (fun f =>
    !(f (.core 0 0) (2 ^ 54)).wf && !(f (.core 160 0) 0).wf && !(f (.core 0 32) 0).wf && !(f (.engine 8 0) 0).wf &&
      !(f (.engine 0 128) 0).wf && (f (.engine 7 127) (2 ^ 54 - 1)).wf) = true := by decide
/-- Instruction words of more than 54 bits, and on threads that do not exist. -/
theorem test_illformed_words1 : ([
  .vrope, .vsum, .vrmax, .vdot, .viadd, .visub, .vimul, .viand, .vior, .vixor, .vishl, .visar, .strike, .gset, .pload,
  .pswap, .chisel, .move, .push, .pop, .drop, .sedispatch, .shand, .pgatherK, .pgatherV, .sinit, .sstep, .sacc,
  .snorm, .scomb, .seret] : List (Exec → Nat → Instr)).all (fun f =>
    !(f (.core 0 0) (2 ^ 54)).wf && !(f (.core 160 0) 0).wf && !(f (.core 0 32) 0).wf && !(f (.engine 8 0) 0).wf &&
      !(f (.engine 0 128) 0).wf && (f (.engine 7 127) (2 ^ 54 - 1)).wf) = true := by decide
theorem test_illformed0 : ([
  .registerWrite .a 1 0 1 0, .registerWrite .a 0 268435456 1 0, .registerWrite .a 0 0 0 0, .registerWrite .a 0 0 9 0,
  .registerWrite .a 0 0 1 4294967296, .lowRegisterRead .a 268435456 1, .lowRegisterRead .a 0 0,
  .lowRegisterRead .a 0 9, .misalignedRead .a 1 0 1, .misalignedRead .a 0 268435456 1, .misalignedRead .a 0 0 0,
  .misalignedRead .a 0 0 9, .calPoolReadComplete 2 [], .inputTrip 4294967296 0, .powerStateEntry 19 0 0 [],
  .wakeStart 19 false, .wakeComplete 19 0 false, .perstAssertion 2, .hotReset 2, .functionLevelReset 2, .d3hotToD0 2,
  .perstDeassertion 2, .portLinkUp 2 0 0 false false false, .portLinkDown 2 .portReset, .strikeLatch 160 0,
  .strikeLatch 0 13, .strikeBoundary 160 0 [] [], .strikeBoundary 0 13 [] [], .laneCorrectionReady 160 0,
  .laneCorrectionReady 0 13, .fallbackComplete 160 0, .fallbackComplete 0 13, .groupResultWrite 160,
  .tileBoundary 160 0, .tileBoundary 0 13, .planeLoadStart 160 0, .planeLoadStart 0 13, .planeRowWritten 160 0 false,
  .planeRowWritten 0 13 false, .planeLoadComplete 160 0, .planeLoadComplete 0 13, .arrayTestRead 160 0 0,
  .arrayTestRead 0 13 0, .arrayTestRead 0 0 4294967296, .arrayTestReadDone 160 0, .arrayTestReadDone 0 13,
  .tileCheckComplete 160 0, .tileCheckComplete 0 13, .groupCompare 160, .arbitrationComplete 160 0 0,
  .layerPassComplete 16 0, .layerPassComplete 0 1024, .resetFallback 16 .a, .calTurnDue 160,
  .spareArrayReady 160 false false, .calComparisonComplete 160 [] [], .calFitComplete 160, .calTurnLimit 160,
  .calPrioritise 160 0 .a, .calPrioritise 0 256 .a] : List Instr).all (fun i => !i.wf) = true := by decide
theorem test_illformed1 : ([
  .calSave 160 .a, .calRecordWriteComplete 2 false, .saveHoldExpiry 2 0 0, .saveHoldExpiry 0 160 0,
  .saveHoldExpiry 0 0 13, .waitTimeout 160 0, .waitTimeout 0 32, .threadWatchdog 160 0, .threadWatchdog 0 32,
  .parityFailure 160 0 0 0, .parityFailure 0 0 0 13, .instructionRetirement 160 0, .completionFault 160 0 false,
  .layerBoundary 160, .engineThreadStart 8, .scrubPassStart false 160 0, .scrubPassStart false 0 4,
  .scrubRead false 160 0 [] [], .scrubRead false 0 4 [] [], .scratchpadRestart 160 0 0, .restoreComplete 160,
  .unify 160 .a, .resume 160 .a, .unifiedEntry 160, .spmAccAddrWrite 160 .a 0, .spmAccAddrWrite 0 .a 4294967296,
  .spmAccDataHiWrite 160 .a 0, .spmAccDataHiWrite 0 .a 4294967296, .transitBlockGrant 16,
  .register .a false 268435456 0, .register .a false 0 4294967296, .fabricFlit 16 0 0 0 false 0 0 0,
  .fabricFlit 0 2 0 0 false 0 0 0, .fabricFlit 0 0 32 0 false 0 0 0, .fabricFlit 0 0 0 4096 false 0 0 0,
  .fabricFlit 0 0 0 0 false 8 0 0, .linkAckTimeout 16 0 0 0, .linkAckTimeout 0 2 0 0, .linkAckTimeout 0 0 32 0,
  .linkLivenessTimeout 16 0 0, .linkLivenessTimeout 0 2 0, .linkLivenessTimeout 0 0 32, .idleFlitTimer 16 0 0,
  .idleFlitTimer 0 2 0, .idleFlitTimer 0 0 32, .dramAccessComplete 8 0 false 0 0 [], .dramTimeout 8 0,
  .dramTimeout 0 12, .refreshDue 8 false, .patrolPassStart 8, .ftrBaseWrite .a 16 0,
  .ftrBaseWrite .a 0 18446744073709551616, .ftrCtlWrite .a 16 0, .ftrCtlWrite .a 0 4294967296, .spillComplete 16 0,
  .spillComplete 0 4096, .spillRestoreComplete 16 0 [], .spillRestoreComplete 0 4096 [], .farTierLegError 16 0 0,
  .farTierLegError 0 4096 0] : List Instr).all (fun i => !i.wf) = true := by decide
theorem test_illformed2 : ([
  .farTierLinkWaitTimeout 16 0 0, .farTierLinkWaitTimeout 0 4096 0, .kvFlushComplete 16 0 0,
  .kvFlushComplete 0 4096 0, .walkerLineFetch 8, .pageBufferPrefetch 8 0 false, .pageBufferPrefetch 0 128 false,
  .pfxLoad 8 .a 0, .pfxLoad 0 .a 16, .pfxUnload 8 .a, .prefixLoadComplete 8 [], .prefixFetchError 8,
  .prefixFetchTimeout 8, .bind 8 .a, .unbind 8 .a, .load 8 0 .a, .load 0 16 .a, .unload 8 0 .a, .unload 0 16 .a,
  .switch 8 0 false .a, .switch 0 16 false .a, .reload 8 0 .a, .reload 0 16 .a, .bindFetchComplete 8 false [] [],
  .bindFetchTimeout 8, .loadTimeout 8 0, .loadTimeout 0 16, .sqTailWrite 4 .a 0, .sqTailWrite 0 .a 4294967296,
  .sqCfgWrite 4 .a 0, .sqCfgWrite 0 .a 4294967296, .rqHeadWrite 4 .a 0, .rqHeadWrite 0 .a 4294967296,
  .rqCfgWrite 4 .a 0, .rqCfgWrite 0 .a 4294967296, .cmdTailWrite .a 4294967296, .evrHeadWrite .a 4294967296,
  .requestDescriptor 4 false [], .listFetchComplete 4 false [], .requestAccepted 4, .stepBoundary 16,
  .stepStart 16 false, .promptChunkFetch 16 0 false [], .promptChunkFetch 0 4096 false [], .recordBatchWrite 4,
  .recordReadbackComplete 4, .stepLimitExpiry 16, .evict .a 16 0, .evict .a 0 4096, .evictAll .a 16, .hold .a 16,
  .release .a 16, .handoffSlice 160 0, .sampleRowComplete 16 0, .grammarFetchComplete 64 0 false [] 0 0,
  .grammarFetchComplete 0 0 false [] 16 0, .grammarFetchComplete 0 0 false [] 0 4096, .grammarReadTimeout 64 0 0,
  .grammarReadTimeout 0 16 0, .grammarReadTimeout 0 0 4096] : List Instr).all (fun i => !i.wf) = true := by decide
theorem test_illformed3 : ([
  .grmLoad 64 .a, .grmUnload 64 .a, .grammarLoadComplete 64 false [], .grammarLoadTimeout 64, .bar4Read 2 0 1,
  .bar4Read 0 0 0, .bar4Read 0 0 513, .bar4Write 2 0 [], .commandEntry [], .farTier 16 0 false 0,
  .farTier 0 4 false 0, .irqHoldExpiry 16, .msixPendingSend 2 0, .msixPendingSend 0 64, .write32 0 .ok 0 4294967296,
  .icpenFlit 12 false false 0 0 0 0 0 0, .icpenAckTimeout 12, .linkSilenceTimeout 12, .laneDrop 12 0 0,
  .laneDrop 0 4 0, .lanedrop 12 0, .lanedrop 0 4, .discoveryBurst 12, .trainingPatternDetected 12,
  .trainingTimeout 12, .trainingComplete 12 0 0, .hello 12 [], .helloTimer 12, .helloTimeout 12, .authShare 12 [],
  .authCert 12 [], .authSig 12 [], .authResult 12 0, .authTimeout 12, .authHoldExpiry 12, .linkRekey 12, .adopt 12 .a,
  .reject 12 .a, .retrain 12 .a, .icpenDataMessage 12 0 0 0 0 [], .icpenDataMessage 0 65536 0 0 0 [],
  .plan 12 0 0 0 0 0, .plan 0 16 0 0 0 0, .step 12 [] [], .result 12 [], .short 12 [],
  .digest 12 0 0 false false 0 0 0 0 0 0 0 0, .digest 0 0 16 false false 0 0 0 0 0 0 0 0, .digestEvaluationTimeout 16,
  .frontPlaneReady 160 false, .reserveCoreTakeover 160, .fatalCountWrite .a 4294967296, .fieldTestStart .a 256 0 0,
  .fieldTestStart .a 0 256 0, .fieldTestStart .a 0 0 256, .fieldTestAbort .a 256,
  .fieldTestSliceEnd 256 false false 0, .fieldTestSliceEnd 0 false false 13, .conversionSlot 5 0 false, .slotTimeout 5] : List Instr).all (fun i => !i.wf) = true := by decide
theorem test_illformed4 : ([
  .hkaInjTrigWrite .a 4294967296, .getVersion 3, .getCapabilities 3, .negotiateAlgorithms 3, .getDigests 3,
  .getCertificate 3 0 0 0, .getCertificate 0 8 0 0, .challenge 3 0, .challenge 0 8, .getMeasurements 3 0 false,
  .keyExchange 3, .finish 3 0 false, .finish 0 256 false, .heartbeat 3 0 false, .heartbeat 0 256 false,
  .keyUpdate 3 0 false, .keyUpdate 0 256 false, .endSession 3 0 false, .endSession 0 256 false,
  .spdmUnsupportedRequest 3 0, .enrol 3 none 0 [], .ownerProve 3 none 0 [] [], .ownerProve 0 none 256 [] [],
  .revoke 3 none 0, .revoke 0 none 256, .setWeightKey 3 none 0 0, .setWeightKey 0 none 256 0,
  .clearWeightKey 3 none 0, .clearWeightKey 0 none 256, .debugUnlock 6 [], .storeWriteComplete 14 false,
  .deadlinePassed 16 0, .deadlinePassed 0 4096, .backPlaneReady 160 false, .cmdCfgWrite .a 4294967296,
  .evrCfgWrite .a 4294967296, .d0ToD3hot 2] : List Instr).all (fun i => !i.wf) = true := by decide

/-! ### Worked examples of the spec, and single steps -/

/-- The MEMPLAN of the image of Table 2-21. -/
def exPlan : MemPlan :=
  { weightsMib := 28672, frames := 192000, stagingSlots := 1024, kvLayers := 88, headDim := 128, kvHeads := 8, stackMask := 0xFF }
/-- The regions of stack 3 under it (the example of 11, R319): 64 MiB of page tables come first. -/
theorem test_plan_weights_base : (exPlan.bases 3).w = 64 * 2 ^ 20 := by decide
theorem test_plan_frames : (exPlan.bases 3).kd = (64 + 3584) * 2 ^ 20 ∧ (exPlan.bases 3).km = (64 + 3584 + 33000) * 2 ^ 20 := by decide
theorem test_plan_granules : exPlan.granules 3 = 19192 := by decide
/-- R390: FWD-128 of the nine ASCII bytes "123456789". -/
def fwdNine : Fwd := (fwdPiece 9 0 [0x31, 0x32, 0x33, 0x34, 0x35, 0x36, 0x37, 0x38, 0x39]).close 9
theorem test_fwd_modular : fwdNine.m = 0x02574C7D5940275E := by decide +kernel
theorem test_fwd_crc : fwdNine.c = 0x6C40DF5F0B497347 := by decide +kernel
/-- The entry data of 0x6704 (the example of R525): address, source node, pedestal, cause. -/
theorem test_log_data : packData [(1, 3), (8, 0x1122), (2, 0x45), (1, 1)] =
    [0x22, 0x11, 0, 0, 0, 0, 0, 0, 0x45, 0, 3, 1, 0, 0, 0, 0] := by decide
/-- R31: the example of R207 with threads 3 and 5 ready after thread 4 has won. -/
theorem test_round_robin : roundRobin 32 4 (fun t => t == 3 || t == 5) = some 5 ∧
    roundRobin 32 5 (fun t => t == 3) = some 3 := by decide
/-- The draft length's example of R415: 4, then 2, 1 and 0 as every draft is rejected. -/
theorem test_draft_length : nextDraft { kCur := 4 } 4 0 = 2 ∧ nextDraft { kCur := 2 } 1 0 = 1 ∧
    (draftAfter { kCur := 1 } 2 1 0).kCur = 0 ∧ (draftAfter { kCur := 1 } 2 1 0).plainLeft = 16 := by decide
/-- R20's example: 0x4B07 is of class 4. -/
theorem test_event_class : eventClass 0x4B07 = 4 := by decide
/-- BF16 of the K4 example (R151): 0x3EE3 is 0.443359375 = 227 / 512. -/
theorem test_bf16 : FFmt.bf16.dec 0x3EE3 = FFmt.bf16.dec (FFmt.bf16.enc (Fp.fin false 227 (-9))).bits ∧
    (FFmt.bf16.enc (Fp.fin false 227 (-9))).bits = 0x3EE3 := by decide
/-- Commands run first in, first out. -/
theorem test_queue_order : ∃ t, step { pending := [.relock, .lockoutExpiry], sec := { lockout := some 5 } } = .next t ∧
    t.pending = [.lockoutExpiry] ∧ t.sec.locked = true ∧ t.sec.lockout = some 5 := ⟨_, rfl, rfl, rfl, rfl⟩
/-- No word spells a command (Decode). -/
theorem test_no_word : decodeTableWord 32 0xFFFFFFFF = none ∧ State.reset.withFetchWord 32 5 = State.reset := ⟨rfl, rfl⟩
/-- A wake hint replaces the one before it (R464). -/
theorem test_wake_hint : exec (.wakeHint 9) { pwr := { hint := some 4 } } = .next { pwr := { hint := some 9 } } := rfl
/-- The bypass register's bit (R624). -/
theorem test_bypass : ∃ t, exec .bypass State.reset = .next t ∧ t.out = [.tap 0] := ⟨_, rfl, rfl⟩
/-- A port's PERST deasserted lets it train (R566). -/
theorem test_perst : ∃ t, exec (.perstDeassertion 1) State.reset = .next t ∧ (t.ports.get 1).training = true := ⟨_, rfl, by decide⟩
/-- The last lane takes the link down; one of two leaves it (R479). -/
theorem test_lane_drop : ∃ t, exec (.lanedrop 11 1) (linkState { state := .active, lanes := 3 }) = .next t ∧
    (t.icp 11).lanes = 1 ∧ (t.icp 11).state = .degraded := ⟨_, rfl, by decide, by decide⟩
/-- The third failed attempt at revision 3 offers revision 2 (R485). -/
theorem test_training_offer : ∃ t, exec (.trainingTimeout 11) (linkState { state := .training, attempt := true, fails := 2 }) = .next t ∧
    (t.icp 11).offer = 2 ∧ (t.icp 11).fails = 0 := ⟨_, rfl, by decide, by decide⟩
/-- A fetch error frees the prefix slot with FETCH_ERROR (Table 12-8). -/
theorem test_prefix_error : ∃ t, exec (.prefixFetchError 7) (pfxState { state := .loading, frames := [0, 1, 2] }) = .next t ∧
    (t.prefixes.get 7).state = .empty ∧ (t.prefixes.get 7).lastStatus = 4 := ⟨_, rfl, by decide, by decide⟩
/-- A load of a slot that is not empty is BUSY (Table 15-7). -/
theorem test_grammar_busy : ∃ t, exec (.grmLoad 63 .a) (grmState { state := .ready }) = .next t ∧
    (t.grammars.get 63).lastStatus = 1 ∧ (t.grammars.get 63).state = .ready := ⟨_, rfl, by decide, by decide⟩

end Sys2Proof.Tests
end

section
/-!
The invariant at reset, and what a read of BAR0 returns and latches (00, R13 and R19).
-/
namespace Sys2Proof.Machine
open Sys2Proof Sys2Proof.Claims

/-! ### The state after reset -/

/-- No entry is logged and the next sequence number is 0 (R523, R526). -/
theorem State.reset_logOk : State.reset.LogOk :=
  ⟨Nat.zero_le 4096, Nat.zero_le 16, Nat.two_pow_pos 32⟩

/-- No ring command is in progress (R462). -/
theorem State.reset_ringOk : State.reset.RingOk :=
  ⟨Nat.zero_le 64, fun _ => by decide⟩

/-- No register is stored: each reads as its Reset column says (R16). -/
theorem State.reset_regsOk : State.reset.RegsOk := rfl

/-- Settles O3, one component of the invariant at a time. -/
theorem invariantAtReset : Obligations.InvariantAtReset :=
  ⟨State.reset_logOk, State.reset_ringOk, State.reset_regsOk⟩

/-! ### Reads of one register -/

/-- The register's value is state of the model, and a read of it draws no free value (log entry 53). -/
def HoldsState (off : Nat) : Prop :=
  cycleCounter off = false ∧ ¬(0x60020 ≤ off ∧ off < 0x60030) ∧ off ≠ Reg.CLK_TRIM_PPB

/-- `HoldsState` is the model's own test of a free value, failed. -/
theorem HoldsState.not_free {off : Nat} (h : HoldsState off) :
    (cycleCounter off || (0x60020 ≤ off && off < 0x60030) || off == Reg.CLK_TRIM_PPB) = false := by
  obtain ⟨hcycle, hrange, htrim⟩ := h
  simpa [hcycle, htrim] using hrange

/-- R19: a read of a low register latches the high register's value. -/
theorem State.readReg_low {s : State} {p : Port} {off : Nat} {r : RegRow} (hr : regRow? off = some r)
    (hlow : r.half = .low) (hfree : HoldsState off) :
    s.readReg p off = (latched s p off (some (s.draw.liveReg p (off + 4))), s.liveReg p off) := by
  simp [State.readReg, hr, hlow, hfree.not_free, latched]

/-- R19: a read of a high register returns what its port has latched, and releases it. -/
theorem State.readReg_high {s : State} {p : Port} {off : Nat} {r : RegRow} {w : W32} (hr : regRow? off = some r)
    (hhigh : r.half = .high) (hfree : HoldsState off) (hoff : 4 ≤ off)
    (hw : s.latchHi.get (portKey p off) = some w) :
    s.readReg p off = (latched s p (off - 4) none, w) := by
  simp [State.readReg, hr, hhigh, hfree.not_free, hw, latched, Nat.sub_add_cancel hoff]

/-! ### Reads of BAR0 -/

/-- R13: an aligned 32-bit read is a read of the register, with all its bytes. -/
theorem State.readBar0_word {s : State} {p : Port} {off : Nat} (h : off % 4 = 0) :
    s.readBar0 p off 4 = ((s.readReg p off).1, (s.readReg p off).2.toNat) := by
  have hoff : off / 4 * 4 = off := Nat.div_mul_cancel (Nat.dvd_of_mod_eq_zero h)
  have hword : (s.readReg p off).2.toNat % 2 ^ 32 = (s.readReg p off).2.toNat := Nat.mod_eq_of_lt (BitVec.isLt _)
  simpa [State.readBar0, h, hoff] using hword

/-- R13: a misaligned read returns all ones and logs the refused access. -/
theorem State.readBar0_misaligned {s : State} {p : Port} {off size : Nat} (h : off % size ≠ 0) :
    s.readBar0 p off size = (s.badAccess p 0 off size false, allOnes size) :=
  if_pos (.inl h)

/-- A port that is there is sent what the access of BAR0 returns. -/
theorem State.hostRead_bar0 {s : State} {p : Port} {off size : Nat} (hp : s.portHere p = true) :
    s.hostRead p 0 off size = (s.readBar0 p off size).1.emit (.readData p size (s.readBar0 p off size).2) := by
  simp [State.hostRead, hp]

/-- An aligned 32-bit read from a port that is there sends it the register's value. -/
theorem exec_lowRegisterRead_word {s : State} {p : Port} {off : Nat} (hp : s.portHere p = true) (h : off % 4 = 0) :
    exec (.lowRegisterRead p off 4) s =
      .next ((s.readReg p off).1.emit (.readData p 4 (s.readReg p off).2.toNat)) := by
  rw [exec_lowRegisterRead, execLowRegisterRead, State.hostRead_bar0 hp, State.readBar0_word h]

/-- A misaligned read of BAR0 from a port that is there sends it all ones. -/
theorem exec_misalignedRead_bar0 {s : State} {p : Port} {off size : Nat} (hp : s.portHere p = true)
    (h : off % size ≠ 0) :
    exec (.misalignedRead p 0 off size) s =
      .next ((s.badAccess p 0 off size false).emit (.readData p size (allOnes size))) := by
  rw [exec_misalignedRead, execMisalignedRead, State.hostRead_bar0 hp, State.readBar0_misaligned h]

/-- REGISTER reads as a 32-bit LOW_REGISTER_READ does, from any port. -/
theorem exec_register_read (s : State) (p : Port) (off value : Nat) :
    exec (.register p false off value) s = exec (.lowRegisterRead p off 4) s := by
  by_cases hp : s.portHere p = true <;> simp [exec_register, execRegister, exec_lowRegisterRead, execLowRegisterRead,
    State.hostRead, hp]

/-- REGISTER writes as a 32-bit REGISTER_WRITE of BAR0 does, from any port. -/
theorem exec_register_write (s : State) (p : Port) (off value : Nat) :
    exec (.register p true off value) s = exec (.registerWrite p 0 off 4 value) s := by
  simp [exec_register, execRegister, exec_registerWrite, execRegisterWrite]

/-- Settles O10, by the four ways an access reaches a register: low half, high half, misaligned, and over the fabric. -/
theorem registerReads : Obligations.RegisterReads := by
  intro s p hp
  refine ⟨?low, ?high, ?misaligned, fun off v => exec_register_write s p off v, fun off => exec_register_read s p off 0⟩
  case low =>
    intro off r halign hr hlow hcycle hrange htrim
    rw [exec_lowRegisterRead_word hp halign, State.readReg_low hr hlow ⟨hcycle, hrange, htrim⟩]
  case high =>
    intro off r w halign hoff hr hhigh hcycle hrange htrim hw
    rw [exec_register_read, exec_lowRegisterRead_word hp halign,
      State.readReg_high hr hhigh ⟨hcycle, hrange, htrim⟩ hoff hw]
  case misaligned =>
    intro off size hmis
    exact exec_misalignedRead_bar0 hp hmis

end Sys2Proof.Machine
end

section
/-!
The queue, the output, the draws and the fuses (R27, R28): what `State.Follows` says of every command, with the one command
that latches fuses.
-/
namespace Sys2Proof.Machine
open Sys2Proof Sys2Proof.Claims

/-- The next state that a command answers follows the state it ran on. -/
theorem exec_follows {c : Instr} {s t : State} (h : exec c s = .next t) : s.Follows (Comp.mask (touches c)) t :=
  (exec_ends c s).follows t h

/-- RAILS_IN_REGULATION, which latches the board's pins, is the one command that lists the fuses in `touches`. -/
theorem fuses_not_mem_touches {c : Instr} (hc : ∀ slot strap, c ≠ .railsInRegulation slot strap) :
    Comp.fuses ∉ touches c := by
  have helem : (touches c).elem .fuses = false := by
    cases c with
    | railsInRegulation slot strap => exact absurd rfl (hc slot strap)
    | _ => rfl
  rwa [List.elem_eq_mem, decide_eq_false_iff_not] at helem

/-- Every command but RAILS_IN_REGULATION leaves all the fuses as they were. -/
theorem exec_fuses {c : Instr} {s t : State} (hc : ∀ slot strap, c ≠ .railsInRegulation slot strap)
    (h : exec c s = .next t) : t.fuses = s.fuses := by
  have hfuses : s.agreesAt t .fuses := State.agreesAt_of_erase (exec_follows h).same (fuses_not_mem_touches hc)
  exact hfuses

/-- Settles O7: the first four clauses are clauses of `State.Follows`, which every command keeps, and the last is the frame of
the fuses. -/
theorem queueAndOutputKept : Obligations.QueueAndOutputKept := by
  intro c s t h
  obtain ⟨hpending, hout, hdraws, hpart, -, -, -, -⟩ := exec_follows h
  exact ⟨hpending, hout, hdraws, hpart, fun hc => exec_fuses hc h⟩

end Sys2Proof.Machine
end

section
/-!
The armature loader (02, R56–R63): its commands, its fetch and validation, and the end of the seal, one lemma for each row of
Table 2-13.
-/
namespace Sys2Proof.Machine
open Sys2Proof Sys2Proof.Claims

/-! ### The loader's shared operations -/

@[simp] theorem State.armIdle_arm (s : State) :
    s.armIdle.arm = { s.arm with state := .idle, image := [], staged := {} } := rfl
@[simp] theorem State.armIdle_img (s : State) : s.armIdle.img = s.img := rfl
@[simp] theorem State.armIdle_heldSeal (s : State) : s.armIdle.heldSeal = s.heldSeal := rfl
@[simp] theorem State.armIdle_log (s : State) : s.armIdle.log = s.log := rfl

@[simp] theorem State.armFinish_arm (s : State) : s.armFinish.arm = s.arm := s.finish_arm ..
@[simp] theorem State.armFinish_img (s : State) : s.armFinish.img = s.img := s.finish_img ..
@[simp] theorem State.armFinish_heldSeal (s : State) : s.armFinish.heldSeal = s.heldSeal := s.finish_heldSeal ..
@[simp] theorem State.armFinish_log (s : State) : s.armFinish.log = s.log := s.finish_log ..

/-- The event of a failed check leaves the loader to its caller. -/
@[simp] theorem State.armRejectEvent_arm (s : State) (st off : Nat) : (s.armRejectEvent st off).arm = s.arm :=
  (State.armRejectEvent_follows rfl (State.Follows.refl 153122387330597656 s)).at State.arm 11 State.reset.arm
    (fun _ => rfl) rfl
@[simp] theorem State.armRejectEvent_img (s : State) (st off : Nat) : (s.armRejectEvent st off).img = s.img :=
  (State.armRejectEvent_follows rfl (State.Follows.refl 153122387330597656 s)).at State.img 12 State.reset.img
    (fun _ => rfl) rfl

/-- Table 2-13's lengths: multiples of 8 from 256 B to 16 MiB. -/
theorem armLenOk_iff {len : Nat} : armLenOk len = true ↔ len % 8 = 0 ∧ 256 ≤ len ∧ len ≤ 2 ^ 24 := by
  simp [armLenOk]

/-! ### Whose commands are taken (R56) -/

theorem State.armForeign_of_idle {s : State} (h : s.arm.state = .idle) (p : Port) : s.armForeign p = false := by
  simp [State.armForeign, h]

theorem State.armForeign_of_owner {s : State} {p : Port} (h : s.arm.owner = s.actsAs p) : s.armForeign p = false := by
  simp [State.armForeign, h]

theorem State.armForeign_of_ne {s : State} {p : Port} (hbusy : s.arm.state ≠ .idle) (howner : s.arm.owner ≠ s.actsAs p) :
    s.armForeign p = true := by
  simp [State.armForeign, hbusy, howner]

theorem State.armLoad_foreign {s : State} {p : Port} (h : s.armForeign p = true) : s.armLoad p = s.armNotOwner p 1 :=
  if_pos h

theorem State.armSeal_foreign {s : State} {p : Port} (h : s.armForeign p = true) : s.armSeal p = s.armNotOwner p 2 :=
  if_pos h

theorem State.armDiscard_foreign {s : State} {p : Port} (h : s.armForeign p = true) :
    s.armDiscard p = s.armNotOwner p 3 :=
  if_pos h

/-! ### LOAD, SEAL and DISCARD from a port that may give them (Table 2-13) -/

/-- The port for which a port acts does not depend on the loader. -/
@[simp] theorem State.actsAs_setArm (s : State) (a : Loader) (p : Port) : State.actsAs { s with arm := a } p = s.actsAs p :=
  rfl

/-- LOAD in IDLE with a valid ARM_LEN: the loader latches its operands and asks the owner port for the image. -/
theorem State.armLoad_idle {s : State} (p : Port) (hidle : s.arm.state = .idle) (hdawn : 6 ≤ s.pwr.dawn)
    (hlen : armLenOk (s.regN Reg.ARM_LEN) = true) :
    (s.armLoad p).1 = ({ s with arm := { s.arm with
      state := .loading, owner := s.actsAs p, src := s.reg64 Reg.ARM_SRC_LO / 8 * 8, len := s.regN Reg.ARM_LEN
      errOff := 0, image := [], staged := {} } } : State).emit
        (.hostRead (s.actsAs p) (s.reg64 Reg.ARM_SRC_LO / 8 * 8) (s.regN Reg.ARM_LEN)) := by
  have htaken : ¬(s.arm.state ≠ .idle ∨ s.pwr.dawn < 6) := by simp [hidle, hdawn]
  simp only [State.armLoad, State.armForeign_of_idle hidle, htaken, hlen, if_true, if_false, Bool.false_eq_true,
    State.actsAs_setArm]

/-- SEAL in STAGED with nothing resident in what it affects: admission is held unless the image is soft-only (R66). -/
theorem State.armSeal_staged {s : State} {p : Port} (howner : s.arm.owner = s.actsAs p) (hstaged : s.arm.state = .staged)
    (hfree : ∀ i ∈ s.armAffected, s.residentIn i = false) :
    (s.armSeal p).1 = { s with
      arm := { s.arm with state := .sealing }
      heldSeal := if s.arm.staged.softOnly then s.heldSeal else s.heldSeal.updAll s.armAffected (fun _ _ => true) } := by
  have hnone : s.armAffected.any (fun i => s.residentIn i) = false := by simpa using hfree
  simp [State.armSeal, State.armForeign_of_owner howner, hstaged, hnone]

/-- DISCARD in LOADING, VALIDATING or STAGED: the loader drops its copy, and the ring ARM_LOAD ends. -/
theorem State.armDiscard_open {s : State} {p : Port} (howner : s.arm.owner = s.actsAs p)
    (hopen : s.arm.state = .loading ∨ s.arm.state = .validating ∨ s.arm.state = .staged) :
    (s.armDiscard p).1 = ({ s with arm := { s.arm with lastStatus := 0x12 } } : State).armIdle.armFinish := by
  obtain h | h | h := hopen <;> simp [State.armDiscard, State.armForeign_of_owner howner, h]

/-- Settles O11, one command of Table 2-13 at a time, and last the port that is not the owner. -/
theorem loaderCommands : Obligations.LoaderCommands := by
  refine ⟨?load, ?sealing, ?discard, ?foreign⟩
  case load =>
    intro p s hidle hdawn hmod hmin hmax
    rw [exec_armLoad, execArmLoad, State.armLoad_idle p hidle hdawn (armLenOk_iff.mpr ⟨hmod, hmin, hmax⟩)]
  case sealing =>
    intro p s hstaged howner hfree
    refine ⟨_, exec_armSeal p s, ?_⟩
    simp +contextual [State.armSeal_staged howner hstaged hfree]
  case discard =>
    intro p s hopen howner
    refine ⟨_, exec_armDiscard p s, ?_⟩
    simp [State.armDiscard_open howner hopen]
  case foreign =>
    intro p s hbusy howner
    have hforeign := State.armForeign_of_ne hbusy howner
    refine ⟨?_, ?_, ?_⟩
    · rw [exec_armLoad, execArmLoad, State.armLoad_foreign hforeign, State.armNotOwner]
    · rw [exec_armSeal, execArmSeal, State.armSeal_foreign hforeign, State.armNotOwner]
    · rw [exec_armDiscard, execArmDiscard, State.armDiscard_foreign hforeign, State.armNotOwner]

/-! ### The fetch and the validation (R58, R60, Table 2-13) -/

/-- The last byte of an image of the latched length. -/
theorem State.armFetched_loading {s : State} {image : List Byte} (hloading : s.arm.state = .loading)
    (hlen : image.length = s.arm.len) :
    s.armFetched image = { s with arm := { s.arm with state := .validating, image := image } } :=
  if_pos ⟨hloading, hlen⟩

/-- A fetch in progress that fails. -/
theorem State.armFetchFail_loading {s : State} (h : s.arm.state = .loading) :
    s.armFetchFail = (({ s with arm := { s.arm with lastStatus := 0x02, errOff := 0 } } : State).armIdle.logEvent 0x6F01
      [(1, 0x02), (4, 0)]).armFinish :=
  if_pos h

/-- What a failed fetch leaves of the loader and of the sealed image. -/
theorem State.armFetchFail_arm_img {s : State} (h : s.arm.state = .loading) :
    s.armFetchFail.arm = { s.arm with state := .idle, lastStatus := 0x02, errOff := 0, image := [], staged := {} } ∧
      s.armFetchFail.img = s.img := by
  simp [State.armFetchFail_loading h]

/-- Validation with every check passed. -/
theorem State.armValidated_ok {s : State} {st : StagedImage} (hvalidating : s.arm.state = .validating)
    (hok : validateImage s.arm.image s.arm.len s.fuses s.ownerKeys s.armFloor s.img = .ok st) :
    s.armValidated = (({ s with arm := { s.arm with state := .staged, lastStatus := 0x00, staged := st } } : State).logEvent
      0x1F01 [(4, st.serial)]).armFinish := by
  simp [State.armValidated, hvalidating, hok]

/-- Validation with a failed check, of which `st` is the status and `off` the offset. -/
theorem State.armValidated_error {s : State} {st off : Nat} (hvalidating : s.arm.state = .validating)
    (herr : validateImage s.arm.image s.arm.len s.fuses s.ownerKeys s.armFloor s.img = .error (st, off)) :
    s.armValidated = ({ s.armRejectEvent st off with
      arm := { s.arm with lastStatus := st, errOff := off } } : State).armIdle.armFinish := by
  simp [State.armValidated, hvalidating, herr]

/-! ### The end of the seal (R62, R63) -/

/-- Steps 6 and 7 of R62 seal the image and lock the RWL registers, whether or not ARM_FLOOR rises. -/
theorem State.sealRecord_seals (s : State) (st : StagedImage) :
    (s.sealRecord st).img.isSealed = true ∧ (s.sealRecord st).rwlLocked = true := by
  unfold State.sealRecord
  dsimp only
  split <;> exact ⟨rfl, rfl⟩

/-- The check of the routes leaves the image and the locks. -/
theorem State.sealRoutes_img (s : State) (aff : List Nat) : (s.sealRoutes aff).img = s.img :=
  (State.sealRoutes_follows rfl (State.Follows.refl 1306043891937444632 s)).at State.img 12 State.reset.img (fun _ => rfl) rfl
theorem State.sealRoutes_rwlLocked (s : State) (aff : List Nat) : (s.sealRoutes aff).rwlLocked = s.rwlLocked :=
  (State.sealRoutes_follows rfl (State.Follows.refl 1306043891937444632 s)).at State.rwlLocked 7 State.reset.rwlLocked
    (fun _ => rfl) rfl

/-- The completion of the seal leaves the image and the locks. -/
theorem State.sealEnd_img (s : State) (aff : List Nat) (st : StagedImage) : (s.sealEnd aff st).img = s.img :=
  (State.sealEnd_follows rfl (State.Follows.refl 1324065987061893912 s)).at State.img 12 State.reset.img (fun _ => rfl) rfl
theorem State.sealEnd_rwlLocked (s : State) (aff : List Nat) (st : StagedImage) : (s.sealEnd aff st).rwlLocked = s.rwlLocked :=
  (State.sealEnd_follows rfl (State.Follows.refl 1324065987061893912 s)).at State.rwlLocked 7 State.reset.rwlLocked
    (fun _ => rfl) rfl

@[simp] theorem State.autoLoad_arm (s : State) (i cause : Nat) : (s.autoLoad i cause).arm = s.arm :=
  (State.autoLoad_follows rfl (State.Follows.refl 153130083911992088 s)).at State.arm 11 State.reset.arm (fun _ => rfl) rfl
@[simp] theorem State.sendPlan_arm (s : State) (i : Nat) : (s.sendPlan i).arm = s.arm :=
  (State.sendPlan_follows rfl (State.Follows.refl 1152921504640401432 s)).at State.arm 11 State.reset.arm (fun _ => rfl) rfl

/-- A loop whose every turn leaves the loader leaves it. -/
theorem State.foldl_arm {α : Type} {f : State → α → State} (hf : ∀ s x, (f s x).arm = s.arm) (l : List α) (s : State) :
    (l.foldl f s).arm = s.arm := by
  induction l generalizing s with
  | nil => rfl
  | cons x l ih => exact (ih (f s x)).trans (hf s x)

/-- The completion of the seal returns the loader to IDLE with OK; the loads and plans it starts are not the loader's. -/
theorem State.sealEnd_arm (s : State) (aff : List Nat) (st : StagedImage) :
    (s.sealEnd aff st).arm = { s.arm with state := .idle, lastStatus := 0x00, image := [], staged := {} } := by
  unfold State.sealEnd
  rw [State.finish_arm, State.armIdle_arm, State.foldl_arm, State.foldl_arm]
  · split <;> simp
  · intro u i
    dsimp only
    split <;> simp
  · intro u i
    split <;> simp

/-- SEAL_APPLY_COMPLETE at a step boundary of all that the seal affects ends in steps 6 and 7 of R62 and the completion. -/
theorem exec_sealApplyComplete_sealing {s : State} (hsealing : s.arm.state = .sealing) (hready : s.sealReady = true) :
    ∃ u : State, exec .sealApplyComplete s =
      .next (((u.sealRecord s.arm.staged).sealRoutes s.armAffected).sealEnd s.armAffected s.arm.staged) := by
  have hends : ¬(s.arm.state ≠ .sealing ∨ !s.sealReady) := by simp [hsealing, hready]
  rw [exec_sealApplyComplete, execSealApplyComplete, if_neg hends]
  exact ⟨_, rfl⟩

/-- Settles O12, one event of Table 2-13 at a time. -/
theorem loaderEvents : Obligations.LoaderEvents := by
  refine ⟨?fetched, ?failed, ?accepted, ?rejected, ?applied⟩
  case fetched =>
    intro image s hloading hlen
    rw [exec_imageFetchComplete, execImageFetchComplete, State.armFetched_loading hloading hlen]
  case failed =>
    rintro c s (rfl | rfl) hloading
    · exact ⟨_, exec_imageFetchError s, State.armFetchFail_arm_img hloading⟩
    · exact ⟨_, exec_imageFetchTimeout s, State.armFetchFail_arm_img hloading⟩
  case accepted =>
    intro s st hvalidating hok
    refine ⟨_, exec_validationComplete s, ?_⟩
    simp [State.armValidated_ok hvalidating hok]
  case rejected =>
    intro s st off hvalidating herr
    refine ⟨_, exec_validationComplete s, ?_⟩
    simp [State.armValidated_error hvalidating herr]
  case applied =>
    intro s hsealing hready
    obtain ⟨u, hu⟩ := exec_sealApplyComplete_sealing hsealing hready
    obtain ⟨hsealed, hlocked⟩ := u.sealRecord_seals s.arm.staged
    refine ⟨_, hu, ?_⟩
    simp [State.sealEnd_img, State.sealEnd_rwlLocked, State.sealEnd_arm, State.sealRoutes_img, State.sealRoutes_rwlLocked,
      hsealed, hlocked]

end Sys2Proof.Machine
end

section
/-!
What is read after a change: storage of which some cells are kept, numbers spelled in bytes, registers, arrays and cores.
The rules that the plane loads, tile boundaries and host accesses of this chapter (03, 09) rest on.
-/
namespace Sys2Proof

/-! ### Storage and bytes -/

/-- Dropping cells by their keys leaves what is read at a key that stays. -/
theorem Map.find_filter_of_keys {α : Type} (d : α) (p : Nat → Bool) {k : Nat} (hk : p k = true) (m : List (Nat × α)) :
    Map.find d (m.filter (fun c => p c.1)) k = Map.find d m k := by
  induction m with
  | nil => rfl
  | cons c m ih =>
    obtain ⟨j, v⟩ := c
    by_cases hp : p j = true
    · simp [hp, Map.find, ih]
    · have hne : j ≠ k := fun e => hp (e ▸ hk)
      simp [hp, Map.find, ih, hne]

theorem Map.get_keep_of_keys {α : Type} [Inhabited α] (m : Map α) {p : Nat → Bool} {k : Nat} (hk : p k = true) :
    (m.keep (fun j _ => p j)).get k = m.get k :=
  Map.find_filter_of_keys default p hk m.cells

@[simp] theorem Memory.length_bytes (m : Memory) (a n : Nat) : (m.bytes a n).length = n := by
  induction n generalizing a with
  | zero => rfl
  | succ n ih => simp [Memory.bytes, ih]

theorem leNat_lt (bs : List Byte) : leNat bs < 256 ^ bs.length := by
  induction bs with
  | nil => simp [leNat]
  | cons b bs ih =>
    have hb : b.toNat < 256 := b.isLt
    simp only [leNat, List.length_cons, Nat.pow_succ]
    omega

@[simp] theorem length_leBytes (n v : Nat) : (leBytes n v).length = n := by
  induction n generalizing v with
  | zero => rfl
  | succ n ih => simp [leBytes, ih]

theorem getElem?_leBytes {n k : Nat} (h : k < n) (v : Nat) : (leBytes n v)[k]? = some (BitVec.ofNat 8 (v / 256 ^ k)) := by
  induction n generalizing k v with
  | zero => omega
  | succ n ih =>
    cases k with
    | zero => simp [leBytes]
    | succ k =>
      rw [leBytes, List.getElem?_cons_succ, ih (Nat.lt_of_succ_lt_succ h), Nat.div_div_eq_div_mul, ← Nat.pow_succ']

/-- A word reads back byte by byte. -/
theorem Memory.get_store_leBytes (m : Memory) (o w : Nat) {k : Nat} (h : k < 8) :
    (m.store o (leBytes 8 w)).get (o + k) = BitVec.ofNat 8 (w / 256 ^ k) := by
  rw [Memory.get_store, length_leBytes, if_pos (by omega), Nat.add_sub_cancel_left, getElem?_leBytes h]
  rfl

theorem Memory.get_store_leBytes_outside (m : Memory) {o b : Nat} (w : Nat) (h : b < o ∨ o + 8 ≤ b) :
    (m.store o (leBytes 8 w)).get b = m.get b := by
  rw [Memory.get_store, length_leBytes, if_neg (by omega)]

end Sys2Proof

namespace Sys2Proof.Machine
open Sys2Proof

/-! ### Registers -/

/-- A register reads the low 32 bits of what is stored in it. -/
@[simp] theorem State.regN_setRegN (s : State) (off v : Nat) : (s.setRegN off v).regN off = v % 2 ^ 32 := by
  simp [State.regN, State.setRegN]

theorem State.regN_setRegN_ne (s : State) {off a : Nat} (v : Nat) (h : a ≠ off) : (s.setRegN off v).regN a = s.regN a :=
  congrArg BitVec.toNat (s.reg_setReg_ne _ h)

/-- A pair reads the 64 bits stored in it (R19). -/
theorem State.reg64_setReg64 (s : State) (off : Nat) {v : Nat} (h : v < 2 ^ 64) : (s.setReg64 off v).reg64 off = v := by
  rw [State.setReg64, State.reg64, State.regN_setRegN_ne _ _ (by omega), State.regN_setRegN, State.regN_setRegN]
  omega

theorem State.regN_setReg64_ne (s : State) {off a : Nat} (v : Nat) (hlow : a ≠ off) (hhigh : a ≠ off + 4) :
    (s.setReg64 off v).regN a = s.regN a := by
  rw [State.setReg64, State.regN_setRegN_ne _ _ hhigh, State.regN_setRegN_ne _ _ hlow]

@[simp] theorem State.setRegN_cores (s : State) (off v : Nat) : (s.setRegN off v).cores = s.cores := rfl

/-- The registers are not part of a core. -/
@[simp] theorem State.updCore_regN (s : State) (n a : Nat) (f : Core → Core) : (s.updCore n f).regN a = s.regN a := rfl
@[simp] theorem State.updCore_reg64 (s : State) (n a : Nat) (f : Core → Core) : (s.updCore n f).reg64 a = s.reg64 a := rfl

/-! ### Cores and arrays -/

@[simp] theorem State.cores_updCore (s : State) (n : Nat) (f : Core → Core) :
    (s.updCore n f).cores.get n = f (s.cores.get n) := Map.get_upd_self ..

@[simp] theorem State.cals_updCal (s : State) (n : Nat) (f : Cal → Cal) :
    (s.updCal n f).cals.get n = f (s.cals.get n) := Map.get_upd_self ..

@[simp] theorem State.updCore_arrays (s : State) (n : Nat) (f : Core → Core) : (s.updCore n f).arrays = s.arrays := rfl
@[simp] theorem State.updCore_cals (s : State) (n : Nat) (f : Core → Core) : (s.updCore n f).cals = s.cals := rfl
@[simp] theorem State.updArr_cals (s : State) (n a : Nat) (f : Arr → Arr) : (s.updArr n a f).cals = s.cals := rfl
@[simp] theorem State.updArr_cores (s : State) (n a : Nat) (f : Arr → Arr) : (s.updArr n a f).cores = s.cores := rfl

@[simp] theorem State.arr_updArr (s : State) (n a : Nat) (f : Arr → Arr) : (s.updArr n a f).arr n a = f (s.arr n a) :=
  Map.get_upd_self ..

theorem State.arr_updArr_ne (s : State) (n : Nat) {a b : Nat} (f : Arr → Arr) (h : b ≠ a) :
    (s.updArr n a f).arr n b = s.arr n b :=
  Map.get_upd_ne _ _ (by unfold arrKey; omega)

/-- What leaves the arrays leaves each of them. -/
theorem State.arr_of_arrays {s t : State} (h : t.arrays = s.arrays) (n a : Nat) : t.arr n a = s.arr n a :=
  congrArg (fun m : Map Arr => m.get (arrKey n a)) h

/-- Counters of arrays are registers. -/
@[simp] theorem State.arrCount_arrays (s : State) (n a off k : Nat) (wide : Bool) :
    (s.arrCount n a off k wide).arrays = s.arrays :=
  (State.arrCount_follows rfl (State.Follows.refl 16 s)).at State.arrays 15 State.reset.arrays (fun _ => rfl) rfl
@[simp] theorem State.arrCount_cals (s : State) (n a off k : Nat) (wide : Bool) :
    (s.arrCount n a off k wide).cals = s.cals :=
  (State.arrCount_follows rfl (State.Follows.refl 16 s)).at State.cals 18 State.reset.cals (fun _ => rfl) rfl

@[simp] theorem State.arr_arrCount (s : State) (n a off k : Nat) (wide : Bool) (m b : Nat) :
    (s.arrCount n a off k wide).arr m b = s.arr m b := State.arr_of_arrays (State.arrCount_arrays ..) m b
@[simp] theorem State.arr_logEvent (s : State) (code : Nat) (fs : List (Nat × Nat)) (m b : Nat) :
    (s.logEvent code fs).arr m b = s.arr m b := State.arr_of_arrays (State.logEvent_arrays ..) m b
@[simp] theorem State.arr_updCal (s : State) (n : Nat) (f : Cal → Cal) (m b : Nat) : (s.updCal n f).arr m b = s.arr m b :=
  rfl

/-! ### The two planes of an array (R71, R101) -/

/-- Changing a plane leaves the loads and what the array stands in for. -/
theorem Arr.setBack_rest (x : Arr) (p : Plane) : (x.setBack p).loads = x.loads ∧ (x.setBack p).loading = x.loading ∧
    (x.setBack p).stand = x.stand ∧ (x.setBack p).standReason = x.standReason ∧ (x.setBack p).standPos = x.standPos := by
  unfold Arr.setBack
  split <;> exact ⟨rfl, rfl, rfl, rfl, rfl⟩
@[simp] theorem Arr.loads_setBack (x : Arr) (p : Plane) : (x.setBack p).loads = x.loads := (x.setBack_rest p).1
@[simp] theorem Arr.loading_setBack (x : Arr) (p : Plane) : (x.setBack p).loading = x.loading := (x.setBack_rest p).2.1

@[simp] theorem Arr.backPlane_setBack (x : Arr) (p : Plane) : (x.setBack p).backPlane = p := by
  unfold Arr.setBack Arr.backPlane
  split <;> simp [*]

@[simp] theorem Arr.frontPlane_setBack (x : Arr) (p : Plane) : (x.setBack p).frontPlane = x.frontPlane := by
  unfold Arr.setBack Arr.frontPlane
  split <;> simp [*]

end Sys2Proof.Machine
end

section
/-!
Plane loads, tile checks and test reads (03, R98–R105, R121–R123).
-/
namespace Sys2Proof.Machine
open Sys2Proof Sys2Proof.Claims

/-! ### The array that a load acts on as well (R98, R174) -/

/-- A change that leaves whom an array stands in for. -/
def KeepsStand (f : Arr → Arr) : Prop :=
  ∀ x, (f x).stand = x.stand ∧ (f x).standReason = x.standReason ∧ (f x).standPos = x.standPos

theorem KeepsStand.setBack (p : Arr → Plane) : KeepsStand (fun x => x.setBack (p x)) := by
  intro x
  obtain ⟨-, -, hstand⟩ := x.setBack_rest (p x)
  exact hstand

/-- The partner of an array depends on calibration and on what the spare array stands in for, not on loads or planes. -/
theorem State.partnerArr_updArr (s : State) (n a b : Nat) {f : Arr → Arr} (hf : KeepsStand f) :
    (s.updArr n b f).partnerArr n a = s.partnerArr n a := by
  have hspare : ((s.updArr n b f).arr n 12).stand = (s.arr n 12).stand ∧
      ((s.updArr n b f).arr n 12).standReason = (s.arr n 12).standReason ∧
      ((s.updArr n b f).arr n 12).standPos = (s.arr n 12).standPos := by
    by_cases hb : 12 = b
    · rw [← hb, State.arr_updArr]
      exact hf _
    · rw [State.arr_updArr_ne s n f hb]
      exact ⟨rfl, rfl, rfl⟩
  obtain ⟨hstand, hreason, hpos⟩ := hspare
  unfold State.partnerArr
  dsimp only
  rw [State.updArr_cals, hstand, hreason, hpos]

/-- Without a partner the back plane changes in the one array. -/
theorem State.updBack_alone {s : State} {n a : Nat} (h : s.partnerArr n a = none) (f : Plane → Plane) :
    s.updBack n a f = s.updArr n a (fun x => x.setBack (f x.backPlane)) := by
  have halone : (s.updArr n a (fun x => x.setBack (f x.backPlane))).partnerArr n a = none :=
    (s.partnerArr_updArr n a a (KeepsStand.setBack _)).trans h
  simp only [State.updBack, halone]

/-! ### Plane loads (R98–R100) -/

/-- The loads of an array change, and whether the first of them is being written. -/
def Arr.setLoads (x : Arr) (loads : List PlaneLoad) (on : Bool) : Arr := { x with loads := loads, loading := on }

@[simp] theorem Arr.loads_setLoads (x : Arr) (l : List PlaneLoad) (on : Bool) : (x.setLoads l on).loads = l := rfl
@[simp] theorem Arr.loading_setLoads (x : Arr) (l : List PlaneLoad) (on : Bool) : (x.setLoads l on).loading = on := rfl
@[simp] theorem Arr.frontPlane_setLoads (x : Arr) (l : List PlaneLoad) (on : Bool) :
    (x.setLoads l on).frontPlane = x.frontPlane := rfl
@[simp] theorem Arr.backPlane_setLoads (x : Arr) (l : List PlaneLoad) (on : Bool) :
    (x.setLoads l on).backPlane = x.backPlane := rfl

/-- A load whose turn it is moves to the head of the array's loads and is being written. -/
def Arr.takeLoad (l : PlaneLoad) (x : Arr) : Arr := x.setLoads (l :: x.loads.filter (fun y => y.flight != l.flight)) true

theorem KeepsStand.takeLoad (l : PlaneLoad) : KeepsStand (Arr.takeLoad l) := fun _ => ⟨rfl, rfl, rfl⟩

theorem exec_planeLoadStart_next {s : State} {n a : Nat} {l : PlaneLoad}
    (hidle : (List.range 13).any (fun b => (s.arr n b).loading) = false) (hserves : (s.cores.get n).retired = false)
    (hnext : s.nextLoad n = some (a, l)) (halone : s.partnerArr n a = none) :
    exec (.planeLoadStart n a) s = .next ((s.updArr n a (Arr.takeLoad l)).updArr n a
      (fun x => x.setBack { x.backPlane with loaded := false, sums := false, synth := l.src.isNone })) := by
  have halone' : (s.updArr n a (Arr.takeLoad l)).partnerArr n a = none :=
    (s.partnerArr_updArr n a a (KeepsStand.takeLoad l)).trans halone
  rw [← State.updBack_alone halone' (fun p => { p with loaded := false, sums := false, synth := l.src.isNone }),
    exec_planeLoadStart, execPlaneLoadStart, hidle, hserves, hnext]
  exact if_neg (not_not_intro rfl)

/-- The bytes of the row that is written next: the scratchpad's, or zeros for the all-zero image (R142). -/
def rowBytes (spm : Memory) (l : PlaneLoad) : List Byte :=
  match l.src with
  | some b => spm.bytes (b + 128 * l.rows) 128
  | none => List.replicate 128 0

/-- A row of good parity is stored and counted. -/
theorem exec_planeRowWritten_good {s : State} {n a : Nat} {l : PlaneLoad} {r : List PlaneLoad}
    (hloading : (s.arr n a).loading = true) (hloads : (s.arr n a).loads = l :: r) (hrows : l.rows < 512)
    (halone : s.partnerArr n a = none) :
    exec (.planeRowWritten n a true) s = .next ((s.updArr n a (fun x => x.setBack { x.backPlane with
      data := x.backPlane.data.store (128 * l.rows) (rowBytes (s.cores.get n).spm l) })).updArr n a
        (fun x => x.setLoads ({ l with rows := l.rows + 1, attempts := 0 } :: r) x.loading)) := by
  rw [exec_planeRowWritten, execPlaneRowWritten, hloading, hloads]
  dsimp only
  rw [if_neg (Nat.not_le.mpr hrows), if_pos rfl, State.updBack_alone halone]
  rfl

/-- A row of bad parity that has failed fewer than three times is tried again. -/
theorem exec_planeRowWritten_bad {s : State} {n a : Nat} {l : PlaneLoad} {r : List PlaneLoad}
    (hloading : (s.arr n a).loading = true) (hloads : (s.arr n a).loads = l :: r) (hrows : l.rows < 512)
    (hattempts : l.attempts < 3) :
    exec (.planeRowWritten n a false) s = .next (((s.updArr n a (fun x =>
      x.setLoads ({ l with attempts := l.attempts + 1 } :: r) x.loading)).arrCount n a (Reg.ARR_PWRITE_RETRY n a) 1
        false).logEvent 0x2101 [(1, n), (1, a), (2, l.rows), (1, l.attempts + 1)]) := by
  rw [exec_planeRowWritten, execPlaneRowWritten, hloading, hloads]
  dsimp only
  rw [if_neg (Nat.not_le.mpr hrows), if_neg Bool.false_ne_true, if_pos hattempts]
  rfl

/-! ### The end of a load (R71, R98) -/

/-- A completed transfer is marked in the mirror banks; the instructions in flight stay. -/
@[simp] theorem State.flights_xferDone (s : State) (n id : Nat) (evc : Option Nat) :
    ((s.xferDone n id evc).cores.get n).flights = (s.cores.get n).flights := by
  rw [State.xferDone, State.cores_updCore]

@[simp] theorem State.retireWake_arrays (s : State) (n id : Nat) : (s.retireWake n id).arrays = s.arrays :=
  (State.retireWake_follows rfl (State.Follows.refl 590448932746046735128 s)).at State.arrays 15 State.reset.arrays
    (fun _ => rfl) rfl
@[simp] theorem State.endArrTakeover_arrays (s : State) (n : Nat) : (s.endArrTakeover n).arrays = s.arrays :=
  (State.endArrTakeover_follows rfl (State.Follows.refl 73940098682168804120 s)).at State.arrays 15 State.reset.arrays
    (fun _ => rfl) rfl
@[simp] theorem State.endArrTakeover_cores (s : State) (n : Nat) : (s.endArrTakeover n).cores = s.cores :=
  (State.endArrTakeover_follows rfl (State.Follows.refl 73940098682168804120 s)).at State.cores 21 State.reset.cores
    (fun _ => rfl) rfl

/-- A load of 512 rows ends, whether or not a takeover ends with it: the back plane is loaded and the PLOAD retires. -/
theorem exec_planeLoadComplete_ends {s : State} {n a : Nat} {l : PlaneLoad} {r : List PlaneLoad}
    (hloading : (s.arr n a).loading = true) (hloads : (s.arr n a).loads = l :: r) (hrows : 512 ≤ l.rows)
    (halone : s.partnerArr n a = none) :
    ∃ t, exec (.planeLoadComplete n a) s = .next t ∧
      t.arrays = ((s.updArr n a (fun x => x.setBack { x.backPlane with loaded := true, sums := true })).updArr n a
        (fun x => x.setLoads r false)).arrays ∧
      (t.cores.get n).flights = (s.cores.get n).flights.filter (fun f => f.id != l.flight) := by
  rw [exec_planeLoadComplete, execPlaneLoadComplete, hloading, hloads]
  dsimp only
  rw [if_neg (Nat.not_lt.mpr hrows), State.updBack_alone halone]
  generalize hu : State.retireWake _ n l.flight = u
  have harrays : u.arrays = ((s.updArr n a (fun x => x.setBack { x.backPlane with loaded := true, sums := true })).updArr n a
      (fun x => x.setLoads r false)).arrays := by
    rw [← hu, State.retireWake_arrays]
    rfl
  have hflights : (u.cores.get n).flights = (s.cores.get n).flights.filter (fun f => f.id != l.flight) := by
    simp [← hu, State.flights_retireWake]
  split
  · exact ⟨_, rfl, by rw [State.endArrTakeover_arrays, harrays], by rw [State.endArrTakeover_cores, hflights]⟩
  · exact ⟨_, rfl, harrays, hflights⟩

/-! ### Tile checks (R122, R123) -/

@[simp] theorem State.arrBoth_arrays (s : State) (n a off core k : Nat) (wide : Bool) :
    (s.arrBoth n a off core k wide).arrays = s.arrays :=
  (State.arrBoth_follows rfl (State.Follows.refl 16 s)).at State.arrays 15 State.reset.arrays (fun _ => rfl) rfl
@[simp] theorem State.arrBoth_cals (s : State) (n a off core k : Nat) (wide : Bool) :
    (s.arrBoth n a off core k wide).cals = s.cals :=
  (State.arrBoth_follows rfl (State.Follows.refl 16 s)).at State.cals 18 State.reset.cals (fun _ => rfl) rfl
@[simp] theorem State.fmtAdd_arrays (s : State) (n : Nat) (c : FmtCount) : (s.fmtAdd n c).arrays = s.arrays :=
  (State.fmtAdd_follows rfl (State.Follows.refl 65536 s)).at State.arrays 15 State.reset.arrays (fun _ => rfl) rfl
@[simp] theorem State.fmtAdd_cals (s : State) (n : Nat) (c : FmtCount) : (s.fmtAdd n c).cals = s.cals :=
  (State.fmtAdd_follows rfl (State.Follows.refl 65536 s)).at State.cals 18 State.reset.cals (fun _ => rfl) rfl
@[simp] theorem State.updAdvice_arrays (s : State) (n : Nat) (f : Advice → Advice) : (s.updAdvice n f).arrays = s.arrays :=
  rfl
@[simp] theorem State.updAdvice_cals (s : State) (n : Nat) (f : Advice → Advice) : (s.updAdvice n f).cals = s.cals := rfl
@[simp] theorem State.advise_arrays (s : State) (n trigger : Nat) : (s.advise n trigger).arrays = s.arrays :=
  (State.advise_follows rfl (State.Follows.refl 590448932746036249368 s)).at State.arrays 15 State.reset.arrays
    (fun _ => rfl) rfl
@[simp] theorem State.advise_cals (s : State) (n trigger : Nat) : (s.advise n trigger).cals = s.cals :=
  (State.advise_follows rfl (State.Follows.refl 590448932746036249368 s)).at State.cals 18 State.reset.cals
    (fun _ => rfl) rfl

/-- A drift window that is not full takes the check's record and answers nothing. -/
theorem Arr.drifted_open {x : Arr} (c : TileCheck) (h : x.driftN + 1 < 1024) :
    (x.drifted c).2 = none ∧ (x.drifted c).1.driftN = x.driftN + 1 ∧ (x.drifted c).1.check = x.check := by
  simp [Arr.drifted, h]

/-- What follows the counts of a completed check: its record joins the drift window, and in check-only mode its samples are
taken (R183, R188). -/
def State.checkRecorded (n a : Nat) (c : TileCheck) (s : State) : Out' :=
  let dr := (s.arr n a).drifted c
  let s := s.updArr n a (fun _ => dr.1)
  let s := match dr.2 with
    | none => s
    | some d =>
      if (s.thrOf n).driftBound < d then
        let s := (s.toFront n a).arrCount n a (Reg.CAL_DRIFT_TRIG n a) 1 false
        s.logLimited 0x2301 (16 * n + a) (fun _ => [(1, n), (1, a), (2, min 0xFFFF d)])
      else s
  if !(s.cals.get n).checkOnly then .next s else
  let s := s.updArr n a (fun x => x.sampled c)
  .next (if 8192 ≤ (s.arr n a).checksSinceFit then s.checkOnlyFit n a else s)

/-- A completed check is counted, and of the arrays and calibration only its own place changes before it is recorded. -/
theorem exec_tileCheckComplete_counts {s : State} {n a : Nat} {c : TileCheck} (hcheck : (s.arr n a).check = some c) :
    ∃ u : State, u.arrays = (s.updArr n a (fun x => { x with check := none })).arrays ∧ u.cals = s.cals ∧
      exec (.tileCheckComplete n a) s = u.checkRecorded n a c := by
  rw [exec_tileCheckComplete, execTileCheckComplete, hcheck]
  refine ⟨_, ?arrays, ?cals, rfl⟩
  case arrays =>
    dsimp only
    rw [apply_ite State.arrays, State.advise_arrays, ite_self]
    split <;> simp [State.logLimited]
  case cals =>
    rw [apply_ite State.cals, State.advise_cals, ite_self]
    split <;> simp [State.logLimited]

/-- Outside check-only mode, a record that does not fill the drift window only joins it. -/
theorem State.checkRecorded_window {s : State} {n a : Nat} (c : TileCheck) (hmode : (s.cals.get n).checkOnly = false)
    (hopen : (s.arr n a).driftN + 1 < 1024) :
    s.checkRecorded n a c = .next (s.updArr n a (fun _ => ((s.arr n a).drifted c).1)) := by
  simp [State.checkRecorded, (Arr.drifted_open c hopen).1, hmode]

/-! ### Test reads (R105) -/

/-- An accepted read gives the row of the physical plane it names. -/
theorem exec_arrayTestReadDone_pending {s : State} {n a pl r : Nat} (h : (s.arr n a).testPending = some (pl, r)) :
    exec (.arrayTestReadDone n a) s = .next (s.updArr n a (fun x => { x with
      testPending := none, testDone := true
      testRow := (if pl = 0 then (s.arr n a).plane0 else (s.arr n a).plane1).data.bytes (128 * r) 128 })) := by
  rw [exec_arrayTestReadDone, execArrayTestReadDone, h]

/-- Settles O38, one command at a time. -/
theorem planeLoads : Obligations.PlaneLoads := by
  refine ⟨?start, ?row, ?complete, ?check, ?test⟩
  case start =>
    intro s n a l hidle hserves hnext halone
    refine ⟨_, exec_planeLoadStart_next hidle hserves hnext halone, ?_⟩
    simp [Arr.takeLoad]
  case row =>
    intro s n a l r hloading hloads hrows halone row
    have hrow : row = rowBytes (s.cores.get n).spm l := rfl
    refine ⟨⟨_, exec_planeRowWritten_good hloading hloads hrows halone, ?_⟩,
      fun hattempts => ⟨_, exec_planeRowWritten_bad hloading hloads hrows hattempts, ?_⟩⟩
    · simp [hrow]
    · simp
  case complete =>
    intro s n a l r hloading hloads hrows halone
    obtain ⟨t, ht, harrays, hflights⟩ := exec_planeLoadComplete_ends hloading hloads hrows halone
    refine ⟨t, ht, ?_⟩
    rw [State.arr_of_arrays harrays]
    simp [hflights]
  case check =>
    intro s n a c hcheck hmode hopen
    obtain ⟨u, harrays, hcals, hu⟩ := exec_tileCheckComplete_counts hcheck
    have harr : u.arr n a = { s.arr n a with check := none } :=
      (State.arr_of_arrays harrays n a).trans (s.arr_updArr n a _)
    have hopen' : (u.arr n a).driftN + 1 < 1024 := by rwa [harr]
    obtain ⟨-, hcount, hnone⟩ := Arr.drifted_open c hopen'
    rw [harr] at hcount hnone
    refine ⟨_, hu.trans (State.checkRecorded_window c (hcals ▸ hmode) hopen'), ?_⟩
    rw [State.arr_updArr, harr]
    exact ⟨hnone, hcount⟩
  case test =>
    intro s n a pl r hpending
    refine ⟨_, exec_arrayTestReadDone_pending hpending, ?_⟩
    simp

end Sys2Proof.Machine
end

section
/-!
Tile boundaries (03, R101–R104; 06, R174), and the host's accesses to arrays, scratchpads and the fatal record (R105, R289,
R526).
-/
namespace Sys2Proof.Machine
open Sys2Proof Sys2Proof.Claims

/-! ### Plane swaps (R101, R102) -/

/-- The planes exchange their roles, and the plane that comes to the front is no longer a load not yet swapped in. -/
theorem Arr.swapped_planes (x : Arr) : x.swapped.frontPlane = { x.backPlane with loaded := false } ∧
    x.swapped.backPlane = x.frontPlane ∧ x.swapped.swapPending = false := by
  by_cases h : x.front = 0
  · simp [Arr.swapped, Arr.setFront, Arr.frontPlane, Arr.backPlane, h]
  · have h1 : 1 - x.front = 0 := by omega
    simp [Arr.swapped, Arr.setFront, Arr.frontPlane, Arr.backPlane, h, h1]

/-- An abandoned check leaves the planes. -/
theorem State.abandonCheck_planes (s : State) (n a : Nat) :
    ((s.abandonCheck n a).arr n a).frontPlane = (s.arr n a).frontPlane ∧
    ((s.abandonCheck n a).arr n a).backPlane = (s.arr n a).backPlane := by
  unfold State.abandonCheck
  split
  · exact ⟨rfl, rfl⟩
  · rw [State.arr_arrCount, State.arr_updArr]
    exact ⟨rfl, rfl⟩

@[simp] theorem State.abandonCheck_cals (s : State) (n a : Nat) : (s.abandonCheck n a).cals = s.cals :=
  (State.abandonCheck_follows rfl (State.Follows.refl 32784 s)).at State.cals 18 State.reset.cals (fun _ => rfl) rfl

@[simp] theorem State.swapTaken_arrays (s : State) (n p : Nat) : (s.swapTaken n p).arrays = s.arrays :=
  (State.swapTaken_follows rfl (State.Follows.refl 590448932746046735128 s)).at State.arrays 15 State.reset.arrays
    (fun _ => rfl) rfl
@[simp] theorem State.swapTaken_cals (s : State) (n p : Nat) : (s.swapTaken n p).cals = s.cals :=
  (State.swapTaken_follows rfl (State.Follows.refl 590448932746046735128 s)).at State.cals 18 State.reset.cals
    (fun _ => rfl) rfl

/-- Outside calibration no array has a partner. -/
theorem State.partnerArr_of_idle {s : State} {n : Nat} (h : (s.cals.get n).state = 0) (a : Nat) : s.partnerArr n a = none :=
  if_pos h

/-- Outside calibration a swap exchanges the planes of the one array, and leaves calibration. -/
theorem State.swapArr_idle {s : State} {n : Nat} (h : (s.cals.get n).state = 0) (a : Nat) :
    (s.swapArr n a).arrays = ((s.abandonCheck n a).updArr n a Arr.swapped).arrays ∧ (s.swapArr n a).cals = s.cals := by
  have hafter : ((s.abandonCheck n a).updArr n a Arr.swapped).partnerArr n a = none :=
    State.partnerArr_of_idle (by simpa using h) a
  simp [State.swapArr, State.partnerArr_of_idle h, hafter]

/-- Outside calibration a swap exchanges the planes by role. -/
theorem State.swapArr_planes {s : State} {n : Nat} (h : (s.cals.get n).state = 0) (a : Nat) :
    ((s.swapArr n a).arr n a).frontPlane = { (s.arr n a).backPlane with loaded := false } ∧
    ((s.swapArr n a).arr n a).backPlane = (s.arr n a).frontPlane ∧ ((s.swapArr n a).arr n a).swapPending = false := by
  obtain ⟨hfront, hback⟩ := s.abandonCheck_planes n a
  rw [State.arr_of_arrays (State.swapArr_idle h a).1, State.arr_updArr, ← hfront, ← hback]
  exact Arr.swapped_planes _

/-! What a tile boundary does with a swap: nothing where none is pending, a count of the wait where its load is not
complete, and the swap where it is. -/

theorem State.swapBoundary_none {s : State} {n a : Nat} (h : (s.arr n a).swapPending = false) : s.swapBoundary n a = s := by
  simp [State.swapBoundary, h]

theorem State.swapBoundary_waits {s : State} {n a : Nat} (hpending : (s.arr n a).swapPending = true)
    (hready : (s.arr n a).swapReady = false) :
    s.swapBoundary n a = s.arrCount n a (Reg.ARR_PLOAD_STALL n a) 1 false := by
  simp [State.swapBoundary, hpending, hready]

theorem State.swapBoundary_ready {s : State} {n a : Nat} (hpending : (s.arr n a).swapPending = true)
    (hready : (s.arr n a).swapReady = true) : s.swapBoundary n a = s.swapArr n a := by
  simp [State.swapBoundary, hpending, hready]

/-- Outside calibration no swap changes calibration. -/
theorem State.swapBoundary_cals {s : State} {n : Nat} (h : (s.cals.get n).state = 0) (a : Nat) :
    (s.swapBoundary n a).cals = s.cals := by
  cases hpending : (s.arr n a).swapPending with
  | false => rw [State.swapBoundary_none hpending]
  | true =>
    cases hready : (s.arr n a).swapReady with
    | false => rw [State.swapBoundary_waits hpending hready, State.arrCount_cals]
    | true => rw [State.swapBoundary_ready hpending hready, (State.swapArr_idle h a).2]

/-! ### Temperature, clocks and pacing (R104, R190) -/

theorem State.clusterOf_congr {s t : State} (hreserves : t.reserves = s.reserves) (hfuses : t.fuses = s.fuses) (n : Nat) :
    t.clusterOf n = s.clusterOf n := by
  simp only [State.clusterOf, State.place, State.reserveOf, hreserves, hfuses]

/-- A swap is nothing to the thermal model and to where the core lies. -/
theorem State.swapBoundary_apart (s : State) (n a : Nat) :
    (s.swapBoundary n a).thm = s.thm ∧ (s.swapBoundary n a).clusterOf n = s.clusterOf n := by
  have h := State.swapBoundary_follows rfl (State.Follows.refl 590448932746047030040 s) (n := n) (a := a)
  exact ⟨h.at State.thm 74 State.reset.thm (fun _ => rfl) rfl,
    State.clusterOf_congr (h.at State.reserves 64 State.reset.reserves (fun _ => rfl) rfl)
      (h.at State.fuses 10 State.reset.fuses (fun _ => rfl) rfl) n⟩

/-- A core's temperature at a tile boundary: its cluster's array node's, unless it is held (R190). -/
def State.tempTaken (s : State) (n : Nat) : Int :=
  if s.thm.started && !(s.cals.get n).tempHold then (s.thm.nodes.get (16 + s.clusterOf n)).sixteenths
  else (s.cals.get n).temp

theorem State.takeTemp_cal (s : State) (n : Nat) :
    (s.takeTemp n).cals.get n = { s.cals.get n with temp := s.tempTaken n } := by
  unfold State.takeTemp State.tempTaken
  dsimp only
  split
  · exact State.cals_updCal ..
  · rfl

/-- The end of a tile boundary: temperature, clock and pacing. -/
def State.boundaryEnd (s : State) (n : Nat) : State :=
  ((s.takeTemp n).takeRatio (halfOf (s.takeTemp n).fuses.grade n)).takePacing n

@[simp] theorem State.boundaryEnd_arrays (s : State) (n : Nat) : (s.boundaryEnd n).arrays = s.arrays :=
  (State.takePacing_follows rfl (State.takeRatio_follows rfl (State.takeTemp_follows rfl
    (State.Follows.refl 2361336363823227208472 s)))).at State.arrays 15 State.reset.arrays (fun _ => rfl) rfl

@[simp] theorem State.arr_boundaryEnd (s : State) (n m b : Nat) : (s.boundaryEnd n).arr m b = s.arr m b :=
  State.arr_of_arrays (State.boundaryEnd_arrays ..) m b

theorem State.boundaryEnd_cal (s : State) (n : Nat) :
    (s.boundaryEnd n).cals.get n = { s.cals.get n with temp := s.tempTaken n } := by
  have h : (s.boundaryEnd n).cals = (s.takeTemp n).cals :=
    (State.takePacing_follows rfl (State.takeRatio_follows rfl
      (State.Follows.refl 2361336363823226946328 (s.takeTemp n)))).at State.cals 18 State.reset.cals (fun _ => rfl) rfl
  rw [h, State.takeTemp_cal]

/-- At the end of a tile comes the swap, then calibration's takeover or return, then the rest (R103). -/
theorem exec_tileBoundary_ends {s : State} {n a : Nat} (h : TileEnds s n a) :
    exec (.tileBoundary n a) s = .next (((s.swapBoundary n a).calBoundary n a).boundaryEnd n) := by
  obtain ⟨hcore, hpos, hdriven, hwaiting, hurgent, hqueue⟩ := h
  have hends : ¬(s.fuses.grade ≤ n ∨ 12 < a ∨ (!(s.arr n a).driven.isEmpty) = true ∨
      (!(s.arr n a).waiting.isEmpty) = true ∨ (!(s.arr n a).urgent.isEmpty) = true ∨
      (!(s.arr n a).queue.all (·.afterSwap)) = true) := by
    simp [hcore, hpos, hdriven, hwaiting, hurgent, hqueue]
  rw [exec_tileBoundary, execTileBoundary]
  dsimp only
  rw [if_neg hends]
  rfl

/-! ### What calibration does at a tile boundary (R174, R185) -/

theorem State.calBoundary_idle {s : State} {n : Nat} (hidle : (s.cals.get n).state = 0)
    (hmode : (s.cals.get n).checkOnly = false) (a : Nat) : s.calBoundary n a = s := by
  simp [State.calBoundary, hidle, hmode]

theorem State.abandonCheck_none {s : State} {n a : Nat} (h : (s.arr n a).check = none) : s.abandonCheck n a = s := by
  simp [State.abandonCheck, h]

/-- A takeover that meets no load takes place: the spare array stands in for the target and the turn compares. -/
theorem State.calBoundary_takeover {s : State} {n a : Nat} (hstate : (s.cals.get n).state = 2)
    (htarget : (s.cals.get n).target = a) (hdue : s.loadDue n a = false) (hcheck : (s.arr n a).check = none) :
    s.calBoundary n a = ((s.updCal n (fun c => { c with yields := 0 })).standIn n a).updCal n
      (fun c => { c with state := 3 }) := by
  have hnone : (s.updCal n (fun c => { c with yields := 0 })).abandonCheck n a =
      s.updCal n (fun c => { c with yields := 0 }) := State.abandonCheck_none hcheck
  simp [State.calBoundary, State.yieldOr, hstate, htarget, hdue, hnone]

/-- The spare array takes the position's queue and loads, and the position gives up its own. -/
theorem State.standIn_arrays (s : State) (n : Nat) {a : Nat} (h : a ≠ 12) :
    (s.standIn n a).arr n 12 = { s.arr n 12 with
      stand := true, standReason := 1, standPos := a, queue := (s.arr n a).queue, loads := (s.arr n a).loads
      loading := (s.arr n a).loading, swapPending := (s.arr n a).swapPending } ∧
    (s.standIn n a).arr n a = { (s.arr n a).idle with
      stand := true, standReason := 1, loads := [], loading := false, swapPending := false } := by
  unfold State.standIn
  dsimp only
  rw [State.arr_updArr_ne _ n _ h.symm, State.arr_updArr, State.arr_updArr, State.arr_updArr_ne _ n _ h]
  exact ⟨rfl, rfl⟩

@[simp] theorem State.standIn_cals (s : State) (n a : Nat) : (s.standIn n a).cals = s.cals := rfl

/-! ### Test reads (R105) -/

theorem exec_arrayTestRead_within {s : State} {n a : Nat} (hcore : n < s.fuses.grade) (hpos : a ≤ 12) (v : Nat) :
    exec (.arrayTestRead n a v) s = .next (s.testRead n a v) := by
  rw [exec_arrayTestRead, execArrayTestRead, if_neg (by omega)]

/-! ### Host access to scratchpads (R289) -/

theorem exec_spmAccAddrWrite_within {s : State} {n : Nat} (hcore : n < s.fuses.grade) (p : Port) (v : Nat) :
    exec (.spmAccAddrWrite n p v) s = .next (s.spmAddr n p v) := by
  rw [exec_spmAccAddrWrite, execSpmAccAddrWrite, if_neg (Nat.not_le.mpr hcore)]

theorem exec_spmAccDataHiWrite_within {s : State} {n : Nat} (hcore : n < s.fuses.grade) (p : Port) (v : Nat) :
    exec (.spmAccDataHiWrite n p v) s = .next (s.spmData n p v) := by
  rw [exec_spmAccDataHiWrite, execSpmAccDataHiWrite, if_neg (Nat.not_le.mpr hcore)]

/-- Whether the host may access a core's scratchpads is not in the registers. -/
@[simp] theorem State.spmOpen_setRegN (s : State) (off v n : Nat) : (s.setRegN off v).spmOpen n = s.spmOpen n := rfl

/-- The word at an address that SPM_ACC_ADDR can hold. -/
theorem spmWord_bits {v : Nat} (h : 8 * bits v 20 3 < 0x180000) : spmWord v = some (8 * bits v 20 3) := by
  simp [spmWord, h]

theorem spmWord_aligned {o : Nat} (halign : o % 8 = 0) (h : o < 0x180000) : spmWord o = some o := by
  have hbits : 8 * bits o 20 3 = o := by
    unfold bits
    omega
  rw [spmWord_bits (by rwa [hbits]), hbits]

/-- An open access through SPM_ACC_ADDR reads the word. -/
theorem State.spmAddr_open {s : State} {n v : Nat} (p : Port) (hopen : s.spmOpen n = true)
    (hv : 8 * bits v 20 3 < 0x180000) :
    s.spmAddr n p v = ((s.setRegN (Reg.SPM_ACC_ADDR n) (8 * bits v 20 3)).setReg64 (Reg.SPM_ACC_DATA_LO n)
      (leNat ((s.cores.get n).spm.bytes (8 * bits v 20 3) 8))).updCore n (fun c => { c with accRefused := false }) := by
  simp [State.spmAddr, hopen, spmWord_bits hv]

/-- The address register lies outside the data pair. -/
theorem spmAddr_ne_data (n : Nat) :
    Reg.SPM_ACC_ADDR n ≠ Reg.SPM_ACC_DATA_LO n ∧ Reg.SPM_ACC_ADDR n ≠ Reg.SPM_ACC_DATA_LO n + 4 := by
  unfold Reg.SPM_ACC_ADDR Reg.SPM_ACC_DATA_LO
  omega

/-- An open access through SPM_ACC_DATA_HI writes the word. -/
theorem State.spmData_open {s : State} {n o : Nat} (hopen : s.spmOpen n = true)
    (hword : spmWord (s.regN (Reg.SPM_ACC_ADDR n)) = some o) (p : Port) (v : Nat) :
    s.spmData n p v = (({ s with heldLow := s.heldLow.put (portKey p (Reg.SPM_ACC_DATA_LO n)) none } : State).setReg64
      (Reg.SPM_ACC_DATA_LO n) (s.heldPair p (Reg.SPM_ACC_DATA_LO n) v)).updCore n (fun c => { c with
        accRefused := false
        spm := c.spm.store o (leBytes 8 (s.heldPair p (Reg.SPM_ACC_DATA_LO n) v))
        poison := c.poison.put (o / 8) false }) := by
  have hnot : ¬(!s.spmOpen n) = true := by simp [hopen]
  have hkept : ∀ (u : State) (w : Nat), spmWord ((u.setReg64 (Reg.SPM_ACC_DATA_LO n) w).regN (Reg.SPM_ACC_ADDR n)) =
      spmWord (u.regN (Reg.SPM_ACC_ADDR n)) := fun u w =>
    congrArg spmWord (u.regN_setReg64_ne w (spmAddr_ne_data n).1 (spmAddr_ne_data n).2)
  have hheld : spmWord (({ s with heldLow := s.heldLow.put (portKey p (Reg.SPM_ACC_DATA_LO n)) none } : State).regN
      (Reg.SPM_ACC_ADDR n)) = some o := hword
  refine (if_neg hnot).trans ?_
  simp only [hkept, hheld]

/-- A refused access leaves the scratchpads and is shown. -/
theorem State.spmRefused_core (s : State) (n : Nat) (p : Port) :
    (s.spmRefused n p).cores.get n = { s.cores.get n with accRefused := true } := by
  simp [State.spmRefused]

theorem State.spmAddr_closed {s : State} {n : Nat} (hclosed : s.spmOpen n = false) (p : Port) (v : Nat) :
    (s.spmAddr n p v).cores.get n = { s.cores.get n with accRefused := true } := by
  simp [State.spmAddr, hclosed, State.spmRefused_core]

theorem State.spmData_closed {s : State} {n : Nat} (hclosed : s.spmOpen n = false) (p : Port) (v : Nat) :
    (s.spmData n p v).cores.get n = { s.cores.get n with accRefused := true } := by
  have hrefused : s.spmData n p v = State.spmRefused
      { s with heldLow := s.heldLow.put (portKey p (Reg.SPM_ACC_DATA_LO n)) none } n p := if_pos (congrArg not hclosed)
  rw [hrefused, State.spmRefused_core]

/-- A held pair is a number of 64 bits. -/
theorem State.heldPair_lt (s : State) (p : Port) (lo v : Nat) : s.heldPair p lo v < 2 ^ 64 := by
  have hlow := ((s.heldLow.get (portKey p lo)).getD (s.reg lo)).isLt
  unfold State.heldPair
  omega

/-! ### The fatal record (R526) -/

/-- A write of 0 leaves every register below the fatal record. -/
theorem State.reg_fatalWrite_below (s : State) {off : Nat} (h : off < Reg.FLT_FATAL 0 0) :
    (s.fatalWrite 0).reg off = s.reg off := by
  have hkept : (s.regs.keep (fun k _ => decide (k < Reg.FLT_FATAL 0 0 ∨ Reg.FLT_FATAL 16 0 ≤ k))).get off =
      s.regs.get off :=
    Map.get_keep_of_keys s.regs (p := fun k => decide (k < Reg.FLT_FATAL 0 0 ∨ Reg.FLT_FATAL 16 0 ≤ k)) (by simp [h])
  exact congrArg (fun x => Option.getD x (resetOf off)) hkept

/-- Settles O41, one sender at a time: the tile, the test read, the scratchpad accesses and the fatal record. -/
theorem tilesAndAccess : Obligations.TilesAndAccess := by
  refine ⟨?swap, ?takeover, ?testRead, ?read, ?write, ?refused, ?fatal⟩
  case swap =>
    intro s n a x hends hidle hmode
    have hcals := State.swapBoundary_cals hidle a
    obtain ⟨hthm, hcluster⟩ := s.swapBoundary_apart n a
    have hcal : (s.swapBoundary n a).calBoundary n a = s.swapBoundary n a :=
      State.calBoundary_idle (hcals ▸ hidle) (hcals ▸ hmode) a
    refine ⟨_, exec_tileBoundary_ends hends, ?_⟩
    rw [hcal, State.boundaryEnd_arrays, State.boundaryEnd_cal, State.arr_boundaryEnd]
    refine ⟨fun hpending hready => ?_, fun hpending hready => ?_, fun hpending => ?_, ?_⟩
    · rw [State.swapBoundary_ready hpending hready]
      exact State.swapArr_planes hidle a
    · rw [State.swapBoundary_waits hpending hready, State.arrCount_arrays]
    · rw [State.swapBoundary_none hpending]
    · simp only [State.tempTaken, hthm, hcluster, hcals]
  case takeover =>
    intro s n a x hends hpending hcheck hpos hstate htarget hdue
    obtain ⟨hspare, hposition⟩ := (s.updCal n (fun c => { c with yields := 0 })).standIn_arrays n hpos
    refine ⟨_, exec_tileBoundary_ends hends, ?_⟩
    simp [x, State.swapBoundary_none hpending, State.calBoundary_takeover hstate htarget hdue hcheck,
      State.boundaryEnd_cal, hspare, hposition]
  case testRead =>
    intro s n a v hcore hpos
    refine ⟨fun hok => ⟨_, exec_arrayTestRead_within hcore hpos v, ?_⟩, fun hbad => ?_⟩
    · simp [State.testRead, hok]
    · rw [exec_arrayTestRead_within hcore hpos]
      simp [State.testRead, hbad]
  case read =>
    intro s n v p hcore hopen hv
    refine ⟨_, exec_spmAccAddrWrite_within hcore p v, ?_⟩
    have hword : leNat ((s.cores.get n).spm.bytes (8 * bits v 20 3) 8) < 2 ^ 64 := by
      simpa using leNat_lt ((s.cores.get n).spm.bytes (8 * bits v 20 3) 8)
    have haddr : 8 * bits v 20 3 % 2 ^ 32 = 8 * bits v 20 3 := Nat.mod_eq_of_lt (by omega)
    obtain ⟨hlow, hhigh⟩ := spmAddr_ne_data n
    rw [State.spmAddr_open p hopen hv, State.updCore_reg64, State.reg64_setReg64 _ _ hword, State.updCore_regN,
      State.regN_setReg64_ne _ _ hlow hhigh, State.regN_setRegN, haddr, State.cores_updCore]
    exact ⟨rfl, rfl, rfl, rfl⟩
  case write =>
    intro s n v p o w hcore hopen halign ho
    refine ⟨_, exec_spmAccDataHiWrite_within hcore p v, ?_⟩
    rw [State.spmData_open hopen (spmWord_aligned halign ho), State.updCore_reg64,
      State.reg64_setReg64 _ _ (s.heldPair_lt p _ v), State.cores_updCore]
    exact ⟨rfl, fun k hk => Memory.get_store_leBytes _ o w hk, fun b hb => Memory.get_store_leBytes_outside _ w hb,
      Map.get_put_self ..⟩
  case refused =>
    intro s n v p hcore hclosed
    refine ⟨⟨_, exec_spmAccAddrWrite_within hcore p v, ?_⟩, ⟨_, exec_spmAccDataHiWrite_within hcore p v, ?_⟩⟩
    · rw [State.spmAddr_closed hclosed]
      exact ⟨rfl, rfl⟩
    · rw [State.spmData_closed hclosed]
      exact ⟨rfl, rfl⟩
  case fatal =>
    intro s v p
    refine ⟨?_, fun hv => ?_⟩
    · rintro rfl
      exact ⟨_, exec_fatalCountWrite p 0 s, rfl, rfl, rfl, fun off => s.reg_fatalWrite_below⟩
    · rw [exec_fatalCountWrite, execFatalCountWrite, State.fatalWrite, if_neg hv]

end Sys2Proof.Machine
end

section
/-!
Reduce-on-receive over the Icpen links (05, R156; 17, R495).
-/
namespace Sys2Proof.Machine
open Sys2Proof Sys2Proof.Claims

/-- What reduces is op 1 into BF16 elements or op 2 into FP32 elements. -/
theorem IcpMsg.into_reduces {x : IcpMsg} {type : Nat} {old bs : List Byte} (hop : x.op ≠ 0)
    (h : x.into type old = some bs) :
    (x.op = 1 ∧ type = 0 ∧ bs = addElems .bf16 2 x.plain.length old x.plain) ∨
    (x.op = 2 ∧ type = 1 ∧ bs = addElems .fp32 4 x.plain.length old x.plain) := by
  unfold IcpMsg.into at h
  dsimp only at h
  split at h
  · cases h
  · split at h
    case h_1 hplain => exact absurd hplain hop
    case h_2 hbf16 =>
      obtain ⟨htype, hbs⟩ := Option.ite_none_right_eq_some.mp h
      exact .inl ⟨hbf16, htype, (Option.some.inj hbs).symm⟩
    case h_3 hfp32 =>
      obtain ⟨htype, hbs⟩ := Option.ite_none_right_eq_some.mp h
      exact .inr ⟨hfp32, htype, (Option.some.inj hbs).symm⟩
    case h_4 => cases h

/-- A message of the range's size reduces into elements of its operation's type. -/
theorem IcpMsg.into_of_size {x : IcpMsg} {old : List Byte} (hdec : x.dec = old.length) (hplain : x.plain.length = old.length) :
    (x.op = 1 → x.into 0 old = some (addElems .bf16 2 x.plain.length old x.plain)) ∧
    (x.op = 2 → x.into 1 old = some (addElems .fp32 4 x.plain.length old x.plain)) := by
  have hsize : ¬(x.dec ≠ old.length ∨ x.plain.length ≠ old.length) := by simp [hdec, hplain]
  refine ⟨fun hop => ?_, fun hop => ?_⟩ <;>
  · unfold IcpMsg.into
    dsimp only
    rw [if_neg hsize, hop]
    rfl

/-- Element by element: the sum of the first two elements, rounded once, then the sums of the rest. -/
theorem addElems_succ (f : FFmt) (size n : Nat) {a : List Byte} (b : List Byte) (h : a ≠ []) :
    addElems f size (n + 1) a b =
      leBytes size (f.enc ((f.dec (leNat (a.take size))).add (f.dec (leNat (b.take size))))).bits ++
        addElems f size n (a.drop size) (b.drop size) :=
  if_neg (by simpa using h)

/-- Every exchange format but the plain one is decoded to BF16. -/
theorem IcpMsg.plain_of_exchange {x : IcpMsg} (h : x.fmt ≠ 3) :
    x.plain = (decodeExchange x.fmt x.dec x.bytes).flatMap (leBytes 2) := if_neg h

/-- Settles O58, from what a reduction takes, what a sum of elements is and how a payload is decoded. -/
theorem reduceOnReceive : Obligations.ReduceOnReceive := by
  refine ⟨fun x type old bs => IcpMsg.into_reduces, fun x old => IcpMsg.into_of_size, fun f size n a b =>
    addElems_succ f size n b, fun x hfmt => IcpMsg.plain_of_exchange ?_⟩
  omega

end Sys2Proof.Machine
end

section
/-!
Storage of which every listed value is changed at once.
-/
namespace Sys2Proof

variable {α : Type}

/-- A key below all listed keys is not listed. -/
theorem Map.find_of_rising (d : α) {k : Nat} {m : List (Nat × α)} {lo : Option Nat} (hlo : ∃ l, lo = some l ∧ k ≤ l)
    (h : Map.rising lo m = true) : Map.find d m k = d := by
  induction m generalizing lo with
  | nil => rfl
  | cons c m ih =>
    obtain ⟨j, v⟩ := c
    obtain ⟨l, rfl, hl⟩ := hlo
    obtain ⟨hj, hm⟩ : l < j ∧ Map.rising (some j) m = true := by simpa [Map.rising] using h
    rw [Map.find, if_neg (by omega)]
    exact ih ⟨j, rfl, by omega⟩ hm

section
variable [Inhabited α] [DecidableEq α] {f : Nat → α → α} {k : Nat} (hf : f k default = default)
include hf

/-- `Map.get_mapVals` of the cells: one whose value becomes the default is dropped, and no other has its key. -/
theorem Map.find_mapVals {m : List (Nat × α)} {lo : Option Nat} (h : Map.rising lo m = true) :
    Map.find default ((m.map (fun c => (c.1, f c.1 c.2))).filter (fun c => decide (c.2 ≠ default))) k =
      f k (Map.find default m k) := by
  induction m generalizing lo with
  | nil => exact hf.symm
  | cons c m ih =>
    obtain ⟨j, v⟩ := c
    have hm : Map.rising (some j) m = true := (Bool.and_eq_true_iff.mp h).2
    have hrest := ih hm
    rw [List.map_cons, List.filter_cons]
    by_cases hkey : j = k
    · subst hkey
      have hnone : Map.find default m j = default := Map.find_of_rising default ⟨j, rfl, Nat.le_refl j⟩ hm
      by_cases hv : f j v = default
      · rw [if_neg (by simpa using hv), hrest, hnone, hf, Map.find, if_pos rfl, hv]
      · rw [if_pos (by simpa using hv), Map.find, if_pos rfl, Map.find, if_pos rfl]
    · rw [Map.find, if_neg hkey, ← hrest]
      split
      · rw [Map.find, if_neg hkey]
      · rfl

/-- In storage of the canonical form, changing every value changes the value read at a key. -/
theorem Map.get_mapVals {m : Map α} (hwf : m.wf = true) : (m.mapVals f).get k = f k (m.get k) :=
  Map.find_mapVals hf (Bool.and_eq_true_iff.mp hwf).1

end

end Sys2Proof
end

section
/-!
Precision windows and RESET_FALLBACK (05, R159, R164), the two plane copies of an array takeover (18, R510), and FAR_TIER
(16, R331): what each command does, and the one clause of `Obligations.FormatsAndTakeovers` that fails, for storage that is
not in canonical form.
-/
namespace Sys2Proof.Machine
open Sys2Proof Sys2Proof.Claims

/-! ### RESET_FALLBACK (R164) -/

/-- A candidate of the layers that are reset is no longer one registered after every reset (R165). -/
def FmtLayer.notAfter (i k : Nat) (f : FmtLayer) : FmtLayer := if k / 1024 = i then { f with after := false } else f

theorem State.resetFallback_sealed {s : State} {i : Nat} (h : s.hasInst i = true) (p : Port) : (s.resetFallback i p).1 =
    { s with fmtResets := s.fmtResets.upd i (fun l => l ++ [p.num]), fmts := s.fmts.mapVals (FmtLayer.notAfter i) } :=
  congrArg Prod.fst (if_pos h)

/-- Where the image holds its target, RESET_FALLBACK is registered, and with canonical storage no format changes yet. -/
theorem exec_resetFallback_formats {s : State} {i : Nat} (hinst : s.hasInst i = true) (hwf : s.fmts.wf = true) (p : Port) :
    ∃ t, exec (.resetFallback i p) s = .next t ∧ t.fmtResets.get i = s.fmtResets.get i ++ [p.num] ∧
      ∀ k, (t.fmts.get k).wide = (s.fmts.get k).wide ∧ (t.fmts.get k).halved = (s.fmts.get k).halved := by
  refine ⟨_, rfl, ?_⟩
  rw [State.resetFallback_sealed hinst]
  refine ⟨Map.get_upd_self .., fun k => ?_⟩
  rw [Map.get_mapVals (f := FmtLayer.notAfter i) (ite_self _) hwf, FmtLayer.notAfter]
  split <;> exact ⟨rfl, rfl⟩

/-- RESET_FALLBACK of a target that is not sealed registers nothing. -/
theorem exec_resetFallback_unsealed {s : State} {i : Nat} (h : s.hasInst i = false) (p : Port) :
    ∃ t, exec (.resetFallback i p) s = .next t ∧ t.fmtResets = s.fmtResets ∧ t.fmts = s.fmts := by
  refine ⟨_, rfl, ?_⟩
  rw [State.resetFallback, if_neg (by simp [h])]
  exact ⟨State.logEvent_fmtResets .., State.logEvent_fmts ..⟩

/-! ### Precision windows (R159) -/

@[simp] theorem State.fmts_updFmt (s : State) (i l : Nat) (f : FmtLayer → FmtLayer) :
    (s.updFmt i l f).fmts.get (fmtKey i l) = f (s.fmts.get (fmtKey i l)) := Map.get_upd_self ..

theorem State.fmts_updFmt_ne (s : State) {i l k : Nat} (f : FmtLayer → FmtLayer) (h : k ≠ fmtKey i l) :
    (s.updFmt i l f).fmts.get k = s.fmts.get k := Map.get_upd_ne _ _ h

/-- The layer at the end of a window of this metric. -/
def FmtLayer.closeWindow (metric : Nat) (f : FmtLayer) : FmtLayer :=
  { f with metric := metric, evals := satAdd 32 f.evals 1, win := {}, steps := 0 }

/-- A change that leaves the metric, its count and the window. -/
def KeepsWindow (g : FmtLayer → FmtLayer) : Prop :=
  ∀ f, (g f).metric = f.metric ∧ (g f).evals = f.evals ∧ (g f).win = f.win ∧ (g f).steps = f.steps

/-- An evaluation closes the window. What follows of a metric above its threshold leaves the window, and no other layer
changes. -/
theorem State.evaluate_fmts (s : State) (i l metric : Nat) : ∃ g, KeepsWindow g ∧
    (s.evaluate i l metric).fmts.get (fmtKey i l) = g ((s.fmts.get (fmtKey i l)).closeWindow metric) ∧
    ∀ k, k ≠ fmtKey i l → (s.evaluate i l metric).fmts.get k = s.fmts.get k := by
  have hclosed : KeepsWindow id := fun _ => ⟨rfl, rfl, rfl, rfl⟩
  unfold State.evaluate
  dsimp only
  generalize decide (_ < metric) = overs
  split
  · split
    · exact ⟨id, hclosed, s.fmts_updFmt .., fun k => s.fmts_updFmt_ne _⟩
    · exact ⟨fun f => { f with cand := if overs then some metric else none, after := overs }, fun _ => ⟨rfl, rfl, rfl, rfl⟩,
        by rw [State.fmts_updFmt, State.fmts_updFmt]; rfl,
        fun k hk => by rw [State.fmts_updFmt_ne _ _ hk, State.fmts_updFmt_ne _ _ hk]⟩
  · split
    · exact ⟨fun f => { f with told := true }, fun _ => ⟨rfl, rfl, rfl, rfl⟩,
        by rw [State.logEvent_fmts, State.fmts_updFmt, State.fmts_updFmt]; rfl,
        fun k hk => by rw [State.logEvent_fmts, State.fmts_updFmt_ne _ _ hk, State.fmts_updFmt_ne _ _ hk]⟩
    · exact ⟨id, hclosed, s.fmts_updFmt .., fun k => s.fmts_updFmt_ne _⟩

section
variable {s : State} {i l : Nat} (hinst : s.hasInst i = true) (hwide : s.sealedWide i l = false) (htile : s.satMetric i = false)
include hinst hwide htile

/-- With 65,536 checks and a conversion the window is evaluated at the end of the step. -/
theorem exec_layerPassComplete_full (hfull : 65536 ≤ (s.fmts.get (fmtKey i l)).win.checks)
    (hconv : 0 < (s.fmts.get (fmtKey i l)).win.conv) :
    exec (.layerPassComplete i l) s = .next ((s.updFmt i l (fun f => { f with steps := f.steps + 1 })).evaluate i l
      ((s.fmts.get (fmtKey i l)).win.mism * 10 ^ 6 / (s.fmts.get (fmtKey i l)).win.checks)) := by
  have hmetric : (s.updFmt i l (fun f => { f with steps := f.steps + 1 })).satMetric i = false := htile
  simp [exec_layerPassComplete, execLayerPassComplete, hinst, hwide, hmetric, hfull, hconv]

/-- The evaluation at the end of the step: the metric is the mismatches per million checks, and the window restarts. -/
theorem exec_layerPassComplete_evaluates (hfull : 65536 ≤ (s.fmts.get (fmtKey i l)).win.checks)
    (hconv : 0 < (s.fmts.get (fmtKey i l)).win.conv) : ∃ t, exec (.layerPassComplete i l) s = .next t ∧
      (t.fmts.get (fmtKey i l)).metric =
        (s.fmts.get (fmtKey i l)).win.mism * 10 ^ 6 / (s.fmts.get (fmtKey i l)).win.checks ∧
      (t.fmts.get (fmtKey i l)).evals = satAdd 32 (s.fmts.get (fmtKey i l)).evals 1 ∧
      (t.fmts.get (fmtKey i l)).win = {} ∧ (t.fmts.get (fmtKey i l)).steps = 0 ∧
      ∀ k, k ≠ fmtKey i l → t.fmts.get k = s.fmts.get k := by
  refine ⟨_, exec_layerPassComplete_full hinst hwide htile hfull hconv, ?_⟩
  obtain ⟨g, hg, hself, hother⟩ := State.evaluate_fmts (s.updFmt i l (fun f => { f with steps := f.steps + 1 })) i l
    ((s.fmts.get (fmtKey i l)).win.mism * 10 ^ 6 / (s.fmts.get (fmtKey i l)).win.checks)
  obtain ⟨hmetric, hevals, hwin, hsteps⟩ := hg _
  rw [State.fmts_updFmt] at hself
  rw [hself, hmetric, hevals, hwin, hsteps]
  exact ⟨rfl, rfl, rfl, rfl, fun k hk => (hother k hk).trans (s.fmts_updFmt_ne _ hk)⟩

/-- With fewer checks and fewer than 1,024 steps the window only counts the step. -/
theorem exec_layerPassComplete_open (hfull : (s.fmts.get (fmtKey i l)).win.checks < 65536)
    (hsteps : (s.fmts.get (fmtKey i l)).steps < 1023) :
    exec (.layerPassComplete i l) s = .next (s.updFmt i l (fun f => { f with steps := f.steps + 1 })) := by
  have hmetric : (s.updFmt i l (fun f => { f with steps := f.steps + 1 })).satMetric i = false := htile
  have hopen : ¬ 1024 ≤ (s.fmts.get (fmtKey i l)).steps + 1 := by omega
  simp [exec_layerPassComplete, execLayerPassComplete, hinst, hwide, hmetric, hopen, Nat.not_le.mpr hfull]

end

/-! ### The two plane copies of an array takeover (R510) -/

/-- A takeover that ends is no longer listed. -/
theorem State.endArrTakeover_arrTakeovers {s : State} {n : Nat} {k : ArrTakeover}
    (h : s.arrTakeovers.find? (·.core == n) = some k) :
    (s.endArrTakeover n).arrTakeovers = s.arrTakeovers.filter (fun z => z.core != n) := by
  rw [State.endArrTakeover, h]
  exact State.logEvent_arrTakeovers ..

/-- The spare array with the front plane of the array at a position, for which it stands in. -/
def Arr.standFor (pos : Nat) (p : Plane) (y : Arr) : Arr :=
  { y.setFront { p with loaded := false } with stand := true, standReason := 2, standPos := pos }

/-- The failed array, for which the spare array stands in. -/
def Arr.givenUp (y : Arr) : Arr := { y.idle with stand := true, standReason := 2 }

theorem Arr.frontPlane_standFor (pos : Nat) (p : Plane) (y : Arr) :
    (y.standFor pos p).frontPlane = { p with loaded := false } := by
  unfold Arr.standFor Arr.setFront Arr.frontPlane
  split <;> simp [*]

section
variable {s : State} {n : Nat} {k : ArrTakeover} (hfound : s.arrTakeovers.find? (·.core == n) = some k)
include hfound

/-- A front plane whose sums differ for the first time is copied again. -/
theorem exec_frontPlaneReady_retry (hfront : k.front = false) (hagain : k.again = false) :
    exec (.frontPlaneReady n false) s = .next
      { s with arrTakeovers := s.arrTakeovers.map (fun z => if z.core == n then { z with again := true } else z) } := by
  simp [exec_frontPlaneReady, execFrontPlaneReady, hfound, hfront, hagain]

/-- With agreeing sums, the front plane is copied and the spare array stands in for the position. -/
theorem exec_frontPlaneReady_agrees (hfront : k.front = false) : exec (.frontPlaneReady n true) s = .next
    { (s.updArr n 12 (Arr.standFor k.pos (s.arr n k.pos).frontPlane)).updArr n k.pos Arr.givenUp with
      arrTakeovers := s.arrTakeovers.map (fun x => if x.core == n then { x with front := true, again := false } else x) } := by
  rw [exec_frontPlaneReady, execFrontPlaneReady, hfound]
  dsimp only
  rw [if_neg (by simp [hfront]), if_neg (by simp)]
  rfl

/-- The spare array stands in for the failed position (reason 2) with the weights of its front plane. -/
theorem exec_frontPlaneReady_standsIn (hfront : k.front = false) (hpos : k.pos < 12) :
    ∃ t, exec (.frontPlaneReady n true) s = .next t ∧ (t.arr n 12).stand = true ∧ (t.arr n 12).standReason = 2 ∧
      (t.arr n 12).standPos = k.pos ∧ (t.arr n 12).frontPlane.data = (s.arr n k.pos).frontPlane.data := by
  refine ⟨_, exec_frontPlaneReady_agrees hfound hfront, ?_⟩
  have hspare : ((s.updArr n 12 (Arr.standFor k.pos (s.arr n k.pos).frontPlane)).updArr n k.pos Arr.givenUp).arr n 12 =
      (s.arr n 12).standFor k.pos (s.arr n k.pos).frontPlane := by
    rw [State.arr_updArr_ne _ n _ (by omega), State.arr_updArr]
  have hplane : ((s.arr n 12).standFor k.pos (s.arr n k.pos).frontPlane).frontPlane.data = (s.arr n k.pos).frontPlane.data := by
    rw [Arr.frontPlane_standFor]
  exact ⟨congrArg Arr.stand hspare, congrArg Arr.standReason hspare, congrArg Arr.standPos hspare,
    (congrArg (fun y : Arr => y.frontPlane.data) hspare).trans hplane⟩

/-- With agreeing sums, the back plane is copied after the front plane and the takeover ends. -/
theorem exec_backPlaneReady_agrees (hfront : k.front = true) (hloads : (s.arr n 12).loads.any (·.first) = false) :
    exec (.backPlaneReady n true) s =
      .next ((s.updArr n 12 (fun y => y.setBack (s.arr n k.pos).backPlane)).endArrTakeover n) := by
  rw [exec_backPlaneReady, execBackPlaneReady, hfound]
  dsimp only
  rw [if_neg (by simp [hfront, hloads]), if_neg (by simp)]
  rfl

/-- The interruption is over, and the spare array's back plane is the failed array's. -/
theorem exec_backPlaneReady_ends (hfront : k.front = true) (hloads : (s.arr n 12).loads.any (·.first) = false) :
    ∃ t, exec (.backPlaneReady n true) s = .next t ∧ t.arrTakeovers = s.arrTakeovers.filter (fun z => z.core != n) ∧
      (t.arr n 12).backPlane = (s.arr n k.pos).backPlane := by
  refine ⟨_, exec_backPlaneReady_agrees hfound hfront hloads, ?_, ?_⟩
  · exact State.endArrTakeover_arrTakeovers hfound
  · rw [State.arr_of_arrays (State.endArrTakeover_arrays ..), State.arr_updArr, Arr.backPlane_setBack]

end

/-! ### FAR_TIER (R331) -/

/-- The register rows of a far-tier area (Table 11-9). -/
theorem regRow?_ftr : ∀ i, i < 16 →
    regRow? (Reg.FTR_BASE_LO i) = some ⟨"FTR_BASE_LO", 0x5F000, [(16, 0x10)], .rw, 0xFFFFFFFF, 0x0, .low⟩ ∧
    regRow? (Reg.FTR_BASE_LO i + 4) = some ⟨"FTR_BASE_HI", 0x5F004, [(16, 0x10)], .rw, 0xFFFFFFFF, 0x0, .high⟩ ∧
    regRow? (Reg.FTR_CTL i) = some ⟨"FTR_CTL", 0x5F008, [(16, 0x10)], .rw, 0x7, 0x0, .single⟩ := by decide

/-- A write of a register that the part has acts with the unreserved bits of its value (R17). -/
theorem State.writeReg_row {s : State} {p : Port} {off : Nat} {r : RegRow} (hr : regRow? off = some r)
    (hhere : s.absentWindow off = false) (v : Nat) :
    s.writeReg p off v = s.writeAct r p off (BitVec.ofNat 32 v &&& r.mask).toNat (v % 2 ^ 32) := by
  simp [State.writeReg, hr, hhere]

/-- Every part has the far-tier registers. -/
theorem State.absentWindow_ftr (s : State) {off : Nat} (hlow : 0x51200 ≤ off) (hhigh : off < 0xD0000) :
    s.absentWindow off = false := by
  unfold State.absentWindow
  rw [if_neg (by omega), if_neg (by omega), if_neg (by omega), if_neg (by omega), if_neg (by omega)]

section
variable {i : Nat} (hi : i < 16)
include hi

/-- The low half of the base is held until the high half comes (R19). -/
theorem State.writeReg_ftrBaseLow (s : State) (p : Port) (v : Nat) : ∃ w, s.writeReg p (Reg.FTR_BASE_LO i) v =
    { s with heldLow := s.heldLow.put (portKey p (Reg.FTR_BASE_LO i)) w } := by
  have hhere := s.absentWindow_ftr (off := Reg.FTR_BASE_LO i) (by unfold Reg.FTR_BASE_LO; omega)
    (by unfold Reg.FTR_BASE_LO; omega)
  rw [State.writeReg_row (regRow?_ftr i hi).1 hhere]
  exact ⟨_, rfl⟩

/-- The high half of the base sets both, where the area is not busy. -/
theorem State.writeReg_ftrBaseHigh {s : State} (hfree : s.farBusy i = false) (p : Port) (v : Nat) : ∃ h w,
    s.writeReg p (Reg.FTR_BASE_LO i + 4) v = State.setReg64 { s with heldLow := h } (Reg.FTR_BASE_LO i) w := by
  have hhere := s.absentWindow_ftr (off := Reg.FTR_BASE_LO i + 4) (by unfold Reg.FTR_BASE_LO; omega)
    (by unfold Reg.FTR_BASE_LO; omega)
  have hindex : (Reg.FTR_BASE_LO i + 4 - 0x5F004) / 0x10 = i := by unfold Reg.FTR_BASE_LO; omega
  rw [State.writeReg_row (regRow?_ftr i hi).2.1 hhere]
  have hact : ∀ w raw, ∃ h pair,
      s.writeAct ⟨"FTR_BASE_HI", 0x5F004, [(16, 0x10)], .rw, 0xFFFFFFFF, 0x0, .high⟩ p (Reg.FTR_BASE_LO i + 4) w raw =
        State.ftrBase { s with heldLow := h } p ((Reg.FTR_BASE_LO i + 4 - 0x5F004) / 0x10) pair := fun w raw => ⟨_, _, rfl⟩
  obtain ⟨h, pair, hpair⟩ := hact (BitVec.ofNat 32 v &&& 0xFFFFFFFF).toNat (v % 2 ^ 32)
  refine ⟨h, pair, ?_⟩
  have hfree' : State.farBusy { s with heldLow := h } i = false := hfree
  rw [hpair, hindex, State.ftrBase, if_neg (by simp [hfree'])]

/-- The control register takes its three bits, where the area is not busy. -/
theorem State.writeReg_ftrCtl {s : State} (hfree : s.farBusy i = false) (p : Port) (v : Nat) :
    s.writeReg p (Reg.FTR_CTL i) v = s.setRegN (Reg.FTR_CTL i) (v % 8) := by
  have hhere := s.absentWindow_ftr (off := Reg.FTR_CTL i) (by unfold Reg.FTR_CTL; omega) (by unfold Reg.FTR_CTL; omega)
  have hindex : (Reg.FTR_CTL i - 0x5F008) / 0x10 = i := by unfold Reg.FTR_CTL; omega
  have hact : ∀ w raw, s.writeAct ⟨"FTR_CTL", 0x5F008, [(16, 0x10)], .rw, 0x7, 0x0, .single⟩ p (Reg.FTR_CTL i) w raw =
      s.ftrCtl p ((Reg.FTR_CTL i - 0x5F008) / 0x10) w := fun w raw => rfl
  have hmask : (BitVec.ofNat 32 v &&& 0x7).toNat = v % 8 := by
    rw [BitVec.toNat_and, BitVec.toNat_ofNat]
    exact (Nat.and_two_pow_sub_one_eq_mod _ 3).trans (Nat.mod_mod_of_dvd v (by decide))
  rw [State.writeReg_row (regRow?_ftr i hi).2.2 hhere, hact, hindex, hmask, State.ftrCtl, hfree, Bool.and_false,
    if_neg Bool.false_ne_true, Nat.mod_mod]

/-- A write of the base leaves the area not busy. -/
theorem State.farBusy_ringWrite64 {s : State} (hfree : s.farBusy i = false) (base : Nat) :
    (s.ringWrite64 (Reg.FTR_BASE_LO i) base).farBusy i = false := by
  obtain ⟨w, hlow⟩ := s.writeReg_ftrBaseLow hi .ring base
  obtain ⟨h, pair, hhigh⟩ := State.writeReg_ftrBaseHigh hi (s := { s with heldLow := s.heldLow.put _ w }) hfree .ring
    (base / 2 ^ 32)
  rw [State.ringWrite64, hlow, hhigh]
  exact hfree

/-- FAR_TIER of an area that is not busy leaves valid as given. -/
theorem exec_farTier_valid {s : State} (hfree : s.farBusy i = false) (p base : Nat) (valid : Bool) :
    ∃ t, exec (.farTier i p valid base) s = .next t ∧ t.farValid i = valid := by
  rw [exec_farTier, execFarTier, if_neg (by omega)]
  refine ⟨_, rfl, ?_⟩
  rw [State.farTier, State.writeReg_ftrCtl hi (State.farBusy_ringWrite64 hi hfree base), State.farValid, State.regN_setRegN]
  cases valid <;> simp [bit, b2n]

end

/-! ### The statement over every state -/

/-- Instance 0 sealed, and two cells under one key: the record that is read, of a layer that is not wide, hides one that
says wide. No write makes such storage (`Map.wf_put`), and no clause of the statement excludes it. -/
def hiddenWide : State :=
  { img := { insts := ({} : Map (Option SealedInst)).put 0 (some {}) }
    fmts := ⟨[(fmtKey 0 0, { after := true }), (fmtKey 0 0, { wide := true })]⟩ }

/-- Refutes O50: it speaks of every state, also of one whose format storage is not in canonical form. In `hiddenWide`
RESET_FALLBACK makes the cell that is read equal to a record at reset, which storage drops, and the wide one behind it is
read. With canonical storage that clause holds (`exec_resetFallback_formats`). The other clauses hold as they are: the
sections above prove them one by one, and the one on WAKE_HINT is the command's definition. -/
theorem not_formatsAndTakeovers : ¬ Obligations.FormatsAndTakeovers := by
  rintro ⟨-, hreset, -⟩
  obtain ⟨t, ht, hsealed, -⟩ := hreset hiddenWide 0 .a
  cases ht
  obtain ⟨-, hformats⟩ := hsealed (by decide)
  exact absurd (hformats (fmtKey 0 0)).1 (by decide)

end Sys2Proof.Machine
end

section
/-!
Calibration turns (06, R173–R182, R187, R188, Table 6-2), one lemma for each row of the table.
-/
namespace Sys2Proof.Machine
open Sys2Proof Sys2Proof.Claims

/-- A command that does not list the arrays in `touches` leaves them. -/
theorem exec_arrays {c : Instr} {s t : State} (hc : (touches c).elem .arrays = false) (h : exec c s = .next t) :
    t.arrays = s.arrays := by
  rw [List.elem_eq_mem, decide_eq_false_iff_not] at hc
  have harrays : s.agreesAt t .arrays := State.agreesAt_of_erase (exec_follows h).same hc
  exact harrays

/-! ### The beginning of a turn (R180, R182) -/

/-- Table 6-2's state of a turn of `a` that begins, with `src` to prepare from. -/
def Cal.begun (c : Cal) (a src : Nat) : Cal :=
  { c with state := 1, target := a, source := src, yields := 0, comps := 0, again := 0, cmp := none }

/-- The front of the queue comes first: its first position that is not retired. -/
theorem State.nextTurn_front {s : State} {n a : Nat}
    (h : (s.cals.get n).front.find? (fun a => !(s.arr n a).retired) = some a) :
    s.nextTurn n = some (a, { s.cals.get n with front := (s.cals.get n).front.filter (· != a) }) := by
  have hfront : (s.cals.get n).front.find? (s.arrOk n) = some a := h
  simp only [State.nextTurn, hfront]

/-- The regular order from the next position on: the first position that is not retired is the one after `k` that are. -/
theorem State.find_regular {s : State} {n from_ k : Nat} (hk : k < 13) (hok : (s.arr n ((from_ + k) % 13)).retired = false)
    (hretired : ∀ j, j < k → (s.arr n ((from_ + j) % 13)).retired = true) :
    ((List.range 13).map (fun j => (from_ + j) % 13)).find? (s.arrOk n) = some ((from_ + k) % 13) := by
  have hfirst : (List.range 13).find? (s.arrOk n ∘ fun j => (from_ + j) % 13) = some k := by
    rw [List.find?_range_eq_some]
    exact ⟨by simp [State.arrOk, hok], by simpa using hk, fun j hj => by simp [State.arrOk, hretired j hj]⟩
  rw [List.find?_map, hfirst]
  rfl

/-- With nothing at the front, the regular order gives the position and moves on past it. -/
theorem State.nextTurn_regular {s : State} {n k : Nat}
    (hfront : (s.cals.get n).front.find? (fun a => !(s.arr n a).retired) = none) (hk : k < 13)
    (hok : (s.arr n (((s.cals.get n).next + k) % 13)).retired = false)
    (hretired : ∀ j, j < k → (s.arr n (((s.cals.get n).next + j) % 13)).retired = true) :
    s.nextTurn n = some (((s.cals.get n).next + k) % 13,
      { s.cals.get n with next := (((s.cals.get n).next + k) % 13 + 1) % 13 }) := by
  have hfront' : (s.cals.get n).front.find? (s.arrOk n) = none := hfront
  simp only [State.nextTurn, hfront', State.find_regular hk hok hretired, Option.map_some]

section
variable {s : State} {n : Nat} (hidle : (s.cals.get n).state = 0) (hserves : (s.cores.get n).retired = false)
include hidle hserves

/-- A turn that is due with the spare array held is put off. -/
theorem exec_calTurnDue_held (hheld : s.spareHeld n = true) : exec (.calTurnDue n) s =
    .next ((s.updCal n (fun c => { c with due := s.time + 100000000 })).count (Reg.CAL_DEFER n)) := by
  have htaken : ¬((s.cals.get n).state ≠ 0 || (s.cores.get n).retired) = true := by simp [hidle, hserves]
  rw [exec_calTurnDue, execCalTurnDue]
  exact (if_neg htaken).trans (if_pos hheld)

/-- A turn that is due with the spare array free begins with the position it takes from the queue. -/
theorem exec_calTurnDue_begins {a : Nat} {c : Cal} (hfree : s.spareHeld n = false) (hnext : s.nextTurn n = some (a, c)) :
    ∃ t, exec (.calTurnDue n) s = .next t ∧ TurnBegins s t n a c := by
  have hbegun : ∃ src, exec (.calTurnDue n) s = .next ((s.updCal n (fun _ => c.begun a src)).updArr n a
      (fun x => { x with fit := {}, fitted := none })) := by
    rw [exec_calTurnDue, execCalTurnDue, if_neg (by simp [hidle, hserves]), if_neg (by simp [hfree]), hnext]
    exact ⟨_, rfl⟩
  obtain ⟨src, ht⟩ := hbegun
  refine ⟨_, ht, ⟨src, ?_⟩, ?_⟩
  · rw [State.updArr_cals, State.cals_updCal, Cal.begun]
  · rw [State.arr_updArr]
    exact ⟨rfl, rfl, rfl⟩

end

/-! ### Preparation (R173) -/

/-- The spare array with the planes of another, each in its role. -/
def Arr.copyPlanes (y x : Arr) : Arr := (y.setFront x.frontPlane).setBack x.backPlane

@[simp] theorem Arr.frontPlane_setFront (x : Arr) (p : Plane) : (x.setFront p).frontPlane = p := by
  unfold Arr.setFront Arr.frontPlane
  split <;> simp [*]

theorem Arr.copyPlanes_planes (y x : Arr) :
    (y.copyPlanes x).frontPlane = x.frontPlane ∧ (y.copyPlanes x).backPlane = x.backPlane := by
  simp [Arr.copyPlanes]

/-- The array whose planes the spare array takes: the target, or for a turn of the spare array itself its source. -/
def Cal.copied (c : Cal) : Nat := if c.target = 12 then c.source else c.target

/-- Two changes that agree on a core's turn change it alike. -/
theorem State.updCal_congr {s : State} {n : Nat} {f g : Cal → Cal} (h : f (s.cals.get n) = g (s.cals.get n)) :
    s.updCal n f = s.updCal n g :=
  congrArg (fun c => { s with cals := s.cals.put n c }) h

section
variable {s : State} {n : Nat} (hstate : (s.cals.get n).state = 1)
include hstate

theorem exec_spareArrayReady_agrees : exec (.spareArrayReady n true true) s = .next
    ((s.updArr n 12 (fun y => y.copyPlanes (s.arr n (s.cals.get n).copied))).updCal n
      (fun c => { c with state := if (s.cals.get n).target = 12 then 4 else 2, again := 0 })) := by
  rw [exec_spareArrayReady, execSpareArrayReady, if_neg (by simp [hstate]), if_neg (by simp), if_neg (by simp)]
  rfl

/-- A plane that differs for the first time is marked to be copied again. -/
theorem exec_spareArrayReady_differs {f b : Bool} (hfirst : (s.cals.get n).again = 0) (hdiffers : (f && b) = false) :
    exec (.spareArrayReady n f b) s =
      .next (s.updCal n (fun c => { c with again := (if f then 0 else 1) + (if b then 0 else 2) })) := by
  have hfront : bit (s.cals.get n).again 0 = false := by simp [hfirst, bit]
  have hback : bit (s.cals.get n).again 1 = false := by simp [hfirst, bit]
  have hcopied : (!f || !b) = true := by rw [← Bool.not_and, hdiffers, Bool.not_false]
  rw [exec_spareArrayReady, execSpareArrayReady, if_neg (by simp [hstate]), if_neg (by simp [hfront, hback]),
    if_pos hcopied]
  refine congrArg Host.Outcome.next (State.updCal_congr ?_)
  rw [hfront, hback]
  cases f <;> cases b <;> rfl

end

/-! ### Comparisons and the turn limit (R175, R181) -/

section
variable {s : State} {n : Nat} (hcompares : (s.cals.get n).state = 3 ∨ (s.cals.get n).state = 4)
include hcompares

theorem comparing_taken : ¬((s.cals.get n).state ≠ 3 && (s.cals.get n).state ≠ 4) = true := by
  obtain h | h := hcompares <;> simp [h]

/-- A comparison's samples join the target's sums, and the turn counts it. -/
theorem exec_calComparisonComplete_counts {b : Nat} {codes : List Int} (hcmp : (s.cals.get n).cmp = some (b, codes))
    (conv : List (List Nat)) (overs : List (Nat × Nat)) : exec (.calComparisonComplete n conv overs) s = .next
      (((s.updArr n (s.cals.get n).target (fun x => x.compared b codes conv overs)).arrCount n (s.cals.get n).target
        (Reg.CAL_CMP n (s.cals.get n).target) 1 true).updCal n (fun c => { c with
          cmp := none, comps := c.comps + 1, state := if 4096 ≤ c.comps + 1 then 5 else c.state })) := by
  rw [exec_calComparisonComplete, execCalComparisonComplete, hcmp]
  exact if_neg (comparing_taken hcompares)

/-- The limit with 1,024 comparisons or more: the turn fits. -/
theorem exec_calTurnLimit_fits (henough : 1024 ≤ (s.cals.get n).comps) :
    exec (.calTurnLimit n) s = .next (s.updCal n (fun c => { c with state := 5, cmp := none })) := by
  rw [exec_calTurnLimit, execCalTurnLimit]
  exact (if_neg (comparing_taken hcompares)).trans (if_pos henough)

/-- The limit with fewer: the turn is abandoned, and a spare array that stands in returns. -/
theorem exec_calTurnLimit_abandons (hfew : (s.cals.get n).comps < 1024) : exec (.calTurnLimit n) s = .next
    (if (s.cals.get n).state = 3 then (s.abandonTurn n 1).updCal n (fun c => { c with state := 6 }) else s.abandonTurn n 1) := by
  rw [exec_calTurnLimit, execCalTurnLimit]
  exact (if_neg (comparing_taken hcompares)).trans (if_neg (Nat.not_le.mpr hfew))

end

/-- An abandoned turn keeps its target. -/
theorem State.abandonTurn_cal (s : State) (n cause : Nat) : (s.abandonTurn n cause).cals.get n =
    { s.cals.get n with state := 0, yields := 0, comps := 0, cmp := none, again := 0 } := by
  rw [State.abandonTurn, State.logEvent_cals, State.count_cals, State.cals_updCal]

/-- What the limit leaves of a turn that it abandons. -/
theorem exec_calTurnLimit_abandoned {s : State} {n : Nat} (hcompares : (s.cals.get n).state = 3 ∨ (s.cals.get n).state = 4)
    (hfew : (s.cals.get n).comps < 1024) : ∃ t, exec (.calTurnLimit n) s = .next t ∧
      (t.cals.get n).target = (s.cals.get n).target ∧ (t.cals.get n).comps = 0 ∧
      (t.cals.get n).state = if (s.cals.get n).state = 3 then 6 else 0 := by
  refine ⟨_, exec_calTurnLimit_abandons hcompares hfew, ?_⟩
  split <;> simp [State.abandonTurn_cal]

/-! ### The fit (R176–R179, R187) -/

@[simp] theorem State.arrCount_time (s : State) (n a off k : Nat) (wide : Bool) :
    (s.arrCount n a off k wide).time = s.time :=
  (State.arrCount_follows rfl (State.Follows.refl 16 s)).at State.time 0 State.reset.time (fun _ => rfl) rfl
@[simp] theorem State.advise_time (s : State) (n trigger : Nat) : (s.advise n trigger).time = s.time :=
  (State.advise_follows rfl (State.Follows.refl 590448932746036249368 s)).at State.time 0 State.reset.time
    (fun _ => rfl) rfl
@[simp] theorem State.updArr_time (s : State) (n a : Nat) (f : Arr → Arr) : (s.updArr n a f).time = s.time := rfl

/-- Queueing an array for its save changes the stores alone. -/
@[simp] theorem State.calQueue_arrays (s : State) (n a : Nat) : (s.calQueue n a).arrays = s.arrays :=
  (State.calQueue_follows rfl (State.Follows.refl 524288 s)).at State.arrays 15 State.reset.arrays (fun _ => rfl) rfl
@[simp] theorem State.calQueue_cals (s : State) (n a : Nat) : (s.calQueue n a).cals = s.cals :=
  (State.calQueue_follows rfl (State.Follows.refl 524288 s)).at State.cals 18 State.reset.cals (fun _ => rfl) rfl
@[simp] theorem State.calQueue_time (s : State) (n a : Nat) : (s.calQueue n a).time = s.time :=
  (State.calQueue_follows rfl (State.Follows.refl 524288 s)).at State.time 0 State.reset.time (fun _ => rfl) rfl

/-- A fit's coefficients wait in the array, and the array is queued for its save where they differ from its record. -/
def State.fitWaits (s : State) (n a : Nat) (r : Map Coef × Nat × Nat) : State :=
  let s := s.updArr n a (fun x => { x with fitted := some r, fit := {}, checkOnly := false })
  if s.calDiffers n a r.1 16 8 then s.calQueue n a else s

theorem State.fitWaits_arr (s : State) (n a : Nat) (r : Map Coef × Nat × Nat) :
    (s.fitWaits n a r).arr n a = { s.arr n a with fitted := some r, fit := {}, checkOnly := false } := by
  have harrays : (s.fitWaits n a r).arrays =
      (s.updArr n a (fun x => { x with fitted := some r, fit := {}, checkOnly := false })).arrays := by
    unfold State.fitWaits
    dsimp only
    split
    · exact State.calQueue_arrays ..
    · rfl
  exact (State.arr_of_arrays harrays n a).trans (s.arr_updArr n a _)

@[simp] theorem State.fitWaits_cals (s : State) (n a : Nat) (r : Map Coef × Nat × Nat) :
    (s.fitWaits n a r).cals = s.cals := by
  unfold State.fitWaits
  dsimp only
  split <;> simp
@[simp] theorem State.fitWaits_time (s : State) (n a : Nat) (r : Map Coef × Nat × Nat) :
    (s.fitWaits n a r).time = s.time := by
  unfold State.fitWaits
  dsimp only
  split <;> simp

/-- What follows the counts of a fit: the target is retired, or the fit waits for the return, or the spare array's own fit
takes effect. -/
def State.fitEnds (s : State) (n a : Nat) (r : Map Coef × Nat × Nat) : Out' :=
  if 8 < r.2.1 then .next (s.arrayRetire n a 2)
  else if a = 12 then
    .next ((((s.fitWaits n a r).applyFit n 12).count (Reg.CAL_TURNS n)).updCal n (fun c => { c with state := 0, comps := 0 }))
  else .next ((s.fitWaits n a r).updCal n (fun c => { c with state := 6 }))

/-- A fit is counted, which leaves the arrays, the turns and the time, before its result is used. -/
theorem exec_calFitComplete_counts {s : State} {n : Nat} (hfits : (s.cals.get n).state = 5) :
    ∃ u : State, u.arrays = s.arrays ∧ u.cals = s.cals ∧ u.time = s.time ∧
      exec (.calFitComplete n) s = u.fitEnds n (s.cals.get n).target
        (fitAll (s.arr n (s.cals.get n).target).fit (s.arr n (s.cals.get n).target).coef) := by
  rw [exec_calFitComplete, execCalFitComplete, if_neg (by simp [hfits])]
  refine ⟨_, ?arrays, ?cals, ?time, rfl⟩
  case arrays => split <;> simp
  case cals => split <;> simp
  case time => split <;> simp

section
variable {s : State} {n a : Nat} {coef : Map Coef} {rejected sparse : Nat}
  (hfitted : (s.arr n a).fitted = some (coef, rejected, sparse))
include hfitted

/-- Coefficients that wait take effect and wait no longer; without a rejected column the array's age starts again. -/
theorem State.applyFit_arr : ((s.applyFit n a).arr n a).coef = coef ∧ ((s.applyFit n a).arr n a).fitted = none ∧
    (rejected = 0 → ((s.applyFit n a).arr n a).calTime = s.time ∧ ((s.applyFit n a).arr n a).factory = false) := by
  unfold State.applyFit
  rw [hfitted]
  dsimp only
  split
  case isTrue hnone => simp
  case isFalse hsome => simp [State.logLimited, State.arr_of_arrays (State.logLimitedFor_arrays ..), hsome]

theorem State.applyFit_cals : (s.applyFit n a).cals = s.cals := by
  unfold State.applyFit
  rw [hfitted]
  dsimp only
  split <;> simp [State.logLimited]

end

section
variable {s u : State} {n : Nat} {r : Map Coef × Nat × Nat} (hcals : u.cals = s.cals) (haccepted : r.2.1 ≤ 8)
include hcals haccepted

/-- An accepted fit of a position waits for the return. -/
theorem State.fitEnds_waits {a : Nat} (ha : a ≠ 12) : ∃ t, u.fitEnds n a r = .next t ∧
    t.arr n a = { u.arr n a with fitted := some r, fit := {}, checkOnly := false } ∧
    t.cals.get n = { s.cals.get n with state := 6 } := by
  refine ⟨_, (if_neg (Nat.not_lt.mpr haccepted)).trans (if_neg ha), ?_, ?_⟩
  · rw [State.arr_updCal, State.fitWaits_arr]
  · rw [State.cals_updCal, State.fitWaits_cals, hcals]

/-- An accepted fit of the spare array itself takes effect at once and ends its turn. -/
theorem State.fitEnds_spare {a : Nat} (ha : a = 12) : ∃ t, u.fitEnds n a r = .next t ∧ (t.arr n 12).coef = r.1 ∧
    (t.arr n 12).fitted = none ∧
    t.cals.get n = { s.cals.get n with state := 0, comps := 0 } ∧
    (r.2.1 = 0 → (t.arr n 12).calTime = u.time ∧ (t.arr n 12).factory = false) := by
  subst ha
  have hfitted : ((u.fitWaits n 12 r).arr n 12).fitted = some (r.1, r.2.1, r.2.2) := by
    rw [State.fitWaits_arr]
  obtain ⟨hcoef, hnone, hage⟩ := State.applyFit_arr hfitted
  rw [State.fitWaits_time] at hage
  refine ⟨_, (if_neg (Nat.not_lt.mpr haccepted)).trans (if_pos rfl), hcoef, hnone, ?_, hage⟩
  rw [State.cals_updCal, State.count_cals, State.applyFit_cals hfitted, State.fitWaits_cals, hcals]

end

/-- Settles O39, one row of Table 6-2 at a time. -/
theorem calibrationTurns : Obligations.CalibrationTurns := by
  refine ⟨?due, ?held, ?ready, ?again, ?comparison, ?limit, ?fit⟩
  case due =>
    intro s n c hidle hserves hfree
    exact ⟨fun a hfront => exec_calTurnDue_begins hidle hserves hfree (State.nextTurn_front hfront),
      fun k hfront hk hok hretired =>
        exec_calTurnDue_begins hidle hserves hfree (State.nextTurn_regular hfront hk hok hretired)⟩
  case held =>
    intro s n hidle hserves hheld
    exact exec_calTurnDue_held hidle hserves hheld
  case ready =>
    intro s n c x hstate
    obtain ⟨hfront, hback⟩ := (s.arr n 12).copyPlanes_planes x
    refine ⟨_, exec_spareArrayReady_agrees hstate, ?_⟩
    rw [State.arr_updCal, State.arr_updArr, State.cals_updCal, State.updArr_cals]
    exact ⟨hfront, hback, rfl, rfl⟩
  case again =>
    intro s n f b hstate hfirst hdiffers
    exact ⟨_, exec_spareArrayReady_differs hstate hfirst hdiffers, State.cals_updCal .., rfl⟩
  case comparison =>
    intro s n b codes conv overs c hcompares hcmp
    refine ⟨_, exec_calComparisonComplete_counts hcompares hcmp conv overs, ?_, ?_⟩
    · rw [State.arr_updCal, State.arr_arrCount, State.arr_updArr]
    · rw [State.cals_updCal, State.arrCount_cals, State.updArr_cals]
  case limit =>
    intro s n c hcompares
    have hkept : ∀ t, exec (.calTurnLimit n) s = .next t → t.arrays = s.arrays := fun t =>
      exec_arrays (c := .calTurnLimit n) rfl
    obtain hfew | henough := Nat.lt_or_ge c.comps 1024
    · obtain ⟨t, ht, htarget, hcomps, hstate⟩ := exec_calTurnLimit_abandoned hcompares hfew
      exact ⟨t, ht, hkept t ht, htarget, fun h => absurd hfew (Nat.not_lt.mpr h), fun _ => ⟨hstate, hcomps⟩⟩
    · have ht := exec_calTurnLimit_fits hcompares henough
      refine ⟨_, ht, hkept _ ht, ?_, fun _ => State.cals_updCal .., fun h => absurd h (Nat.not_lt.mpr henough)⟩
      rw [State.cals_updCal]
  case fit =>
    intro s n c x r hfits
    obtain ⟨u, harrays, hcals, htime, hu⟩ := exec_calFitComplete_counts hfits
    rw [hu]
    refine ⟨fun haccepted hpos => ?_, fun haccepted hspare => ?_, fun hrejected => ⟨u, if_pos hrejected, harrays, hcals⟩⟩
    · have hwaits := State.fitEnds_waits (n := n) hcals haccepted hpos
      rwa [State.arr_of_arrays harrays] at hwaits
    · rw [← htime]
      exact State.fitEnds_spare hcals haccepted hspare

end Sys2Proof.Machine
end

section
/-!
The stores of coefficients (06, R184, R192–R196): where an array's record is kept, and what PRIORITISE, SAVE, the hourly save
and the end of a hold leave in the queues.
-/
namespace Sys2Proof

/-! ### Storage that need not be in the canonical form -/

/-- What every cell and the default satisfy, every value read satisfies. -/
theorem Map.find_of_forall {α : Type} {d : α} {P : α → Prop} (hd : P d) {m : List (Nat × α)} (hm : ∀ c ∈ m, P c.2)
    (k : Nat) : P (Map.find d m k) := by
  induction m with
  | nil => exact hd
  | cons c m ih =>
    obtain ⟨j, v⟩ := c
    rw [Map.find]
    split
    · exact hm (j, v) (List.mem_cons_self ..)
    · exact ih fun c hc => hm c (List.mem_cons_of_mem _ hc)

variable {α : Type} [Inhabited α] [DecidableEq α]

/-- Changing every value gives values that the change can give. -/
theorem Map.get_mapVals_of_forall {P : α → Prop} {f : Nat → α → α} (hd : P default) (hf : ∀ k v, P (f k v)) (m : Map α)
    (k : Nat) : P ((m.mapVals f).get k) := by
  refine Map.find_of_forall hd (fun c hc => ?_) k
  obtain ⟨c', -, rfl⟩ := List.mem_map.mp (List.mem_filter.mp hc).1
  exact hf ..

/-- Changing the values at listed keys, where a second change of a value does nothing more. -/
theorem Map.get_updAll {f : Nat → α → α} (hf : ∀ k v, f k (f k v) = f k v) (m : Map α) (ks : List Nat) (k : Nat) :
    (m.updAll ks f).get k = if k ∈ ks then f k (m.get k) else m.get k := by
  induction ks generalizing m with
  | nil => rfl
  | cons j ks ih =>
    have hrest : (m.updAll (j :: ks) f).get k = ((m.put j (f j (m.get j))).updAll ks f).get k := rfl
    rw [hrest, ih, Map.get_put]
    by_cases hkey : k = j
    · subst hkey
      simp [hf]
    · simp [hkey]

end Sys2Proof

namespace Sys2Proof.Machine
open Sys2Proof

/-! ### Stores and where records are kept (R192, R193) -/

/-- A loop whose every turn leaves a part of the state leaves it. -/
theorem State.foldl_at {α β : Type} {f : State → α → State} (part : State → β) (hf : ∀ s x, part (f s x) = part s)
    (l : List α) (s : State) : part (l.foldl f s) = part s := by
  induction l generalizing s with
  | nil => rfl
  | cons x l ih => exact (ih (f s x)).trans (hf s x)

@[simp] theorem State.calStores_updStore (s : State) (d : Nat) (f : CalStore → CalStore) :
    (s.updStore d f).calStores.get d = f (s.calStores.get d) := Map.get_upd_self ..

theorem State.calStores_updStore_ne (s : State) {d e : Nat} (f : CalStore → CalStore) (h : e ≠ d) :
    (s.updStore d f).calStores.get e = s.calStores.get e := Map.get_upd_ne _ _ h

theorem State.calDie_congr {s t : State} (h : t.fuses = s.fuses) (n : Nat) : t.calDie n = s.calDie n := by
  unfold State.calDie
  rw [h]

theorem State.calKey_congr {s t : State} (h : t.reserves = s.reserves) (n a : Nat) : t.calKey n a = s.calKey n a := by
  unfold State.calKey State.reserveOf
  rw [h]

theorem CalStore.recordOf_congr {st st' : CalStore} (h : st'.slots = st.slots) (key : Nat) :
    st'.recordOf key = st.recordOf key := by
  unfold CalStore.recordOf
  rw [h]

/-- The arrays, where their records are kept and the records themselves are as they were. -/
structure State.SameRecords (s t : State) : Prop where
  arrays : t.arrays = s.arrays
  fuses : t.fuses = s.fuses
  reserves : t.reserves = s.reserves
  slots : ∀ d, (t.calStores.get d).slots = (s.calStores.get d).slots

theorem State.SameRecords.refl (s : State) : s.SameRecords s := ⟨rfl, rfl, rfl, fun _ => rfl⟩

theorem State.SameRecords.trans {s t u : State} (h : s.SameRecords t) (k : t.SameRecords u) : s.SameRecords u :=
  ⟨k.arrays.trans h.arrays, k.fuses.trans h.fuses, k.reserves.trans h.reserves, fun d => (k.slots d).trans (h.slots d)⟩

/-- Then an array differs from its record as it did. -/
theorem State.SameRecords.calDiffers {s t : State} (h : s.SameRecords t) (n a : Nat) (coef : Map Coef) (dg d : Nat) :
    t.calDiffers n a coef dg d = s.calDiffers n a coef dg d := by
  unfold State.calDiffers
  rw [State.calDie_congr h.fuses, State.calKey_congr h.reserves, CalStore.recordOf_congr (h.slots _)]

/-- A change of one store that leaves its slots. -/
theorem State.updStore_sameRecords (s : State) (d : Nat) {f : CalStore → CalStore} (hf : ∀ st, (f st).slots = st.slots) :
    s.SameRecords (s.updStore d f) := by
  refine ⟨rfl, rfl, rfl, fun e => ?_⟩
  by_cases he : e = d
  · subst he
    rw [State.calStores_updStore, hf]
  · rw [State.calStores_updStore_ne s f he]

/-- An event leaves the records. -/
theorem State.logEvent_sameRecords (s : State) (code : Nat) (fs : List (Nat × Nat)) : s.SameRecords (s.logEvent code fs) :=
  ⟨State.logEvent_arrays .., State.logEvent_fuses .., State.logEvent_reserves .., fun _ => by rw [State.logEvent_calStores]⟩

/-! ### Queues of arrays to save (R195, R196) -/

/-- The array of this key is in a die's queue, held or not. -/
def State.Queued (s : State) (d key : Nat) : Prop := ∃ h, (key, h) ∈ (s.calStores.get d).queue

/-- Of the stores only the queues change, each by entries at its end. -/
structure State.Queues (s t : State) : Prop where
  records : s.SameRecords t
  stores : ∀ d, ∃ l, t.calStores.get d = { s.calStores.get d with queue := (s.calStores.get d).queue ++ l }

theorem State.Queues.refl (s : State) : s.Queues s :=
  ⟨.refl s, fun d => ⟨[], by rw [List.append_nil]⟩⟩

theorem State.Queues.trans {s t u : State} (h : s.Queues t) (k : t.Queues u) : s.Queues u := by
  refine ⟨h.records.trans k.records, fun d => ?_⟩
  obtain ⟨l, hl⟩ := h.stores d
  obtain ⟨l', hl'⟩ := k.stores d
  exact ⟨l ++ l', by rw [hl', hl, List.append_assoc]⟩

theorem State.Queues.queued {s t : State} (h : s.Queues t) {d key : Nat} (hq : s.Queued d key) : t.Queued d key := by
  obtain ⟨l, hl⟩ := h.stores d
  obtain ⟨held, hheld⟩ := hq
  exact ⟨held, by rw [hl]; exact List.mem_append_left l hheld⟩

theorem State.calQueue_queues (s : State) (n a : Nat) : s.Queues (s.calQueue n a) := by
  unfold State.calQueue
  dsimp only
  split
  · exact .refl s
  · refine ⟨s.updStore_sameRecords _ fun _ => rfl, fun d => ?_⟩
    by_cases hd : d = s.calDie n
    · subst hd
      exact ⟨_, s.calStores_updStore ..⟩
    · exact ⟨[], by rw [State.calStores_updStore_ne s _ hd, List.append_nil]⟩

theorem State.queued_calQueue (s : State) (n a : Nat) : (s.calQueue n a).Queued (s.calDie n) (16 * n + a) := by
  unfold State.calQueue
  dsimp only
  split
  case isTrue hin =>
    obtain ⟨⟨key, held⟩, hmem, hkey⟩ := List.any_eq_true.mp hin
    exact ⟨held, (beq_iff_eq.mp hkey) ▸ hmem⟩
  case isFalse =>
    rw [State.Queued, State.calStores_updStore]
    exact ⟨_, List.mem_append_right _ (List.mem_singleton_self _)⟩

/-- Several arrays are queued in turn. -/
def State.queueAll (s : State) (l : List (Nat × Nat)) : State := l.foldl (fun s x => s.calQueue x.1 x.2) s

theorem State.queueAll_queues (s : State) (l : List (Nat × Nat)) : s.Queues (s.queueAll l) := by
  induction l generalizing s with
  | nil => exact .refl s
  | cons x l ih => exact (s.calQueue_queues x.1 x.2).trans (ih _)

theorem State.queued_queueAll (s : State) {l : List (Nat × Nat)} {n a : Nat} (h : (n, a) ∈ l) :
    (s.queueAll l).Queued (s.calDie n) (16 * n + a) := by
  induction l generalizing s with
  | nil => cases h
  | cons x l ih =>
    obtain rfl | hl := List.mem_cons.mp h
    · exact (State.queueAll_queues _ l).queued (s.queued_calQueue n a)
    · rw [← State.calDie_congr (s.calQueue_queues x.1 x.2).records.fuses]
      exact ih _ hl

/-- PRIORITISE of a position in service that is neither queued nor the turn's target puts it at the end of the front. -/
theorem exec_calPrioritise_front {s : State} {n a : Nat} (p : Port) (hcore : n < s.fuses.grade) (hpos : a ≤ 12)
    (hok : (s.arr n a).retired = false) (hnew : a ∉ (s.cals.get n).front)
    (htarget : (s.cals.get n).state = 0 ∨ (s.cals.get n).target ≠ a) :
    exec (.calPrioritise n a p) s = .next (s.updCal n (fun c => { c with front := c.front ++ [a] })) := by
  have hgood : ¬(12 < a || (s.arr n a).retired) = true := by simp [hok, hpos]
  have hfree : ¬((s.arr n a).retired || (s.cals.get n).front.contains a ||
      ((s.cals.get n).state != 0 && (s.cals.get n).target == a)) = true := by
    obtain hidle | hother := htarget
    · simp [hok, hnew, hidle]
    · simp [hok, hnew, hother]
  rw [exec_calPrioritise, execCalPrioritise, if_neg (Nat.not_le.mpr hcore), State.calPrioritise, if_neg hgood]
  exact congrArg Host.Outcome.next (if_neg hfree)

/-! ### SAVE and the hourly save (R195) -/

/-- The arrays of a core that differ from their records. -/
def State.unsaved (s : State) (n : Nat) : List Nat :=
  (List.range 13).filter (fun a => s.calDiffers n a (s.arr n a).coef 1 1)

theorem State.calSave_calStores (s : State) (n key : Nat) :
    (s.calSave n key).1.calStores = (s.queueAll ((s.unsaved n).map (fun a => (n, a)))).calStores := by
  rw [State.queueAll, List.foldl_map]
  unfold State.calSave
  dsimp only
  split <;> rfl

/-- SAVE keeps a die's queue and has in it every array of the core that differs from its record. -/
theorem exec_calSave_queues {s : State} {n : Nat} (p : Port) (hcore : n < s.fuses.grade) :
    ∃ t, exec (.calSave n p) s = .next t ∧ t.arrays = s.arrays ∧
      (∃ l, (t.calStores.get (s.calDie n)).queue = (s.calStores.get (s.calDie n)).queue ++ l) ∧
      ∀ a, a < 13 → s.calDiffers n a (s.arr n a).coef 1 1 = true → t.Queued (s.calDie n) (16 * n + a) := by
  have ht : exec (.calSave n p) s = .next (s.calSave n n).1 := by
    rw [exec_calSave, execCalSave, if_neg (Nat.not_le.mpr hcore)]
  refine ⟨_, ht, exec_arrays (c := .calSave n p) rfl ht, ?_, fun a ha hdiffers => ?_⟩
  · obtain ⟨l, hl⟩ := (s.queueAll_queues ((s.unsaved n).map (fun a => (n, a)))).stores (s.calDie n)
    exact ⟨l, by rw [State.calSave_calStores, hl]⟩
  · have hin : (n, a) ∈ (s.unsaved n).map (fun a => (n, a)) := by
      simp [State.unsaved, ha, hdiffers]
    rw [State.Queued, State.calSave_calStores]
    exact s.queued_queueAll hin

/-- Every array of a part of so many cores. -/
def allArrays (grade : Nat) : List (Nat × Nat) :=
  (List.range grade).flatMap (fun n => (List.range 13).map (fun a => (n, a)))

theorem mem_allArrays {grade n a : Nat} : (n, a) ∈ allArrays grade ↔ n < grade ∧ a < 13 := by
  simp [allArrays]

/-- The arrays that a die's hourly save queues: those that differ from their records, and those whose save was dropped. -/
def State.hourlyDue (s : State) (arrs : List (Nat × Nat)) (d : Nat) : List (Nat × Nat) :=
  arrs.filter (fun x => s.calDie x.1 == d &&
    (s.calDiffers x.1 x.2 (s.arr x.1 x.2).coef 1 1 || (s.calStores.get d).dropped.contains (16 * x.1 + x.2)))

/-- A die remembers the arrays of its hourly save, and no dropped save any longer. -/
def CalStore.beginHourly (keys : List Nat) (st : CalStore) : CalStore :=
  { st with hourly := keys, hourlyDone := 0, dropped := [] }

/-- One die's part of the hourly save. -/
def State.hourlyDie (s : State) (arrs : List (Nat × Nat)) (d : Nat) : State :=
  let t := (s.queueAll (s.hourlyDue arrs d)).updStore d
    (CalStore.beginHourly ((s.hourlyDue arrs d).map (fun x => 16 * x.1 + x.2)))
  if (s.hourlyDue arrs d).isEmpty then t.hourlyEnd d else t

theorem exec_hourlySave_dies (s : State) : exec .hourlySave s =
    .next ((s.hourlyDie (allArrays s.fuses.grade) 0).hourlyDie (allArrays s.fuses.grade) 1) := rfl

/-- The end of an hourly save changes its count alone. -/
theorem State.hourlyEnd_calStores (s : State) (d e : Nat) :
    ∃ k, (s.hourlyEnd d).calStores.get e = { s.calStores.get e with hourlyDone := k } := by
  rw [State.hourlyEnd, State.logEvent_calStores]
  by_cases he : e = d
  · subst he
    exact ⟨0, s.calStores_updStore ..⟩
  · exact ⟨_, s.calStores_updStore_ne _ he⟩

theorem State.hourlyEnd_sameRecords (s : State) (d : Nat) : s.SameRecords (s.hourlyEnd d) :=
  (s.updStore_sameRecords d (f := fun st => { st with hourlyDone := 0 }) fun _ => rfl).trans
    (State.logEvent_sameRecords ..)

theorem State.hourlyDie_sameRecords (s : State) (arrs : List (Nat × Nat)) (d : Nat) : s.SameRecords (s.hourlyDie arrs d) := by
  have hqueued := (s.queueAll_queues (s.hourlyDue arrs d)).records.trans (State.updStore_sameRecords _ d
    (f := CalStore.beginHourly ((s.hourlyDue arrs d).map (fun x => 16 * x.1 + x.2))) fun _ => rfl)
  unfold State.hourlyDie
  dsimp only
  split
  · exact hqueued.trans (State.hourlyEnd_sameRecords ..)
  · exact hqueued

/-- A die's part of the hourly save leaves its store with the queue that it gives, but for the count of arrays written. -/
theorem State.hourlyDie_calStores (s : State) (arrs : List (Nat × Nat)) (d e : Nat) : ∃ k,
    (s.hourlyDie arrs d).calStores.get e = { ((s.queueAll (s.hourlyDue arrs d)).updStore d
      (CalStore.beginHourly ((s.hourlyDue arrs d).map (fun x => 16 * x.1 + x.2)))).calStores.get e with hourlyDone := k } := by
  unfold State.hourlyDie
  dsimp only
  split
  · exact State.hourlyEnd_calStores ..
  · exact ⟨_, rfl⟩

theorem State.hourlyDie_self (s : State) (arrs : List (Nat × Nat)) (d : Nat) :
    ((s.hourlyDie arrs d).calStores.get d).dropped = [] ∧
    ((s.hourlyDie arrs d).calStores.get d).hourly = (s.hourlyDue arrs d).map (fun x => 16 * x.1 + x.2) ∧
    ((s.hourlyDie arrs d).calStores.get d).queue = ((s.queueAll (s.hourlyDue arrs d)).calStores.get d).queue := by
  obtain ⟨k, hk⟩ := s.hourlyDie_calStores arrs d d
  rw [State.calStores_updStore] at hk
  rw [hk]
  exact ⟨rfl, rfl, rfl⟩

theorem State.hourlyDie_ne (s : State) (arrs : List (Nat × Nat)) {d e : Nat} (he : e ≠ d) :
    ((s.hourlyDie arrs d).calStores.get e).dropped = (s.calStores.get e).dropped ∧
    ((s.hourlyDie arrs d).calStores.get e).hourly = (s.calStores.get e).hourly ∧
    ∀ key, s.Queued e key → (s.hourlyDie arrs d).Queued e key := by
  obtain ⟨k, hk⟩ := s.hourlyDie_calStores arrs d e
  obtain ⟨l, hl⟩ := (s.queueAll_queues (s.hourlyDue arrs d)).stores e
  rw [State.calStores_updStore_ne _ _ he, hl] at hk
  refine ⟨by rw [hk], by rw [hk], fun key => ?_⟩
  rintro ⟨h, hmem⟩
  exact ⟨h, by rw [hk]; exact List.mem_append_left l hmem⟩

/-- In `t`, die `d` has queued and remembers what was due there in `s`, and no save of it counts as dropped. -/
def State.HourlyQueued (s t : State) (d : Nat) : Prop :=
  (t.calStores.get d).dropped = [] ∧ ∀ n a, n < s.fuses.grade → a < 13 → s.calDie n = d →
    (s.calDiffers n a (s.arr n a).coef 1 1 = true ∨ 16 * n + a ∈ (s.calStores.get d).dropped) →
    16 * n + a ∈ (t.calStores.get d).hourly ∧ t.Queued d (16 * n + a)

theorem State.hourlyDie_hourlyQueued (s : State) (d : Nat) :
    s.HourlyQueued (s.hourlyDie (allArrays s.fuses.grade) d) d := by
  obtain ⟨hdropped, hhourly, hqueue⟩ := s.hourlyDie_self (allArrays s.fuses.grade) d
  refine ⟨hdropped, fun n a hn ha hdie hdue => ?_⟩
  have hin : (n, a) ∈ s.hourlyDue (allArrays s.fuses.grade) d :=
    List.mem_filter.mpr ⟨mem_allArrays.mpr ⟨hn, ha⟩, by simpa [hdie] using hdue⟩
  refine ⟨?_, ?_⟩
  · rw [hhourly]
    exact List.mem_map.mpr ⟨(n, a), hin, rfl⟩
  · rw [State.Queued, hqueue, ← hdie]
    rw [← hdie] at hin
    exact s.queued_queueAll hin

/-- The other die's part keeps what a die has queued. -/
theorem State.HourlyQueued.keep {s t : State} {d e : Nat} (h : s.HourlyQueued t d) (hd : d ≠ e)
    (arrs : List (Nat × Nat)) : s.HourlyQueued (t.hourlyDie arrs e) d := by
  obtain ⟨hdropped, hdue⟩ := h
  obtain ⟨hdropped', hhourly, hqueued⟩ := t.hourlyDie_ne arrs hd
  refine ⟨hdropped'.trans hdropped, fun n a hn ha hdie hdiffers => ?_⟩
  obtain ⟨hin, hqueue⟩ := hdue n a hn ha hdie hdiffers
  exact ⟨hhourly ▸ hin, hqueued _ hqueue⟩

/-- What is due is the same in a state of the same records and dropped saves. -/
theorem State.HourlyQueued.of_sameRecords {s t u : State} {d : Nat} (hsame : s.SameRecords t)
    (hdropped : (t.calStores.get d).dropped = (s.calStores.get d).dropped) (h : t.HourlyQueued u d) :
    s.HourlyQueued u d := by
  obtain ⟨hnone, hdue⟩ := h
  refine ⟨hnone, fun n a hn ha hdie hdiffers => hdue n a ?_ ha ?_ ?_⟩
  · rwa [hsame.fuses]
  · rwa [State.calDie_congr hsame.fuses]
  · rwa [hsame.calDiffers, State.arr_of_arrays hsame.arrays, hdropped]

/-- HOURLY_SAVE queues, on each die, what is due there. -/
theorem exec_hourlySave_queues (s : State) : ∃ t, exec .hourlySave s = .next t ∧ t.arrays = s.arrays ∧
    ∀ d, d < 2 → s.HourlyQueued t d := by
  have hfirst := s.hourlyDie_sameRecords (allArrays s.fuses.grade) 0
  refine ⟨_, exec_hourlySave_dies s, (hfirst.trans (State.hourlyDie_sameRecords ..)).arrays, fun d hd => ?_⟩
  obtain rfl | rfl : d = 0 ∨ d = 1 := by omega
  · exact (s.hourlyDie_hourlyQueued 0).keep (by decide) _
  · obtain ⟨hdropped, -, -⟩ := s.hourlyDie_ne (allArrays s.fuses.grade) Nat.one_ne_zero
    have hsecond := (s.hourlyDie (allArrays s.fuses.grade) 0).hourlyDie_hourlyQueued 1
    rw [hfirst.fuses] at hsecond
    exact hsecond.of_sameRecords hfirst hdropped

/-- SAVE_HOLD_EXPIRY lets go of one entry of one die's queue. -/
theorem exec_saveHoldExpiry_lets (s : State) (d n a : Nat) : ∃ t, exec (.saveHoldExpiry d n a) s = .next t ∧
    (t.calStores.get d).queue = (s.calStores.get d).queue.map (fun q => if q.1 = 16 * n + a then (q.1, false) else q) ∧
    (∀ e, e ≠ d → t.calStores.get e = s.calStores.get e) ∧ t.arrays = s.arrays :=
  ⟨_, exec_saveHoldExpiry d n a s, by rw [State.calStores_updStore], fun _ he => s.calStores_updStore_ne _ he, rfl⟩

end Sys2Proof.Machine
end

section
/-!
The slots of the stores (06, R195–R198): what a write of a record and a read of the pool leave in them, and what an array takes
from them.
-/
namespace Sys2Proof.Machine
open Sys2Proof

/-! ### The write of a record (R195–R197) -/

/-- An array whose save has ended leaves the queue and the hourly save, and its failures are cleared. -/
def CalStore.endSave (key : Nat) (counts : Bool) (st : CalStore) : CalStore :=
  { st with
    queue := st.queue.filter (fun q => q.1 != key), fails := 0, hourly := st.hourly.filter (· != key)
    hourlyDone := if counts then st.hourlyDone + 1 else st.hourlyDone }

/-- The end of an array's save, without the SAVE commands that wait for it. -/
def State.saveTaken (s : State) (d key : Nat) (written : Bool) : State :=
  let t := s.updStore d (CalStore.endSave key ((s.calStores.get d).hourly.contains key && written))
  if (s.calStores.get d).hourly.contains key && (t.calStores.get d).hourly.isEmpty then t.hourlyEnd d else t

theorem State.saveTaken_calStores (s : State) (d key : Nat) (written : Bool) : ∃ k,
    (s.saveTaken d key written).calStores.get d = { (s.calStores.get d).endSave key written with hourlyDone := k } := by
  unfold State.saveTaken
  dsimp only
  split
  · obtain ⟨k, hk⟩ := State.hourlyEnd_calStores
      (s.updStore d (CalStore.endSave key ((s.calStores.get d).hourly.contains key && written))) d d
    rw [State.calStores_updStore] at hk
    exact ⟨k, hk⟩
  · exact ⟨_, s.calStores_updStore ..⟩

/-- SAVE commands that complete leave the stores. -/
theorem State.saveEnded_calStores (s : State) (d key : Nat) (written : Bool) : ∃ k,
    (s.saveEnded d key written).calStores.get d = { (s.calStores.get d).endSave key written with hourlyDone := k } := by
  have htaken : (s.saveEnded d key written).calStores = (s.saveTaken d key written).calStores :=
    State.foldl_at State.calStores (fun u (x : Nat × List Nat) => State.finish_calStores u 0x41 x.1 0) _ _
  rw [htaken]
  exact s.saveTaken_calStores ..

@[simp] theorem State.saveEnded_arrays (s : State) (d key : Nat) (written : Bool) :
    (s.saveEnded d key written).arrays = s.arrays :=
  (State.saveEnded_follows rfl (State.Follows.refl 171136785841652504 s)).at State.arrays 15 State.reset.arrays
    (fun _ => rfl) rfl

/-- A store that remembers that an array's save was dropped. -/
def CalStore.dropSave (key : Nat) (st : CalStore) : CalStore := { st with dropped := st.dropped ++ [key] }

/-- A dropped save is remembered, and is ended else as a save is. -/
theorem State.saveDropped_calStores (s : State) (d key : Nat) : ∃ k, (s.saveDropped d key).calStores.get d =
    { ((s.calStores.get d).dropSave key).endSave key false with hourlyDone := k } := by
  obtain ⟨k, hk⟩ := State.saveEnded_calStores (((s.updStore d (CalStore.dropSave key)).count
    (Reg.CAL_STORE_FAILS d)).logEvent 0x4302 [(1, d), (1, key / 16), (1, key % 16)]) d key false
  rw [State.logEvent_calStores, State.count_calStores, State.calStores_updStore] at hk
  exact ⟨k, hk⟩

@[simp] theorem State.saveDropped_arrays (s : State) (d key : Nat) : (s.saveDropped d key).arrays = s.arrays :=
  (State.saveDropped_follows rfl (State.Follows.refl 171136785841652504 s)).at State.arrays 15 State.reset.arrays
    (fun _ => rfl) rfl

/-- The store with a record written into a slot, and no other slot with a record of that array. -/
def CalStore.write (k key : Nat) (r : CalSlot) (st : CalStore) : CalStore :=
  { st with
    slots := (st.slots.mapVals (fun _ v => if v.key = some key then {} else v)).put k r
    nextSlot := (k + 1) % 1197, seq := st.seq + 1 }

theorem CalStore.write_slot (k key : Nat) (r : CalSlot) (st : CalStore) : (st.write k key r).slots.get k = r :=
  Map.get_put_self ..

theorem CalStore.write_others (k key : Nat) (r : CalSlot) (st : CalStore) {j : Nat} (hj : j ≠ k) :
    ((st.write k key r).slots.get j).key ≠ some key := by
  rw [CalStore.write, Map.get_put_ne _ _ hj]
  refine Map.get_mapVals_of_forall (P := fun v : CalSlot => v.key ≠ some key) (Option.some_ne_none key).symm (fun _ v => ?_) _ j
  split
  · exact (Option.some_ne_none key).symm
  · assumption

/-- The store with a slot whose write failed its verification. -/
def CalStore.failSlot (k : Nat) (st : CalStore) : CalStore :=
  { st with slots := st.slots.put k { bad := true }, nextSlot := (k + 1) % 1197, fails := st.fails + 1 }

theorem CalStore.failSlot_slot (k : Nat) (st : CalStore) : (st.failSlot k).slots.get k = { bad := true } :=
  Map.get_put_self ..

/-- The record of an array, as the next write of its die makes it. -/
def State.nextRecord (s : State) (d n a : Nat) : CalSlot :=
  { key := some (s.calKey n a), seq := (s.calStores.get d).seq + 1, temp := (s.cals.get n).temp
    checkOnly := (s.arr n a).checkOnly, coef := (s.arr n a).coef }

section
variable {s : State} {d n a k : Nat} {h : Bool}
  (hentry : (s.calStores.get d).queue.find? (fun q => !q.2) = some (16 * n + a, h))
  (hslot : (s.calStores.get d).freeSlot = some k)
include hentry hslot

/-- A verified write puts the first entry's array into the free slot and ends its save. -/
theorem exec_calRecordWriteComplete_writes (ha : a < 16) : exec (.calRecordWriteComplete d true) s = .next
    ((((s.updStore d (CalStore.write k (s.calKey n a) (s.nextRecord d n a))).updArr n a
      (fun x => { x with lastSaved := some s.time })).count (Reg.CAL_STORE_WRITES d)).saveEnded d (16 * n + a) true) := by
  have hcore : (16 * n + a) / 16 = n := by omega
  have hpos : (16 * n + a) % 16 = a := by omega
  rw [exec_calRecordWriteComplete, execCalRecordWriteComplete]
  simp only [hentry, hslot, hcore, hpos, if_true]
  rfl

/-- What a verified write leaves of the store and of the array. -/
theorem exec_calRecordWriteComplete_verified (ha : a < 16) : ∃ t, exec (.calRecordWriteComplete d true) s = .next t ∧
    (t.calStores.get d).slots.get k = s.nextRecord d n a ∧
    (∀ j, j ≠ k → ((t.calStores.get d).slots.get j).key ≠ some (s.calKey n a)) ∧
    (t.calStores.get d).seq = (s.calStores.get d).seq + 1 ∧ (t.calStores.get d).nextSlot = (k + 1) % 1197 ∧
    (t.calStores.get d).fails = 0 ∧
    (t.calStores.get d).queue = (s.calStores.get d).queue.filter (fun q => q.1 != 16 * n + a) ∧
    t.arr n a = { s.arr n a with lastSaved := some s.time } := by
  refine ⟨_, exec_calRecordWriteComplete_writes hentry hslot ha, ?_⟩
  generalize hu : ((s.updStore d (CalStore.write k (s.calKey n a) (s.nextRecord d n a))).updArr n a
    (fun x => { x with lastSaved := some s.time })).count (Reg.CAL_STORE_WRITES d) = u
  have hstore : u.calStores.get d = (s.calStores.get d).write k (s.calKey n a) (s.nextRecord d n a) := by
    rw [← hu, State.count_calStores]
    exact s.calStores_updStore ..
  have harr : u.arr n a = { s.arr n a with lastSaved := some s.time } := by
    rw [← hu, State.arr_of_arrays (State.count_arrays ..), State.arr_updArr]
    rfl
  obtain ⟨j, hended⟩ := u.saveEnded_calStores d (16 * n + a) true
  rw [hended, hstore, State.arr_of_arrays (State.saveEnded_arrays ..)]
  exact ⟨CalStore.write_slot .., fun j hj => CalStore.write_others _ _ _ _ hj, rfl, rfl, rfl, rfl, harr⟩

/-- A write that is not verified marks its slot, and at the third failure drops the save. -/
theorem exec_calRecordWriteComplete_fails : exec (.calRecordWriteComplete d false) s = .next
    (if 3 ≤ (s.calStores.get d).fails + 1 then (s.updStore d (CalStore.failSlot k)).saveDropped d (16 * n + a)
      else s.updStore d (CalStore.failSlot k)) := by
  rw [exec_calRecordWriteComplete, execCalRecordWriteComplete]
  simp only [hentry, hslot, Bool.false_eq_true, if_false]
  rfl

/-- What a write that is not verified leaves of the store. -/
theorem exec_calRecordWriteComplete_unverified : ∃ t, exec (.calRecordWriteComplete d false) s = .next t ∧
    ((t.calStores.get d).slots.get k).bad = true ∧ t.arrays = s.arrays ∧
    ((s.calStores.get d).fails < 2 → (t.calStores.get d).queue = (s.calStores.get d).queue ∧
      (t.calStores.get d).fails = (s.calStores.get d).fails + 1) ∧
    (2 ≤ (s.calStores.get d).fails →
      (t.calStores.get d).queue = (s.calStores.get d).queue.filter (fun q => q.1 != 16 * n + a) ∧
      (t.calStores.get d).dropped = (s.calStores.get d).dropped ++ [16 * n + a]) := by
  refine ⟨_, exec_calRecordWriteComplete_fails hentry hslot, ?_⟩
  split
  case isTrue hthird =>
    obtain ⟨j, hdropped⟩ := (s.updStore d (CalStore.failSlot k)).saveDropped_calStores d (16 * n + a)
    rw [State.calStores_updStore] at hdropped
    rw [hdropped]
    refine ⟨congrArg CalSlot.bad (CalStore.failSlot_slot ..), State.saveDropped_arrays .., fun hfew => ?_, fun _ => ⟨rfl, rfl⟩⟩
    omega
  case isFalse hfew =>
    rw [State.calStores_updStore]
    refine ⟨congrArg CalSlot.bad (CalStore.failSlot_slot ..), rfl, fun _ => ⟨rfl, rfl⟩, fun hmany => ?_⟩
    omega

end

/-! ### The read of the pool (R197, R198) -/

/-- A slot whose record is discarded. -/
def CalSlot.discard (v : CalSlot) : CalSlot := { bad := v.bad }

/-- A slot whose mark stays only where `stays` says so. -/
def CalSlot.unmark (stays : Bool) (v : CalSlot) : CalSlot := { v with bad := v.bad && stays }

/-- The store after the read of its pool, which discards the slots `bad`. -/
def CalStore.readPool (bad : List Nat) (stays : Bool) (st : CalStore) : CalStore :=
  { st with slots := (st.slots.updAll bad (fun _ v => v.discard)).mapVals (fun _ v => v.unmark stays) }

/-- With slots in canonical storage, each slot is what the read says of it. -/
theorem CalStore.readPool_slot {st : CalStore} (hwf : st.slots.wf = true) (bad : List Nat) (stays : Bool) (k : Nat) :
    (st.readPool bad stays).slots.get k =
      CalSlot.unmark stays (if k ∈ bad then (st.slots.get k).discard else st.slots.get k) := by
  rw [CalStore.readPool, Map.get_mapVals (f := fun _ v => v.unmark stays) rfl (Map.wf_updAll bad _ hwf),
    Map.get_updAll (f := fun _ (v : CalSlot) => v.discard) (fun _ _ => rfl)]

/-- The array with the record it has, or with the factory's coefficients where it has none. -/
def Arr.takes (x : Arr) (r : Option CalSlot) (time : Nat) : Arr :=
  match r with
  | some r => { x with needsCoef := false, coef := r.coef, factory := false, checkOnly := r.checkOnly, calTime := time }
  | none => { x with
      needsCoef := false, coef := {}, factory := true, checkOnly := false, calTime := (time : Int) - 50000000000 }

theorem Arr.needsCoef_takes (x : Arr) (r : Option CalSlot) (time : Nat) : (x.takes r time).needsCoef = false := by
  cases r <;> rfl

/-- What no array's record changes: the stores, where records are kept, and the time. -/
structure State.SamePool (s t : State) : Prop where
  calStores : t.calStores = s.calStores
  fuses : t.fuses = s.fuses
  reserves : t.reserves = s.reserves
  time : t.time = s.time

theorem State.SamePool.refl (s : State) : s.SamePool s := ⟨rfl, rfl, rfl, rfl⟩

theorem State.SamePool.trans {s t u : State} (h : s.SamePool t) (k : t.SamePool u) : s.SamePool u :=
  ⟨k.calStores.trans h.calStores, k.fuses.trans h.fuses, k.reserves.trans h.reserves, k.time.trans h.time⟩

/-- The record that die `d` has of an array. -/
def State.storedRecord (s : State) (d n a : Nat) : Option CalSlot := (s.calStores.get d).recordOf (s.calKey n a)

theorem State.SamePool.storedRecord {s t : State} (h : s.SamePool t) (d n a : Nat) :
    t.storedRecord d n a = s.storedRecord d n a := by
  unfold State.storedRecord
  rw [h.calStores, State.calKey_congr h.reserves]

theorem State.takeRecord_samePool (s : State) (d n a : Nat) : s.SamePool (s.takeRecord d n a) := by
  have hfollows : s.Follows 153122387330892568 (s.takeRecord d n a) :=
    State.takeRecord_follows rfl (State.Follows.refl 153122387330892568 s)
  exact ⟨hfollows.at State.calStores 19 State.reset.calStores (fun _ => rfl) rfl,
    hfollows.at State.fuses 10 State.reset.fuses (fun _ => rfl) rfl,
    hfollows.at State.reserves 64 State.reset.reserves (fun _ => rfl) rfl,
    hfollows.at State.time 0 State.reset.time (fun _ => rfl) rfl⟩

@[simp] theorem State.toFront_arrays (s : State) (n a : Nat) : (s.toFront n a).arrays = s.arrays :=
  (State.toFront_follows rfl (State.Follows.refl 262144 s)).at State.arrays 15 State.reset.arrays (fun _ => rfl) rfl

/-- An array that has coefficients takes nothing. -/
theorem State.takeRecord_settled {s : State} {n a : Nat} (h : (s.arr n a).needsCoef = false) (d : Nat) :
    s.takeRecord d n a = s := if_pos (by simp [h])

/-- An array that has none takes what its die has of it, and no other array changes. -/
theorem State.takeRecord_arrays {s : State} {n a : Nat} (h : (s.arr n a).needsCoef = true) (d : Nat) :
    (s.takeRecord d n a).arrays = (s.updArr n a (fun x => x.takes (s.storedRecord d n a) s.time)).arrays := by
  rw [State.takeRecord, if_neg (by simp [h])]
  cases hrecord : s.storedRecord d n a with
  | some r =>
    rw [State.storedRecord] at hrecord
    rw [hrecord]
    rfl
  | none =>
    rw [State.storedRecord] at hrecord
    rw [hrecord]
    simp only [State.toFront_arrays, State.logEvent_arrays]
    rfl

theorem State.takeRecord_self {s : State} {n a : Nat} (h : (s.arr n a).needsCoef = true) (d : Nat) :
    (s.takeRecord d n a).arr n a = (s.arr n a).takes (s.storedRecord d n a) s.time :=
  (State.arr_of_arrays (State.takeRecord_arrays h d) n a).trans (s.arr_updArr n a _)

theorem State.takeRecord_ne (s : State) (d : Nat) {n a m b : Nat} (h : arrKey m b ≠ arrKey n a) :
    (s.takeRecord d n a).arr m b = s.arr m b := by
  cases hneeds : (s.arr n a).needsCoef with
  | false => rw [State.takeRecord_settled hneeds]
  | true => exact (State.arr_of_arrays (State.takeRecord_arrays hneeds d) m b).trans (Map.get_upd_ne _ _ h)

/-- The arrays of a list take their records in turn. -/
def State.takeAll (s : State) (d : Nat) (l : List (Nat × Nat)) : State := l.foldl (fun s x => s.takeRecord d x.1 x.2) s

theorem State.takeAll_samePool (s : State) (d : Nat) (l : List (Nat × Nat)) : s.SamePool (s.takeAll d l) := by
  induction l generalizing s with
  | nil => exact .refl s
  | cons x l ih => exact (s.takeRecord_samePool d x.1 x.2).trans (ih _)

theorem State.takeAll_settled {s : State} {n a : Nat} (h : (s.arr n a).needsCoef = false) (d : Nat)
    (l : List (Nat × Nat)) : (s.takeAll d l).arr n a = s.arr n a := by
  induction l generalizing s with
  | nil => rfl
  | cons x l ih =>
    have hkept : (s.takeRecord d x.1 x.2).arr n a = s.arr n a := by
      by_cases hx : arrKey n a = arrKey x.1 x.2
      · have hsame : s.arr x.1 x.2 = s.arr n a := (congrArg s.arrays.get hx).symm
        rw [State.takeRecord_settled (hsame ▸ h)]
      · exact s.takeRecord_ne d hx
    exact (ih (hkept ▸ h)).trans hkept

/-- Every listed array that has no coefficients takes what its die has of it. -/
theorem State.takeAll_arr {s : State} {n a d : Nat} {l : List (Nat × Nat)} (hl : ∀ x ∈ l, x.2 < 16) (h : (n, a) ∈ l)
    (hneeds : (s.arr n a).needsCoef = true) :
    (s.takeAll d l).arr n a = (s.arr n a).takes (s.storedRecord d n a) s.time := by
  induction l generalizing s with
  | nil => cases h
  | cons x l ih =>
    have hrest : (s.takeAll d (x :: l)).arr n a = ((s.takeRecord d x.1 x.2).takeAll d l).arr n a := rfl
    by_cases hx : x = (n, a)
    · subst hx
      have htaken := State.takeRecord_self hneeds d
      rw [hrest, State.takeAll_settled (by rw [htaken, Arr.needsCoef_takes]), htaken]
    · have hpos : a < 16 := hl (n, a) h
      have hpos' : x.2 < 16 := hl x (List.mem_cons_self ..)
      have hkey : arrKey n a ≠ arrKey x.1 x.2 := fun e => by
        unfold arrKey at e
        exact hx (Prod.ext (by omega) (by omega))
      have hkept := s.takeRecord_ne d hkey
      have hpool := s.takeRecord_samePool d x.1 x.2
      have hin : (n, a) ∈ l := (List.mem_cons.mp h).resolve_left (Ne.symm hx)
      rw [hrest, ih (fun y hy => hl y (List.mem_cons_of_mem _ hy)) hin (hkept ▸ hneeds), hkept, hpool.storedRecord, hpool.time]

/-- The slots of a pool among those that a read found bad. -/
def poolSlots (bad : List Nat) : List Nat := (bad.filter (· < 1197)).eraseDups

theorem mem_poolSlots {bad : List Nat} {k : Nat} : k ∈ poolSlots bad ↔ k ∈ bad ∧ k < 1197 := by
  simp [poolSlots, List.mem_eraseDups]

/-- The arrays whose records a die keeps. -/
def State.dieArrays (s : State) (d : Nat) : List (Nat × Nat) :=
  ((List.range s.fuses.grade).filter (fun n => s.calDie n == d)).flatMap (fun n => (List.range 13).map (fun a => (n, a)))

theorem State.mem_dieArrays {s : State} {d n a : Nat} :
    (n, a) ∈ s.dieArrays d ↔ (n < s.fuses.grade ∧ s.calDie n = d) ∧ a < 13 := by
  simp [State.dieArrays]

/-- The discarded slots are counted and logged. -/
def State.logDiscards (s : State) (d : Nat) (bad : List Nat) : State :=
  bad.foldl (fun s k => s.logEvent 0x2303 [(1, d), (2, k)]) (s.setRegN (Reg.CAL_STORE_DISCARDS d) bad.length)

/-- A part of the state that no event and no register changes. -/
theorem State.logDiscards_at {β : Type} (part : State → β) (hevent : ∀ s code fs, part (State.logEvent s code fs) = part s)
    (hreg : ∀ s off v, part (State.setRegN s off v) = part s) (s : State) (d : Nat) (bad : List Nat) :
    part (s.logDiscards d bad) = part s :=
  (State.foldl_at part (fun s k => hevent s 0x2303 [(1, d), (2, k)]) bad _).trans (hreg ..)

theorem State.logDiscards_arrays (s : State) (d : Nat) (bad : List Nat) : (s.logDiscards d bad).arrays = s.arrays :=
  State.logDiscards_at State.arrays State.logEvent_arrays (fun _ _ _ => rfl) s d bad

theorem State.logDiscards_samePool (s : State) (d : Nat) (bad : List Nat) : s.SamePool (s.logDiscards d bad) :=
  ⟨State.logDiscards_at State.calStores State.logEvent_calStores (fun _ _ _ => rfl) s d bad,
    State.logDiscards_at State.fuses State.logEvent_fuses (fun _ _ _ => rfl) s d bad,
    State.logDiscards_at State.reserves State.logEvent_reserves (fun _ _ _ => rfl) s d bad,
    State.logDiscards_at State.time State.logEvent_time (fun _ _ _ => rfl) s d bad⟩

/-- A die that reads its pool first sees to its slots, and then gives its arrays their records. -/
theorem exec_calPoolReadComplete_reads (s : State) (d : Nat) (bad : List Nat) : ∃ u : State,
    (s.updStore d (CalStore.readPool (poolSlots bad) (s.pwr.dawn == 6))).SamePool u ∧ u.arrays = s.arrays ∧
      exec (.calPoolReadComplete d bad) s = .next (u.takeAll d (u.dieArrays d)) :=
  ⟨_, State.logDiscards_samePool _ d (poolSlots bad), State.logDiscards_arrays .., rfl⟩

/-- What a read of the pool leaves of the die's store, and what it gives the die's arrays. -/
theorem exec_calPoolReadComplete_takes (s : State) (d : Nat) (bad : List Nat) :
    ∃ t, exec (.calPoolReadComplete d bad) s = .next t ∧
      t.calStores.get d = (s.calStores.get d).readPool (poolSlots bad) (s.pwr.dawn == 6) ∧
      ∀ n a, n < s.fuses.grade → a < 13 → s.calDie n = d → (s.arr n a).needsCoef = true →
        t.arr n a = (s.arr n a).takes ((t.calStores.get d).recordOf (s.calKey n a)) s.time := by
  obtain ⟨u, hpool, harrays, hu⟩ := exec_calPoolReadComplete_reads s d bad
  have htaken := u.takeAll_samePool d (u.dieArrays d)
  refine ⟨_, hu, ?_, fun n a hn ha hdie hneeds => ?_⟩
  · rw [htaken.calStores, hpool.calStores, State.calStores_updStore]
  · have hfuses : u.fuses = s.fuses := hpool.fuses
    have htime : u.time = s.time := hpool.time
    have hkey : u.calKey n a = s.calKey n a := State.calKey_congr hpool.reserves n a
    have harr : u.arr n a = s.arr n a := State.arr_of_arrays harrays n a
    have hin : (n, a) ∈ u.dieArrays d := by
      rw [State.mem_dieArrays, hfuses, State.calDie_congr hfuses]
      exact ⟨⟨hn, hdie⟩, ha⟩
    have hpos : ∀ x ∈ u.dieArrays d, x.2 < 16 := fun x hx =>
      Nat.lt_of_lt_of_le (State.mem_dieArrays.mp hx).2 (by decide)
    rw [State.takeAll_arr hpos hin (harr ▸ hneeds), harr, htime, State.storedRecord, hkey, htaken.calStores]

end Sys2Proof.Machine
end

section
/-!
The security store (21, R610), and the one clause of `Obligations.StoredRecords` that fails, for slots that are not in canonical
form.
-/
namespace Sys2Proof.Machine
open Sys2Proof

/-! ### The security store (21, R610) -/

/-- A write replaces the older copy, and so gives the value in force. -/
theorem StoreRec.value_write (r : StoreRec) (v : Nat) : (r.write v).value = some v := by
  have hA : r.seqA < max r.seqA r.seqB + 1 := by omega
  have hB : r.seqB < max r.seqA r.seqB + 1 := by omega
  unfold StoreRec.write
  dsimp only
  split
  case isTrue =>
    cases r.okB <;> simp [StoreRec.value, Nat.not_lt.mpr (Nat.le_of_lt hB)]
  case isFalse hkeep =>
    have hvalid : r.okA = true := by
      cases h : r.okA
      · simp [h] at hkeep
      · rfl
    simp [StoreRec.value, hvalid, hA]

/-- The oldest write of a record, verified, is the value in force; not verified, it is made again (log entry 43). -/
theorem exec_storeWriteComplete_oldest {s : State} {r v : Nat} (h : s.sec.writes.find? (fun w => w.1 == r) = some (r, v)) :
    (∃ t, exec (.storeWriteComplete r true) s = .next t ∧ t.storeValue r = some v ∧
      t.sec.writes = s.sec.writes.erase (r, v) ∧ ∀ q, q ≠ r → t.storeValue q = s.storeValue q) ∧
    exec (.storeWriteComplete r false) s = .next s := by
  have hwritten : s.storeWritten r true = { s with sec := { s.sec with
      store := s.sec.store.upd r (fun x => x.write v), writes := s.sec.writes.erase (r, v) } } := by
    rw [State.storeWritten, h]
    rfl
  refine ⟨⟨_, congrArg Host.Outcome.next hwritten, ?_, rfl, fun q hq => ?_⟩, ?_⟩
  · rw [State.storeValue, Map.get_upd_self, StoreRec.value_write]
  · rw [State.storeValue, Map.get_upd_ne _ _ hq]
    rfl
  · rw [exec_storeWriteComplete, execStoreWriteComplete, State.storeWritten, h]
    rfl

/-! ### The statement over every state -/

/-- With slots in canonical storage, a read of the pool erases the slots that fail and keeps marks only at a wake from
Midnight (6), and every array of the die that waits takes its record or the factory's coefficients. -/
theorem exec_calPoolReadComplete_canonical {s : State} {d : Nat} (hwf : (s.calStores.get d).slots.wf = true)
    (bad : List Nat) : ∃ t, exec (.calPoolReadComplete d bad) s = .next t ∧
      (∀ k, k ∈ bad → k < 1197 → ((t.calStores.get d).slots.get k).key = none) ∧
      (∀ k, ((t.calStores.get d).slots.get k).bad = (((s.calStores.get d).slots.get k).bad && s.pwr.dawn == 6)) ∧
      ∀ n a, n < s.fuses.grade → a < 13 → s.calDie n = d → (s.arr n a).needsCoef = true →
        (t.arr n a).needsCoef = false ∧
        (∀ r, (t.calStores.get d).recordOf (s.calKey n a) = some r → (t.arr n a).coef = r.coef ∧
          (t.arr n a).checkOnly = r.checkOnly ∧ (t.arr n a).factory = false ∧ (t.arr n a).calTime = s.time) ∧
        ((t.calStores.get d).recordOf (s.calKey n a) = none → (t.arr n a).coef = {} ∧ (t.arr n a).factory = true ∧
          (t.arr n a).calTime = (s.time : Int) - 50000000000) := by
  obtain ⟨t, ht, hstore, htakes⟩ := exec_calPoolReadComplete_takes s d bad
  refine ⟨t, ht, fun k hk hrange => ?_, fun k => ?_, fun n a hn ha hdie hneeds => ?_⟩
  · rw [hstore, CalStore.readPool_slot hwf, if_pos (mem_poolSlots.mpr ⟨hk, hrange⟩)]
    rfl
  · rw [hstore, CalStore.readPool_slot hwf]
    split <;> rfl
  · rw [htakes n a hn ha hdie hneeds]
    refine ⟨Arr.needsCoef_takes .., fun r hr => ?_, fun hnone => ?_⟩
    · rw [hr]
      exact ⟨rfl, rfl, rfl, rfl⟩
    · rw [hnone]
      exact ⟨rfl, rfl, rfl⟩

/-- Two cells under slot 0 of die 0: the one that is read is marked bad, and hides one that holds a record. No write makes
such storage (`Map.wf_put`), and no clause of the statement excludes it. -/
def hiddenRecord : State :=
  { calStores := ({} : Map CalStore).put 0 { slots := ⟨[(0, { bad := true }), (0, { key := some 0 })]⟩ } }

/-- Refutes O40: it speaks of every state, also of one whose slots are not in canonical form. A read of the pool of
`hiddenRecord` that finds slot 0 bad, at a dawn, makes the cell that is read equal to an erased slot, which storage drops, and
the record behind it is read. With canonical storage that clause holds (`exec_calPoolReadComplete_canonical`). The other clauses
hold as they are: the lemmas on each command above prove them one by one. -/
theorem not_storedRecords : ¬ Obligations.StoredRecords := by
  rintro ⟨-, -, -, -, -, hpool, -⟩
  obtain ⟨t, ht, hdiscarded, -⟩ := hpool hiddenRecord 0 [0]
  obtain ⟨u, hu, hstore, -⟩ := exec_calPoolReadComplete_takes hiddenRecord 0 [0]
  obtain rfl : t = u := Host.Outcome.next.inj (ht.symm.trans hu)
  have hnone := hdiscarded 0 (List.mem_singleton_self 0) (by decide)
  rw [hstore] at hnone
  exact absurd hnone (by decide)

end Sys2Proof.Machine
end

section
/-!
Issue of a core's and an engine's instructions (07, 08): the conditions of R208, R211 and R259 as the claims name them, what
taking the slot leaves of a core, and the writes of a thread's own registers. The core execution proofs below rest on these.
-/
namespace Sys2Proof.Machine
open Sys2Proof Sys2Proof.Claims

/-! ### The checks of issue (R208, R241, R259) -/

theorem firstExc_eq_none_iff {l : List (Nat × Bool)} : firstExc l = none ↔ ∀ x ∈ l, x.2 = false := by
  simp [firstExc]

theorem zeroBits_eq_true {w hi lo : Nat} (h : bits w hi lo = 0) : zeroBits w hi lo = true := by
  simp [zeroBits, h]

theorem opndChecks_pass {rs : List Resolved} (h : ∀ r ∈ rs, clean r) : ∀ x ∈ opndChecks rs, x.2 = false := by
  have hmode : rs.any (·.mode) = false := List.any_eq_false.mpr fun r hr => by
    obtain ⟨hr, -, -⟩ := h r hr
    simp [hr]
  have hdesc : rs.any (·.desc) = false := List.any_eq_false.mpr fun r hr => by
    obtain ⟨-, hr, -⟩ := h r hr
    simp [hr]
  have hbounds : rs.any (·.bounds) = false := List.any_eq_false.mpr fun r hr => by
    obtain ⟨-, -, hr⟩ := h r hr
    simp [hr]
  simp [opndChecks, hmode, hdesc, hbounds]

theorem evcBad_eq_false {counted : Bool} {e : Nat} (h : counterOk counted e) : evcBad counted e = false := by
  cases counted
  · rfl
  · have he : ¬e < 2 := Nat.not_lt.mpr (h rfl)
    rw [evcBad, Bool.true_and, decide_eq_false he]

section
variable {s : State} {u : Exec} {w : Nat} {r : IssueReq}

/-- An instruction whose checks, ranges and unit let it pass has its effect. -/
theorem issue_of_mayIssue (eff : State → State) (h : MayIssue s u w) (hranges : RangesOk s u r.reads r.writes)
    (hexists : r.existsOn u = true) (hfields : r.fieldsOk = true) (hchecks : ∀ x ∈ r.checks, x.2 = false)
    (hunit : r.unitFree = true) : issue s u w r eff = eff (s.take u) := by
  obtain ⟨hissuable, hbarrier, hpc, hguard⟩ := h
  obtain ⟨hclear, hfit⟩ := hranges
  exact issue_runs eff hissuable hbarrier hpc hexists hfields hguard (firstExc_eq_none_iff.mpr hchecks) hclear hunit hfit

theorem mayIssue_of_issues (h : Issues s u w) : MayIssue s u w := by
  obtain ⟨hissuable, hbarrier, hpc, hguard, -⟩ := h
  exact ⟨hissuable, hbarrier, hpc, hguard⟩

theorem rangesOk_of_issues (h : Issues s u w) : RangesOk s u [] [] := by
  obtain ⟨-, -, -, -, hfit⟩ := h
  exact ⟨rangesClear_nil _, hfit⟩

/-- An instruction that declares no ranges. -/
theorem issue_of_issues (eff : State → State) (h : Issues s u w) (hreads : r.reads = []) (hwrites : r.writes = [])
    (hexists : r.existsOn u = true) (hfields : r.fieldsOk = true) (hchecks : ∀ x ∈ r.checks, x.2 = false)
    (hunit : r.unitFree = true) : issue s u w r eff = eff (s.take u) :=
  issue_of_mayIssue eff (mayIssue_of_issues h) (hreads ▸ hwrites ▸ rangesOk_of_issues h) hexists hfields hchecks hunit

end

theorem existsOn_of_engineOk {r : IssueReq} (hcore : r.coreOk = true) (hengine : r.engineOk = true) (u : Exec) :
    r.existsOn u = true := by
  cases u
  · exact hcore
  · exact hengine

/-! ### What taking the slot leaves (R208, R226) -/

/-- A core's thread that takes its slot changes itself and the core's last winner. -/
theorem State.core_take (s : State) (n t : Nat) : (s.take (.core n t)).cores.get n =
    { s.cores.get n with threads := (s.cores.get n).threads.upd t Thread.taken, lastIssue := t } := by
  rw [(s.take_cores (.core n t)).1]
  simp [State.updCtx]

@[simp] theorem State.take_arrays (s : State) (u : Exec) : (s.take u).arrays = s.arrays :=
  (State.take_follows rfl (State.Follows.refl 590448932746046735128 s)).at State.arrays 15 State.reset.arrays (fun _ => rfl) rfl
@[simp] theorem State.take_arrTakeovers (s : State) (u : Exec) : (s.take u).arrTakeovers = s.arrTakeovers :=
  (State.take_follows rfl (State.Follows.refl 590448932746046735128 s)).at State.arrTakeovers 66 State.reset.arrTakeovers
    (fun _ => rfl) rfl
@[simp] theorem State.take_msgs (s : State) (u : Exec) : (s.take u).msgs = s.msgs :=
  (State.take_follows rfl (State.Follows.refl 590448932746046735128 s)).at State.msgs 25 State.reset.msgs (fun _ => rfl) rfl

/-! ### Writes of predicates (R202) -/

/-- A thread's predicates after a write of one. -/
def predPut (b : BitVec 8) (p : Nat) (v : Bool) : BitVec 8 :=
  if p = 0 then b else (b &&& ~~~(BitVec.ofNat 8 (2 ^ p))) ||| (if v then BitVec.ofNat 8 (2 ^ p) else 0)

theorem getLsbD_predPut (b : BitVec 8) {p q : Nat} (v : Bool) (hp : p ≠ 0) (hq : q < 8) :
    (predPut b p v).getLsbD q = if q = p then v else b.getLsbD q := by
  have hmask : (BitVec.ofNat 8 (2 ^ p)).getLsbD q = decide (p = q) := by
    rw [BitVec.getLsbD_ofNat, Nat.testBit_two_pow]
    simp [hq]
  rw [predPut, if_neg hp, BitVec.getLsbD_or, BitVec.getLsbD_and, BitVec.getLsbD_not, hmask]
  by_cases h : q = p
  · subst h
    cases v
    · simp
    · rw [if_pos rfl, hmask]
      simp
  · have h' : p ≠ q := Ne.symm h
    cases v
    · simp [h, h', hq]
    · rw [if_pos rfl, hmask]
      simp [h, h', hq]

@[simp] theorem State.ctx_setP (s : State) (u : Exec) (p : Nat) (v : Bool) :
    (s.setP u p v).ctx u = { s.ctx u with p := predPut (s.ctx u).p p v } := by
  unfold State.setP predPut
  split
  · rfl
  · exact s.ctx_updCtx u _

/-! ### Effects on the issuing thread alone -/

section
variable {c : Instr} {s : State} {u : Exec}

theorem threadOnly_of_updCtx (f : Thread → Thread) (h : exec c s = .next ((s.take u).updCtx u f)) :
    ThreadOnly c s u (f (s.ctx u).taken) := by
  refine ⟨_, h, ?_, fun v hv => ?_, fun v => ?_⟩
  · rw [State.ctx_updCtx, State.ctx_take]
  · rw [State.ctx_updCtx_apart _ _ hv, State.ctx_take_apart _ hv]
  · rw [State.opMem_updCtx, State.opMem_take]

theorem threadOnly_of_take (h : exec c s = .next (s.take u)) : ThreadOnly c s u (s.ctx u).taken :=
  ⟨_, h, State.ctx_take s u, fun _ hv => State.ctx_take_apart s hv, fun v => State.opMem_take s u v⟩

theorem threadOnly_of_setS {d : Nat} {v : W64} (h : exec c s = .next ((s.take u).setS u d v)) :
    ThreadOnly c s u (writesS s u d v) :=
  threadOnly_of_updCtx (fun t => { t with s := t.s.put d v }) h

/-- The thread after a write of a predicate is the one that `writesP` describes. -/
theorem threadOnly_of_setP {p : Nat} {v : Bool} (h : exec c s = .next ((s.take u).setP u p v)) :
    ∃ th, writesP s u p v th ∧ ThreadOnly c s u th := by
  refine ⟨{ (s.ctx u).taken with p := predPut (s.ctx u).p p v }, ⟨rfl, fun hp => if_pos hp, fun hp q hq => ?_⟩, _, h, ?_,
    fun x hx => ?_, fun x => ?_⟩
  · exact getLsbD_predPut _ _ hp hq
  · rw [State.ctx_setP, State.ctx_take]
    rfl
  · rw [State.ctx_setP_apart _ _ _ hx, State.ctx_take_apart _ hx]
  · rw [State.opMem_setP, State.opMem_take]

end

end Sys2Proof.Machine
end

section
/-!
Scalar and predicate instructions (08, R237, Table 8-7).
-/
namespace Sys2Proof.Machine
open Sys2Proof Sys2Proof.Claims

section
variable {s : State} {u : Exec} {w : Nat}

/-- Each row of Table 8-7 that writes sd from two operands is `scalarOp` of the row's function. -/
theorem exec_scalarTable (s : State) (u : Exec) (w : Nat) :
    ∀ x ∈ scalarTable, exec (x.1 u w) s = .next (scalarOp u w s x.2) := by
  have hmin : (fun a b : W64 => if a.slt b then a else b) = fun a b => if a.toInt < b.toInt then a else b := by
    funext a b; simp [BitVec.slt]
  have hmax : (fun a b : W64 => if a.slt b then b else a) = fun a b => if a.toInt < b.toInt then b else a := by
    funext a b; simp [BitVec.slt]
  unfold scalarTable
  simp only [List.forall_mem_cons]
  exact ⟨exec_add .., exec_sub .., exec_mul .., exec_and .., exec_or .., exec_xor .., exec_shl .., exec_shr .., exec_sar ..,
    (exec_min ..).trans (congrArg (fun f => Host.Outcome.next (scalarOp u w s f)) hmin),
    (exec_max ..).trans (congrArg (fun f => Host.Outcome.next (scalarOp u w s f)) hmax), nofun⟩

theorem scalarOp_runs (h : Issues s u w) (hzero : bits w 36 32 = 0) (f : W64 → W64 → W64) :
    scalarOp u w s f = (s.take u).setS u (bits w 49 46) (f ((s.ctx u).s.get (bits w 45 42)) (operand2 s u w)) :=
  issue_of_issues _ h rfl rfl (existsOn_of_engineOk rfl rfl u) (zeroBits_eq_true hzero) nofun rfl

theorem moviFields_eq_true (hzero : bits w 36 32 = 0) (hsources : bits w 45 38 = 0) (himm : bit w 37 = true) :
    moviFields w = true := by
  simp [moviFields, zeroBits_eq_true hzero, zeroBits_eq_true hsources, himm]

/-- Settles O13: every one of the instructions is a write of sd by a thread that has taken its slot. -/
theorem scalarResults : Obligations.ScalarResults := by
  refine ⟨fun x hx s u w h hzero => ?_, fun s u w h hzero hsources himm => ⟨?movi, ?movhi⟩⟩
  · exact threadOnly_of_setS ((exec_scalarTable s u w x hx).trans (congrArg _ (scalarOp_runs h hzero x.2)))
  case movi =>
    exact threadOnly_of_setS ((exec_movi u w s).trans (congrArg Host.Outcome.next (issue_of_issues _ h rfl rfl
      (existsOn_of_engineOk rfl rfl u) (moviFields_eq_true hzero hsources himm) nofun rfl)))
  case movhi =>
    rw [Nat.add_comm (2 ^ 32 * _)]
    exact threadOnly_of_setS ((exec_movhi u w s).trans (congrArg Host.Outcome.next (issue_of_issues _ h rfl rfl
      (existsOn_of_engineOk rfl rfl u) (moviFields_eq_true hzero hsources himm) nofun rfl)))

/-! ### Compares and predicate logic -/

/-- Each compare of Table 8-7 is `compareOp` of the row's relation. -/
theorem exec_compareTable (s : State) (u : Exec) (w : Nat) :
    ∀ x ∈ compareTable, exec (x.1 u w) s = .next (compareOp u w s x.2) := by
  have hne : (fun a b : W64 => a != b) = fun a b => decide (a ≠ b) := by
    funext a b; exact (decide_not ..).symm
  have hle : (fun a b : W64 => a.sle b) = fun a b => decide (a.toInt ≤ b.toInt) := rfl
  unfold compareTable
  simp only [List.forall_mem_cons]
  exact ⟨exec_cmpeq .., (exec_cmpne ..).trans (congrArg (fun f => Host.Outcome.next (compareOp u w s f)) hne), exec_cmplt ..,
    exec_cmple .., exec_cmpltu .., nofun⟩

theorem compareOp_runs (h : Issues s u w) (hd : bits w 49 46 = 0) (hzero : bits w 33 32 = 0) (f : W64 → W64 → Bool) :
    compareOp u w s f = (s.take u).setP u (bits w 36 34) (f ((s.ctx u).s.get (bits w 45 42)) (operand2 s u w)) :=
  issue_of_issues _ h rfl rfl (existsOn_of_engineOk rfl rfl u)
    (by simp [zeroBits_eq_true hd, zeroBits_eq_true hzero]) nofun rfl

/-- A predicate op; one of a single source holds its second field at 0. -/
theorem predOp_runs {one : Bool} (h : Issues s u w) (hd : bits w 49 45 = 0) (hmid : bits w 41 41 = 0)
    (hlow : bits w 33 32 = 0) (hone : one = true → bits w 40 38 = 0) (f : Bool → Bool → Bool) :
    predOp u w s one f = (s.take u).setP u (bits w 36 34) (f (predOf s u (bits w 44 42)) (predOf s u (bits w 40 38))) := by
  have hsecond : (!one || zeroBits w 40 38) = true := by
    cases one
    · rfl
    · exact zeroBits_eq_true (hone rfl)
  exact issue_of_issues _ h rfl rfl (existsOn_of_engineOk rfl rfl u)
    (by simp [zeroBits_eq_true hd, zeroBits_eq_true hmid, zeroBits_eq_true hlow, hsecond]) nofun rfl

end

/-- Settles O14: every one of the instructions is a write of pd by a thread that has taken its slot. -/
theorem predicateResults : Obligations.PredicateResults := by
  refine ⟨fun x hx s u w h hd hzero => ?_, fun s u w h hd hmid hlow => ⟨?and, ?or, fun hone => ?not⟩⟩
  · exact threadOnly_of_setP ((exec_compareTable s u w x hx).trans (congrArg _ (compareOp_runs h hd hzero x.2)))
  case and =>
    exact threadOnly_of_setP ((exec_pand u w s).trans
      (congrArg Host.Outcome.next (predOp_runs (one := false) h hd hmid hlow nofun _)))
  case or =>
    exact threadOnly_of_setP ((exec_por u w s).trans
      (congrArg Host.Outcome.next (predOp_runs (one := false) h hd hmid hlow nofun _)))
  case not =>
    exact threadOnly_of_setP ((exec_pnot u w s).trans
      (congrArg Host.Outcome.next (predOp_runs h hd hmid hlow (fun _ => hone) _)))

end Sys2Proof.Machine
end

section
/-!
SREAD, WAIT and SIGNAL (07, 08, R215, R216, R239-R241).
-/
namespace Sys2Proof.Machine
open Sys2Proof Sys2Proof.Claims

/-! ### SREAD (R239, Table 8-8) -/

/-- SREAD of a source that the unit has. -/
theorem threadOnly_sread {s : State} {u : Exec} {w v : Nat} (h : Issues s u w) (hzero : bits w 35 0 = 0)
    (hvalue : s.statusValue u (bits w 45 42) (bits w 41 36) = some v) :
    ThreadOnly (.sread u w) s u (writesS s u (bits w 49 46) (BitVec.ofNat 64 v)) := by
  refine threadOnly_of_setS ((exec_sread u w s).trans (congrArg Host.Outcome.next ?_))
  rw [hvalue]
  exact issue_of_issues _ h rfl rfl (existsOn_of_engineOk rfl rfl u) (by simp [zeroBits_eq_true hzero]) nofun rfl

/-! ### WAIT (R216, R240) -/

/-- The model's two's complement is that of a bit vector. -/
theorem signed_eq_toInt (n x : Nat) : signed (n + 1) x = (BitVec.ofNat (n + 1) x).toInt := by
  have hhalf : 2 ^ (n + 1) = 2 * 2 ^ n := Nat.pow_succ'
  have hhalf' : (2 : Int) ^ (n + 1) = ((2 ^ (n + 1) : Nat) : Int) := by norm_cast
  rw [signed, BitVec.toInt_eq_toNat_cond, BitVec.toNat_ofNat, Nat.add_sub_cancel, hhalf']
  by_cases hlow : x % 2 ^ (n + 1) < 2 ^ n
  · rw [if_pos hlow, if_pos (by omega)]
  · rw [if_neg hlow, if_neg (by omega)]

/-- The value a WAIT names is the model's, as a 32-bit word. -/
theorem toNat_waitValueOf (s : State) (u : Exec) (w : Nat) : (waitValueOf s u w).toNat = s.waitValue u w := by
  have hfield : signed 12 (bits w 38 27) = (BitVec.ofNat 12 (bits w 38 27)).toInt :=
    signed_eq_toInt 11 _
  have hreg : (if bit w 43 then ((s.ctx u).s.get (bits w 42 39)).setWidth 32 else (0 : W32)).toNat =
      if bit w 43 then ((s.ctx u).s.get (bits w 42 39)).toNat % 2 ^ 32 else 0 := by
    split <;> simp
  rw [waitValueOf, State.waitValue, BitVec.toNat_add, hreg, BitVec.signExtend, BitVec.toNat_ofInt, hfield]
  simp only [unsigned, State.sreg]
  omega

theorem waitTrue_iff (a b : W32) : waitTrue a b.toNat = true ↔ (a - b).toNat < 2 ^ 31 := by
  rw [waitTrue, decide_eq_true_iff, BitVec.toNat_sub]
  have ha := a.isLt
  have hb := b.isLt
  rw [Nat.mod_eq_of_lt hb]
  omega

section
variable {s : State} {n th w : Nat} (h : Issues s (.core n th) w)
include h

/-- The condition holds: the thread goes on with pd at 1. -/
theorem exec_wait_true (hwait : waitTrue ((s.cores.get n).evc.get (bits w 49 44)) (s.waitValue (.core n th) w) = true) :
    exec (.wait (.core n th) w) s = .next ((s.take (.core n th)).setP (.core n th) (bits w 2 0) true) := by
  rw [exec_wait, execWait, issue_of_issues (r := {}) _ h rfl rfl rfl rfl nofun rfl]
  exact congrArg Host.Outcome.next (if_pos hwait)

/-- The condition does not hold: the thread waits for the counter, the value and pd, with the timeout. -/
theorem exec_wait_false (hwait : ¬waitTrue ((s.cores.get n).evc.get (bits w 49 44)) (s.waitValue (.core n th) w) = true) :
    exec (.wait (.core n th) w) s = .next ((s.take (.core n th)).updCtx (.core n th) (fun x => { x with
      state := .waiting, waitE := bits w 49 44, waitV := s.waitValue (.core n th) w, waitP := bits w 2 0
      waitT := bits w 26 3 })) := by
  rw [exec_wait, execWait, issue_of_issues (r := {}) _ h rfl rfl rfl rfl nofun rfl]
  exact congrArg Host.Outcome.next (if_neg hwait)

end

/-! ### SIGNAL (R218, R241) -/

/-- The routes between cores are what they were. -/
structure State.SameRoutes (s t : State) : Prop where
  lanes : t.lanes = s.lanes
  slices : t.slices = s.slices
  reserves : t.reserves = s.reserves
  fuses : t.fuses = s.fuses

theorem State.SameRoutes.trans {s t u : State} (h : s.SameRoutes t) (k : t.SameRoutes u) : s.SameRoutes u :=
  ⟨k.lanes.trans h.lanes, k.slices.trans h.slices, k.reserves.trans h.reserves, k.fuses.trans h.fuses⟩

/-- What `State.Follows` says of the routes when its mask leaves them out. -/
theorem State.SameRoutes.of_follows {m : Nat} {s t : State} (h : s.Follows m t) (hlanes : m.testBit 27 = false)
    (hslices : m.testBit 28 = false) (hreserves : m.testBit 64 = false) (hfuses : m.testBit 10 = false) : s.SameRoutes t :=
  ⟨h.at State.lanes 27 State.reset.lanes (fun _ => rfl) hlanes,
    h.at State.slices 28 State.reset.slices (fun _ => rfl) hslices,
    h.at State.reserves 64 State.reset.reserves (fun _ => rfl) hreserves,
    h.at State.fuses 10 State.reset.fuses (fun _ => rfl) hfuses⟩

theorem State.SameRoutes.take (s : State) (u : Exec) : s.SameRoutes (s.take u) :=
  .of_follows (State.take_follows rfl (State.Follows.refl 590448932746046735128 s)) rfl rfl rfl rfl

theorem State.SameRoutes.addEvc (s : State) (n e k : Nat) : s.SameRoutes (s.addEvc n e k) :=
  .of_follows (State.addEvc_follows rfl (State.Follows.refl 10485760 s)) rfl rfl rfl rfl

theorem State.SameRoutes.reachable {s t : State} (h : s.SameRoutes t) {n c : Nat} (hr : reachable s n c) : reachable t n c := by
  obtain ⟨hlanes, hslices, hreserves, hfuses⟩ := h
  unfold Claims.reachable State.routeBad State.routeSlice State.coreNode State.place State.reserveOf at *
  rwa [hlanes, hslices, hreserves, hfuses]

@[simp] theorem State.addEvc_msgs (s : State) (n e k : Nat) : (s.addEvc n e k).msgs = s.msgs :=
  (State.addEvc_follows rfl (State.Follows.refl 10485760 s)).at State.msgs 25 State.reset.msgs (fun _ => rfl) rfl

/-- The delivery of a SIGNAL to one core. -/
def State.signalOne (n t e amount : Nat) (s : State) (c : Nat) : State :=
  if c = n then s.addEvc n e amount else (s.inject (.signal n t c e amount) (s.coreNode n) (s.coreNode c)).1

theorem State.sendSignal_eq_foldl (s : State) (n t e : Nat) {amount : Nat} (h : amount ≠ 0) (cs : List Nat) :
    s.sendSignal n t e amount cs = cs.foldl (State.signalOne n t e amount) s := if_neg h

/-- The fabric with one more request in it. -/
def State.addMsg (s : State) (m : FabMsg) : State := { s with msgs := s.msgs ++ [m], nextMsg := s.nextMsg + 1 }

theorem State.mem_addMsg (s : State) (m : FabMsg) : m ∈ (s.addMsg m).msgs := List.mem_append_right _ List.mem_cons_self

/-- To another core a SIGNAL is a message in the fabric. -/
theorem State.signalOne_sends {s : State} {n c : Nat} (t e amount : Nat) (hc : c ≠ n) (hr : reachable s n c) :
    ∃ m : FabMsg, m.body = .signal n t c e amount ∧ s.signalOne n t e amount c = s.addMsg m := by
  obtain ⟨net, hnet⟩ := s.inject_enters (.signal n t c e amount) (s.coreNode n) (s.coreNode c) hr
  exact ⟨_, rfl, (if_neg hc).trans (congrArg Prod.fst hnet)⟩

/-- What the deliveries of a SIGNAL to the cores `cs` leave: messages to the others, and an addition to the issuing core's
counter where it is selected once. -/
structure State.Signalled (s t : State) (n th e amount : Nat) (cs : List Nat) : Prop where
  msgs : ∀ m ∈ s.msgs, m ∈ t.msgs
  sent : ∀ c ∈ cs, c ≠ n → signalSent t n th c e amount
  away : n ∉ cs → (t.cores.get n).evc.get e = (s.cores.get n).evc.get e
  once : n ∈ cs → cs.Nodup → (t.cores.get n).evc.get e = (s.cores.get n).evc.get e + BitVec.ofNat 32 amount

theorem State.signalled_foldl {n : Nat} (th e amount : Nat) (cs : List Nat) (s : State) (hr : ∀ c ∈ cs, reachable s n c) :
    s.Signalled (cs.foldl (State.signalOne n th e amount) s) n th e amount cs := by
  induction cs generalizing s with
  | nil => exact ⟨fun _ hm => hm, nofun, fun _ => rfl, nofun⟩
  | cons c cs ih =>
    have hrest : ∀ d ∈ cs, reachable s n d := fun d hd => hr d (List.mem_cons_of_mem c hd)
    rw [List.foldl_cons]
    by_cases hc : c = n
    · subst hc
      have hone : s.signalOne c th e amount c = s.addEvc c e amount := if_pos rfl
      rw [hone]
      obtain ⟨hmsgs, hsent, haway, -⟩ := ih (s.addEvc c e amount)
        fun d hd => (State.SameRoutes.addEvc s c e amount).reachable (hrest d hd)
      refine ⟨fun m hm => hmsgs m ((s.addEvc_msgs c e amount).symm ▸ hm), fun d hd hne => ?_,
        fun hnot => absurd List.mem_cons_self hnot, fun _ hnodup => ?_⟩
      · exact hsent d ((List.mem_cons.mp hd).resolve_left hne) hne
      · rw [haway (List.nodup_cons.mp hnodup).1, State.evc_addEvc]
    · obtain ⟨m, hbody, hone⟩ := State.signalOne_sends th e amount hc (hr c List.mem_cons_self)
      rw [hone]
      have hroutes : s.SameRoutes (s.addMsg m) := ⟨rfl, rfl, rfl, rfl⟩
      obtain ⟨hmsgs, hsent, haway, honce⟩ := ih (s.addMsg m) fun d hd => hroutes.reachable (hrest d hd)
      have hin : n ∈ c :: cs ↔ n ∈ cs := by simp [Ne.symm hc]
      refine ⟨fun x hx => hmsgs x (List.mem_append_left _ hx), fun d hd hne => ?_, fun hnot => haway fun hmem => hnot (hin.mpr hmem),
        fun hmem hnodup => honce (hin.mp hmem) (List.nodup_cons.mp hnodup).2⟩
      obtain rfl | hd := List.mem_cons.mp hd
      · exact ⟨m, hmsgs m (s.mem_addMsg m), hbody⟩
      · exact hsent d hd hne

/-- With none to be skipped, a SIGNAL is delivered by a state that differs in the ledger at most (R517). -/
theorem State.ledgerSignal_delivers {s : State} {n t : Nat} (hskip : (s.cores.get n).skipSig.get t = 0) (kind e amount : Nat)
    (cs : List Nat) : ∃ u, s.ledgerSignal n t kind e amount cs = u.sendSignal n t e amount cs ∧ s.SameRoutes u ∧
      u.msgs = s.msgs ∧ (u.cores.get n).evc = (s.cores.get n).evc := by
  unfold State.ledgerSignal
  split
  · exact ⟨s, rfl, ⟨rfl, rfl, rfl, rfl⟩, rfl, rfl⟩
  · rw [if_neg (by omega)]
    exact ⟨_, rfl, ⟨rfl, rfl, rfl, rfl⟩, rfl, by simp⟩

/-- A SIGNAL of a program's counter to the cores it selects, with none to be skipped. -/
theorem exec_signal_delivers {s : State} {n th w : Nat} {ts : List Nat} (h : Issues s (.core n th) w)
    (hzero : bits w 29 0 = 0) (he : 2 ≤ bits w 49 44)
    (hts : s.signalTargets n (bits w 43 42) ((s.ctx (.core n th)).s.get (bits w 41 38)).toNat = some ts)
    (hskip : (s.cores.get n).skipSig.get th = 0) (hkind : bits w 43 42 ≠ 3) :
    ∃ u, exec (.signal (.core n th) w) s = .next (u.sendSignal n th (bits w 49 44) (bits w 37 30) ts) ∧ s.SameRoutes u ∧
      u.msgs = s.msgs ∧ (u.cores.get n).evc = (s.cores.get n).evc := by
  have hskip' : ((s.take (.core n th)).cores.get n).skipSig.get th = 0 := by rw [State.core_take]; exact hskip
  obtain ⟨u, hu, hroutes, hmsgs, hevc⟩ := State.ledgerSignal_delivers hskip' (bits w 43 42) (bits w 49 44) (bits w 37 30) ts
  refine ⟨u, ?_, (State.SameRoutes.take s _).trans hroutes, hmsgs.trans (State.take_msgs ..),
    hevc.trans (State.evc_take ..)⟩
  have hts' : s.signalTargets n (bits w 43 42) (s.sreg (.core n th) (bits w 41 38)).toNat = some ts := hts
  simp only [exec_signal, execSignal, hts']
  refine congrArg Host.Outcome.next ((issue_of_issues _ h rfl rfl rfl ?_ ?_ rfl).trans hu)
  · simp [zeroBits_eq_true hzero, hkind]
  · exact List.forall_mem_cons.mpr ⟨decide_eq_false (Nat.not_lt.mpr he), List.forall_mem_singleton.mpr rfl⟩

/-- Settles O16: SREAD writes sd, WAIT writes pd or waits, and SIGNAL is delivered core by core. -/
theorem statusAndEvents : Obligations.StatusAndEvents := by
  refine ⟨fun s u w h hzero => ⟨?time, ?steps⟩, fun s n th w h hzero => ⟨?evc, ?core, ?layer, ?param⟩,
    fun s n th w h => ⟨?true, ?false⟩, ?signal⟩
  case time => exact fun hsrc => threadOnly_sread h hzero (by rw [hsrc]; rfl)
  case steps => exact fun i hsrc hinst => threadOnly_sread h hzero (by rw [hsrc, State.statusValue, hinst]; rfl)
  case evc => exact fun hsrc => threadOnly_sread h hzero (by rw [hsrc]; rfl)
  case core => exact fun hsrc => threadOnly_sread h hzero (by rw [hsrc]; rfl)
  case layer => exact fun hsrc => threadOnly_sread h hzero (by rw [hsrc]; rfl)
  case param =>
    intro i hsrc hinst
    have hinst' : s.instOf (.core n th) = some i := hinst
    exact threadOnly_sread h hzero (by rw [hsrc]; simp [State.statusValue, hinst'])
  case true =>
    intro hbelow
    rw [← waitTrue_iff, toNat_waitValueOf] at hbelow
    exact threadOnly_of_setP (exec_wait_true h hbelow)
  case false =>
    intro hbelow
    rw [← waitTrue_iff, toNat_waitValueOf] at hbelow
    rw [toNat_waitValueOf]
    exact threadOnly_of_updCtx _ (exec_wait_false h hbelow)
  case signal =>
    intro s n th w ts h hzero he hts hskip hkind hreach
    obtain ⟨u, hu, hroutes, hmsgs, hevc⟩ := exec_signal_delivers h hzero he hts hskip hkind
    refine ⟨_, hu, fun hamount => ?_, fun hamount => ?_⟩
    · rw [State.sendSignal_eq_foldl u n th _ hamount]
      obtain ⟨-, hsent, -, honce⟩ := State.signalled_foldl th (bits w 49 44) (bits w 37 30) ts u
        fun c hc => hroutes.reachable (hreach c hc)
      exact ⟨hsent, fun hmem hnodup => hevc ▸ honce hmem hnodup⟩
    · rw [State.sendSignal, if_pos hamount]
      exact ⟨hmsgs, hevc⟩

end Sys2Proof.Machine
end

section
/-!
NOP, HALT, FENCE, LAYER and CHISEL (07, 08, R222, R225, R247, R252, R258).
-/
namespace Sys2Proof.Machine
open Sys2Proof Sys2Proof.Claims

/-! ### A thread that does not issue (R205, R208, R226) -/

/-- An instruction that waits for its unit leaves its thread BLOCKED. -/
theorem issue_waits {s : State} {u : Exec} {w : Nat} {r : IssueReq} (eff : State → State) (h : Issues s u w)
    (hreads : r.reads = []) (hwrites : r.writes = []) (hexists : r.existsOn u = true) (hfields : r.fieldsOk = true)
    (hchecks : ∀ x ∈ r.checks, x.2 = false) (hunit : r.unitFree = false) : issue s u w r eff = s.block u false true := by
  obtain ⟨hissuable, hbarrier, hpc, hguard, -⟩ := h
  have hstart : ¬s.progLenOf u ≤ (s.ctx u).pc := Nat.not_le.mpr hpc
  simp [issue, hissuable, hbarrier, hstart, hexists, hfields, hguard, firstExc_eq_none_iff.mpr hchecks, hreads, hwrites, hunit]

/-- Stalls are counted in registers. -/
theorem State.block_cores (s : State) (u : Exec) (range unit_ : Bool) :
    (s.block u range unit_).cores = (s.updCtx u fun t => { t with state := .blocked }).cores ∧
    (s.block u range unit_).engines = (s.updCtx u fun t => { t with state := .blocked }).engines := by
  unfold State.block
  cases u
  · dsimp only
    split
    · exact State.coreCount_cores ..
    · split
      · exact State.coreCount_cores ..
      · exact ⟨rfl, rfl⟩
  · exact ⟨rfl, rfl⟩

theorem threadOnly_of_block {c : Instr} {s : State} {u : Exec} {range unit_ : Bool}
    (h : exec c s = .next (s.block u range unit_)) : ThreadOnly c s u { s.ctx u with state := .blocked } := by
  obtain ⟨hcores, hengines⟩ := s.block_cores u range unit_
  refine ⟨_, h, ?_, fun v hv => ?_, fun v => ?_⟩
  · rw [State.ctx_congr hcores hengines, State.ctx_updCtx]
  · rw [State.ctx_congr hcores hengines, State.ctx_updCtx_apart _ _ hv]
  · rw [State.opMem_congr hcores hengines, State.opMem_updCtx]

/-! ### NOP, HALT and FENCE (R252, R258) -/

theorem threadOnly_nop {s : State} {u : Exec} {w : Nat} (h : Issues s u w) (hzero : bits w 49 0 = 0) :
    ThreadOnly (.nop u w) s u (s.ctx u).taken :=
  threadOnly_of_take ((exec_nop u w s).trans (congrArg Host.Outcome.next (issue_of_issues _ h rfl rfl
    (existsOn_of_engineOk rfl rfl u) (zeroBits_eq_true hzero) nofun rfl)))

theorem threadOnly_halt_core {s : State} {n th w : Nat} (h : Issues s (.core n th) w) (hzero : bits w 49 0 = 0) :
    ThreadOnly (.halt (.core n th) w) s (.core n th) { (s.ctx (.core n th)).taken with state := .halted } :=
  threadOnly_of_updCtx (fun t => { t with state := .halted }) ((exec_halt ..).trans (congrArg Host.Outcome.next
    (issue_of_issues _ h rfl rfl rfl (zeroBits_eq_true hzero) nofun rfl)))

theorem exec_halt_engine {s : State} {p th w : Nat} (h : Issues s (.engine p th) w) (hzero : bits w 49 0 = 0) :
    exec (.halt (.engine p th) w) s = .next ((s.take (.engine p th)).endDispatch p th) :=
  (exec_halt ..).trans (congrArg Host.Outcome.next (issue_of_issues _ h rfl rfl rfl (zeroBits_eq_true hzero) nofun rfl))

/-- The thread is free and HALTED, and its dispatch has left its core's in-flight list. -/
theorem State.endDispatch_ends (s : State) (p t : Nat) :
    (((s.endDispatch p t).ctx (.engine p t)).state = .halted ∧
      ((s.endDispatch p t).engines.get (engKey p t)).busy = false) ∧
    ((s.endDispatch p t).cores.get (s.engines.get (engKey p t)).job.core).flights
      = (s.cores.get (s.engines.get (engKey p t)).job.core).flights.filter
          (fun f => f.id != (s.engines.get (engKey p t)).job.flight) := by
  refine ⟨?_, State.flights_retireWake ..⟩
  simp [State.endDispatch, State.ctx]

/-- The dispatch of an engine's thread is not its slot's. -/
theorem State.engine_take (s : State) (p t : Nat) : (s.take (.engine p t)).cores = s.cores ∧
    ((s.take (.engine p t)).engines.get (engKey p t)).job = (s.engines.get (engKey p t)).job := by
  obtain ⟨hcores, hengines⟩ := s.take_cores (.engine p t)
  refine ⟨hcores, ?_⟩
  rw [hengines]
  simp [State.updCtx]

/-- What a FENCE waits for: the thread's earlier instructions in its scope. -/
theorem exec_fence_core (s : State) (n th w : Nat) : exec (.fence (.core n th) w) s = .next (issue s (.core n th) w
    { fieldsOk := zeroBits w 49 4 && bits w 3 0 != 0
      unitFree := (s.cores.get n).flights.all (fun f => f.thread != th || !fenceHolds (bits w 3 0) f) } id) :=
  exec_fence ..

section
variable {s : State} {n th w : Nat} (h : Issues s (.core n th) w) (hzero : bits w 49 4 = 0) (hscope : bits w 3 0 ≠ 0)
include h hzero hscope

theorem threadOnly_fence_free (hnone : ∀ f ∈ (s.cores.get n).flights, f.thread = th → fenceHolds (bits w 3 0) f = false) :
    ThreadOnly (.fence (.core n th) w) s (.core n th) (s.ctx (.core n th)).taken := by
  refine threadOnly_of_take ((exec_fence_core ..).trans (congrArg Host.Outcome.next (issue_of_issues _ h rfl rfl rfl
    (by simp [zeroBits_eq_true hzero, hscope]) nofun (List.all_eq_true.mpr fun f hf => ?_))))
  by_cases hth : f.thread = th
  · simp [hnone f hf hth]
  · simp [hth]

theorem threadOnly_fence_held (hsome : ∃ f ∈ (s.cores.get n).flights, f.thread = th ∧ fenceHolds (bits w 3 0) f = true) :
    ThreadOnly (.fence (.core n th) w) s (.core n th) { s.ctx (.core n th) with state := .blocked } := by
  obtain ⟨f, hf, hth, hholds⟩ := hsome
  exact threadOnly_of_block ((exec_fence_core ..).trans (congrArg Host.Outcome.next (issue_waits _ h rfl rfl rfl
    (by simp [zeroBits_eq_true hzero, hscope]) nofun (List.all_eq_false.mpr ⟨f, hf, by simp [hth, hholds]⟩))))

end

/-! ### LAYER and CHISEL (R222, R225, R247) -/

/-- A change of a core that leaves its threads leaves every context. -/
theorem State.ctx_updCore (s : State) {n : Nat} {f : Core → Core} (hf : ∀ c, (f c).threads = c.threads) (v : Exec) :
    (s.updCore n f).ctx v = s.ctx v := by
  cases v with
  | core m t =>
    by_cases h : m = n
    · subst h
      rw [State.ctx, State.cores_updCore, hf]
      rfl
    · rw [State.ctx, State.updCore, Map.get_upd_ne _ _ h]
      rfl
  | engine p t => rfl

section
variable {s : State} {n th w : Nat} (h : Issues s (.core n th) w)
include h

theorem exec_layer_opens (hzero : bits w 21 0 = 0) (hclean : clean (s.resolve (.core n th) (bits w 49 37) false))
    (hbytes : (s.resolve (.core n th) (bits w 49 37) false).o.bytes ≤ 65536) :
    exec (.layer (.core n th) w) s = .next ((s.take (.core n th)).updCore n (fun c => { c with
      barrier := some (s.layerNamed (.core n th) w, (s.resolve (.core n th) (bits w 49 37) false).o)
      marked := s.unfinishedLoads n })) := by
  refine (exec_layer ..).trans (congrArg Host.Outcome.next (issue_of_issues _ h rfl rfl rfl (zeroBits_eq_true hzero) ?_ rfl))
  intro x hx
  obtain hx | hx := List.mem_append.mp hx
  · exact opndChecks_pass (fun r hr => List.mem_singleton.mp hr ▸ hclean) x hx
  · rw [List.mem_singleton.mp hx]
    exact decide_eq_false (Nat.not_lt.mpr hbytes)

theorem exec_chisel_sets (hzero : bits w 29 0 = 0) (hlow : 1 ≤ bits w 49 46) (hhigh : bits w 49 46 ≤ 8)
    (hwidths : ∀ g < 8, bits w (31 + 2 * g) (30 + 2 * g) ≠ 3) :
    exec (.chisel (.core n th) w) s = .next ((s.take (.core n th)).updCore n (fun c => { c with
      level := bits w 49 46, widths := chiselWidths w })) := by
  refine (exec_chisel ..).trans (congrArg Host.Outcome.next (issue_of_issues _ h rfl rfl rfl ?_ nofun rfl))
  have hnot3 : (chiselWidths w).all (· != 3) = true := by
    simpa [chiselWidths] using hwidths
  simp [zeroBits_eq_true hzero, hlow, hhigh, hnot3]

end

/-- Settles O17, one instruction at a time. -/
theorem controlInstructions : Obligations.ControlInstructions := by
  refine ⟨fun s u w h hzero => threadOnly_nop h hzero, fun s n th w h hzero => threadOnly_halt_core h hzero, ?engine,
    fun s n th w h hzero hscope => ⟨threadOnly_fence_free h hzero hscope, threadOnly_fence_held h hzero hscope⟩, ?layer,
    ?chisel⟩
  case engine =>
    intro s p th w h hzero
    obtain ⟨⟨hstate, hbusy⟩, hflights⟩ := (s.take (.engine p th)).endDispatch_ends p th
    obtain ⟨hcores, hjob⟩ := s.engine_take p th
    rw [hjob, hcores] at hflights
    exact ⟨_, exec_halt_engine h hzero, hstate, hbusy, hflights⟩
  case layer =>
    intro s n th w h hzero r hmode hdesc hbounds hbytes
    refine ⟨_, exec_layer_opens h hzero ⟨hmode, hdesc, hbounds⟩ hbytes, ?_, ?_⟩
    · rw [State.ctx_updCore _ (by exact fun _ => rfl), State.ctx_take]
    · rw [State.cores_updCore]
      rfl
  case chisel =>
    intro s n th w h hzero hlow hhigh hwidths
    refine ⟨_, exec_chisel_sets h hzero hlow hhigh hwidths, ?_, ?_, fun g hg => ?_⟩
    · rw [State.ctx_updCore _ (by exact fun _ => rfl), State.ctx_take]
    · rw [State.cores_updCore]
    · rw [State.cores_updCore]
      simp [chiselWidths, hg]

end Sys2Proof.Machine
end

section
/-!
What befalls a thread and an instruction in flight (07, R206, R211, R216, R220, R260): timeouts, the watchdog, replays,
retirement and completion faults.
-/
namespace Sys2Proof.Machine
open Sys2Proof Sys2Proof.Claims

/-! ### Timeouts and the watchdog (R206, R216) -/

section
variable {s : State} {n t : Nat}

theorem exec_waitTimeout_ends (hwaiting : ((s.cores.get n).threads.get t).state = .waiting)
    (htimeout : ((s.cores.get n).threads.get t).waitT ≠ 0)
    (hfalse : waitTrue ((s.cores.get n).evc.get ((s.cores.get n).threads.get t).waitE)
      ((s.cores.get n).threads.get t).waitV = false) :
    exec (.waitTimeout n t) s = .next ((s.updCtx (.core n t) (fun x => { x with state := .runnable })).setP (.core n t)
      ((s.cores.get n).threads.get t).waitP false) := by
  rw [exec_waitTimeout, execWaitTimeout]
  exact if_neg (by simp [hwaiting, htimeout, hfalse])

theorem exec_threadWatchdog_reports (hwaits : ((s.cores.get n).threads.get t).state = .blocked ∨
      ((s.cores.get n).threads.get t).state = .waiting)
    (hfirst : ((s.cores.get n).threads.get t).wdog = false) (hlimit : s.regN (Reg.CORE_WDOG n) ≠ 0) :
    exec (.threadWatchdog n t) s = .next ((s.updCtx (.core n t) (fun x => { x with wdog := true })).logEvent 0x4401
      [(1, n), (1, t), (1, ((s.cores.get n).threads.get t).state.code), (2, ((s.cores.get n).threads.get t).pc),
        (1, if ((s.cores.get n).threads.get t).state = .waiting then ((s.cores.get n).threads.get t).waitE else 0)]) := by
  have hone : ¬(((s.cores.get n).threads.get t).state ≠ .blocked ∧
      ((s.cores.get n).threads.get t).state ≠ .waiting) :=
    fun ⟨hblocked, hwaiting⟩ => hwaits.elim hblocked hwaiting
  rw [exec_threadWatchdog, execThreadWatchdog]
  exact if_neg (by simp only [hfirst, hlimit, hone]; decide)

end

/-! ### Replays (R220, Table 7-4) -/

theorem State.flight_of_cores {s t : State} (h : t.cores = s.cores) (n id : Nat) : t.flight n id = s.flight n id := by
  rw [State.flight, State.flight, h]

/-- A change of an instruction in flight that keeps its number is what is then found under the number. -/
theorem State.flight_updFlight {s : State} {n id : Nat} {f : Flight} {g : Flight → Flight} (hg : ∀ x, (g x).id = x.id)
    (h : s.flight n id = some f) : (s.updFlight n id g).flight n id = some (g f) := by
  rw [State.flight] at h
  have hid := List.find?_some h
  have hsame : ((·.id == id) ∘ fun x : Flight => if x.id == id then g x else x) = (·.id == id) := by
    funext x
    by_cases hx : x.id = id <;> simp [hx, hg]
  rw [State.flight, State.updFlight, State.cores_updCore, List.find?_map, hsame, h,
    Option.map_some, if_pos hid]

section
variable {s : State} {n : Nat}

theorem exec_parityFailure_scalar {t : Nat} (pos : Nat) (hissue : ((s.cores.get n).threads.get t).canIssue = true)
    (hreplays : ((s.cores.get n).threads.get t).replays < 3) :
    exec (.parityFailure n t 0 pos) s = .next ((s.updCtx (.core n t) (fun x => { x with
      replays := x.replays + 1 })).coreCount n (Reg.CORE_REPLAY n) 1 false) := by
  simp [exec_parityFailure, execParityFailure, hissue, Nat.not_le.mpr hreplays]

/-- A replay on a path that neither strikes again nor sends again. -/
theorem exec_parityFailure_flight {id path : Nat} {f : Flight} (pos : Nat) (h : s.flight n id = some f)
    (hpath : path = 1 ∨ path = 5 ∨ path = 6) (hreplays : f.replays < 3) :
    exec (.parityFailure n id path pos) s = .next (((s.updFlight n id (fun x => { x with
      replays := x.replays + 1, path := path })).updCore n (fun c => { c with replaying := true })).coreCount n
        (Reg.CORE_REPLAY n) 1 false) := by
  obtain rfl | rfl | rfl := hpath <;> simp [exec_parityFailure, execParityFailure, h, Nat.not_le.mpr hreplays]

end

/-! ### Retirement (R211, R215) -/

/-- The counters after an instruction has retired. -/
def Flight.counted (f : Flight) (evc : Map W32) : Map W32 :=
  match f.evc with
  | some e => evc.upd e (· + 1)
  | none => evc

/-- What retirement changes in a core besides its threads. -/
theorem State.bare_retireWake {s : State} {n id : Nat} {f : Flight} (h : s.flight n id = some f) :
    ∃ r, ((s.retireWake n id).cores.get n).bare = { (s.cores.get n).bare with
      flights := (s.cores.get n).flights.filter (·.id != id), evc := f.counted (s.cores.get n).evc, replaying := r } := by
  rw [State.flight] at h
  simp only [State.retireWake, h, State.bare_wake, State.cores_updCore, (State.parityLogged_cores _ _ _ _).1]
  simp only [State.retire, h, State.cores_updCore]
  exact ⟨_, rfl⟩

/-- An instruction leaves the list and counts; the core's regions and ledger are as they were before. -/
theorem State.retireWake_core {s : State} {n id : Nat} {f : Flight} (h : s.flight n id = some f) :
    ((s.retireWake n id).cores.get n).evc = f.counted (s.cores.get n).evc ∧
    ((s.retireWake n id).cores.get n).regions = (s.cores.get n).regions ∧
    ((s.retireWake n id).cores.get n).ledMov = (s.cores.get n).ledMov := by
  obtain ⟨r, hr⟩ := State.bare_retireWake h
  have hevc := congrArg Core.evc hr
  have hregions := congrArg Core.regions hr
  have hledger := congrArg Core.ledMov hr
  exact ⟨hevc, hregions, hledger⟩

/-- What an instruction does to its core as it retires, before it leaves the list: a PUSH fills its slot, and an outbound
MOVE enters the ledger. -/
structure State.Finishes (s u : State) (n : Nat) (f : Flight) : Prop where
  flights : (u.cores.get n).flights = (s.cores.get n).flights
  evc : (u.cores.get n).evc = (s.cores.get n).evc
  push : ∀ q slot r l, f.kind = .push q slot r l → ((u.cores.get n).regions.get q).state.get slot = .filled
  move : ∀ l a, f.kind = .move l a false → (u.cores.get n).ledMov.get f.thread = (s.cores.get n).ledMov.get f.thread + 1

/-- The slot of a PUSH is FILLED. -/
theorem State.finishes_push {s u : State} {n : Nat} {f : Flight} {q slot : Nat} {r : Option Nat} {l : Opnd}
    (hkind : f.kind = .push q slot r l) (hflights : (u.cores.get n).flights = (s.cores.get n).flights)
    (hevc : (u.cores.get n).evc = (s.cores.get n).evc) :
    s.Finishes (u.updRegion n q (fun r => { r with state := r.state.put slot .filled })) n f := by
  refine ⟨by simpa [State.updRegion] using hflights, by simpa [State.updRegion] using hevc, fun q' slot' r' l' h => ?_,
    fun l' a h => absurd (hkind.symm.trans h) nofun⟩
  obtain ⟨rfl, rfl, -, -⟩ := FlightKind.push.inj (hkind.symm.trans h)
  simp [State.updRegion]

/-- A vector instruction, an outbound MOVE and a PUSH whose data has arrived retire. -/
theorem exec_instructionRetirement_ends {s : State} {n id : Nat} {f : Flight} (h : s.flight n id = some f)
    (hkind : f.kind = .vector ∨ (∃ l a, f.kind = .move l a false ∧ f.acked = true) ∨
      (∃ q slot r l, f.kind = .push q slot r l ∧ (r = none ∨ f.acked = true))) :
    ∃ u : State, exec (.instructionRetirement n id) s = .next (u.retireWake n id) ∧ s.Finishes u n f := by
  simp only [exec_instructionRetirement, execInstructionRetirement, h]
  obtain hk | ⟨l, a, hk, hacked⟩ | ⟨q, slot, r, l, hk, harrived⟩ := hkind
  · simp only [hk]
    exact ⟨s, rfl, rfl, rfl, fun _ _ _ _ h => absurd (hk.symm.trans h) nofun, fun _ _ h => absurd (hk.symm.trans h) nofun⟩
  · simp only [hk, hacked]
    exact ⟨_, rfl, by simp, by simp, fun _ _ _ _ h => absurd (hk.symm.trans h) nofun, fun _ _ _ => by simp⟩
  · cases r with
    | none =>
      simp only [hk]
      exact ⟨_, rfl, State.finishes_push hk (by simp) (by simp)⟩
    | some a =>
      have hacked : f.acked = true := harrived.resolve_left nofun
      simp only [hk, hacked]
      exact ⟨_, rfl, State.finishes_push hk rfl rfl⟩

/-! ### Completion faults (R260, R261) -/

@[simp] theorem State.faultStall_cores (s : State) (n cause who : Nat) : (s.faultStall n cause who).cores = s.cores :=
  (State.faultStall_follows rfl (State.Follows.refl 156597941438513944 s)).at State.cores 21 State.reset.cores
    (fun _ => rfl) rfl

@[simp] theorem State.stackFault_cores (s : State) (st : Nat) : (s.stackFault st).cores = s.cores :=
  (State.stackFault_follows rfl (State.Follows.refl 156597941438513944 s)).at State.cores 21 State.reset.cores
    (fun _ => rfl) rfl

/-- An exception of a core's thread changes that thread alone. -/
theorem State.coreExc_cores (s : State) (n t code pc : Nat) : (s.coreExc n t code pc).cores =
    (s.updCtx (.core n t) (fun th => { th with state := .faulted, excCode := code, excPc := pc })).cores := by
  rw [State.coreExc, State.faultStall_cores, State.logEvent_cores]

/-- The instruction has gone without counting, and its thread is FAULTED with the code at the instruction. -/
theorem State.flightFault_core {s : State} {n id : Nat} {f : Flight} (code : Nat) (h : s.flight n id = some f) :
    (s.flightFault n id code).cores.get n = { s.cores.get n with
      flights := (s.cores.get n).flights.filter (·.id != id)
      threads := (s.cores.get n).threads.upd f.thread
        (fun th => { th with state := .faulted, excCode := code, excPc := f.pc }) } := by
  rw [State.flight] at h
  simp only [State.flightFault, h, State.coreExc_cores]
  simp [State.updCtx]

/-- A fault at the far end is one of the instruction, on the cores as they were. -/
theorem State.remoteFault_eq {s : State} {n id : Nat} {f : Flight} (h : s.flight n id = some f) :
    ∃ u : State, s.remoteFault n id = u.flightFault n id 0x10 ∧ u.cores = s.cores := by
  simp only [State.remoteFault, h]
  refine ⟨_, rfl, ?_⟩
  have hfree : ∀ x : State, (x.freeBlocks n f).cores = x.cores := fun _ => rfl
  rw [hfree]
  split
  · exact State.stackFault_cores ..
  · rfl

/-- A transfer, a dispatch or a handoff that ends with an error, or a dispatch whose engine thread raised an exception. -/
theorem exec_completionFault_faults {s : State} {n id : Nat} {se : Bool} {f : Flight} (h : s.flight n id = some f)
    (hkind : (se = false ∧ ((∃ l a i, f.kind = .move l a i) ∨ (∃ q sl r l, f.kind = .push q sl r l) ∨
      (∃ a b c d, f.kind = .dispatch a b c d) ∨ ∃ a b c, f.kind = .handoff a b c)) ∨
      (se = true ∧ ∃ a b c d, f.kind = .dispatch a b c d)) :
    ∃ u : State, exec (.completionFault n id se) s = .next (u.flightFault n id (if se then 0x11 else 0x10)) ∧
      u.cores = s.cores := by
  obtain ⟨rfl, hkind⟩ | ⟨rfl, a, b, c, d, hk⟩ := hkind
  · obtain ⟨u, hu, hcores⟩ := State.remoteFault_eq h
    refine ⟨u, ?_, hcores⟩
    rw [if_neg nofun, ← hu]
    obtain ⟨_, _, _, hk⟩ | ⟨_, _, _, _, hk⟩ | ⟨_, _, _, _, hk⟩ | ⟨_, _, _, hk⟩ := hkind <;>
      simp only [exec_completionFault, execCompletionFault, h, hk]
  · refine ⟨s.faultStall n 2 a, ?_, State.faultStall_cores ..⟩
    simp only [exec_completionFault, execCompletionFault, h, hk, if_true]

/-- Settles O18, one event at a time. -/
theorem threadAndInstructionEvents : Obligations.ThreadAndInstructionEvents := by
  refine ⟨?timeout, ?watchdog, ?scalar, ?flight, ?retirement, ?fault⟩
  case timeout =>
    intro s n t hwaiting htimeout hpred hfalse
    refine ⟨_, exec_waitTimeout_ends hwaiting htimeout hfalse, ?_⟩
    have hctx := State.ctx_setP (s.updCtx (.core n t) (fun x => { x with state := .runnable })) (.core n t)
      ((s.cores.get n).threads.get t).waitP false
    rw [State.ctx_updCtx] at hctx
    refine ⟨congrArg Thread.state hctx, fun p hp hp0 => ?_, fun v hv => ?_⟩
    · refine (congrArg (fun x : Thread => x.p.getLsbD p) hctx).trans ?_
      by_cases hzero : ((s.cores.get n).threads.get t).waitP = 0
      · rw [hzero, if_neg hp0]
        rfl
      · exact getLsbD_predPut _ _ hzero hp
    · rw [State.ctx_setP_apart _ _ _ hv, State.ctx_updCtx_apart _ _ hv]
  case watchdog =>
    intro s n t hwaits hfirst hlimit
    refine ⟨_, _, exec_threadWatchdog_reports hwaits hfirst hlimit, fun hblocked => ?_, fun hwaiting => ?_⟩
    · rw [hblocked]
      exact ⟨rfl, rfl⟩
    · rw [hwaiting]
      exact ⟨rfl, rfl⟩
  case scalar =>
    intro s n t pos hissue hreplays
    refine ⟨_, exec_parityFailure_scalar pos hissue hreplays, ?_⟩
    rw [(State.coreCount_cores ..).1]
    exact State.ctx_updCtx s (.core n t) _
  case flight =>
    intro s n id path pos f h hpath hreplays
    refine ⟨_, exec_parityFailure_flight pos h hpath hreplays, ?_, ?_⟩
    · rw [(State.coreCount_cores ..).1, State.cores_updCore]
    · rw [State.flight_of_cores (State.coreCount_cores ..).1, State.flight, State.cores_updCore]
      exact State.flight_updFlight (g := fun x => { x with replays := x.replays + 1, path := path }) (fun _ => rfl) h
  case retirement =>
    intro s n id f h hkind
    obtain ⟨u, hu, hflights, hevc, hpush, hmove⟩ := exec_instructionRetirement_ends h hkind
    have hfound : u.flight n id = some f := by rw [State.flight, hflights]; exact h
    obtain ⟨hcounts, hregions, hledger⟩ := State.retireWake_core hfound
    rw [hevc] at hcounts
    refine ⟨_, hu, hflights ▸ State.flights_retireWake u n id, fun e he => ?_, fun he => ?_, fun q slot r l hk => ?_,
      fun l a hk => ?_⟩
    · rw [hcounts, Flight.counted, he]
    · rw [hcounts, Flight.counted, he]
    · rw [hregions]
      exact hpush q slot r l hk
    · rw [hledger]
      exact hmove l a hk
  case fault =>
    intro s n id se f h hkind
    obtain ⟨u, hu, hcores⟩ := exec_completionFault_faults h hkind
    have hcore := State.flightFault_core (if se then 0x11 else 0x10) ((State.flight_of_cores hcores n id).trans h)
    rw [hcores] at hcore
    refine ⟨_, hu, ?_⟩
    rw [hcore]
    simp

end Sys2Proof.Machine
end

section
/-!
The vector instructions (08, R235, R242, R243, Tables 8-10 and 8-11): the destination's elements are the results, and the rest
of the operand memory stays.
-/
namespace Sys2Proof.Machine
open Sys2Proof Sys2Proof.Claims

/-! ### Stores of a destination's elements (R233) -/

/-- A byte outside the elements that are stored stays. -/
theorem memSetElems_get_outside {o : Opnd} {i : Nat} (vs : List Nat) (m : Memory) (k : Nat)
    (h : ∀ j < k + vs.length, ¬(memBase o.mem + o.addr j ≤ i ∧ i < memBase o.mem + o.addr j + typeSize o.type)) :
    (memSetElems m o k vs).get i = m.get i := by
  induction vs generalizing m k with
  | nil => rfl
  | cons v vs ih =>
    rw [List.length_cons] at h
    rw [memSetElems, ih _ _ fun j hj => h j (by omega), Memory.get_store, length_leBytes, if_neg (h k (by omega))]

/-- An instruction has as many results as its destination has elements. -/
theorem length_vResults {op : Nat} {a b d : Opnd} {rowb : Bool} {f g : Nat → Nat} (h : vShape op a b d rowb = some (f, g))
    (m : Memory) : (vResults m op a b d f g).length = d.elems := by
  unfold vResults
  by_cases hred : isReduction op = true
  · have hrows : d.elems = a.rows := by
      by_cases heq : d.elems = a.rows
      · exact heq
      · rw [vShape, if_pos hred, if_neg heq] at h
        cases h
    simp [hred, hrows]
  · rw [if_neg hred]
    split <;> simp

/-- The results reach the destination's elements alone. -/
theorem vResults_frame {op : Nat} {a b d : Opnd} {rowb : Bool} {f g : Nat → Nat} (h : vShape op a b d rowb = some (f, g))
    (m : Memory) {i : Nat} (hi : ¬inElems d i) :
    (memSetElems m d 0 ((vResults m op a b d f g).map (·.bits))).get i = m.get i := by
  refine memSetElems_get_outside _ m 0 fun j hj hin => hi ⟨j, ?_, hin⟩
  rwa [Nat.zero_add, List.length_map, length_vResults h m] at hj

/-! ### Issue of a vector instruction (R210, R242) -/

/-- Each of Table 8-11's instructions is `vectorOp` of its op. -/
theorem exec_vectorTable (s : State) (u : Exec) (w : Nat) :
    ∀ x ∈ vectorTable, exec (x.1 u w) s = .next (vectorOp x.2 u w s) := by
  unfold vectorTable
  simp only [List.forall_mem_cons]
  exact ⟨exec_vadd .., exec_vsub .., exec_vmul .., exec_vfma .., exec_vmax .., exec_vmin .., exec_vcvt .., exec_vdiv ..,
    exec_vrcp .., exec_vsqrt .., exec_vrsqrt .., exec_vexp .., exec_vexp2 .., exec_vlog .., exec_vtanh .., exec_vsig ..,
    exec_vsilu .., exec_vgelu .., exec_vrope .., exec_vsum .., exec_vrmax .., exec_vdot .., exec_viadd .., exec_visub ..,
    exec_vimul .., exec_viand .., exec_vior .., exec_vixor .., exec_vishl .., exec_visar .., nofun⟩

/-- A core keeps a vector instruction in flight; an engine retires it before the next (R254). -/
def State.enterVector (s : State) (u : Exec) (reads writes : List Range) : State :=
  match u with
  | .core n th => s.enter n th .vector reads writes none
  | .engine _ _ => s

@[simp] theorem State.ctx_enterVector (s : State) (u v : Exec) (r w : List Range) : (s.enterVector u r w).ctx v = s.ctx v := by
  cases u
  · exact State.ctx_enter ..
  · rfl

@[simp] theorem State.opMem_enterVector (s : State) (u v : Exec) (r w : List Range) :
    (s.enterVector u r w).opMem v = s.opMem v := by
  cases u
  · exact State.opMem_enter ..
  · rfl

/-- A vector instruction's effect: its results `rs` go to the destination, are counted, and it enters the list. -/
def State.vectorEffect (s : State) (u : Exec) (rs : List VElem) (d : Opnd) (reads : List Range) : State :=
  ((s.setOpMem u (memSetElems (s.opMem u) d 0 (rs.map (·.bits)))).vCounts u rs).enterVector u reads [d.range]

theorem State.ctx_vectorEffect (s : State) (u v : Exec) (rs : List VElem) (d : Opnd) (reads : List Range) :
    (s.vectorEffect u rs d reads).ctx v = s.ctx v := by
  have hcounts := State.vCounts_cores (s.setOpMem u (memSetElems (s.opMem u) d 0 (rs.map (·.bits)))) u rs
  rw [State.vectorEffect, State.ctx_enterVector, State.ctx_congr hcounts.1 hcounts.2, State.ctx_setOpMem]

theorem State.opMem_vectorEffect (s : State) (u : Exec) (rs : List VElem) (d : Opnd) (reads : List Range) :
    (s.vectorEffect u rs d reads).opMem u = memSetElems (s.opMem u) d 0 (rs.map (·.bits)) := by
  have hcounts := State.vCounts_cores (s.setOpMem u (memSetElems (s.opMem u) d 0 (rs.map (·.bits)))) u rs
  rw [State.vectorEffect, State.opMem_enterVector, State.opMem_congr hcounts.1 hcounts.2, State.opMem_setOpMem]

/-- On a core the instruction is in flight with its destination's range. -/
theorem State.flight_vectorEffect (s : State) (n th : Nat) (rs : List VElem) (d : Opnd) (reads : List Range) :
    ∃ fl ∈ ((s.vectorEffect (.core n th) rs d reads).cores.get n).flights,
      fl.kind = .vector ∧ fl.thread = th ∧ fl.writes = [d.range] := by
  rw [State.vectorEffect, State.enterVector, State.enter, State.cores_updCore]
  exact ⟨_, List.mem_append_right _ List.mem_cons_self, rfl, rfl, rfl⟩

/-- The source ranges of a vector instruction. -/
def vectorReads (op : Nat) (a b : Opnd) : List Range := if twoSource op then [a.range, b.range] else [a.range]

/-- What an op asks to issue, with its operands a, b and d and the elements f and g that their shapes give. -/
structure VectorReady (s : State) (u : Exec) (w op : Nat) (a b d : Resolved) (f g : Nat → Nat) : Prop where
  issues : MayIssue s u w
  srcA : s.resolve u (bits w 49 37) false = a
  srcB : s.resolve u (bits w 36 24) false = b
  dst : s.resolve u (bits w 23 11) true = d
  zero : bits w 9 0 = 0
  zeroB : twoSource op = false → bits w 36 24 = 0
  cleanA : clean a
  cleanD : clean d
  cleanB : twoSource op = true → clean b
  engine : ∀ p t, u = .engine p t → engineVec op = true
  types : vTypes op a.o b.o d.o = true
  shape : vShape op a.o b.o d.o (bit w 10) = some (f, g)
  ranges : RangesOk s u (vectorReads op a.o b.o ++ if op = 3 then [d.o.range] else []) [d.o.range]
  queue : s.queueFree u 4 FlightKind.isVector = true

section
variable {s : State} {u : Exec} {w op : Nat} {a b d : Resolved} {f g : Nat → Nat}

/-- Every check of a vector instruction passes. -/
theorem VectorReady.checks (h : VectorReady s u w op a b d f g) :
    ∀ x ∈ opndChecks (if twoSource op then [a, b, d] else [a, d]) ++
      [(0x08, !vTypes op a.o b.o d.o), (0x09, (vShape op a.o b.o d.o (bit w 10)).isNone)], x.2 = false := by
  have hclean : ∀ r ∈ (if twoSource op then [a, b, d] else [a, d]), clean r := by
    cases htwo : twoSource op
    · simp [h.cleanA, h.cleanD]
    · simp [h.cleanA, h.cleanD, h.cleanB htwo]
  rw [h.types, h.shape]
  exact List.forall_mem_append.mpr ⟨opndChecks_pass hclean, by simp⟩

/-- A vector instruction that may issue has its effect. -/
theorem vectorOp_runs (h : VectorReady s u w op a b d f g) : vectorOp op u w s =
    (s.take u).vectorEffect u (vResults (s.opMem u) op a.o b.o d.o f g) d.o (vectorReads op a.o b.o) := by
  have hexists : ∀ r : IssueReq, r.coreOk = true → r.engineOk = engineVec op → r.existsOn u = true := by
    intro r hcore hengine
    cases u with
    | core n th => exact hcore
    | engine p t => exact hengine.trans (h.engine p t rfl)
  have hfields : (zeroBits w 9 0 && (twoSource op || zeroBits w 36 24)) = true := by
    cases htwo : twoSource op
    · simp [zeroBits_eq_true h.zero, zeroBits_eq_true (h.zeroB htwo)]
    · simp [zeroBits_eq_true h.zero]
  unfold vectorOp
  rw [h.srcA, h.srcB, h.dst]
  refine (issue_of_mayIssue _ h.issues h.ranges (hexists _ rfl rfl) hfields h.checks h.queue).trans ?_
  rw [h.shape]
  cases u
  · simp only [Option.getD_some, State.vectorEffect, State.enterVector, vectorReads, State.opMem_take]
  · simp only [Option.getD_some, State.vectorEffect, State.enterVector, State.opMem_take]

end

/-! ### The integer operations (R146, R242) -/

theorem ofNat_unsigned (i : Int) : BitVec.ofNat 32 (unsigned 32 i) = BitVec.ofInt 32 i := by
  refine BitVec.eq_of_toNat_eq ?_
  rw [BitVec.toNat_ofNat, BitVec.toNat_ofInt, unsigned]
  omega

theorem signed_toNat (a : W32) : signed 32 a.toNat = a.toInt := by
  rw [signed_eq_toInt 31, BitVec.ofNat_toNat, BitVec.setWidth_eq]

/-- An INT32 result is the integer, saturated. -/
theorem toInt_vInt (i : Int) : (BitVec.ofNat 32 (vInt i).bits).toInt = max (-(2 ^ 31)) (min (2 ^ 31 - 1) i) := by
  have hclamp : clampInt (-(2 ^ 31)) (2 ^ 31 - 1) i = max (-(2 ^ 31)) (min (2 ^ 31 - 1) i) := by
    unfold clampInt
    split
    · omega
    · split <;> omega
  rw [vInt, ofNat_unsigned, hclamp]
  exact BitVec.toInt_ofInt_eq_self (by decide) (by omega) (by omega)

/-- What each integer op of Table 8-11 with an exact result writes. -/
theorem vElem_integer (a b : W32) :
    (vElem 0x20 2 2 2 a.toNat b.toNat 0) = vInt (a.toInt + b.toInt) ∧
    (vElem 0x21 2 2 2 a.toNat b.toNat 0) = vInt (a.toInt - b.toInt) ∧
    (vElem 0x23 2 2 2 a.toNat b.toNat 0).bits = a.toNat &&& b.toNat ∧
    (vElem 0x24 2 2 2 a.toNat b.toNat 0).bits = a.toNat ||| b.toNat ∧
    (vElem 0x25 2 2 2 a.toNat b.toNat 0).bits = a.toNat ^^^ b.toNat ∧
    (vElem 0x27 2 2 2 a.toNat b.toNat 0).bits = unsigned 32 (a.toInt / 2 ^ (b.toNat % 32)) := by
  rw [← signed_toNat a, ← signed_toNat b]
  exact ⟨rfl, rfl, rfl, rfl, rfl, rfl⟩

/-- Settles O19: issue of `vectorOp`, whose results stand as it issues (log entry 20), and the integer results. -/
theorem vectorResults : Obligations.VectorResults := by
  refine ⟨?_, fun a b => ?_⟩
  · intro x hx s u w f g h a b d hzero hone ha hd hb hengine htypes hshape hranges hqueue
    refine ⟨_, (exec_vectorTable s u w x hx).trans (congrArg Host.Outcome.next
      (vectorOp_runs ⟨h, rfl, rfl, rfl, hzero, hone, ha, hd, hb, hengine, htypes, hshape, hranges, hqueue⟩)),
      ?_, fun i hi => ?_, ?_, fun v hv => ?_, ?_⟩
    · rw [State.opMem_vectorEffect, State.opMem_take]
    · rw [State.opMem_vectorEffect, State.opMem_take]
      exact vResults_frame hshape _ hi
    · rw [State.ctx_vectorEffect, State.ctx_take]
    · rw [State.ctx_vectorEffect, State.ctx_take_apart _ hv]
    · rintro n th rfl
      exact State.flight_vectorEffect ..
  · obtain ⟨hadd, hsub, hand, hor, hxor, hsar⟩ := vElem_integer a b
    refine ⟨?_, ?_, ?_, ?_, ?_, ?_⟩ <;> dsimp only
    · rw [hadd, toInt_vInt]
    · rw [hsub, toInt_vInt]
    · rw [hand, BitVec.ofNat_and]
      simp
    · rw [hor, BitVec.ofNat_or]
      simp
    · rw [hxor, BitVec.ofNat_xor]
      simp
    · rw [hsar, ofNat_unsigned, BitVec.sshiftRight, Int.shiftRight_eq_div_pow]
      norm_cast

end Sys2Proof.Machine
end

section
/-!
Strikes and plane work of a core (08, R244-R246): GSET, STRIKE, PLOAD and PSWAP.
-/
namespace Sys2Proof.Machine
open Sys2Proof Sys2Proof.Claims

/-! ### What enters the in-flight list (R211) -/

theorem State.core_enter (s : State) (n t : Nat) (kind : FlightKind) (reads writes : List Range) (evc : Option Nat) :
    (s.enter n t kind reads writes evc).cores.get n = { s.cores.get n with
      flights := (s.cores.get n).flights ++ [{
        id := (s.cores.get n).nextFlight, thread := t, pc := (((s.cores.get n).threads.get t).pc + 8191) % 8192, kind := kind
        reads := reads, writes := writes, evc := evc }]
      nextFlight := (s.cores.get n).nextFlight + 1 } :=
  State.cores_updCore ..

/-- A state whose thread and in-flight list are those of an instruction that has taken its slot and entered. -/
theorem enters_of_enter {s t : State} {n th : Nat} {kind : FlightKind} {reads writes : List Range} {evc : Option Nat}
    (hctx : t.ctx (.core n th) = ((s.take (.core n th)).enter n th kind reads writes evc).ctx (.core n th))
    (hflights : (t.cores.get n).flights = (((s.take (.core n th)).enter n th kind reads writes evc).cores.get n).flights) :
    Enters s t n th kind reads writes evc := by
  refine ⟨by rw [hctx, State.ctx_enter, State.ctx_take],
    ((((s.take (.core n th)).cores.get n).threads.get th).pc + 8191) % 8192, ?_⟩
  rw [hflights, State.core_enter, State.core_take]

/-! ### Which array works for a position (R187, R510) -/

theorem State.arrFor_congr {s t : State} (harrays : t.arrays = s.arrays) (htakeovers : t.arrTakeovers = s.arrTakeovers)
    (n pos : Nat) : t.arrFor n pos = s.arrFor n pos := by
  rw [State.arrFor, State.arrFor, State.arr_of_arrays harrays, htakeovers]

theorem State.arrFor_updArr (s : State) (n a pos : Nat) {f : Arr → Arr} (hf : ∀ x, (f x).stand = x.stand) :
    (s.updArr n a f).arrFor n pos = s.arrFor n pos := by
  have hstand : ((s.updArr n a f).arr n pos).stand = (s.arr n pos).stand := by
    by_cases h : pos = a
    · rw [h, State.arr_updArr, hf]
    · rw [State.arr_updArr_ne s n f h]
  rw [State.arrFor, State.arrFor, hstand]
  rfl

theorem State.arrFor_take_enter (s : State) (n th pos : Nat) (kind : FlightKind) (reads writes : List Range)
    (evc : Option Nat) :
    ((s.take (.core n th)).enter n th kind reads writes evc).arrFor n pos = s.arrFor n pos :=
  State.arrFor_congr (State.take_arrays s (.core n th)) (State.take_arrTakeovers s (.core n th)) n pos

/-! ### GSET (R244) -/

theorem exec_gset_defines {s : State} {n th w : Nat} (h : Issues s (.core n th) w) (hzero : bits w 8 0 = 0)
    (hfree : s.strikeFree n = true) :
    exec (.gset (.core n th) w) s = .next ((s.take (.core n th)).updCore n (fun c => { c with
      groups := c.groups.put (bits w 49 47) {
        defined := true, mask := bits w 46 35, wide := bit w 34, psum := bit w 33, scale := bits w 32 25
        psumDesc := bits w 24 17, dst := bits w 16 9 } })) :=
  (exec_gset ..).trans (congrArg Host.Outcome.next (issue_of_issues _ h rfl rfl rfl (zeroBits_eq_true hzero) nofun hfree))

/-! ### Queued strikes (R245) -/

/-- From s to t strikes join queues and the record of the jobs they belong to; nothing else of the core changes. -/
structure State.StrikesJoin (n : Nat) (s t : State) : Prop where
  ctx : ∀ v, t.ctx v = s.ctx v
  flights : (t.cores.get n).flights = (s.cores.get n).flights
  arrFor : ∀ p, t.arrFor n p = s.arrFor n p
  queue : ∀ a, ∀ x ∈ (s.arr n a).queue, x ∈ (t.arr n a).queue
  jobs : ∀ j ∈ (s.cores.get n).jobs, ∃ k, { j with kept := k } ∈ (t.cores.get n).jobs

theorem State.StrikesJoin.refl (n : Nat) (s : State) : State.StrikesJoin n s s :=
  ⟨fun _ => rfl, rfl, fun _ => rfl, fun _ _ hx => hx, fun j hj => ⟨j.kept, hj⟩⟩

theorem State.StrikesJoin.trans {n : Nat} {s t u : State} (h : State.StrikesJoin n s t) (k : State.StrikesJoin n t u) :
    State.StrikesJoin n s u := by
  refine ⟨fun v => (k.ctx v).trans (h.ctx v), k.flights.trans h.flights, fun p => (k.arrFor p).trans (h.arrFor p),
    fun a x hx => k.queue a x (h.queue a x hx), fun j hj => ?_⟩
  obtain ⟨kept, hkept⟩ := h.jobs j hj
  obtain ⟨kept', hkept'⟩ := k.jobs _ hkept
  exact ⟨kept', hkept'⟩

/-- A strike of a slice is queued at the array of a position. -/
def State.Struck (s : State) (n flight slice p : Nat) (xs : List Nat) : Prop :=
  ∃ x ∈ (s.arr n (s.arrFor n p)).queue, x.flight = flight ∧ x.slice = slice ∧ x.pos = p ∧ x.x = xs

theorem State.StrikesJoin.struck {n : Nat} {s t : State} (h : State.StrikesJoin n s t) {flight slice p : Nat} {xs : List Nat}
    (hs : s.Struck n flight slice p xs) : t.Struck n flight slice p xs := by
  obtain ⟨x, hx, hstrike⟩ := hs
  exact ⟨x, h.arrFor p ▸ h.queue _ x hx, hstrike⟩

theorem State.StrikesJoin.enters {n : Nat} {s t u : State} (h : State.StrikesJoin n t u) {th : Nat} {kind : FlightKind}
    {reads writes : List Range} {evc : Option Nat} (henters : Enters s t n th kind reads writes evc) :
    Enters s u n th kind reads writes evc := by
  obtain ⟨hctx, pc, hflights⟩ := henters
  exact ⟨(h.ctx _).trans hctx, pc, h.flights.trans hflights⟩

/-- Steps that each let strikes join and achieve what lasts, do so as a fold. -/
theorem State.StrikesJoin.foldl {α : Type} {n : Nat} {f : State → α → State} {P : State → α → Prop}
    (hf : ∀ s x, State.StrikesJoin n s (f s x) ∧ P (f s x) x)
    (hP : ∀ s t x, State.StrikesJoin n s t → P s x → P t x) (l : List α) (s : State) :
    State.StrikesJoin n s (l.foldl f s) ∧ ∀ x ∈ l, P (l.foldl f s) x := by
  induction l generalizing s with
  | nil => exact ⟨.refl n s, nofun⟩
  | cons a l ih =>
    obtain ⟨hjoin, ha⟩ := hf s a
    obtain ⟨hrest, hl⟩ := ih (f s a)
    exact ⟨hjoin.trans hrest, List.forall_mem_cons.mpr ⟨hP _ _ a hrest ha, hl⟩⟩

/-- One strike is kept with its job and joins the queue of the array that works for its position. -/
def State.queueStrike (n : Nat) (k : Strike) (s : State) : State :=
  (s.updCore n (fun c => { c with
    jobs := c.jobs.map (fun j => if j.flight == k.flight then { j with kept := j.kept ++ [k] } else j) })).updArr n
    (s.arrFor n k.pos) (fun a => { a with queue := a.queue ++ [{ k with afterSwap := a.swapPending }] })

theorem State.queueStrike_joins (n : Nat) (k : Strike) (s : State) : State.StrikesJoin n s (s.queueStrike n k) ∧
    (s.queueStrike n k).Struck n k.flight k.slice k.pos k.x := by
  have harrFor : ∀ p, (s.queueStrike n k).arrFor n p = s.arrFor n p := fun p => State.arrFor_updArr _ _ _ _ fun _ => rfl
  refine ⟨⟨fun v => ?_, ?_, harrFor, fun a x hx => ?_, fun j hj => ?_⟩, ?_⟩
  · exact State.ctx_updCore s (by exact fun _ => rfl) v
  · rw [State.queueStrike, State.updArr_cores, State.cores_updCore]
  · by_cases ha : a = s.arrFor n k.pos
    · rw [ha] at hx ⊢
      rw [State.queueStrike, State.arr_updArr]
      exact List.mem_append_left _ hx
    · rw [State.queueStrike, State.arr_updArr_ne _ _ _ ha]
      exact hx
  · rw [State.queueStrike, State.updArr_cores, State.cores_updCore]
    refine ⟨if j.flight == k.flight then j.kept ++ [k] else j.kept, List.mem_map.mpr ⟨j, hj, ?_⟩⟩
    split <;> rfl
  · rw [State.Struck, harrFor, State.queueStrike, State.arr_updArr]
    exact ⟨_, List.mem_append_right _ List.mem_cons_self, rfl, rfl, rfl, rfl⟩

theorem State.queueSlice_joins (s : State) (n flight g b slice : Nat) (ps x : List Nat) :
    State.StrikesJoin n s (s.queueSlice n flight g b slice ps x) ∧
    ∀ p ∈ ps, (s.queueSlice n flight g b slice ps x).Struck n flight slice p x :=
  State.StrikesJoin.foldl (P := fun t p => t.Struck n flight slice p x)
    (fun t p => State.queueStrike_joins n { pos := p, flight := flight, slice := slice, group := g, b := b, x := x } t)
    (fun _ _ _ hjoin hp => hjoin.struck hp) ps s

/-- Every slice of a STRIKE goes to its member or pair. -/
def State.queueSlices (s : State) (n flight gi b : Nat) (g : Group) (xs : List (List Nat)) : State :=
  xs.zipIdx.foldl (fun s x => s.queueSlice n flight gi b x.2 (sliceMembers g x.2) x.1) s

theorem State.queueSlices_joins (s : State) (n flight gi b : Nat) (g : Group) (xs : List (List Nat)) :
    State.StrikesJoin n s (s.queueSlices n flight gi b g xs) ∧
    ∀ x ∈ xs.zipIdx, ∀ p ∈ sliceMembers g x.2, (s.queueSlices n flight gi b g xs).Struck n flight x.2 p x.1 :=
  State.StrikesJoin.foldl (P := fun t x => ∀ p ∈ sliceMembers g x.2, t.Struck n flight x.2 p x.1)
    (fun t x => State.queueSlice_joins t n flight gi b x.2 (sliceMembers g x.2) x.1)
    (fun _ _ _ hjoin hqueued => by exact fun p hp => hjoin.struck (hqueued p hp)) xs.zipIdx s

/-- Slice i holds the 512 elements from 512 i on. -/
theorem getElem?_slices512 {k i : Nat} (h : i < k) (xs : List Nat) :
    (slices512 k xs)[i]? = some ((xs.drop (512 * i)).take 512) := by
  induction k generalizing i xs with
  | zero => omega
  | succ k ih =>
    cases i with
    | zero => rfl
    | succ i =>
      rw [slices512, List.getElem?_cons_succ, ih (Nat.lt_of_succ_lt_succ h), List.drop_drop, Nat.mul_succ, Nat.add_comm 512]

/-! ### STRIKE (R245) -/

/-- The slices of a group: one for a member, or for a pair of a wide group. -/
def Group.slices (g : Group) : Nat :=
  if g.wide then (maskPositions g.mask).length / 2 else (maskPositions g.mask).length

/-- The source ranges of a STRIKE. -/
def strikeReads (g : Group) (src scale psum : Opnd) : List Range :=
  if g.psum then [src.range, scale.range, psum.range] else [src.range, scale.range]

/-- What a STRIKE asks to issue, with its group and its operands. -/
structure StrikeReady (s : State) (n th w : Nat) (g : Group) (src dst psum scale : Resolved) : Prop where
  issues : MayIssue s (.core n th) w
  group : (s.cores.get n).groups.get (bits w 49 47) = g
  srcIs : s.resolve (.core n th) (bits w 46 34) false = src
  dstIs : s.resolveAt (.core n th) g.dst (s.regOff (.core n th) (bit w 33) (bits w 32 29)) true = dst
  psumIs : s.resolveAt (.core n th) g.psumDesc (s.regOff (.core n th) (bit w 28) (bits w 27 24)) false = psum
  scaleIs : s.resolveAt (.core n th) g.scale 0 false = scale
  zero : bits w 16 0 = 0
  counter : counterOk (bit w 17) (bits w 23 18)
  cleanSrc : clean src
  cleanDst : clean dst
  cleanScale : clean scale
  cleanPsum : g.psum = true → clean psum
  valid : groupOk g (((s.cores.get n).widths[bits w 49 47]?).getD 1) scale.o psum.o dst.o = true
  type : src.o.type = 0
  more : 512 * (g.slices - 1) < src.o.elems
  fits : src.o.elems ≤ 512 * g.slices
  ranges : RangesOk s (.core n th) (strikeReads g src.o scale.o psum.o) [dst.o.range]
  free : s.strikeFree n = true

/-- What the results of a STRIKE need (R245). -/
def strikeJob (flight : Nat) (g : Group) (dst psum scale : Opnd) : StrikeJob :=
  { flight := flight, mask := g.mask, wide := g.wide, scale := scale, psum := if g.psum then some psum else none, dst := dst }

/-- A STRIKE that has taken its slot enters the list with its job. -/
def State.strikeEntered (s : State) (n th w : Nat) (g : Group) (src dst psum scale : Opnd) : State :=
  ((s.take (.core n th)).enter n th (.strike (bits w 49 47) g.slices) (strikeReads g src scale psum) [dst.range]
    (evcOf (bit w 17) (bits w 23 18))).updCore n
    (fun c => { c with jobs := c.jobs ++ [strikeJob (s.cores.get n).nextFlight g dst psum scale] })

/-- Bits of a group's input width (R247). -/
def widthBits (width : Nat) : Nat := if width = 0 then 2 else if width = 1 then 4 else 8

/-- A STRIKE's effect: with its job in the list, its slices are queued. -/
def State.strikeEffect (s : State) (n th w : Nat) (g : Group) (src dst psum scale : Opnd) : State :=
  (s.strikeEntered n th w g src dst psum scale).queueSlices n (s.cores.get n).nextFlight (bits w 49 47)
    (widthBits (((s.cores.get n).widths[bits w 49 47]?).getD 1)) g (slices512 g.slices (memElems (s.cores.get n).spm src))

theorem defined_of_groupOk {g : Group} {width : Nat} {scale psum dst : Opnd} (h : groupOk g width scale psum dst = true) :
    g.defined = true := by
  simp only [groupOk, Bool.and_eq_true] at h
  obtain ⟨⟨⟨⟨⟨⟨hdefined, -⟩, -⟩, -⟩, -⟩, -⟩, -⟩ := h
  exact hdefined

section
variable {s : State} {n th w : Nat} {g : Group} {src dst psum scale : Resolved}

theorem StrikeReady.checks (h : StrikeReady s n th w g src dst psum scale) :
    ∀ x ∈ (0x04, evcBad (bit w 17) (bits w 23 18)) ::
      opndChecks (if g.defined then (if g.psum then [src, scale, psum, dst] else [src, scale, dst]) else [src]) ++
      [(0x08, src.o.type != 0), (0x09, groupOk g (((s.cores.get n).widths[bits w 49 47]?).getD 1) scale.o psum.o dst.o &&
        (decide (src.o.elems ≤ 512 * (g.slices - 1)) || decide (512 * g.slices < src.o.elems))),
        (0x0A, !groupOk g (((s.cores.get n).widths[bits w 49 47]?).getD 1) scale.o psum.o dst.o)], x.2 = false := by
  have hclean : ∀ r ∈ (if g.psum then [src, scale, psum, dst] else [src, scale, dst]), clean r := by
    cases hpsum : g.psum
    · simp [h.cleanSrc, h.cleanScale, h.cleanDst]
    · simp [h.cleanSrc, h.cleanScale, h.cleanDst, h.cleanPsum hpsum]
  have hmore := h.more
  have hfits := h.fits
  rw [h.valid, defined_of_groupOk h.valid, if_pos rfl]
  refine List.forall_mem_append.mpr ⟨List.forall_mem_cons.mpr ⟨evcBad_eq_false h.counter, opndChecks_pass hclean⟩, ?_⟩
  simp [h.type, hmore, hfits]

theorem exec_strike_runs (h : StrikeReady s n th w g src dst psum scale) :
    exec (.strike (.core n th) w) s = .next (s.strikeEffect n th w g src.o dst.o psum.o scale.o) := by
  have hchecks := h.checks
  obtain ⟨hissues, rfl, rfl, rfl, rfl, rfl, hzero, -, -, -, -, -, -, -, -, -, hranges, hfree⟩ := h
  exact (exec_strike ..).trans (congrArg Host.Outcome.next
    (issue_of_mayIssue _ hissues hranges rfl (zeroBits_eq_true hzero) hchecks hfree))

end

section
variable (s : State) (n th w : Nat) (g : Group) (src dst psum scale : Opnd)

theorem State.strikeEntered_enters : Enters s (s.strikeEntered n th w g src dst psum scale) n th
    (.strike (bits w 49 47) g.slices) (strikeReads g src scale psum) [dst.range] (evcOf (bit w 17) (bits w 23 18)) :=
  enters_of_enter (State.ctx_updCore _ (by exact fun _ => rfl) _) (by rw [State.strikeEntered, State.cores_updCore])

theorem State.strikeEntered_jobs : strikeJob (s.cores.get n).nextFlight g dst psum scale ∈
    ((s.strikeEntered n th w g src dst psum scale).cores.get n).jobs := by
  rw [State.strikeEntered, State.cores_updCore]
  exact List.mem_append_right _ List.mem_cons_self

theorem State.strikeEntered_arrFor (p : Nat) : (s.strikeEntered n th w g src dst psum scale).arrFor n p = s.arrFor n p :=
  State.arrFor_congr (State.take_arrays s (.core n th)) (State.take_arrTakeovers s (.core n th)) n p

/-- What a STRIKE leaves: it is in flight, its job is kept, and its slices are queued. -/
theorem State.strikeEffect_queues :
    Enters s (s.strikeEffect n th w g src dst psum scale) n th (.strike (bits w 49 47) g.slices)
      (strikeReads g src scale psum) [dst.range] (evcOf (bit w 17) (bits w 23 18)) ∧
    (∃ j ∈ ((s.strikeEffect n th w g src dst psum scale).cores.get n).jobs, j.flight = (s.cores.get n).nextFlight ∧
      j.mask = g.mask ∧ j.wide = g.wide ∧ j.scale = scale ∧ j.psum = (if g.psum then some psum else none) ∧ j.dst = dst) ∧
    ∀ i < g.slices, ∀ p ∈ sliceMembers g i,
      ∃ x ∈ ((s.strikeEffect n th w g src dst psum scale).arr n (s.arrFor n p)).queue,
        x.flight = (s.cores.get n).nextFlight ∧ x.slice = i ∧ x.pos = p ∧
        x.x = ((memElems (s.cores.get n).spm src).drop (512 * i)).take 512 := by
  obtain ⟨hjoin, hstruck⟩ := State.queueSlices_joins (s.strikeEntered n th w g src dst psum scale) n
    (s.cores.get n).nextFlight (bits w 49 47) (widthBits (((s.cores.get n).widths[bits w 49 47]?).getD 1)) g
    (slices512 g.slices (memElems (s.cores.get n).spm src))
  refine ⟨hjoin.enters (s.strikeEntered_enters n th w g src dst psum scale), ?_, fun i hi p hp => ?_⟩
  · obtain ⟨k, hk⟩ := hjoin.jobs _ (s.strikeEntered_jobs n th w g src dst psum scale)
    exact ⟨_, hk, rfl, rfl, rfl, rfl, rfl, rfl⟩
  · have hslice := List.mk_mem_zipIdx_iff_getElem?.mpr (getElem?_slices512 hi (memElems (s.cores.get n).spm src))
    have hqueued := hstruck _ hslice p hp
    rwa [State.Struck, hjoin.arrFor, State.strikeEntered_arrFor] at hqueued

end

/-! ### PLOAD (R246) -/

/-- The source ranges of a PLOAD. -/
def ploadReads (w : Nat) (src : Opnd) : List Range := if bit w 32 then [] else [src.range]

/-- A PLOAD's effect once it has taken its slot: it enters the list and its load joins the array's. -/
def State.ploadEffect (s : State) (n th w : Nat) (src : Opnd) : State :=
  ((s.take (.core n th)).enter n th (.plane (bits w 49 46)) (ploadReads w src) [] (evcOf (bit w 25) (bits w 31 26))).updArr n
    (s.arrFor n (bits w 49 46)) (fun a => { a with loads := a.loads ++ [{
      flight := (s.cores.get n).nextFlight, src := if bit w 32 then none else some src.base }] })

section
variable {s : State} {n th w : Nat} {src : Resolved}

theorem exec_pload_runs (hissues : MayIssue s (.core n th) w) (hsrc : s.resolve (.core n th) (bits w 45 33) false = src)
    (hlow : bits w 24 0 = 0) (hpos : bits w 49 46 < 12) (hcounter : counterOk (bit w 25) (bits w 31 26))
    (hzero : bit w 32 = true → bits w 45 33 = 0)
    (himage : bit w 32 = false → clean src ∧ src.o.mem = 0 ∧ src.o.type = 3 ∧ src.o.transpose = false ∧
      src.o.bytes = 65536 ∧ (src.o.rows ≤ 1 ∨ src.o.stride = src.o.count))
    (hranges : RangesOk s (.core n th) (ploadReads w src.o) []) (hfree : s.queueFree (.core n th) 16 FlightKind.isLoad = true) :
    exec (.pload (.core n th) w) s = .next (s.ploadEffect n th w src.o) := by
  subst hsrc
  refine (exec_pload ..).trans (congrArg Host.Outcome.next
    ((issue_of_mayIssue _ hissues hranges rfl ?fields ?checks hfree).trans ?_))
  case fields =>
    cases hz : bit w 32
    · simp [zeroBits_eq_true hlow, hpos]
    · simp [zeroBits_eq_true hlow, hpos, hzero hz]
  case checks =>
    refine List.forall_mem_cons.mpr ⟨evcBad_eq_false hcounter, ?_⟩
    cases hz : bit w 32
    · obtain ⟨hclean, hmem, htype, htranspose, hbytes, hrows⟩ := himage hz
      have hstride : 1 < (s.resolve (.core n th) (bits w 45 33) false).o.rows →
          (s.resolve (.core n th) (bits w 45 33) false).o.stride = (s.resolve (.core n th) (bits w 45 33) false).o.count :=
        fun hlt => hrows.resolve_left (Nat.not_le.mpr hlt)
      refine List.forall_mem_append.mpr ⟨opndChecks_pass fun r hr => List.mem_singleton.mp hr ▸ hclean, ?_⟩
      simpa [hmem, htype, htranspose, hbytes] using hstride
    · exact nofun
  · exact congrArg (fun a => State.updArr _ n a _) (State.arrFor_take_enter ..)

end

theorem State.ploadEffect_loads (s : State) (n th w : Nat) (src : Opnd) :
    Enters s (s.ploadEffect n th w src) n th (.plane (bits w 49 46)) (ploadReads w src) []
      (evcOf (bit w 25) (bits w 31 26)) ∧
    ((s.ploadEffect n th w src).arr n (s.arrFor n (bits w 49 46))).loads = (s.arr n (s.arrFor n (bits w 49 46))).loads ++
      [{ flight := (s.cores.get n).nextFlight, src := if bit w 32 then none else some src.base }] := by
  refine ⟨enters_of_enter rfl rfl, ?_⟩
  rw [State.ploadEffect, State.arr_updArr]
  exact congrArg (fun x : Arr => x.loads ++ _) (State.arr_of_arrays (State.take_arrays s (.core n th)) n _)

/-! ### PSWAP (R246) -/

/-- A swap is requested of the array that works for a position. -/
def State.requestSwap (n : Nat) (s : State) (p : Nat) : State :=
  s.updArr n (s.arrFor n p) (fun a => { a with swapPending := true })

/-- Every requested position has a swap pending, and the requests change arrays alone. -/
theorem State.requestSwap_foldl (n : Nat) (ps : List Nat) (s : State) :
    ((ps.foldl (State.requestSwap n) s).cores = s.cores ∧ (ps.foldl (State.requestSwap n) s).engines = s.engines) ∧
    (∀ a, (s.arr n a).swapPending = true → ((ps.foldl (State.requestSwap n) s).arr n a).swapPending = true) ∧
    ∀ p ∈ ps, ((ps.foldl (State.requestSwap n) s).arr n (s.arrFor n p)).swapPending = true := by
  induction ps generalizing s with
  | nil => exact ⟨⟨rfl, rfl⟩, fun _ h => h, nofun⟩
  | cons q ps ih =>
    obtain ⟨hparts, hkeeps, hall⟩ := ih (s.requestSwap n q)
    have hset : ((s.requestSwap n q).arr n (s.arrFor n q)).swapPending = true := by
      rw [State.requestSwap, State.arr_updArr]
    refine ⟨hparts, fun a ha => hkeeps a ?_, List.forall_mem_cons.mpr ⟨hkeeps _ hset, fun p hp => ?_⟩⟩
    · by_cases h : a = s.arrFor n q
      · exact h ▸ hset
      · rwa [State.requestSwap, State.arr_updArr_ne _ _ _ h]
    · have harrFor : (s.requestSwap n q).arrFor n p = s.arrFor n p := State.arrFor_updArr _ _ _ _ fun _ => rfl
      exact harrFor ▸ hall p hp

/-- A PSWAP's effect once it has taken its slot, before an empty one retires. -/
def State.pswapEffect (s : State) (n th w : Nat) : State :=
  (maskPositions (bits w 49 38)).foldl (State.requestSwap n)
    ((s.take (.core n th)).enter n th (.swap (bits w 49 38)) [] [] (evcOf (bit w 31) (bits w 37 32)))

theorem exec_pswap_runs {s : State} {n th w : Nat} (hissues : MayIssue s (.core n th) w) (hzero : bits w 30 0 = 0)
    (hcounter : counterOk (bit w 31) (bits w 37 32)) (hranges : RangesOk s (.core n th) [] []) :
    exec (.pswap (.core n th) w) s = .next (if bits w 49 38 = 0 then
      (s.pswapEffect n th w).retireWake n (s.cores.get n).nextFlight else s.pswapEffect n th w) :=
  (exec_pswap ..).trans (congrArg Host.Outcome.next (issue_of_mayIssue _ hissues hranges rfl (zeroBits_eq_true hzero)
    (List.forall_mem_singleton.mpr (evcBad_eq_false hcounter)) rfl))

theorem State.pswapEffect_requests (s : State) (n th w : Nat) :
    Enters s (s.pswapEffect n th w) n th (.swap (bits w 49 38)) [] [] (evcOf (bit w 31) (bits w 37 32)) ∧
    ∀ p ∈ maskPositions (bits w 49 38), ((s.pswapEffect n th w).arr n (s.arrFor n p)).swapPending = true := by
  obtain ⟨⟨hcores, hengines⟩, -, hall⟩ := State.requestSwap_foldl n (maskPositions (bits w 49 38))
    ((s.take (.core n th)).enter n th (.swap (bits w 49 38)) [] [] (evcOf (bit w 31) (bits w 37 32)))
  refine ⟨enters_of_enter (State.ctx_congr hcores hengines _) (congrArg (fun m : Map Core => (m.get n).flights) hcores),
    fun p hp => ?_⟩
  have hpending := hall p hp
  rwa [State.arrFor_take_enter] at hpending

/-- Settles O20, one instruction at a time. That PSWAP asks for no queue entry is the model's reading (log entry 101). -/
theorem strikesAndPlanes : Obligations.StrikesAndPlanes := by
  refine ⟨?gset, ?strike, ?pload, ?pswap⟩
  case gset =>
    intro s n th w h hzero hfree
    refine ⟨_, exec_gset_defines h hzero hfree, ?_, ?_⟩
    · rw [State.ctx_updCore _ (by exact fun _ => rfl), State.ctx_take]
    · rw [State.cores_updCore, State.core_take]
  case strike =>
    intro s n th w u g reg src dst psum scale k reads hissues hzero hcounter hsrc hdst hscale hpsum hvalid htype hmore hfits
      hranges hfree
    have hready : StrikeReady s n th w g src dst psum scale := ⟨hissues, rfl, rfl, rfl, rfl, rfl, hzero, hcounter, hsrc, hdst,
      hscale, hpsum, hvalid, htype, hmore, hfits, hranges, hfree⟩
    exact ⟨_, exec_strike_runs hready, State.strikeEffect_queues ..⟩
  case pload =>
    intro s n th w u src reads hissues hlow hpos hcounter hzero himage hranges hfree
    exact ⟨_, exec_pload_runs hissues rfl hlow hpos hcounter hzero himage hranges hfree, State.ploadEffect_loads ..⟩
  case pswap =>
    intro s n th w u hissues hzero hcounter hranges
    obtain ⟨henters, hpending⟩ := s.pswapEffect_requests n th w
    refine ⟨_, exec_pswap_runs hissues hzero hcounter hranges, ?_⟩
    by_cases hmask : bits w 49 38 = 0
    · rw [if_pos hmask]
      refine ⟨fun hne => absurd hmask hne, fun p hp => ?_, fun _ f hf => ?_⟩
      · rw [State.arr_of_arrays (State.retireWake_arrays ..)]
        exact hpending p hp
      · rw [State.flights_retireWake] at hf
        simpa using (List.mem_filter.mp hf).2
    · rw [if_neg hmask]
      exact ⟨fun _ => henters, hpending, fun h => absurd h hmask⟩

end Sys2Proof.Machine
end

section
/-!
The branches (08, R203, R238).
-/
namespace Sys2Proof.Machine
open Sys2Proof Sys2Proof.Claims

/-! ### Effects of branches on the issuing thread -/

/-- A field of at most 13 bits is a program counter as it stands. -/
theorem bits_mod_eq_self (w hi lo : Nat) {m : Nat} (h : 2 ^ (hi + 1 - lo) ≤ m) : bits w hi lo % m = bits w hi lo :=
  Nat.mod_eq_of_lt (Nat.lt_of_lt_of_le (Nat.mod_lt _ (Nat.two_pow_pos _)) h)

section
variable {c : Instr} {s : State} {u : Exec} {w : Nat}

theorem threadOnly_of_setPc {pc : Nat} (h : exec c s = .next ((s.take u).setPc u pc)) :
    ThreadOnly c s u { (s.ctx u).taken with pc := pc % 8192 } :=
  threadOnly_of_updCtx (fun t => { t with pc := pc % 8192 }) h

theorem threadOnly_of_setS_setPc {d pc : Nat} {v : W64} (h : exec c s = .next (((s.take u).setS u d v).setPc u pc)) :
    ThreadOnly c s u { writesS s u d v with pc := pc % 8192 } := by
  refine ⟨_, h, ?_, fun x hx => ?_, fun x => ?_⟩
  · rw [State.ctx_setPc, State.ctx_setS, State.ctx_take]
    rfl
  · rw [State.ctx_setPc_apart _ _ hx, State.ctx_setS_apart _ _ _ hx, State.ctx_take_apart _ hx]
  · rw [State.opMem_setPc, State.opMem_setS, State.opMem_take]

/-- A branch that may issue has its effect. -/
theorem branch_runs (eff : State → State) (h : Issues s u w) (hzero : bits w 28 0 = 0) :
    issue s u w (branchReq w) eff = eff (s.take u) :=
  issue_of_issues eff h rfl rfl (existsOn_of_engineOk rfl rfl u) (zeroBits_eq_true hzero) nofun rfl

/-! ### BR, CALL, JR and LOOP (R238) -/

theorem exec_br_jumps (h : Issues s u w) (hzero : bits w 28 0 = 0) :
    exec (.br u w) s = .next ((s.take u).setPc u (bits w 49 37)) :=
  (exec_br ..).trans (congrArg Host.Outcome.next (branch_runs _ h hzero))

theorem exec_call_links (h : Issues s u w) (hzero : bits w 28 0 = 0) : exec (.call u w) s =
    .next (((s.take u).setS u (bits w 32 29) (BitVec.ofNat 64 ((s.ctx u).pc + 1))).setPc u (bits w 49 37)) :=
  (exec_call ..).trans (congrArg Host.Outcome.next (branch_runs _ h hzero))

theorem exec_jr_jumps (h : Issues s u w) (hzero : bits w 28 0 = 0) :
    exec (.jr u w) s = .next ((s.take u).setPc u ((s.ctx u).s.get (bits w 36 33)).toNat) :=
  (exec_jr ..).trans (congrArg Host.Outcome.next (branch_runs _ h hzero))

theorem exec_loop_jumps (h : Issues s u w) (hzero : bits w 28 0 = 0) (hmore : (s.ctx u).s.get (bits w 36 33) - 1 ≠ 0) :
    exec (.loop u w) s =
      .next (((s.take u).setS u (bits w 36 33) ((s.ctx u).s.get (bits w 36 33) - 1)).setPc u (bits w 49 37)) :=
  (exec_loop ..).trans (congrArg Host.Outcome.next ((branch_runs _ h hzero).trans (if_neg hmore)))

theorem exec_loop_ends (h : Issues s u w) (hzero : bits w 28 0 = 0) (hend : (s.ctx u).s.get (bits w 36 33) - 1 = 0) :
    exec (.loop u w) s = .next ((s.take u).setS u (bits w 36 33) ((s.ctx u).s.get (bits w 36 33) - 1)) :=
  (exec_loop ..).trans (congrArg Host.Outcome.next ((branch_runs _ h hzero).trans (if_pos hend)))

/-- An instruction fetched at or past the end of the program raises FETCH_BOUNDS before anything else is looked at (R203). -/
theorem issue_past_end {r : IssueReq} (eff : State → State) (hissuable : s.issuable u = true)
    (hbarrier : s.barrierOpen u = false) (hpc : s.progLenOf u ≤ (s.ctx u).pc) : issue s u w r eff = s.raiseExc u 0x01 := by
  rw [issue, if_neg (by simp [hissuable]), if_neg (by simp [hbarrier]), if_pos hpc]

end

/-- Settles O15: a branch writes its link or its count and the program counter of a thread that has taken its slot. -/
theorem branches : Obligations.Branches := by
  refine ⟨fun s u w h hzero => ⟨?br, ?call, ?jr, fun hmore => ?jumps, fun hend => ?ends⟩, ?past⟩
  case br => exact bits_mod_eq_self w 49 37 (Nat.le_refl 8192) ▸ threadOnly_of_setPc (exec_br_jumps h hzero)
  case call => exact bits_mod_eq_self w 49 37 (Nat.le_refl 8192) ▸ threadOnly_of_setS_setPc (exec_call_links h hzero)
  case jr => exact threadOnly_of_setPc (exec_jr_jumps h hzero)
  case jumps => exact bits_mod_eq_self w 49 37 (Nat.le_refl 8192) ▸ threadOnly_of_setS_setPc (exec_loop_jumps h hzero hmore)
  case ends => exact threadOnly_of_setS (exec_loop_ends h hzero hend)
  case past =>
    intro s u w hissuable hbarrier hpc
    simp only [List.forall_mem_cons]
    have hpast := fun eff => congrArg (Host.Outcome.next (φ := Fault) (ρ := Refusal))
      (issue_past_end (w := w) (r := branchReq w) eff hissuable hbarrier hpc)
    exact ⟨(exec_br ..).trans (hpast _), (exec_call ..).trans (hpast _), (exec_jr ..).trans (hpast _),
      (exec_loop ..).trans (hpast _), nofun⟩

end Sys2Proof.Machine
end

section
/-!
The move and region instructions of a core (08, 09, R236, R248, R249, R270-R272, Table 9-4): MOVE, PUSH, POP and DROP.
-/
namespace Sys2Proof.Machine
open Sys2Proof Sys2Proof.Claims

/-! ### Where a remote address leads (R236, R295) -/

/-- What core n's addresses name, and the routes there, are what they were. -/
structure State.SameNodes (n : Nat) (s t : State) : Prop where
  routes : s.SameRoutes t
  img : t.img = s.img
  inst : (t.cores.get n).inst = (s.cores.get n).inst

theorem State.SameNodes.refl (n : Nat) (s : State) : s.SameNodes n s := ⟨⟨rfl, rfl, rfl, rfl⟩, rfl, rfl⟩

theorem State.SameNodes.trans {n : Nat} {s t u : State} (h : s.SameNodes n t) (k : t.SameNodes n u) : s.SameNodes n u :=
  ⟨h.routes.trans k.routes, k.img.trans h.img, k.inst.trans h.inst⟩

theorem State.SameNodes.take (s : State) (n th : Nat) : s.SameNodes n (s.take (.core n th)) := by
  refine ⟨.take s _, ?_, by rw [State.core_take]⟩
  exact (State.take_follows rfl (State.Follows.refl 590448932746046735128 s)).at State.img 12 State.reset.img
    (fun _ => rfl) rfl

/-- A change of a core that leaves what it belongs to. -/
theorem State.SameNodes.updCore (s : State) (n : Nat) {f : Core → Core} (hf : ∀ c, (f c).inst = c.inst) :
    s.SameNodes n (s.updCore n f) := by
  refine ⟨⟨rfl, rfl, rfl, rfl⟩, rfl, ?_⟩
  rw [State.cores_updCore, hf]

theorem State.SameNodes.enter (s : State) (n th : Nat) (kind : FlightKind) (reads writes : List Range) (evc : Option Nat) :
    s.SameNodes n (s.enter n th kind reads writes evc) := .updCore s n fun _ => rfl

section
variable {n : Nat} {s t : State} (h : s.SameNodes n t)
include h

theorem State.SameNodes.coreNode (m : Nat) : t.coreNode m = s.coreNode m := by
  unfold State.coreNode State.place State.reserveOf
  rw [h.routes.reserves, h.routes.fuses]

theorem State.SameNodes.rPeer (a : Nat) : t.rPeer n a = s.rPeer n a := by
  unfold State.rPeer State.instCores
  rw [h.inst, h.img, h.routes.fuses]

theorem State.SameNodes.rCluster (a : Nat) : t.rCluster n a = s.rCluster n a := by
  unfold State.rCluster State.clusterOf State.place State.reserveOf
  rw [h.routes.reserves, h.routes.fuses]

theorem State.SameNodes.remoteNode (a : Nat) : t.remoteNode n a = s.remoteNode n a := by
  unfold State.remoteNode
  simp only [h.coreNode, h.rPeer, h.rCluster]

theorem State.SameNodes.routeIn {a b : Nat} (hr : routeIn s a b) : routeIn t a b := by
  obtain ⟨hlanes, hslices, -, -⟩ := h.routes
  unfold Claims.routeIn State.routeBad State.routeSlice at *
  rwa [hlanes, hslices]

end

/-! ### Requests of instructions in flight (R277, R296) -/

/-- From s to t core n's threads and regions stay, and its instructions in flight change in their transit blocks alone. -/
structure State.BlocksOnly (n : Nat) (s t : State) : Prop where
  ctx : ∀ v, t.ctx v = s.ctx v
  regions : (t.cores.get n).regions = (s.cores.get n).regions
  flights : ∀ f ∈ (s.cores.get n).flights, ∃ want blocks, { f with want := want, blocks := blocks } ∈ (t.cores.get n).flights

theorem State.BlocksOnly.refl (n : Nat) (s : State) : s.BlocksOnly n s :=
  ⟨fun _ => rfl, rfl, fun f hf => ⟨f.want, f.blocks, hf⟩⟩

theorem State.BlocksOnly.trans {n : Nat} {s t u : State} (h : s.BlocksOnly n t) (k : t.BlocksOnly n u) :
    s.BlocksOnly n u := by
  refine ⟨fun v => (k.ctx v).trans (h.ctx v), k.regions.trans h.regions, fun f hf => ?_⟩
  obtain ⟨want, blocks, hf⟩ := h.flights f hf
  obtain ⟨want', blocks', hf'⟩ := k.flights _ hf
  exact ⟨want', blocks', hf'⟩

/-- Requests enter a fabric that is not part of any core. -/
theorem State.BlocksOnly.addMsg (n : Nat) (s : State) (m : FabMsg) : s.BlocksOnly n (s.addMsg m) :=
  ⟨fun v => State.ctx_congr rfl rfl v, rfl, fun f hf => ⟨f.want, f.blocks, hf⟩⟩

theorem State.BlocksOnly.inFlight {n : Nat} {t u : State} (h : t.BlocksOnly n u) {s : State} {th : Nat} {kind : FlightKind}
    {reads writes : List Range} {evc : Option Nat} (hin : InFlight s t n th kind reads writes evc) :
    InFlight s u n th kind reads writes evc := by
  obtain ⟨f, hf, hid, hthread, hkind, hreads, hwrites, hevc⟩ := hin
  obtain ⟨want, blocks, hf⟩ := h.flights f hf
  exact ⟨_, hf, hid, hthread, hkind, hreads, hwrites, hevc⟩

/-- What enters the in-flight list last is in flight. -/
theorem inFlight_of_enters {s t : State} {n th : Nat} {kind : FlightKind} {reads writes : List Range} {evc : Option Nat}
    (h : Enters s t n th kind reads writes evc) : InFlight s t n th kind reads writes evc := by
  obtain ⟨-, pc, hflights⟩ := h
  exact ⟨_, hflights ▸ List.mem_append_right _ List.mem_cons_self, rfl, rfl, rfl, rfl, rfl, rfl⟩

/-- Asking for transit blocks changes the cluster's area and the blocks of one instruction. -/
theorem State.askBlocks_asks (s : State) (n id len : Nat) :
    s.BlocksOnly n (s.askBlocks n id len) ∧ s.SameNodes n (s.askBlocks n id len) := by
  refine ⟨⟨State.ctx_updCore _ (by exact fun _ => rfl), ?_, fun f hf => ?_⟩, ⟨⟨rfl, rfl, rfl, rfl⟩, rfl, ?_⟩⟩
  · simp only [State.askBlocks, State.updFlight, State.cores_updCore]
    rfl
  · simp only [State.askBlocks, State.updFlight, State.cores_updCore]
    by_cases hid : f.id = id
    · exact ⟨_, _, List.mem_map.mpr ⟨f, hf, if_pos (beq_iff_eq.mpr hid)⟩⟩
    · exact ⟨f.want, f.blocks, List.mem_map.mpr ⟨f, hf, if_neg (by simpa using hid)⟩⟩
  · simp only [State.askBlocks, State.updFlight, State.cores_updCore]
    rfl

/-- A transfer with a route sends its request, whether or not it passes the transit area. -/
theorem State.sendXfer_sends {s : State} {n a : Nat} (id len : Nat) (inbound : Bool)
    (hroute : routeIn s (s.coreNode n) (s.remoteNode n a)) :
    s.BlocksOnly n (s.sendXfer n id a len inbound) ∧
    Sent (s.sendXfer n id a len inbound) (if inbound then .read n id else .write n id) (s.coreNode n) (s.remoteNode n a) := by
  obtain ⟨t, ht, hblocks, hnodes⟩ : ∃ t : State, (if s.usesTransit n a then s.askBlocks n id len else s) = t ∧
      s.BlocksOnly n t ∧ s.SameNodes n t := by
    refine ⟨_, rfl, ?_⟩
    split
    · exact s.askBlocks_asks n id len
    · exact ⟨.refl n s, .refl n s⟩
  obtain ⟨net, hnet⟩ := t.inject_enters (if inbound then .read n id else .write n id) (s.coreNode n) (s.remoteNode n a)
    (hnodes.routeIn hroute)
  have hsend : s.sendXfer n id a len inbound = t.addMsg { id := t.nextMsg, body := if inbound then .read n id else .write n id
                                                          src := s.coreNode n, dst := s.remoteNode n a, net := net } := by
    simp only [State.sendXfer, ht, hnodes.coreNode, hnodes.remoteNode, hnet]
    rfl
  rw [hsend]
  exact ⟨hblocks.trans (.addMsg n t _), _, t.mem_addMsg _, rfl, rfl, rfl, rfl⟩

/-! ### MOVE (R248, R517) -/

theorem rw_eq (inbound : Bool) (o : Opnd) :
    rw inbound o = (if inbound then [] else [o.range], if inbound then [o.range] else []) := by
  cases inbound <;> rfl

@[simp] theorem State.retireWake_msgs (s : State) (n id : Nat) : (s.retireWake n id).msgs = s.msgs :=
  (State.retireWake_follows rfl (State.Follows.refl 590448932746046735128 s)).at State.msgs 25 State.reset.msgs
    (fun _ => rfl) rfl

/-- The remote address of a MOVE. -/
def State.moveRemote (s : State) (n th w : Nat) : Nat := ((s.ctx (.core n th)).s.get (bits w 36 33)).toNat

/-- The source ranges of a MOVE. -/
def moveReads (w : Nat) (l : Opnd) : List Range := if bit w 32 then [] else [l.range]

/-- The destination ranges of a MOVE. -/
def moveWrites (w : Nat) (l : Opnd) : List Range := if bit w 32 then [l.range] else []

/-- A MOVE that has taken its slot and entered the list. -/
def State.moveEntered (s : State) (n th w : Nat) (l : Opnd) : State :=
  (s.take (.core n th)).enter n th (.move l (s.moveRemote n th w) (bit w 32)) (moveReads w l) (moveWrites w l)
    (evcOf (bit w 25) (bits w 31 26))

/-- An inbound MOVE into VWS is recorded for a replay (R284). -/
def State.moveRecorded (s : State) (n th w : Nat) (l : Opnd) : State :=
  if bit w 32 && l.mem == 0 then (s.moveEntered n th w l).updCore n (fun c => { c with
    recentMoves := (c.recentMoves ++ [({
      flight := (s.cores.get n).nextFlight, l := l, remote := s.moveRemote n th w, thread := th } : Xfer)]).drop
        ((c.recentMoves.length + 1) - 16) })
  else s.moveEntered n th w l

/-- An outbound MOVE that the ledger holds retires without acting. -/
def State.moveSkipped (s : State) (n th w : Nat) (l : Opnd) : State :=
  ((s.moveEntered n th w l).updCore n (fun c => { c with skipMov := c.skipMov.upd th (· - 1) })).retireWake n
    (s.cores.get n).nextFlight

/-- Any other MOVE sends its request. -/
def State.moveSent (s : State) (n th w : Nat) (l : Opnd) : State :=
  (s.moveRecorded n th w l).sendXfer n (s.cores.get n).nextFlight (s.moveRemote n th w) l.bytes (bit w 32)

section
variable {s : State} {n th w : Nat} {l : Resolved}

theorem exec_move_runs (hissues : MayIssue s (.core n th) w) (hl : s.resolve (.core n th) (bits w 49 37) (bit w 32) = l)
    (hzero : bits w 24 0 = 0) (hcounter : counterOk (bit w 25) (bits w 31 26)) (hclean : clean l)
    (hremote : ∀ p ∈ s.remoteChecks n (s.moveRemote n th w) l.o.bytes (!bit w 32), p.2 = false)
    (hranges : RangesOk s (.core n th) (moveReads w l.o) (moveWrites w l.o))
    (hfree : s.queueFree (.core n th) 16 FlightKind.isMove = true) :
    exec (.move (.core n th) w) s = .next (if !bit w 32 && (s.cores.get n).skips th then s.moveSkipped n th w l.o
      else s.moveSent n th w l.o) := by
  subst hl
  simp only [exec_move, execMove, rw_eq]
  refine congrArg Host.Outcome.next ((issue_of_mayIssue _ hissues hranges rfl (zeroBits_eq_true hzero) ?checks hfree).trans rfl)
  refine List.forall_mem_cons.mpr ⟨evcBad_eq_false hcounter, List.forall_mem_append.mpr ⟨?_, hremote⟩⟩
  exact opndChecks_pass fun r hr => List.mem_singleton.mp hr ▸ hclean

end

section
variable (s : State) (n th w : Nat) (l : Opnd)

theorem State.moveEntered_enters : Enters s (s.moveEntered n th w l) n th (.move l (s.moveRemote n th w) (bit w 32))
    (moveReads w l) (moveWrites w l) (evcOf (bit w 25) (bits w 31 26)) :=
  enters_of_enter rfl rfl

/-- Being recorded is nothing to the threads, to the list or to where the address leads. -/
theorem State.moveRecorded_keeps : (s.moveEntered n th w l).BlocksOnly n (s.moveRecorded n th w l) ∧
    s.SameNodes n (s.moveRecorded n th w l) := by
  have hnodes : s.SameNodes n (s.moveEntered n th w l) := (State.SameNodes.take s n th).trans (.enter ..)
  unfold State.moveRecorded
  split
  · refine ⟨⟨State.ctx_updCore _ (by exact fun _ => rfl), ?_, fun f hf => ⟨f.want, f.blocks, ?_⟩⟩,
      hnodes.trans (.updCore _ n fun _ => rfl)⟩
    · rw [State.cores_updCore]
    · rw [State.cores_updCore]
      exact hf
  · exact ⟨.refl n _, hnodes⟩

theorem State.moveSent_requests (hroute : routeIn s (s.coreNode n) (s.remoteNode n (s.moveRemote n th w))) :
    (s.moveSent n th w l).ctx (.core n th) = (s.ctx (.core n th)).taken ∧
    InFlight s (s.moveSent n th w l) n th (.move l (s.moveRemote n th w) (bit w 32)) (moveReads w l) (moveWrites w l)
      (evcOf (bit w 25) (bits w 31 26)) ∧
    Sent (s.moveSent n th w l)
      (if bit w 32 then .read n (s.cores.get n).nextFlight else .write n (s.cores.get n).nextFlight)
      (s.coreNode n) (s.remoteNode n (s.moveRemote n th w)) := by
  have henters := s.moveEntered_enters n th w l
  obtain ⟨hrecorded, hnodes⟩ := s.moveRecorded_keeps n th w l
  have hroute' : routeIn (s.moveRecorded n th w l) ((s.moveRecorded n th w l).coreNode n)
      ((s.moveRecorded n th w l).remoteNode n (s.moveRemote n th w)) := by
    rw [hnodes.coreNode, hnodes.remoteNode]
    exact hnodes.routeIn hroute
  obtain ⟨hblocks, hsent⟩ := State.sendXfer_sends (s.cores.get n).nextFlight l.bytes (bit w 32) hroute'
  rw [hnodes.coreNode, hnodes.remoteNode] at hsent
  exact ⟨((hrecorded.trans hblocks).ctx _).trans henters.1,
    (hrecorded.trans hblocks).inFlight (inFlight_of_enters henters), hsent⟩

theorem State.moveSkipped_retires : (s.moveSkipped n th w l).msgs = s.msgs ∧
    ∀ f ∈ ((s.moveSkipped n th w l).cores.get n).flights, f.id ≠ (s.cores.get n).nextFlight := by
  refine ⟨?_, fun f hf => ?_⟩
  · exact (State.retireWake_msgs ..).trans (State.take_msgs s (.core n th))
  · rw [State.moveSkipped, State.flights_retireWake] at hf
    simpa using (List.mem_filter.mp hf).2

end

/-! ### PUSH (R249, R271, R272) -/

/-- The region that a PUSH, a POP or a DROP names. -/
def State.regionOf (s : State) (n w : Nat) : Region := (s.cores.get n).regions.get (bits w 49 46)

/-- The remote address of a PUSH. -/
def State.pushRemote (s : State) (n th w : Nat) : Nat := ((s.ctx (.core n th)).s.get (bits w 44 41)).toNat

/-- The source ranges of a PUSH. -/
def pushReads (w : Nat) (l : Opnd) : List Range := if bit w 45 then [l.range] else []

/-- A PUSH that has taken its slot enters the list, and its region's slot at the head is FILLING. -/
def State.pushEntered (s : State) (n th w : Nat) (l : Opnd) : State :=
  ((s.take (.core n th)).enter n th
    (.push (bits w 49 46) (s.regionOf n w).head (if bit w 45 then none else some (s.pushRemote n th w)) l) (pushReads w l)
    [((s.regionOf n w).slotOpnd (s.regionOf n w).head).range] (evcOf (bit w 21) (bits w 27 22))).updRegion n (bits w 49 46)
    (fun r => { r with state := r.state.put r.head .filling, head := r.nextSlot r.head })

/-- A PUSH's effect: a remote one sends its request. -/
def State.pushEffect (s : State) (n th w : Nat) (l : Opnd) : State :=
  if bit w 45 then s.pushEntered n th w l
  else (s.pushEntered n th w l).sendXfer n (s.cores.get n).nextFlight (s.pushRemote n th w) (s.regionOf n w).slotBytes true

/-- A region of a core after a change of it. -/
theorem State.regions_updRegion (s : State) (n q : Nat) (f : Region → Region) :
    ((s.updRegion n q f).cores.get n).regions.get q = f ((s.cores.get n).regions.get q) := by
  rw [State.updRegion, State.cores_updCore, Map.get_upd_self]

/-- A core's regions are as they were when an instruction takes its slot and enters the list. -/
theorem State.regions_take_enter (s : State) (n th : Nat) (kind : FlightKind) (reads writes : List Range) (evc : Option Nat) :
    (((s.take (.core n th)).enter n th kind reads writes evc).cores.get n).regions = (s.cores.get n).regions := by
  rw [State.core_enter, State.core_take]

/-- The change of a region is nothing to what has entered the list. -/
theorem enters_updRegion (s : State) (n th q : Nat) (kind : FlightKind) (reads writes : List Range) (evc : Option Nat)
    (f : Region → Region) :
    Enters s (((s.take (.core n th)).enter n th kind reads writes evc).updRegion n q f) n th kind reads writes evc :=
  enters_of_enter (State.ctx_updCore _ (by exact fun _ => rfl) _) (by rw [State.updRegion, State.cores_updCore])

section
variable {s : State} {n th w : Nat} {l : Resolved}

theorem exec_push_runs (hissues : MayIssue s (.core n th) w) (hl : s.resolve (.core n th) (bits w 40 28) false = l)
    (hzero : bits w 20 0 = 0) (hcounter : counterOk (bit w 21) (bits w 27 22))
    (hconfigured : (s.regionOf n w).configured = true)
    (hlocal : bit w 45 = true → clean l ∧ l.o.bytes = (s.regionOf n w).slotBytes)
    (hremote : bit w 45 = false →
      ∀ p ∈ s.remoteChecks n (s.pushRemote n th w) (s.regionOf n w).slotBytes false, p.2 = false)
    (hslot : (s.regionOf n w).state.get (s.regionOf n w).head = .empty)
    (hranges : RangesOk s (.core n th) (pushReads w l.o) [((s.regionOf n w).slotOpnd (s.regionOf n w).head).range])
    (hfree : s.queueFree (.core n th) 16 FlightKind.isMove = true) :
    exec (.push (.core n th) w) s = .next (s.pushEffect n th w l.o) := by
  subst hl
  refine (exec_push ..).trans (congrArg Host.Outcome.next
    ((issue_of_mayIssue _ hissues hranges rfl (zeroBits_eq_true hzero) ?checks ?free).trans rfl))
  case checks =>
    refine List.forall_mem_cons.mpr ⟨evcBad_eq_false hcounter, List.forall_mem_append.mpr
      ⟨List.forall_mem_append.mpr ⟨?opnd, List.forall_mem_singleton.mpr ?region⟩, ?remote⟩⟩
    case opnd =>
      split
      next hloc => exact opndChecks_pass fun r hr => List.mem_singleton.mp hr ▸ (hlocal hloc).1
      next => exact nofun
    case region =>
      refine Bool.or_eq_false_iff.mpr ⟨(Bool.not_eq_false' ..).mpr hconfigured, ?_⟩
      cases hloc : bit w 45
      · rfl
      · exact bne_eq_false_iff_eq.mpr (hlocal hloc).2
    case remote =>
      split
      next => exact nofun
      next hloc => exact hremote (Bool.eq_false_iff.mpr hloc)
  case free => exact Bool.and_eq_true_iff.mpr ⟨beq_iff_eq.mpr hslot, hfree⟩

end

section
variable (s : State) (n th w : Nat) (l : Opnd)

theorem State.pushEntered_enters : Enters s (s.pushEntered n th w l) n th
    (.push (bits w 49 46) (s.regionOf n w).head (if bit w 45 then none else some (s.pushRemote n th w)) l) (pushReads w l)
    [((s.regionOf n w).slotOpnd (s.regionOf n w).head).range] (evcOf (bit w 21) (bits w 27 22)) :=
  enters_updRegion ..

/-- The slot at the head is FILLING and the head has moved on. -/
theorem State.pushEntered_region : (s.pushEntered n th w l).regionOf n w = { s.regionOf n w with
    state := (s.regionOf n w).state.put (s.regionOf n w).head .filling
    head := (s.regionOf n w).nextSlot (s.regionOf n w).head } := by
  rw [State.regionOf, State.pushEntered, State.regions_updRegion, State.regions_take_enter]
  rfl

theorem State.pushEntered_nodes : s.SameNodes n (s.pushEntered n th w l) :=
  ((State.SameNodes.take s n th).trans (.enter ..)).trans (.updCore _ n fun _ => rfl)

/-- A PUSH leaves its own core, but for transit blocks, as it was when it entered; a remote one has sent its request. -/
theorem State.pushEffect_requests
    (hroute : bit w 45 = false → routeIn s (s.coreNode n) (s.remoteNode n (s.pushRemote n th w))) :
    (s.pushEntered n th w l).BlocksOnly n (s.pushEffect n th w l) ∧
    (bit w 45 = false → Sent (s.pushEffect n th w l) (.read n (s.cores.get n).nextFlight) (s.coreNode n)
      (s.remoteNode n (s.pushRemote n th w))) := by
  have hnodes := s.pushEntered_nodes n th w l
  cases hloc : bit w 45
  · have hroute' : routeIn (s.pushEntered n th w l) ((s.pushEntered n th w l).coreNode n)
        ((s.pushEntered n th w l).remoteNode n (s.pushRemote n th w)) := by
      rw [hnodes.coreNode, hnodes.remoteNode]
      exact hnodes.routeIn (hroute hloc)
    obtain ⟨hblocks, hsent⟩ := State.sendXfer_sends (s.cores.get n).nextFlight (s.regionOf n w).slotBytes true hroute'
    rw [hnodes.coreNode, hnodes.remoteNode] at hsent
    have heffect : s.pushEffect n th w l = _ := if_neg (by rw [hloc]; exact Bool.false_ne_true)
    rw [heffect]
    exact ⟨hblocks, fun _ => hsent⟩
  · have heffect : s.pushEffect n th w l = _ := if_pos hloc
    rw [heffect]
    exact ⟨.refl n _, nofun⟩

end

/-! ### POP (R249, Table 9-4) -/

/-- A POP that has taken its slot enters the list, and its region's slot is TAKEN by the thread. -/
def State.popEntered (s : State) (n th w : Nat) : State :=
  ((s.take (.core n th)).enter n th (.pop (bits w 49 46) (s.regionOf n w).take)
    [((s.regionOf n w).slotOpnd (s.regionOf n w).take).range] [] none).updRegion n (bits w 49 46)
    (fun r => { r with
      state := r.state.put r.take .taken, owner := r.owner.put r.take (th + 1), take := r.nextSlot r.take })

/-- A POP's effect: sd holds the slot's offset. -/
def State.popEffect (s : State) (n th w : Nat) : State :=
  (s.popEntered n th w).setS (.core n th) (bits w 45 42) (BitVec.ofNat 64 ((s.regionOf n w).take * (s.regionOf n w).slotBytes))

section
variable {s : State} {n th w : Nat}

theorem exec_pop_runs (hissues : MayIssue s (.core n th) w) (hzero : bits w 41 0 = 0)
    (hconfigured : (s.regionOf n w).configured = true) (hslot : (s.regionOf n w).state.get (s.regionOf n w).take = .filled)
    (hranges : RangesOk s (.core n th) [((s.regionOf n w).slotOpnd (s.regionOf n w).take).range] []) :
    exec (.pop (.core n th) w) s = .next (s.popEffect n th w) := by
  refine (exec_pop ..).trans (congrArg Host.Outcome.next
    ((issue_of_mayIssue _ hissues hranges rfl (zeroBits_eq_true hzero) ?checks ?free).trans rfl))
  case checks =>
    refine List.forall_mem_singleton.mpr ?_
    rw [Bool.not_eq_false']
    exact hconfigured
  case free => exact beq_iff_eq.mpr hslot

end

theorem Core.regions_of_bare {c d : Core} (h : c.bare = d.bare) : c.regions = d.regions := by
  have hregions := congrArg Core.regions h
  exact hregions

section
variable (s : State) (n th w : Nat)

theorem State.popEntered_enters : Enters s (s.popEntered n th w) n th (.pop (bits w 49 46) (s.regionOf n w).take)
    [((s.regionOf n w).slotOpnd (s.regionOf n w).take).range] [] none :=
  enters_updRegion ..

/-- The slot is TAKEN by the thread and the take pointer has moved on. -/
theorem State.popEntered_region : (s.popEntered n th w).regionOf n w = { s.regionOf n w with
    state := (s.regionOf n w).state.put (s.regionOf n w).take .taken
    owner := (s.regionOf n w).owner.put (s.regionOf n w).take (th + 1)
    take := (s.regionOf n w).nextSlot (s.regionOf n w).take } := by
  rw [State.regionOf, State.popEntered, State.regions_updRegion, State.regions_take_enter]
  rfl

/-- What a POP leaves: its slot is TAKEN, sd holds the offset, and it is in flight. -/
theorem State.popEffect_takes :
    (s.popEffect n th w).ctx (.core n th) = writesS s (.core n th) (bits w 45 42)
      (BitVec.ofNat 64 ((s.regionOf n w).take * (s.regionOf n w).slotBytes)) ∧
    InFlight s (s.popEffect n th w) n th (.pop (bits w 49 46) (s.regionOf n w).take)
      [((s.regionOf n w).slotOpnd (s.regionOf n w).take).range] [] none ∧
    (s.popEffect n th w).regionOf n w = (s.popEntered n th w).regionOf n w := by
  have henters := s.popEntered_enters n th w
  have hbare : ((s.popEffect n th w).cores.get n).bare = ((s.popEntered n th w).cores.get n).bare := State.bare_updCtx ..
  refine ⟨?_, ?_, ?_⟩
  · rw [State.popEffect, State.ctx_setS, henters.1]
    rfl
  · have hin := inFlight_of_enters henters
    rwa [InFlight, ← Core.flights_of_bare hbare] at hin
  · rw [State.regionOf, State.regionOf, Core.regions_of_bare hbare]

end

/-! ### DROP (R249, Table 9-4) -/

/-- The instruction is a POP of region q by thread th. -/
def Flight.popsFrom (th q : Nat) (f : Flight) : Bool :=
  f.thread == th && (match f.kind with | .pop q' _ => q' == q | _ => false)

/-- The slot that a POP took. -/
def Flight.slot (f : Flight) : Nat := match f.kind with | .pop _ k => k | _ => 0

/-- The release of the slot that a POP took; the POP retires. -/
def State.releaseSlot (s : State) (n q : Nat) (f : Flight) : State :=
  (s.updRegion n q (fun r => Region.advance r.slots { r with
    state := r.state.put f.slot .released, owner := r.owner.put f.slot 0 })).retireWake n f.id

theorem Flight.popsFrom_iff {th q : Nat} {f : Flight} : f.popsFrom th q = true ↔ f.thread = th ∧ ∃ k, f.kind = .pop q k := by
  unfold Flight.popsFrom
  cases f.kind <;> simp

/-- A DROP looks for the thread's oldest POP of the region. -/
theorem exec_drop_core (s : State) (n th w : Nat) : exec (.drop (.core n th) w) s = .next (issue s (.core n th) w
    { fieldsOk := zeroBits w 45 0
      checks := [(0x0C, ((s.cores.get n).flights.find? (Flight.popsFrom th (bits w 49 46))).isNone)] }
    (fun t => match (s.cores.get n).flights.find? (Flight.popsFrom th (bits w 49 46)) with
      | none => t
      | some f => t.releaseSlot n (bits w 49 46) f)) := rfl

theorem exec_drop_runs {s : State} {n th w : Nat} {f : Flight} (hissues : MayIssue s (.core n th) w)
    (hzero : bits w 45 0 = 0) (hranges : RangesOk s (.core n th) [] [])
    (hheld : (s.cores.get n).flights.find? (Flight.popsFrom th (bits w 49 46)) = some f) :
    exec (.drop (.core n th) w) s = .next ((s.take (.core n th)).releaseSlot n (bits w 49 46) f) := by
  rw [exec_drop_core, hheld]
  exact congrArg Host.Outcome.next (issue_of_mayIssue _ hissues hranges rfl (zeroBits_eq_true hzero)
    (List.forall_mem_singleton.mpr rfl) rfl)

theorem State.flights_releaseSlot (s : State) (n q : Nat) (f : Flight) :
    ((s.releaseSlot n q f).cores.get n).flights = (s.cores.get n).flights.filter (·.id != f.id) := by
  rw [State.releaseSlot, State.flights_retireWake, State.updRegion, State.cores_updCore]

/-- Settles O21, one instruction at a time. -/
theorem movesAndRegions : Obligations.MovesAndRegions := by
  refine ⟨?move, ?push, ?pop, ?drop⟩
  case move =>
    intro s n th w u inb l a rd wr hissues hzero hcounter hclean hremote hranges hfree hroute
    refine ⟨_, exec_move_runs hissues rfl hzero hcounter hclean hremote hranges hfree, fun hacts => ?_,
      fun hout hskips => ?_⟩
    · have hsent : ¬(!bit w 32 && (s.cores.get n).skips th) = true := by
        obtain hin | hnone := hacts
        · simp [show bit w 32 = true from hin]
        · simp [Core.skips, hnone]
      rw [if_neg hsent]
      exact s.moveSent_requests n th w l.o hroute
    · have hskipped : (!bit w 32 && (s.cores.get n).skips th) = true := by
        simp [show bit w 32 = false from hout, Core.skips, Nat.pos_of_ne_zero hskips]
      rw [if_pos hskipped]
      exact s.moveSkipped_retires n th w l.o
  case push =>
    intro s n th w u q r a l rd wr hissues hzero hcounter hconfigured hlocal hremote hslot hranges hfree
    have henters := s.pushEntered_enters n th w l.o
    have hregion := s.pushEntered_region n th w l.o
    obtain ⟨hblocks, hsent⟩ := s.pushEffect_requests n th w l.o fun hloc => (hremote hloc).2
    have hregion' : ((s.pushEffect n th w l.o).cores.get n).regions.get q = (s.pushEntered n th w l.o).regionOf n w :=
      congrArg (fun m : Map Region => m.get q) hblocks.regions
    rw [hregion] at hregion'
    refine ⟨_, exec_push_runs hissues rfl hzero hcounter hconfigured hlocal (fun hloc => (hremote hloc).1) hslot
      hranges hfree, (hblocks.ctx _).trans henters.1, hblocks.inFlight (inFlight_of_enters henters), ?_, ?_, hsent⟩
    · rw [hregion']
      exact Map.get_put_self ..
    · rw [hregion']
      rfl
  case pop =>
    intro s n th w u q r hissues hzero hconfigured hslot hranges
    obtain ⟨hctx, hin, hregion⟩ := s.popEffect_takes n th w
    have hregion' : ((s.popEffect n th w).cores.get n).regions.get q = _ := hregion.trans (s.popEntered_region n th w)
    refine ⟨_, exec_pop_runs hissues hzero hconfigured hslot hranges, hctx, hin, ?_, ?_⟩
    · rw [hregion']
      exact Map.get_put_self ..
    · rw [hregion']
      rfl
  case drop =>
    intro s n th w slot f before after u q hissues hzero hranges hflights hkind hthread hbefore
    have hheld : (s.cores.get n).flights.find? (Flight.popsFrom th q) = some f := by
      refine List.find?_eq_some_iff_append.mpr ⟨Flight.popsFrom_iff.mpr ⟨hthread, slot, hkind⟩, before, after, hflights,
        fun g hg => ?_⟩
      rw [Bool.not_eq_true', Bool.eq_false_iff]
      intro hpops
      obtain ⟨hmine, k, hk⟩ := Flight.popsFrom_iff.mp hpops
      exact hbefore g hg k ⟨hmine, hk⟩
    refine ⟨_, exec_drop_runs hissues hzero hranges hheld, ?_⟩
    rw [State.flights_releaseSlot, State.flights_take]

end Sys2Proof.Machine
end

section
/-!
Scratchpads and cluster memory (09, R278–R287, Table 9-10): scrubbing, restarts, restores and changes of organisation.
-/
namespace Sys2Proof.Machine
open Sys2Proof

@[simp] theorem State.clusters_updCluster (s : State) (c : Nat) (f : Cluster → Cluster) :
    (s.updCluster c f).clusters.get c = f (s.clusters.get c) := Map.get_upd_self ..

/-! ### Scrubbing (R278–R280) -/

theorem exec_scrubPassStart_core {s : State} {n : Nat} (mem : Nat) (hawake : s.scrubStopped true n = false) :
    exec (.scrubPassStart true n mem) s = .next (s.updCore n (fun c =>
      { c with scrubPos := c.scrubPos.put mem 0, scrubbing := c.scrubbing.put mem true })) := by
  simp [exec_scrubPassStart, execScrubPassStart, hawake]

theorem exec_scrubPassStart_cluster {s : State} {n : Nat} (mem : Nat) (hawake : s.scrubStopped false n = false) :
    exec (.scrubPassStart false n mem) s = .next (s.updCluster n (fun x =>
      { x with scrubPos := 0, scrubbing := true })) := by
  simp [exec_scrubPassStart, execScrubPassStart, hawake]

theorem exec_scrubRead_core {s : State} {n : Nat} (mem : Nat) (ce ue : List Nat) (hawake : s.scrubStopped true n = false) :
    exec (.scrubRead true n mem ce ue) s = .next (s.scrubCore n mem ce ue) := by
  simp [exec_scrubRead, execScrubRead, hawake]

theorem exec_scrubRead_cluster {s : State} {n : Nat} (mem : Nat) (ce ue : List Nat)
    (hawake : s.scrubStopped false n = false) :
    exec (.scrubRead false n mem ce ue) s = .next (s.scrubCluster n ce ue) := by
  simp [exec_scrubRead, execScrubRead, hawake]

/-- A core with a word written 0, poisoned and shown in the error address (R279). -/
def Core.poisonWord (c : Core) (mem w : Nat) : Core :=
  { c with
    spm := c.spm.store (memBase mem + 8 * w) (List.replicate 8 0), poison := c.poison.put (memBase mem / 8 + w) true
    errAddr := spmErr 3 mem (8 * w) }

/-- Where a pass of a scratchpad memory's scrubber ends. -/
def scrubEnd (mem : Nat) : Nat := if mem = 0 then 0x40000 else if mem = 1 then 0xC0000 else 0x80000

/-- The end of a pass, where the scrubber has come to it (R280). -/
def State.endScrubPass (s : State) (n mem : Nat) : State :=
  if (s.cores.get n).scrubPos.get mem < scrubEnd mem then s
  else
    let s := s.updCore n (fun c => { c with scrubbing := c.scrubbing.put mem false })
    let c := s.cores.get n
    if c.scrubbing.get 0 || c.scrubbing.get 1 || c.scrubbing.get 2 then s else s.count (Reg.SPM_SCRUB_PASS n)

/-- The end of a pass changes only which passes of the core run. -/
theorem State.endScrubPass_core (s : State) (n mem : Nat) :
    ∃ passes, (s.endScrubPass n mem).cores.get n = { s.cores.get n with scrubbing := passes } := by
  unfold State.endScrubPass
  split
  · exact ⟨_, rfl⟩
  · dsimp only
    split
    · exact ⟨_, s.cores_updCore n _⟩
    · exact ⟨_, s.cores_updCore n _⟩

/-- A read that meets one uncorrectable word which is not yet poisoned, and nothing to correct. -/
theorem State.scrubCore_fresh {s : State} {n mem w : Nat} (hruns : (s.cores.get n).scrubbing.get mem = true)
    (hfresh : (s.cores.get n).poison.get (memBase mem / 8 + w) = false) :
    s.scrubCore n mem [] [w] = (((((s.countBy (Reg.SPM_CE n mem) 0).updCore n (·.poisonWord mem w)).count
      (Reg.SPM_POISON n)).logLimited 0x3502 n (fun _ => [(1, n), (1, mem), (4, 8 * w)])).updCore n
        (fun c => { c with scrubPos := c.scrubPos.upd mem (· + 2048) })).endScrubPass n mem := by
  simp only [State.scrubCore, hruns, hfresh, Bool.not_true, Bool.false_eq_true, if_false, Bool.not_false,
    List.filter_cons_of_pos, List.filter_nil, List.foldl_nil, List.foldl_cons, List.isEmpty_nil, if_true]
  rfl

theorem State.scrubCore_core {s : State} {n mem w : Nat} (hruns : (s.cores.get n).scrubbing.get mem = true)
    (hfresh : (s.cores.get n).poison.get (memBase mem / 8 + w) = false) :
    ∃ passes, (s.scrubCore n mem [] [w]).cores.get n = { (s.cores.get n).poisonWord mem w with
      scrubPos := (s.cores.get n).scrubPos.upd mem (· + 2048), scrubbing := passes } := by
  rw [State.scrubCore_fresh hruns hfresh]
  obtain ⟨passes, hcore⟩ := State.endScrubPass_core _ n mem
  refine ⟨passes, hcore.trans ?_⟩
  simp [State.logLimited, Core.poisonWord]

/-- A cluster memory with a word written 0, poisoned and shown in the error address (R279). -/
def Cluster.poisonWord (x : Cluster) (w : Nat) : Cluster :=
  { x with mem := x.mem.store (8 * w) (List.replicate 8 0), poison := x.poison.put w true, errAddr := clmErr 3 (8 * w) }

/-- Whether or not the read is the last of its pass, it is only the pass that may have ended. -/
theorem State.scrubCluster_cluster {s : State} {n w : Nat} (hruns : (s.clusters.get n).scrubbing = true)
    (hfresh : (s.clusters.get n).poison.get w = false) :
    ∃ runs, (s.scrubCluster n [] [w]).clusters.get n = { (s.clusters.get n).poisonWord w with
      scrubPos := (s.clusters.get n).scrubPos + 256, scrubbing := runs } := by
  simp only [State.scrubCluster, hruns, hfresh, Bool.not_true, Bool.false_eq_true, if_false, Bool.not_false,
    List.filter_cons_of_pos, List.filter_nil, List.foldl_nil, List.foldl_cons, List.isEmpty_nil, if_true]
  split
  · exact ⟨true, by simp [State.logLimited, Cluster.poisonWord, hruns]⟩
  · exact ⟨false, by simp [State.logLimited, Cluster.poisonWord]⟩

/-! ### Uncorrectable reads (R282) -/

@[simp] theorem State.dropStrikes_cores (s : State) (n : Nat) : (s.dropStrikes n).cores = s.cores := by
  unfold State.dropStrikes
  exact foldl_keeps (fun t : State => t.cores = s.cores) _ (fun t a h => (t.updArr_cores n a _).trans h) _ _ rfl

/-- A core that waits for its restore with nothing in flight (R282). -/
def Core.restarting (c : Core) (err : Nat) : Core :=
  { c with
    errAddr := err, flights := [], jobs := [], redOut := [], replaying := false, restarted := true, restartedOnce := true
    org := .restoring }

/-- The first uncorrectable read since the last mirror of a core that is at work. -/
theorem exec_scratchpadRestart_restarts {s : State} {n : Nat} (mem off : Nat) (hserves : (s.cores.get n).retired = false)
    (horg : (s.cores.get n).org = .normal ∨ (s.cores.get n).org = .draining)
    (hfirst : (s.cores.get n).restartedOnce = false) :
    ∃ t, exec (.scratchpadRestart n mem off) s = .next t ∧
      t.cores.get n = (s.cores.get n).restarting (spmErr 2 mem off) := by
  obtain ⟨hrestoring, hfree, hunified⟩ : (s.cores.get n).org ≠ .restoring ∧ (s.cores.get n).org ≠ .free ∧
      (s.cores.get n).org ≠ .unified := by
    obtain h | h := horg <;> simp [h]
  simp [exec_scratchpadRestart, execScratchpadRestart, hserves, hfirst, hrestoring, hfree, hunified, Core.restarting]

/-- A core that runs no layers has nothing to restart: it counts the read and shows it in the error address. -/
theorem exec_scratchpadRestart_shows {s : State} {n : Nat} (mem off : Nat) (hserves : (s.cores.get n).retired = false)
    (horg : (s.cores.get n).org = .free ∨ (s.cores.get n).org = .unified) :
    exec (.scratchpadRestart n mem off) s =
      .next ((s.count (Reg.SPM_UE n)).updCore n (fun c => { c with errAddr := spmErr 2 mem off })) := by
  obtain h | h := horg <;> simp [exec_scratchpadRestart, execScratchpadRestart, hserves, h]

/-! ### Restores (R286) -/

/-- A core with what a mirror bank holds (R286, R516). -/
def Core.restored (c : Core) (b : Mirror) (fault : Bool) : Core :=
  { c with
    spm := memSetOpndBytes {} b.range b.input, poison := {}, threads := b.threads, evc := b.evc, level := b.level
    widths := b.widths, regions := b.regions.mapVals (fun _ r => { r with owner := {} }), barrier := none, held := false
    flights := [], jobs := [], groups := if fault then {} else c.groups, layer := b.layer, replaying := false
    recentMoves := b.xfers.filter (fun x => !x.isLoad), redOut := []
    org := if c.unifyPending then .draining else .normal
    skipSig := if fault then c.ledSig else c.skipSig, skipMov := if fault then c.ledMov else c.skipMov }

/-- A restore from a good bank without transfers to repeat. -/
theorem State.restore_good {s : State} {n bank : Nat} {b : Mirror} (fault : Bool)
    (hlatest : (s.cores.get n).latest = some (b, bank)) (hgood : s.bankBad b bank = false) (hxfers : b.xfers = []) :
    s.restore n fault =
      ((if fault then s.dropStrikes n else s).updCore n (fun c => c.restored b fault)).wake n := by
  simp only [State.restore, hlatest, hgood, hxfers, Bool.false_eq_true, if_false, List.filter_nil, List.foldl_nil,
    Core.restored]

/-- The threads may then wake, so the rest of the core is what the bank gives it. -/
theorem exec_restoreComplete_bare {s : State} {n bank : Nat} {b : Mirror} (horg : (s.cores.get n).org = .restoring)
    (hserves : (s.cores.get n).retired = false) (hlatest : (s.cores.get n).latest = some (b, bank))
    (hgood : s.bankBad b bank = false) (hxfers : b.xfers = []) :
    ∃ t, exec (.restoreComplete n) s = .next t ∧ (t.cores.get n).bare =
      { ((s.cores.get n).restored b (s.cores.get n).restarted).bare with testHold := false } := by
  have hends : ¬((s.cores.get n).org ≠ .restoring ∨ (s.cores.get n).retired) := by simp [horg, hserves]
  refine ⟨_, (exec_restoreComplete n s).trans (if_neg hends), ?_⟩
  rw [State.restore_good _ hlatest hgood hxfers, State.cores_updCore]
  have hwake := State.bare_wake ((if (s.cores.get n).restarted then s.dropStrikes n else s).updCore n
    (fun c => c.restored b (s.cores.get n).restarted)) n n
  have hdrop : (if (s.cores.get n).restarted then s.dropStrikes n else s).cores = s.cores := by
    split
    · exact s.dropStrikes_cores n
    · rfl
  rw [State.cores_updCore, hdrop] at hwake
  exact congrArg (fun c : Core => { c with testHold := false }) hwake

/-! ### Changes of organisation (R287, Table 9-10) -/

section
variable {s : State} {n : Nat} (q : Port)

theorem State.unify_normal (huntested : (s.cores.get n).testHold = false) (horg : (s.cores.get n).org = .normal) :
    s.unify n q = s.updCore n (fun c => { c with org := .draining, unifyPending := true, unifyCancelled := false }) := by
  simp [State.unify, huntested, horg]

theorem State.unify_free (huntested : (s.cores.get n).testHold = false) (horg : (s.cores.get n).org = .free) :
    s.unify n q = s.spmBad n 1 q := by
  simp [State.unify, huntested, horg]

theorem State.resume_draining (huntested : (s.cores.get n).testHold = false) (horg : (s.cores.get n).org = .draining) :
    s.resume n q = s.cancelUnify n 0 := by
  simp [State.resume, huntested, horg]

theorem State.resume_unified (huntested : (s.cores.get n).testHold = false) (horg : (s.cores.get n).org = .unified) :
    s.resume n q =
      (s.updCore n (fun c => { c with org := .restoring, unifyPending := false })).count (Reg.SPM_RESTORES n) := by
  simp [State.resume, huntested, horg]

theorem State.resume_refused (huntested : (s.cores.get n).testHold = false)
    (horg : (s.cores.get n).org = .normal ∨ (s.cores.get n).org = .free ∨ (s.cores.get n).org = .restoring) :
    s.resume n q = s.spmBad n 2 q := by
  obtain h | h | h := horg <;> simp [State.resume, huntested, h]
end

theorem exec_unifiedEntry_enters {s : State} {n : Nat} (horg : (s.cores.get n).org = .draining)
    (hheld : (s.cores.get n).held = true) (hflights : (s.cores.get n).flights = [])
    (hserves : (s.cores.get n).retired = false) :
    exec (.unifiedEntry n) s = .next (s.updCore n (fun c => { c with org := .unified, unifyPending := false })) := by
  simp [exec_unifiedEntry, execUnifiedEntry, horg, hheld, hflights, hserves]

/-- Settles O30, one event of chapter 9 at a time. -/
theorem scratchpadEvents : Obligations.ScratchpadEvents := by
  refine ⟨?passStart, ?read, ?restart, ?restore, ?organisation, ?unified⟩
  case passStart =>
    intro s n mem
    refine ⟨fun hawake => ⟨_, exec_scrubPassStart_core mem hawake, ?_⟩,
      fun hawake => ⟨_, exec_scrubPassStart_cluster mem hawake, ?_⟩⟩ <;> simp
  case read =>
    intro s n mem w
    refine ⟨fun hawake hruns hfresh => ⟨_, exec_scrubRead_core mem [] [w] hawake, ?_⟩,
      fun hawake hruns hfresh => ⟨_, exec_scrubRead_cluster mem [] [w] hawake, ?_⟩⟩
    · obtain ⟨passes, hcore⟩ := State.scrubCore_core hruns hfresh
      simp [hcore, Core.poisonWord]
    · obtain ⟨runs, hcluster⟩ := State.scrubCluster_cluster hruns hfresh
      simp [hcluster, Cluster.poisonWord]
  case restart =>
    intro s n mem off hserves
    refine ⟨fun horg hfirst => ?_, exec_scratchpadRestart_shows mem off hserves⟩
    obtain ⟨t, hexec, hcore⟩ := exec_scratchpadRestart_restarts mem off hserves horg hfirst
    exact ⟨t, hexec, by simp [hcore, Core.restarting]⟩
  case restore =>
    intro s n bank b horg hserves hlatest hgood hxfers
    obtain ⟨t, hexec, hbare⟩ := exec_restoreComplete_bare horg hserves hlatest hgood hxfers
    exact ⟨t, hexec, congrArg Core.spm hbare, congrArg Core.layer hbare, congrArg Core.evc hbare, congrArg Core.level hbare,
      congrArg Core.barrier hbare, congrArg Core.flights hbare, congrArg Core.org hbare⟩
  case organisation =>
    intro s n q huntested
    simp only [exec_unify, execUnify, exec_resume, execResume]
    refine ⟨fun horg => ?_, fun horg => ?_, fun horg => ?_, fun horg => ?_, fun horg => ?_⟩
    · exact ⟨_, rfl, by simp [State.unify_normal q huntested horg]⟩
    · rw [State.unify_free q huntested horg, State.spmBad]
    · exact ⟨_, rfl, by simp [State.resume_draining q huntested horg, State.cancelUnify]⟩
    · exact ⟨_, rfl, by simp [State.resume_unified q huntested horg]⟩
    · rw [State.resume_refused q huntested horg, State.spmBad]
  case unified =>
    intro s n horg hheld hflights hserves
    exact ⟨_, exec_unifiedEntry_enters horg hheld hflights hserves, by simp⟩

end Sys2Proof.Machine
end

section
/-!
Spills over the far tier (11, R333–R336): what a spill that completes writes out, what a restore that completes brings back,
and what a failed leg leaves.
-/
namespace Sys2Proof.Machine
open Sys2Proof Sys2Proof.Claims

/-! ### Sequences and their entries of the spill index -/

@[simp] theorem State.seq_updSeq (s : State) (i q : Nat) (f : Seq → Seq) : (s.updSeq i q f).seq i q = f (s.seq i q) :=
  Map.get_upd_self ..

@[simp] theorem State.updSeq_spill (s : State) (i q j r : Nat) (f : Seq → Seq) : (s.updSeq i q f).spill j r = s.spill j r :=
  rfl
@[simp] theorem State.updSeq_log (s : State) (i q : Nat) (f : Seq → Seq) : (s.updSeq i q f).log = s.log := rfl
@[simp] theorem State.updSpill_log (s : State) (i q : Nat) (f : Spill → Spill) : (s.updSpill i q f).log = s.log := rfl

@[simp] theorem State.spill_updSpill (s : State) (i q : Nat) (f : Spill → Spill) :
    (s.updSpill i q f).spill i q = f (s.spill i q) := Map.get_upd_self ..

@[simp] theorem State.spill_spillCancel (s : State) (i q : Nat) : (s.spillCancel i q).spill i q = {} := Map.get_put_self ..
@[simp] theorem State.spillCancel_log (s : State) (i q : Nat) : (s.spillCancel i q).log = s.log := rfl

theorem State.spill_congr {s t : State} (h : t.spills = s.spills) (i q : Nat) : t.spill i q = s.spill i q := by
  unfold State.spill
  rw [h]

theorem State.planOf_congr {s t : State} (h : t.img = s.img) (i : Nat) : t.planOf i = s.planOf i := by
  unfold State.planOf
  rw [h]

/-! ### A spill completes (R333) -/

/-- Outputs that do not depend on what has been sent go out in order, and nothing else changes. -/
theorem State.foldl_emit {α : Type} {g : State → α → Out} (hg : ∀ s o x, g (State.emit s o) x = g s x) (l : List α)
    (s : State) : l.foldl (fun s x => s.emit (g s x)) s = { s with out := s.out ++ l.map (g s) } := by
  induction l generalizing s with
  | nil => simp
  | cons x l ih =>
    have hrest : l.map (g (s.emit (g s x))) = l.map (g s) := List.map_congr_left fun y _ => hg s (g s x) y
    rw [List.foldl_cons, ih, hrest]
    simp [State.emit]

/-- The write of a spill's unit `w`, on its leg (R331, R333). -/
def State.spillLeg (i p : Nat) (s : State) (w : (Nat × List Byte) × Nat) : Out :=
  .hostWrite (s.legPort i p w.2) (s.farAddr i w.1.1) w.1.2

theorem State.spillLeg_emit (i p : Nat) (s : State) (o : Out) (w : (Nat × List Byte) × Nat) :
    State.spillLeg i p (s.emit o) w = State.spillLeg i p s w := rfl

/-- The state once the units of a spill are written. -/
def State.spillSent (s : State) (i q p : Nat) : State :=
  { s with out := s.out ++ (s.spillWrites i q).zipIdx.map (State.spillLeg i p s) }

/-- The counters of a completed spill. -/
def State.spillCounted (s : State) (i q : Nat) (t : State) : State :=
  (t.count64By Reg.FTR_BYTES_OUT ((s.spillWrites i q).map (fun w => w.2.length)).sum).count Reg.FTR_SPILLS

/-- The sequence is marked spilled in the spill index, in its pages and in its run. -/
def State.markSpilled (s : State) (i q : Nat) : State :=
  let s := s.updSpill i q (fun x => { x with phase := .done })
  let s := { s with kvSeqs := s.kvSeqs.upd (seqKey i q) (fun k => { k with state := .spilled }) }
  s.updSeq i q (fun x => { x with state := .spilled })

@[simp] theorem State.spill_markSpilled (s : State) (i q : Nat) :
    (s.markSpilled i q).spill i q = { s.spill i q with phase := .done } := State.spill_updSpill ..

@[simp] theorem State.seq_markSpilled (s : State) (i q : Nat) :
    (s.markSpilled i q).seq i q = { s.seq i q with state := .spilled } := State.seq_updSeq ..

@[simp] theorem State.kvSeq_markSpilled (s : State) (i q : Nat) :
    (s.markSpilled i q).kvSeqs.get (seqKey i q) = { s.kvSeqs.get (seqKey i q) with state := .spilled } :=
  Map.get_upd_self ..

@[simp] theorem State.markSpilled_out (s : State) (i q : Nat) : (s.markSpilled i q).out = s.out := rfl
@[simp] theorem State.spillCounted_out (s : State) (i q : Nat) (t : State) : (s.spillCounted i q t).out = t.out := rfl

theorem exec_spillComplete_writes {s : State} {i q p : Nat} (hspilling : (s.spill i q).phase = .spilling)
    (hport : s.farPort i = some p) :
    exec (.spillComplete i q) s = .next ((s.spillCounted i q (s.spillSent i q p)).markSpilled i q) := by
  have hsent := State.foldl_emit (State.spillLeg_emit i p) (s.spillWrites i q).zipIdx s
  rw [exec_spillComplete, execSpillComplete, hspilling, hport]
  unfold State.spillSent
  rw [← hsent]
  rfl

/-! ### A restore completes (R334) -/

@[simp] theorem State.frameBack_img (s : State) (i f : Nat) (bs : List Byte) : (s.frameBack i f bs).img = s.img :=
  (State.frameBack_follows rfl (State.Follows.refl 2147483648 s)).at State.img 12 State.reset.img (fun _ => rfl) rfl

@[simp] theorem State.writePte_img (s : State) (i q pg e : Nat) : (s.writePte i q pg e).img = s.img :=
  (State.writePte_follows rfl (State.Follows.refl 2147483664 s)).at State.img 12 State.reset.img (fun _ => rfl) rfl

@[simp] theorem State.stagedBack_img (s : State) (i q n : Nat) (bs : List Byte) : (s.stagedBack i q n bs).img = s.img :=
  (State.stagedBack_follows rfl (State.Follows.refl 2147483648 s)).at State.img 12 State.reset.img (fun _ => rfl) rfl

/-- The part that `partsAt` gives each part of a sequence (R345): its staging page and the mask of the rows staged. -/
def stagedPart (b len : Nat) : Part :=
  { stg := b / 16 + (len - b) / 16, mask := BitVec.ofNat 32 (rowBits false 0 (len % 16) ||| rowBits true 0 (len % 16)) }

/-- Every part of the sequence takes its staging page and mask. -/
theorem State.parts_partsAt (s : State) (i q b len : Nat) {j : Nat} (hj : j < (s.planOf i).subs) :
    (s.partsAt i q b len).parts.get (partKey i q j) = stagedPart b len := by
  have hall : (s.partsAt i q b len).parts =
      s.parts.updAll ((List.range (s.planOf i).subs).map (partKey i q)) (fun _ _ => stagedPart b len) := by
    rw [Map.updAll, List.foldl_map]
    rfl
  rw [hall, Map.get_updAll (f := fun _ _ => stagedPart b len) fun _ _ => rfl,
    if_pos (List.mem_map_of_mem (List.mem_range.mpr hj))]

/-- The frames and the page-table entries of a restore are written (R334 actions 2 and 3). -/
def State.framesRestored (s : State) (i q : Nat) (bytes : List Byte) : State :=
  (s.spill i q).frames.zipIdx.foldl (fun (t : State) (fk : Nat × Nat) =>
    (t.frameBack i fk.1 (sliceBytes bytes (frameBytes (s.planOf i) * fk.2) (frameBytes (s.planOf i)))).writePte i q
      ((s.seq i q).b / 16 + fk.2) (2 ^ 30 + fk.1)) s

/-- The frames and the staged tokens of a restore are in place. -/
def State.bytesRestored (s : State) (i q : Nat) (bytes : List Byte) : State :=
  (s.framesRestored i q bytes).stagedBack i q (s.spill i q).staged
    (bytes.drop ((s.spill i q).pages * frameBytes (s.planOf i)))

/-- Neither the frames nor the staged tokens change the image, so the plan in force stays. -/
theorem State.planOf_bytesRestored (s : State) (i q j : Nat) (bytes : List Byte) :
    (s.bytesRestored i q bytes).planOf j = s.planOf j := by
  refine State.planOf_congr ?_ j
  rw [State.bytesRestored, State.stagedBack_img]
  exact State.foldl_at State.img (fun _ _ => (State.writePte_img ..).trans (State.frameBack_img ..)) _ s

/-- The bytes are counted, the units are free and the sequence is active (R334 action 4). -/
def State.endRestore (s : State) (i q n : Nat) : State :=
  (((s.count64By Reg.FTR_BYTES_IN n).count Reg.FTR_RESTORES).spillCancel i q).updSeq i q
    (fun x => { x with state := .active })

@[simp] theorem State.endRestore_spill (s : State) (i q n : Nat) : (s.endRestore i q n).spill i q = {} :=
  State.spill_spillCancel ..

@[simp] theorem State.endRestore_active (s : State) (i q n : Nat) : ((s.endRestore i q n).seq i q).state = .active :=
  congrArg Seq.state (State.seq_updSeq ..)

@[simp] theorem State.endRestore_parts (s : State) (i q n : Nat) : (s.endRestore i q n).parts = s.parts := rfl

theorem exec_spillRestoreComplete_restores {s : State} {i q : Nat} {bytes : List Byte}
    (hrestoring : (s.spill i q).phase = .restoring)
    (hlength : bytes.length = (s.spill i q).pages * frameBytes (s.planOf i) +
      (s.planOf i).subs * 4 * (s.planOf i).headDim * (s.spill i q).staged) :
    exec (.spillRestoreComplete i q bytes) s =
      .next (((s.bytesRestored i q bytes).partsAt i q (s.seq i q).b (s.seq i q).len).endRestore i q bytes.length) := by
  rw [exec_spillRestoreComplete, execSpillRestoreComplete, hlength]
  simp only [hrestoring, ne_eq, not_true_eq_false, or_self, if_false]
  rfl

/-! ### A leg fails (R336) -/

/-- What each failed leg counts and logs. -/
def State.legFails (s : State) (i port cause : Nat) : State :=
  (s.count Reg.FTR_ERRORS).logEvent 0x6702 [(1, i), (1, port), (1, cause)]

@[simp] theorem State.legFails_spill (s : State) (i q j port cause : Nat) : (s.legFails i port cause).spill j q = s.spill j q :=
  State.spill_congr (by simp [State.legFails]) j q

theorem State.farFailed_spilling {s : State} {i q : Nat} (port cause : Nat) (hspilling : (s.spill i q).phase = .spilling) :
    s.farFailed i q port cause =
      ((s.legFails i port cause).spillCancel i q).updSeq i q (fun x => { x with state := .paused }) := by
  rw [State.farFailed, hspilling]
  rfl

theorem State.farFailed_restoring {s : State} {i q : Nat} (port cause : Nat)
    (hrestoring : (s.spill i q).phase = .restoring) :
    s.farFailed i q port cause = (s.legFails i port cause).updSpill i q (fun x => { x with again := true }) := by
  rw [State.farFailed, hrestoring]
  rfl

/-- Settles O32: the spill, the restore, and last the failed leg, which either command reports with its cause. The layout
of what a spill writes is `spillWrites` (log entry 18). -/
theorem spills : Obligations.Spills := by
  refine ⟨?spill, ?restore, ?fails⟩
  case spill =>
    intro s i q p hspilling hport
    refine ⟨_, exec_spillComplete_writes hspilling hport, ?_, ?_, ?_, ?_⟩
    · rw [State.spill_markSpilled]
    · rw [State.seq_markSpilled]
    · rw [State.kvSeq_markSpilled]
    · rw [State.markSpilled_out, State.spillCounted_out]
      rfl
  case restore =>
    intro s i q bytes hrestoring hlength
    refine ⟨_, exec_spillRestoreComplete_restores hrestoring hlength, State.endRestore_spill .., State.endRestore_active ..,
      fun j hj => ?_⟩
    rw [← State.planOf_bytesRestored s i q i bytes] at hj
    rw [State.endRestore_parts]
    exact State.parts_partsAt _ i q _ _ hj
  case fails =>
    intro s i q port cause c hc
    have hfails : exec c s = .next (s.farFailed i q port cause) := by
      simp only [List.mem_cons, Prod.mk.injEq, List.not_mem_nil, or_false] at hc
      obtain ⟨rfl, rfl⟩ | ⟨rfl, rfl⟩ := hc
      · exact exec_farTierLegError ..
      · exact exec_farTierLinkWaitTimeout ..
    refine ⟨fun hspilling => ⟨_, hfails, ?_⟩, fun hrestoring => ⟨_, hfails, ?_⟩⟩
    · rw [State.farFailed_spilling port cause hspilling]
      refine ⟨by simp, by simp, ?_⟩
      rw [State.updSeq_log, State.spillCancel_log, State.legFails]
    · rw [State.farFailed_restoring port cause hrestoring]
      refine ⟨by simp, ?_⟩
      rw [State.updSpill_log, State.legFails]

end Sys2Proof.Machine
end

section
/-!
The key-value cache in the pedestals (12, R348, R352, R356): what a completed flush leaves, a fetched line of the page walker
and a prefetched half of a page.
-/
namespace Sys2Proof.Machine
open Sys2Proof Sys2Proof.Claims

/-! ### The flush of a part (R348) -/

@[simp] theorem State.pedCount_peds (s : State) (p off k : Nat) (wide : Bool) : (s.pedCount p off k wide).peds = s.peds :=
  (State.pedCount_follows rfl (State.Follows.refl 16 s)).at State.peds 31 State.reset.peds (fun _ => rfl) rfl

@[simp] theorem State.pedCount_parts (s : State) (p off k : Nat) (wide : Bool) : (s.pedCount p off k wide).parts = s.parts :=
  (State.pedCount_follows rfl (State.Follows.refl 16 s)).at State.parts 33 State.reset.parts (fun _ => rfl) rfl

@[simp] theorem State.writeSub_parts (s : State) (i j : Nat) (pfx : Bool) (f : Nat) (k v : List Nat) :
    (s.writeSub i j pfx f k v).parts = s.parts :=
  (State.writeSub_follows rfl (State.Follows.refl 2147483664 s)).at State.parts 33 State.reset.parts (fun _ => rfl) rfl

/-- The key rows and then the value rows that a part holds staged (R345). -/
def State.partRows (s : State) (i q j : Nat) : List Nat :=
  bf16s ((s.peds.get ((s.planOf i).stackOf j).1).planRead i
    ((s.planOf i).partAddr ((s.planOf i).stackOf j).1 q ((s.planOf i).stackOf j).2) (64 * (s.planOf i).headDim))

/-- A flush writes the stacks with its rows, quantised, and nothing more. -/
theorem State.flushInto_peds (s : State) (i q j f : Nat) :
    (s.flushInto i q j f).peds = (s.writeSub i j false f ((s.partRows i q j).take (16 * (s.planOf i).headDim))
      ((s.partRows i q j).drop (16 * (s.planOf i).headDim))).peds :=
  State.pedCount_peds ..

theorem State.flushInto_parts (s : State) (i q j f : Nat) : (s.flushInto i q j f).parts =
    s.parts.put (partKey i q j) { stg := (s.parts.get (partKey i q j)).stg + 1, mask := 0 } := by
  rw [State.flushInto]
  simp only [State.pedCount_parts, State.writeSub_parts]

@[simp] theorem State.flushInto_flushing (s : State) (i q j f : Nat) : (s.flushInto i q j f).flushing = s.flushing :=
  (State.flushInto_follows rfl (State.Follows.refl 10737418256 s)).at State.flushing 38 State.reset.flushing (fun _ => rfl) rfl

@[simp] theorem State.flushInto_msgs (s : State) (i q j f : Nat) : (s.flushInto i q j f).msgs = s.msgs :=
  (State.flushInto_follows rfl (State.Follows.refl 10737418256 s)).at State.msgs 25 State.reset.msgs (fun _ => rfl) rfl

@[simp] theorem State.flushInto_out (s : State) (i q j f : Nat) : (s.flushInto i q j f).out = s.out :=
  (State.flushInto_follows rfl (State.Follows.refl 10737418256 s)).at State.out 3 State.reset.out (fun _ => rfl) rfl

/-- The part's flush is over, and the write that completed the part is acknowledged (Table 12-5). -/
def State.endFlush (s : State) (key id : Nat) : State :=
  { s with
    flushing := s.flushing.put key none
    msgs := s.msgs.map (fun x => if x.id = id then { x with resp := some .ack } else x)
    out := s.out ++ [.fabric .ack [id]] }

@[simp] theorem State.endFlush_peds (s : State) (key id : Nat) : (s.endFlush key id).peds = s.peds := rfl
@[simp] theorem State.endFlush_parts (s : State) (key id : Nat) : (s.endFlush key id).parts = s.parts := rfl
@[simp] theorem State.endFlush_flushing (s : State) (key id : Nat) :
    (s.endFlush key id).flushing = s.flushing.put key none := rfl
@[simp] theorem State.endFlush_msgs (s : State) (key id : Nat) :
    (s.endFlush key id).msgs = s.msgs.map (fun x => if x.id = id then { x with resp := some .ack } else x) := rfl
@[simp] theorem State.endFlush_out (s : State) (key id : Nat) :
    (s.endFlush key id).out = s.out ++ [.fabric .ack [id]] := rfl

theorem exec_kvFlushComplete_flushes {s : State} {i q j id f : Nat} (hflushing : s.flushing.get (partKey i q j) = some id)
    (hframe : s.kvFrame i q (s.parts.get (partKey i q j)).stg = some f) :
    exec (.kvFlushComplete i q j) s = .next ((s.flushInto i q j f).endFlush (partKey i q j) id) := by
  rw [exec_kvFlushComplete, execKvFlushComplete, State.flushDone]
  simp only [hflushing, hframe]
  rfl

/-! ### Line fetches and prefetches (R352, R356) -/

theorem exec_walkerLineFetch_oldest {s : State} {p a : Nat} {r : List Nat} (hfetching : (s.peds.get p).fetching = a :: r) :
    exec (.walkerLineFetch p) s =
      .next (s.updPed p (fun x => { x with fetching := r, lab := (a :: x.lab.erase a).take 256 })) := by
  rw [exec_walkerLineFetch, execWalkerLineFetch, hfetching]

/-- The thread's page buffer takes the half that was prefetched, if any. -/
def EngThread.takeHalf (e : EngThread) (value : Bool) : EngThread :=
  if value then (if e.nextV.isSome then { e with bufV := e.nextV, nextV := none } else e)
  else (if e.nextK.isSome then { e with bufK := e.nextK, nextK := none } else e)

theorem EngThread.takeHalf_key {e : EngThread} (h : e.nextK.isSome = true) :
    e.takeHalf false = { e with bufK := e.nextK, nextK := none } := if_pos h

theorem EngThread.takeHalf_value {e : EngThread} (h : e.nextV.isSome = true) :
    e.takeHalf true = { e with bufV := e.nextV, nextV := none } := if_pos h

theorem exec_pageBufferPrefetch_takeHalf (p th : Nat) (value : Bool) (s : State) : ∃ t,
    exec (.pageBufferPrefetch p th value) s = .next t ∧
      t.engines.get (engKey p th) = (s.engines.get (engKey p th)).takeHalf value :=
  ⟨_, exec_pageBufferPrefetch p th value s, Map.get_upd_self ..⟩

/-- Settles O28: the flush by what `flushInto` and `endFlush` change, the fetched line and the prefetched half by the one
record each of them updates. -/
theorem keyValueFlush : Obligations.KeyValueFlush := by
  refine ⟨?flush, ?line, ?half⟩
  case flush =>
    intro s i q j id f key hflushing hframe
    refine ⟨_, exec_kvFlushComplete_flushes hflushing hframe, ?peds, ?part, ?ended, ?others, ?out, ?msgs⟩
    case peds => rw [State.endFlush_peds, State.flushInto_peds]; rfl
    case part => rw [State.endFlush_parts, State.flushInto_parts, Map.get_put_self]
    case ended => rw [State.endFlush_flushing, Map.get_put_self]
    case others =>
      intro k hk
      rw [State.endFlush_flushing, Map.get_put_ne _ _ hk, State.flushInto_flushing, State.endFlush_parts,
        State.flushInto_parts, Map.get_put_ne _ _ hk]
      exact ⟨rfl, rfl⟩
    case out => rw [State.endFlush_out, State.flushInto_out]
    case msgs => rw [State.endFlush_msgs, State.flushInto_msgs]
  case line =>
    intro s p a r hfetching
    have hself : (s.updPed p (fun x => { x with fetching := r, lab := (a :: x.lab.erase a).take 256 })).peds.get p =
        { s.peds.get p with fetching := r, lab := (a :: (s.peds.get p).lab.erase a).take 256 } := Map.get_upd_self ..
    exact ⟨_, exec_walkerLineFetch_oldest hfetching, by rw [hself], by rw [hself], fun k hk => Map.get_upd_ne _ _ hk⟩
  case half =>
    intro s p th e
    refine ⟨fun hnext => ?_, fun hnext => ?_⟩
    · obtain ⟨t, ht, hthread⟩ := exec_pageBufferPrefetch_takeHalf p th false s
      rw [EngThread.takeHalf_key hnext] at hthread
      exact ⟨t, ht, by simp [hthread, e]⟩
    · obtain ⟨t, ht, hthread⟩ := exec_pageBufferPrefetch_takeHalf p th true s
      rw [EngThread.takeHalf_value hnext] at hthread
      exact ⟨t, ht, by simp [hthread, e]⟩

end Sys2Proof.Machine
end

section
/-!
Prefix slots (12, R364–R366): what a load, an unload, the end of a load and its failure leave, one lemma for each row of
Table 12-8 that they answer.
-/
namespace Sys2Proof

/-- Setting one value at each of a list of keys leaves that value there. -/
theorem Map.get_foldl_put {α : Type} [Inhabited α] [DecidableEq α] (m : Map α) (v : α) {ks : List Nat} {k : Nat}
    (h : k ∈ ks) : (ks.foldl (fun u j => u.put j v) m).get k = v :=
  (Map.get_updAll (f := fun _ _ => v) (fun _ _ => rfl) m ks k).trans (if_pos h)

end Sys2Proof

namespace Sys2Proof.Machine
open Sys2Proof Sys2Proof.Claims

/-! ### A slot and its frames in the pool -/

@[simp] theorem State.updPfx_prefixes (s : State) (k : Nat) (f : Prefix → Prefix) :
    (s.updPfx k f).prefixes = s.prefixes.upd k f := rfl
@[simp] theorem State.updPfx_kvPools (s : State) (k : Nat) (f : Prefix → Prefix) : (s.updPfx k f).kvPools = s.kvPools := rfl

/-- Prefix frames in the pool numbered `i` become used, or free. -/
def State.markPfxFrames (s : State) (i : Nat) (fs : List Nat) (used : Bool) : State :=
  { s with kvPools := s.kvPools.upd i (fun p => { p with pfxUsed := fs.foldl (fun u f => u.put f used) p.pfxUsed }) }

@[simp] theorem State.markPfxFrames_prefixes (s : State) (i : Nat) (fs : List Nat) (used : Bool) :
    (s.markPfxFrames i fs used).prefixes = s.prefixes := rfl

theorem State.pfxUsed_markPfxFrames (s : State) (i : Nat) {fs : List Nat} (used : Bool) {f : Nat} (h : f ∈ fs) :
    ((s.markPfxFrames i fs used).kvPools.get i).pfxUsed.get f = used := by
  rw [State.markPfxFrames, Map.get_upd_self]
  exact Map.get_foldl_put _ used h

@[simp] theorem State.pfxEmpty_prefixes (s : State) (k : Nat) :
    (s.pfxEmpty k).prefixes = s.prefixes.upd k (fun x => { x with state := .empty, frames := [] }) := rfl

/-- The frames of a slot that becomes EMPTY are free. -/
theorem State.pfxUsed_pfxEmpty (s : State) (k : Nat) {f : Nat} (h : f ∈ (s.prefixes.get k).frames) :
    ((s.pfxEmpty k).kvPools.get (s.prefixes.get k).inst).pfxUsed.get f = false :=
  s.pfxUsed_markPfxFrames (s.prefixes.get k).inst false h

@[simp] theorem State.pfxFail_prefixes (s : State) (k i status : Nat) :
    (s.pfxFail k i status).prefixes = s.prefixes.upd k (fun x => { x with lastStatus := status }) :=
  State.logEvent_prefixes ..

@[simp] theorem State.pfxFail_kvPools (s : State) (k i status : Nat) : (s.pfxFail k i status).kvPools = s.kvPools :=
  State.logEvent_kvPools ..

@[simp] theorem State.pfxUnloaded_prefixes (s : State) (k cause : Nat) :
    (s.pfxUnloaded k cause).prefixes = s.prefixes.upd k (fun x => { x with state := .empty, frames := [] }) :=
  State.logEvent_prefixes ..

@[simp] theorem State.pfxUnloaded_kvPools (s : State) (k cause : Nat) :
    (s.pfxUnloaded k cause).kvPools = (s.pfxEmpty k).kvPools :=
  State.logEvent_kvPools ..

/-! ### LOAD and UNLOAD (R366) -/

theorem State.length_freePfxFrames_le (s : State) (i n : Nat) : (s.freePfxFrames i n).length ≤ n := List.length_take_le ..

/-- The slot that a LOAD which is accepted leaves. -/
def Prefix.loadFor (x : Prefix) (i owner len : Nat) (fs : List Nat) : Prefix :=
  { x with state := .loading, inst := i, owner := owner, len := len, frames := fs, refs := 0 }

theorem State.pfxLoad_busy {s : State} {k : Nat} (port : Port) (i : Nat) (hcap : s.hasPrefixes = true)
    (hheld : (s.prefixes.get k).state ≠ .empty) :
    (s.pfxLoad k port i).1 = s.updPfx k (fun x => { x with lastStatus := 1 }) := by
  simp [State.pfxLoad, hcap, hheld]

/-- An accepted LOAD takes the lowest free frames, makes the slot LOADING and asks the host for the image. -/
theorem State.pfxLoad_accepted {s : State} {k i len : Nat} {fs : List Nat} (port : Port)
    (hlen : s.regF (Reg.PFX_LEN k) 10 0 = len) (hframes : s.freePfxFrames i ((len + 15) / 16) = fs)
    (hcap : s.hasPrefixes = true) (hempty : (s.prefixes.get k).state = .empty) (hinst : s.hasInst i = true)
    (hlow : 1 ≤ len) (hhigh : len ≤ 1024) (hroom : (len + 15) / 16 ≤ fs.length) : ∃ o,
    (s.pfxLoad k port i).1 =
      ((s.markPfxFrames i fs true).updPfx k (fun x => x.loadFor i (s.actsAs port) len fs)).emit o := by
  have hlegal : ¬(len = 0 ∨ 1024 < len) := by omega
  simp only [State.pfxLoad, hcap, hempty, hinst, hlen, hframes, hlegal, Nat.not_lt.mpr hroom, Bool.not_true, ne_eq,
    not_true_eq_false, Bool.false_eq_true, if_false]
  exact ⟨_, rfl⟩

theorem State.pfxUnload_free {s : State} {k : Nat} (hcap : s.hasPrefixes = true)
    (hready : (s.prefixes.get k).state = .ready) (hrefs : (s.prefixes.get k).refs = 0) :
    (s.pfxUnload k).1 = s.pfxUnloaded k 0 := by
  simp [State.pfxUnload, hcap, hready, hrefs]

theorem State.pfxUnload_mapped {s : State} {k : Nat} (hcap : s.hasPrefixes = true)
    (hready : (s.prefixes.get k).state = .ready) (hrefs : (s.prefixes.get k).refs ≠ 0) :
    (s.pfxUnload k).1 = s.updPfx k (fun x => { x with state := .draining }) := by
  simp [State.pfxUnload, hcap, hready, hrefs]

theorem State.pfxUnload_draining {s : State} {k : Nat} (hdraining : (s.prefixes.get k).state = .draining) :
    (s.pfxUnload k).1 = s := by
  simp [State.pfxUnload, hdraining]

theorem State.pfxUnload_refused {s : State} {k : Nat} (hcap : s.hasPrefixes = true)
    (hstate : (s.prefixes.get k).state = .empty ∨ (s.prefixes.get k).state = .loading) :
    (s.pfxUnload k).1 = s.updPfx k (fun x => { x with lastStatus := 6 }) := by
  obtain h | h := hstate <;> simp [State.pfxUnload, hcap, h]

theorem State.pfxUnload_prefixes_ne {s : State} {k j : Nat} (hcap : s.hasPrefixes = true) (hj : j ≠ k) :
    (s.pfxUnload k).1.prefixes.get j = s.prefixes.get j := by
  cases hstate : (s.prefixes.get k).state with
  | empty => rw [State.pfxUnload_refused hcap (.inl hstate), State.updPfx_prefixes, Map.get_upd_ne _ _ hj]
  | loading => rw [State.pfxUnload_refused hcap (.inr hstate), State.updPfx_prefixes, Map.get_upd_ne _ _ hj]
  | draining => rw [State.pfxUnload_draining hstate]
  | ready =>
    by_cases hrefs : (s.prefixes.get k).refs = 0
    · rw [State.pfxUnload_free hcap hstate hrefs, State.pfxUnloaded_prefixes, Map.get_upd_ne _ _ hj]
    · rw [State.pfxUnload_mapped hcap hstate hrefs, State.updPfx_prefixes, Map.get_upd_ne _ _ hj]

/-! ### The end of a load and its failure (R365, R366) -/

@[simp] theorem State.writeSub_prefixes (s : State) (i j : Nat) (pfx : Bool) (f : Nat) (k v : List Nat) :
    (s.writeSub i j pfx f k v).prefixes = s.prefixes :=
  (State.writeSub_follows rfl (State.Follows.refl 2147483664 s)).at State.prefixes 35 State.reset.prefixes (fun _ => rfl) rfl

/-- A load that ends writes pages, which no slot is part of, and makes its slot READY. -/
theorem State.pfxLoaded_prefixes {s : State} {k : Nat} {image : List Byte} (hloading : (s.prefixes.get k).state = .loading)
    (hlength : image.length = prefixBytes (s.planOf (s.prefixes.get k).inst) (s.prefixes.get k).len) :
    (s.pfxLoaded k image).prefixes = s.prefixes.upd k (fun x => { x with state := .ready, lastStatus := 0 }) := by
  rw [State.pfxLoaded]
  simp only [hloading, hlength, ne_eq, not_true_eq_false, or_self, if_false, State.finish_prefixes, State.logEvent_prefixes,
    State.updPfx_prefixes]
  congr 1
  exact State.foldl_at State.prefixes
    (fun t _ => State.foldl_at State.prefixes (fun _ _ => State.writeSub_prefixes ..) _ t) _ s

theorem State.pfxFetchFailed_loading {s : State} {k : Nat} (hloading : (s.prefixes.get k).state = .loading) :
    s.pfxFetchFailed k = ((s.pfxEmpty k).pfxFail k (s.prefixes.get k).inst 4).finish 0x30 k 4 := by
  simp [State.pfxFetchFailed, hloading]

theorem State.pfxFetchFailed_idle {s : State} {k : Nat} (hidle : (s.prefixes.get k).state ≠ .loading) :
    s.pfxFetchFailed k = s := if_pos hidle

theorem State.pfxFetchFailed_prefixes {s : State} {k : Nat} (hloading : (s.prefixes.get k).state = .loading) :
    (s.pfxFetchFailed k).prefixes = (s.prefixes.upd k (fun x => { x with state := .empty, frames := [] })).upd k
      (fun x => { x with lastStatus := 4 }) := by
  rw [State.pfxFetchFailed_loading hloading, State.finish_prefixes, State.pfxFail_prefixes, State.pfxEmpty_prefixes]

theorem State.pfxFetchFailed_kvPools {s : State} {k : Nat} (hloading : (s.prefixes.get k).state = .loading) :
    (s.pfxFetchFailed k).kvPools = (s.pfxEmpty k).kvPools := by
  rw [State.pfxFetchFailed_loading hloading, State.finish_kvPools, State.pfxFail_kvPools]

/-- Settles O52: each command by the slot and the pool that its row of Table 12-8 leaves. That an UNLOAD which succeeds leaves
last_status is log entry 93. -/
theorem prefixSlots : Obligations.PrefixSlots := by
  refine ⟨?load, ?unload, ?complete, ?fails⟩
  case load =>
    intro s k i port x len fs hcap
    refine ⟨fun hempty hinst hlow hhigh hroom => ?_, fun hheld => ?_⟩
    · obtain ⟨o, hload⟩ := State.pfxLoad_accepted port rfl rfl hcap hempty hinst hlow hhigh hroom
      have hslots : (s.pfxLoad k port i).1.prefixes = s.prefixes.upd k (fun x => x.loadFor i (s.actsAs port) len fs) := by
        rw [hload]; rfl
      have hslot : (s.pfxLoad k port i).1.prefixes.get k = x.loadFor i (s.actsAs port) len fs := by
        rw [hslots, Map.get_upd_self]
      refine ⟨_, exec_pfxLoad .., ?_⟩
      rw [hslot]
      refine ⟨rfl, rfl, rfl, rfl, Nat.le_antisymm (s.length_freePfxFrames_le i _) hroom, rfl, fun f hf => ?_,
        fun j hj => ?_⟩
      · rw [hload]
        exact s.pfxUsed_markPfxFrames i true hf
      · rw [hslots, Map.get_upd_ne _ _ hj]
    · refine ⟨_, exec_pfxLoad .., ?_⟩
      rw [State.pfxLoad_busy port i hcap hheld, State.updPfx_prefixes, State.updPfx_kvPools]
      exact ⟨Map.get_upd_self .., rfl, fun j hj => Map.get_upd_ne _ _ hj⟩
  case unload =>
    intro s k port x hcap
    refine ⟨_, exec_pfxUnload .., fun j hj => State.pfxUnload_prefixes_ne hcap hj, fun hready hrefs => ?_,
      fun hready hrefs => ?_, fun hstate => ?_⟩
    · rw [State.pfxUnload_free hcap hready hrefs, State.pfxUnloaded_prefixes, State.pfxUnloaded_kvPools, Map.get_upd_self]
      exact ⟨rfl, rfl, fun f hf => s.pfxUsed_pfxEmpty k hf⟩
    · rw [State.pfxUnload_mapped hcap hready hrefs, State.updPfx_prefixes, Map.get_upd_self]
      exact ⟨rfl, rfl⟩
    · rw [State.pfxUnload_refused hcap hstate, State.updPfx_prefixes, Map.get_upd_self]
      exact ⟨rfl, rfl⟩
  case complete =>
    intro s k image x hloading hlength
    refine ⟨_, exec_prefixLoadComplete .., ?_⟩
    rw [State.pfxLoaded_prefixes hloading hlength]
    exact ⟨Map.get_upd_self .., fun j hj => Map.get_upd_ne _ _ hj⟩
  case fails =>
    intro s k x
    refine ⟨fun hloading => ⟨_, exec_prefixFetchError .., exec_prefixFetchTimeout .., ?_⟩, fun hidle => ?_⟩
    · rw [State.pfxFetchFailed_prefixes hloading, State.pfxFetchFailed_kvPools hloading, Map.get_upd_self, Map.get_upd_self]
      refine ⟨rfl, rfl, rfl, fun f hf => s.pfxUsed_pfxEmpty k hf, fun j hj => ?_⟩
      rw [Map.get_upd_ne _ _ hj, Map.get_upd_ne _ _ hj]
    · rw [exec_prefixFetchError, exec_prefixFetchTimeout, execPrefixFetchError, execPrefixFetchTimeout,
        State.pfxFetchFailed_idle hidle]
      exact ⟨rfl, rfl⟩

end Sys2Proof.Machine
end

section
/-!
The step and the frame of every command (95): how the queue drives `exec`, that every command completes, what it leaves
unchanged, and the invariant that every step keeps.
-/
namespace Sys2Proof.Machine
open Sys2Proof Sys2Proof.Claims

/-! ### The step -/

/-- With a command at the front, a step runs it on the state with the queue's rest. -/
theorem step_pending_cons (c : Instr) (rest : List Instr) (s : State) :
    step { s with pending := c :: rest } = exec c { s with pending := rest } := rfl

/-- With no command waiting, a step is a tick of device time (log entry 8). -/
theorem step_of_pending_nil {s : State} (h : s.pending = []) : step s = .next s.tick := by
  rw [step, h]

/-- A step that takes a command runs it on the state with the queue's rest. -/
theorem step_of_pending_cons {s : State} {c : Instr} {rest : List Instr} (h : s.pending = c :: rest) :
    step s = exec c { s with pending := rest } := by
  rw [step, h]

theorem State.tick_running {s : State} (h : s.timeRuns = true) : s.tick = { s with time := (s.time + 1) % 2 ^ 64 } := by
  simp [State.tick, h]

theorem State.tick_stopped {s : State} (h : s.timeRuns = false) : s.tick = s := by
  rw [State.tick, if_neg (h ▸ Bool.false_ne_true)]

/-- Settles O1: a step's arm for a queue that is not empty. -/
theorem stepRunsFrontCommand : Obligations.StepRunsFrontCommand := step_pending_cons

/-- Settles O2, by whether device time runs. -/
theorem idleStepCountsTime : Obligations.IdleStepCountsTime := by
  intro s hidle
  rw [step_of_pending_nil hidle]
  exact ⟨fun hruns => by rw [State.tick_running hruns], fun hstops => by rw [State.tick_stopped hstops]⟩

/-! ### What every command does -/

/-- Settles O5: every arm of the dispatch ends in a next state (`exec_ends`). -/
theorem everyCommandCompletes : Obligations.EveryCommandCompletes := fun c s => (exec_ends c s).runs

/-- Settles O6: a command's next state is the old one outside the mask of what `touches` lists. -/
theorem commandFrame : Obligations.CommandFrame :=
  fun _ _ _ h _ hp => State.agreesAt_of_erase (exec_follows h).same hp

/-! ### The invariant -/

/-- What follows a state keeps the invariant: `State.Follows` carries each of its three components. -/
theorem State.Follows.inv {m : Nat} {s t : State} (h : s.Follows m t) (hs : s.Inv) : t.Inv := by
  obtain ⟨hlog, hring, hregs⟩ := hs
  exact ⟨h.log hlog, h.ring hring, h.regs hregs⟩

/-- The invariant does not speak of the queue. -/
theorem State.inv_pending {s : State} (q : List Instr) (h : s.Inv) : State.Inv { s with pending := q } := h

/-- A tick of device time keeps the invariant. -/
theorem State.tick_inv {s : State} (h : s.Inv) : s.tick.Inv :=
  (State.tick_follows rfl (State.Follows.refl 1 s)).inv h

/-- Settles O4, by whether a command waits: a tick, or a command's next state, which follows the state it ran on. -/
theorem invariantKept : Obligations.InvariantKept := by
  intro s t hinv hstep
  cases hq : s.pending with
  | nil =>
    rw [step_of_pending_nil hq] at hstep
    cases hstep
    exact State.tick_inv hinv
  | cons c rest =>
    rw [step_of_pending_cons hq] at hstep
    exact (exec_follows hstep).inv (State.inv_pending rest hinv)

end Sys2Proof.Machine
end

section
/-!
The weight commands (13, R373–R386, R392): what BIND, UNBIND, LOAD, UNLOAD, SWITCH and RELOAD leave, one lemma for each way
that one of them ends.
-/
namespace Sys2Proof.Machine
open Sys2Proof Sys2Proof.Claims

/-! ### Status and slots (R373, R392) -/

@[simp] theorem State.updWSlot_wslots (s : State) (k : Nat) (f : WSlot → WSlot) :
    (s.updWSlot k f).wslots = s.wslots.upd k f := rfl
@[simp] theorem State.updWSlot_winsts (s : State) (k : Nat) (f : WSlot → WSlot) : (s.updWSlot k f).winsts = s.winsts := rfl
@[simp] theorem State.updWSlot_wloads (s : State) (k : Nat) (f : WSlot → WSlot) : (s.updWSlot k f).wloads = s.wloads := rfl
@[simp] theorem State.updWInst_winsts (s : State) (i : Nat) (f : WInst → WInst) :
    (s.updWInst i f).winsts = s.winsts.upd i f := rfl

/-- A status goes to the slot, but for SWITCH's (R392). -/
theorem State.wldStatus_wslots (s : State) {cmd : Nat} (hcmd : cmd ≠ 5) (k i status : Nat) :
    (s.wldStatus cmd k i status).wslots = s.wslots.upd k (fun x => { x with lastStatus := status, lastInst := i }) := by
  simp only [State.wldStatus, hcmd, if_false]
  split <;> simp

theorem State.wldStatus_winsts (s : State) {cmd : Nat} (hcmd : cmd ≠ 5) (k i status : Nat) :
    (s.wldStatus cmd k i status).winsts = s.winsts := by
  simp only [State.wldStatus, hcmd, if_false]
  split <;> simp

theorem State.wldStatus_wloads (s : State) {cmd : Nat} (hcmd : cmd ≠ 5) (k i status : Nat) :
    (s.wldStatus cmd k i status).wloads = s.wloads := by
  simp only [State.wldStatus, hcmd, if_false]
  split <;> simp

/-- A command that succeeds logs nothing. -/
theorem State.wldStatus_ok (s : State) {cmd : Nat} (hcmd : cmd ≠ 5) (k i : Nat) :
    s.wldStatus cmd k i wOk = s.updWSlot k (fun x => { x with lastStatus := wOk, lastInst := i }) := by
  simp [State.wldStatus, hcmd, wOk]

/-- A read of a slot's package asks only the host. -/
theorem State.readPackage_wslots (s : State) (k off len : Nat) : (s.readPackage k off len).wslots = s.wslots := by
  unfold State.readPackage
  split <;> rfl

theorem State.readPackage_out {s : State} {k p : Nat} (h : s.slotPort k = some p) (off len : Nat) :
    (s.readPackage k off len).out = s.out ++ [.hostRead p ((s.wslots.get k).src + off) len] := by
  simp [State.readPackage, h]

/-! ### BIND and UNBIND (R374) -/

/-- The slot that a BIND which begins leaves. -/
def WSlot.binds (x : WSlot) (src len : Nat) : WSlot := { x with state := 1, pkg := {}, src := src, len := len, stale := false }

/-- A BIND of a slot in use is BUSY. -/
theorem State.wldBind_busy {s : State} {k : Nat}
    (h : (s.wslots.get k).state = 1 ∨ s.slotResident k = true ∨ s.slotLoading k = true) :
    (s.wldBind k).1 = s.wldStatus 1 k 0 wBusy := by
  have hbusy : ((s.wslots.get k).state = 1 || s.slotResident k || s.slotLoading k) = true := by
    simpa [or_assoc] using h
  simp only [State.wldBind, hbusy, if_true, State.wldNow]

/-- A BIND that begins: the slot is BINDING, and the first 256 bytes are read from the address of its registers. -/
theorem State.wldBind_begins {s : State} {k : Nat} (hstate : (s.wslots.get k).state ≠ 1)
    (hresident : s.slotResident k = false) (hloading : s.slotLoading k = false) : ∃ t : State,
    (s.wldBind k).1 = t.readPackage k 0 256 ∧ t.out = s.out ∧ t.slotPort k = s.slotPort k ∧
      t.wslots = s.wslots.upd k (·.binds (s.reg64 (Reg.WLD_SRC_LO k) / 8 * 8) (s.reg64 (Reg.WLD_LEN_LO k))) := by
  simp only [State.wldBind, hstate, hresident, hloading, decide_false, Bool.or_self, Bool.false_eq_true, if_false]
  exact ⟨_, rfl, rfl, rfl, rfl⟩

/-- An UNBIND of a BOUND slot that nothing uses empties it. -/
theorem State.wldUnbind_frees {s : State} {k : Nat} (hstate : (s.wslots.get k).state = 2)
    (hresident : s.slotResident k = false) (hloading : s.slotLoading k = false)
    (hcurrent : ∀ i < 16, s.hasInst i = true → (s.winsts.get i).current ≠ k) :
    (s.wldUnbind k).1 = (s.updWSlot k (fun x => { x with state := 0, pkg := {} })).wldStatus 2 k 0 wOk := by
  have hfree : ((List.range 16).any fun i => s.hasInst i && (s.winsts.get i).current == k) = false := by
    simpa using hcurrent
  simp [State.wldUnbind, State.wldNow, hstate, hresident, hloading, hfree]

/-! ### LOAD and UNLOAD (R376, R377) -/

section
variable {s : State} {k i : Nat}

section
variable (hbound : (s.wslots.get k).state = 2) (hinst : s.hasInst i = true) (hfree : s.loadOf k i = none)
include hbound hinst hfree

/-- A LOAD that passes every check joins the queue. -/
theorem State.wldLoad_queued (hset : ((s.winsts.get i).setOf k).isNone = true) (hchecks : s.loadChecks k i = none)
    (hroom : s.wloads.length < 16) :
    (s.wldLoad k i).1 = { s with wloads := s.wloads ++ [{ slot := k, inst := i, cause := 0 }] } := by
  rw [Option.isNone_iff_eq_none] at hset
  simp [State.wldLoad, State.startLoad, hbound, hinst, hfree, hset, hchecks, Nat.not_le.mpr hroom]

/-- A LOAD of a resident set is OK at once. -/
theorem State.wldLoad_resident (hset : ((s.winsts.get i).setOf k).isSome = true) :
    (s.wldLoad k i).1 = s.wldStatus 3 k i wOk := by
  simp [State.wldLoad, State.startLoad, State.wldNow, hbound, hinst, hfree, hset]

/-- A LOAD that a check fails has that check's status. -/
theorem State.wldLoad_failed {st : Nat} (hset : ((s.winsts.get i).setOf k).isNone = true)
    (hchecks : s.loadChecks k i = some st) : (s.wldLoad k i).1 = (s.keyMissing k st).wldStatus 3 k i st := by
  rw [Option.isNone_iff_eq_none] at hset
  simp [State.wldLoad, State.startLoad, State.wldNow, hbound, hinst, hfree, hset, hchecks]

end

/-- A missing key is only logged. -/
theorem State.keyMissing_weights (s : State) (k st : Nat) : (s.keyMissing k st).wslots = s.wslots ∧
    (s.keyMissing k st).winsts = s.winsts ∧ (s.keyMissing k st).wloads = s.wloads := by
  unfold State.keyMissing
  split
  · simp
  · exact ⟨rfl, rfl, rfl⟩

/-- A set that is released leaves its instance's list. -/
theorem State.releaseSet_winsts (hset : ((s.winsts.get i).setOf k).isSome = true) (cause : Nat) :
    (s.releaseSet i k cause).winsts = s.winsts.upd i (fun w => { w with sets := w.sets.filter (fun x => x.slot != k) }) := by
  obtain ⟨x, hx⟩ := Option.isSome_iff_exists.mp hset
  simp [State.releaseSet, hx]

theorem State.wldUnload_idle (hset : ((s.winsts.get i).setOf k).isSome = true) (hidle : s.setIdle i k = true) :
    (s.wldUnload k i).1 = (s.releaseSet i k 1).wldStatus 4 k i wOk := by
  obtain ⟨x, hx⟩ := Option.isSome_iff_exists.mp hset
  simp [State.wldUnload, State.wldNow, hx, hidle]

theorem State.wldUnload_used (hset : ((s.winsts.get i).setOf k).isSome = true) (hidle : s.setIdle i k = false) :
    (s.wldUnload k i).1 = s.wldStatus 4 k i wBusy := by
  obtain ⟨x, hx⟩ := Option.isSome_iff_exists.mp hset
  simp [State.wldUnload, State.wldNow, hx, hidle]

/-! ### SWITCH and RELOAD (R382, R384, R386) -/

/-- A SWITCH to a resident set becomes pending; at the passes (`n` false) none may drain and a second space must exist. -/
theorem State.wldSwitch_pends {n : Bool} (hinst : s.hasInst i = true) (hset : ((s.winsts.get i).setOf k).isSome = true)
    (hpending : (s.winsts.get i).pending = none)
    (hpasses : n = false → (s.winsts.get i).draining = none ∧ ∀ sh, (s.winsts.get i).shape = some sh → 2 ≤ sh.nsp)
    (hother : k ≠ (s.winsts.get i).current ∨ (s.winsts.get i).draining.isSome = true) :
    (s.wldSwitch k i n).1 = (s.updWInst i (fun w => { w with autoFailed := false })).updWInst i
      (fun w => { w with pending := some { slot := k, nextStep := n } }) := by
  have hw : (s.updWInst i (fun w => { w with autoFailed := false })).winsts.get i =
      { s.winsts.get i with autoFailed := false } := Map.get_upd_self ..
  have hdrains : ((s.winsts.get i).draining.isSome && !n) = false := by
    cases n with
    | true => exact Bool.and_false _
    | false => rw [(hpasses rfl).1]; rfl
  have hchanges : ¬(k = (s.winsts.get i).current ∧ (s.winsts.get i).pending.isNone = true ∧
      (s.winsts.get i).draining.isNone = true) := by
    rintro ⟨hcurrent, -, hnone⟩
    obtain h | h := hother
    · exact h hcurrent
    · rw [Option.isNone_iff_eq_none.mp hnone] at h
      exact absurd h Bool.false_ne_true
  simp only [State.wldSwitch, hinst, Bool.not_true, Bool.false_eq_true, if_false, hw, hdrains, hchanges]
  rw [if_neg ?spaces, if_pos ?resident]
  case resident => exact Bool.or_eq_true_iff.mpr (.inl hset)
  case spaces =>
    cases n with
    | true => exact Bool.false_ne_true
    | false =>
      obtain ⟨-, hspaces⟩ := hpasses rfl
      cases hshape : (s.winsts.get i).shape with
      | none => exact Bool.false_ne_true
      | some sh => simp [Nat.not_lt.mpr (hspaces sh hshape)]
  simp only [State.pendSwitch, State.endSwitch, hw, hpending]

/-- A RELOAD of a resident set goes behind the load that runs, or to the head of the queue. -/
theorem State.wldReload_queued {l : WLoad} {rest : List WLoad} (hset : ((s.winsts.get i).setOf k).isSome = true)
    (hnew : s.reloading i k = false) (hloads : s.wloads = l :: rest) :
    (s.wldReload k i).1 = { s with wloads := if l.space.isSome then l :: { slot := k, inst := i, cause := 3 } :: rest
      else { slot := k, inst := i, cause := 3 } :: l :: rest } := by
  obtain ⟨x, hx⟩ := Option.isSome_iff_exists.mp hset
  simp [State.wldReload, State.queueReload, hx, hnew, hloads]

end

/-- Settles O42: each command by the lemma of the way it ends. -/
theorem weightCommands : Obligations.WeightCommands := by
  refine ⟨?bind, ?busy, ?unbind, ?load, ?unload, ?switch, ?reload⟩
  case bind =>
    intro s k p hresident hloading hstate
    obtain ⟨t, ht, hout, hport, hslots⟩ := State.wldBind_begins hstate hresident hloading
    have hself : t.wslots.get k = (s.wslots.get k).binds (s.reg64 (Reg.WLD_SRC_LO k) / 8 * 8)
        (s.reg64 (Reg.WLD_LEN_LO k)) := by rw [hslots, Map.get_upd_self]
    refine ⟨_, (exec_bind ..).trans (congrArg Host.Outcome.next ht), ?_⟩
    rw [State.readPackage_wslots, hself]
    refine ⟨rfl, rfl, rfl, fun j hj => ?_, fun q hq => ?_⟩
    · rw [hslots, Map.get_upd_ne _ _ hj]
    · rw [State.readPackage_out (hport.trans hq), hout, hself]
      rfl
  case busy =>
    intro s k p hused
    refine ⟨_, (exec_bind ..).trans (congrArg Host.Outcome.next (State.wldBind_busy hused)), ?_,
      State.wldStatus_wloads _ (by decide) .., State.wldStatus_winsts _ (by decide) ..⟩
    rw [State.wldStatus_wslots _ (by decide), Map.get_upd_self]
    rfl
  case unbind =>
    intro s k p hstate hresident hloading hcurrent
    refine ⟨_, (exec_unbind ..).trans (congrArg Host.Outcome.next
      (State.wldUnbind_frees hstate hresident hloading hcurrent)), ?_⟩
    rw [State.wldStatus_ok _ (by decide), State.updWSlot_wslots, State.updWSlot_wslots, Map.get_upd_self, Map.get_upd_self]
    exact ⟨rfl, rfl, rfl, rfl, fun j hj => by rw [Map.get_upd_ne _ _ hj, Map.get_upd_ne _ _ hj]⟩
  case load =>
    intro s k i p hbound hinst hfree
    refine ⟨fun hset hchecks hroom => ?queued, fun hset => ?resident, fun st hset hchecks => ?failed⟩
    case queued =>
      exact (exec_load ..).trans (congrArg Host.Outcome.next
        (State.wldLoad_queued hbound hinst hfree hset hchecks hroom))
    case resident =>
      refine ⟨_, (exec_load ..).trans (congrArg Host.Outcome.next (State.wldLoad_resident hbound hinst hfree hset)), ?_⟩
      rw [State.wldStatus_ok _ (by decide), State.updWSlot_wslots, Map.get_upd_self]
      exact ⟨rfl, rfl, rfl, rfl⟩
    case failed =>
      obtain ⟨hslots, hinsts, hloads⟩ := s.keyMissing_weights k st
      refine ⟨_, (exec_load ..).trans (congrArg Host.Outcome.next
        (State.wldLoad_failed hbound hinst hfree hset hchecks)), ?_⟩
      rw [State.wldStatus_wloads _ (by decide), State.wldStatus_winsts _ (by decide), State.wldStatus_wslots _ (by decide),
        Map.get_upd_self]
      exact ⟨hloads, hinsts, rfl, rfl⟩
  case unload =>
    intro s k i p hset
    refine ⟨fun hidle => ⟨_, (exec_unload ..).trans (congrArg Host.Outcome.next (State.wldUnload_idle hset hidle)), ?_⟩,
      fun hidle => ⟨_, (exec_unload ..).trans (congrArg Host.Outcome.next (State.wldUnload_used hset hidle)), ?_⟩⟩
    · rw [State.wldStatus_winsts _ (by decide), State.wldStatus_wslots _ (by decide), State.releaseSet_winsts hset,
        Map.get_upd_self, Map.get_upd_self]
      exact ⟨rfl, rfl, fun j hj => Map.get_upd_ne _ _ hj⟩
    · rw [State.wldStatus_winsts _ (by decide), State.wldStatus_wslots _ (by decide), Map.get_upd_self]
      exact ⟨rfl, rfl⟩
  case switch =>
    intro s k i n p hinst hset hpending hpasses hother
    refine ⟨_, (exec_switch ..).trans (congrArg Host.Outcome.next
      (State.wldSwitch_pends hinst hset hpending hpasses hother)), rfl, rfl, ?_, fun j hj => ?_⟩
    · rw [State.updWInst_winsts, State.updWInst_winsts, Map.get_upd_self, Map.get_upd_self]
    · rw [State.updWInst_winsts, State.updWInst_winsts, Map.get_upd_ne _ _ hj, Map.get_upd_ne _ _ hj]
  case reload =>
    exact fun s k i p l rest hset hnew hloads => (exec_reload ..).trans (congrArg Host.Outcome.next
      (State.wldReload_queued hset hnew hloads))

end Sys2Proof.Machine
end

section
/-!
Registers that an event leaves (18, R523–R526): logging writes its own counters, causes and fatal record, and no other register.
-/
namespace Sys2Proof.Machine
open Sys2Proof

/-- The registers that an event writes: its lost copies, its causes and the words of the fatal record. -/
def eventReg (off : Nat) : Bool :=
  off == Reg.EVR_LOST || off == Reg.FLT_LOG_LOST || off == Reg.HST_MGMT_STAT || (decide (0x70200 ≤ off) && decide (off < 0x70400))

/-- A register is read from the register file alone. -/
theorem State.reg_congr {s t : State} (h : t.regs = s.regs) (off : Nat) : t.reg off = s.reg off := by
  rw [State.reg, h, State.reg]

theorem State.regN_congr {s t : State} (h : t.regs = s.regs) (off : Nat) : t.regN off = s.regN off :=
  congrArg BitVec.toNat (State.reg_congr h off)

theorem State.reg_count_ne (s : State) {off a : Nat} (h : a ≠ off) : (s.count off).reg a = s.reg a :=
  State.reg_setReg_ne _ _ h

theorem State.reg_clearFatal (s : State) {off k : Nat} (hk : k < 16) (h : eventReg off = false) :
    (s.clearFatal k).reg off = s.reg off := by
  have hkeep : (off / 0x20 != Reg.FLT_FATAL k 0 / 0x20) = true := by
    simp only [eventReg, Bool.or_eq_false_iff, Bool.and_eq_false_iff, decide_eq_false_iff_not] at h
    simp only [Reg.FLT_FATAL, bne_iff_ne]
    omega
  have hget : (s.clearFatal k).regs.get off = s.regs.get off :=
    Map.get_keep_of_keys s.regs (p := fun a => a / 0x20 != Reg.FLT_FATAL k 0 / 0x20) hkeep
  rw [State.reg, hget, State.reg]

section
variable {off : Nat} (h : eventReg off = false)
include h

theorem eventReg_ne : off ≠ Reg.EVR_LOST ∧ off ≠ Reg.FLT_LOG_LOST ∧ off ≠ Reg.HST_MGMT_STAT := by
  simp only [eventReg, Bool.or_eq_false_iff, beq_eq_false_iff_ne] at h
  obtain ⟨⟨⟨hlost, hlog⟩, hmgmt⟩, -⟩ := h
  exact ⟨hlost, hlog, hmgmt⟩

theorem State.reg_pushEntry (s : State) (code : Nat) (fs : List (Nat × Nat)) : (s.pushEntry code fs).reg off = s.reg off := by
  obtain ⟨hlost, hlog, -⟩ := eventReg_ne h
  have hfatal : ∀ (t : State) (c : Bool), (if (c && decide (s.log.fatal.length < 16)) = true then
      t.clearFatal s.log.fatal.length else t).reg off = t.reg off := by
    intro t c
    split
    · next hroom => exact t.reg_clearFatal (of_decide_eq_true (Bool.and_eq_true_iff.mp hroom).2) h
    · rfl
  have hcount : ∀ (t : State) (c : Prop) [Decidable c], (if c then t.count Reg.FLT_LOG_LOST else t).reg off = t.reg off := by
    intro t c _
    split
    · exact t.reg_count_ne hlog
    · rfl
  have hlose : ∀ t : State, (if s.losesCopy = true then t.loseCopy else t).reg off = t.reg off := by
    intro t
    split
    · exact t.reg_count_ne hlost
    · rfl
  rw [State.pushEntry, hlose, hcount, hfatal]
  rfl

theorem State.reg_mgmtCause (s : State) (i : Nat) : (s.mgmtCause i).reg off = s.reg off := by
  obtain ⟨-, -, hmgmt⟩ := eventReg_ne h
  unfold State.mgmtCause
  dsimp only
  split <;> exact State.reg_setReg_ne _ _ hmgmt

theorem State.reg_classEffects (s : State) (code : Nat) : (s.classEffects code).reg off = s.reg off := by
  unfold State.classEffects
  split
  case h_5 => rfl
  all_goals rw [State.reg_congr (State.irqEvents_regs ..), State.reg_mgmtCause h]

theorem State.reg_noteEvrLost (s : State) : s.noteEvrLost.reg off = s.reg off := by
  unfold State.noteEvrLost
  split
  · rfl
  · split
    · rw [State.reg_classEffects h, State.reg_pushEntry h]
      rfl
    · rfl

/-- Logging an event leaves every register that is not the log's own. -/
theorem State.reg_logEvent (s : State) (code : Nat) (fs : List (Nat × Nat)) : (s.logEvent code fs).reg off = s.reg off := by
  unfold State.logEvent
  dsimp only
  split
  · rw [State.reg_classEffects h, State.reg_pushEntry h]
  · rw [State.reg_noteEvrLost h, State.reg_classEffects h, State.reg_pushEntry h]

theorem State.regN_logEvent (s : State) (code : Nat) (fs : List (Nat × Nat)) : (s.logEvent code fs).regN off = s.regN off :=
  congrArg BitVec.toNat (s.reg_logEvent h code fs)

theorem State.reg_logLimited (s : State) (code scope : Nat) (fs : Nat → List (Nat × Nat)) :
    (s.logLimited code scope fs).reg off = s.reg off := by
  unfold State.logLimited State.logLimitedFor
  dsimp only
  split
  · exact State.reg_logEvent h ..
  · rfl

end

end Sys2Proof.Machine
end

section
/-!
Rings (14, R396, R420; 16, R458, R462, R467): what enabling and disabling one leaves in its registers, and the first record
that a record ring writes.
-/
namespace Sys2Proof

theorem bits_lt (x hi lo : Nat) : bits x hi lo < 2 ^ (hi + 1 - lo) := Nat.mod_lt _ (Nat.two_pow_pos _)

/-- The low bit of a field starts it: a number below it adds nothing to it. -/
theorem bit_add_two_pow_mul {a i : Nat} (h : a < 2 ^ i) (c : Nat) : bit (a + 2 ^ i * c) i = (c % 2 == 1) := by
  rw [bit, Nat.add_mul_div_left _ _ (Nat.two_pow_pos i), Nat.div_eq_of_lt h, Nat.zero_add]

theorem bit_eq_false_of_lt {a i : Nat} (h : a < 2 ^ i) : bit a i = false := by
  rw [bit, Nat.div_eq_of_lt h]
  rfl

end Sys2Proof

namespace Sys2Proof.Machine
open Sys2Proof Sys2Proof.Claims

/-! ### Fields of a ring's configuration -/

/-- Size and port of a ring lie below its enable bit (R396). -/
theorem ringFields_lt (v : Nat) {k : Nat} (hk : k < 2) : bits v 4 0 + 2 ^ 8 * bits v (8 + k) 8 < 2 ^ 31 := by
  have hsize : bits v 4 0 < 2 ^ 5 := bits_lt v 4 0
  have hport : bits v (8 + k) 8 < 2 ^ (8 + k + 1 - 8) := bits_lt v (8 + k) 8
  have hwidth : 2 ^ (8 + k + 1 - 8) ≤ 2 ^ 2 := Nat.pow_le_pow_right (by decide) (by omega)
  omega

/-- The event ring's size and port, and its classes above the enable bit (R467). -/
theorem evrFields_enabled (v : Nat) :
    bit ((bits v 4 0 + 2 ^ 8 * bits v 8 8 + 2 ^ 16 * bits v 31 16 + 2 ^ 15) % 2 ^ 32) 15 = true := by
  have hsize : bits v 4 0 < 2 ^ 5 := bits_lt v 4 0
  have hport : bits v 8 8 < 2 := bits_lt v 8 8
  have hclasses : bits v 31 16 < 2 ^ 16 := bits_lt v 31 16
  have hsplit : (bits v 4 0 + 2 ^ 8 * bits v 8 8 + 2 ^ 16 * bits v 31 16 + 2 ^ 15) % 2 ^ 32 =
      (bits v 4 0 + 2 ^ 8 * bits v 8 8) + 2 ^ 15 * (2 * bits v 31 16 + 1) := by omega
  rw [hsplit, bit_add_two_pow_mul (by omega)]
  simp only [beq_iff_eq]
  omega

/-! ### Enabling (R458) -/

/-- Three registers of a ring are written one after the other: the configuration, the head and the tail. -/
def State.startRing (s : State) (cfg head tail v : Nat) : State := ((s.setRegN cfg v).setRegN head 0).setRegN tail 0

theorem State.startRing_regN (s : State) {cfg head tail : Nat} (v : Nat) (hhead : cfg ≠ head) (htail : cfg ≠ tail)
    (hends : head ≠ tail) : (s.startRing cfg head tail v).regN cfg = v % 2 ^ 32 ∧
      (s.startRing cfg head tail v).regN head = 0 ∧ (s.startRing cfg head tail v).regN tail = 0 := by
  refine ⟨?_, ?_, State.regN_setRegN ..⟩
  · rw [State.startRing, State.regN_setRegN_ne _ _ htail, State.regN_setRegN_ne _ _ hhead, State.regN_setRegN]
  · rw [State.startRing, State.regN_setRegN_ne _ _ hends, State.regN_setRegN, Nat.zero_mod]

/-- An enable bit above the fields stays in the register. -/
theorem bit_enabled {v : Nat} (h : v < 2 ^ 31) : bit ((v + 2 ^ 31) % 2 ^ 32) 31 = true := by
  rw [Nat.mod_eq_of_lt (by omega)]
  exact bit_add_two_pow_mul h 1

section
variable {s : State} {v : Nat} (p : Port)

/-- SQ_CFG with enable set on a ring that is not enabled. -/
theorem State.sqCfg_enables {r : Nat} (hoff : bit (s.regN (Reg.SQ_CFG r)) 31 = false) (hon : bit v 31 = true)
    (hvalid : s.ringValid 6 16 v (Reg.SQ_BASE_LO r) = true) : (s.sqCfg r p v).regs =
      (s.startRing (Reg.SQ_CFG r) (Reg.SQ_HEAD r) (Reg.SQ_TAIL r) (bits v 4 0 + 2 ^ 8 * bits v 8 8 + 2 ^ 31)).regs := by
  simp only [State.sqCfg, ringOn, hoff, hon, hvalid, Bool.false_eq_true, Bool.not_true, if_false]
  rfl

/-- RQ_CFG with enable set on a ring that is not enabled: the queue of pending records stays. -/
theorem State.rqCfg_enables {r : Nat} (hoff : bit (s.regN (Reg.RQ_CFG r)) 31 = false) (hon : bit v 31 = true)
    (hvalid : s.ringValid 6 16 v (Reg.RQ_BASE_LO r) = true) : s.rqCfg r p v =
      s.startRing (Reg.RQ_CFG r) (Reg.RQ_HEAD r) (Reg.RQ_TAIL r) (bits v 4 0 + 2 ^ 8 * bits v 9 8 + 2 ^ 31) := by
  simp only [State.rqCfg, ringOn, hoff, hon, hvalid, Bool.false_eq_true, Bool.not_true, if_false]
  rfl

theorem State.cmdCfg_enables (hoff : bit (s.regN Reg.CMD_CFG) 31 = false) (hon : bit v 31 = true)
    (hvalid : s.ringValid 4 12 v Reg.CMD_BASE_LO = true) : (s.cmdCfg p v).regs =
      (s.startRing Reg.CMD_CFG Reg.CMD_HEAD Reg.CMD_TAIL (bits v 4 0 + 2 ^ 8 * bits v 8 8 + 2 ^ 31)).regs := by
  simp only [State.cmdCfg, ringOn, hoff, hon, hvalid, Bool.false_eq_true, Bool.not_true, if_false]
  rfl

theorem State.evrCfg_enables (hoff : bit (s.regN Reg.EVR_CFG) 15 = false) (hon : bit v 15 = true)
    (hvalid : s.ringValid 6 16 v Reg.EVR_BASE_LO = true) : s.evrCfg p v =
      s.startRing Reg.EVR_CFG Reg.EVR_HEAD Reg.EVR_TAIL
        (bits v 4 0 + 2 ^ 8 * bits v 8 8 + 2 ^ 16 * bits v 31 16 + 2 ^ 15) := by
  simp only [State.evrCfg, hoff, hon, hvalid, Bool.false_eq_true, Bool.not_true, if_false]
  rfl

/-! ### Disabling, and the next batch (R420) -/

/-- RQ_CFG with enable clear on an enabled ring. -/
theorem State.rqCfg_disables {r : Nat} (hon : bit (s.regN (Reg.RQ_CFG r)) 31 = true) (hoff : bit v 31 = false) :
    s.rqCfg r p v = (s.rqDisable r).setRegN (Reg.RQ_CFG r) (bits v 4 0 + 2 ^ 8 * bits v 9 8) := by
  simp [State.rqCfg, ringOn, hon, hoff]

end

/-- A disabled ring keeps its queue of pending records. -/
theorem State.rqDisable_queue (s : State) (r : Nat) :
    ((s.rqDisable r).recRings.get r).queue = (s.recRings.get r).queue :=
  (congrArg RecRing.queue (Map.get_upd_self s.recRings r _)).trans rfl

/-- What a loop sends comes after what was sent before. -/
theorem State.out_foldl_emit {α : Type} (f : α → Out) (l : List α) (s : State) :
    (l.foldl (fun (s : State) x => s.emit (f x)) s).out = s.out ++ l.map f := by
  induction l generalizing s with
  | nil => simp
  | cons x l ih => rw [List.foldl_cons, ih, State.emit_out, List.map_cons, List.append_assoc, List.singleton_append]

/-- With head and tail 0 a ring has room, and the queue's first record goes to entry 0. -/
theorem exec_recordBatchWrite_first {s : State} {r : Nat} {b : List Byte} {q : List (List Byte)}
    (hon : bit (s.regN (Reg.RQ_CFG r)) 31 = true) (hqueue : (s.recRings.get r).queue = b :: q)
    (hidle : (s.recRings.get r).inFlight = 0) (hhead : s.regN (Reg.RQ_HEAD r) = 0) (htail : s.regN (Reg.RQ_TAIL r) = 0)
    (hsize : 1 ≤ bits (s.regN (Reg.RQ_CFG r)) 4 0)
    (hlink : (s.ports.get (bits (s.regN (Reg.RQ_CFG r)) 8 8)).linkUp = true) :
    ∃ t, exec (.recordBatchWrite r) s = .next t ∧ ∃ l, t.out = s.out ++
      .hostWrite (bits (s.regN (Reg.RQ_CFG r)) 8 8) (s.reg64 (Reg.RQ_BASE_LO r) / 4096 * 4096) b :: l := by
  have hn : 2 ≤ ringSize (s.regN (Reg.RQ_CFG r)) := Nat.pow_le_pow_right (n := 2) (by decide) hsize
  have hroom : (ringSize (s.regN (Reg.RQ_CFG r)) - 1) % ringSize (s.regN (Reg.RQ_CFG r)) =
      ringSize (s.regN (Reg.RQ_CFG r)) - 1 := Nat.mod_eq_of_lt (by omega)
  obtain ⟨k, hk⟩ : ∃ k, min (ringSize (s.regN (Reg.RQ_CFG r)) - 1) (q.length + 1) = k + 1 :=
    Nat.exists_eq_succ_of_ne_zero (by omega)
  refine ⟨_, exec_recordBatchWrite .., ?_⟩
  simp only [ringOn, ringPort, hon, hqueue, hidle, hhead, htail, hlink, hroom, hk, Nat.zero_mod, Nat.zero_add,
    List.length_cons, Nat.sub_zero, bne_self_eq_false, Bool.not_true, Bool.or_self,
    beq_eq_false_iff_ne.mpr (Nat.add_one_ne_zero k), Bool.false_eq_true, if_false]
  rw [State.updRec]
  simp only [State.emit_out, State.out_foldl_emit, List.take_succ_cons, List.zipIdx_cons, List.map_cons, Nat.zero_mod,
    Nat.mul_zero, Nat.add_zero, List.append_assoc, List.cons_append]
  exact ⟨_, rfl⟩

/-- Settles O44, ring by ring. -/
theorem ringEnable : Obligations.RingEnable := by
  refine ⟨?sq, ?rq, ?cmd, ?evr, ?disable, ?batch⟩
  case sq =>
    intro s r v p hoff hon hvalid
    obtain ⟨hcfg, hends⟩ := s.startRing_regN (cfg := Reg.SQ_CFG r) (head := Reg.SQ_HEAD r) (tail := Reg.SQ_TAIL r)
      (bits v 4 0 + 2 ^ 8 * bits v 8 8 + 2 ^ 31) (by simp [Reg.SQ_CFG, Reg.SQ_HEAD]) (by simp [Reg.SQ_CFG, Reg.SQ_TAIL])
      (by simp [Reg.SQ_HEAD, Reg.SQ_TAIL])
    refine ⟨_, exec_sqCfgWrite .., ?_⟩
    simp only [State.regN_congr (State.sqCfg_enables p hoff hon hvalid), hcfg]
    exact ⟨bit_enabled (ringFields_lt v (k := 0) (by decide)), hends⟩
  case rq =>
    intro s r v p hoff hon hvalid
    obtain ⟨hcfg, hhead, htail⟩ := s.startRing_regN (cfg := Reg.RQ_CFG r) (head := Reg.RQ_HEAD r) (tail := Reg.RQ_TAIL r)
      (bits v 4 0 + 2 ^ 8 * bits v 9 8 + 2 ^ 31) (by simp [Reg.RQ_CFG, Reg.RQ_HEAD]) (by simp [Reg.RQ_CFG, Reg.RQ_TAIL])
      (by simp [Reg.RQ_HEAD, Reg.RQ_TAIL])
    refine ⟨_, (exec_rqCfgWrite ..).trans (congrArg Host.Outcome.next (State.rqCfg_enables p hoff hon hvalid)), ?_, hhead,
      htail, rfl⟩
    rw [hcfg]
    exact bit_enabled (ringFields_lt v (k := 1) (by decide))
  case cmd =>
    intro s v p hoff hon hvalid
    obtain ⟨hcfg, hends⟩ := s.startRing_regN (cfg := Reg.CMD_CFG) (head := Reg.CMD_HEAD) (tail := Reg.CMD_TAIL)
      (bits v 4 0 + 2 ^ 8 * bits v 8 8 + 2 ^ 31) (by decide) (by decide) (by decide)
    refine ⟨_, exec_cmdCfgWrite .., ?_⟩
    simp only [State.regN_congr (State.cmdCfg_enables p hoff hon hvalid), hcfg]
    exact ⟨bit_enabled (ringFields_lt v (k := 0) (by decide)), hends⟩
  case evr =>
    intro s v p hoff hon hvalid
    obtain ⟨hcfg, hends⟩ := s.startRing_regN (cfg := Reg.EVR_CFG) (head := Reg.EVR_HEAD) (tail := Reg.EVR_TAIL)
      (bits v 4 0 + 2 ^ 8 * bits v 8 8 + 2 ^ 16 * bits v 31 16 + 2 ^ 15) (by decide) (by decide) (by decide)
    refine ⟨_, (exec_evrCfgWrite ..).trans (congrArg Host.Outcome.next (State.evrCfg_enables p hoff hon hvalid)), ?_, hends⟩
    rw [hcfg]
    exact evrFields_enabled v
  case disable =>
    intro s r v p hon hoff
    have hfields : bits v 4 0 + 2 ^ 8 * bits v 9 8 < 2 ^ 31 := ringFields_lt v (k := 1) (by decide)
    refine ⟨_, (exec_rqCfgWrite ..).trans (congrArg Host.Outcome.next (State.rqCfg_disables p hon hoff)), ?_,
      s.rqDisable_queue r⟩
    rw [State.regN_setRegN, Nat.mod_eq_of_lt (by omega)]
    exact bit_eq_false_of_lt hfields
  case batch =>
    intro s r b q hon hqueue hidle hhead htail hsize hlink
    obtain ⟨t, ht, l, hout⟩ := exec_recordBatchWrite_first hon hqueue hidle hhead htail hsize hlink
    exact ⟨t, l, ht, hout⟩

end Sys2Proof.Machine
end

section
/-!
Grammar slots and the grammar cache (15, R440, R442, R443): what each row of Table 15-7 leaves of its slot and of the others.
-/
namespace Sys2Proof.Machine
open Sys2Proof Sys2Proof.Claims

/-! ### A slot and the cache -/

@[simp] theorem State.updGrm_grammars (s : State) (g : Nat) (f : Grammar → Grammar) :
    (s.updGrm g f).grammars = s.grammars.upd g f := rfl
@[simp] theorem State.grmEmpty_grammars (s : State) (g : Nat) : (s.grmEmpty g).grammars =
    s.grammars.upd g (fun x => { lastStatus := x.lastStatus, owner := x.owner, refs := x.refs }) := rfl

/-- A line is read from the cache, which is all that it depends on. -/
theorem State.grmLine_congr {s t : State} (h : t.grmCache = s.grmCache) (g line : Nat) : t.grmLine g line = s.grmLine g line := by
  rw [State.grmLine, h, State.grmLine]

/-- A slot that becomes EMPTY has no line in the cache. -/
theorem State.grmLine_grmEmpty (s : State) (g line : Nat) : (s.grmEmpty g).grmLine g line = none := by
  have hnone : (s.grmCache.filter (fun l => l.slot != g)).find? (fun l => l.slot == g && l.line == line) = none := by
    rw [List.find?_eq_none]
    intro l hl
    have hother : l.slot ≠ g := by simpa using (List.mem_filter.mp hl).2
    simp [hother]
  exact congrArg (Option.map GrmLine.bytes) hnone

/-- A load that fails empties its slot, which shows why. -/
theorem State.grmFail_grammars (s : State) (g status : Nat) : (s.grmFail g status).grammars =
    (s.grmEmpty g).grammars.upd g (fun x => { x with lastStatus := status }) := by
  simp [State.grmFail]

theorem State.grmFail_slot (s : State) (g status : Nat) :
    ((s.grmFail g status).grammars.get g).state = .empty ∧ ((s.grmFail g status).grammars.get g).lastStatus = status := by
  rw [State.grmFail_grammars, State.grmEmpty_grammars, Map.get_upd_self, Map.get_upd_self]
  exact ⟨rfl, rfl⟩

theorem State.grmFail_others (s : State) {g j : Nat} (status : Nat) (hj : j ≠ g) :
    (s.grmFail g status).grammars.get j = s.grammars.get j := by
  rw [State.grmFail_grammars, State.grmEmpty_grammars, Map.get_upd_ne _ _ hj, Map.get_upd_ne _ _ hj]

/-! ### LOAD and UNLOAD (R443) -/

section
variable {s : State} {g : Nat} (hcap : s.hasGrammar = true)
include hcap

theorem State.grmLoad_busy (p : Port) (h : (s.grammars.get g).state ≠ .empty) :
    (s.grmLoad g p).1.grammars = s.grammars.upd g (fun x => { x with lastStatus := 1 }) := by
  simp [State.grmLoad, hcap, h]

theorem State.grmLoad_begins (p : Port) (h : (s.grammars.get g).state = .empty) :
    (s.grmLoad g p).1.grammars = s.grammars.upd g (fun x => { x with state := .loading, owner := s.actsAs p }) := by
  simp [State.grmLoad, hcap, h]

theorem State.grmUnload_frees (hready : (s.grammars.get g).state = .ready) (hrefs : (s.grammars.get g).refs = 0) :
    (s.grmUnload g).1 = s.grmUnloaded g 0 := by
  simp [State.grmUnload, hcap, hready, hrefs]

theorem State.grmUnload_drains (hready : (s.grammars.get g).state = .ready) (hrefs : (s.grammars.get g).refs ≠ 0) :
    (s.grmUnload g).1 = s.updGrm g (fun x => { x with state := .draining }) := by
  simp [State.grmUnload, hcap, hready, hrefs]

theorem State.grmUnload_draining (hdraining : (s.grammars.get g).state = .draining) : (s.grmUnload g).1 = s := by
  simp [State.grmUnload, hcap, hdraining]

theorem State.grmUnload_refused (h : (s.grammars.get g).state = .empty ∨ (s.grammars.get g).state = .loading) :
    (s.grmUnload g).1 = s.updGrm g (fun x => { x with lastStatus := 2 }) := by
  obtain h | h := h <;> simp [State.grmUnload, hcap, h]

theorem State.grmUnload_others {j : Nat} (hj : j ≠ g) : (s.grmUnload g).1.grammars.get j = s.grammars.get j := by
  cases hstate : (s.grammars.get g).state with
  | empty => rw [State.grmUnload_refused hcap (.inl hstate), State.updGrm_grammars, Map.get_upd_ne _ _ hj]
  | loading => rw [State.grmUnload_refused hcap (.inr hstate), State.updGrm_grammars, Map.get_upd_ne _ _ hj]
  | draining => rw [State.grmUnload_draining hcap hstate]
  | ready =>
    by_cases hrefs : (s.grammars.get g).refs = 0
    · rw [State.grmUnload_frees hcap hstate hrefs, State.grmUnloaded, State.logEvent_grammars, State.grmEmpty_grammars,
        Map.get_upd_ne _ _ hj]
    · rw [State.grmUnload_drains hcap hstate hrefs, State.updGrm_grammars, Map.get_upd_ne _ _ hj]

end

/-! ### The end of a load (R440) -/

/-- An image whose tables are sound (Table 15-6). -/
def grmImageOk (im : List Byte) : Bool :=
  grmTablesOk (leField im 0x10 4) (leField im 0x18 4) (grmStates im.toArray (leField im 0x14 4))
    (grmTrans im.toArray (leField im 0x20 8) (leField im 0x1C 4))

/-- The slot that an image which passes its checks leaves. -/
def Grammar.holds (x : Grammar) (im : List Byte) : Grammar :=
  { x with
    state := .ready, lastStatus := 0, vocab := leField im 0x10 4, states := leField im 0x14 4, bitsets := leField im 0x18 4
    bitsetOff := leField im 0x28 8, table := grmStates im.toArray (leField im 0x14 4)
    trans := grmTrans im.toArray (leField im 0x20 8) (leField im 0x1C 4) }

section
variable {s : State} {g : Nat} {im : List Byte}

theorem State.grmCheck_badHeader (hheader : grmHeaderOk im (s.reg64 (Reg.GRM_LEN_LO g)) = false) :
    s.grmCheck g im = s.grmFail g 3 := by
  simp [State.grmCheck, hheader]

section
variable (hheader : grmHeaderOk im (s.reg64 (Reg.GRM_LEN_LO g)) = true)
include hheader

theorem State.grmCheck_badRanges (hranges : grmRangesOk im (s.reg64 (Reg.GRM_LEN_LO g)) = false) :
    s.grmCheck g im = s.grmFail g 4 := by
  simp [State.grmCheck, hheader, hranges]

variable (hranges : grmRangesOk im (s.reg64 (Reg.GRM_LEN_LO g)) = true)
include hranges

theorem State.grmCheck_badTables (htables : grmImageOk im = false) : s.grmCheck g im = s.grmFail g 5 := by
  rw [grmImageOk] at htables
  simp [State.grmCheck, hheader, hranges, htables]

theorem State.grmCheck_passes (htables : grmImageOk im = true) :
    (s.grmCheck g im).grammars = s.grammars.upd g (·.holds im) := by
  rw [grmImageOk] at htables
  simp only [State.grmCheck, hheader, hranges, htables, Bool.not_true, Bool.false_eq_true, if_false, State.finish_grammars,
    State.logEvent_grammars, State.updGrm_grammars]
  rfl

end

/-- A check of an image leaves the other slots. -/
theorem State.grmCheck_others (s : State) {g j : Nat} (im : List Byte) (hj : j ≠ g) :
    (s.grmCheck g im).grammars.get j = s.grammars.get j := by
  cases hheader : grmHeaderOk im (s.reg64 (Reg.GRM_LEN_LO g)) with
  | false => rw [State.grmCheck_badHeader hheader, State.grmFail_others _ _ hj]
  | true =>
    cases hranges : grmRangesOk im (s.reg64 (Reg.GRM_LEN_LO g)) with
    | false => rw [State.grmCheck_badRanges hheader hranges, State.grmFail_others _ _ hj]
    | true =>
      cases htables : grmImageOk im with
      | false => rw [State.grmCheck_badTables hheader hranges htables, State.grmFail_others _ _ hj]
      | true => rw [State.grmCheck_passes hheader hranges htables, Map.get_upd_ne _ _ hj]

theorem exec_grammarLoadComplete_error (hloading : (s.grammars.get g).state = .loading) :
    exec (.grammarLoadComplete g true im) s = .next (s.grmFail g 6) := by
  simp [exec_grammarLoadComplete, execGrammarLoadComplete, hloading]

theorem exec_grammarLoadComplete_image (hloading : (s.grammars.get g).state = .loading) :
    exec (.grammarLoadComplete g false im) s = .next (s.grmCheck g im) := by
  simp [exec_grammarLoadComplete, execGrammarLoadComplete, hloading]

end

/-! ### Lines and reads (R442) -/

@[simp] theorem State.smpCount64_grammars (s : State) (off k : Nat) : (s.smpCount64 off k).grammars = s.grammars :=
  (State.smpCount64_follows rfl (State.Follows.refl 16 s)).at State.grammars 51 State.reset.grammars (fun _ => rfl) rfl
@[simp] theorem State.smpCount64_grmCache (s : State) (off k : Nat) : (s.smpCount64 off k).grmCache = s.grmCache :=
  (State.smpCount64_follows rfl (State.Follows.refl 16 s)).at State.grmCache 52 State.reset.grmCache (fun _ => rfl) rfl
@[simp] theorem State.grmFetch_grammars (s : State) (g st : Nat) : (s.grmFetch g st).grammars = s.grammars :=
  (State.grmFetch_follows rfl (State.Follows.refl 8 s)).at State.grammars 51 State.reset.grammars (fun _ => rfl) rfl
@[simp] theorem State.grmFetch_grmCache (s : State) (g st : Nat) : (s.grmFetch g st).grmCache = s.grmCache :=
  (State.grmFetch_follows rfl (State.Follows.refl 8 s)).at State.grmCache 52 State.reset.grmCache (fun _ => rfl) rfl

/-- The cache after a line has come: that line first, and at most 1,024. -/
def State.grmCacheWith (s : State) (g line : Nat) (bs : List Byte) : List GrmLine :=
  (({ slot := g, line := line, bytes := bs } : GrmLine) ::
    s.grmCache.filter (fun x => !(x.slot == g && x.line == line))).take 1024

theorem State.grmLine_grmCacheWith {s t : State} {g line : Nat} {bs : List Byte}
    (h : t.grmCache = s.grmCacheWith g line bs) : t.grmLine g line = some bs := by
  simp [State.grmLine, h, State.grmCacheWith]

/-- A line that is fetched enters the cache; what it may ask the host for changes neither slots nor cache. -/
theorem exec_grammarFetchComplete_line {s : State} {g : Nat} {bs : List Byte} (line i q : Nat)
    (hresident : (s.grammars.get g).state = .ready ∨ (s.grammars.get g).state = .draining) (hlength : bs.length = 4096) :
    ∃ t, exec (.grammarFetchComplete g line false bs i q) s = .next t ∧ t.grmCache = s.grmCacheWith g line bs ∧
      t.grammars = s.grammars := by
  have hheld : ¬((s.grammars.get g).state = .empty ∨ (s.grammars.get g).state = .loading) := by
    obtain h | h := hresident <;> simp [h]
  have hbytes : (bs ++ List.replicate 4096 0).take 4096 = bs := List.take_left' hlength
  refine ⟨_, exec_grammarFetchComplete .., ?_⟩
  simp only [if_neg hheld, Bool.false_eq_true, if_false, hbytes]
  split
  · rw [State.grmFetch_grmCache, State.grmFetch_grammars, State.smpCount64_grmCache, State.smpCount64_grammars]
    exact ⟨rfl, rfl⟩
  · rw [State.smpCount64_grmCache, State.smpCount64_grammars]
    exact ⟨rfl, rfl⟩

/-- No records fall due where no step runs. -/
theorem State.stepCheck_idle {s : State} {i : Nat} (h : (s.insts.get i).state ≠ 1) : s.stepCheck i = s := by
  simp [State.stepCheck, h]

@[simp] theorem State.smpCount_seqs (s : State) (off : Nat) : (s.smpCount off).seqs = s.seqs :=
  (State.smpCount_follows rfl (State.Follows.refl 16 s)).at State.seqs 44 State.reset.seqs (fun _ => rfl) rfl
@[simp] theorem State.smpCount_insts (s : State) (off : Nat) : (s.smpCount off).insts = s.insts :=
  (State.smpCount_follows rfl (State.Follows.refl 16 s)).at State.insts 43 State.reset.insts (fun _ => rfl) rfl
@[simp] theorem State.smpCount_img (s : State) (off : Nat) : (s.smpCount off).img = s.img :=
  (State.smpCount_follows rfl (State.Follows.refl 16 s)).at State.img 12 State.reset.img (fun _ => rfl) rfl

/-- An instance's main instance is read from the sealed image alone. -/
theorem State.mainOf_congr {s t : State} (h : t.img = s.img) (i : Nat) : t.mainOf i = s.mainOf i := by
  simp only [State.mainOf, h]

/-- A failed read of a resident sequence marks it; where no step of its instance runs, nothing else follows. -/
theorem State.grmReadFailed_seqs {s : State} {i q : Nat} (g cause : Nat) (hfree : (s.seq i q).state ≠ .free)
    (hretiring : (s.seq i q).state ≠ .retiring) (hidle : (s.insts.get (s.mainOf i)).state ≠ 1) :
    (s.grmReadFailed g i q cause).seq i q = { s.seq i q with gFail := true } := by
  have hstate : ¬((s.seq i q).state = .free ∨ (s.seq i q).state = .retiring) := not_or.mpr ⟨hfree, hretiring⟩
  rw [State.grmReadFailed, State.stepCheck_idle]
  · rw [State.seq_updSeq, State.seq, State.logEvent_seqs, State.smpCount_seqs]
    exact if_neg hstate
  · rw [State.updSeq, State.logEvent_insts, State.smpCount_insts, State.mainOf_congr
      ((State.logEvent_img ..).trans (State.smpCount_img ..))]
    exact hidle

/-- Settles O53: each command by the lemma of the row of Table 15-7 that answers it. That an UNLOAD which succeeds leaves
last_status is log entry 93, and the order of the checks is log entry 36. -/
theorem grammarSlots : Obligations.GrammarSlots := by
  refine ⟨?load, ?unload, ?complete, ?timeout, ?line, ?read⟩
  case load =>
    intro s g p x hcap
    refine ⟨_, exec_grmLoad .., ?_⟩
    by_cases h : x.state = .empty
    · rw [State.grmLoad_begins hcap p h]
      exact ⟨fun j hj => Map.get_upd_ne _ _ hj, fun _ => Map.get_upd_self .., fun hne => absurd h hne⟩
    · rw [State.grmLoad_busy hcap p h]
      exact ⟨fun j hj => Map.get_upd_ne _ _ hj, fun he => absurd he h, fun _ => Map.get_upd_self ..⟩
  case unload =>
    intro s g p x hcap
    refine ⟨_, exec_grmUnload .., fun j hj => State.grmUnload_others hcap hj, fun hready hrefs => ?_, fun hready hrefs => ?_,
      fun hstate => ?_⟩
    · rw [State.grmUnload_frees hcap hready hrefs, State.grmUnloaded, State.logEvent_grammars, State.grmEmpty_grammars,
        Map.get_upd_self]
      exact ⟨rfl, fun l => (State.grmLine_congr (State.logEvent_grmCache ..) g l).trans (State.grmLine_grmEmpty s g l)⟩
    · rw [State.grmUnload_drains hcap hready hrefs, State.updGrm_grammars, Map.get_upd_self]
      exact ⟨rfl, rfl⟩
    · rw [State.grmUnload_refused hcap hstate, State.updGrm_grammars, Map.get_upd_self]
      exact ⟨rfl, rfl⟩
  case complete =>
    intro s g im len f ok hloading
    refine ⟨⟨_, exec_grammarLoadComplete_error hloading, State.grmFail_slot ..⟩,
      _, exec_grammarLoadComplete_image hloading, fun j hj => s.grmCheck_others im hj, fun hheader => ?_,
      fun hheader hranges => ?_, fun hheader hranges htables => ?_, fun hheader hranges htables => ?_⟩
    · rw [State.grmCheck_badHeader hheader]
      exact State.grmFail_slot ..
    · rw [State.grmCheck_badRanges hheader hranges]
      exact State.grmFail_slot ..
    · rw [State.grmCheck_badTables hheader hranges htables]
      exact State.grmFail_slot ..
    · rw [State.grmCheck_passes hheader hranges htables, Map.get_upd_self]
      exact ⟨rfl, rfl, rfl, rfl, rfl⟩
  case timeout =>
    intro s g
    refine ⟨fun hloading => ⟨_, (exec_grammarLoadTimeout ..).trans (congrArg Host.Outcome.next (if_pos hloading)), ?_⟩,
      fun hidle => (exec_grammarLoadTimeout ..).trans (congrArg Host.Outcome.next (if_neg hidle))⟩
    obtain ⟨hempty, hstatus⟩ := s.grmFail_slot g 6
    exact ⟨hempty, hstatus, fun j hj => s.grmFail_others 6 hj⟩
  case line =>
    intro s g line i q bs
    refine ⟨fun hresident hlength => ?_, fun hidle => ?_⟩
    · obtain ⟨t, ht, hcache, hslots⟩ := exec_grammarFetchComplete_line line i q hresident hlength
      exact ⟨t, ht, State.grmLine_grmCacheWith hcache, hslots, hcache ▸ List.length_take_le ..⟩
    · simp only [exec_grammarFetchComplete, execGrammarFetchComplete, if_pos hidle]
  case read =>
    exact fun s g i q hfree hretiring hidle =>
      ⟨_, exec_grammarReadTimeout .., State.grmReadFailed_seqs g 1 hfree hretiring hidle⟩

end Sys2Proof.Machine
end

section
/-!
Requests (14, R397–R399, R412; 15, R432): what a descriptor that is read, a list that is fetched, an acceptance and a chunk of
a prompt leave.
-/
namespace Sys2Proof.Machine
open Sys2Proof Sys2Proof.Claims

/-! ### The head of a submission ring (R397) -/

/-- The scheduler's registers are not the log's. -/
theorem eventReg_sq {r : Nat} (hr : r < 4) : eventReg (Reg.SQ_CFG r) = false ∧ eventReg (Reg.SQ_HEAD r) = false := by
  have hcases : r = 0 ∨ r = 1 ∨ r = 2 ∨ r = 3 := by omega
  obtain rfl | rfl | rfl | rfl := hcases <;> exact ⟨rfl, rfl⟩

theorem State.sqFetch_regs (s : State) (r : Nat) : (s.sqFetch r).regs = s.regs :=
  (State.sqFetch_follows rfl (State.Follows.refl 35184372088840 s)).at State.regs 4 State.reset.regs (fun _ => rfl) rfl

/-- A fetch asks for a descriptor and holds none. -/
theorem State.sqFetch_desc (s : State) (r : Nat) : ((s.sqFetch r).subRings.get r).desc = (s.subRings.get r).desc := by
  unfold State.sqFetch
  dsimp only
  split
  · rfl
  · rw [State.emit_subRings, Map.get_upd_self]

/-- A ring's size fits its 5-bit field, so that an index of the ring is a register's value. -/
theorem mod_ringSize_lt (k cfg : Nat) : k % ringSize cfg < 2 ^ 32 :=
  Nat.lt_of_lt_of_le (Nat.mod_lt _ (Nat.two_pow_pos _))
    (Nat.pow_le_pow_right (by decide) (Nat.le_of_lt_succ (Nat.lt_of_lt_of_le (bits_lt cfg 4 0) (by decide))))

theorem State.sqAdvance_seqs (s : State) (r : Nat) : (s.sqAdvance r).seqs = s.seqs :=
  (State.sqAdvance_follows rfl (State.Follows.refl 9183121115185688 s)).at State.seqs 44 State.reset.seqs (fun _ => rfl) rfl

theorem State.sqAdvance_recRings (s : State) (r : Nat) : (s.sqAdvance r).recRings = s.recRings :=
  (State.sqAdvance_follows rfl (State.Follows.refl 9183121115185688 s)).at State.recRings 46 State.reset.recRings (fun _ => rfl) rfl

/-- Advancing the head of a state whose configuration and head are those of `s`. -/
theorem State.sqAdvance_headAdvanced {s t : State} {r : Nat} (hcfg : t.reg (Reg.SQ_CFG r) = s.reg (Reg.SQ_CFG r))
    (hhead : t.reg (Reg.SQ_HEAD r) = s.reg (Reg.SQ_HEAD r)) : HeadAdvanced s (t.sqAdvance r) r := by
  have hcfgN : t.regN (Reg.SQ_CFG r) = s.regN (Reg.SQ_CFG r) := congrArg BitVec.toNat hcfg
  have hheadN : t.regN (Reg.SQ_HEAD r) = s.regN (Reg.SQ_HEAD r) := congrArg BitVec.toNat hhead
  refine ⟨?_, ?_⟩
  · rw [State.sqAdvance, State.regN_congr (State.sqFetch_regs ..), State.regN_congr (State.irqEvents_regs ..), hcfgN, hheadN]
    exact (State.regN_setRegN ..).trans (Nat.mod_eq_of_lt (mod_ringSize_lt ..))
  · rw [State.sqAdvance, State.sqFetch_desc, State.irqEvents_subRings]
    exact congrArg SubRing.desc (Map.get_upd_self ..)

/-- What the host asked for over a ring that is disabled is gone, and its head stays. -/
theorem State.descError_ring (s : State) {r : Nat} (hr : r < 4) : bit ((s.descError r).regN (Reg.SQ_CFG r)) 31 = false ∧
    ((s.descError r).subRings.get r).fetchError = true ∧ ((s.descError r).subRings.get r).desc = none ∧
    (s.descError r).regN (Reg.SQ_HEAD r) = s.regN (Reg.SQ_HEAD r) := by
  obtain ⟨hcfg, hhead⟩ := eventReg_sq hr
  have hslot : ((s.descError r).subRings.get r) = { fetchError := true } := by
    rw [State.descError, State.logEvent_subRings]
    exact (Map.get_upd_self ..).trans (by rw [State.sqDisable, Map.get_upd_self])
  refine ⟨?_, by rw [hslot], by rw [hslot], ?_⟩
  · rw [State.descError, State.regN_logEvent hcfg]
    refine (congrArg (bit · 31) ((State.regN_setRegN ..).trans (Nat.mod_eq_of_lt ?_))).trans
      (bit_eq_false_of_lt (Nat.mod_lt _ (Nat.two_pow_pos 31)))
    exact Nat.lt_of_lt_of_le (Nat.mod_lt _ (Nat.two_pow_pos 31)) (by decide)
  · rw [State.descError, State.regN_logEvent hhead]
    exact State.regN_setRegN_ne _ _ (by simp [Reg.SQ_HEAD, Reg.SQ_CFG])

/-! ### A request that fails at its ring's head (R399) -/

/-- With a free entry a request that is not late completes: its record is queued, and the head advances past it. -/
theorem State.reject_completes {s : State} {r : Nat} {d : Desc} {status : Nat} (hr : r < 4)
    (hfree : s.entryFree (headRing r d) = true) (hlate : status ≠ 0x04) : HeadAdvanced s (s.reject r d status) r ∧
      (s.reject r d status).seqs = s.seqs ∧ ((s.reject r d status).recRings.get (headRing r d)).queue =
        (s.recRings.get (headRing r d)).queue ++ [recordBytes d.tag status [] 0 (s.insts.get d.inst).stepsSeal] := by
  obtain ⟨hcfg, hhead⟩ := eventReg_sq hr
  simp only [State.reject, hfree, hlate, Bool.not_true, Bool.false_eq_true, if_false]
  refine ⟨State.sqAdvance_headAdvanced ?_ ?_, ?_, ?_⟩
  · rw [State.reg_logLimited hcfg, State.reg_count_ne _ (by simp only [Reg.SQ_CFG, Reg.SCH_REJECTED]; omega)]
    rfl
  · rw [State.reg_logLimited hhead, State.reg_count_ne _ (by simp only [Reg.SQ_HEAD, Reg.SCH_REJECTED]; omega)]
    rfl
  · rw [State.sqAdvance_seqs, State.logLimited, State.logLimitedFor_seqs, State.count_seqs]
    rfl
  · rw [State.sqAdvance_recRings, State.logLimited, State.logLimitedFor_recRings, State.count_recRings]
    exact congrArg RecRing.queue (Map.get_upd_self ..)

/-! ### The checks at a ring's head (R399, R551) -/

section
variable {s : State} {r : Nat} {d : Desc} (hopen : s.pwr.shutting = false) (hdesc : (s.subRings.get r).desc = some d)
include hopen hdesc

/-- The head's checks pass: the request is ready. -/
theorem State.tryHead_passes (hshape : (s.subRings.get r).shape = true)
    (hcheck : s.checkRequest r d (s.subRings.get r).sampling = (s, .pass)) :
    s.tryHead r = ({ s with subRings := s.subRings.upd r (fun x => { x with ready := true }) }, true) := by
  simp [State.tryHead, hopen, hdesc, hshape, hcheck]

theorem State.tryHead_malformed (hshape : (s.subRings.get r).shape = false) :
    s.tryHead r = (s.reject r d 0x0C, false) := by
  simp [State.tryHead, hopen, hdesc, hshape]

end

/-- The ring whose head holds a descriptor that has just been read. -/
def State.holding (s : State) (r : Nat) (bs : List Byte) : State :=
  { s with subRings := s.subRings.upd r (fun x => { x with
      desc := some (parseDesc bs (bits (s.regN (Reg.SQ_CFG r)) 8 8)), raw := bs, reading := false
      shape := descShapeOk bs, sampling := samplingOk bs }) }

theorem State.holding_ring (s : State) (r : Nat) (bs : List Byte) : (s.holding r bs).subRings.get r =
    { s.subRings.get r with
      desc := some (parseDesc bs (bits (s.regN (Reg.SQ_CFG r)) 8 8)), raw := bs, reading := false
      shape := descShapeOk bs, sampling := samplingOk bs } := Map.get_upd_self ..

theorem exec_requestDescriptor_error {s : State} {r : Nat} (bs : List Byte) (hreading : (s.subRings.get r).reading = true) :
    exec (.requestDescriptor r true bs) s = .next (s.descError r) := by
  simp [exec_requestDescriptor, execRequestDescriptor, hreading]

theorem exec_requestDescriptor_holds {s : State} {r : Nat} (bs : List Byte) (hreading : (s.subRings.get r).reading = true) :
    exec (.requestDescriptor r false bs) s = .next ((s.holding r bs).tryHead r).1 := by
  simp only [exec_requestDescriptor, execRequestDescriptor, hreading, Bool.not_true, Bool.false_eq_true, if_false]
  rfl

/-- The ring whose head holds the tokens of its list. -/
def State.listed (s : State) (r : Nat) (toks : List Nat) : State :=
  { s with subRings := s.subRings.upd r (fun x => { x with listWait := false, list := toks }) }

theorem State.listed_ring (s : State) (r : Nat) (toks : List Nat) : (s.listed r toks).subRings.get r =
    { s.subRings.get r with listWait := false, list := toks } := Map.get_upd_self ..

section
variable {s : State} {r : Nat} {d : Desc} (toks : List Nat) (hdesc : (s.subRings.get r).desc = some d)
  (hwait : (s.subRings.get r).listWait = true)
include hdesc hwait

theorem exec_listFetchComplete_lists :
    exec (.listFetchComplete r false toks) s = .next ((s.listed r toks).tryHead r).1 := by
  simp only [exec_listFetchComplete, execListFetchComplete, hdesc, hwait, Bool.not_true, Bool.false_eq_true, if_false]
  rfl

theorem exec_listFetchComplete_error : exec (.listFetchComplete r true toks) s = .next (s.reject r d 0x0C) := by
  simp [exec_listFetchComplete, execListFetchComplete, hdesc, hwait]

end

/-! ### Acceptance (R399, R413) -/

/-- Checks that end in a pass have found a main instance (check 2 of R399). -/
theorem State.isDraft_of_pass {s t : State} {r : Nat} {d : Desc} {sampling : Bool}
    (h : s.checkRequest r d sampling = (t, .pass)) : s.isDraft d.inst = false := by
  cases hdraft : s.isDraft d.inst with
  | false => rfl
  | true =>
    unfold State.checkRequest at h
    simp only [hdraft, Bool.or_true, if_true] at h
    split at h <;> cases h

/-- The draft slot that a request takes. -/
def State.draftSlotFor (s : State) (d : Desc) : Option Nat :=
  if d.draft && !s.egressIcpen d.inst then (s.draftOf d.inst).bind (fun di => s.freeSlot di) else none

/-- The sequence that a request becomes. -/
def State.acceptedSeq (s : State) (r : Nat) (d : Desc) : Seq :=
  { state := .waiting, desc := { d with draft := (s.draftSlotFor d).isSome }, raw := (s.subRings.get r).raw
    list := (s.subRings.get r).list, accepted := s.time, since := s.time, p := s.pfxLen d, b := ownBase (s.pfxLen d)
    len := ownBase (s.pfxLen d), kCur := d.draftLen, draftSlot := s.draftSlotFor d, entry := true, gState := d.startState
    wslot := (s.winsts.get d.inst).current }

/-- The sequence takes its draft slot. -/
def State.seatDraft (s : State) (i : Nat) (x : Seq) : State :=
  match x.draftSlot, s.draftOf i with
  | some dq, some di =>
    { s with seqs := s.seqs.put (seqKey di dq) { x with entry := false, p := 0, draftSlot := none
                                                        wslot := (s.winsts.get di).current } }
  | _, _ => s

/-- A grammar request counts as a reference, and the lines of its first state are read. -/
def State.useGrammar (s : State) (d : Desc) : State :=
  let s := if d.mask = 3 then { s with grammars := s.grammars.upd d.grammar (fun g => { g with refs := g.refs + 1 }) } else s
  if d.mask = 3 then s.grmFetch d.grammar d.startState else s

theorem State.useGrammar_keeps (s : State) (d : Desc) : (s.useGrammar d).seqs = s.seqs ∧ (s.useGrammar d).regs = s.regs := by
  unfold State.useGrammar
  by_cases h : d.mask = 3
  · simp only [if_pos h]
    have hf := State.grmFetch_follows (g := d.grammar) (st := d.startState) rfl (State.Follows.refl 8
      { s with grammars := s.grammars.upd d.grammar (fun g => { g with refs := g.refs + 1 }) })
    exact ⟨hf.at State.seqs 44 State.reset.seqs (fun _ => rfl) rfl, hf.at State.regs 4 State.reset.regs (fun _ => rfl) rfl⟩
  · dsimp only
    rw [if_neg h, if_neg h]
    exact ⟨rfl, rfl⟩

/-- The request in slot q, before its draft slot is taken. -/
def State.seated (s : State) (r q : Nat) (d : Desc) : State := { s with seqs := s.seqs.put (seqKey d.inst q) (s.acceptedSeq r d) }

section
variable {s : State} {r q : Nat} {d : Desc} (hslot : s.freeSlot d.inst = some q)
include hslot

theorem State.accept_eq (hseal : s.heldSeal.get d.inst = false) (hcmd : (s.insts.get d.inst).heldCmd = false)
    (hentry : s.entryFree d.ring = true) : s.accept r d =
      (((((s.seated r q d).seatDraft d.inst (s.acceptedSeq r d)).useGrammar d).count64 Reg.SCH_ACCEPTED).fetchChunk d.inst q).sqAdvance
        r := by
  simp only [State.accept, hslot, hseal, hcmd, hentry, Bool.not_true, Bool.or_self, Bool.false_eq_true, if_false]
  rfl

end

/-- A free slot of an instance in range is below 4,096. -/
theorem State.freeSlot_lt {s : State} {i q : Nat} (hrange : SlotsInRange s) (h : s.freeSlot i = some q) : q < 4096 := by
  unfold State.freeSlot at h
  split at h
  case h_1 x hx =>
    exact Nat.lt_of_lt_of_le (List.mem_range.mp (List.mem_of_find?_eq_some h)) (hrange i x hx)
  case h_2 => exact absurd h (by simp)

/-- The draft instance of an instance is a draft instance. -/
theorem State.isDraft_draftOf {s : State} {i di : Nat} (h : s.draftOf i = some di) : s.isDraft di = true := by
  have hfound := List.find?_some h
  unfold State.isDraft
  split at hfound
  case h_1 x hx => exact (Bool.and_eq_true .. ▸ hfound).1
  case h_2 => exact absurd hfound Bool.false_ne_true

/-- A main instance's sequence stays where its draft slot, of another instance, is taken. -/
theorem State.seatDraft_seq {s : State} {i q : Nat} {x : Seq} (hmain : s.isDraft i = false) (hq : q < 4096)
    (hdraft : ∀ dq, x.draftSlot = some dq → dq < 4096) : (s.seatDraft i x).seq i q = s.seq i q := by
  unfold State.seatDraft
  split
  case h_1 dq di hdq hdi =>
    have hne : di ≠ i := fun h => Bool.false_ne_true (hmain.symm.trans (h ▸ State.isDraft_draftOf hdi))
    have hlow := hdraft dq hdq
    exact Map.get_put_ne _ _ (by simp only [seqKey]; omega)
  case h_2 => rfl

theorem State.seatDraft_regs (s : State) (i : Nat) (x : Seq) : (s.seatDraft i x).regs = s.regs := by
  unfold State.seatDraft
  split <;> rfl

/-- Reading a chunk of a prompt changes the sequence's chunk alone. -/
theorem State.fetchChunk_seq (s : State) (i q : Nat) :
    ∃ c, (s.fetchChunk i q).seq i q = { s.seq i q with chunk := c } ∧ (s.fetchChunk i q).regs = s.regs := by
  unfold State.fetchChunk
  dsimp only
  split
  · exact ⟨_, State.seq_updSeq .., rfl⟩
  · exact ⟨_, State.seq_updSeq s i q _, rfl⟩

/-- An acceptance: the lowest free slot holds the request, WAITING, and the head advances. -/
theorem State.accept_takes {s : State} {r q : Nat} {d : Desc} (hr : r < 4) (hrange : SlotsInRange s)
    (hmain : s.isDraft d.inst = false) (hslot : s.freeSlot d.inst = some q) (hseal : s.heldSeal.get d.inst = false)
    (hcmd : (s.insts.get d.inst).heldCmd = false) (hentry : s.entryFree d.ring = true) :
    HeadAdvanced s (s.accept r d) r ∧ ∃ c, (s.accept r d).seq d.inst q = { s.acceptedSeq r d with chunk := c } := by
  have hq := State.freeSlot_lt hrange hslot
  have hdq : ∀ dq, (s.acceptedSeq r d).draftSlot = some dq → dq < 4096 := by
    intro dq h
    have h' : s.draftSlotFor d = some dq := h
    unfold State.draftSlotFor at h'
    split at h'
    · obtain ⟨di, -, hfree⟩ := Option.bind_eq_some_iff.mp h'
      exact State.freeSlot_lt hrange hfree
    · cases h'
  rw [State.accept_eq hslot hseal hcmd hentry]
  generalize hu : s.seated r q d = u
  have hseq : ((u.seatDraft d.inst (s.acceptedSeq r d)).seq d.inst q) = s.acceptedSeq r d := by
    rw [← hu]
    exact (State.seatDraft_seq (s := s.seated r q d) hmain hq hdq).trans (Map.get_put_self ..)
  have huregs : u.regs = s.regs := by rw [← hu]; rfl
  obtain ⟨hseqs, hregs⟩ := (u.seatDraft d.inst (s.acceptedSeq r d)).useGrammar_keeps d
  obtain ⟨c, hchunk, hchunkRegs⟩ :=
    (((u.seatDraft d.inst (s.acceptedSeq r d)).useGrammar d).count64 Reg.SCH_ACCEPTED).fetchChunk_seq d.inst q
  have hreg : ∀ off, off ≠ Reg.SCH_ACCEPTED → off ≠ Reg.SCH_ACCEPTED + 4 →
      ((((u.seatDraft d.inst (s.acceptedSeq r d)).useGrammar d).count64 Reg.SCH_ACCEPTED).fetchChunk d.inst q).reg off =
        s.reg off := by
    intro off hlow hhigh
    rw [State.reg_congr hchunkRegs, State.count64, State.count64By, State.setReg64, State.setRegN,
      State.reg_setReg_ne _ _ hhigh, State.setRegN, State.reg_setReg_ne _ _ hlow]
    exact State.reg_congr ((hregs.trans (State.seatDraft_regs ..)).trans huregs) off
  refine ⟨State.sqAdvance_headAdvanced (hreg _ ?_ ?_) (hreg _ ?_ ?_), c, ?_⟩
  · simp only [Reg.SQ_CFG, Reg.SCH_ACCEPTED]; omega
  · simp only [Reg.SQ_CFG, Reg.SCH_ACCEPTED]; omega
  · simp only [Reg.SQ_HEAD, Reg.SCH_ACCEPTED]; omega
  · simp only [Reg.SQ_HEAD, Reg.SCH_ACCEPTED]; omega
  · rw [State.seq, State.sqAdvance_seqs]
    refine hchunk.trans (congrArg (fun x : Seq => { x with chunk := c }) ?_)
    exact (congrArg (fun m : Map Seq => m.get (seqKey d.inst q)) hseqs).trans hseq

/-- A ready request that its scheduler accepts. -/
theorem exec_requestAccepted_ready {s t : State} {r : Nat} {d : Desc} (hdesc : (s.subRings.get r).desc = some d)
    (htry : s.tryHead r = (t, true)) : exec (.requestAccepted r) s = .next (t.accept r d) := by
  simp [exec_requestAccepted, execRequestAccepted, hdesc, htry]

/-- Settles O46: a head's checks by `tryHead`, its failure by `reject`, its acceptance by `accept`. -/
theorem requests : Obligations.Requests := by
  refine ⟨?error, ?read, ?list, ?accepted, ?chunk⟩
  case error => exact fun s r bs hr hreading => ⟨_, exec_requestDescriptor_error bs hreading, s.descError_ring hr⟩
  case read =>
    intro s r bs d u hr hreading hopen
    have hring := s.holding_ring r bs
    refine ⟨fun hshape hcheck => ?_, fun hshape hfree => ?_⟩
    · have htry : (s.holding r bs).tryHead r = _ :=
        State.tryHead_passes (d := d) hopen (by rw [hring]) (by rw [hring]; exact hshape) (by rw [hring]; exact hcheck)
      refine ⟨_, exec_requestDescriptor_holds bs hreading, ?_⟩
      rw [htry, Map.get_upd_self, hring]
      exact ⟨rfl, rfl, rfl, rfl, rfl, rfl⟩
    · have htry : (s.holding r bs).tryHead r = _ :=
        State.tryHead_malformed (d := d) hopen (by rw [hring]) (by rw [hring]; exact hshape)
      refine ⟨_, exec_requestDescriptor_holds bs hreading, ?_⟩
      rw [htry]
      exact State.reject_completes (s := s.holding r bs) hr hfree (by decide)
  case list =>
    intro s r d toks hr hdesc hwait
    refine ⟨fun u hu hopen hshape hcheck => ?_, fun hfree => ?_⟩
    · subst hu
      have hring := s.listed_ring r toks
      have htry : (s.listed r toks).tryHead r = _ := State.tryHead_passes (d := d) hopen (by rw [hring]; exact hdesc)
        (by rw [hring]; exact hshape) (by rw [hring]; exact hcheck)
      refine ⟨_, exec_listFetchComplete_lists toks hdesc hwait, ?_⟩
      rw [htry, Map.get_upd_self, hring]
      exact ⟨rfl, rfl, rfl, hdesc⟩
    · exact ⟨_, exec_listFetchComplete_error toks hdesc hwait, State.reject_completes hr hfree (by decide)⟩
  case accepted =>
    intro s r q d hr hrange hdesc hshape hopen hcheck hslot hseal hcmd hentry
    have hmain : s.isDraft d.inst = false := State.isDraft_of_pass hcheck
    obtain ⟨hhead, c, hseq⟩ := State.accept_takes
      (s := { s with subRings := s.subRings.upd r (fun x => { x with ready := true }) }) hr hrange hmain hslot hseal hcmd
      hentry
    refine ⟨_, exec_requestAccepted_ready hdesc (State.tryHead_passes hopen hdesc hshape hcheck), hhead, ?_⟩
    rw [hseq]
    exact ⟨rfl, rfl, rfl, rfl, rfl⟩
  case chunk =>
    intro s i q toks hfetching
    refine ⟨fun hlength => ?_, ?_⟩
    · simp [exec_promptChunkFetch, execPromptChunkFetch, hfetching, hlength]
    · simp [exec_promptChunkFetch, execPromptChunkFetch, hfetching]

end Sys2Proof.Machine
end

section
/-!
Scheduler commands, deadlines and the step limit (14, R403, R416, R422, R424, R425): what they leave of the sequences, whatever
the form of their storage.
-/
namespace Sys2Proof

variable {α : Type}

/-! ### Storage whose cells may stand in any order -/

/-- A read answers the default or a cell. -/
theorem Map.find_eq_or_mem (d : α) (m : List (Nat × α)) (k : Nat) : Map.find d m k = d ∨ (k, Map.find d m k) ∈ m := by
  induction m with
  | nil => exact .inl rfl
  | cons c m ih =>
    obtain ⟨j, v⟩ := c
    by_cases h : j = k
    · subst h
      simp [Map.find]
    · simp only [Map.find, if_neg h]
      exact ih.imp_right (List.mem_cons_of_mem _)

theorem Map.mem_of_mem_drop {m : List (Nat × α)} {k : Nat} {c : Nat × α} (h : c ∈ Map.drop m k) : c ∈ m ∧ c.1 ≠ k := by
  induction m with
  | nil => exact absurd h (by simp [Map.drop])
  | cons x m ih =>
    obtain ⟨j, v⟩ := x
    by_cases hj : j = k
    · rw [Map.drop, if_pos hj] at h
      exact ⟨List.mem_cons_of_mem _ (ih h).1, (ih h).2⟩
    · rw [Map.drop, if_neg hj] at h
      obtain rfl | h := List.mem_cons.mp h
      · exact ⟨List.mem_cons_self, hj⟩
      · exact ⟨List.mem_cons_of_mem _ (ih h).1, (ih h).2⟩

theorem Map.mem_of_mem_place {m : List (Nat × α)} {k : Nat} {v : α} {c : Nat × α} (h : c ∈ Map.place m k v) :
    c = (k, v) ∨ c ∈ m := by
  induction m with
  | nil => exact .inl (List.mem_singleton.mp h)
  | cons x m ih =>
    obtain ⟨j, w⟩ := x
    rw [Map.place] at h
    split at h
    · exact (List.mem_cons.mp h)
    · split at h
      · exact (List.mem_cons.mp h).imp_right (List.mem_cons_of_mem _)
      · obtain rfl | h := List.mem_cons.mp h
        · exact .inr List.mem_cons_self
        · exact (ih h).imp_right (List.mem_cons_of_mem _)

/-- A value that is not the default, and stays so when every value changes, is read changed. -/
theorem Map.find_mapVals_of_ne [DecidableEq α] {d : α} {f : Nat → α → α} {k : Nat} {m : List (Nat × α)}
    (h : Map.find d m k ≠ d) (hf : f k (Map.find d m k) ≠ d) :
    Map.find d ((m.map (fun c => (c.1, f c.1 c.2))).filter (fun c => decide (c.2 ≠ d))) k = f k (Map.find d m k) := by
  induction m with
  | nil => exact absurd rfl h
  | cons c m ih =>
    obtain ⟨j, v⟩ := c
    by_cases hj : j = k
    · subst hj
      simp only [Map.find, if_true] at hf ⊢
      simp [hf, Map.find]
    · simp only [Map.find, if_neg hj] at h hf ⊢
      rw [List.map_cons, List.filter_cons]
      split
      · simp only [Map.find, if_neg hj]
        exact ih h hf
      · exact ih h hf

variable [Inhabited α] [DecidableEq α]

theorem Map.mem_of_mem_put {m : Map α} {k : Nat} {v : α} {c : Nat × α} (h : c ∈ (m.put k v).cells) :
    c = (k, v) ∨ c ∈ m.cells := by
  unfold Map.put at h
  dsimp only at h
  split at h
  · exact .inr (Map.mem_of_mem_drop h).1
  · exact Map.mem_of_mem_place h

theorem Map.get_mapVals_of_ne {m : Map α} {f : Nat → α → α} {k : Nat} (h : m.get k ≠ default)
    (hf : f k (m.get k) ≠ default) : (m.mapVals f).get k = f k (m.get k) := Map.find_mapVals_of_ne h hf

end Sys2Proof

namespace Sys2Proof.Machine
open Sys2Proof Sys2Proof.Claims

/-! ### Commands and events that change no sequence -/

theorem State.evictedEvent_seqs (s : State) (i q cause : Nat) : (s.evictedEvent i q cause).seqs = s.seqs :=
  (State.evictedEvent_follows rfl (State.Follows.refl 153122387330597656 s)).at State.seqs 44 State.reset.seqs (fun _ => rfl) rfl
theorem State.lateEvent_seqs (s : State) (i : Nat) : (s.lateEvent i).seqs = s.seqs :=
  (State.lateEvent_follows rfl (State.Follows.refl 153122387330597656 s)).at State.seqs 44 State.reset.seqs (fun _ => rfl) rfl

/-- A command that succeeds shows its status and logs nothing (R425). -/
theorem State.schDone_ok (s : State) (p : Port) (cmd i q : Nat) :
    (s.schDone p cmd i q 0).1 = { s with schStatus := 0, schCmd := cmd } := rfl

/-- A command that fails shows why and changes no sequence. -/
theorem State.schDone_fails (s : State) (p : Port) (cmd i q : Nat) :
    (s.schDone p cmd i q 1).1.schStatus = 1 ∧ (s.schDone p cmd i q 1).1.seqs = s.seqs :=
  ⟨(State.logEvent_schStatus ..).trans rfl, (State.logEvent_seqs ..).trans rfl⟩

/-! ### A sequence that is to end (R403) -/

/-- A sequence of the step in progress is due a status; another is RETIRING with it. -/
def Seq.endsWith (status : Nat) (y : Seq) : Seq :=
  if y.inStep && !y.recorded then { y with due := if y.due == some 0x06 then y.due else some status }
  else { y with state := .retiring, due := some status }

theorem Seq.endsWith_inStep {y : Seq} (status : Nat) (hstep : y.inStep = true) (hrecorded : y.recorded = false) :
    y.endsWith status = { y with due := if y.due == some 0x06 then y.due else some status } := by
  simp [Seq.endsWith, hstep, hrecorded]

theorem Seq.endsWith_outside {y : Seq} (status : Nat) (h : y.inStep = false ∨ y.recorded = true) :
    y.endsWith status = { y with state := .retiring, due := some status } := by
  obtain h | h := h <;> simp [Seq.endsWith, h]

theorem State.retireSoon_seqs (s : State) (i q status : Nat) :
    (s.retireSoon i q status).seqs = s.seqs.upd (seqKey i q) (Seq.endsWith status) := by
  unfold State.retireSoon Map.upd Seq.endsWith
  dsimp only [State.seq]
  by_cases h : ((s.seqs.get (seqKey i q)).inStep && !(s.seqs.get (seqKey i q)).recorded) = true
  · rw [if_pos h, if_pos h]
    rfl
  · rw [if_neg h, if_neg h]
    split <;> rfl

/-! ### Evictions (R425) -/

/-- A sequence that an eviction has reached: RETIRING, or in the step in progress and due EVICTED. -/
def Seq.Evicted (x : Seq) : Prop := x.state = .retiring ∨ (x.inStep = true ∧ x.due = some 0x06)

theorem Seq.evicted_endsWith (x : Seq) : (x.endsWith 0x06).Evicted := by
  by_cases h : x.inStep = true ∧ x.recorded = false
  · rw [Seq.endsWith_inStep _ h.1 h.2]
    refine .inr ⟨h.1, ?_⟩
    dsimp only
    split
    · next hdue => exact eq_of_beq hdue
    · rfl
  · have hout : x.inStep = false ∨ x.recorded = true := by
      cases hin : x.inStep with
      | false => exact .inl rfl
      | true => exact .inr (by simpa only [hin, true_and, Bool.not_eq_false] using h)
    rw [Seq.endsWith_outside _ hout]
    exact .inl rfl

/-- An evicted sequence is not an empty slot. -/
theorem Seq.Evicted.ne_default {x : Seq} (h : x.Evicted) : x ≠ default := by
  rintro rfl
  obtain h | ⟨h, -⟩ := h <;> exact absurd h (by decide)

/-- A main instance's sequences no longer draft with slot q of instance i. -/
def State.undraft (s : State) (i q : Nat) (k : Nat) (x : Seq) : Seq :=
  if k / 4096 = s.mainOf i ∧ x.draftSlot = some q then { x with draftSlot := none, desc := { x.desc with draft := false } }
  else x

theorem State.undraft_state (s : State) (i q k : Nat) (x : Seq) : (s.undraft i q k x).state = x.state := by
  unfold State.undraft
  split <;> rfl

theorem State.undraft_evicted {s : State} {x : Seq} (h : x.Evicted) (i q k : Nat) : (s.undraft i q k x).Evicted := by
  unfold State.undraft
  split <;> exact h

theorem State.stepCheck_draft_seqs {s : State} {i : Nat} (h : s.isDraft i = true) : (s.stepCheck i).seqs = s.seqs := by
  unfold State.stepCheck
  dsimp only
  split <;> rfl

theorem State.evictSlot_main {s : State} {i : Nat} (h : s.isDraft i = false) (q : Nat) :
    (s.evictSlot i q).seqs = s.seqs.upd (seqKey i q) (Seq.endsWith 0x06) := by
  rw [State.evictSlot, State.evictedEvent_seqs]
  simp only [h, Bool.false_eq_true, if_false]
  exact State.retireSoon_seqs ..

theorem State.evictSlot_draft {s : State} {i : Nat} (h : s.isDraft i = true) (q : Nat) : (s.evictSlot i q).seqs =
    (s.seqs.upd (seqKey i q) (fun x => { x with state := .retiring })).mapVals (s.undraft i q) := by
  rw [State.evictSlot, State.evictedEvent_seqs]
  simp only [h, if_true]
  exact State.stepCheck_draft_seqs h

/-- A draft slot that is evicted ends with its boundary. -/
theorem State.evictSlot_draft_state {s : State} {i : Nat} (h : s.isDraft i = true) (q : Nat) :
    ((s.evictSlot i q).seq i q).state = .retiring := by
  have hget : (s.seqs.upd (seqKey i q) (fun x => { x with state := .retiring })).get (seqKey i q) =
      { s.seq i q with state := .retiring } := Map.get_upd_self ..
  have hevicted : Seq.Evicted { s.seq i q with state := .retiring } := .inl rfl
  rw [State.seq, State.evictSlot_draft h, Map.get_mapVals_of_ne, hget, State.undraft_state]
  · rw [hget]
    exact hevicted.ne_default
  · rw [hget]
    exact (State.undraft_evicted hevicted ..).ne_default

theorem State.evicted_evictSlot_self (s : State) (i q : Nat) : ((s.evictSlot i q).seq i q).Evicted := by
  cases h : s.isDraft i with
  | true => exact .inl (State.evictSlot_draft_state h q)
  | false =>
    rw [State.seq, State.evictSlot_main h, Map.get_upd_self]
    exact Seq.evicted_endsWith _

/-- Evicting one slot leaves every evicted sequence evicted. -/
theorem State.evicted_evictSlot {s : State} {k : Nat} (hk : (s.seqs.get k).Evicted) (i q : Nat) :
    ((s.evictSlot i q).seqs.get k).Evicted := by
  cases h : s.isDraft i with
  | true =>
    have hget : ((s.seqs.upd (seqKey i q) (fun x => { x with state := .retiring })).get k).Evicted := by
      rw [Map.get_upd]
      split
      · exact .inl rfl
      · exact hk
    rw [State.evictSlot_draft h, Map.get_mapVals_of_ne hget.ne_default (State.undraft_evicted hget ..).ne_default]
    exact State.undraft_evicted hget ..
  | false =>
    rw [State.evictSlot_main h, Map.get_upd]
    split
    · exact Seq.evicted_endsWith _
    · exact hk

/-- The slots of a list are evicted one after the other. -/
def State.evictSlots (s : State) (i : Nat) (qs : List Nat) : State := qs.foldl (fun (s : State) q => s.evictSlot i q) s

theorem State.evicted_evictSlots {s : State} {k : Nat} (hk : (s.seqs.get k).Evicted) (i : Nat) (qs : List Nat) :
    ((s.evictSlots i qs).seqs.get k).Evicted := by
  induction qs generalizing s with
  | nil => exact hk
  | cons q qs ih => exact ih (State.evicted_evictSlot hk i q)

theorem State.evicted_evictSlots_mem {s : State} {i q : Nat} {qs : List Nat} (h : q ∈ qs) :
    ((s.evictSlots i qs).seq i q).Evicted := by
  induction qs generalizing s with
  | nil => exact absurd h List.not_mem_nil
  | cons r qs ih =>
    obtain rfl | h := List.mem_cons.mp h
    · exact State.evicted_evictSlots (s.evicted_evictSlot_self i q) i qs
    · exact ih h

/-- EVICT_ALL evicts the residents of the instance, and then those of its draft instance. -/
theorem exec_evictAll_sealed {s : State} {i : Nat} (p : Port) (h : s.hasInst i = true) : ∃ d qs,
    exec (.evictAll p i) s = .next ((((s.evictSlots i (s.residents i)).evictSlots d qs).schDone p 2 i 0 0).1) := by
  simp only [exec_evictAll, execEvictAll, State.schEvictAll, h, Bool.not_true, Bool.false_eq_true, if_false]
  split
  · exact ⟨_, _, rfl⟩
  · exact ⟨0, [], rfl⟩

/-! ### Slots that are FREE (R422) -/

/-- No cell of the storage holds a sequence at the key. -/
def State.FreeAt (s : State) (k : Nat) : Prop := ∀ c ∈ s.seqs.cells, c.1 = k → c.2.state = .free

theorem State.FreeAt.congr {s t : State} {k : Nat} (h : s.FreeAt k) (e : t.seqs = s.seqs) : t.FreeAt k := by
  rw [State.FreeAt, e]
  exact h

theorem State.FreeAt.state {s : State} {k : Nat} (h : s.FreeAt k) : (s.seqs.get k).state = .free := by
  obtain hdefault | hmem := Map.find_eq_or_mem default s.seqs.cells k
  · rw [Map.get, hdefault]
    rfl
  · exact h _ hmem rfl

/-- A change of one sequence that keeps its state. -/
theorem State.FreeAt.upd {s t : State} {k : Nat} (h : s.FreeAt k) {j : Nat} {f : Seq → Seq} (hf : ∀ x, (f x).state = x.state)
    (e : t.seqs = s.seqs.upd j f) : t.FreeAt k := by
  rw [State.FreeAt, e]
  intro c hc hkey
  obtain rfl | hc := Map.mem_of_mem_put hc
  · rw [hf]
    exact (show j = k from hkey) ▸ h.state
  · exact h c hc hkey

theorem State.FreeAt.mapVals {s t : State} {k : Nat} (h : s.FreeAt k) {f : Nat → Seq → Seq}
    (hf : ∀ j x, (f j x).state = x.state) (e : t.seqs = s.seqs.mapVals f) : t.FreeAt k := by
  rw [State.FreeAt, e]
  intro c hc hkey
  obtain ⟨c', hc', rfl⟩ := List.mem_map.mp (List.mem_filter.mp hc).1
  rw [hf]
  exact h c' hc' hkey

theorem State.FreeAt.foldl {α : Type} {f : State → α → State} {k : Nat} (hf : ∀ s x, s.FreeAt k → (f s x).FreeAt k)
    (l : List α) {s : State} (h : s.FreeAt k) : (l.foldl f s).FreeAt k := by
  induction l generalizing s with
  | nil => exact h
  | cons x l ih => exact ih (hf s x h)

/-- What one slot held is given back, and its cells go. -/
theorem State.freeOne_seqs (s : State) (i q : Nat) : (s.freeOne i q).seqs = s.seqs.put (seqKey i q) {} := by
  have hunmap : (s.unmapPrefix i q).seqs = s.seqs :=
    (State.unmapPrefix_follows rfl (State.Follows.refl 36507222032 s)).at State.seqs 44 State.reset.seqs (fun _ => rfl) rfl
  have hframes : ((s.unmapPrefix i q).freeFrames i q).seqs = (s.unmapPrefix i q).seqs :=
    (State.freeFrames_follows rfl (State.Follows.refl 19327352848 (s.unmapPrefix i q))).at State.seqs 44 State.reset.seqs
      (fun _ => rfl) rfl
  exact congrArg (fun m : Map Seq => m.put (seqKey i q) {}) (hframes.trans hunmap)

theorem State.freeAt_freeOne_self (s : State) (i q : Nat) : (s.freeOne i q).FreeAt (seqKey i q) := by
  intro c hc hkey
  rw [State.freeOne_seqs] at hc
  exact absurd hkey (Map.mem_of_mem_drop hc).2

theorem State.FreeAt.freeOne {s : State} {k : Nat} (h : s.FreeAt k) (i q : Nat) : (s.freeOne i q).FreeAt k := by
  intro c hc hkey
  rw [State.freeOne_seqs] at hc
  exact h c (Map.mem_of_mem_drop hc).1 hkey

theorem State.FreeAt.serveEntries {s : State} {k : Nat} (h : s.FreeAt k) (r : Nat) : (s.serveEntries r).FreeAt k := by
  unfold State.serveEntries
  refine State.FreeAt.foldl (fun t c ht => ?_) _ (State.FreeAt.foldl (fun t b ht => ?_) _ h)
  · split
    · exact ht.upd (f := fun y => { y with entry := true }) (fun _ => rfl) rfl
    · exact ht
  · split
    · exact ht.congr rfl
    · exact ht

/-- A record changes no sequence's state. -/
theorem State.FreeAt.record {s : State} {k : Nat} (h : s.FreeAt k) (i q status flags : Nat) (toks : List Nat) (more : Bool) :
    (s.record i q status toks flags more).FreeAt k := by
  have hfirst : (s.updSeq i q (fun y => { y with lastStatus := status, recorded := true })).FreeAt k :=
    h.upd (f := fun y => { y with lastStatus := status, recorded := true }) (fun _ => rfl) rfl
  unfold State.record
  dsimp only
  split
  · have hentry : ((s.updSeq i q (fun y => { y with lastStatus := status, recorded := true })).updSeq i q
        (fun y => { y with entry := false })).FreeAt k := hfirst.upd (f := fun y => { y with entry := false }) (fun _ => rfl) rfl
    split
    · exact hentry.upd (f := fun y => { y with entry := true }) (fun _ => rfl) rfl
    · exact hentry.congr rfl
  · exact hfirst.congr rfl

/-- The slot and its draft slot become FREE; the entries that this frees change no state. -/
theorem State.freeSeq_parts (s : State) (i q : Nat) : ∃ t : State, (∀ k, s.FreeAt k → t.FreeAt k) ∧
    s.freeSeq i q = (t.freeOne i q).serveEntries (s.seq i q).desc.ring := by
  unfold State.freeSeq
  dsimp only
  refine ⟨_, fun k h => ?_, rfl⟩
  split
  · refine State.FreeAt.freeOne ?_ _ _
    split <;> exact h.congr rfl
  · split <;> exact h.congr rfl

theorem State.freeAt_freeSeq_self (s : State) (i q : Nat) : (s.freeSeq i q).FreeAt (seqKey i q) := by
  obtain ⟨t, -, ht⟩ := s.freeSeq_parts i q
  exact ht ▸ (t.freeAt_freeOne_self i q).serveEntries _

theorem State.FreeAt.freeSeq {s : State} {k : Nat} (h : s.FreeAt k) (i q : Nat) : (s.freeSeq i q).FreeAt k := by
  obtain ⟨t, hkeeps, ht⟩ := s.freeSeq_parts i q
  exact ht ▸ ((hkeeps k h).freeOne i q).serveEntries _

/-! ### A stall (R422) -/

/-- One resident sequence at a stall. -/
def State.stallSlot (s : State) (i q : Nat) : State :=
  if s.isDraft i then s.freeOne i q else ((s.record i q 0x06 [] 0 false).evictedEvent i q 1).freeSeq i q

theorem State.freeAt_stallSlot_self (s : State) (i q : Nat) : (s.stallSlot i q).FreeAt (seqKey i q) := by
  unfold State.stallSlot
  split
  · exact s.freeAt_freeOne_self i q
  · exact State.freeAt_freeSeq_self _ i q

theorem State.FreeAt.stallSlot {s : State} {k : Nat} (h : s.FreeAt k) (i q : Nat) : (s.stallSlot i q).FreeAt k := by
  unfold State.stallSlot
  split
  · exact h.freeOne i q
  · exact ((h.record i q 0x06 0 [] false).congr (State.evictedEvent_seqs ..)).freeSeq i q

theorem State.freeAt_stallSlots {i q : Nat} {qs : List Nat} (h : q ∈ qs) (s : State) :
    (qs.foldl (fun (s : State) q => s.stallSlot i q) s).FreeAt (seqKey i q) := by
  induction qs generalizing s with
  | nil => exact absurd h List.not_mem_nil
  | cons r qs ih =>
    obtain rfl | h := List.mem_cons.mp h
    · exact State.FreeAt.foldl (fun t q ht => ht.stallSlot i q) qs (s.freeAt_stallSlot_self i q)
    · exact ih h _

/-- A draft instance that stalls takes its slots from the sequences that draft with them. -/
def State.stallUndraft (s : State) (i : Nat) : State :=
  if s.isDraft i then { s with seqs := s.seqs.mapVals (fun k x =>
      if k / 4096 = s.mainOf i ∧ x.draftSlot.isSome then { x with draftSlot := none, desc := { x.desc with draft := false } } else x) }
  else s

theorem State.FreeAt.stallUndraft {s : State} {k : Nat} (h : s.FreeAt k) (i : Nat) : (s.stallUndraft i).FreeAt k := by
  unfold State.stallUndraft
  split
  · refine h.mapVals (f := fun k x => if k / 4096 = s.mainOf i ∧ x.draftSlot.isSome then
      { x with draftSlot := none, desc := { x.desc with draft := false } } else x) (fun j x => ?_) rfl
    dsimp only
    split <;> rfl
  · exact h

/-- The slots of the draft instance become FREE. -/
def State.stallDrafts (s : State) (i : Nat) : State :=
  let ds : List Nat := match s.draftOf i with
    | some d => s.slotsOf d
    | none => []
  ds.foldl (fun (s : State) q => s.freeOne ((s.draftOf i).getD 16) q) s

theorem State.FreeAt.stallDrafts {s : State} {k : Nat} (h : s.FreeAt k) (i : Nat) : (s.stallDrafts i).FreeAt k :=
  State.FreeAt.foldl (fun t q ht => ht.freeOne ((t.draftOf i).getD 16) q) _ h

/-- The draft instance's steps are over, and the instance is stalled. -/
def State.stallRun (s : State) (i cause who : Nat) : State :=
  let step := (s.insts.get i).stepsSeal
  let s := match s.draftOf i with
    | some d => s.updInst d (fun x => if x.draftStep = 0 then x else
        { x with draftStep := 0, state := if x.state = 3 then 3 else 0, ents := [], rows := [], ended := false })
    | none => s
  let s := s.updInst i (fun x => { x with state := 3, stallCause := cause, ents := [], rows := [], ended := false })
  let s := { s with smpRows := s.smpRows.keep (fun k _ => k / 4096 != i) }
  s.logEvent 0x4901 [(1, i), (1, cause), (1, who), (8, step)]

theorem State.stallRun_seqs (s : State) (i cause who : Nat) : (s.stallRun i cause who).seqs = s.seqs := by
  unfold State.stallRun
  dsimp only
  rw [State.logEvent_seqs]
  split <;> rfl

theorem State.stallRun_inst (s : State) (i cause who : Nat) : ∃ x : InstRun, (s.stallRun i cause who).insts.get i =
    { x with state := 3, stallCause := cause, ents := [], rows := [], ended := false } := by
  unfold State.stallRun
  dsimp only
  rw [State.logEvent_insts]
  exact ⟨_, Map.get_upd_self ..⟩

/-- A stall frees every resident sequence, ends what the draft instance holds, and stops the run. -/
theorem State.stall_parts (s : State) (i cause who : Nat) : ∃ t : State, s.stall i cause who = t.stallRun i cause who ∧
    ∀ q ∈ s.residents i, t.FreeAt (seqKey i q) := by
  refine ⟨(((s.residents i).foldl (fun (s : State) q => s.stallSlot i q) s).stallUndraft i).stallDrafts i, rfl, fun q hq => ?_⟩
  exact ((State.freeAt_stallSlots (i := i) hq s).stallUndraft i).stallDrafts i

theorem exec_stepLimitExpiry_stalls {s : State} {i : Nat} (hstep : (s.insts.get i).state = 1)
    (hended : (s.insts.get i).ended = false) (hinst : s.hasInst i = true) (hlimit : s.regN Reg.SCH_STEP_LIMIT ≠ 0) :
    exec (.stepLimitExpiry i) s = .next (s.stall i 3 0) := by
  simp [exec_stepLimitExpiry, execStepLimitExpiry, State.stallIf, hstep, hended, hinst, hlimit]

/-! ### Deadlines (R416) -/

theorem exec_deadlinePassed_resident {s : State} {i q : Nat} (hfree : (s.seq i q).state ≠ .free)
    (hretiring : (s.seq i q).state ≠ .retiring) (hdeadline : (s.seq i q).desc.deadline.isSome = true)
    (hmain : s.isDraft i = false) : ∃ t, exec (.deadlinePassed i q) s = .next t ∧
      t.seq i q = (s.seq i q).endsWith 0x04 := by
  have hdue : ¬((s.seq i q).state = .free ∨ (s.seq i q).state = .retiring ∨ (s.seq i q).desc.deadline.isNone = true ∨
      s.isDraft i = true) := by
    simp [hfree, hretiring, hmain, Option.isSome_iff_ne_none.mp hdeadline]
  have hseq : (s.retireSoon i q 0x04).seq i q = (s.seq i q).endsWith 0x04 := by
    rw [State.seq, State.retireSoon_seqs, Map.get_upd_self, State.seq]
  refine ⟨_, exec_deadlinePassed .., ?_⟩
  simp only [if_neg hdue]
  split
  · exact hseq
  · rw [State.seq, State.lateEvent_seqs]
    exact hseq

/-- Settles O47: evictions by `evictSlot`, deadlines by `retireSoon`, the step limit by `stall`. -/
theorem schedulerCommands : Obligations.SchedulerCommands := by
  refine ⟨?evict, ?all, ?hold, ?release, ?deadline, ?limit⟩
  case evict =>
    intro s p i q x
    refine ⟨fun hfree hretiring => ?_, fun hstate => ?_⟩
    · have hresident : ¬((s.seq i q).state = .free ∨ (s.seq i q).state = .retiring) := not_or.mpr ⟨hfree, hretiring⟩
      have hexec : exec (.evict p i q) s = .next { s.evictSlot i q with schStatus := 0, schCmd := 1 } := by
        simp only [exec_evict, execEvict, State.schEvict, if_neg hresident, State.schDone_ok]
      have hmain : s.isDraft i = false → (s.evictSlot i q).seq i q = x.endsWith 0x06 := fun h => by
        rw [State.seq, State.evictSlot_main h, Map.get_upd_self, ← State.seq]
      refine ⟨_, hexec, rfl, rfl, fun h hstep hrecorded => ?_, fun h hout => ?_, fun h => State.evictSlot_draft_state h q⟩
      · obtain hretired | ⟨-, hdue⟩ := x.evicted_endsWith
        · rw [Seq.endsWith_inStep _ hstep hrecorded] at hretired
          exact absurd hretired hretiring
        · refine ⟨(congrArg Seq.state (hmain h)).trans ?_, (congrArg Seq.due (hmain h)).trans hdue⟩
          rw [Seq.endsWith_inStep _ hstep hrecorded]
      · refine ⟨(congrArg Seq.state (hmain h)).trans ?_, (congrArg Seq.due (hmain h)).trans ?_⟩ <;>
          rw [Seq.endsWith_outside _ hout]
    · refine ⟨_, exec_evict .., ?_⟩
      simp only [State.schEvict, if_pos (show (s.seq i q).state = .free ∨ (s.seq i q).state = .retiring from hstate)]
      exact s.schDone_fails p 1 i q
  case all =>
    intro s p i hinst
    obtain ⟨d, qs, hexec⟩ := exec_evictAll_sealed p hinst
    exact ⟨_, hexec, rfl, fun q hq => State.evicted_evictSlots (State.evicted_evictSlots_mem hq) d qs⟩
  case hold =>
    intro s p i hinst
    refine ⟨{ s.updInst i (fun x => { x with heldCmd := true }) with schStatus := 0, schCmd := 3 }, ?_, rfl, rfl,
      Map.get_upd_self .., rfl, fun j hj => Map.get_upd_ne _ _ hj⟩
    simp [exec_hold, execHold, State.schHold, hinst, State.schDone_ok]
  case release =>
    intro s p i hheld
    refine ⟨{ s.updInst i (fun x => { x with heldCmd := false }) with schStatus := 0, schCmd := 4 }, ?_, rfl, rfl,
      Map.get_upd_self .., rfl, fun j hj => Map.get_upd_ne _ _ hj⟩
    simp [exec_release, execRelease, State.schRelease, hheld, State.schDone_ok]
  case deadline =>
    intro s i q x hfree hretiring hdeadline hmain
    obtain ⟨t, ht, hseq⟩ := exec_deadlinePassed_resident hfree hretiring hdeadline hmain
    refine ⟨t, ht, fun hstep hrecorded => ?_, fun hout => ?_⟩
    · rw [hseq, Seq.endsWith_inStep _ hstep hrecorded]
      refine ⟨rfl, ?_⟩
      by_cases hdue : x.due = some 6
      · simp [x, hdue]
      · simp [x, hdue]
    · rw [hseq, Seq.endsWith_outside _ hout]
      exact ⟨rfl, rfl⟩
  case limit =>
    intro s i hstep hended hinst hlimit
    obtain ⟨t, hstall, hfreed⟩ := s.stall_parts i 3 0
    obtain ⟨x, hrun⟩ := t.stallRun_inst i 3 0
    refine ⟨_, exec_stepLimitExpiry_stalls hstep hended hinst hlimit, ?_⟩
    rw [hstall, hrun]
    exact ⟨rfl, rfl, rfl, fun q hq => ((hfreed q hq).congr (t.stallRun_seqs i 3 0)).state⟩

end Sys2Proof.Machine
end

section
/-!
In-field tests (18, R528-R531): the slot of a test, and what START, ABORT and the end of a slice leave of it.
-/
namespace Sys2Proof.Machine
open Sys2Proof Sys2Proof.Claims

/-! ### The slot of a test -/

@[simp] theorem State.updTest_tests (s : State) (j : Nat) (f : FieldTest → FieldTest) : (s.updTest j f).tests = s.tests.upd j f := rfl
@[simp] theorem State.updTest_arr (s : State) (j : Nat) (f : FieldTest → FieldTest) (n a : Nat) : (s.updTest j f).arr n a = s.arr n a := rfl

/-- The test found for a target runs, and is of that target. -/
theorem State.testOf_running {s : State} {target j : Nat} (h : s.testOf target = some j) :
    (s.tests.get j).status = 2 ∧ (s.tests.get j).target = target := by
  have := List.find?_some h
  simpa using this

/-- A slot is free while fewer than 8 tests run, and the lowest is found. -/
theorem State.freeTestSlot {s : State} (h : s.testsRunning < 8) :
    ∃ j, firstBelow 8 (fun j => (s.tests.get j).status != 2) = some j ∧ j < 8 ∧ (s.tests.get j).status ≠ 2 := by
  cases hj : firstBelow 8 (fun j => (s.tests.get j).status != 2) with
  | some j => exact ⟨j, rfl, List.mem_range.mp (List.mem_of_find?_eq_some hj), by simpa using List.find?_some hj⟩
  | none =>
    have hall : ∀ j ∈ List.range 8, ((s.tests.get j).status == 2) = true := by
      simpa [firstBelow, List.find?_eq_none] using hj
    rw [State.testsRunning, List.filter_eq_self.mpr hall, List.length_range] at h
    exact absurd h (Nat.lt_irrefl 8)

/-- A test with parts left goes on while no spare array stands in at its target (R529). -/
theorem State.trimTest_goes_on {s : State} {j : Nat} (hparts : (s.tests.get j).parts ≠ 0)
    (hstand : (s.arr (s.tests.get j).target 12).stand = false) : s.trimTest j = s := by
  simp [State.trimTest, hstand, hparts]

/-! ### The end of a test -/

/-- A test that ends shows its status and the failing part it had. -/
theorem State.endTest_tests (s : State) (j status : Nat) : (s.endTest j status).tests =
    s.tests.upd j (fun t => { t with status := status, inSlice := false, abort := false, parts := 0 }) := by
  by_cases h : status = 1 <;> simp [State.endTest, h]

/-- A failed part takes a reserve core out of use (R531). -/
theorem State.testRetires_reserve (s : State) {target : Nat} (part pos : Nat) (h : 0xF0 ≤ target) : s.testRetires target part pos =
    { s with reserves := s.reserves.upd (target - 0xF0) (fun r => { r with available := false, testedBad := true }) } := if_pos h

/-- RESUME of a core that is UNIFIED changes no test. -/
@[simp] theorem State.testResume_tests (s : State) (n : Nat) : (s.testResume n).tests = s.tests := by
  by_cases h : (s.cores.get n).org = .unified <;> simp [State.testResume, h, State.updCore]

@[simp] theorem State.testResume_arr (s : State) (n m a : Nat) : (s.testResume n).arr m a = s.arr m a := by
  by_cases h : (s.cores.get n).org = .unified <;> simp [State.testResume, h, State.arr]

theorem State.testResume_org {s : State} {n : Nat} (h : (s.cores.get n).org = .unified) :
    ((s.testResume n).cores.get n).org = .restoring := by
  simp [State.testResume, h, State.updCore, Map.get_upd_self]

/-! ### START and ABORT -/

theorem State.testStart_busy {s : State} (q : Port) {parts target spacing : Nat}
    (h : (s.testOf target).isSome = true ∨ 8 ≤ s.testsRunning) :
    s.testStart q parts target spacing = s.testRefused (testCtlWord 1 parts target) 4 q := if_pos h

/-- A target that can be tested or not: no test of it runs and a slot is free. -/
theorem State.testStart_of_free {s : State} (q : Port) (parts target spacing : Nat) (hnone : s.testOf target = none)
    (hroom : s.testsRunning < 8) : s.testStart q parts target spacing =
      if s.testState target then s.testRefused (testCtlWord 1 parts target) 5 q
      else ((s.updTest ((firstBelow 8 (fun j => (s.tests.get j).status != 2)).getD 0) (fun _ =>
        { status := 2, target := target, parts := if parts = 0 then 0xFF else parts, failing := 0xF, spacing := spacing % 256 })).trimTest
          ((firstBelow 8 (fun j => (s.tests.get j).status != 2)).getD 0), none) := by
  have hfree : ¬((s.testOf target).isSome = true ∨ 8 ≤ s.testsRunning) := by simp [hnone, hroom]
  rw [State.testStart, if_neg hfree]

theorem exec_fieldTestStart_begins (s : State) (q : Port) (parts target spacing : Nat) (hnone : s.testOf target = none)
    (hroom : s.testsRunning < 8) (hok : s.testState target = false) (hstand : (s.arr target 12).stand = false) :
    ∃ t j, exec (.fieldTestStart q parts target spacing) s = .next t ∧ j < 8 ∧ (s.tests.get j).status ≠ 2 ∧
      t.tests.get j =
        { status := 2, target := target, parts := if parts = 0 then 0xFF else parts, failing := 0xF, spacing := spacing % 256 } ∧
      ∀ k, k ≠ j → t.tests.get k = s.tests.get k := by
  obtain ⟨j, hj, hlt, hfree⟩ := State.freeTestSlot hroom
  refine ⟨_, j, exec_fieldTestStart q parts target spacing s, hlt, hfree, ?_⟩
  rw [State.testStart_of_free q parts target spacing hnone hroom, hok, hj]
  dsimp only [Option.getD_some]
  rw [if_neg Bool.false_ne_true, State.trimTest_goes_on ?parts ?stand]
  · exact ⟨Map.get_upd_self .., fun k hk => Map.get_upd_ne _ _ hk⟩
  case parts =>
    rw [State.updTest_tests, Map.get_upd_self]
    show (if parts = 0 then 0xFF else parts) ≠ 0
    split <;> omega
  case stand =>
    rw [State.updTest_tests, Map.get_upd_self]
    exact hstand

theorem exec_fieldTestAbort_of_running (s : State) (q : Port) (target j : Nat) (h : s.testOf target = some j) :
    ((s.tests.get j).inSlice = false → ∃ t, exec (.fieldTestAbort q target) s = .next t ∧ (t.tests.get j).status = 3) ∧
    ((s.tests.get j).inSlice = true → ∃ t, exec (.fieldTestAbort q target) s = .next t ∧ (t.tests.get j).abort = true ∧
      (t.tests.get j).status = (s.tests.get j).status) := by
  refine ⟨fun hin => ⟨_, exec_fieldTestAbort q target s, ?_⟩, fun hin => ⟨_, exec_fieldTestAbort q target s, ?_⟩⟩
  · simp [State.testAbort, h, hin, State.endTest_tests, Map.get_upd_self]
  · simp [State.testAbort, h, hin, Map.get_upd_self]

/-! ### The end of a slice -/

/-- The state after the last slice of a part, before it is asked whether a part is left. -/
def State.partDone (s : State) (target j : Nat) : State :=
  ((s.updTest j (fun t => { t with slices := min 15 (t.slices + 1) })).testResume target).updTest j (fun t => { t with
    inSlice := false, wait := t.spacing + 1, parts := t.parts - 2 ^ (s.tests.get j).part, partSlices := 0 })

/-- The slot after a slice that ends the work of its part, which neither failed nor was aborted. -/
def FieldTest.nextPart (t : FieldTest) : FieldTest :=
  { t with slices := min 15 (t.slices + 1), inSlice := false, wait := t.spacing + 1, parts := t.parts - 2 ^ t.part, partSlices := 0 }

theorem State.partDone_test (s : State) (target j : Nat) : (s.partDone target j).tests.get j = (s.tests.get j).nextPart := by
  simp [State.partDone, Map.get_upd_self, FieldTest.nextPart]

@[simp] theorem State.partDone_arr (s : State) (target j n a : Nat) : (s.partDone target j).arr n a = s.arr n a := by
  simp [State.partDone]

theorem State.partDone_org {s : State} {target : Nat} (j : Nat) (h : (s.cores.get target).org = .unified) :
    ((s.partDone target j).cores.get target).org = .restoring :=
  State.testResume_org (s := s.updTest j _) h

/-- The last slice of a part of an instance's core: the core is returned and the slot goes on if a part is left (R530). -/
theorem exec_fieldTestSliceEnd_part (s : State) (target pos j : Nat) (h : s.testOf target = some j) (hcore : target < 0xF0)
    (hinst : (s.cores.get target).inst.isSome = true) (horg : (s.cores.get target).org = .unified)
    (hin : (s.tests.get j).inSlice = true) (habort : (s.tests.get j).abort = false) (hpart : (s.tests.get j).part < 7)
    (hlast : partSlices (s.tests.get j).part ≤ (s.tests.get j).partSlices + 1) :
    exec (.fieldTestSliceEnd target true false pos) s = .next ((s.partDone target j).trimTest j) := by
  have hp : (s.tests.get j).part ≠ 7 := by omega
  rw [exec_fieldTestSliceEnd]
  simp [execFieldTestSliceEnd, State.partDone, h, hinst, hcore, hin, horg, habort, hp, hlast]

theorem exec_fieldTestSliceEnd_goes_on (s : State) (target pos j : Nat) (h : s.testOf target = some j) (hcore : target < 0xF0)
    (hinst : (s.cores.get target).inst.isSome = true) (horg : (s.cores.get target).org = .unified)
    (hin : (s.tests.get j).inSlice = true) (habort : (s.tests.get j).abort = false) (hpart : (s.tests.get j).part < 7)
    (hlast : partSlices (s.tests.get j).part ≤ (s.tests.get j).partSlices + 1)
    (hleft : (s.tests.get j).parts - 2 ^ (s.tests.get j).part ≠ 0) (hstand : (s.arr target 12).stand = false) :
    exec (.fieldTestSliceEnd target true false pos) s = .next (s.partDone target j) := by
  have htarget : ((s.partDone target j).tests.get j).target = target := by
    rw [State.partDone_test]
    exact (State.testOf_running h).2
  rw [exec_fieldTestSliceEnd_part s target pos j h hcore hinst horg hin habort hpart hlast, State.trimTest_goes_on ?left ?stand]
  case left =>
    rw [State.partDone_test]
    exact hleft
  case stand =>
    rw [htarget, State.partDone_arr]
    exact hstand

/-- The state after a failed slice of a part below 7, before its test ends: 0x4001 logged, and from part 6 on the core returned. -/
def State.partFailed (s : State) (target j p : Nat) : State :=
  let s := (s.updTest j (fun t => { t with slices := min 15 (t.slices + 1) })).updTest j (fun t => { t with failing := p })
  let s := s.logEvent 0x4001 [(1, target), (1, p), (1, (s.tests.get j).slices)]
  if 6 ≤ p then s.testResume target else s

theorem State.partFailed_failing (s : State) (target j p : Nat) : ((s.partFailed target j p).tests.get j).failing = p := by
  by_cases h : 6 ≤ p <;> simp [State.partFailed, h, Map.get_upd_self]

/-- A failed slice of a free reserve core's part below 7 (R531). -/
theorem exec_fieldTestSliceEnd_reserve (s : State) (target pos j : Nat) (fin : Bool) (h : s.testOf target = some j)
    (hres : 0xF0 ≤ target) (hpart : (s.tests.get j).part < 7) : exec (.fieldTestSliceEnd target fin true pos) s = .next
      (((s.partFailed target j (s.tests.get j).part).endTest j 1).testRetires target (s.tests.get j).part pos) := by
  have hp : (s.tests.get j).part ≠ 7 := by omega
  have hcore : ¬target < 0xF0 := by omega
  rw [exec_fieldTestSliceEnd]
  simp [execFieldTestSliceEnd, State.partFailed, h, hcore, hp]

theorem exec_fieldTestSliceEnd_fails (s : State) (target pos j : Nat) (fin : Bool) (h : s.testOf target = some j)
    (hres : 0xF0 ≤ target) (hpart : (s.tests.get j).part < 7) :
    ∃ t, exec (.fieldTestSliceEnd target fin true pos) s = .next t ∧ (t.tests.get j).status = 1 ∧
      (t.tests.get j).failing = (s.tests.get j).part ∧ (t.reserves.get (target - 0xF0)).available = false := by
  refine ⟨_, exec_fieldTestSliceEnd_reserve s target pos j fin h hres hpart, ?_⟩
  rw [State.testRetires_reserve _ _ _ hres]
  dsimp only
  rw [State.endTest_tests, Map.get_upd_self, Map.get_upd_self]
  exact ⟨rfl, State.partFailed_failing .., rfl⟩

/-- Settles O31, START, ABORT and the end of a slice each by the slot they leave. -/
theorem fieldTests : Obligations.FieldTests := by
  refine ⟨fun s q parts target spacing hnone hroom => ⟨fun hbad => ?_, fun hok hstand => ?_⟩, fun s q parts target spacing hbusy => ?_,
    fun s q target j h => exec_fieldTestAbort_of_running s q target j h, fun s q target hnone => ?_,
    fun s target pos j h hcore hinst horg hin habort _ hpart hlast hleft hstand => ?_,
    fun s target pos j fin h hres hpart => exec_fieldTestSliceEnd_fails s target pos j fin h hres hpart⟩
  · rw [exec_fieldTestStart, execFieldTestStart, State.testStart_of_free q parts target spacing hnone hroom, if_pos hbad]
    rfl
  · exact exec_fieldTestStart_begins s q parts target spacing hnone hroom hok hstand
  · rw [exec_fieldTestStart, execFieldTestStart, State.testStart_busy q hbusy]
    rfl
  · simp [exec_fieldTestAbort, execFieldTestAbort, State.testAbort, hnone, State.testRefused]
  · refine ⟨_, exec_fieldTestSliceEnd_goes_on s target pos j h hcore hinst horg hin habort hpart hlast hleft hstand, ?_⟩
    rw [State.partDone_test]
    exact ⟨rfl, rfl, rfl, rfl, State.partDone_org j horg⟩

end Sys2Proof.Machine
end

section
/-!
The dawn sequence and the clocks (19, R537, R540, R562-R565): what each row of Table 19-8 leaves, and how the rows that walk
over stacks, ports and domains change each of them.
-/
namespace Sys2Proof.Machine
open Sys2Proof Sys2Proof.Claims

/-! ### Rows that walk over stacks, ports and domains -/

/-- One change at each listed key, where a second change of a value does nothing more. -/
theorem Map.get_foldl_upd {α : Type} [Inhabited α] [DecidableEq α] {f : Nat → α → α} (hf : ∀ k v, f k (f k v) = f k v)
    (m : Map α) (ks : List Nat) (k : Nat) :
    (ks.foldl (fun (m : Map α) j => m.upd j (f j)) m).get k = if k ∈ ks then f k (m.get k) else m.get k :=
  Map.get_updAll hf m ks k

/-- What DAWN_COMPLETE makes of a stack: zeroed at a cold dawn, and READY where it was initialising. -/
def Ped.dawn (kind : Nat) (p : Ped) : Ped :=
  let p := if kind = 0 then { p with mem := {}, poison := {} } else p
  if p.state = 0 then { p with state := 1 } else p

theorem Ped.dawn_state {p : Ped} (kind : Nat) (h : p.state = 0) : (p.dawn kind).state = 1 := by
  by_cases hk : kind = 0 <;> simp [Ped.dawn, hk, h]

theorem Ped.dawn_mem (p : Ped) (kind : Nat) : (p.dawn kind).mem = if kind = 0 then {} else p.mem := by
  by_cases hk : kind = 0 <;> by_cases h : p.state = 0 <;> simp [Ped.dawn, hk, h]

theorem Ped.dawn_dawn (p : Ped) (kind : Nat) : (p.dawn kind).dawn kind = p.dawn kind := by
  by_cases hk : kind = 0 <;> by_cases h : p.state = 0 <;> simp [Ped.dawn, hk, h]

theorem State.peds_foldl_dawn (l : List Nat) (s : State) :
    (l.foldl (fun (s : State) t => s.updPed t (Ped.dawn s.pwr.dawnKind)) s).peds =
      l.foldl (fun (m : Map Ped) t => m.upd t (Ped.dawn s.pwr.dawnKind)) s.peds := by
  induction l generalizing s with
  | nil => rfl
  | cons p l ih => exact ih _

/-- A port takes the adopted hash that the store holds for it. -/
def IcpPort.adopt (store : Map StoreRec) (n : Nat) (p : IcpPort) : IcpPort :=
  { p with adopted := BitVec.ofNat 384 ((store.get (storeAdopted n)).value.getD 0) }

theorem State.icps_foldl_adopt (l : List Nat) (s : State) :
    (l.foldl (fun (s : State) n => { s with icps := s.icps.upd n (IcpPort.adopt s.sec.store n) }) s).icps =
      l.foldl (fun (m : Map IcpPort) n => m.upd n (IcpPort.adopt s.sec.store n)) s.icps := by
  induction l generalizing s with
  | nil => rfl
  | cons n l ih => exact ih _

theorem State.restoreStore_adopted (s : State) {n : Nat} (h : n < 12) :
    (s.restoreStore.icps.get n).adopted = BitVec.ofNat 384 ((s.storeValue (storeAdopted n)).getD 0) := by
  have hfold : s.restoreStore.icps =
      (List.range 12).foldl (fun (m : Map IcpPort) n => m.upd n (IcpPort.adopt s.sec.store n)) s.icps :=
    State.icps_foldl_adopt (List.range 12) { s with armFloor := (s.storeValue 1).getD 0xFFFFFFFF }
  rw [hfold, Map.get_foldl_upd (f := IcpPort.adopt s.sec.store) (fun _ _ => rfl), if_pos (List.mem_range.mpr h)]
  rfl

theorem State.restoreStore_armFloor (s : State) : s.restoreStore.armFloor = (s.storeValue 1).getD 0xFFFFFFFF :=
  State.foldl_at State.armFloor (fun _ _ => rfl) (List.range 12) _

/-- What REFERENCE_RETURN makes of a domain: it wakes as from Night, unless it is in Midnight. -/
def Domain.wakeFromNight (x : Domain) : Domain :=
  if x.state = 3 then x else { x with state := 2, waking := true, paced := true }

theorem Domain.wakeFromNight_state (x : Domain) : x.wakeFromNight.state = if x.state = 3 then 3 else 2 := by
  by_cases h : x.state = 3 <;> simp [Domain.wakeFromNight, h]

theorem Domain.wakeFromNight_waking {x : Domain} (h : x.state ≠ 3) : x.wakeFromNight.waking = true := by
  simp [Domain.wakeFromNight, h]

theorem Domain.wakeFromNight_twice (x : Domain) : x.wakeFromNight.wakeFromNight = x.wakeFromNight := by
  by_cases h : x.state = 3 <;> simp [Domain.wakeFromNight, h]

theorem State.domains_foldl_wake (l : List Nat) (s : State) (d : Nat) :
    ((l.foldl (fun (s : State) d => s.updDomain d Domain.wakeFromNight) s).domains.get d) =
      if d ∈ l then (s.domains.get d).wakeFromNight else s.domains.get d := by
  rw [← Map.get_foldl_upd (f := fun _ => Domain.wakeFromNight) fun _ => Domain.wakeFromNight_twice]
  exact congrArg (fun m => Map.get m d) (List.foldl_hom State.domains (fun _ _ => rfl)).symm

/-! ### FRIEZE_PLL_LOCK -/

/-- The state once the frieze clock runs, before the record of a trip. -/
def State.friezeLocked (s : State) (ok : Bool) : State :=
  let s : State := { s with time := 0, timeRuns := true }
  let s := (s.updPwr (fun p => { p with dawn := 4, env := 0 })).updClk (fun c => { c with frieze := true })
  (((s.checkIdentity ok).renewNonce).restoreStore).latchInj

/-- The record of the trip that the dawn follows, 0xFC01. -/
def State.logTrip (s : State) : State :=
  match s.pwr.trip with
  | some (cause, value) => (s.updPwr (fun p => { p with trip := none })).logEvent 0xFC01 [(4, value), (1, cause)]
  | none => s

theorem exec_friezePllLock_locks {s : State} (ok : Bool) (h : s.pwr.dawn = 3) :
    exec (.friezePllLock ok) s = .next (s.friezeLocked ok).logTrip := by
  rw [exec_friezePllLock, execFriezePllLock, if_pos h]
  rfl

theorem State.logTrip_pwr (s : State) : s.logTrip.pwr = { s.pwr with trip := none } := by
  cases h : s.pwr.trip with
  | none =>
    have hsame : s.logTrip = s := by rw [State.logTrip, h]
    rw [hsame, ← h]
  | some x =>
    rw [State.logTrip, h]
    exact State.logEvent_pwr ..

/-- The record of a trip is an event, and changes nothing else but the supervisor's note of the trip. -/
theorem State.logTrip_at {β : Type} (part : State → β) (hpwr : ∀ (s : State) (p : Pwr), part { s with pwr := p } = part s)
    (hlog : ∀ (s : State) (code : Nat) (fs : List (Nat × Nat)), part (s.logEvent code fs) = part s) (s : State) :
    part s.logTrip = part s := by
  cases h : s.pwr.trip with
  | none => simp [State.logTrip, h]
  | some x => simp only [State.logTrip, h, hlog, State.updPwr, hpwr]

theorem State.checkIdentity_store (s : State) (ok : Bool) : (s.checkIdentity ok).sec.store = s.sec.store := by
  unfold State.checkIdentity
  dsimp only
  split <;> rfl

/-- The identity check, the nonce, what the store keeps and the injected entries are all that the lock of the frieze PLL
touches beside the supervisor, the clocks and device time. -/
theorem State.friezeLocked_follows (s : State) (ok : Bool) :
    State.Follows 122782681476115382411268
      ((({ s with time := 0, timeRuns := true } : State).updPwr (fun p => { p with dawn := 4, env := 0 })).updClk
        (fun c => { c with frieze := true })) (s.friezeLocked ok) :=
  State.latchInj_follows rfl (State.restoreStore_follows rfl (State.renewNonce_follows rfl (State.checkIdentity_follows rfl
    (State.Follows.refl 122782681476115382411268 _))))

theorem State.friezeLocked_rows (s : State) (ok : Bool) : (s.friezeLocked ok).pwr = { s.pwr with dawn := 4, env := 0 } ∧
    (s.friezeLocked ok).time = 0 ∧ (s.friezeLocked ok).timeRuns = true ∧ (s.friezeLocked ok).clk = { s.clk with frieze := true } := by
  have h := s.friezeLocked_follows ok
  exact ⟨h.at State.pwr 71 State.reset.pwr (fun _ => rfl) rfl, h.at State.time 0 State.reset.time (fun _ => rfl) rfl,
    h.at State.timeRuns 1 State.reset.timeRuns (fun _ => rfl) rfl, h.at State.clk 72 State.reset.clk (fun _ => rfl) rfl⟩

/-- The state whose store is read back at FRIEZE_PLL_LOCK. -/
theorem State.friezeLocked_storeValue (s : State) (ok : Bool) (r : Nat) :
    (((({ s with time := 0, timeRuns := true } : State).updPwr (fun p => { p with dawn := 4, env := 0 })).updClk
        (fun c => { c with frieze := true })).checkIdentity ok).renewNonce.storeValue r = s.storeValue r :=
  congrArg (fun m => (Map.get m r).value) (State.checkIdentity_store
    ((({ s with time := 0, timeRuns := true } : State).updPwr (fun p => { p with dawn := 4, env := 0 })).updClk
        (fun c => { c with frieze := true })) ok)

theorem State.friezeLocked_armFloor (s : State) (ok : Bool) : (s.friezeLocked ok).armFloor = (s.storeValue 1).getD 0xFFFFFFFF := by
  rw [← State.friezeLocked_storeValue s ok, ← State.restoreStore_armFloor]
  rfl

theorem State.friezeLocked_adopted (s : State) (ok : Bool) {n : Nat} (h : n < 12) :
    ((s.friezeLocked ok).icps.get n).adopted = BitVec.ofNat 384 ((s.storeValue (storeAdopted n)).getD 0) := by
  rw [← State.friezeLocked_storeValue s ok, ← State.restoreStore_adopted _ h]
  rfl

theorem exec_friezePllLock_starts (s : State) (ok : Bool) (h : s.pwr.dawn = 3) : ∃ t, exec (.friezePllLock ok) s = .next t ∧
    t.pwr.dawn = 4 ∧ t.time = 0 ∧ t.timeRuns = true ∧ t.clk.frieze = true ∧ t.pwr.trip = none ∧
    t.armFloor = (s.storeValue 1).getD 0xFFFFFFFF ∧
    ∀ n < 12, (t.icps.get n).adopted = BitVec.ofNat 384 ((s.storeValue (storeAdopted n)).getD 0) := by
  obtain ⟨hpwr, htime, hruns, hclk⟩ := s.friezeLocked_rows ok
  refine ⟨_, exec_friezePllLock_locks ok h, ?_, ?_, ?_, ?_, ?_, ?_, fun n hn => ?_⟩
  · rw [State.logTrip_pwr, hpwr]
  · rw [State.logTrip_at State.time (fun _ _ => rfl) State.logEvent_time, htime]
  · rw [State.logTrip_at State.timeRuns (fun _ _ => rfl) State.logEvent_timeRuns, hruns]
  · rw [State.logTrip_at State.clk (fun _ _ => rfl) State.logEvent_clk, hclk]
  · rw [State.logTrip_pwr]
  · rw [State.logTrip_at State.armFloor (fun _ _ => rfl) State.logEvent_armFloor, State.friezeLocked_armFloor]
  · rw [State.logTrip_at State.icps (fun _ _ => rfl) State.logEvent_icps, State.friezeLocked_adopted s ok hn]

/-! ### CORE_PLL_LOCK and DAWN_COMPLETE -/

theorem exec_corePllLock_starts (s : State) (h : s.pwr.dawn = 4) (href : s.clk.refLost = false) : ∃ t, exec .corePllLock s = .next t ∧
    t.pwr.dawn = 5 ∧ t.pwr.ratioW = 1 ∧ t.pwr.ratioE = 1 ∧ t.clk.west = true ∧ t.clk.east = true ∧
    (∀ n, (t.cores.get n).spm = {}) ∧ ∀ c, (t.clusters.get c).mem = {} := by
  rw [exec_corePllLock, execCorePllLock, if_pos ⟨h, by rw [href]; rfl⟩]
  refine ⟨_, rfl, rfl, rfl, rfl, rfl, rfl, fun n => ?_, fun c => ?_⟩
  · exact Map.get_mapVals_of_forall (P := fun c : Core => c.spm = {}) rfl (fun _ _ => rfl) s.cores n
  · exact Map.get_mapVals_of_forall (P := fun c : Cluster => c.mem = {}) rfl (fun _ _ => rfl) s.clusters c

/-- The state once the stacks of the part are READY, before the record of the reset that caused the dawn. -/
def State.dawned (s : State) (us : Nat) : State :=
  let s := s.updPwr (fun p => { p with dawn := 6, dawnUs := us % 2 ^ 32 })
  let s := (List.range s.fuses.stackN).foldl (fun (s : State) t => s.updPed t (Ped.dawn s.pwr.dawnKind)) s
  s.logEvent 0x1C02 [(4, us), (1, b2n s.clk.rc), (1, s.pwr.dawnKind)]

/-- The record of the reset that the dawn follows, 0x1A03. -/
def State.logResetBy (s : State) : State :=
  match s.pwr.resetBy with
  | some p => (s.updPwr (fun x => { x with resetBy := none })).logEvent 0x1A03 [(1, p)]
  | none => s

theorem State.logResetBy_pwr (s : State) : s.logResetBy.pwr = { s.pwr with resetBy := none } := by
  cases h : s.pwr.resetBy with
  | none =>
    have hsame : s.logResetBy = s := by rw [State.logResetBy, h]
    rw [hsame, ← h]
  | some x =>
    rw [State.logResetBy, h]
    exact State.logEvent_pwr ..

theorem State.logResetBy_peds (s : State) : s.logResetBy.peds = s.peds := by
  cases h : s.pwr.resetBy with
  | none => rw [State.logResetBy, h]
  | some x =>
    rw [State.logResetBy, h]
    exact State.logEvent_peds ..

theorem State.dawned_pwr (s : State) (us : Nat) : (s.dawned us).pwr = { s.pwr with dawn := 6, dawnUs := us % 2 ^ 32 } :=
  (State.logEvent_pwr ..).trans
    (State.foldl_at State.pwr (f := fun (s : State) t => s.updPed t (Ped.dawn s.pwr.dawnKind)) (fun _ _ => rfl) _ _)

theorem State.dawned_ped (s : State) (us : Nat) {p : Nat} (h : p < s.fuses.stackN) :
    (s.dawned us).peds.get p = (s.peds.get p).dawn s.pwr.dawnKind := by
  have hfold : (s.dawned us).peds =
      (List.range s.fuses.stackN).foldl (fun (m : Map Ped) t => m.upd t (Ped.dawn s.pwr.dawnKind)) s.peds :=
    (State.logEvent_peds ..).trans (State.peds_foldl_dawn (List.range s.fuses.stackN) _)
  rw [hfold, Map.get_foldl_upd (f := fun _ => Ped.dawn s.pwr.dawnKind) (fun _ p => Ped.dawn_dawn p _),
    if_pos (List.mem_range.mpr h)]

theorem exec_dawnComplete_ends (s : State) (us : Nat) (h : s.pwr.dawn = 5) : ∃ t, exec (.dawnComplete us) s = .next t ∧
    t.pwr.dawn = 6 ∧ t.pwr.resetBy = none ∧ t.pwr.dawnUs = us % 2 ^ 32 ∧ ∀ p < s.fuses.stackN,
      ((s.peds.get p).state = 0 → (t.peds.get p).state = 1) ∧ (s.pwr.dawnKind = 0 → (t.peds.get p).mem = {}) ∧
      (s.pwr.dawnKind ≠ 0 → (t.peds.get p).mem = (s.peds.get p).mem) := by
  have hstep : exec (.dawnComplete us) s = .next (s.dawned us).logResetBy := by
    rw [exec_dawnComplete, execDawnComplete, if_pos h]
    rfl
  refine ⟨_, hstep, ?_, ?_, ?_, fun p hp => ?_⟩
  · rw [State.logResetBy_pwr, State.dawned_pwr]
  · rw [State.logResetBy_pwr]
  · rw [State.logResetBy_pwr, State.dawned_pwr]
  · rw [State.logResetBy_peds, State.dawned_ped s us hp, Ped.dawn_mem]
    exact ⟨Ped.dawn_state _, fun hk => if_pos hk, fun hk => if_neg hk⟩

/-! ### The reference clock -/

theorem exec_referenceReturn_wakes (s : State) (h : s.clk.refLost = true) : ∃ t, exec .referenceReturn s = .next t ∧
    t.clk = { s.clk with refLost := false } ∧ ∀ d < 19,
      (t.domains.get d).state = (if (s.domains.get d).state = 3 then 3 else 2) ∧
      ((s.domains.get d).state ≠ 3 → (t.domains.get d).waking = true) := by
  let u : State := s.updClk (fun c => { c with refLost := false })
  let v : State := if u.thm.started then u.advanceGap u.lastPowers (s.time - s.clk.lostAt) else u
  have hstep : exec .referenceReturn s =
      .next ((List.range 19).foldl (fun (s : State) d => s.updDomain d Domain.wakeFromNight) v) := by
    rw [exec_referenceReturn, execReferenceReturn, if_neg (by simp [h])]
    rfl
  have hv : State.Follows 18889465931478580854784 u v := by
    dsimp only [v]
    split
    · exact State.advanceGap_follows rfl (State.Follows.refl _ u)
    · exact State.Follows.refl _ u
  have hclk : v.clk = u.clk := hv.at State.clk 72 State.reset.clk (fun _ => rfl) rfl
  have hdom : v.domains = s.domains := hv.at State.domains 70 State.reset.domains (fun _ => rfl) rfl
  refine ⟨_, hstep, ?_, fun d hd => ?_⟩
  · rw [State.foldl_at State.clk (f := fun (s : State) d => s.updDomain d Domain.wakeFromNight) (fun _ _ => rfl), hclk]
    rfl
  · rw [State.domains_foldl_wake, if_pos (List.mem_range.mpr hd), hdom, Domain.wakeFromNight_state]
    exact ⟨rfl, Domain.wakeFromNight_waking⟩

/-- Settles O33, row by row of the dawn and of the clocks. -/
theorem dawnSequence : Obligations.DawnSequence := by
  refine ⟨fun s h hfree => ?_, fun s h => ?_, fun s slot strap h => ?_, fun s ok h => exec_friezePllLock_starts s ok h,
    fun s h href => exec_corePllLock_starts s h href, fun s us h => exec_dawnComplete_ends s us h, fun s hrc hstays h => ⟨?_, ?_⟩,
    fun s hrc h => ?_, fun s h href => ?_, fun s h => exec_referenceReturn_wakes s h⟩
  · rw [exec_vinValidBegins, execVinValidBegins, if_pos ⟨h, hfree⟩]
    exact ⟨_, rfl, rfl, rfl, rfl⟩
  · rw [exec_inputValid, execInputValid, if_pos h]
    exact ⟨_, rfl, rfl⟩
  · rw [exec_railsInRegulation, execRailsInRegulation, if_pos h]
    exact ⟨_, rfl, rfl, rfl, rfl⟩
  · rw [exec_crystalLock, execCrystalLock, if_pos ⟨hrc, by rw [hstays]; rfl, by omega⟩]
    exact ⟨_, rfl, rfl⟩
  · rw [exec_crystalTimeout, execCrystalTimeout, if_pos ⟨hrc, by rw [hstays]; rfl, h⟩]
  · rw [exec_crystalStopped, execCrystalStopped, if_pos ⟨by rw [hrc]; rfl, h⟩]
  · have hon : ¬(s.pwr.dawn < 4 ∨ s.clk.refLost = true) := not_or.mpr ⟨by omega, by simp [href]⟩
    rw [exec_referenceLost, execReferenceLost, if_neg hon]

end Sys2Proof.Machine
end

section
/-!
Replica groups (17, R501-R503): the frames a device keeps, and the outcome of a round among the voters.
-/
namespace Sys2Proof.Machine
open Sys2Proof Sys2Proof.Claims

/-! ### DIGEST frames -/

/-- A frame kept is the last of the frames held. -/
theorem State.mem_keepDigest (s : State) (d : Digest) : d ∈ (s.keepDigest d).digests :=
  List.mem_append_right _ (List.mem_singleton_self d)

@[simp] theorem State.flood_digests (s : State) (d : Digest) (skip : Option Nat) : (s.flood d skip).digests = s.digests :=
  (State.flood_follows rfl (State.Follows.refl 1152921504640401432 s)).at State.digests 63 State.reset.digests (fun _ => rfl) rfl

@[simp] theorem State.tryRound_digests (s : State) (i : Nat) : (s.tryRound i).digests = s.digests :=
  (State.tryRound_follows rfl (State.Follows.refl 4764824898432402200 s)).at State.digests 63 State.reset.digests (fun _ => rfl) rfl

/-- What follows the keeping of a frame (it is passed on, and rounds are tried) changes no frame held. -/
theorem State.takeDigest_digests {s : State} {port : Nat} {d : Digest} (hup : (s.icp port).up = true)
    (hnew : s.digests.any (fun x => x.same d) = false) :
    (s.takeDigest port d).digests = (s.keepDigest { d with rev := (s.icp port).rev }).digests := by
  have hskip : ¬((!(s.icp port).up || s.digests.any (fun x => x.same d)) = true) := by rw [hup, hnew]; decide
  have htry : ∀ (t : State) (i : Nat), (if (t.replicaOf i).1 = d.group ∧ d.group ≠ 0 then t.tryRound i else t).digests = t.digests := by
    intro t i
    split
    · exact State.tryRound_digests t i
    · rfl
  rw [State.takeDigest, if_neg hskip]
  dsimp only
  rw [State.foldl_at State.digests htry]
  split
  · rfl
  · exact State.flood_digests ..

theorem State.takeDigest_ignored {s : State} {port : Nat} {d : Digest}
    (h : (s.icp port).up = false ∨ s.digests.any (fun x => x.same d) = true) : s.takeDigest port d = s := by
  refine if_pos ?_
  rcases h with h | h <;> simp [h]

/-! ### The outcome of a round -/

@[simp] theorem State.voteReload_replicas (s : State) (i g r v : Nat) : (s.voteReload i g r v).replicas = s.replicas :=
  (State.voteReload_follows rfl (State.Follows.refl 153130083911992088 s)).at State.replicas 62 State.reset.replicas (fun _ => rfl) rfl

/-- From s to t only the voting state of instance i changes, and not the round it waits for. -/
def State.VotesOnly (i : Nat) (s t : State) : Prop :=
  (t.replicas.get i).awaiting = (s.replicas.get i).awaiting ∧ ∀ k, k ≠ i → t.replicas.get k = s.replicas.get k

theorem State.VotesOnly.of_upd {i : Nat} {s u : State} {f : Replica → Replica} (hu : u.replicas = s.replicas)
    (hf : ∀ y, (f y).awaiting = y.awaiting) : s.VotesOnly i { u with replicas := u.replicas.upd i f } := by
  rw [State.VotesOnly, hu]
  dsimp only
  rw [Map.get_upd_self]
  exact ⟨hf _, fun k hk => Map.get_upd_ne _ _ hk⟩

theorem State.VotesOnly.of_eq {i : Nat} {s t u : State} (h : s.VotesOnly i u) (ht : t.replicas = u.replicas) : s.VotesOnly i t := by
  rw [State.VotesOnly, ht]
  exact h

theorem State.VotesOnly.trans {i : Nat} {s t u : State} (h : s.VotesOnly i t) (h' : t.VotesOnly i u) : s.VotesOnly i u :=
  ⟨h'.1.trans h.1, fun k hk => (h'.2 k hk).trans (h.2 k hk)⟩

theorem State.voteOutcome_votesOnly (s : State) (i g r : Nat) (own : Digest) (vs : List Digest) :
    s.VotesOnly i (s.voteOutcome i g r own vs) := by
  unfold State.voteOutcome
  dsimp only
  split
  · exact .of_upd rfl fun _ => rfl
  split
  · split
    · exact .of_upd rfl fun _ => rfl
    · exact .of_upd (State.voteReload_replicas ..) fun _ => rfl
  split
  · exact .of_upd (State.voteReload_replicas ..) fun _ => rfl
  split
  · exact (State.VotesOnly.of_upd (f := fun y => { y with expelled := true, result := 4 }) rfl fun _ => rfl).of_eq
      (State.logEvent_replicas ..)
  split
  · exact .of_upd rfl fun _ => rfl
  · exact .of_upd (State.foldl_at State.replicas (fun _ _ => State.logEvent_replicas ..) _ _) fun _ => rfl

/-- Evaluating a round that an instance waits for ends the wait, and changes no other instance's voting state. -/
theorem State.evaluateRound_votes {s : State} {i r : Nat} (h : (s.replicas.get i).awaiting = some r) :
    ((s.evaluateRound i).replicas.get i).awaiting = none ∧
      ∀ k, k ≠ i → (s.evaluateRound i).replicas.get k = s.replicas.get k := by
  let w : State := { s with replicas := s.replicas.upd i (fun y => { y with awaiting := none }) }
  have hw : (w.replicas.get i).awaiting = none ∧ ∀ k, k ≠ i → w.replicas.get k = s.replicas.get k :=
    ⟨by rw [Map.get_upd_self], fun k hk => Map.get_upd_ne _ _ hk⟩
  have hvotes : w.VotesOnly i (s.evaluateRound i) := by
    simp only [State.evaluateRound, h]
    split
    · exact .of_upd rfl fun _ => rfl
    · exact ⟨rfl, fun _ _ => rfl⟩
    split
    · exact ⟨rfl, fun _ _ => rfl⟩
    · refine State.VotesOnly.trans ?_ (State.voteOutcome_votesOnly ..)
      exact .of_upd (u := w.count Reg.ICP_REP_ROUNDS) rfl fun _ => rfl
  exact ⟨hvotes.1.trans hw.1, fun k hk => (hvotes.2 k hk).trans (hw.2 k hk)⟩

theorem State.evaluateRound_idle {s : State} {i : Nat} (h : (s.replicas.get i).awaiting = none) : s.evaluateRound i = s := by
  rw [State.evaluateRound, h]

/-! ### Majorities -/

/-- Two values that are each held by more than half of the voters are one. -/
theorem digest_eq_of_majorities {vs : List Digest} {a b : Fwd} (ha : vs.length < 2 * (vs.filter (fun x => x.digest == a)).length)
    (hb : vs.length < 2 * (vs.filter (fun x => x.digest == b)).length) : a = b := by
  refine Decidable.byContradiction fun hne => ?_
  rw [← List.countP_eq_length_filter] at ha hb
  have hsub : vs.countP (fun x => x.digest == b) ≤ vs.countP (fun x => decide ¬(x.digest == a) = true) := by
    refine List.countP_mono_left fun x _ hx => ?_
    have hxb : x.digest = b := by simpa using hx
    simpa [hxb] using Ne.symm hne
  have hsplit := List.length_eq_countP_add_countP (l := vs) (fun x => x.digest == a)
  omega

/-- Fewer than two voters give no vote. -/
theorem State.voteOutcome_few (s : State) (i g r : Nat) (own : Digest) {vs : List Digest} (h : vs.length ≤ 1) :
    ((s.voteOutcome i g r own vs).replicas.get i).result = 5 := by
  rw [State.voteOutcome, if_pos h]
  exact congrArg Replica.result (Map.get_upd_self ..)

/-- Two voters that hold the own digest agree. -/
theorem State.voteOutcome_pair (s : State) (i g r : Nat) {own a b : Digest} (ha : a.digest = own.digest) (hb : b.digest = own.digest) :
    ((s.voteOutcome i g r own [a, b]).replicas.get i).result = 1 := by
  simp [State.voteOutcome, ha, hb, Map.get_upd_self]

/-- With three voters or more, one of a majority is found where there is one. -/
theorem majority_found {vs : List Digest} {m : Digest} (hm : m ∈ vs)
    (h : vs.length < 2 * (vs.filter (fun x => x.digest == m.digest)).length) :
    ∃ m', vs.find? (fun d => decide (vs.length < 2 * (vs.filter (fun x => x.digest == d.digest)).length)) = some m' ∧
      m'.digest = m.digest := by
  cases hf : vs.find? (fun d => decide (vs.length < 2 * (vs.filter (fun x => x.digest == d.digest)).length)) with
  | none => exact absurd h (by simpa using List.find?_eq_none.mp hf m hm)
  | some m' => exact ⟨m', rfl, digest_eq_of_majorities (by simpa using List.find?_some hf) h⟩

/-- A majority that holds another digest expels the instance. -/
theorem State.voteOutcome_expels (s : State) (i g r : Nat) {own m : Digest} {vs : List Digest} (hlen : 3 ≤ vs.length) (hm : m ∈ vs)
    (h : vs.length < 2 * (vs.filter (fun x => x.digest == m.digest)).length) (hown : own.digest ≠ m.digest) :
    ((s.voteOutcome i g r own vs).replicas.get i).expelled = true ∧ ((s.voteOutcome i g r own vs).insts.get i).expelDue = true := by
  obtain ⟨m', hfind, hdig⟩ := majority_found hm h
  have hown' : own.digest ≠ m'.digest := hdig ▸ hown
  have h1 : ¬vs.length ≤ 1 := by omega
  have h2 : vs.length ≠ 2 := by omega
  simp [State.voteOutcome, h1, h2, hfind, hown', State.updInst, Map.get_upd_self]

/-- Voters that all hold the own digest agree. -/
theorem State.voteOutcome_agree (s : State) (i g r : Nat) {own : Digest} {vs : List Digest} (hlen : 3 ≤ vs.length)
    (hall : ∀ m, m ∈ vs → m.digest = own.digest) : ((s.voteOutcome i g r own vs).replicas.get i).result = 1 := by
  have h1 : ¬vs.length ≤ 1 := by omega
  have h2 : vs.length ≠ 2 := by omega
  obtain ⟨m, hm⟩ := List.exists_mem_of_length_pos (by omega : 0 < vs.length)
  have hmaj : vs.length < 2 * (vs.filter (fun x => x.digest == m.digest)).length := by
    rw [List.filter_eq_self.mpr fun x hx => by simp [hall x hx, hall m hm]]
    omega
  obtain ⟨m', hfind, hdig⟩ := majority_found hm hmaj
  have hown : own.digest = m'.digest := (hall m hm).symm.trans hdig.symm
  have hbad : vs.filter (fun d => d.digest != m'.digest) = [] := by
    simpa [List.filter_eq_nil_iff, ← hown] using hall
  simp [State.voteOutcome, h1, h2, hfind, hown, hbad, Map.get_upd_self]

/-- Settles O49, by the frames that are kept, the end of the wait, and the majority among the voters. -/
theorem replicaRounds : Obligations.ReplicaRounds := by
  refine ⟨fun s port g i c v hl n r j mid crc m hash => ⟨fun hup hnew => ?_, fun h => ?_⟩,
    fun s i => ⟨fun r h => ?_, fun h => ?_⟩,
    fun s i g r own vs => ⟨fun h => s.voteOutcome_few i g r own h, fun a b hvs ha hb => ?_,
      fun m hlen hm hmaj hown => s.voteOutcome_expels i g r hlen hm hmaj hown, fun hlen hall => s.voteOutcome_agree i g r hlen hall⟩⟩
  · refine ⟨_, exec_digest .., ?_⟩
    rw [State.takeDigest_digests hup hnew]
    exact State.mem_keepDigest ..
  · rw [exec_digest, execDigest, State.takeDigest_ignored h]
  · exact ⟨_, exec_digestEvaluationTimeout i s, State.evaluateRound_votes h⟩
  · rw [exec_digestEvaluationTimeout, execDigestEvaluationTimeout, State.evaluateRound_idle h]
  · rw [hvs]
    exact s.voteOutcome_pair i g r ha hb

end Sys2Proof.Machine
end

section
/-!
Icpen links (17, R479-R487): what sending leaves of a port, and the commands that train a link, drop its lanes, replay its
flits and exchange HELLO frames over it.
-/
namespace Sys2Proof.Machine
open Sys2Proof Sys2Proof.Claims

/-! ### A port and what sending leaves of it -/

@[simp] theorem State.icp_updIcp (s : State) (n : Nat) (f : IcpPort → IcpPort) : (s.updIcp n f).icp n = f (s.icp n) := Map.get_upd_self ..

theorem State.icp_of_icps {s t : State} (h : t.icps = s.icps) (n : Nat) : t.icp n = s.icp n := congrArg (fun m => Map.get m n) h

@[simp] theorem State.icp_count (s : State) (off n : Nat) : (s.count off).icp n = s.icp n := rfl
@[simp] theorem State.icp_countBy (s : State) (off k n : Nat) : (s.countBy off k).icp n = s.icp n := rfl
@[simp] theorem State.icp_count64By (s : State) (off k n : Nat) : (s.count64By off k).icp n = s.icp n := rfl
@[simp] theorem State.icp_count64 (s : State) (off n : Nat) : (s.count64 off).icp n = s.icp n := rfl
@[simp] theorem State.icp_logEvent (s : State) (code : Nat) (fs : List (Nat × Nat)) (n : Nat) : (s.logEvent code fs).icp n = s.icp n :=
  State.icp_of_icps (State.logEvent_icps ..) n

/-- A port without what sending flits changes: the queue, the replay buffer, the next number, credits, keys and what the
next flit reports. -/
def IcpPort.link (p : IcpPort) : IcpPort :=
  { p with waiting := [], replay := [], txNext := 0, credits := 0, keyTx := 0, switchTx := none, nak := false, freed := 0 }

theorem IcpPort.link_pump (p : IcpPort) (w : List IcpTx) : (p.pump w).1.link = p.link := by
  induction w generalizing p with
  | nil => rfl
  | cons t r ih =>
    unfold IcpPort.pump
    dsimp only
    generalize min t.flits _ = k
    split
    · exact ih _
    · rfl

@[simp] theorem State.respond_icps (s : State) (id : Nat) (r : MsgResp) : (s.respond id r).icps = s.icps :=
  (State.respond_follows rfl (State.Follows.refl 33554440 s)).at State.icps 60 State.reset.icps (fun _ => rfl) rfl

theorem State.icp_icpPump (s : State) (n : Nat) : (s.icpPump n).icp n = ((s.icp n).pump (s.icp n).waiting).1 := by
  have h : (s.icpPump n).icps = s.icps.put n ((s.icp n).pump (s.icp n).waiting).1 :=
    State.foldl_at State.icps (fun _ _ => State.respond_icps ..) _ _
  rw [State.icp, h, Map.get_put_self]

@[simp] theorem State.link_icpPump (s : State) (n : Nat) : ((s.icpPump n).icp n).link = (s.icp n).link := by
  rw [State.icp_icpPump, IcpPort.link_pump]

@[simp] theorem State.link_icpFrame (s : State) (n : Nat) (kind : IcpKind) (fields : List Nat) (flits : Nat) :
    ((s.icpFrame n kind fields flits).icp n).link = (s.icp n).link := by
  rw [State.icpFrame]
  dsimp only
  rw [State.link_icpPump, State.icp_updIcp]
  rfl

theorem IcpPort.rxNext_of_link {p q : IcpPort} (h : p.link = q.link) : p.rxNext = q.rxNext := (congrArg IcpPort.rxNext h :)

theorem IcpPort.helloCount_of_link {p q : IcpPort} (h : p.link = q.link) : p.helloCount = q.helloCount :=
  (congrArg IcpPort.helloCount h :)

/-- Fields of two ports that sending leaves the same. -/
theorem IcpPort.fields_of_link {p q : IcpPort} (h : p.link = q.link) : p.state = q.state ∧ p.rev = q.rev ∧ p.lanes = q.lanes ∧
    p.peerHello = q.peerHello :=
  ⟨(congrArg IcpPort.state h :), (congrArg IcpPort.rev h :), (congrArg IcpPort.lanes h :),
    (congrArg IcpPort.peerHello h :)⟩

/-! ### Output -/

theorem State.out_respond (s : State) (id : Nat) (r : MsgResp) {o : Out} (h : o ∈ s.out) : o ∈ (s.respond id r).out :=
  List.mem_append_left _ h

/-- Responses add to the output. -/
theorem State.mem_out_foldl_respond (f : Nat → MsgResp) {o : Out} (l : List Nat) (s : State) (h : o ∈ s.out) :
    o ∈ (l.foldl (fun (s : State) id => s.respond id (f id)) s).out := by
  induction l generalizing s with
  | nil => exact h
  | cons id l ih => exact ih _ (State.out_respond s id _ h)

/-- A frame queued is output. -/
theorem State.mem_out_icpFrame (s : State) (n : Nat) (kind : IcpKind) (fields : List Nat) (flits : Nat) :
    Out.icpen n kind fields ∈ (s.icpFrame n kind fields flits).out :=
  State.mem_out_foldl_respond (fun _ => .ack) _ _ (List.mem_append_right _ (List.mem_singleton_self _))

/-! ### Taking a link down (R487) -/

@[simp] theorem State.resync_icps (s : State) : s.resync.icps = s.icps :=
  (State.resync_follows rfl (State.Follows.refl 2458965396544291608 s)).at State.icps 60 State.reset.icps (fun _ => rfl) rfl

/-- A link taken down is in the state it goes to, on no lane. -/
theorem State.icp_icpDown (s : State) (n : Nat) (dest : IcpState) :
    ((s.icpDown n dest).icp n).state = dest ∧ ((s.icpDown n dest).icp n).lanes = 0 := by
  rw [State.icpDown, State.icp_of_icps (State.resync_icps _)]
  exact ⟨congrArg IcpPort.state (Map.get_upd_self ..), congrArg IcpPort.lanes (Map.get_upd_self ..)⟩

theorem State.icp_linkLost (s : State) (n cause : Nat) :
    ((s.linkLost n cause).icp n).state = .training ∧ ((s.linkLost n cause).icp n).lanes = 0 := State.icp_icpDown ..

/-! ### Flits, acknowledgement and replay (R481-R483) -/

theorem IcpPort.trained_of_up {p : IcpPort} (h : p.up = true) : p.trained = true := by
  unfold IcpPort.trained
  cases hs : p.state <;> simp [IcpPort.up, hs] at h ⊢

/-- A good DATA flit that is the next in order is taken, while the port is up. -/
theorem exec_icpenFlit_taken (s : State) (n ack cr c u : Nat) (h : (s.icp n).up = true) :
    ∃ t, exec (.icpenFlit n true false 1 (s.icp n).rxNext ack cr c u) s = .next t ∧ (t.icp n).rxNext = ((s.icp n).rxNext + 1) % 4096 := by
  refine ⟨_, exec_icpenFlit .., ?_⟩
  simp only [IcpPort.trained_of_up h, h, Bool.not_true, Bool.false_eq_true, if_false, if_true, and_false, or_self,
    Nat.one_ne_zero, Nat.not_lt.mpr (by decide : 1 ≤ 2), State.icp_count64By, State.icp_countBy]
  exact (IcpPort.rxNext_of_link (State.link_icpPump ..)).trans (by rw [State.icp_updIcp, State.icp_count64, State.icp_updIcp]; rfl)

theorem exec_icpenFlit_bad (s : State) (n q cr c u : Nat) (h : (s.icp n).trained = true) :
    ∃ t, exec (.icpenFlit n false false 1 q q cr c u) s = .next t ∧ t.icp n = (s.icp n).miss := by
  simp [exec_icpenFlit, execIcpenFlit, h]

theorem IcpPort.miss_fields (p : IcpPort) : p.miss.rxNext = p.rxNext ∧ p.miss.gap = true ∧
    (p.gap = false → p.miss.nak = true) ∧ (p.gap = true → p.miss.nak = p.nak) := by
  by_cases h : p.gap = true <;> simp [IcpPort.miss, h]

theorem State.icpResend_again {s : State} {n : Nat} (hne : (s.icp n).replay ≠ []) (hall : ∀ f, f ∈ (s.icp n).replay → f.2 ≤ 16) :
    (s.icpResend n).icp n = { s.icp n with replay := (s.icp n).replay.map (fun f => (f.1, f.2 + 1)) } := by
  have hlim : ¬(((s.icp n).replay.any (fun f => decide (17 ≤ f.2))) = true) := by
    simpa using fun a b hf => Nat.lt_succ_of_le (hall (a, b) hf)
  have hemp : ¬((s.icp n).replay.isEmpty = true) := by simpa using hne
  rw [State.icpResend]
  dsimp only
  rw [if_neg hemp, if_neg hlim, State.icp_of_icps (State.logLimitedFor_icps ..), State.icp_countBy, State.icp_updIcp]

theorem State.icpResend_lost {s : State} {n : Nat} (h : ∃ f, f ∈ (s.icp n).replay ∧ 17 ≤ f.2) : s.icpResend n = s.linkLost n 2 := by
  obtain ⟨f, hf, h17⟩ := h
  have hlim : ((s.icp n).replay.any (fun f => decide (17 ≤ f.2))) = true := List.any_eq_true.mpr ⟨f, hf, decide_eq_true h17⟩
  have hemp : ¬((s.icp n).replay.isEmpty = true) := by simpa using List.ne_nil_of_mem hf
  rw [State.icpResend]
  dsimp only
  rw [if_neg hemp, if_pos hlim]

theorem State.icpResend_nothing {s : State} {n : Nat} (h : (s.icp n).replay = []) : s.icpResend n = s := by
  rw [State.icpResend, h]
  rfl

/-! ### HELLO frames sent -/

/-- A HELLO frame sent is counted, and nothing else of the link changes but the copy kept for authentication. -/
theorem State.link_sendHello (s : State) (n : Nat) : ((s.sendHello n).icp n).link = ({ s.icp n with
    helloCount := ((s.icp n).helloCount + 1) % 2 ^ 16
    ownHello := if (s.icp n).state = .hello then s.ownHello n false else (s.icp n).ownHello } : IcpPort).link := by
  rw [State.sendHello]
  dsimp only
  rw [State.link_icpFrame, State.icp_updIcp]

theorem State.mem_out_sendHello (s : State) (n : Nat) : ∃ bs, Out.icpen n .hello bs ∈ (s.sendHello n).out :=
  ⟨_, State.mem_out_icpFrame ..⟩

/-! ### Lanes (R479) -/

theorem two_pow_le_of_bit {x i : Nat} (h : bit x i = true) : 2 ^ i ≤ x := by
  refine Nat.le_of_not_lt fun hlt => ?_
  exact absurd (bit_eq_false_of_lt hlt) (by simp [h])

/-- A lane dropped that is not the last. -/
theorem State.dropLane_rest {s : State} {n lane : Nat} (cause : Nat) (hbit : bit (s.icp n).lanes lane = true)
    (hlast : (s.icp n).lanes ≠ 2 ^ lane) : ((s.dropLane n lane cause).icp n).lanes = (s.icp n).lanes - 2 ^ lane ∧
      ((s.icp n).state = .active → ((s.dropLane n lane cause).icp n).state = .degraded) := by
  have hrest : (s.icp n).lanes - 2 ^ lane ≠ 0 := by
    have := two_pow_le_of_bit hbit
    omega
  rw [State.dropLane, if_neg hrest, State.icp_updIcp, State.icp_logEvent, State.icp_count]
  exact ⟨rfl, fun hact => if_pos hact⟩

/-- The last lane dropped takes the link down. -/
theorem State.dropLane_last {s : State} {n lane : Nat} (cause : Nat) (hlast : (s.icp n).lanes = 2 ^ lane) :
    ((s.dropLane n lane cause).icp n).state = .training := by
  rw [State.dropLane, if_pos (by omega)]
  exact (State.icp_linkLost ..).1

theorem exec_laneDrop_sent {s : State} {n lane : Nat} (cause : Nat) (h : (s.icp n).trained = true) (hbit : bit (s.icp n).lanes lane = true) :
    exec (.laneDrop n lane cause) s =
      .next ((if (s.icp n).lanes = 2 ^ lane then s else s.icpFrame n .lanedrop [lane] 1).dropLane n lane cause) := by
  rw [exec_laneDrop, execLaneDrop, if_neg (by simp [h, hbit])]

theorem exec_lanedrop_taken {s : State} {n lane : Nat} (h : (s.icp n).trained = true) (hbit : bit (s.icp n).lanes lane = true) :
    exec (.lanedrop n lane) s = .next (s.draw.dropLane n lane (Config.free s.freeCtr % 3)) := by
  rw [exec_lanedrop, execLanedrop, if_neg (by simp [h, hbit])]

theorem exec_laneDrop_ends (s : State) (n lane cause : Nat) (h : (s.icp n).trained = true) (hbit : bit (s.icp n).lanes lane = true) :
    ∃ t u, exec (.laneDrop n lane cause) s = .next t ∧ exec (.lanedrop n lane) s = .next u ∧
      ((s.icp n).lanes ≠ 2 ^ lane → (t.icp n).lanes = (s.icp n).lanes - 2 ^ lane ∧ (u.icp n).lanes = (s.icp n).lanes - 2 ^ lane ∧
        ((s.icp n).state = .active → (t.icp n).state = .degraded ∧ (u.icp n).state = .degraded)) ∧
      ((s.icp n).lanes = 2 ^ lane → (t.icp n).state = .training ∧ (u.icp n).state = .training) := by
  refine ⟨_, _, exec_laneDrop_sent cause h hbit, exec_lanedrop_taken h hbit, fun hlast => ?_, fun hlast => ?_⟩
  · obtain ⟨hstate, -, hlanes, -⟩ := IcpPort.fields_of_link (s.link_icpFrame n .lanedrop [lane] 1)
    obtain ⟨hown, hownState⟩ := State.dropLane_rest (s := s.icpFrame n .lanedrop [lane] 1) cause
      (by rw [hlanes]; exact hbit) (by rw [hlanes]; exact hlast)
    obtain ⟨hpeer, hpeerState⟩ := State.dropLane_rest (s := s.draw) (Config.free s.freeCtr % 3) hbit hlast
    rw [if_neg hlast]
    exact ⟨hown.trans (congrArg (· - 2 ^ lane) hlanes), hpeer, fun hact => ⟨hownState (hstate.trans hact), hpeerState hact⟩⟩
  · rw [if_pos hlast]
    exact ⟨State.dropLane_last cause hlast, State.dropLane_last (s := s.draw) _ hlast⟩

/-! ### Training (R485) -/

theorem exec_trainingTimeout_ends (s : State) (n : Nat) (h : (s.icp n).state = .training) (hatt : (s.icp n).attempt = true) :
    ∃ t, exec (.trainingTimeout n) s = .next t ∧ (t.icp n).attempt = false ∧
      ((s.icp n).fails = 2 → (t.icp n).offer = max 1 ((s.icp n).offer - 1) ∧ (t.icp n).fails = 0) ∧
      ((s.icp n).fails ≠ 2 → (t.icp n).offer = (s.icp n).offer ∧ (t.icp n).fails = (s.icp n).fails + 1) := by
  refine ⟨_, exec_trainingTimeout n s, ?_⟩
  rw [if_pos ⟨h, hatt⟩, State.icp_updIcp]
  by_cases hf : (s.icp n).fails = 2 <;> simp [hf]

theorem exec_trainingComplete_locks (s : State) (n rev lanes : Nat) (h : (s.icp n).state = .training) (hatt : (s.icp n).attempt = true)
    (hlanes : lanes % 16 ≠ 0) (hrev : 1 ≤ rev) (hoffer : rev ≤ (s.icp n).offer) :
    ∃ t, exec (.trainingComplete n rev lanes) s = .next t ∧
      (t.icp n).state = .hello ∧ (t.icp n).rev = rev ∧ (t.icp n).lanes = lanes % 16 := by
  have hgo : ¬((s.icp n).state ≠ .training ∨ (!(s.icp n).attempt) = true ∨ lanes % 16 = 0 ∨ rev = 0 ∨ (s.icp n).offer < rev) := by
    simp [h, hatt, hlanes, hoffer]
    omega
  refine ⟨_, exec_trainingComplete n rev lanes s, ?_⟩
  dsimp only
  rw [if_neg hgo]
  obtain ⟨hstate, hr, hl, -⟩ := IcpPort.fields_of_link (State.link_sendHello _ _)
  rw [hstate, hr, hl, State.icp_updIcp]
  exact ⟨rfl, rfl, rfl⟩

/-! ### HELLO frames received (R486) -/

/-- The port as authentication begins, before its frames are sent. -/
def IcpPort.toAuth (p : IcpPort) (share peerHello : List Byte) : IcpPort :=
  { p with state := .auth, peerHello := peerHello, ownShare := share, peerShare := [], peerCert := [], signed := false
           ownResult := none, peerResult := none }

/-- Authentication begins with the peer's frame kept. -/
theorem State.link_beginAuth (s : State) (n : Nat) (bs : List Byte) :
    ((s.beginAuth n bs).icp n).link = ((s.icp n).toAuth (s.newShare n) bs).link := by
  have hframes : ((s.beginAuth n bs).icp n).link =
      (((s.drawMany 128).updIcp n (fun p => p.toAuth (s.newShare n) bs)).icp n).link :=
    (State.link_icpFrame ..).trans (State.link_icpFrame ..)
  rw [hframes, State.icp_updIcp]
  rfl

theorem State.icp_beginAuth (s : State) (n : Nat) (bs : List Byte) : ((s.beginAuth n bs).icp n).state = .auth ∧
    ((s.beginAuth n bs).icp n).rev = (s.icp n).rev ∧ ((s.beginAuth n bs).icp n).peerHello = bs := by
  obtain ⟨hstate, hrev, -, hpeer⟩ := IcpPort.fields_of_link (s.link_beginAuth n bs)
  exact ⟨hstate, hrev, hpeer⟩

/-- A HELLO frame in state HELLO is noted, and greeted. -/
theorem exec_hello_greets (s : State) (n : Nat) (bs : List Byte) (h : (s.icp n).state = .hello) :
    exec (.hello n bs) s = .next ((s.updIcp n (fun p => p.note bs s.time)).greet n bs) := by
  simp [exec_hello, execHello, IcpPort.trained, h]

theorem State.greet_matches {s : State} {n : Nat} (bs : List Byte)
    (h : 1 ≤ min (min (s.icp n).rev (s.icp n).peerMaxRev) (genRev (s.icp n).peerGen) ∧ (s.icp n).peerRole = (s.portRole n).role) :
    ((s.greet n bs).icp n).state = .auth ∧
      ((s.greet n bs).icp n).rev = min (min (s.icp n).rev (s.icp n).peerMaxRev) (genRev (s.icp n).peerGen) ∧
      ((s.greet n bs).icp n).peerHello = bs := by
  rw [State.greet, if_pos h]
  obtain ⟨hstate, hrev, hpeer⟩ := State.icp_beginAuth (s.updIcp n (fun p => { p with
    rev := min (min (s.icp n).rev (s.icp n).peerMaxRev) (genRev (s.icp n).peerGen) })) n bs
  rw [State.icp_updIcp] at hrev
  exact ⟨hstate, hrev, hpeer⟩

theorem State.greet_differs {s : State} {n : Nat} (bs : List Byte)
    (h : ¬(1 ≤ min (min (s.icp n).rev (s.icp n).peerMaxRev) (genRev (s.icp n).peerGen) ∧ (s.icp n).peerRole = (s.portRole n).role)) :
    (s.greet n bs).icp n = { s.icp n with cause := 6, told := some (s.icp n).peerHash } := by
  rw [State.greet, if_neg h]
  split
  · exact State.icp_updIcp ..
  · rw [State.icp_logEvent, State.icp_updIcp]

/-- A HELLO frame in state HELLO starts authentication at the common revision, or leaves cause 6. -/
theorem exec_hello_ends (s : State) (n : Nat) (bs : List Byte) (h : (s.icp n).state = .hello) :
    ∃ t, exec (.hello n bs) s = .next t ∧
      (1 ≤ min (min (s.icp n).rev ((s.icp n).note bs s.time).peerMaxRev) (genRev ((s.icp n).note bs s.time).peerGen) →
        ((s.icp n).note bs s.time).peerRole = (s.portRole n).role → (t.icp n).state = .auth ∧
        (t.icp n).rev = min (min (s.icp n).rev ((s.icp n).note bs s.time).peerMaxRev) (genRev ((s.icp n).note bs s.time).peerGen) ∧
        (t.icp n).peerHello = bs) ∧
      (min (min (s.icp n).rev ((s.icp n).note bs s.time).peerMaxRev) (genRev ((s.icp n).note bs s.time).peerGen) = 0 ∨
        ((s.icp n).note bs s.time).peerRole ≠ (s.portRole n).role → (t.icp n).state = .hello ∧ (t.icp n).cause = 6) := by
  let u := s.updIcp n (fun p => p.note bs s.time)
  have hu : u.icp n = (s.icp n).note bs s.time := State.icp_updIcp ..
  refine ⟨u.greet n bs, exec_hello_greets s n bs h, fun hcommon hrole => ?_, fun hdiff => ?_⟩
  · have hmatch := State.greet_matches (s := u) (n := n) bs
    rw [hu] at hmatch
    exact hmatch ⟨hcommon, hrole⟩
  · have hmiss := State.greet_differs (s := u) (n := n) bs
    rw [hu] at hmiss
    rw [hmiss fun hyes => hdiff.elim (fun h0 => absurd (h0 ▸ hyes.1) (by decide)) fun hne => hne hyes.2]
    exact ⟨h, rfl⟩

/-- Settles O56, by what sending leaves of a port and each command's own change. -/
theorem linkTraining : Obligations.LinkTraining := by
  refine ⟨fun s n q cr c u => ⟨fun hup => exec_icpenFlit_taken s n _ cr c u hup, fun htr => ?_⟩,
    fun s n htr => ⟨fun hnone => ?_, fun hne hall => ?_, fun hmax => ?_, ?_, ?_⟩,
    fun s n lane cause htr hbit => exec_laneDrop_ends s n lane cause htr hbit,
    fun s n rev lanes htr => ⟨fun hatt hhold => ?_, fun hhold => ?_, fun hatt => exec_trainingTimeout_ends s n htr hatt,
      fun hatt hlanes hrev hoffer => exec_trainingComplete_locks s n rev lanes htr hatt hlanes hrev hoffer⟩,
    fun s n => ⟨fun h => ?_, fun h => ?_⟩, fun s n bs h => exec_hello_ends s n bs h⟩
  · obtain ⟨t, hstep, ht⟩ := exec_icpenFlit_bad s n q cr c u htr
    exact ⟨t, hstep, ht ▸ IcpPort.miss_fields _⟩
  · rw [exec_icpenAckTimeout, execIcpenAckTimeout, if_pos htr, State.icpResend_nothing hnone]
  · rw [exec_icpenAckTimeout, execIcpenAckTimeout, if_pos htr]
    exact ⟨_, rfl, by rw [State.icpResend_again hne hall], by rw [State.icpResend_again hne hall]⟩
  · rw [exec_icpenAckTimeout, execIcpenAckTimeout, if_pos htr, State.icpResend_lost hmax]
    exact ⟨_, rfl, (State.icp_linkLost ..).1⟩
  · rw [exec_linkSilenceTimeout, execLinkSilenceTimeout, if_pos htr]
    exact ⟨_, rfl, State.icp_linkLost ..⟩
  · rw [exec_helloTimer, execHelloTimer, if_pos htr]
    exact ⟨_, rfl, IcpPort.helloCount_of_link (s.link_sendHello n), s.mem_out_sendHello n⟩
  · rw [exec_discoveryBurst, execDiscoveryBurst, if_pos ⟨htr, by rw [hatt]; rfl, by rw [hhold]; rfl⟩]
    exact ⟨_, rfl⟩
  · rw [exec_trainingPatternDetected, execTrainingPatternDetected, if_pos ⟨htr, by rw [hhold]; rfl⟩]
    exact ⟨_, rfl, State.icp_updIcp ..⟩
  · rw [exec_helloTimeout, execHelloTimeout, if_pos h]
    exact ⟨_, rfl, (State.icp_icpDown ..).1⟩
  · rw [exec_helloTimeout, execHelloTimeout, if_neg h]

end Sys2Proof.Machine
end

section
/-!
The device reset (16, R468): what it keeps and what it returns to reset.
-/
namespace Sys2Proof
section
variable {α : Type}

/-- A key whose cells are dropped reads as the default. -/
theorem Map.get_keep_of_dropped [Inhabited α] (m : Map α) {p : Nat → Bool} {k : Nat} (hk : p k = false) :
    (m.keep (fun j _ => p j)).get k = default := by
  obtain ⟨cells⟩ := m
  show Map.find default (cells.filter (fun c => p c.1)) k = default
  induction cells with
  | nil => rfl
  | cons c cells ih =>
    by_cases hkeep : p c.1 = true
    · have hkey : c.1 ≠ k := fun he => absurd (he ▸ hkeep) (by simp [hk])
      rw [List.filter_cons_of_pos (p := fun c : Nat × α => p c.1) hkeep, Map.find, if_neg hkey, ih]
    · rw [List.filter_cons_of_neg (p := fun c : Nat × α => p c.1) hkeep, ih]

end
end Sys2Proof

namespace Sys2Proof.Machine
open Sys2Proof Sys2Proof.Claims

/-- The state that is reset: no ring command is in progress, and field tests and calibration turns have ended. -/
def State.quiesced (s : State) : State := ({ s with cmd := {} } : State).abortTests.abandonTurns

/-- Ending them leaves the fuses, the stacks and the weight keys. -/
theorem State.quiesced_keeps (s : State) :
    s.quiesced.fuses = s.fuses ∧ s.quiesced.peds = s.peds ∧ s.quiesced.weightKeys = s.weightKeys := by
  have h : State.Follows 295319041965193200408 { s with cmd := {} } s.quiesced :=
    State.abandonTurns_follows rfl (State.abortTests_follows rfl (State.Follows.refl 295319041965193200408 _))
  exact ⟨h.at State.fuses 10 State.reset.fuses (fun _ => rfl) rfl, h.at State.peds 31 State.reset.peds (fun _ => rfl) rfl,
    h.at State.weightKeys 75 State.reset.weightKeys (fun _ => rfl) rfl⟩

theorem exec_deviceReset_resets {s : State} (p : Port) (h : 5 ≤ s.pwr.dawn) :
    exec (.deviceReset p) s = .next (s.quiesced.resetAll p.num).latchInj := by
  rw [exec_deviceReset, execDeviceReset, State.deviceReset, if_neg (by omega)]
  rfl

/-- With the stacks in canonical storage, a device reset keeps the fuses, the weight keys and the contents of every stack, and
returns the rest to reset. -/
theorem exec_deviceReset_canonical {s : State} (hwf : s.peds.wf = true) (p : Port) (h : 5 ≤ s.pwr.dawn) :
    ∃ t, exec (.deviceReset p) s = .next t ∧ t.seqs = {} ∧ t.cores = {} ∧ t.img = {} ∧ t.pwr.dawn = 4 ∧
      t.fuses = s.fuses ∧ t.weightKeys = s.weightKeys ∧ (∀ k, (t.peds.get k).mem = (s.peds.get k).mem) ∧
      ∀ r, keptReg r = false → t.regs.get r = none := by
  obtain ⟨hfuses, hpeds, hkeys⟩ := s.quiesced_keeps
  have hstep := exec_deviceReset_resets p h
  generalize s.quiesced = q at hfuses hpeds hkeys hstep
  refine ⟨_, hstep, rfl, rfl, rfl, rfl, hfuses, hkeys, fun k => ?_, fun r hr => Map.get_keep_of_dropped q.regs hr⟩
  have hped : (q.resetAll p.num).latchInj.peds = s.peds.mapVals (fun _ x => x.afterReset) :=
    congrArg (fun m => Map.mapVals m fun _ x => Ped.afterReset x) hpeds
  rw [hped, Map.get_mapVals rfl hwf]
  rfl

/-- Two cells under stack 0, with the core clocks running: the one that is read has a thread's number, and hides one whose
stack holds a byte. No write makes such storage (`Map.wf_put`), and no clause of the statement excludes it. -/
def hiddenStack : State :=
  { pwr := { dawn := 5 }, peds := ⟨[(0, { lastStarted := 0 }), (0, { mem := Memory.store {} 0 [1] })]⟩ }

/-- Refutes O54: it speaks of every state, also of one whose stacks are not in canonical storage. A device reset of
`hiddenStack` makes the cell that is read equal to a stack at reset, which storage drops, and the one behind it is read, so
that the stack's contents change. With canonical storage that clause holds (`exec_deviceReset_canonical`). -/
theorem not_portsAndResets : ¬ Obligations.PortsAndResets := by
  rintro ⟨hreset, -⟩
  obtain ⟨-, hresets⟩ := hreset hiddenStack .a
  obtain ⟨t, ht, -, -, -, -, -, -, hmem, -⟩ := hresets (by decide)
  cases ht
  exact absurd (hmem 0) (by decide)

end Sys2Proof.Machine
end

section
/-!
Host services (16, R451, R454-R460, R467, R472-R474): the stack window, interrupt messages, the event ring and the management
port.
-/
namespace Sys2Proof.Machine
open Sys2Proof Sys2Proof.Claims

/-- What a state gives out last. -/
theorem State.getLast?_emit (s : State) (o : Out) : (s.emit o).out.getLast? = some o := by
  rw [State.emit_out, List.getLast?_concat]

/-! ### The stack window under raw addressing (R454) -/

/-- A raw offset within the stack's range leads to the stack selected, at that address. -/
theorem State.bar4Addr_raw {s : State} {p off : Nat} (hraw : bit (s.regN (Reg.HST_B4_SEL p)) 31 = false)
    (hst : s.regN (Reg.HST_B4_SEL p) % 8 < s.fuses.stackN) (hoff : off < 0xA00000000) :
    s.bar4Addr p off = some (s.regN (Reg.HST_B4_SEL p) % 8, off) := by
  have hwin : off < 0xA40000000 := by omega
  simp [State.bar4Addr, hraw, hst, hwin]

section
variable {s : State} {p off size : Nat} (hraw : bit (s.regN (Reg.HST_B4_SEL p)) 31 = false)
  (hst : s.regN (Reg.HST_B4_SEL p) % 8 < s.fuses.stackN) (hend : off + size ≤ 0xA00000000)
  (hclean : ∀ k, k < size → (s.peds.get (s.regN (Reg.HST_B4_SEL p) % 8)).poisoned (off + k) 1 = false)
include hraw hst hend hclean

/-- A read that meets no poison returns the stack's bytes. -/
theorem State.bar4Bytes_raw : s.bar4Bytes p off size =
    (List.range size).map (fun k => (s.peds.get (s.regN (Reg.HST_B4_SEL p) % 8)).mem.get (off + k)) := by
  refine List.map_congr_left fun k hk => ?_
  have hlt : k < size := List.mem_range.mp hk
  rw [State.bar4Addr_raw hraw hst (by omega)]
  dsimp only
  rw [hclean k hlt, if_neg Bool.false_ne_true]

theorem State.bar4Poison_raw : s.bar4Poison p off size = 0 := by
  have hnone : ∀ x ∈ (List.range size).filterMap (fun k => s.bar4Addr p (off + k)), (s.peds.get x.1).poisoned x.2 1 = false := by
    intro x hx
    obtain ⟨k, hk, hkx⟩ := List.mem_filterMap.mp hx
    have hlt : k < size := List.mem_range.mp hk
    rw [State.bar4Addr_raw hraw hst (by omega)] at hkx
    obtain rfl := Option.some.inj hkx
    exact hclean k hlt
  have hnil : ((List.range size).filterMap (fun k => s.bar4Addr p (off + k))).filterMap (fun x =>
      if (s.peds.get x.1).poisoned x.2 1 then some (x.2 / 64) else none) = [] := by
    rw [List.filterMap_eq_nil_iff]
    intro x hx
    rw [hnone x hx, if_neg Bool.false_ne_true]
  rw [State.bar4Poison, hnil]
  rfl

end

/-- One byte of a BAR4 write. -/
def State.bar4Byte (s : State) (p off : Nat) (x : Byte × Nat) : State :=
  match s.bar4Addr p (off + x.2) with
  | some (st, a) => if a < 0xA00000000 ∨ bit (s.regN (Reg.HST_B4_SEL p)) 31 then s.updPed st (fun q => q.writeByte a x.1) else s
  | none => s

theorem State.bar4Store_eq (s : State) (p off : Nat) (data : List Byte) :
    s.bar4Store p off data = data.zipIdx.foldl (fun s x => s.bar4Byte p off x) s := rfl

theorem State.bar4Byte_raw {s : State} {p off k : Nat} (b : Byte) (hraw : bit (s.regN (Reg.HST_B4_SEL p)) 31 = false)
    (hst : s.regN (Reg.HST_B4_SEL p) % 8 < s.fuses.stackN) (hoff : off + k < 0xA00000000) :
    s.bar4Byte p off (b, k) = s.updPed (s.regN (Reg.HST_B4_SEL p) % 8) (fun q => q.writeByte (off + k) b) := by
  rw [State.bar4Byte, State.bar4Addr_raw hraw hst hoff]
  exact if_pos (Or.inl hoff)

/-- A raw write leaves the stack's memory with the bytes stored, and every other stack as it was. -/
theorem State.bar4Store_raw {s : State} {p off j : Nat} (hraw : bit (s.regN (Reg.HST_B4_SEL p)) 31 = false)
    (hst : s.regN (Reg.HST_B4_SEL p) % 8 < s.fuses.stackN) {data : List Byte} (hend : off + j + data.length ≤ 0xA00000000) :
    (((data.zipIdx j).foldl (fun s x => s.bar4Byte p off x) s).peds.get (s.regN (Reg.HST_B4_SEL p) % 8)).mem =
        (s.peds.get (s.regN (Reg.HST_B4_SEL p) % 8)).mem.store (off + j) data ∧
      ∀ i, i ≠ s.regN (Reg.HST_B4_SEL p) % 8 →
        ((data.zipIdx j).foldl (fun s x => s.bar4Byte p off x) s).peds.get i = s.peds.get i := by
  induction data generalizing s j with
  | nil => exact ⟨rfl, fun _ _ => rfl⟩
  | cons b data ih =>
    rw [List.length_cons] at hend
    rw [List.zipIdx_cons, List.foldl_cons, State.bar4Byte_raw b hraw hst (by omega)]
    obtain ⟨hmem, hother⟩ := ih (s := s.updPed (s.regN (Reg.HST_B4_SEL p) % 8) (fun q => q.writeByte (off + j) b)) (j := j + 1)
      hraw hst (by omega)
    have hbyte : (s.updPed (s.regN (Reg.HST_B4_SEL p) % 8) (fun q => q.writeByte (off + j) b)).peds.get
        (s.regN (Reg.HST_B4_SEL p) % 8) = (s.peds.get (s.regN (Reg.HST_B4_SEL p) % 8)).writeByte (off + j) b :=
      Map.get_upd_self ..
    exact ⟨hmem.trans (congrArg (fun q : Ped => q.mem.store (off + j + 1) data) hbyte),
      fun i hi => (hother i hi).trans (Map.get_upd_ne _ _ hi)⟩

/-! ### Interrupt messages (R459, R460) -/

/-- A message that nothing holds is sent. -/
theorem State.deliverMsix_sent {s : State} {p v : Nat} (hup : (s.ports.get p).linkUp = true) (hen : (s.ports.get p).msixEnable = true)
    (hmask : (s.ports.get p).funcMask = false) (hd0 : (s.ports.get p).dState = 0)
    (hvec : bit (s.regN (Reg.MSIX_TABLE p (4 * v + 3))) 0 = false) : s.deliverMsix p v = s.emit (.msix p v) := by
  simp [State.deliverMsix, hup, hen, hmask, hd0, hvec]

theorem getLsbD_set_pending (b : BitVec 64) {v : Nat} (hv : v < 64) : (b ||| BitVec.ofNat 64 (2 ^ v)).getLsbD v = true := by
  rw [BitVec.getLsbD_or, BitVec.getLsbD_ofNat, Nat.testBit_two_pow_self, decide_eq_true hv, Bool.and_true, Bool.or_true]

theorem getLsbD_clear_pending (b : BitVec 64) {v : Nat} (hv : v < 64) : (b &&& ~~~(BitVec.ofNat 64 (2 ^ v))).getLsbD v = false := by
  rw [BitVec.getLsbD_and, BitVec.getLsbD_not, BitVec.getLsbD_ofNat, Nat.testBit_two_pow_self, decide_eq_true hv, Bool.and_true,
    Bool.not_true, Bool.and_false, Bool.and_false]

/-- A message is sent, or its pending bit is set. -/
theorem State.deliverMsix_sent_or_pending (s : State) (p : Nat) {v : Nat} (hv : v < 64) :
    (s.deliverMsix p v).out = s.out ++ [.msix p v] ∨ ((s.deliverMsix p v).ports.get p).pba.getLsbD v = true := by
  rw [State.deliverMsix]
  split
  · exact Or.inl rfl
  · refine Or.inr ?_
    rw [Map.get_put_self]
    exact getLsbD_set_pending _ hv

theorem State.deliverMsix_irq (s : State) (p v : Nat) : (s.deliverMsix p v).irq = s.irq := by
  rw [State.deliverMsix]
  split <;> rfl

theorem exec_bar4_closed (s : State) (p off size : Nat) (data : List Byte) (hp : p < s.fuses.hostPorts) (h4 : 4 ≤ size)
    (h512 : size ≤ 512) (hlen : data.length = size) (hclosed : s.debugOpen 0 = false) :
    (∃ t, exec (.bar4Read p off size) s = .next t ∧ t.peds = s.peds ∧
      t.out.getLast? = some (.readData (if p = 0 then Port.a else Port.b) size (allOnes size))) ∧
    ∃ t, exec (.bar4Write p off data) s = .next t ∧ t.peds = s.peds := by
  have hpeds : (s.bar4Locked p off).peds = s.peds := by
    rw [State.bar4Locked, State.logLimited, State.logLimitedFor_peds]
  have htakes : s.bar4Takes p size = true := by simp [State.bar4Takes, hp, h4, h512]
  have hread : exec (.bar4Read p off size) s =
      .next ((s.bar4Locked p off).emit (.readData (if p = 0 then Port.a else Port.b) size (allOnes size))) := by
    simp [exec_bar4Read, execBar4Read, htakes, hclosed]
  have hwrite : exec (.bar4Write p off data) s = .next (s.bar4Locked p off) := by
    simp [exec_bar4Write, execBar4Write, hlen, htakes, hclosed]
  exact ⟨⟨_, hread, (State.emit_peds ..).trans hpeds, State.getLast?_emit ..⟩, _, hwrite, hpeds⟩

theorem exec_bar4_raw (s : State) (p off size : Nat) (data : List Byte) (hp : p < s.fuses.hostPorts) (h4 : 4 ≤ size) (h512 : size ≤ 512)
    (hlen : data.length = size) (hopen : s.debugOpen 0 = true) (hraw : bit (s.regN (Reg.HST_B4_SEL p)) 31 = false)
    (hst : s.regN (Reg.HST_B4_SEL p) % 8 < s.fuses.stackN) (hend : off + size ≤ 0xA00000000) :
    ((∀ k, k < size → (s.peds.get (s.regN (Reg.HST_B4_SEL p) % 8)).poisoned (off + k) 1 = false) →
      exec (.bar4Read p off size) s = .next (s.emit (.readData (if p = 0 then Port.a else Port.b) size
        (leNat ((List.range size).map (fun k => (s.peds.get (s.regN (Reg.HST_B4_SEL p) % 8)).mem.get (off + k))))))) ∧
    ∃ t, exec (.bar4Write p off data) s = .next t ∧
      (∀ k b, data[k]? = some b → (t.peds.get (s.regN (Reg.HST_B4_SEL p) % 8)).mem.get (off + k) = b) ∧
      (∀ a, a < off ∨ off + size ≤ a →
        (t.peds.get (s.regN (Reg.HST_B4_SEL p) % 8)).mem.get a = (s.peds.get (s.regN (Reg.HST_B4_SEL p) % 8)).mem.get a) ∧
      ∀ j, j ≠ s.regN (Reg.HST_B4_SEL p) % 8 → t.peds.get j = s.peds.get j := by
  have htakes : s.bar4Takes p size = true := by simp [State.bar4Takes, hp, h4, h512]
  refine ⟨fun hclean => ?_, ?_⟩
  · simp only [exec_bar4Read, execBar4Read, htakes, hopen, Bool.not_true, Bool.false_eq_true, if_false,
      State.bar4Bytes_raw hraw hst hend hclean, State.bar4Poison_raw hraw hst hend hclean, if_true]
  · have hstep : exec (.bar4Write p off data) s = .next (s.bar4Store p off data) := by
      simp only [exec_bar4Write, execBar4Write, hlen, htakes, hopen, Bool.not_true, Bool.false_eq_true, if_false]
    obtain ⟨hmem, hother⟩ := State.bar4Store_raw (off := off) (j := 0) hraw hst (data := data) (by omega)
    rw [← State.bar4Store_eq] at hmem
    refine ⟨_, hstep, fun k b hk => ?_, fun a ha => ?_, hother⟩
    · have hlt : k < data.length := (List.getElem?_eq_some_iff.mp hk).1
      rw [hmem, Memory.get_store, if_pos (by omega), Nat.add_zero, Nat.add_sub_cancel_left, hk, Option.getD_some]
    · rw [hmem, Memory.get_store, if_neg (by omega)]

theorem exec_irqHoldExpiry_raises (s : State) (src : Nat) (hsrc : src < 16) (hen : bit (s.regN (Reg.HST_IRQ src)) 31 = true)
    (hhold : bits (s.regN (Reg.HST_IRQ src)) 23 12 ≠ 0) (hpend : 0 < (s.irq.get src).pending) :
    ∃ t, exec (.irqHoldExpiry src) s = .next t ∧ (t.irq.get src).pending = 0 ∧
      (t.out = s.out ++ [.msix (bits (s.regN (Reg.HST_IRQ src)) 30 30) (bits (s.regN (Reg.HST_IRQ src)) 29 24)] ∨
        (t.ports.get (bits (s.regN (Reg.HST_IRQ src)) 30 30)).pba.getLsbD (bits (s.regN (Reg.HST_IRQ src)) 29 24) = true) := by
  have hstep : exec (.irqHoldExpiry src) s = .next (s.raiseIrq src) := congrArg Host.Outcome.next (if_pos ⟨hsrc, hen, hhold, hpend⟩)
  refine ⟨_, hstep, ?_, State.deliverMsix_sent_or_pending { s with irq := s.irq.put src {} } _ (bits_lt ..)⟩
  rw [State.raiseIrq, State.deliverMsix_irq, Map.get_put_self]

theorem exec_irqHoldExpiry_idle (s : State) (src : Nat) (h : bit (s.regN (Reg.HST_IRQ src)) 31 = false ∨
    bits (s.regN (Reg.HST_IRQ src)) 23 12 = 0 ∨ (s.irq.get src).pending = 0) : exec (.irqHoldExpiry src) s = .next s := by
  refine congrArg Host.Outcome.next (if_neg ?_)
  rintro ⟨-, hen, hhold, hpend⟩
  rcases h with h | h | h
  · exact absurd hen (by simp [h])
  · exact hhold h
  · omega

theorem exec_msixPendingSend_sends (s : State) (p v : Nat) (hv : v < 64) (hpend : (s.ports.get p).pba.getLsbD v = true)
    (hup : (s.ports.get p).linkUp = true) (hen : (s.ports.get p).msixEnable = true) (hmask : (s.ports.get p).funcMask = false)
    (hd0 : (s.ports.get p).dState = 0) (hvec : bit (s.regN (Reg.MSIX_TABLE p (4 * v + 3))) 0 = false) :
    ∃ t, exec (.msixPendingSend p v) s = .next t ∧ t.out = s.out ++ [.msix p v] ∧ (t.ports.get p).pba.getLsbD v = false := by
  let x := s.ports.get p
  let u : State := { s with ports := s.ports.put p { x with pba := x.pba &&& ~~~(BitVec.ofNat 64 (2 ^ v)) } }
  have hu : u.ports.get p = { x with pba := x.pba &&& ~~~(BitVec.ofNat 64 (2 ^ v)) } := Map.get_put_self ..
  have hsent : u.deliverMsix p v = u.emit (.msix p v) :=
    State.deliverMsix_sent (by rw [hu]; exact hup) (by rw [hu]; exact hen) (by rw [hu]; exact hmask) (by rw [hu]; exact hd0) hvec
  have hstep : exec (.msixPendingSend p v) s = .next (u.deliverMsix p v) := congrArg Host.Outcome.next (if_pos ⟨hv, hpend⟩)
  refine ⟨_, hsent ▸ hstep, rfl, ?_⟩
  rw [State.emit_ports, hu]
  exact getLsbD_clear_pending _ hv

/-! ### The event ring (R467) -/

/-- The entries that the event ring is to receive. -/
def State.evrTodo (s : State) : List LogEntry :=
  (s.log.entries.filter (fun e => !e.copied && s.evrWants (eventClass e.code))).take s.evrRoom

/-- The address of an entry of the event ring, from the tail on. -/
def State.evrAddr (s : State) (k : Nat) : Nat :=
  s.reg64 Reg.EVR_BASE_LO / 4096 * 4096 + 32 * ((s.regN Reg.EVR_TAIL + k) % 2 ^ bits (s.regN Reg.EVR_CFG) 4 0)

theorem exec_eventRingCopy_writes (s : State) (hon : bit (s.regN Reg.EVR_CFG) 15 = true)
    (hup : (s.ports.get (bits (s.regN Reg.EVR_CFG) 8 8)).linkUp = true) (hidle : s.evrInFlight = 0) (htodo : s.evrTodo ≠ []) :
    ∃ t, exec .eventRingCopy s = .next t ∧ t.evrInFlight = s.evrTodo.length ∧
      t.out = s.out ++ (s.evrTodo.zipIdx.map (fun x => Out.hostWrite (bits (s.regN Reg.EVR_CFG) 8 8) (s.evrAddr x.2)
        { x.1 with copied := true : LogEntry }.bytes)) ++
        [.hostRead (bits (s.regN Reg.EVR_CFG) 8 8) (s.evrAddr (s.evrTodo.length - 1)) 32] := by
  have hgo : ¬((!bit (s.regN Reg.EVR_CFG) 15 || !(s.ports.get (bits (s.regN Reg.EVR_CFG) 8 8)).linkUp || s.evrInFlight != 0 ||
      s.evrTodo.isEmpty) = true) := by
    simp [hon, hup, hidle, htodo]
  refine ⟨_, congrArg Host.Outcome.next (if_neg hgo), rfl, ?_⟩
  exact congrArg (· ++ [_]) (State.out_foldl_emit _ s.evrTodo.zipIdx s)

theorem exec_eventRingReadbackComplete_advances (s : State) (h : s.evrInFlight ≠ 0) :
    ∃ t, exec .eventRingReadbackComplete s = .next t ∧ t.evrInFlight = 0 ∧
      t.regN Reg.EVR_TAIL = (s.regN Reg.EVR_TAIL + s.evrInFlight) % 2 ^ bits (s.regN Reg.EVR_CFG) 4 0 := by
  have hlt : (s.regN Reg.EVR_TAIL + s.evrInFlight) % 2 ^ bits (s.regN Reg.EVR_CFG) 4 0 < 2 ^ 32 :=
    Nat.lt_of_lt_of_le (Nat.mod_lt _ (Nat.two_pow_pos _))
      (Nat.pow_le_pow_right (by decide) (Nat.le_of_lt (bits_lt (s.regN Reg.EVR_CFG) 4 0)))
  refine ⟨_, congrArg Host.Outcome.next (if_neg h), State.irqEvents_evrInFlight .., ?_⟩
  rw [State.regN_congr (State.irqEvents_regs ..)]
  exact (State.regN_setRegN ..).trans (Nat.mod_eq_of_lt hlt)

/-! ### The management port (R472-R474) -/

/-- Reads of consecutive registers: the state after them and their values. -/
def State.readBlock (s : State) (off n : Nat) : State × List Nat :=
  (List.range n).foldl (fun (a : State × List Nat) k =>
    ((a.1.mgmtRead (off + 4 * k)).1, a.2 ++ [(a.1.mgmtRead (off + 4 * k)).2])) (s, [])

/-- Reads of consecutive registers give one value each. -/
theorem State.length_readBlock (off : Nat) (ks : List Nat) (a : State × List Nat) :
    (ks.foldl (fun (a : State × List Nat) k => ((a.1.mgmtRead (off + 4 * k)).1, a.2 ++ [(a.1.mgmtRead (off + 4 * k)).2])) a).2.length =
      a.2.length + ks.length := by
  induction ks generalizing a with
  | nil => rfl
  | cons k ks ih =>
    rw [List.foldl_cons, ih, List.length_append, List.length_singleton, List.length_cons]
    omega

theorem exec_readBlock_values (s : State) (r off n : Nat) (h1 : 1 ≤ n) (h16 : n ≤ 16) :
    ∃ t vs, exec (.readBlock r .ok off n) s = .next t ∧ vs.length = n ∧ t.out.getLast? = some (.mgmt 0 vs) := by
  have hcount : ¬(n = 0 ∨ 16 < n) := by omega
  have hstep : exec (.readBlock r .ok off n) s = .next ((s.readBlock off n).1.emit (.mgmt 0 (s.readBlock off n).2)) := by
    rw [exec_readBlock, execReadBlock, if_neg hcount]
    rfl
  exact ⟨_, _, hstep, (State.length_readBlock off (List.range n) (s, [])).trans (by simp), State.getLast?_emit ..⟩

theorem exec_alertResponse_releases (s : State) (h : s.smbAlert = true) : ∃ t, exec .alertResponse s = .next t ∧ t.smbAlert = false ∧
    t.out = s.out ++ [.mctp [0x60 + s.fuses.slotId]] := by
  refine ⟨_, congrArg Host.Outcome.next (if_pos h), ?_, rfl⟩
  have hand : ∀ a b m : W32, a &&& b &&& 0xF &&& ~~~(m ||| (a &&& 0xF)) = 0 := by
    intro a b m
    ext i hi
    simp only [BitVec.getElem_and, BitVec.getElem_not, BitVec.getElem_or, BitVec.ofNat_eq_ofNat, BitVec.getElem_zero]
    cases a[i] <;> cases (15#32)[i] <;> simp
  exact bne_eq_false_iff_eq.mpr (hand _ _ _)

/-- Settles O55, service by service. -/
theorem hostServices : Obligations.HostServices := by
  refine ⟨fun s p off size data hp h4 h512 hlen => ⟨fun hclosed => exec_bar4_closed s p off size data hp h4 h512 hlen hclosed,
      fun hopen hraw hst hend => exec_bar4_raw s p off size data hp h4 h512 hlen hopen hraw hst hend⟩,
    fun s src => ⟨fun hsrc hen hhold hpend => exec_irqHoldExpiry_raises s src hsrc hen hhold hpend,
      fun h => exec_irqHoldExpiry_idle s src h⟩,
    fun s p v hv hpend hup hen hmask hd0 hvec => exec_msixPendingSend_sends s p v hv hpend hup hen hmask hd0 hvec,
    fun s => ⟨fun hon hup hidle htodo => exec_eventRingCopy_writes s hon hup hidle htodo,
      fun h => exec_eventRingReadbackComplete_advances s h⟩,
    fun s k => ⟨fun h8 h254 => ?_, rfl, ⟨_, rfl⟩, rfl, fun h0 hk => ?_, fun hk => ?_, rfl⟩,
    fun s r off n v => ⟨⟨_, rfl, State.getLast?_emit ..⟩, fun h1 h16 => exec_readBlock_values s r off n h1 h16,
      fun hw => ?_, fun hw => ?_,
      ⟨s.smbusError r 0, rfl, rfl, State.getLast?_emit ..⟩⟩,
    fun s => ⟨fun h => exec_alertResponse_releases s h, fun h => ?_⟩⟩
  · exact ⟨_, congrArg Host.Outcome.next (if_pos ⟨h8, h254⟩), rfl, rfl⟩
  · have hother : ¬(k = 0 ∨ mctpTypes.contains k = true) := by
      rintro (h | h)
      · exact h0 h
      · exact hk (List.contains_iff_mem.mp h)
    exact ⟨_, congrArg Host.Outcome.next (if_neg hother)⟩
  · match k, hk with
    | 0, _ => rfl
    | 1, _ => rfl
  · exact congrArg Host.Outcome.next (if_pos hw)
  · exact congrArg Host.Outcome.next (if_neg (by rw [hw]; exact Bool.false_ne_true))
  · exact congrArg Host.Outcome.next (if_neg (by rw [h]; exact Bool.false_ne_true))

end Sys2Proof.Machine
end

section
/-!
The SPDM responder (21, R594-R598): requests answered without a session, and the sessions it opens and ends.
-/
namespace Sys2Proof.Machine
open Sys2Proof Sys2Proof.Claims

/-! ### Responses -/

theorem State.spdmReply_refused {s : State} (h : s.sec.identity = 2) (tr code : Nat) (fs : List Nat) :
    s.spdmReply tr code fs = s.emit (.spdm tr 0x7F [0x05]) := if_pos h

theorem State.spdmReply_answered {s : State} (h : s.sec.identity ≠ 2) (tr code : Nat) (fs : List Nat) :
    s.spdmReply tr code fs = s.emit (.spdm tr code fs) := if_neg h

/-- With a failed identity a request in a session is answered with the error of every other request. -/
theorem State.inSession_refused {s : State} (h : s.sec.identity = 2) (tr k phase cause : Nat) (ok : Bool) (f : State → State) :
    s.inSession tr k phase cause ok f = s.emit (.spdm tr 0x7F [0x05]) := if_pos h

section
variable {s : State} (hid : s.sec.identity ≠ 2) {tr k phase : Nat} (cause : Nat) (f : State → State)
include hid

theorem State.inSession_done (h : s.sessionIs tr k phase = true) : s.inSession tr k phase cause true f = f s := by
  simp [State.inSession, hid, h]

theorem State.inSession_fails (h : s.sessionIs tr k phase = true) : s.inSession tr k phase cause false f = s.sessionFail k cause := by
  simp [State.inSession, hid, h]

theorem State.inSession_other (ok : Bool) (h : s.sessionIs tr k phase = false) :
    s.inSession tr k phase cause ok f = s.emit (.spdm tr 0x7F [0x04]) := by
  simp [State.inSession, hid, h, State.spdmError]

end

/-- A session that fails is cleared. -/
theorem State.sessionFail_session (s : State) (k cause : Nat) : (s.sessionFail k cause).sec.sessions.get k = {} := by
  rw [State.sessionFail, State.logEvent_sec, State.count_sec]
  exact Map.get_upd_self ..

/-! ### Requests without a session -/

theorem exec_spdm_refused (s : State) (tr k code off len : Nat) (sg ok : Bool) (h : s.sec.identity = 2) :
    ∃ e, let t := s.emit (.spdm tr 0x7F [e])
    exec (.getDigests tr) s = .next t ∧ exec (.challenge tr k) s = .next t ∧ exec (.getMeasurements tr k sg) s = .next t ∧
    exec (.getCertificate tr k off len) s = .next t ∧ exec (.keyExchange tr) s = .next t ∧ exec (.finish tr k ok) s = .next t ∧
    exec (.heartbeat tr k ok) s = .next t ∧ exec (.keyUpdate tr k ok) s = .next t ∧ exec (.endSession tr k ok) s = .next t ∧
    exec (.spdmUnsupportedRequest tr code) s = .next t := by
  have hcert : exec (.getCertificate tr k off len) s = .next (s.emit (.spdm tr 0x7F [0x05])) := by
    rw [exec_getCertificate, execGetCertificate]
    dsimp only
    rw [if_pos h, State.spdmReply_refused h]
    exact congrArg Host.Outcome.next (ite_self _)
  have hsession : ∀ phase cause (f : State → State),
      Host.Outcome.next (s.inSession tr k phase cause ok f) = (.next (s.emit (.spdm tr 0x7F [0x05])) : Out') :=
    fun phase cause f => congrArg Host.Outcome.next (State.inSession_refused h ..)
  exact ⟨0x05, congrArg Host.Outcome.next (State.spdmReply_refused h ..), congrArg Host.Outcome.next (if_pos h),
    congrArg Host.Outcome.next (if_pos h), hcert, congrArg Host.Outcome.next (if_pos h), hsession .., hsession .., hsession ..,
    hsession .., congrArg Host.Outcome.next (if_pos h)⟩

section
variable (s : State) (tr : Nat) (hid : s.sec.identity ≠ 2)
include hid

theorem exec_getCertificate_portion (off len : Nat) (h : off < Config.deviceChain.length) :
    ∃ k, k ≤ len ∧ exec (.getCertificate tr 0 off len) s = .next (s.emit (.spdm tr 0x02
      ([0, k, Config.deviceChain.length - off - k] ++ ((Config.deviceChain.drop off).take k).map (·.toNat)))) := by
  have hin : ¬((0 : Nat) ≠ 0 ∨ Config.deviceChain.length ≤ off) := by omega
  refine ⟨min (min len (Config.deviceChain.length - off)) ((if tr = 2 then 1024 else 4096) - 8), by omega, ?_⟩
  rw [exec_getCertificate, execGetCertificate]
  dsimp only
  rw [if_neg hin, State.spdmReply_answered hid]

theorem exec_getCertificate_otherSlot (off len : Nat) {c : Nat} (h : c ≠ 0) :
    exec (.getCertificate tr c off len) s = .next (s.emit (.spdm tr 0x7F [0x01])) := by
  rw [exec_getCertificate, execGetCertificate]
  dsimp only
  rw [if_pos (Or.inl h), if_neg hid]
  rfl

theorem exec_challenge_answers : ∃ t, exec (.challenge tr 0) s = .next t ∧ ∃ nonce sig, t.out = s.out ++ [.spdm tr 0x03
    (0 :: hashWords (Config.sha384 Config.deviceChain) ++ [nonce] ++ sig)] := by
  rw [exec_challenge, execChallenge, if_neg hid, if_neg (by decide)]
  exact ⟨_, rfl, _, _, rfl⟩

theorem exec_getMeasurements_count : ∃ t, exec (.getMeasurements tr 0 false) s = .next t ∧ t.out = s.out ++ [.spdm tr 0x60 [22]] := by
  rw [exec_getMeasurements, execGetMeasurements, if_neg hid]
  exact ⟨_, rfl, rfl⟩

theorem exec_getMeasurements_block {i : Nat} (h1 : 1 ≤ i) (h22 : i ≤ 22) : ∃ t, exec (.getMeasurements tr i false) s = .next t ∧
    t.out = s.out ++ [.spdm tr 0x60 (i :: s.measure i)] := by
  have h0 : i ≠ 0 := by omega
  have hall : i ≠ 0xFF := by omega
  rw [exec_getMeasurements, execGetMeasurements, if_neg hid]
  dsimp only
  rw [if_neg h0, if_neg hall, if_pos h22]
  exact ⟨_, rfl, by simp⟩

/-! ### Sessions (R597) -/

/-- KEY_EXCHANGE opens the lowest free session. -/
theorem exec_keyExchange_opens {k : Nat} (hk : k < 4) (hfree : (s.sec.sessions.get k).phase = 0)
    (hlower : ∀ j, j < k → (s.sec.sessions.get j).phase ≠ 0) :
    ∃ t, exec (.keyExchange tr) s = .next t ∧ (t.sec.sessions.get k).phase = 1 ∧ (t.sec.sessions.get k).transport = tr ∧
      (t.sec.sessions.get k).owner = none ∧ ∀ j, j ≠ k → t.sec.sessions.get j = s.sec.sessions.get j := by
  have hfind : (List.range 4).find? (fun k => (s.sec.sessions.get k).phase == 0) = some k := by
    rw [List.find?_range_eq_some]
    exact ⟨by simp [hfree], List.mem_range.mpr hk, fun j hj => by simp [hlower j hj]⟩
  rw [exec_keyExchange, execKeyExchange, if_neg hid, hfind]
  refine ⟨_, rfl, ?_⟩
  dsimp only
  rw [State.emit_sec, State.draw_sec]
  refine ⟨?_, ?_, ?_, fun j hj => Map.get_upd_ne _ _ hj⟩ <;> exact congrArg _ (Map.get_upd_self ..)

theorem exec_keyExchange_full (h : ∀ j, j < 4 → (s.sec.sessions.get j).phase ≠ 0) :
    ∃ t, exec (.keyExchange tr) s = .next t ∧ t.sec = s.sec := by
  have hnone : (List.range 4).find? (fun k => (s.sec.sessions.get k).phase == 0) = none := by
    rw [List.find?_eq_none]
    intro j hj
    simpa using h j (List.mem_range.mp hj)
  rw [exec_keyExchange, execKeyExchange, if_neg hid, hnone]
  exact ⟨_, rfl, rfl⟩

/-- A request in a session of its phase and transport, whose verification or decryption succeeds or fails. -/
theorem exec_sessionRequests {k : Nat} :
    (s.sessionIs tr k 1 = true → ∃ t, exec (.finish tr k true) s = .next t ∧
      t.sec.sessions.get k = { s.sec.sessions.get k with phase := 2 } ∧ ∀ j, j ≠ k → t.sec.sessions.get j = s.sec.sessions.get j) ∧
    (s.sessionIs tr k 2 = true → (∃ t, exec (.heartbeat tr k true) s = .next t ∧ t.sec = s.sec) ∧
      (∃ t, exec (.keyUpdate tr k true) s = .next t ∧
        t.sec.sessions.get k = { s.sec.sessions.get k with keys := (s.sec.sessions.get k).keys + 1 }) ∧
      (∃ t, exec (.endSession tr k true) s = .next t ∧ t.sec.sessions.get k = {}) ∧
      ∃ t, exec (.heartbeat tr k false) s = .next t ∧ exec (.keyUpdate tr k false) s = .next t ∧
        exec (.endSession tr k false) s = .next t ∧ t.sec.sessions.get k = {}) ∧
    (s.sessionIs tr k 1 = true → ∃ t, exec (.finish tr k false) s = .next t ∧ t.sec.sessions.get k = {}) := by
  refine ⟨fun h => ?_, fun h => ⟨?_, ?_, ?_, ?_⟩, fun h => ?_⟩
  · exact ⟨_, congrArg Host.Outcome.next (State.inSession_done hid 0 _ h), Map.get_upd_self .., fun j hj => Map.get_upd_ne _ _ hj⟩
  · exact ⟨_, congrArg Host.Outcome.next (State.inSession_done hid 1 _ h), rfl⟩
  · exact ⟨_, congrArg Host.Outcome.next (State.inSession_done hid 1 _ h), Map.get_upd_self ..⟩
  · exact ⟨_, congrArg Host.Outcome.next (State.inSession_done hid 1 _ h), Map.get_upd_self ..⟩
  · exact ⟨_, congrArg Host.Outcome.next (State.inSession_fails hid 1 _ h), congrArg Host.Outcome.next (State.inSession_fails hid 1 _ h),
      congrArg Host.Outcome.next (State.inSession_fails hid 1 _ h), State.sessionFail_session ..⟩
  · exact ⟨_, congrArg Host.Outcome.next (State.inSession_fails hid 0 _ h), State.sessionFail_session ..⟩

/-- A request in a session of another phase or transport changes no session. -/
theorem exec_sessionRequests_other {k : Nat} (ok : Bool) :
    (s.sessionIs tr k 1 = false → ∃ t, exec (.finish tr k ok) s = .next t ∧ t.sec = s.sec) ∧
    (s.sessionIs tr k 2 = false → ∃ t, exec (.heartbeat tr k ok) s = .next t ∧ exec (.keyUpdate tr k ok) s = .next t ∧
      exec (.endSession tr k ok) s = .next t ∧ t.sec = s.sec) :=
  ⟨fun h => ⟨_, congrArg Host.Outcome.next (State.inSession_other hid 0 _ ok h), rfl⟩,
    fun h => ⟨_, congrArg Host.Outcome.next (State.inSession_other hid 1 _ ok h),
      congrArg Host.Outcome.next (State.inSession_other hid 1 _ ok h),
      congrArg Host.Outcome.next (State.inSession_other hid 1 _ ok h), rfl⟩⟩

end

/-- Settles O59, request by request. -/
theorem securitySessions : Obligations.SecuritySessions := by
  refine ⟨fun s tr => ⟨⟨_, rfl⟩, ⟨_, rfl⟩, ⟨_, rfl⟩⟩,
    fun s tr k code off len sg ok h => exec_spdm_refused s tr k code off len sg ok h,
    fun s tr off len hid => ⟨⟨_, congrArg Host.Outcome.next (State.spdmReply_answered hid ..)⟩,
      fun hoff => exec_getCertificate_portion s tr hid off len hoff, fun c hc => ⟨_, exec_getCertificate_otherSlot s tr hid off len hc⟩,
      exec_challenge_answers s tr hid, exec_getMeasurements_count s tr hid, fun i h1 h22 => exec_getMeasurements_block s tr hid h1 h22,
      fun code => ⟨_, congrArg Host.Outcome.next (if_neg hid)⟩⟩,
    fun s tr hid => ⟨fun k hk hfree hlower => exec_keyExchange_opens s tr hid hk hfree hlower, fun h => exec_keyExchange_full s tr hid h⟩,
    fun s tr k hid => ?_⟩
  obtain ⟨hfinish, hsecure, hfails⟩ := exec_sessionRequests s tr hid (k := k)
  exact ⟨hfinish, hsecure, hfails, fun ok => (exec_sessionRequests_other s tr hid ok).1,
    fun ok => (exec_sessionRequests_other s tr hid ok).2⟩

end Sys2Proof.Machine
end

section
/-!
Enrolment, owners, weight keys, debug unlocking and the test port (21, R599-R609, R624).
-/
namespace Sys2Proof.Machine
open Sys2Proof Sys2Proof.Claims

/-! ### Vendor requests -/

/-- A vendor response is output alone. -/
theorem State.vendor_sec (s : State) (tr status : Nat) (more : List Nat) : (s.vendor tr status more).sec = s.sec := by
  rw [State.vendor, State.spdmReply]
  split <;> rfl

theorem State.vendor_weightKeys (s : State) (tr status : Nat) (more : List Nat) : (s.vendor tr status more).weightKeys = s.weightKeys := by
  rw [State.vendor, State.spdmReply]
  split <;> rfl

/-- Outside a secure session each vendor request is answered alike. -/
theorem exec_vendor_unsecured (s : State) (tr n k : Nat) (ss : Option Nat) (hs : List (BitVec 384)) (key sig : List Byte) (wk : BitVec 512)
    (h : s.secure tr ss = false) : ∃ t, t.sec = s.sec ∧ t.weightKeys = s.weightKeys ∧ exec (.enrol tr ss n hs) s = .next t ∧
      exec (.ownerProve tr ss k key sig) s = .next t ∧ exec (.revoke tr ss k) s = .next t ∧
      exec (.setWeightKey tr ss k wk) s = .next t ∧
      exec (.clearWeightKey tr ss k) s = .next t := by
  have hout : (!s.secure tr ss) = true := by rw [h]; rfl
  have hprove : exec (.ownerProve tr ss k key sig) s = .next (s.vendor tr 0x09 []) := by
    cases ss with
    | none => rfl
    | some j => simp only [exec_ownerProve, execOwnerProve, h]
  exact ⟨s.vendor tr 0x09 [], State.vendor_sec .., State.vendor_weightKeys .., congrArg Host.Outcome.next (if_pos hout), hprove,
    congrArg Host.Outcome.next (if_pos hout), congrArg Host.Outcome.next (if_pos hout), congrArg Host.Outcome.next (if_pos hout)⟩

/-- ENROL starts fusing the first unused bank (R600). -/
theorem exec_enrol_starts (s : State) (tr : Nat) (ss : Option Nat) (hs : List (BitVec 384)) (hsec : s.secure tr ss = true)
    (h1 : 1 ≤ hs.length) (h4 : hs.length ≤ 4) (hst1 : s.enrolState ≠ 1) (hst2 : s.enrolState ≠ 2) (hnone : s.sec.enrol = none) :
    ∃ t b, exec (.enrol tr ss hs.length hs) s = .next t ∧
      t.sec.enrol = some { bank := b, hashes := hs, transport := tr } ∧ (t.sec.banks.get b).blown = true ∧
      b = (if (s.sec.banks.get 0).spent then 1 else 0) := by
  have hcount : ¬(hs.length = 0 ∨ 4 < hs.length ∨ hs.length ≠ hs.length) := by omega
  have hidle : ¬(s.sec.enrol.isSome = true) := by simp [hnone]
  have hsecure : ¬((!s.secure tr ss) = true) := by simp [hsec]
  rw [exec_enrol, execEnrol, State.enrolStart, if_neg hsecure, if_neg hcount, if_neg hst1, if_neg hidle, if_neg hst2]
  refine ⟨_, _, rfl, rfl, ?_, rfl⟩
  exact congrArg OwnerBank.blown (Map.get_upd_self ..)

/-- The hashes of a list stored by slot from slot j on. -/
theorem get_foldl_zipIdx_put (hs : List (BitVec 384)) (j : Nat) (m : Map (BitVec 384)) (i : Nat) :
    ((hs.zipIdx j).foldl (fun (m : Map (BitVec 384)) p => m.put p.2 p.1) m).get i =
      if j ≤ i then (hs[i - j]?).getD (m.get i) else m.get i := by
  induction hs generalizing j m with
  | nil => simp
  | cons h hs ih =>
    rw [List.zipIdx_cons, List.foldl_cons, ih, Map.get_put]
    rcases Nat.lt_trichotomy i j with hlt | heq | hgt
    · rw [if_neg (by omega), if_neg (by omega), if_neg (by omega)]
    · subst heq
      rw [if_neg (by omega), if_pos rfl, if_pos (Nat.le_refl i), Nat.sub_self]
      rfl
    · have hnext : i - j = i - (j + 1) + 1 := by omega
      rw [if_pos (by omega), if_neg (by omega), if_pos (by omega), hnext, List.getElem?_cons_succ]

theorem exec_enrolComplete_commits (s : State) (e : Enrol) (h : s.sec.enrol = some e) : ∃ t, exec .enrolComplete s = .next t ∧
    t.sec.enrol = none ∧ (t.sec.banks.get e.bank).commit = true ∧ (t.sec.banks.get e.bank).valid = 2 ^ e.hashes.length - 1 ∧
    ∀ i h, e.hashes[i]? = some h → (t.sec.banks.get e.bank).hashes.get i = h := by
  rw [exec_enrolComplete, execEnrolComplete, h]
  refine ⟨_, rfl, ?_⟩
  rw [State.vendor_sec, State.logEvent_sec]
  dsimp only
  rw [Map.get_upd_self]
  refine ⟨rfl, rfl, rfl, fun i h hi => ?_⟩
  rw [get_foldl_zipIdx_put, if_pos (Nat.zero_le i), Nat.sub_zero, hi, Option.getD_some]

/-! ### Owners (R601, R602) -/

/-- OWNER_PROVE with a valid owner's key: a good signature proves the session, and another clears it. -/
theorem exec_ownerProve_decides (s : State) (tr k slot : Nat) (key sig : List Byte) (hsec : s.secure tr (some k) = true) (hslot : slot < 4)
    (hkey : key.length = 96) (hsig : sig.length = 96) (hok : s.ownerKeyOk slot key = true) :
    ∃ t, exec (.ownerProve tr (some k) slot key sig) s = .next t ∧
      (Config.ecdsaVerify key sig (Config.sha384 (ownerTag ++ (leBytes 48 (s.sec.sessions.get k).th1.toNat).reverse)) = true →
        t.sec.sessions.get k = { s.sec.sessions.get k with owner := some slot }) ∧
      (Config.ecdsaVerify key sig (Config.sha384 (ownerTag ++ (leBytes 48 (s.sec.sessions.get k).th1.toNat).reverse)) = false →
        t.sec.sessions.get k = {}) := by
  have hform : ¬(4 ≤ slot ∨ key.length ≠ 96 ∨ sig.length ≠ 96) := by omega
  have hvalid : ¬((!s.ownerKeyOk slot key) = true) := by simp [hok]
  simp only [exec_ownerProve, execOwnerProve, hsec]
  rw [if_neg hform, if_neg hvalid]
  refine ⟨_, rfl, fun hgood => ?_, fun hbad => ?_⟩
  · rw [if_pos hgood, State.vendor_sec]
    exact Map.get_upd_self ..
  · rw [if_neg (by rw [hbad]; exact Bool.false_ne_true), State.sessionFail_session]

/-- A session proven with the owner slot that is revoked is proven no longer. -/
def Session.unproven (slot : Nat) (x : Session) : Session := if x.owner = some slot then { x with owner := none } else x

theorem Session.unproven_owner (slot : Nat) (x : Session) : (x.unproven slot).owner ≠ some slot := by
  rw [Session.unproven]
  split
  · simp
  · assumption

section
variable (s : State) {tr k o slot : Nat} (hsec : s.secure tr (some k) = true) (howner : (s.sec.sessions.get k).owner = some o)
include hsec howner

theorem exec_revoke_revokes (hslot : slot < 4) (hne : o ≠ slot) (hlive : bit s.sec.revoked slot = false)
    (hlast : s.ownerKeys.map (·.1) ≠ [slot]) : ∃ t, exec (.revoke tr (some k) slot) s = .next t ∧
      t.sec.revoked = s.sec.revoked + 2 ^ slot ∧ ∀ j, (t.sec.sessions.get j).owner ≠ some slot := by
  have hsecure : ¬((!s.secure tr (some k)) = true) := by simp [hsec]
  have hwho : s.sessionOwner (some k) = some o := howner
  have hgo : ¬(bit s.sec.revoked slot = true ∨ s.ownerKeys.map (·.1) = [slot]) := by simp [hlive, hlast]
  rw [exec_revoke, execRevoke, if_neg hsecure, if_neg (by omega), hwho]
  dsimp only
  rw [if_neg hne, if_neg hgo]
  refine ⟨_, rfl, ?_⟩
  rw [State.vendor_sec]
  exact ⟨rfl, fun j => Map.get_mapVals_of_forall (P := fun x : Session => x.owner ≠ some slot) (f := fun _ => Session.unproven slot)
    (show (none : Option Nat) ≠ some slot from nofun) (fun _ x => x.unproven_owner slot) s.sec.sessions j⟩

/-! ### Weight keys (R603, R604) -/

theorem exec_setWeightKey_stores (wk : BitVec 512) (hslot : slot < 64) (hidle : s.keyInUse slot = false) :
    ∃ t, exec (.setWeightKey tr (some k) slot wk) s = .next t ∧ t.weightKeys.get slot = some wk ∧
      ∀ j, j ≠ slot → t.weightKeys.get j = s.weightKeys.get j := by
  have hsecure : ¬((!s.secure tr (some k)) = true) := by simp [hsec]
  have hwho : s.sessionOwner (some k) = some o := howner
  rw [exec_setWeightKey, execSetWeightKey, if_neg hsecure, if_neg (by omega), hwho, if_neg (by simp),
    if_neg (by rw [hidle]; exact Bool.false_ne_true)]
  refine ⟨_, rfl, ?_⟩
  rw [State.vendor_weightKeys, State.logEvent_weightKeys]
  exact ⟨Map.get_put_self .., fun j hj => Map.get_put_ne _ _ hj⟩

/-- CLEAR_WEIGHT_KEY empties the slot, or all for 0xFF. -/
theorem exec_clearWeightKey_clears (hslot : slot < 64 ∨ slot = 0xFF) : ∃ t, exec (.clearWeightKey tr (some k) slot) s = .next t ∧
    t.weightKeys = if slot = 0xFF then {} else s.weightKeys.put slot none := by
  have hsecure : ¬((!s.secure tr (some k)) = true) := by simp [hsec]
  have hwho : s.sessionOwner (some k) = some o := howner
  rw [exec_clearWeightKey, execClearWeightKey, if_neg hsecure, if_neg (by omega), hwho, if_neg (by simp)]
  refine ⟨_, rfl, ?_⟩
  rw [State.vendor_weightKeys, State.logEvent_weightKeys]

end

/-! ### Debug unlocking (R607-R609) -/

theorem exec_debugUnlock_verifies (s : State) (src : Nat) (tok : List Byte) (hlen : tok.length = 200) (hnone : s.sec.verifying = none)
    (hid : s.sec.identity = 2 → src < 3) :
    exec (.debugUnlock src tok) s = .next { s with sec := { s.sec with verifying := some (tok, src) } } := by
  have hanswer : ¬(s.sec.identity = 2 ∧ 3 ≤ src) := fun h => absurd (hid h.1) (by omega)
  have hidle : ¬(s.sec.verifying.isSome = true) := by simp [hnone]
  rw [exec_debugUnlock, execDebugUnlock, State.unlockSubmit, if_neg hanswer, if_neg hidle, if_neg (by omega)]

/-- The answer to a submission is kept as the status, and is output. -/
theorem State.unlockAnswer_sec (s : State) (source status : Nat) :
    (s.unlockAnswer source status).sec = { s.sec with unlockStatus := status } := by
  rw [State.unlockAnswer]
  dsimp only
  split
  · exact State.vendor_sec ..
  · rfl

/-- The state once a token has been verified, before a fresh nonce is taken and the answer is given. -/
def State.unlockDecided (s : State) (tok : List Byte) (source : Nat) : State :=
  let st := s.unlockCheck tok
  let s := { s with sec := { s.sec with verifying := none } }
  if st = 0 then
    let s := { s with sec := { s.sec with scopes := s.sec.scopes ||| leField tok 4 1, refusals := 0 } }
    s.logEvent 0x1E03 [(1, leField tok 4 1), (1, leField tok 3 1), (1, source)]
  else
    let s := (s.count Reg.SEC_UNLOCK_FAIL).logEvent 0x7E02 [(1, st), (1, leField tok 3 1), (1, source)]
    let n := min 3 (s.sec.refusals + 1)
    { s with sec := { s.sec with
      refusals := n, lockout := if n = 3 ∧ s.sec.lockout.isNone then some (s.time + 60 * 10 ^ 9) else s.sec.lockout } }

theorem State.unlockDecided_opens {s : State} {tok : List Byte} (source : Nat) (h : s.unlockCheck tok = 0) :
    (s.unlockDecided tok source).sec =
      { s.sec with verifying := none, scopes := s.sec.scopes ||| leField tok 4 1, refusals := 0 } := by
  rw [State.unlockDecided, if_pos h, State.logEvent_sec]

theorem State.unlockDecided_refuses {s : State} {tok : List Byte} (source : Nat) (h : s.unlockCheck tok ≠ 0) :
    (s.unlockDecided tok source).sec = { s.sec with
      verifying := none, refusals := min 3 (s.sec.refusals + 1)
      lockout := if min 3 (s.sec.refusals + 1) = 3 ∧ s.sec.lockout.isNone then some (s.time + 60 * 10 ^ 9) else s.sec.lockout } := by
  rw [State.unlockDecided, if_neg h]
  dsimp only
  rw [State.logEvent_sec, State.logEvent_time]
  rfl

theorem exec_unlockVerifyComplete_decides {s : State} {tok : List Byte} {src : Nat} (h : s.sec.verifying = some (tok, src)) :
    exec .unlockVerifyComplete s = .next ((s.unlockDecided tok src).renewNonce.unlockAnswer src (s.unlockCheck tok)) := by
  rw [exec_unlockVerifyComplete, execUnlockVerifyComplete, h]
  rfl

theorem exec_unlockVerifyComplete_ends (s : State) (src : Nat) (tok : List Byte) (h : s.sec.verifying = some (tok, src)) :
    ∃ t, exec .unlockVerifyComplete s = .next t ∧ t.sec.verifying = none ∧ t.sec.unlockStatus = s.unlockCheck tok ∧
      (s.unlockCheck tok = 0 → t.sec.scopes = s.sec.scopes ||| leField tok 4 1 ∧ t.sec.refusals = 0 ∧ t.sec.lockout = s.sec.lockout) ∧
      (s.unlockCheck tok ≠ 0 → t.sec.scopes = s.sec.scopes ∧ t.sec.refusals = min 3 (s.sec.refusals + 1) ∧
        (s.sec.refusals = 2 → s.sec.lockout = none → t.sec.lockout = some (s.time + 60000000000))) := by
  refine ⟨_, exec_unlockVerifyComplete_decides h, ?_⟩
  rw [State.unlockAnswer_sec]
  dsimp only [State.renewNonce]
  by_cases hok : s.unlockCheck tok = 0
  · rw [State.unlockDecided_opens src hok]
    exact ⟨rfl, rfl, fun _ => ⟨rfl, rfl, rfl⟩, fun hno => absurd hok hno⟩
  · rw [State.unlockDecided_refuses src hok]
    refine ⟨rfl, rfl, fun hyes => absurd hyes hok, fun _ => ⟨rfl, rfl, fun h2 hnone => ?_⟩⟩
    simp [h2, hnone]

/-! ### The test port (R624) -/

/-- Bit 0 of the word that IDCODE shifts out is 1. -/
theorem exec_idcode_word (s : State) : ∃ v, exec .idcode s = .next { s with tapIr := 0, out := s.out ++ [.tap v] } ∧ bit v 0 = true := by
  refine ⟨_, rfl, ?_⟩
  simp only [bit, fld, Nat.pow_zero, Nat.div_one, beq_iff_eq]
  omega

/-- Settles O60, request by request. -/
theorem ownersDebugAndTestPort : Obligations.OwnersDebugAndTestPort := by
  refine ⟨fun s tr n k ss hs key sig wk h => exec_vendor_unsecured s tr n k ss hs key sig wk h,
    fun s tr ss hs hsec h1 h4 hst1 hst2 hnone => exec_enrol_starts s tr ss hs hsec h1 h4 hst1 hst2 hnone,
    fun s => ⟨fun hnone => ?_, fun e h => exec_enrolComplete_commits s e h⟩,
    fun s tr k slot key sig hsec hslot hkey hsig hok => exec_ownerProve_decides s tr k slot key sig hsec hslot hkey hsig hok,
    fun s tr k o slot wk hsec howner =>
      ⟨fun hslot hne hlive hlast => exec_revoke_revokes s hsec howner hslot hne hlive hlast,
        fun hslot hidle => exec_setWeightKey_stores s hsec howner wk hslot hidle, fun hslot => ?_, ?_⟩,
    fun s src tok hlen hnone hid => exec_debugUnlock_verifies s src tok hlen hnone hid,
    fun s src tok h => exec_unlockVerifyComplete_ends s src tok h,
    fun s => ⟨rfl, rfl, _, rfl, Nat.mod_lt _ (Nat.two_pow_pos 64), rfl⟩,
    fun s pins pre => ⟨exec_idcode_word s, rfl, rfl, fun h => ?_, fun h => ?_⟩⟩
  · rw [exec_enrolComplete, execEnrolComplete, hnone]
  · obtain ⟨t, hstep, hkeys⟩ := exec_clearWeightKey_clears s hsec howner (Or.inl hslot)
    rw [if_neg (by omega)] at hkeys
    exact ⟨t, hstep, hkeys ▸ Map.get_put_self .., fun j hj => hkeys ▸ Map.get_put_ne _ _ hj⟩
  · obtain ⟨t, hstep, hkeys⟩ := exec_clearWeightKey_clears s hsec howner (slot := 0xFF) (Or.inr rfl)
    rw [if_pos rfl] at hkeys
    exact ⟨t, hstep, fun j => hkeys ▸ rfl⟩
  · exact ⟨congrArg Host.Outcome.next (if_pos h), congrArg Host.Outcome.next (if_pos h)⟩
  · have hclosed : ¬(s.debugOpen 1 = true) := by simp [h]
    exact ⟨congrArg Host.Outcome.next (if_neg hclosed), congrArg Host.Outcome.next (if_neg hclosed)⟩

end Sys2Proof.Machine
end
